-- ==== Sys2Proof/Word.lean ====
section
/-! DEFINITION. The word types of the C113 model: bytes, 32-bit and 64-bit words, and byte strings. -/

namespace Sys2Proof

/-- One byte (00_scope R7: structures are strings of bytes, least significant first). -/
abbrev Byte := BitVec 8

/-- A 32-bit word: hardware registers and wrapping 32-bit counters. -/
abbrev Word := BitVec 32

/-- A 64-bit word: device time (R260) and the 64-bit counters (R74, R142). -/
abbrev Word64 := BitVec 64

/-- A byte string in natural order (R8), or a little-endian structure (R7). -/
abbrev Bytes := List Byte

end Sys2Proof
end

