-- ==== Sys2Proof/Syntax.lean ====
section
/-! DEFINITION. The commands of the block: one constructor of `Instr` per row of spec/opcode_table.json, with the operand
types they need. The table gives the rows no bits and no fields, so the operands are the model's: what the environment
hands over at the event (a word on the side-band port, a packet, converter codes, a measured time). -/

namespace Sys2Proof

/-- The wake sources of R192; for the wake pin, the GP pin and the direction of its edge. -/
inductive WakeSource where
  | csFall
  | wakePin (pin : Nat) (falling : Bool)
  | wakeTime
  deriving DecidableEq, Repr

/-- A storage node of a pixel (R33). -/
inductive Node where
  | a | b
  deriving DecidableEq, Repr

/-- The edges a time-island comparator launches (R15, R36, R51, R54, R73). `k` is the slice. -/
inductive Edge where
  /-- T0, with the time the timestamp unit measures (R57). -/
  | t0 (measured : Word64)
  | dgFall (profile k : Nat) (node : Node)
  | transferRise (profile k : Nat) (node : Node)
  | transferFall (profile k : Nat) (node : Node)
  | mergeRise (profile : Nat)
  | mergeFall (profile : Nat)
  /-- Tx, the capture's close instant (R56). -/
  | close
  deriving DecidableEq, Repr

/-- The reset and signal codes one converter digitises for one conversion (R81). -/
structure RawSample where
  reset : BitVec 14
  signal : BitVec 14
  deriving DecidableEq, Repr

/-- Three raw reads of an OTP item: normal reference, margin-low, margin-high (R340). For a word each read is its 39 cells,
cell 0 in bit 0; for a unit each read is its 3 cells. -/
structure OtpReads where
  normal : Nat
  low : Nat
  high : Nat
  deriving DecidableEq, Repr

/-- An OTP item: a word of the ECC region or a unit of the counter region (R336, R339). -/
inductive OtpItem where
  | word (w : Nat)
  | unit (u : Nat)
  deriving DecidableEq, Repr

/-- The retained records under R182, by name. -/
inductive RecordName where
  | par (id : Nat)
  | operator (slot : Nat)
  | installer (slot : Nat)
  | coef (channel : Nat)
  | pll (key : Nat)
  | maker | cert | colTable | defectTable | dcgRatio | fwStatus | activation | power | ctl | reset | counts | exportMark
  | transition | journal
  deriving DecidableEq, Repr

/-- The writes of a commit: steps 2, 5 and 6 of R172. -/
inductive CommitStep where
  | stage | slot | anchor
  deriving DecidableEq, Repr

/-- An entry that the message CTL has before it or the boot is about to commit: the how manyth of its entries it is, and the entropy
the message takes, if it takes any (R335). -/
structure EntryInHand where
  index : Nat := 0
  entropy : Bytes := []
  deriving DecidableEq, Repr

/-- What a loss of power cuts short in NVS (R172, R182): nothing, a write of one copy of a record, or a step of a commit, with the
bytes it leaves in the staging buffer, the slot or the anchor copy being written: of the oldest entry requested, or of the one in
hand. -/
inductive NvsCut where
  | none
  | record (name : RecordName)
  | stage (bytes : Bytes)
  | slot (bytes : Bytes)
  | anchor (bytes : Bytes)
  | inHand (entry : EntryInHand) (step : CommitStep) (bytes : Bytes)
  deriving DecidableEq, Repr

/-- The cut as one of its step alone. -/
def CommitStep.cut (x : CommitStep) (b : Bytes) : NvsCut :=
  match x with
  | .stage => .stage b
  | .slot => .slot b
  | .anchor => .anchor b

/-- What a loss of power leaves behind it: how the OTP item being programmed reads afterwards (R349), if one was, what it cuts short
in NVS, and the level TEST_MODE has then (R348). -/
structure PowerLoss where
  torn : OtpReads
  cut : NvsCut := .none
  testMode : Bool := false
  deriving DecidableEq, Repr

/-- What the environment settles at a boot: the stage it runs on to (R351, stage 6 is the last), the results of the SEA self-tests
(R155), and what NVS has lost since it was written: bytes that read otherwise, and records both copies of which fail (R182, R311,
R363). -/
structure BootEnv where
  /-- Bit i: strip engine i passed. -/
  engines : Word
  tree : Bool
  derivation : Bool
  signing : Bool
  decay : List Host.Cell := []
  failed : List RecordName := []
  stage : Nat := 6
  /-- The level of TEST_MODE while SUP is at stage 0x00 (R348). -/
  testMode : Bool := false
  deriving DecidableEq, Repr

/-- The two lane synthesisers (R255). -/
inductive Synth where
  | forward | return
  deriving DecidableEq, Repr

/-- The 57 boundary cells (R446): input, output and output-enable cells of GP0 to GP15, input cells of five lands, output and enable
cells of two. -/
structure BoundaryCells where
  gpIn : BitVec 16 := 0
  gpOut : BitVec 16 := 0
  gpEn : BitVec 16 := 0
  sck : Bool := false
  csN : Bool := false
  sdi : Bool := false
  rstN : Bool := false
  pfailN : Bool := false
  sdo : Bool := false
  sdoEn : Bool := false
  irqN : Bool := false
  irqEn : Bool := false
  deriving DecidableEq, Repr

/-- One scan of the boundary register (R445, R446). -/
structure BoundaryScan where
  /-- The scan is made with the instruction in force left as it is, which for EXTEST is its test. -/
  test : Bool := false
  /-- What the captured cells find where the device does not say: the inputs of lands that nothing drives, and output cells of lands
  that are not enabled. -/
  seen : BoundaryCells := {}
  /-- The bit of its word at which CTL_SDO stands, in the order sent. -/
  sdoBit : Nat := 0
  /-- The cells loaded. -/
  cells : BoundaryCells := {}
  deriving DecidableEq, Repr

/-- The rails with a closing minimum (R188, R454). -/
inductive Rail where
  | vddc | vddnv | vddaon | vddio | vddl | vddlh
  deriving DecidableEq, Repr

/-- A request for lock from a stored result: its synthesiser, and the die temperature in °C (R256, R257). -/
structure StoredLock where
  synth : Synth
  temp : Int
  deriving DecidableEq, Repr

/-- A line absorbed: its view, and the strip of the view's frame, counted from 0, whose engine took it (R134). -/
structure AbsorbedLine where
  view : Nat
  strip : Nat
  deriving DecidableEq, Repr

/-- A PPS edge (R263): its measured time, its direction, and how long in ns the level it leads to lasts. -/
structure PpsPulse where
  m : Word64
  falling : Bool
  active : Nat
  deriving DecidableEq, Repr

/-- A rail's fall in a closing run, what VDDNV below 1.00 V cuts short (R454), and whether VDDIO falls below 1.2 V (R429). -/
structure RailFall where
  rail : Rail
  cut : NvsCut := .none
  padsOff : Bool := false
  deriving DecidableEq, Repr

/-- What one pace monitor brings at an update (R21, R452): its replica-ring rate scaled by the factor in force, and the true
capacity of its pipeline. -/
structure PaceRing where
  scaled : Nat
  capacity : Nat
  deriving DecidableEq, Repr

/-- What a debugger does through the TAP under an unlock (R347): the debug functions are halt, step, CTL memory and the
subsystem registers; `resume` ends a halt (R373). Memory and registers are 32-bit words by their address. -/
inductive DebugAct where
  | halt | resume | step
  | readMemory (addr : Word)
  | writeMemory (addr value : Word)
  | readRegister (addr : Word)
  | writeRegister (addr value : Word)
  deriving DecidableEq, Repr

/-- The commands of the block, in the order of the opcode table. -/
inductive Instr where
  /-- VDDAON below 0.70 V for 1 µs (R190). -/
  | powerOnReset (loss : PowerLoss)
  | resetRelease
  | boot (env : BootEnv)
  | pfailFall
  | pfailRise
  | pfailRecognition
  /-- `rails`: the rails that fired, coded as POWER.DROOP_LAST (R208). -/
  | droopDetect (rails : BitVec 4)
  | thermalTrip
  | offHoldRelease
  | thermalRelease
  | rstNAssert
  | standbyEntry
  | wake (source : WakeSource)
  | domainPowerUpDone (domain : Nat)
  | quadrantFlushDone (quadrant : Nat)
  | segmentPowerUpDone (segment : Nat)
  /-- `estimates`: the ten replica-ring capacity estimates in the units of R17 (per second), as SUP measures them (R21, R452). -/
  | paceVerdictUpdate (rings : List PaceRing)
  | replicaRingStall (monitor : Nat)
  | scheduledStart
  | triggerDetect
  | comparatorEdge (edge : Edge)
  | rowquadRelease
  /-- `samples`: the codes of every converted column of bank `bank`, in ascending total column (R79, R81). -/
  | conversionDelivered (bank : Nat) (samples : List RawSample)
  | rowquadAligned
  | viewLinePacked (view : Nat)
  | lineAbsorbed (line : AbsorbedLine)
  | frameRootComplete (view : Nat)
  | nvsCommit
  /-- `ns`: the time the job took (R317 SEAL.SIG_TIME_MAX). -/
  | signJobDone (ns : Nat)
  | blockOperationDone
  | aeStep (profile : Nat)
  /-- `band`, `fine`: the result; `temp`: die temperature in °C at the comparator nearest the lane PLL (R257). -/
  | lanePllLocked (synth : Synth) (band fine : Nat) (temp : Int)
  | storedLockTimeout (lock : StoredLock)
  | lanePllUnlock
  | rlCdrLock
  | rlCdrUnlock
  | rlBlockLock
  | rlBlockLockLoss
  | rlSignalLoss
  | rlSignalRestore
  | refclkLoss
  | refclkRestore
  | timePllUnlock
  | timePllRelock
  /-- The four receiver bytes of a LANE_REPORT (R242). -/
  | laneReport (receivers : List Byte)
  | identTimeout
  | fomRequest
  | fomMonitorRequest
  /-- Round, the four FoM bytes and the lock bits of a FOM_REPORT (R242). -/
  | fomReport (round : Byte) (foms : List Byte) (lock : BitVec 4)
  | fomReportTimeout
  | aligned
  | alignTimeout
  | fixedAlignExpiry
  | retrain
  | downWaitExpiry
  /-- The 544 ten-bit symbols of a received codeword, message symbols first (R229). -/
  | rlCodewordReceive (symbols : List (BitVec 10))
  /-- One whole packet of the return lane, header to CRC (R237). -/
  | rlMsgPacket (packet : Bytes)
  | packetSend
  | markerCodeword
  | ppsEdge (pulse : PpsPulse)
  | ppsTimeout
  | pendingSetTimeout
  | phaseRotationStep
  /-- A frame that begins with another opcode than those of R274, or with an unaligned address (R275, `frameRefused`). -/
  | spiFrameRefused
  | readStatus
  | mailboxWrite (addr : BitVec 16) (value : Word)
  | cmdDoorbell (value : Word)
  | rspAck (value : Word)
  | responsePlace
  | irqStatusClear (value : Word)
  | cmdStatusClear (value : Word)
  | evtRdWrite (value : Word)
  | evtLostRead
  | spiErrorsRead
  | supBufRead
  /-- `lag`: ticks from the command to the snapshot instant, 1 to 3 (R269: 8 ns to 24 ns). -/
  | timeLoRead (lag : Fin 3)
  | capCntLoRead
  | hkcAccLoRead
  | registerWrite (addr : BitVec 16) (value : Word)
  | supReset
  | supClose
  | supTail
  | supRrecord
  | supSnapshot
  | supCmdUnknown (code : Byte)
  | eventRingWrite
  | vermilionRepeat
  | msgUnknown
  /-- `entropy`: 32 bytes from the on-die entropy source (R294). -/
  | msgSessionOpen (entropy : Bytes)
  | msgSessionClose
  | msgNop
  | deviceCertGet
  | deviceCertIdentity
  | deviceCertStore
  | msgAttest
  | msgParamGet
  | msgParamGetSigned
  | msgParamSet
  | msgTableRead
  | msgTableWrite
  | msgViewActivate
  | msgViewStart
  | msgViewStop
  | msgSealCert
  | sealResign
  | msgLedgerRead
  | msgLedgerEpoch
  | msgPowerStandby
  | msgRoleEnrol
  | msgRoleRevoke
  | msgFwLoad
  | msgFwActivate
  | msgFusRead
  | programWord
  | completeGroup
  | lockGroup
  /-- `entropy`: 64 bytes from the on-die entropy source (R344 step 1). -/
  | generateIdentity (entropy : Bytes)
  | installMakerKey
  | msgFusReinforce
  | msgLifecycleAdvance
  | msgDebugUnlock
  | msgDebugRelock
  | msgPinLoad
  | shadeStart
  | shadeHalt
  | shadeResume
  | shadeRestart
  | shadeStop
  | fifoWrite
  | fifoRead
  | hkcCalZero
  | hkcCalFull
  | hkcCalClear
  | wdgRegister (value : Word)
  | wdgCheckin (value : Word)
  | wdgWindowExpiry (slot : Nat)
  | progressMonitorTrip (monitor : Nat)
  | sealFaultResetDelay
  | resetExecute
  /-- `reads`: the item's three raw reads after the programming pulse (R340). -/
  | otpProgramDone (reads : OtpReads)
  /-- `drift`: the items whose cells read otherwise at this re-read than the array held before (R341). -/
  | fusReread (drift : List (OtpItem × OtpReads))
  | statsPinExpiry
  | ledgerRateUpdate
  /-- `comparator`: the hottest thermal comparator in 1/8 °C (R418). -/
  | retentionUpdate (comparator : Int)
  /-- `fom`: the return lane's figure of merit from the device's own eye monitor (R215). -/
  | rlFomUpdate (fom : Byte)
  | triggerArm
  | pinHoldLimit
  /-- `source`: the source in the coding of R68 (R390). -/
  | pinActivityDetect (source : Nat)
  | tintEvaluate (engine : Nat)
  /-- `cycles`: how many of the shift's cycles have passed when the step ends (R396); a whole shift of n bits has 2n + 1. -/
  | shiftOut (seq cycles : Nat)
  /-- `samples`: the data pin's level at the ends of the shift's odd cycles, one for each bit completed (R396). -/
  | shiftIn (seq cycles : Nat) (samples : List Bool)
  | set (seq : Nat)
  | waitPin (seq : Nat)
  | waitPinDone (seq : Nat)
  | waitPinTimeout (seq : Nat)
  | waitTicks (seq : Nat)
  | waitTicksDone (seq : Nat)
  | jump (seq : Nat)
  | pull (seq : Nat)
  | pullUnblock (seq : Nat)
  | push (seq : Nat)
  | pushUnblock (seq : Nat)
  | move (seq : Nat)
  | signal (seq : Nat)
  /-- `input`: V of R407 in nV as the filter sees it, or the sensor's output; `saturated`: the modulator saturated in the
  period. -/
  | hkcPeriodEnd (input : Int) (saturated : Bool)
  | scanTimer
  /-- `ticks`: the width of the pulse measured on the source (R411). -/
  | pulseWidthEvent (ticks : Nat)
  | scanPassStart
  | prioritySequenceStart
  | refSettled
  /-- `input`: the applied input in nV, as the filter sees it (R407, R414). -/
  | calConversionDone (input : Int)
  | extest
  /-- `scan`: one scan of the boundary register, as SAMPLE/PRELOAD or under EXTEST, whose own row only shifts its code in (log 33). -/
  | samplePreload (scan : BoundaryScan)
  | idcode
  | highz
  | clamp
  /-- `code`: the instruction shifted in, 0x1F or a code of no other instruction (R445). -/
  | bypass (code : BitVec 5)
  /-- `code`: 0x10 to 0x1E (R445); `act`: what the debugger does with it (R347 does not say which code does what). -/
  | tapDebug (code : BitVec 5) (act : DebugAct)
  | tapReset
  | wordCutShort
  | bulkWindowWrite (addr : BitVec 16) (value : Word)
  | trstNAssert
  | rstNRelease
  | conditionedLevelChange (pin : Nat) (level : Bool)
  | umberLaneRemoval
  | datapathQuietBound
  | closingRunEnd
  | railBelowClosingMinimum (fall : RailFall)
  | vddnvReturn
  deriving DecidableEq, Repr

end Sys2Proof
end

