-- ==== Sys2Proof/Config.lean ====
section
/-! DEFINITION. What the spec leaves open: opaque constants without a body, so that nothing in Lean can tell their values
(log 2). -/

namespace Sys2Proof.Config

/-- The state in which a forward lane's scrambler, or the descrambler, starts (R231: no seed is exchanged, and none is
stated). -/
opaque scramblerSeed : Nat → BitVec 58

/-- The body length of the IDLE packet LNK sends when nothing is ready (R238: 0 to 2,028; R244 does not say which). -/
opaque idleLength : Nat → Nat

/-- Which of two equally near PPS instants is taken, by the edge's measured time (R265 does not say): the later one, so that
e is negative. -/
opaque laterPps : Word64 → Bool

/-- A mean over no sample at all (R89, R90 state none), by a fresh count. -/
opaque emptyMean : Nat → Int

/-- The linear conversion of a temperature code (R417): its slope and its value at code 0, in 2^-24 of 1/8 °C, by sensor 0 to 3 and
the bytes of the TRIM group, or none when it is not LOCKED. The spec gives the group no layout and the default no numbers. -/
opaque temperatureSlope : Nat → Option Bytes → Int
opaque temperatureAtZero : Nat → Option Bytes → Int

/-- Vref in nV at a tick where `HKC.REF` selects HK_REFIN (1) or VDDA ÷ 1.44 (2): the board's voltage (R408). -/
opaque referenceNv : Nat → Nat → Nat

/-- The responsivity of photodiode 0 or 1 in the calibration region, in 2^-24 of 1/16 lux per code (R417): no layout of the region
holds it, and no command writes it. -/
opaque responsivity : Nat → Nat

/-- The level a SET toggle drives a released pin to (R395 states none), by a fresh count. -/
opaque toggleReleased : Nat → Bool

/-- What `MSG_PARAM_SET` answers as the entry's sequence where no ledger runs and no entry is committed (R313 states none), by a
fresh count. -/
opaque noEntry : Nat → Nat

/-- Whether a node whose conversion is under way has had its signal level sampled (R34, R82: the steps are self-timed, and the spec
bounds them at worst corner only), by a fresh count. -/
opaque nodeSampled : Nat → Bool

/-- The error a command answers when it passed its checks and applying it then fails (R171 names none), less one, by a fresh
count. -/
opaque applyError : Nat → Fin 13

/-- What the debugger reads of CTL's memory, or of a subsystem register the spec does not lay out (R347), by a fresh count. -/
opaque ctlWord : Nat → Word

/-- The 64 bytes of configuration digest a segment of RECONFIG gaps carries when it closes before its generation's activation
completes (R324 forms the digest at completion only), by a fresh count. -/
opaque unformedDigest : Nat → BitVec 512

/-- What the value field of a TORN word reads, by the cells of its normal read (R346: "corrected value", which such a word has
not). -/
opaque tornWord : Nat → Nat

/-- Whether it is the return synthesiser that falls out of lock where both were locked (`LANE_PLL_UNLOCK` names none, R258), by a
fresh count. -/
opaque returnLost : Nat → Bool

/-- Whether, at the end of a closing run after a droop, SUP has seen every monitored rail above its droop threshold for
`POWER.PFAIL_RELEASE` (R204: the rails' levels are the board's), by a fresh count. -/
opaque railsBack : Nat → Bool

/-- What a land of VDDIO is driven to while VDDIO lies below 1.62 V and not below 1.2 V (R454: without a guarantee), by the land's
number and the tick: 0 released, 1 low, else high. -/
opaque weakLand : Nat → Nat → Nat

/-- The word CTL_SDO then carries, by the tick. -/
opaque weakSdo : Nat → Option Word

/-- The part is the monochrome variant (R46, R279: from fuses; R337 does not say which fuse). -/
opaque monochrome : Bool

end Sys2Proof.Config
end

