-- ==== Sys2Proof/Machine/Bytes.lean ====
section
/-! DEFINITION. Byte strings: little-endian fields (R7), slices, and the sparse stores that hold memories and tables in one
canonical form. -/

namespace Sys2Proof.Machine

/-- The `n` bytes of `v`, least significant first (R7). -/
def leBytes : Nat → Nat → Bytes
  | 0, _ => []
  | n + 1, v => BitVec.ofNat 8 v :: leBytes n (v / 256)

/-- The number a little-endian byte string holds (R7). -/
def leNat : Bytes → Nat
  | [] => 0
  | b :: bs => b.toNat + 256 * leNat bs

/-- `n` bytes from offset `o`; bytes past the end are not there. -/
def slice (o n : Nat) (bs : Bytes) : Bytes := (bs.drop o).take n

/-- The little-endian field of `n` bytes at offset `o`. -/
def leAt (o n : Nat) (bs : Bytes) : Nat := leNat (slice o n bs)

/-- `n` bytes of 0. -/
def zeros (n : Nat) : Bytes := List.replicate n 0

/-- `n` bytes of 0xFF. -/
def ones (n : Nat) : Bytes := List.replicate n 0xFF

/-- `bs` cut or padded with 0 to exactly `n` bytes. -/
def padTo (n : Nat) (bs : Bytes) : Bytes := (bs ++ zeros (n - bs.length)).take n

/-- Are all bytes 0 (reserved fields, R9)? -/
def allZero (bs : Bytes) : Bool := bs.all (· == 0)

/-- `src` written over `dst` from offset `o`; what would lie past the end of `dst` is dropped. -/
def overlay (dst : Bytes) (o : Nat) (src : Bytes) : Bytes :=
  (dst.take o ++ src ++ dst.drop (o + src.length)).take dst.length

/-- The bytes of an ASCII tag. -/
def ascii (s : String) : Bytes := s.toList.map fun c => BitVec.ofNat 8 c.toNat

/-- `v` as the low `n` bits of two's complement. -/
def signedField (n : Nat) (v : Int) : Nat := (v % (2 ^ n : Int)).toNat

/-- The signed number the low `n` bits of `v` spell. -/
def toSigned (n v : Nat) : Int :=
  let m := v % 2 ^ n
  if 2 * m < 2 ^ n then (m : Int) else (m : Int) - 2 ^ n

/-- Bit `i` of `v`. -/
def bitOf (v i : Nat) : Bool := v.testBit i

/-- 1 for true, 0 for false. -/
def boolNat (b : Bool) : Nat := if b then 1 else 0

/-- A field of `v`: `n` bits from bit `lo`. -/
def bitsOf (v lo n : Nat) : Nat := v / 2 ^ lo % 2 ^ n

/-- Is `v` from `lo` to `hi`? -/
def within (lo hi v : Nat) : Bool := lo ≤ v && v ≤ hi

/-- The mask with one bit per true element, element 0 in bit 0. -/
def maskOf : List Bool → Nat
  | [] => 0
  | b :: bs => boolNat b + 2 * maskOf bs

/-- Smallest of a list, with a value for the empty list. -/
def minList (d : Nat) (l : List Nat) : Nat := l.foldl min d

/-- Largest of a list, 0 for the empty list. -/
def maxList (l : List Nat) : Nat := l.foldl max 0

/-- Element `i` of a list replaced by `f` of it; past the end nothing changes. -/
def modifyAt {α : Type} (f : α → α) : Nat → List α → List α
  | _, [] => []
  | 0, a :: l => f a :: l
  | n + 1, a :: l => a :: modifyAt f n l

/-- The values of a sparse store: keys strictly rising, no entry that holds the default. -/
abbrev Sparse (α : Type) := List (Nat × α)

/-- What a sparse store holds at key `k`; `d` where nothing is listed. -/
def spGet {α : Type} (d : α) (k : Nat) : Sparse α → α
  | [] => d
  | (k', v) :: rest => if k = k' then v else spGet d k rest

/-- The store with `v` at key `k`, in canonical form with default `d`: writing the default removes the entry. -/
def spSet {α : Type} [DecidableEq α] (d : α) (k : Nat) (v : α) : Sparse α → Sparse α
  | [] => if v = d then [] else [(k, v)]
  | (k', w) :: rest =>
    if k < k' then (if v = d then (k', w) :: rest else (k, v) :: (k', w) :: rest)
    else if k = k' then (if v = d then rest else (k, v) :: rest)
    else (k', w) :: spSet d k v rest

/-- The store without key `k`. -/
def spErase {α : Type} (k : Nat) : Sparse α → Sparse α
  | [] => []
  | (k', w) :: rest => if k = k' then rest else (k', w) :: spErase k rest

/-- What the store lists at key `k`, if anything. -/
def spFind {α : Type} (k : Nat) : Sparse α → Option α
  | [] => none
  | (k', v) :: rest => if k = k' then some v else spFind k rest

/-- The store with `v` listed at key `k`, keys kept rising. -/
def spPut {α : Type} (k : Nat) (v : α) : Sparse α → Sparse α
  | [] => [(k, v)]
  | (k', w) :: rest =>
    if k < k' then (k, v) :: (k', w) :: rest
    else if k = k' then (k, v) :: rest
    else (k', w) :: spPut k v rest

/-- The canonical form of a sparse store with default `d`: keys above `lo`, strictly rising, no default listed. -/
def canonFrom {α : Type} [DecidableEq α] (d : α) : Nat → Sparse α → Bool
  | _, [] => true
  | lo, (k, v) :: rest => decide (lo ≤ k) && decide (v ≠ d) && canonFrom d (k + 1) rest

end Sys2Proof.Machine
end

