-- ==== Sys2Proof/Machine/Crypto.lean ====
section
/-! DEFINITION. The cryptography the spec names: SHA-512 (FIPS 180-4), Ed25519 (RFC 8032: pure, no context, no pre-hash) and
CRC-32. -/

namespace Sys2Proof.Machine

/-- FIPS 180-4: the first 40 round constants of SHA-512. -/
def shaK0 : List Word64 :=
  [0x428A2F98D728AE22, 0x7137449123EF65CD, 0xB5C0FBCFEC4D3B2F, 0xE9B5DBA58189DBBC,
   0x3956C25BF348B538, 0x59F111F1B605D019, 0x923F82A4AF194F9B, 0xAB1C5ED5DA6D8118,
   0xD807AA98A3030242, 0x12835B0145706FBE, 0x243185BE4EE4B28C, 0x550C7DC3D5FFB4E2,
   0x72BE5D74F27B896F, 0x80DEB1FE3B1696B1, 0x9BDC06A725C71235, 0xC19BF174CF692694,
   0xE49B69C19EF14AD2, 0xEFBE4786384F25E3, 0x0FC19DC68B8CD5B5, 0x240CA1CC77AC9C65,
   0x2DE92C6F592B0275, 0x4A7484AA6EA6E483, 0x5CB0A9DCBD41FBD4, 0x76F988DA831153B5,
   0x983E5152EE66DFAB, 0xA831C66D2DB43210, 0xB00327C898FB213F, 0xBF597FC7BEEF0EE4,
   0xC6E00BF33DA88FC2, 0xD5A79147930AA725, 0x06CA6351E003826F, 0x142929670A0E6E70,
   0x27B70A8546D22FFC, 0x2E1B21385C26C926, 0x4D2C6DFC5AC42AED, 0x53380D139D95B3DF,
   0x650A73548BAF63DE, 0x766A0ABB3C77B2A8, 0x81C2C92E47EDAEE6, 0x92722C851482353B]

/-- The last 40 round constants. -/
def shaK1 : List Word64 :=
  [0xA2BFE8A14CF10364, 0xA81A664BBC423001, 0xC24B8B70D0F89791, 0xC76C51A30654BE30,
   0xD192E819D6EF5218, 0xD69906245565A910, 0xF40E35855771202A, 0x106AA07032BBD1B8,
   0x19A4C116B8D2D0C8, 0x1E376C085141AB53, 0x2748774CDF8EEB99, 0x34B0BCB5E19B48A8,
   0x391C0CB3C5C95A63, 0x4ED8AA4AE3418ACB, 0x5B9CCA4F7763E373, 0x682E6FF3D6B2B8A3,
   0x748F82EE5DEFB2FC, 0x78A5636F43172F60, 0x84C87814A1F0AB72, 0x8CC702081A6439EC,
   0x90BEFFFA23631E28, 0xA4506CEBDE82BDE9, 0xBEF9A3F7B2C67915, 0xC67178F2E372532B,
   0xCA273ECEEA26619C, 0xD186B8C721C0C207, 0xEADA7DD6CDE0EB1E, 0xF57D4F7FEE6ED178,
   0x06F067AA72176FBA, 0x0A637DC5A2C898A6, 0x113F9804BEF90DAE, 0x1B710B35131C471B,
   0x28DB77F523047D84, 0x32CAAB7B40C72493, 0x3C9EBE0A15C9BEBC, 0x431D67C49C100D4C,
   0x4CC5D4BECB3E42B6, 0x597F299CFC657E2A, 0x5FCB6FAB3AD6FAEC, 0x6C44198C4A475817]

/-- The initial hash value of SHA-512. -/
def shaInit : List Word64 :=
  [0x6A09E667F3BCC908, 0xBB67AE8584CAA73B, 0x3C6EF372FE94F82B, 0xA54FF53A5F1D36F1,
   0x510E527FADE682D1, 0x9B05688C2B3E6C1F, 0x1F83D9ABFB41BD6B, 0x5BE0CD19137E2179]

/-- Big-endian bytes to a word (FIPS 180-4 numbers its words so). -/
def beWord (bs : Bytes) : Word64 := BitVec.ofNat 64 (bs.foldl (fun a b => a * 256 + b.toNat) 0)

/-- The eight big-endian bytes of a word. -/
def wordBe (w : Word64) : Bytes := (leBytes 8 w.toNat).reverse

/-- The message words of one block, extended to `n` more words; the list is newest first. -/
def shaSchedule : Nat → List Word64 → List Word64
  | 0, w => w
  | n + 1, w =>
    let w2 := w.getD 1 0
    let w15 := w.getD 14 0
    let s0 := w15.rotateRight 1 ^^^ w15.rotateRight 8 ^^^ (w15 >>> 7)
    let s1 := w2.rotateRight 19 ^^^ w2.rotateRight 61 ^^^ (w2 >>> 6)
    shaSchedule n ((s1 + w.getD 6 0 + s0 + w.getD 15 0) :: w)

/-- The eight working variables of SHA-512. -/
structure ShaVars where
  a : Word64
  b : Word64
  c : Word64
  d : Word64
  e : Word64
  f : Word64
  g : Word64
  h : Word64

/-- One round with round constant plus message word `kw`. -/
def shaRound (v : ShaVars) (kw : Word64) : ShaVars :=
  let s1 := v.e.rotateRight 14 ^^^ v.e.rotateRight 18 ^^^ v.e.rotateRight 41
  let ch := (v.e &&& v.f) ^^^ (~~~v.e &&& v.g)
  let t1 := v.h + s1 + ch + kw
  let s0 := v.a.rotateRight 28 ^^^ v.a.rotateRight 34 ^^^ v.a.rotateRight 39
  let maj := (v.a &&& v.b) ^^^ (v.a &&& v.c) ^^^ (v.b &&& v.c)
  ⟨t1 + (s0 + maj), v.a, v.b, v.c, v.d + t1, v.e, v.f, v.g⟩

/-- The compression of one 128-byte block. -/
def shaBlock (h : ShaVars) (block : Bytes) : ShaVars :=
  let m := (List.range 16).map fun i => beWord (slice (8 * i) 8 block)
  let w := (shaSchedule 64 m.reverse).reverse
  let r := (List.zipWith (· + ·) (shaK0 ++ shaK1) w).foldl shaRound h
  ⟨h.a + r.a, h.b + r.b, h.c + r.c, h.d + r.d, h.e + r.e, h.f + r.f, h.g + r.g, h.h + r.h⟩

/-- All blocks; `fuel` at least the number of blocks. -/
def shaBlocks : Nat → Bytes → ShaVars → ShaVars
  | 0, _, h => h
  | n + 1, bs, h => if bs.isEmpty then h else shaBlocks n (bs.drop 128) (shaBlock h (bs.take 128))

/-- Padding to a whole number of 128-byte blocks: 0x80, zeros, and the bit length in 16 big-endian bytes. -/
def shaPad (bs : Bytes) : Bytes :=
  let n := bs.length
  bs ++ [0x80] ++ zeros ((239 - n % 128) % 128) ++ (leBytes 16 (8 * n)).reverse

/-- SHA-512: the 64-byte digest of a byte string. -/
def sha512 (bs : Bytes) : Bytes :=
  let i := shaInit
  let p := shaPad bs
  let h0 : ShaVars := ⟨i.getD 0 0, i.getD 1 0, i.getD 2 0, i.getD 3 0, i.getD 4 0, i.getD 5 0, i.getD 6 0, i.getD 7 0⟩
  let h := shaBlocks (p.length / 128 + 1) p h0
  wordBe h.a ++ wordBe h.b ++ wordBe h.c ++ wordBe h.d ++ wordBe h.e ++ wordBe h.f ++ wordBe h.g ++ wordBe h.h

/-! ## Ed25519 -/

/-- The field prime of edwards25519. -/
def edP : Nat := 2 ^ 255 - 19

/-- The order of the base point. -/
def edL : Nat := 2 ^ 252 + 27742317777372353535851937790883648493

/-- `b ^ e mod m`, by the bits of `e`; `fuel` at least the bit length of `e`. -/
def powMod (m : Nat) : Nat → Nat → Nat → Nat
  | 0, _, _ => 1
  | n + 1, b, e => (if e % 2 = 1 then b else 1) * powMod m n (b * b % m) (e / 2) % m

/-- The inverse in the field. -/
def edInv (a : Nat) : Nat := powMod edP 256 (a % edP) (edP - 2)

/-- The curve constant d = −121665 ÷ 121666. -/
def edD : Nat := (edP - 121665) * edInv 121666 % edP

/-- A point in extended coordinates. -/
structure EdPoint where
  x : Nat
  y : Nat
  z : Nat
  t : Nat

/-- The neutral point. -/
def edZero : EdPoint := ⟨0, 1, 1, 0⟩

/-- Point addition (RFC 8032 section 5.1.4). -/
def edAdd (p q : EdPoint) : EdPoint :=
  let a := (p.y + edP - p.x) * (q.y + edP - q.x) % edP
  let b := (p.y + p.x) * (q.y + q.x) % edP
  let c := 2 * p.t * q.t % edP * edD % edP
  let d := 2 * p.z * q.z % edP
  let e := (b + edP - a) % edP
  let f := (d + edP - c) % edP
  let g := (d + c) % edP
  let h := (b + a) % edP
  ⟨e * f % edP, g * h % edP, f * g % edP, e * h % edP⟩

/-- Scalar multiple, by the bits of the scalar. -/
def edMul : Nat → Nat → EdPoint → EdPoint
  | 0, _, _ => edZero
  | n + 1, k, p =>
    let r := edMul n (k / 2) (edAdd p p)
    if k % 2 = 1 then edAdd p r else r

/-- The x coordinate for a y coordinate and a sign (RFC 8032 section 5.1.3); none where y is no point. -/
def edRecover (y sign : Nat) : Option Nat :=
  if edP ≤ y then none
  else
    let x2 := (y * y + edP - 1) % edP * edInv (edD * (y * y % edP) + 1) % edP
    if x2 = 0 then (if sign = 1 then none else some 0)
    else
      let x0 := powMod edP 256 x2 ((edP + 3) / 8)
      let x1 := if x0 * x0 % edP = x2 then x0 else x0 * powMod edP 256 2 ((edP - 1) / 4) % edP
      if x1 * x1 % edP = x2 then some (if x1 % 2 = sign then x1 else edP - x1) else none

/-- The base point: y = 4 ÷ 5, x even. -/
def edBase : EdPoint :=
  let y := 4 * edInv 5 % edP
  let x := (edRecover y 0).getD 0
  ⟨x, y, 1, x * y % edP⟩

/-- The 32-byte encoding of a point. -/
def edEncode (p : EdPoint) : Bytes :=
  let zi := edInv p.z
  let x := p.x * zi % edP
  let y := p.y * zi % edP
  leBytes 32 (y + (x % 2) * 2 ^ 255)

/-- The point 32 bytes encode, if any. -/
def edDecode (bs : Bytes) : Option EdPoint :=
  let v := leNat bs
  let y := v % 2 ^ 255
  if bs.length = 32 then (edRecover y (v / 2 ^ 255)).map fun x => ⟨x, y, 1, x * y % edP⟩ else none

/-- Equality of points. -/
def edEq (p q : EdPoint) : Bool :=
  p.x * q.z % edP = q.x * p.z % edP && p.y * q.z % edP = q.y * p.z % edP

/-- The scalar and the prefix of a 32-byte private key (RFC 8032 section 5.1.5). -/
def edExpand (seed : Bytes) : Nat × Bytes :=
  let h := sha512 seed
  let a := leNat (h.take 32)
  (a % 2 ^ 254 / 8 * 8 + 2 ^ 254, h.drop 32)

/-- The public key of a seed. -/
def edPublic (seed : Bytes) : Bytes := edEncode (edMul 255 (edExpand seed).1 edBase)

/-- The Ed25519 signature of a message under a seed (RFC 8032 section 5.1.6). -/
def edSign (seed msg : Bytes) : Bytes :=
  let x := edExpand seed
  let pub := edPublic seed
  let r := leNat (sha512 (x.2 ++ msg)) % edL
  let rs := edEncode (edMul 253 r edBase)
  let k := leNat (sha512 (rs ++ pub ++ msg)) % edL
  rs ++ leBytes 32 ((r + k * x.1) % edL)

/-- Does `sig` verify over `msg` under `pub` (RFC 8032 section 5.1.7)? -/
def edVerify (pub msg sig : Bytes) : Bool :=
  let rs := sig.take 32
  let s := leNat (sig.drop 32)
  match edDecode pub, edDecode rs with
  | some a, some r =>
    let k := leNat (sha512 (rs ++ pub ++ msg)) % edL
    sig.length = 64 && s < edL &&
      edEq (edMul 4 8 (edMul 253 s edBase)) (edMul 4 8 (edAdd r (edMul 253 k a)))
  | _, _ => false

/-! ## CRC-32 -/

/-- Eight steps of the reflected CRC register. -/
def crcBits : Nat → Word → Word
  | 0, c => c
  | n + 1, c => crcBits n (if c.getLsbD 0 then (c >>> 1) ^^^ 0xEDB88320 else c >>> 1)

/-- CRC-32 with the reflected polynomial 0xEDB8_8320, initial value and final complement all ones. -/
def crc32 (bs : Bytes) : Word :=
  ~~~(bs.foldl (fun (c : Word) b =>
    let x := c ^^^ b.setWidth 32
    (x >>> 8) ^^^ crcBits 8 (x &&& 0xFF)) 0xFFFFFFFF)

end Sys2Proof.Machine
end

