-- ==== Sys2Proof/Machine/State.lean ====
section
/-! DEFINITION. The state of the block as plain data, the reasons a step can stop, and the state after reset. Every field's
default is its value at the power-on reset (R190); log 1 names the values the spec does not give. -/

namespace Sys2Proof.Machine

/-- The reasons a step may end in a fault. -/
inductive Fault where
  /-- Raised by no command of this model: every command of the table has an effect in the spec (safe). -/
  | noSuchAddress
  deriving DecidableEq, Repr

/-- The reasons a step may be refused. -/
inductive Refusal where
  /-- Raised by `exec` for a command this model gives no meaning yet (safe: the machine stops). -/
  | notModelled (mnemonic : String)
  deriving DecidableEq, Repr

/-! ## Records (07) -/

/-- A record held under R182: two copies, each with its sequence number; `none` for a copy whose CRC-32 is wrong, or that nothing
has written. `written`: some copy was written once. -/
structure Copies (α : Type) where
  a : Option (Word × α) := none
  b : Option (Word × α) := none
  written : Bool := false
  deriving DecidableEq, Repr

/-! ## Clock and time (11) -/

/-- `TIME.STATE` [1:0] (R272). -/
inductive TimeMode where
  | unset | set | disciplined | holdover
  deriving DecidableEq, Repr

/-- Who gave a command: the header fields and digest a CONFIG or ROLE entry carries (R170). -/
structure Auth where
  code : Nat := 0
  tag : Nat := 0
  session : Nat := 0
  sequence : Nat := 0
  role : Nat := 0
  slot : Nat := 0
  digest : List Byte := []
  deriving DecidableEq, Repr

/-- A mode 1 set waiting for an accepted edge (R262). -/
structure PendingSet where
  value : Word64
  acceptedTick : Nat
  acceptedTime : Word64
  auth : Auth
  /-- An edge has been accepted meanwhile, in a state that allows no steps (R267). -/
  edge : Bool := false
  deriving DecidableEq, Repr

/-- One stored VCO band result (R257); `temp` is θf in °C. -/
structure VcoRecord where
  band : Nat
  fine : Nat
  temp : Int
  deriving DecidableEq, Repr

/-- Clocks and device time. -/
structure Clk where
  /-- Device time (R260). -/
  time : Word64 := 0
  /-- Ticks of 8 ns since the power-on reset; durations count these (R268). -/
  ticks : Nat := 0
  mode : TimeMode := .unset
  pllLocked : Bool := false
  refclk : Bool := false
  ppsOk : Bool := false
  pendingSet : Option PendingSet := none
  /-- f and r of R265, in ppb. -/
  freq : Int := 0
  rate : Int := 0
  /-- Net phase-rotation steps of 15.625 ps made (R266). -/
  rotation : Int := 0
  /-- Rate gathered towards the next rotation step, in ppb × ticks (R266). -/
  rotationDebt : Nat := 0
  phaseErr : Int := 0
  ppsLast : Word64 := 0xFFFFFFFFFFFFFFFF
  ppsRejects : Word := 0
  /-- Measured time of the last accepted edge, in the time base now in force (R264). -/
  lastEdge : Option Word64 := none
  /-- Tick of the last accepted edge, or of the PPS source's selection. -/
  lastEdgeTick : Nat := 0
  ppsLost : Bool := false
  pllSearches : Word := 0
  fwdLocked : Bool := false
  retLocked : Bool := false
  /-- Rate code the forward synthesiser is locked for (R255). -/
  fwdRate : Nat := 0
  /-- Full band search under way (R256). -/
  fwdSearching : Bool := false
  retSearching : Bool := false
  /-- The forward synthesiser changes between L28 and L56 and reloads the band it has (R271). -/
  fwdReload : Bool := false
  /-- `TIME.PLL` stored results (R257): key 4 × rate code + band for the forward, 12 + band for the return synthesiser. -/
  pllRecords : List (Nat × Copies VcoRecord) := []
  deriving DecidableEq, Repr

/-! ## Power (08) -/

/-- The power states of R191, in the coding of `SUP_STATUS` POWER (R280). -/
inductive PowerState where
  | boot | active | standby | closing | offHold
  deriving DecidableEq, Repr

/-- Where a closing run stands (R199). -/
inductive RunPhase where
  /-- Steps 1 to 4 are done; the datapath is not yet quiet (step 6). -/
  | draining
  /-- The datapath is quiet; records and commits run (steps 7 to 9). -/
  | committing
  /-- Every commit is made; the lanes stay while packets are queued (step 10). -/
  | sending
  deriving DecidableEq, Repr

/-- A closing run (R199, R203). -/
structure Run where
  /-- Trigger code of R170. -/
  trigger : Nat
  t0 : Word64
  t0Tick : Nat
  /-- Last capture-counter value consumed before the run, and `SEAL.SEG_NEXT` at its start. -/
  lastCapture : Word64
  segNext : Word64
  phase : RunPhase := .draining
  quietTick : Nat := 0
  /-- Entries are committed in this run (R198). -/
  commits : Bool := true
  /-- A readout in progress at t0 was kept, or abandoned (R199 step 4). -/
  kept : Bool := false
  abandoned : Bool := false
  discarded : Bool := false
  /-- The cause code of a decided reset that the run discarded (R378). -/
  discardedReset : Option Nat := none
  /-- SEA is treated as wedged, and the views whose SEG entries that has dropped (R202). -/
  wedged : Bool := false
  dropped : Nat := 0
  segEntries : Nat := 0
  umberGaps : Nat := 0
  truncated : Nat := 0
  uncommitted : Word := 0
  committed : Word := 0
  /-- First HOLDUP_SENSE result since t0, in mV (R203), and the highest temperature since t0. -/
  holdup : Option Nat := none
  temp : Option Int := none
  closeQueued : Bool := false
  /-- RST_N or SUP_RESET arrived during the run (R197). -/
  resetAsked : Bool := false
  /-- A thermal trip fell in the run (R207). -/
  cooling : Bool := false
  deriving DecidableEq, Repr

/-- OFF_HOLD (R204): the run's trigger, whether cooling is also required, whether RST_N or `SUP_RESET` waits for it (R205), and
whether the run wrote a reset record (R381). -/
structure Hold where
  trigger : Nat
  cooling : Bool
  asked : Bool := false
  recorded : Bool := false
  deriving DecidableEq, Repr

/-- What survives of the last closing run for `EV_UMBER_DONE` (R302). -/
structure RunReport where
  closeSeq : Word
  closeTime : Word64
  trigger : Nat
  flags : Nat
  segEntries : Nat
  umberGaps : Nat
  uncommitted : Word
  deriving DecidableEq, Repr

/-- The retained values of SUP (R208, R315), one record of the model's. -/
structure PwrTally where
  droopLast : Nat := 0
  closeRuns : Word := 0
  thermalTrips : Word := 0
  lastT0 : Word64 := 0xFFFFFFFFFFFFFFFF
  lastRunTime : Word := 0
  lastTrigger : Nat := 0
  /-- A closing run ended with a CLOSE entry and no boot has reported it yet (R302). -/
  report : Option RunReport := none
  deriving DecidableEq, Repr

/-- The supervisor's power state. -/
structure Pwr where
  state : PowerState := .boot
  /-- The power-on reset has been released (R189 step 4), and no other reset is being carried out. -/
  released : Bool := false
  /-- Bit i: domain i is powered (R193). -/
  domains : BitVec 56 := 0
  /-- Domains switched on whose power-up has not ended (R193). -/
  poweringUp : List Nat := []
  /-- The stage in progress (R351), 0xFF or 0xFE once the boot is over; the BOOT flags gathered so far (R170), and the sequence of an
  adopted entry (R174). -/
  bootStage : Nat := 0
  bootFlags : Nat := 0
  adopted : Option Word := none
  bootEntryDone : Bool := false
  bootTick : Nat := 0
  recovery : Bool := false
  pfailLow : Bool := false
  pfailSince : Nat := 0
  /-- Tick since which PFAIL_N has been high and every monitored rail above its threshold (R204), and RST_N high (R189). -/
  goodSince : Nat := 0
  rstSince : Nat := 0
  pfailRecognised : Bool := false
  pfailGlitches : Word := 0
  railsLow : List Rail := []
  /-- VDDIO is below 1.2 V (R429). -/
  padsOff : Bool := false
  /-- A droop was detected, and no event has shown the rails above their thresholds since (R204). -/
  drooped : Bool := false
  /-- Some comparator has not yet read below 105 °C for 1 s since a trip (R205). -/
  hot : Bool := false
  run : Option Run := none
  hold : Option Hold := none
  tally : Copies PwrTally := {}
  standbyEntries : Word := 0
  standbyWanted : Bool := false
  /-- Wake configuration taken at entry to STANDBY (R208). -/
  wakeSource : Nat := 0
  wakePin : Nat := 0
  wakeTime : Word64 := 0
  deriving DecidableEq, Repr

/-! ## Registers (12) -/

/-- `SUP_CMD` STATE (R284). -/
inductive CmdState where
  | idle | busy | done | refused
  deriving DecidableEq, Repr

/-- `CMD_STATUS` STATE (R284). -/
inductive MailState where
  | idle | posted | executing
  deriving DecidableEq, Repr

/-- The hardware registers of R278 that hold state of their own. -/
structure Reg where
  scratch : Word := 0
  supCode : Byte := 0
  supState : CmdState := .idle
  supReason : Nat := 0
  supArg : Word := 0
  supBuf : List Byte := []
  /-- The W1C bits of `IRQ_STATUS` (R282): [7:2]. -/
  irqStatus : Word := 0
  irqEnable : Word := 0x3B
  timeHi : Word := 0
  capHi : Word := 0
  hkcHi : Word := 0
  timeTag : BitVec 4 := 0
  capTag : BitVec 4 := 0
  hkcTag : BitVec 4 := 0
  hkcAccSel : Nat := 0
  cmdState : MailState := .idle
  cmdType : Nat := 0
  cmdIgnored : Bool := false
  rspReady : Bool := false
  rspRedirected : Bool := false
  rspLength : Nat := 0
  evtWr : Word := 0
  evtRd : Word := 0
  evtLost : Word := 0
  bulkValid : Nat := 0
  bulkFilled : Bool := false
  spiRefused : Nat := 0
  spiCut : Nat := 0
  spiIgnored : Nat := 0
  /-- What the side-band port drives on CTL_SDO (R273): a word read, or nothing (high-impedance) while CTL_CS_N is high. -/
  sdo : Option Word := none
  deriving DecidableEq, Repr

/-! ## Control processor (12, 13) -/

/-- A message waiting for CTL: the command mailbox's (read when executed), or one that came in-band (R289). -/
inductive Inbound where
  | side
  | inBand (bytes : List Byte)
  deriving DecidableEq, Repr

/-- A response formed and not yet placed (R288); `ops`: block operations it still waits for. -/
structure Reply where
  inBand : Bool
  bytes : List Byte
  /-- The operations of this message must end first. -/
  waits : Bool := false
  /-- Reset or domain work that follows the response: 0 none, 1 standby, 2 firmware reset, 3 EPOCH start. -/
  follow : Nat := 0
  deriving DecidableEq, Repr

/-- An event record held for the ring (R301). -/
abbrev Record := List Byte

/-- The retained values of CTL and of the role store (R294, R314, R350), one record of the model's. -/
structure CtlTally where
  sessionCounter : Word := 0
  sigFailures : Word := 0
  roleFailures : Word := 0
  configSerial : Word := 0
  enrolments : Word := 0
  revocations : Word := 0
  deriving DecidableEq, Repr

/-- The control processor's mailboxes and session. -/
structure Ctl where
  ready : Bool := false
  /-- The windows of R276, byte by byte; an unlisted byte is 0. -/
  cmdBox : List (Nat × Byte) := []
  rspBox : List (Nat × Byte) := []
  bulk : List (Nat × Byte) := []
  ring : List (Nat × Byte) := []
  inbox : List Inbound := []
  /-- How many messages of `inbox`, from its head, waited when the last `MSG_SESSION_OPEN` arrived (R303). -/
  superseded : Nat := 0
  replies : List Reply := []
  sessionOpen : Bool := false
  session : Word := 0
  nonce : List Byte := []
  /-- Sequence of the last accepted signed message (R294). -/
  seqLast : Word := 0
  lastDigest : Option (List Byte) := none
  lastResponse : List Byte := []
  tally : Copies CtlTally := {}
  msgExecuted : Word := 0
  msgRefused : Word := 0
  configRestore : Nat := 0
  lastRole : Nat := 0
  lastSlot : Nat := 0
  deriving DecidableEq, Repr

/-- Events (R300 to R302). -/
structure Ev where
  seq : Word := 0
  /-- Records raised and not yet written to the ring. -/
  waiting : List Record := []
  /-- Tick of the entry to Vermilion and of the last repeat (R157). -/
  vermilionEntry : Option Nat := none
  vermilionLast : Nat := 0
  deriving DecidableEq, Repr

/-- Parameters: the values of the writable ones that differ from their defaults, and the persistent records (R311). -/
structure Par where
  values : List (Nat × Nat) := []
  persist : List (Nat × Copies Nat) := []
  deriving DecidableEq, Repr

/-! ## Packets (10) -/

/-- A packet (R237). `after`: it may not leave before the packet of that sequence has left (R150). -/
structure Packet where
  kind : Nat
  resent : Bool := false
  seq : Word := 0
  view : Nat := 0xFF
  gen : Nat := 0
  stream : Nat := 0
  body : List Byte := []
  after : Option Word := none
  deriving DecidableEq, Repr

/-! ## Ledger and non-volatile store (07) -/

/-- The entry kinds of R168. -/
inductive Kind where
  | seg | boot | config | time | debug | close | epoch | role | fw
  deriving DecidableEq, Repr

/-- A commit requested of NVS (R172). -/
structure Commit where
  kind : Kind
  view : Nat := 0xFF
  gen : Nat := 0
  stream : Nat := 0
  counter : Word64 := 0
  first : Word64 := 0
  last : Word64 := 0
  frames : Word := 0
  gaps : Word := 0
  subject : List Byte := []
  /-- Sequence of the FRAME_END of the segment's last frame (R150). -/
  after : Option Word := none
  debug : Bool := false
  deriving DecidableEq, Repr

/-- The epoch transition record (R179 step 3). -/
structure Transition where
  oldEpoch : Nat
  newEpoch : Nat
  closingSeq : Word
  closingHead : List Byte
  digest : List Byte
  deriving DecidableEq, Repr

/-- The journal's state (R183). -/
inductive Journal where
  | idle | shadow | apply
  deriving DecidableEq, Repr

/-- The journal record (R183): a clear, or a copy from `source`; its destination, and the state. -/
structure JournalRecord where
  clear : Bool := false
  dest : Nat := 0
  source : Nat := 0
  state : Journal := .idle
  deriving DecidableEq, Repr

/-- What the end of a block operation lets go on. -/
inductive BlockEnd where
  | part
  | ledgerCleared
  | imageLoaded
  | tableDone (table : Nat) (digest : List Byte) (length : Nat)
  deriving DecidableEq, Repr

/-- A block operation asked for (R183): the block at `dest` cleared, or written with the `bytes` of the block at `source`. -/
structure BlockJob where
  dest : Nat
  source : Nat := 0
  bytes : Option (List Byte) := none
  done : BlockEnd := .part
  deriving DecidableEq, Repr

/-- The retained values of NVS (R181, R186), one record of the model's. -/
structure NvsCounts where
  capEnd : Word64 := 0
  segEnd : Word64 := 0
  bootCount : Word64 := 0
  closeCount : Word64 := 0
  debugCount : Word64 := 0
  timeCount : Word64 := 0
  lost : Word := 0
  crcErrors : Word := 0
  rollbacks : Word := 0
  prevEpochLast : Word := 0xFFFFFFFF
  truncatedTotal : Word := 0
  /-- Seconds at 85 °C since the last calibration write and since the last write of each firmware slot, × 2^32 (R186). -/
  retentionCal : Nat := 0
  retentionA : Nat := 0
  retentionB : Nat := 0
  deriving DecidableEq, Repr

/-- The non-volatile store: the bytes of the NVS map (R162) that are read as bytes, and the records under R182 by name. -/
structure Nvs where
  mem : List Host.Cell := []
  journals : Copies JournalRecord := {}
  transitions : Copies (Option Transition) := {}
  counts : Copies NvsCounts := {}
  /-- `LEDGER.EXPORT_MARK`: none while it follows the oldest entry (R178). -/
  marks : Copies (Option Word) := {}
  queue : List Commit := []
  /-- VDDNV is below 1.08 V: no commit starts (R200). -/
  held : Bool := false
  /-- Block operations, the first one running. -/
  blocks : List BlockJob := []
  /-- Commits interleaved with the block operation running (R185). -/
  interleaved : Nat := 0
  commits : Word := 0
  /-- Ticks of the commits of the last 3,600 s, and `LEDGER.RATE`, `LEDGER.HORIZON` as last refreshed. -/
  recent : List Nat := []
  rate : Word := 0
  horizon : Word := 0xFFFFFFFF
  deriving DecidableEq, Repr

/-- `LEDGER.EPOCH_STATE` (R186). -/
inductive EpochState where
  | idle | closing | clearing | opening
  deriving DecidableEq, Repr

/-- The ledger in force (R173). -/
structure Led where
  /-- The ledger has been recovered at this boot (R174). -/
  ready : Bool := false
  nextSeq : Word := 0
  present : Nat := 0
  epoch : Nat := 0
  lastHead : List Byte := []
  floorHead : List Byte := []
  epochState : EpochState := .idle
  /-- The EPOCH command's digest while the operation runs. -/
  epochDigest : List Byte := []
  deriving DecidableEq, Repr

/-! ## Sealing (06) -/

/-- A signing job (R150, R154). -/
structure SignJob where
  seq : Word
  epoch : Nat
  kind : Nat
  view : Nat
  gen : Nat
  stream : Nat
  head : List Byte
  /-- The SEAL_RECORD this signature follows. -/
  after : Option Word
  resigned : Bool
  deriving DecidableEq, Repr

/-- One strip engine: bytes outstanding (R134), and whether a monitor stopped dealing to it (R376). -/
structure Engine where
  outstanding : Nat := 0
  stopped : Bool := false
  deriving DecidableEq, Repr

/-- The seal engine. -/
structure Sea where
  vermilion : Nat := 0
  selfTest : Nat := 0
  enginePass : Word := 0
  /-- Engines by number with bytes outstanding or stopped; an unlisted engine is idle. -/
  engines : List (Nat × Engine) := []
  /-- Bytes dealt to each group in the current capture, and the capture (R134). -/
  dealt : List (Nat × Nat) := []
  dealtCapture : Option Word64 := none
  buffer : Nat := 0
  /-- A SEA monitor has tripped (R202). -/
  wedged : Bool := false
  prompt : List SignJob := []
  resign : List SignJob := []
  sigSkipped : Word := 0
  signedTotal : Word := 0
  resignedTotal : Word := 0
  recordsSent : Word := 0
  treeHashes : Word := 0
  framesSealed : Word := 0
  lastSigned : Word := 0xFFFFFFFF
  sigTimeMax : Word := 0
  groupBytes : List (Nat × Word64) := []
  groupStrips : List (Nat × Word) := []
  segNext : Word64 := 0
  deriving DecidableEq, Repr

/-! ## Views (05, 06) -/

/-- The copy of the staged fields an activation installs (R115), with the configuration digest (R324). -/
structure ViewGen where
  x0 : Nat := 0
  y0 : Nat := 0
  width : Nat := 0
  height : Nat := 0
  bin : Nat := 0
  skip : Nat := 0
  format : Nat := 0
  rateDiv : Nat := 1
  ratePhase : Nat := 0
  streamId : Nat := 0
  segFrames : Nat := 0
  segTime : Nat := 0
  deriving DecidableEq, Repr

/-- The gap causes of R175. -/
inductive GapCause where
  | reconfig | pace | umber | link
  deriving DecidableEq, Repr

/-- What became of a value of a segment (R141). -/
inductive Fate where
  | awaited
  | frame (root : List Byte) (truncated : Bool)
  | gap (cause : GapCause)
  deriving DecidableEq, Repr

/-- One value of a segment: its time (none before T0 is known) and its fate. -/
structure SegValue where
  capture : Word64
  time : Option Word64
  fate : Fate
  deriving DecidableEq, Repr

/-- A segment (R141). -/
structure Segment where
  counter : Word64
  gen : Nat
  rateDiv : Nat
  ratePhase : Nat
  segFrames : Nat
  segTime : Nat
  streamId : Nat
  digest : List Byte
  values : List SegValue := []
  /-- No further value joins: the limits or a stop closed it. -/
  complete : Bool := false
  umber : Bool := false
  debug : Bool := false
  stopped : Bool := false
  vermilion : Bool := false
  timeStep : Bool := false
  /-- Sequence of the last FRAME_END queued for it. -/
  lastEnd : Option Word := none
  deriving DecidableEq, Repr

/-- A strip dealt to an engine (R134): its packed lines, and how many of them the engine has absorbed. -/
structure Strip where
  engine : Nat
  lines : List (List Byte) := []
  absorbed : Nat := 0
  deriving DecidableEq, Repr

/-- A frame of a view under way (R132 to R139). -/
structure Frame where
  capture : Word64
  genNo : Nat
  gen : ViewGen
  digest : List Byte
  /-- Lines packed so far (R105), and the strips they lie in. -/
  packed : Nat := 0
  strips : List Strip := []
  /-- Lines LNK has taken (R128). -/
  sent : Nat := 0
  /-- The readout was abandoned (R140). -/
  truncated : Bool := false
  debug : Bool := false
  deriving DecidableEq, Repr

/-- `VIEW.STATE` [1:0] (R114). -/
inductive ViewState where
  | idle | starting | running | stopping
  deriving DecidableEq, Repr

/-- One view. -/
structure View where
  state : ViewState := .idle
  genNo : Nat := 0
  gen : ViewGen := {}
  digest : List Byte := []
  /-- A start or activation waits for these domains and quadrant flushes (R125). -/
  waiting : Bool := false
  /-- The wait is an activation's, not a start's (R127). -/
  reactivating : Bool := false
  /-- First capture-counter value the view may take: consumed after completion (R125). -/
  from_ : Word64 := 0
  /-- Last value the generation's segments hold for good: a gap, or a capture whose readout began (R127). -/
  held : Option Word64 := none
  /-- `VIEW.READ_RATE`, as the last activation or change of the readout interval in use left it (R114). -/
  readRate : Nat := 0
  /-- RECONFIG values gathered for the new generation's first segment (R127 step 4). -/
  reconfig : List SegValue := []
  /-- The generation was installed on a view that ran, and has taken no value yet (R127 step 5). -/
  renewed : Bool := false
  frames : Word := 0
  gaps : Word := 0
  lastCapture : Word64 := 0xFFFFFFFFFFFFFFFF
  /-- Segments open or awaiting their last frames, oldest first. -/
  segments : List Segment := []
  current : List Frame := []
  deriving DecidableEq, Repr

/-! ## Pace governor (01) -/

structure Pace where
  withhold : Bool := false
  /-- `POWER.PACE_RESERVE` in force, as the last verdict update took it (R19). -/
  reserve : Nat := 3
  margin : Nat := 200
  monitor : Nat := 0
  /-- Estimates, margins and lowest margins by monitor index; an unlisted one is 0 or 200. -/
  est : List (Nat × Nat) := []
  monMargin : List (Nat × Nat) := []
  monLow : List (Nat × Nat) := []
  low : Nat := 200
  withholds : Word := 0
  /-- Verdict before the last change, and the tick of that change (R22). -/
  prevWithhold : Bool := false
  changedTick : Nat := 0
  deriving DecidableEq, Repr

/-! ## Lanes and link (09, 10) -/

/-- `LINK.STATE` (R228). -/
inductive LinkState where
  | off | rlAcquire | ident | hop | adapt | align | up | downWait
  deriving DecidableEq, Repr

/-- The four side taps of a lane's equaliser (R213): c−2, c−1, c+1, c+2. -/
structure Taps where
  m2 : Int
  m1 : Int
  p1 : Int
  p2 : Int
  deriving DecidableEq, Repr

/-- Where a lane's adaptation stands (R220). -/
inductive AdaptPhase where
  | preset (i : Nat)
  /-- Pass, tap index in the order c−1, c+1, c−2, c+2, step index 0 for +1 and 1 for −1. -/
  | search (pass tap step : Nat) (improved : Bool)
  /-- Tap search from the coefficients in force: their FoM is taken first. -/
  | measure
  | done
  deriving DecidableEq, Repr

/-- The adaptation of one logical lane. -/
structure LaneAdapt where
  phase : AdaptPhase
  current : Taps
  best : Nat := 0
  preset : Nat := 0
  /-- The trial applied for the round now asked. -/
  trial : Taps
  deriving DecidableEq, Repr

/-- Step 5 at one rate code (R219, R220). -/
structure Adapt where
  rate : Nat
  /-- The lanes in use, by logical lane. -/
  lanes : List (Nat × LaneAdapt)
  /-- `LINK.ADAPT_PASSES`, `FOM_TARGET`, `FOM_SETTLE` and `FALLBACK` as this step 5 took them. -/
  passes : Nat
  target : Nat
  settle : Nat
  fallback : Bool
  /-- Tick at which the present trials were applied. -/
  since : Nat
  round : Byte := 0
  missing : Nat := 0
  /-- Rates tried before, newest first, with the count n of R219. -/
  tried : List (Nat × Nat) := []
  /-- This step 5 repeats the rate chosen after no rate gave n = r. -/
  final : Bool := false
  deriving DecidableEq, Repr

/-- A FoM request not yet answered (R243). -/
structure FomAsk where
  round : Byte
  tick : Nat
  monitoring : Bool
  deriving DecidableEq, Repr

/-- The framing of one powered forward lane (R229, R231). -/
structure LaneFramer where
  /-- Its physical and logical lane, and whether its driver is inverted (R218). -/
  lane : Nat := 0
  logical : Nat := 0
  inverted : Bool := false
  scrambler : BitVec 58 := 0
  /-- Blocks not yet in a codeword, oldest first: header bit and bytes. -/
  blocks : List (Bool × List Byte) := []
  /-- Codewords since the last marker codeword (R232), and codewords since the stripe began. -/
  count : Nat := 0
  words : Nat := 0
  /-- The last codeword sent, and its line symbols: levels 0 to 3 at L56, bits at L28 and L10. -/
  codeword : List (BitVec 10) := []
  line : List Nat := []
  deriving DecidableEq, Repr

/-- A packet not yet wholly in completely sent codewords (R247), with the indices of its first and last block. -/
structure InFlight where
  packet : Packet
  firstBlock : Nat
  lastBlock : Nat
  deriving DecidableEq, Repr

/-- The framer (R229, R230, R234). -/
structure Framer where
  /-- Bytes of the stream not yet in a block, and the positions among them where packets start. -/
  partial_ : List Byte := []
  starts : List Nat := []
  /-- Blocks formed since the stripe began (R234). -/
  blocks : Nat := 0
  /-- The lanes in logical order, and the rate code they run at. -/
  lanes : List LaneFramer := []
  rate : Nat := 0
  /-- Each lane carries a stream of its own (step 5, R234). -/
  own : Bool := false
  inFlight : List InFlight := []
  deriving DecidableEq, Repr

/-- The return-lane receiver (R236, R230). -/
structure Receiver where
  locked : Bool := false
  blockLock : Bool := false
  descrambler : BitVec 58 := 0
  /-- Stream bytes of the packet being received; none while packet alignment is lost (R230). -/
  stream : Option (List Byte) := none
  lastSeq : Option Word := none
  /-- Markers (R236): valid ones in a row, whether the last two were 256 codewords apart, the codewords since the last one or the
  last place one was expected at, expected ones missing in a row, and the tick of the last valid one. -/
  run : Nat := 0
  spaced : Bool := false
  since : Option Nat := none
  missed : Nat := 0
  markTick : Nat := 0
  deriving DecidableEq, Repr

/-- The Erfiec Link. -/
structure Lnk where
  state : LinkState := .off
  /-- Tick of the entry to the state. -/
  entered : Nat := 0
  rateUsed : Nat := 2
  lanesUsed : Nat := 0
  /-- Values of the last completed bring-up (R226), none before the first. -/
  lastGood : Option (Nat × Nat) := none
  /-- Lanes requested r (R219), and the receivers that found a lane. -/
  requested : Nat := 0
  /-- Logical lanes mapped, by the last report or by `LINK.LANE_MAP` (R216, R218). -/
  mapped : List Nat := [0, 1, 2, 3]
  mapInForce : Bool := false
  /-- Values that the present bring-up took (R228): training mode, rate, lanes at most, swing in mV, and of its last step 2
  the mask, timeout and retries, of its last step 6 the timeout. -/
  mode : Nat := 0
  target : Nat := 2
  lanesMax : Nat := 4
  swing : Nat := 700
  mask : Nat := 0x0F
  identTimeout : Nat := 100
  retries : Nat := 3
  alignTimeout : Nat := 10
  /-- Lane map in force, and the coefficients in force by physical lane; an unlisted lane has P3. -/
  map : Nat := 0x3210
  coef : List (Nat × Nat) := []
  retraining : Bool := false
  /-- The reason of a retrain that follows once UP: LINK.RATE, LANES_MAX or TX_SWING was written meanwhile, or one waits for CTL
  (R227). -/
  retrainDue : Option Nat := none
  /-- The identification word each physical lane sends in IDENT (R217). -/
  ident : List (Nat × List Byte) := []
  wakeUp : Bool := false
  adapt : Option Adapt := none
  hopRate : Nat := 0
  restarts : Nat := 0
  outstanding : Option FomAsk := none
  monRound : Byte := 0
  monTick : Nat := 0
  lowRun : Nat := 0
  fomLast : Word := 0
  rlFom : Byte := 0
  retrains : Word := 0
  ffePreset : Nat := 0
  /-- Conditions asserted (R222): return-lane LOS, REFCLK LOS, CDR LOL, lane PLL LOL; time PLL LOL (R261). -/
  los1 : Bool := false
  los2 : Bool := false
  lol1 : Bool := false
  lol2 : Bool := false
  lol3 : Bool := false
  rx : Receiver := {}
  control : List Packet := []
  sealQ : List Packet := []
  data : List Packet := []
  /-- TRAIN packets to send, and packets cut by the end of UP (R247). -/
  train : List Packet := []
  resend : List Packet := []
  seq : Word := 0
  framer : Framer := {}
  /-- Packets sent, newest first (log 4). -/
  sent : List Packet := []
  sealDropped : Word := 0
  eventsDropped : Word := 0
  gaps : Word := 0
  /-- Ticks of outage with a view not IDLE, and `LINK.OUTAGE_TIME` as last refreshed (R253). -/
  outageTicks : Nat := 0
  outageTime : Word := 0
  markerCount : Word := 0
  rlFecCorr : Word := 0
  rlFecUncorr : Word := 0
  rlBlockLosses : Word := 0
  downReason : Nat := 0
  leftUp : Word64 := 0xFFFFFFFFFFFFFFFF
  firstGap : Word64 := 0xFFFFFFFFFFFFFFFF
  lastGap : Word64 := 0xFFFFFFFFFFFFFFFF
  gapCount : Word := 0
  sealDropSince : Word := 0
  evDropSince : Word := 0
  /-- LINK_CHANGE discard: packets from t0 of a closing run are dropped where R251 says. -/
  closing : Bool := false
  deriving DecidableEq, Repr

/-! ## Fuses, roles, firmware (14, 15) -/

/-- Why FUS programs an item (R334, R335, R343 to R345, R331, R357, R179). -/
inductive Purpose where
  | single
  | identity
  | revoke (role : Nat)
  | lifecycle
  | retire
  | fwar
  | epoch
  | reinforce
  deriving DecidableEq, Repr

/-- An item waiting to be programmed; `cells`: the cells that become 1 (a word's 39, a unit's 3). -/
structure OtpTask where
  item : OtpItem
  cells : Nat
  purpose : Purpose
  deriving DecidableEq, Repr

/-- The fuse array. An unlisted item is blank: its three reads are 0. -/
structure Fus where
  /-- The raw reads each word and unit gives (R336, R339, R340). -/
  words : List (Nat × OtpReads) := []
  units : List (Nat × OtpReads) := []
  /-- The reads latched at boot or by FUS's own programming (R340, R341). -/
  latWords : List (Nat × OtpReads) := []
  latUnits : List (Nat × OtpReads) := []
  /-- Life-cycle state in force since the boot (R334). -/
  lifecycle : Nat := 0
  /-- Identity bank in force since the boot: 0 none, 1 A, 2 B, 0xFF VOID (R342, R159). -/
  bank : Nat := 0
  /-- Items marked WEAK when the array was latched (R350). -/
  weak : Nat := 0
  /-- Items to program, the first one running. -/
  tasks : List OtpTask := []
  /-- The last operation was cut by a reset (R350). -/
  cut : Bool := false
  driftCount : Word := 0
  /-- Items whose drift has been reported since the boot (R341). -/
  driftWords : List Nat := []
  driftUnits : List Nat := []
  /-- Tick at which FUS last read the whole array (R340, R341). -/
  readTick : Nat := 0
  /-- A debug unlock is in force (R347). -/
  debug : Bool := false
  deriving DecidableEq, Repr

/-- What a role-store record holds (R330). -/
structure KeySlot where
  key : List Byte
  stamp : Nat
  byRole : Nat
  bySlot : Nat
  entry : Word
  deriving DecidableEq, Repr

/-- The role store (R327 to R332) and the device certificate (R364). -/
structure Role where
  operators : List (Nat × Copies (Option KeySlot)) := []
  installers : List (Nat × Copies (Option KeySlot)) := []
  /-- Slots of either role whose stamp was below the counter latched at boot (R332). -/
  staleOps : List Nat := []
  staleIns : List Nat := []
  maker : Copies (List Byte) := {}
  /-- `ROLE.STORE_STATE` (R350). -/
  storeState : Nat := 0
  cert : Copies (List Byte) := {}
  deriving DecidableEq, Repr

/-- What the activation record holds (R354). -/
structure Activation where
  active : Nat := 0
  previous : Nat := 0
  trial : Bool := false
  failed : Nat := 0
  activeVersion : Word := 0
  previousVersion : Word := 0
  digest : List Byte := []
  deriving DecidableEq, Repr

/-- An image checked by `MSG_FW_LOAD` (R358, R360). -/
structure LoadedImage where
  version : Word
  fwar : Nat
  digest : List Byte
  deriving DecidableEq, Repr

/-- `DEVICE.FW_UPDATE` (R314). -/
inductive FwUpdate where
  | none | loading | loaded | interrupted
  deriving DecidableEq, Repr

/-- The retained status of a firmware update (R181, R359). -/
structure FwStatus where
  update : FwUpdate := .none
  loaded : Option LoadedImage := Option.none
  deriving DecidableEq, Repr

/-- Firmware updates (15); the slots are bytes of NVS. -/
structure Fw where
  /-- The two copies of the activation record, as the bytes of R354; empty where nothing was written. -/
  recordA : List Byte := []
  recordB : List Byte := []
  status : Copies FwStatus := {}
  /-- An activation has committed its entries and is yet to write its record (R360 step 2): the slot. -/
  activating : Option Nat := Option.none
  /-- Staged bytes and total of the load in progress (R358). -/
  staged : List Byte := []
  total : Nat := 0
  /-- The running image (R314): slot, version, FWAR required, digest; version 0 in recovery mode. -/
  slot : Nat := 0
  version : Word := 0
  fwar : Nat := 0
  digest : List Byte := []
  /-- A FW entry of action 2 is due after the BOOT entry (R356). -/
  fellBack : Bool := false
  deriving DecidableEq, Repr

/-! ## Resets and watchdog (12, 16) -/

/-- The reset causes of R281. -/
inductive Cause where
  | por | pin | wdogTask | wdogProgress | supCmd | umber | fwUpdate | debug | thermal
  deriving DecidableEq, Repr

/-- A reset decided and held off (R377, R380). -/
structure Decided where
  cause : Cause
  detail : Nat
  /-- Slots that missed their window, and the slot of a strict double check-in (R372, R380). -/
  mask : BitVec 16
  strict : BitVec 16 := 0
  time : Word64
  tick : Nat
  stage : Nat
  power : Nat
  /-- Held for: commit, block operation, OTP (R380). -/
  held : Nat
  /-- The commit it is held for is still in progress, and the tick at which everything it was held for had ended (R377). -/
  commit : Bool := false
  ended : Option Nat := none
  /-- The core was halted during the last window. -/
  halted : Bool := false
  pc : Word
  deriving DecidableEq, Repr

/-- The retained values of the watchdog chapter (R379, R383), one record of the model's. -/
structure RstTally where
  /-- Counters by cause code; an unlisted one is 0. -/
  counts : List (Nat × Word) := []
  missingLast : BitVec 16 := 0
  monitorLast : Nat := 0xFF
  records : Nat := 0
  recordSeq : Word := 0
  holdoffMax : Word := 0
  deriving DecidableEq, Repr

/-- Resets. -/
structure Rst where
  cause : Cause := .por
  missing : BitVec 16 := 0
  record : Bool := false
  decided : Option Decided := none
  /-- A seal fault decides a reset at this tick, with the monitor (R376). -/
  sealFaultAt : Option (Nat × Nat) := none
  /-- A reset follows with this cause once the response has gone (R334, R360). -/
  after : Option Cause := none
  tally : Copies RstTally := {}
  deriving DecidableEq, Repr

/-- A registered watchdog slot (R369 to R371). -/
structure WdgSlot where
  strict : Bool
  window : Nat
  /-- Ticks left in the current window, and its check-ins. -/
  remaining : Nat
  checkins : Nat
  /-- A window ended with no check-in, and the decision it brings is due. -/
  expired : Bool := false
  /-- The core was halted during the current window, and during the one before. -/
  halted : Bool := false
  wasHalted : Bool := false
  deriving DecidableEq, Repr

/-- The task watchdog. -/
structure Wdg where
  slots : List (Nat × WdgSlot) := []
  ignored : Nat := 0
  doubles : Word := 0
  tripped : BitVec 64 := 0
  halted : Bool := false
  /-- Ticks each progress monitor has counted since its last progress (R374); an unlisted one is 0. -/
  counts : List (Nat × Nat) := []
  /-- What the debugger wrote into CTL's memory and its other registers during this halt, by address (R347). -/
  debugMem : List (Nat × Option Word) := []
  debugRegs : List (Nat × Option Word) := []
  /-- NVS commits are ended by a trip of monitor 44 to 46 in a closing run (R376). -/
  nvsStopped : Bool := false
  deriving DecidableEq, Repr

/-! ## Capture (02, 03) -/

/-- The timing of one profile as a capture latched it (R51 to R56, R59), in ticks. -/
structure ProfileUse where
  profile : Nat
  slices : Nat
  /-- Exposure into SN-A; into SN-B: eb in HDR, the second exposure in BURST, 0 in SINGLE. -/
  ea : Nat
  eb : Nat
  /-- Slice period p, and the spacing s of a burst pair. -/
  period : Nat
  spacing : Nat
  gain : Nat
  span : Nat
  /-- o_p of R56. -/
  offset : Nat
  /-- `PROFILE.AE_MODE` was automatic at the commit (R58, R310). -/
  auto : Bool := false
  /-- Slices whose transfer pulse was suppressed (R73). -/
  droppedA : List Nat := []
  droppedB : List Nat := []
  deriving DecidableEq, Repr

/-- A capture that ETS committed and that has not been read out in full (R49, R74). -/
structure Capture where
  counter : Word64
  /-- How many captures of this boot were committed before it (R60). -/
  index : Nat
  kind : Nat
  align : Nat
  triggered : Bool
  chargeBin : Bool
  /-- Tick of T0 (R56); loaded edges count ticks, so a time step does not move them (R78). -/
  t0Tick : Nat
  smax : Nat
  /-- I of R62, and `ARRAY.QUAD_STATE` [3:0] and `ARRAY.SEG_STATE` [5:0] at the commit (R50, R61, R109). -/
  interval : Nat
  quads : Nat
  segs : Nat
  profiles : List ProfileUse
  tilemap : List (Nat × Nat)
  /-- The views that take it, without those stopped or reconfigured before its readout began (R126, R127). -/
  views : List Nat := []
  /-- Detection tick of the trigger (R76). -/
  detect : Word64 := 0xFFFFFFFFFFFFFFFF
  /-- The capture timestamp (R57), once T0 has been launched. -/
  t0 : Option Word64 := none
  /-- Triggers coalesced before it (R71), taken when it starts. -/
  coCount : Word := 0
  coFirst : Word64 := 0
  coLast : Word64 := 0
  launched : List Edge := []
  closed : Bool := false
  /-- Row-quads released, and row-quads that entered the correction chain. -/
  released : Nat := 0
  aligned : Nat := 0
  /-- Ticks by which the releases run behind Tx + k × I (R63, R453). -/
  lag : Nat := 0
  deriving DecidableEq, Repr

/-- An automatic exposure waiting for the second capture after the measured one (R60). -/
structure AeNext where
  profile : Nat
  exposure : Nat
  /-- Index of the first capture that uses it. -/
  index : Nat
  deriving DecidableEq, Repr

/-- Exposure timing and sequencing. -/
structure Ets where
  /-- Next capture-counter value (R74), the value the boot resumed at, and the value last consumed in this boot. -/
  counter : Word64 := 0
  resume : Word64 := 0
  consumed : Option Word64 := none
  /-- Captures committed and not fully read, oldest first. -/
  captures : List Capture := []
  committed : Nat := 0
  /-- The last capture committed, as it was committed (R63, R64), and the tick of the last grid instant used (R65). -/
  last : Option Capture := none
  lastGrid : Option Nat := none
  /-- Values consumed and their times (R141), newest first: as many as R127 step 4 can look back to. -/
  history : List (Word64 × Option Word64) := []
  /-- Counter of the last started capture, and the triggers coalesced since (R71). -/
  started : Option Word64 := none
  coCount : Word := 0
  coFirst : Word64 := 0
  coLast : Word64 := 0
  coEvents : Nat := 0
  coalescedTotal : Word := 0
  sliceDrops : Word := 0
  capturesTotal : Word := 0
  withheld : Word := 0
  accepted : Word := 0
  lastT0 : Word64 := 0xFFFFFFFFFFFFFFFF
  lastClose : Nat := 0
  profilesInUse : Nat := 0
  trigLast : Word64 := 0xFFFFFFFFFFFFFFFF
  lagMax : Nat := 0
  intervalUsed : Nat := 0
  rowquadsRead : Nat := 0
  /-- `PROFILE.SPAN` and `PROFILE.LEAD_LIMIT` by profile as last updated; an unlisted one is 0 or all ones (R58). -/
  spans : List (Nat × Nat) := []
  leads : List (Nat × Nat) := []
  aeNext : List AeNext := []
  /-- Capture last measured for a profile's automatic exposure. -/
  aeDone : List (Nat × Word64) := []
  /-- Ticks of the last T0, acceptance and coalescing, for the tint inputs of R391. -/
  t0Pulse : Option Nat := none
  acceptPulse : Option Nat := none
  coalescePulse : Option Nat := none
  deriving DecidableEq, Repr

/-- The pixel array's power (R45, R109). -/
structure Pix where
  /-- Quadrants powered and flushed; segments powered in all four banks. -/
  quadReady : BitVec 4 := 0
  segReady : BitVec 6 := 0
  quadPowerups : Word := 0
  deriving DecidableEq, Repr

/-! ## Datapath and tables (04, 13) -/

/-- One entry of `TBL_COLCAL` (R87). -/
structure ColCal where
  hcgOffset : Int := 0
  lcgOffset : Int := 0
  hcgGain : Nat := 32768
  lcgGain : Nat := 32768
  deriving DecidableEq, Repr

/-- One entry of `TBL_DEFECT` (R95). -/
structure Defect where
  x : Nat
  y : Nat
  method : Nat
  mask : Nat
  deriving DecidableEq, Repr

/-- A table write in progress (R322). -/
structure TableStaging where
  table : Nat
  total : Nat
  bytes : List Byte
  deriving DecidableEq, Repr

/-- The in-force record of a calibration table (R322): which of its two images, its length and SHA-512 (R363), its serial (R320). -/
structure TableRecord where
  image : Nat
  length : Nat
  digest : List Byte
  serial : Word
  deriving DecidableEq, Repr

/-- The table objects (R318). An unlisted tile has profile 0, an unlisted column entry is the identity. -/
structure Tab where
  tilemap : List (Nat × Nat) := []
  tileSerial : Word := 0
  tileWrites : Word := 0
  /-- The in-force records of `TBL_COLCAL` and `TBL_DEFECT`; without one the table is the identity, or empty. -/
  colTable : Copies TableRecord := {}
  defectTable : Copies TableRecord := {}
  colState : Nat := 0
  defectState : Nat := 0
  /-- The calibration tables in force since the last view start (R111). -/
  colcalNow : List (Nat × ColCal) := []
  defectsNow : List Defect := []
  /-- The record of `ARRAY.DCG_RATIO` (R110). -/
  dcgRatio : Copies Nat := {}
  staging : Option TableStaging := none
  deriving DecidableEq, Repr

/-- One sample in v16 with its saturation flag (R81, R88). -/
structure Sample where
  v : Int
  sat : Bool
  deriving DecidableEq, Repr

/-- What the PDP latches at the release of a capture's first row-quad (R86). -/
structure PdpLatch where
  rawPedestal : Nat
  linPedestal : Nat
  filter : Nat
  rowCorr : Bool
  defectOn : Bool
  kneeH : Nat
  kneeL : Nat
  shift20 : Nat
  greenOnly : Bool
  dcg : Nat
  variant : Nat
  segments : Nat
  colcal : List (Nat × ColCal)
  defects : List Defect
  deriving DecidableEq, Repr

/-- One conversion of one total row: the 64 black columns, and active columns 0 to 12,287 (none where the segment is off). -/
structure RowData where
  black : List Sample
  active : List (Option Sample)
  deriving DecidableEq, Repr

/-- One kept row of a capture: its total row and its conversions in order, each with the row's offset removed (R93). -/
structure Row where
  y : Nat
  conv : List RowData
  deriving DecidableEq, Repr

/-- The statistics of one tile (R106). -/
structure TileStat where
  bins : List Nat
  sum : Nat
  count : Nat
  sat : Nat
  profile : Nat
  deriving DecidableEq, Repr

/-- One capture's statistics set (R107). -/
structure StatsSet where
  capture : Word64
  index : Nat
  t0 : Word64
  kind : Nat
  chargeBin : Bool
  greenOnly : Bool
  tiles : List (Nat × TileStat)
  /-- The profiles whose exposure was automatic when the capture was committed (R60). -/
  autos : List Nat := []
  deriving DecidableEq, Repr

/-- A capture in the datapath. -/
structure PdpJob where
  capture : Capture
  latch : PdpLatch
  /-- Column-calibrated optical-black rows seen so far (R89, R90). -/
  dark : List Row := []
  /-- B(j, b, π) by 8 j + 2 b + π, and o(j, k) of bank b by 256 j + 64 b + k, as used for this capture (R91). -/
  black : List (Nat × Int) := []
  ocol : List (Nat × Int) := []
  /-- Active rows after stage 2, in the order read. -/
  rows : List Row := []
  /-- Row-quads that entered the correction chain, and whether all have. -/
  quads : Nat := 0
  done : Bool := false
  deriving DecidableEq, Repr

/-- A released row-quad waiting for alignment (R453): its capture and position, the tick of its release, and the conversions
each bank has delivered. -/
structure WaitingQuad where
  capture : Word64
  position : Nat
  tick : Nat
  banks : List (List (List RawSample)) := [[], [], [], []]
  deriving DecidableEq, Repr

/-- Converters and datapath. -/
structure Pdp where
  waiting : List WaitingQuad := []
  jobs : List PdpJob := []
  /-- Used black values carried from capture to capture (R91, R94); an unlisted one is 4,096. -/
  black : List (Nat × Int) := []
  ocol : List (Nat × Int) := []
  /-- Capture indices from which the next used values equal the measured ones (R91). -/
  fresh : List Nat := [0]
  blackMean : Nat := 4096
  stats : Option StatsSet := none
  /-- The pinned set and the tick of its last read (R321). -/
  pinned : Option (StatsSet × Nat) := none
  deriving DecidableEq, Repr

/-! ## Pins (17) -/

/-- What a pad is driven to. -/
inductive Drive where
  | released | low | high
  deriving DecidableEq, Repr

/-- What a pad is latched at (R388): at a safe level or released, or driven by its sequencer at a level, which INVERT and OPEN_DRAIN
turn into a drive. -/
inductive Latch where
  | pad (d : Drive)
  | level (high : Bool)
  deriving DecidableEq, Repr

/-- One tint engine (R392). `next`: the state and outputs of this tick's evaluation, in force from the next one. -/
structure Tint where
  running : Bool := false
  state : Nat := 0
  out : Nat := 0
  next : Option (Nat × Nat) := none
  startTick : Nat := 0
  deriving DecidableEq, Repr

/-- `PIN.SHADE_STATEs` STATE (R405). -/
inductive ShadeState where
  | idle | running | halted
  deriving DecidableEq, Repr

/-- What a sequencer waits for (R395, R397), with the tick at which it came. -/
inductive ShadeWait where
  /-- WAIT_PIN begun at a tick. -/
  | pin (began : Nat) (met : Option Nat)
  | ticks (ends : Nat)
  | pull (ready : Option Nat)
  | push (ready : Option Nat)
  deriving DecidableEq, Repr

/-- What an operation does to a sequencer at the next tick (R398). -/
inductive ShadeChange where
  | start | halt | resume
  deriving DecidableEq, Repr

/-- One shade sequencer (R394). -/
structure Shade where
  state : ShadeState := .idle
  gen : Nat := 0
  d : Word := 0
  k : BitVec 16 := 0
  z : Bool := false
  t : Bool := false
  bc : Nat := 0
  pc : Nat := 0
  /-- The two signal lines, and the tick in which a pulse of each is high. -/
  line0 : Bool := false
  line1 : Bool := false
  pulse0 : Option Nat := none
  pulse1 : Option Nat := none
  inFifo : List Word := []
  outFifo : List Word := []
  first : Nat := 0
  length : Nat := 0
  entry : Nat := 0
  cycle : Nat := 4
  /-- Tick of the cycle boundary from which the next instruction or cycle runs. -/
  next : Nat := 0
  /-- The one-cycle instruction at `pc` is done, and at the boundary `next` the sequencer goes on at this word. -/
  target : Option Nat := none
  /-- The pin that instruction drove, if it is a SET, and what it drove. -/
  drove : Option (Nat × Latch) := none
  change : Option ShadeChange := none
  /-- Cycles of the current shift that have passed (R396). -/
  shifted : Nat := 0
  waiting : Option ShadeWait := none
  /-- Ticks of a delay left when halted (R403), or the whole cycles a WAIT_PIN has waited, in ticks. -/
  left : Nat := 0
  changed : Bool := false
  overrun : Bool := false
  stale : Nat := 0
  drops : Nat := 0
  lastPulled : Word := 0
  deriving DecidableEq, Repr

/-- One activity source (R385): the tick of its last `EV_PIN_OVERRUN`, and the detections since. -/
structure Activity where
  eventTick : Option Nat := none
  count : Nat := 0
  deriving DecidableEq, Repr

/-- Pins and engines. -/
structure Pin where
  /-- `PIN.CFGn` in force (R387); an unlisted pin has the reset value. -/
  cfg : List (Nat × Nat) := []
  /-- GP0 in bit 0 (R384): the levels that the outside was last seen to give the pads; each pin's sample of this tick, and of the
  tick before; the pins whose sample of this tick, and of the tick before, leaves the outside no choice, since the pad was driven, the
  buffer off or the conditioned level set by it; and the conditioned levels. -/
  pads : BitVec 16 := 0
  samples : BitVec 16 := 0
  before : BitVec 16 := 0
  fixed : BitVec 16 := 0xFFFF
  fixedBefore : BitVec 16 := 0xFFFF
  levels : BitVec 16 := 0
  /-- What the pads of FUNCTION 3 and 4 are latched at; an unlisted pin is released. -/
  latch : List (Nat × Latch) := []
  activity : List (Nat × Activity) := []
  /-- The arming unit (R389, R390): armed; the level is active; since when the level has been as it is; the hold limit has
  passed in this activation; the edge of this activation was delivered. -/
  armed : Bool := false
  active : Bool := false
  since : Nat := 0
  holdPassed : Bool := false
  delivered : Bool := false
  ignored : Nat := 0
  tint : Vector Tint 8 := Vector.replicate 8 {}
  /-- Tint tables: 6-bit entries by 256 × engine + index; an unlisted one is 0 (R392). -/
  tables : List (Nat × Nat) := []
  /-- The program store: 24-bit words by number; an unlisted one is 0 (R394). -/
  store : List (Nat × Nat) := []
  shade : Vector Shade 4 := Vector.replicate 4 {}
  /-- Tick of the last accepted PPS edge (R391). -/
  ppsPulse : Option Nat := none
  deriving DecidableEq, Repr

/-! ## Housekeeping converter (18) -/

/-- The kinds of work of the converter (R422). -/
inductive HkcWork where
  | scan | priority | calibration
  deriving DecidableEq, Repr

/-- A sequence under way: its channels and timing as taken at its start, and the slot it is at. -/
structure HkcPass where
  channels : List Nat
  timing : Nat
  slot : Nat := 0
  deriving DecidableEq, Repr

/-- The conversion running. -/
structure HkcConv where
  work : HkcWork
  channel : Nat
  timing : Nat
  /-- The reference it integrates under, coded as `HKC.REF` codes it (R408, R414). -/
  ref : Nat
  /-- Periods that have ended, whether the modulator saturated in one of them, and REF_SETTLED when the window began. -/
  periods : Nat := 0
  saturated : Bool := false
  settled : Bool
  /-- Tick of its start. -/
  start : Nat
  deriving DecidableEq, Repr

/-- A calibration phase queued or running (R413, R414). -/
structure HkcCal where
  channel : Nat
  phase : Nat
  target : Nat
  restarts : Nat := 0
  /-- Its next conversion is a restart of R415; the time of the latest one. -/
  again : Bool := false
  restartTime : Word64 := 0
  deriving DecidableEq, Repr

/-- One accumulator (R416). -/
structure HkcAcc where
  sum : Nat := 0
  count : Nat := 0
  deriving DecidableEq, Repr

/-- A converted value and the tick of its result (R417 to R419). -/
structure HkcValue where
  value : Int := 0
  tick : Option Nat := none
  deriving DecidableEq, Repr

/-- The housekeeping converter. -/
structure Hkc where
  settled : Bool := false
  /-- Tick at which the reference last began to settle (R408). -/
  refTick : Nat := 0
  conv : Option HkcConv := none
  /-- The scan pass under way, the tick at which a started pass begins, and the pass a delayed start interrupted. -/
  pass : Option HkcPass := none
  passDue : Option Nat := none
  prio : Option HkcPass := none
  prioDue : Option Nat := none
  /-- Channels of the priority sequence that waits its delay, as its trigger took them (R422). -/
  prioNext : List Nat := []
  /-- Grid origin of the TIMER starts (R410), and the last grid instant used. -/
  gridTick : Nat := 0
  gridUsed : Nat := 0
  suspended : Bool := false
  cal : Option HkcCal := none
  /-- `HKC.CAL_STATE` as last left (R422): channel, state, restarts. -/
  calChannel : Nat := 0
  calState : Nat := 0
  calRestarts : Nat := 0
  zeros : List (Nat × Int) := []
  /-- The records of the coefficients by channel (R414); without one, offset 0 and gain 4,194,304 (R407). -/
  coefs : List (Nat × Copies (Int × Nat)) := []
  results : List (Nat × Nat) := []
  acc : List (Nat × HkcAcc) := []
  /-- Converted values by channel: mV, 1/8 °C or 1/16 lux; an unlisted one is 0 and has no result. -/
  values : List (Nat × HkcValue) := []
  /-- Converted temperatures of channels 5 to 8 of the last 100 ms, each with its tick (R203). -/
  temps : List (Nat × Int) := []
  ovrCount : Word := 0
  missedScan : Nat := 0
  missedPrio : Nat := 0
  /-- The pulse-width unit (R411): the source is active; the tick at which it became so, where that was seen; the tick at which its
  last pulse ended and the width of it, until its event is taken. -/
  pwActive : Bool := false
  pwSince : Option Nat := none
  pwEnded : Option (Nat × Nat) := none
  deriving DecidableEq, Repr

/-! ## TAP and pads (20, 14) -/

/-- The data register the TAP has selected (R445). -/
inductive TapReg where
  | idcode | boundary | bypass | debug
  deriving DecidableEq, Repr

/-- The scanned outputs' source (R445, R446). -/
inductive TapDrive where
  | functional | boundary | highz
  deriving DecidableEq, Repr

/-- The TAP. -/
structure Tap where
  ir : BitVec 5 := 2
  /-- The cells loaded, and what the last scan captured (R446). -/
  boundary : BoundaryCells := {}
  captured : BoundaryCells := {}
  /-- The word the debugger last read (R347). -/
  data : Word := 0
  deriving DecidableEq, Repr

/-- Levels of the input lands that hold the device or its TAP in reset (R428, R348): RST_N, TRST_N and TEST_MODE. -/
structure Pad where
  rstN : Bool := true
  trstN : Bool := true
  testMode : Bool := false
  deriving DecidableEq, Repr

/-! ## The whole state -/

/-- The state of the block. -/
structure State where
  /-- Commands waiting, first in first out. -/
  pending : List Instr := []
  /-- The model's own: how many free values have been drawn (log 2). -/
  free : Nat := 0
  clk : Clk := {}
  pwr : Pwr := {}
  rst : Rst := {}
  wdg : Wdg := {}
  reg : Reg := {}
  ctl : Ctl := {}
  ev : Ev := {}
  par : Par := {}
  fus : Fus := {}
  role : Role := {}
  fw : Fw := {}
  nvs : Nvs := {}
  led : Led := {}
  sea : Sea := {}
  /-- The 32 views (R113). -/
  view : Vector View 32 := Vector.replicate 32 {}
  pace : Pace := {}
  lnk : Lnk := {}
  ets : Ets := {}
  pix : Pix := {}
  pdp : Pdp := {}
  tab : Tab := {}
  pin : Pin := {}
  hkc : Hkc := {}
  tap : Tap := {}
  pad : Pad := {}
  deriving DecidableEq, Repr

/-- The machine right after the power-on reset (R190): every field at its default. -/
def State.reset : State := {}

end Sys2Proof.Machine
end

