-- ==== Sys2Proof/Machine/FuseArray.lean ====
section
/-! DEFINITION. Reading the fuse array (14): words, units, groups, counters, the identity in force and the keys derived from it. -/

namespace Sys2Proof.Machine

/-- How a word resolves (R336), in the coding of R346. -/
inductive WordCode where
  | blank | valid | corrected | torn
  deriving DecidableEq, Repr

/-- The XOR of the numbers of the positions 1 to 38 that are 1 (R336): the syndrome of a codeword read. -/
def syndrome (cells : Nat) : Nat :=
  (List.range 38).foldl (fun s i => if cells.testBit i then s ^^^ (i + 1) else s) 0

/-- The parity of the first `n` cells. -/
def cellParity (n cells : Nat) : Bool :=
  (List.range n).foldl (fun p i => p != cells.testBit i) false

/-- The positions of the 32 data bits (R336): those of 1 to 38 that are no power of two. -/
def dataPositions : List Nat :=
  (List.range 38).filterMap fun i => if [1, 2, 4, 8, 16, 32].contains (i + 1) then none else some (i + 1)

/-- The data a codeword carries. -/
def wordData (cells : Nat) : Nat := maskOf (dataPositions.map fun p => cells.testBit (p - 1))

/-- The 39 cells that hold the value `v` (R336). -/
def wordCells (v : Nat) : Nat :=
  let d := ((List.range 32).zip dataPositions).foldl
    (fun c x => if v.testBit x.1 then c + 2 ^ (x.2 - 1) else c) 0
  let s := syndrome d
  let c := (List.range 6).foldl (fun c i => if s.testBit i then c + 2 ^ (2 ^ i - 1) else c) d
  if cellParity 38 c then c + 2 ^ 38 else c

/-- What one read of a word's 39 cells resolves to (R336): its code and its value. -/
def resolveWord (cells : Nat) : WordCode × Nat :=
  let s := syndrome cells
  let p := cellParity 39 cells
  if s = 0 && !p then (if cells = 0 then (.blank, 0) else (.valid, wordData cells))
  else if p && s ≤ 38 then
    (.corrected, wordData (if s = 0 then cells else cells ^^^ 2 ^ (s - 1)))
  else (.torn, 0)

/-- The reads of an unlisted item. -/
def blankReads : OtpReads := ⟨0, 0, 0⟩

/-- A word is WEAK when its three reads differ (R340). -/
def weakWord (r : OtpReads) : Bool := !(r.normal = r.low && r.normal = r.high)

/-- A unit latches set unless all nine cell reads are 0 (R340). -/
def readsSet (r : OtpReads) : Bool :=
  !(r.normal % 8 = 0 && r.low % 8 = 0 && r.high % 8 = 0)

/-- A unit is WEAK when its nine reads are neither all 0 nor all 1 (R340). -/
def weakUnit (r : OtpReads) : Bool :=
  readsSet r && !(r.normal % 8 = 7 && r.low % 8 = 7 && r.high % 8 = 7)

/-- The latched word `w`: code and value (R340: the corrected normal read). -/
def Fus.word (f : Fus) (w : Nat) : WordCode × Nat := resolveWord (spGet blankReads w f.latWords).normal

/-- Does unit `u` latch set? -/
def Fus.unitSet (f : Fus) (u : Nat) : Bool := readsSet (spGet blankReads u f.latUnits)

/-- The highest step set among the `n` units from `base` (R340). -/
def Fus.counter (f : Fus) (base n : Nat) : Nat :=
  f.latUnits.foldl (fun m x => if base ≤ x.1 && x.1 < base + n && readsSet x.2 then max m (x.1 - base + 1) else m) 0

/-- Steps of the counters of R339. -/
def Fus.lcSteps (f : Fus) : Nat := f.counter 0 3
def Fus.fwarSteps (f : Fus) : Nat := f.counter 3 128
def Fus.epochSteps (f : Fus) : Nat := f.counter 131 1024
def Fus.opRev (f : Fus) : Nat := f.counter 1155 64
def Fus.inRev (f : Fus) : Nat := f.counter 1219 64

/-- The lock unit of group `g` (R339). -/
def lockUnit (g : Nat) : Nat := 1283 + g

/-- First data word, number of data words and completion word of group `g` (R337). -/
def groupWords (g : Nat) : Nat × Nat × Nat :=
  [(0, 15, 15), (16, 15, 31), (32, 32, 64), (80, 15, 95), (96, 15, 111), (112, 15, 127), (128, 3, 131),
   (132, 59, 191)].getD g (0, 0, 0)

/-- The group a word belongs to, completion words included; none for a reserved word (R337). -/
def groupOf (w : Nat) : Option Nat :=
  (List.range 8).find? fun g => let x := groupWords g; (x.1 ≤ w && w < x.1 + x.2.1) || w = x.2.2

/-- The data words of a group as bytes, four a word (R337). -/
def Fus.groupBytes (f : Fus) (g : Nat) : Bytes :=
  let x := groupWords g
  (List.range x.2.1).flatMap fun i => leBytes 4 (f.word (x.1 + i)).2

/-- The completion word of a group (R338). -/
def Fus.completion (f : Fus) (g : Nat) : Nat := 0xC3A50000 + (crc32 (f.groupBytes g)).toNat % 65536

/-- Does any data word of the group read TORN? -/
def Fus.dataTorn (f : Fus) (g : Nat) : Bool :=
  let x := groupWords g
  (List.range x.2.1).any fun i => (f.word (x.1 + i)).1 = .torn

/-- Is the group complete (R338)? -/
def Fus.complete (f : Fus) (g : Nat) : Bool :=
  let c := f.word (groupWords g).2.2
  !f.dataTorn g && (c.1 = .valid || c.1 = .corrected) && c.2 = f.completion g

/-- The states of a group (R342), in the coding of `FUS.GROUP_STATE`. -/
inductive GroupState where
  | blank | open_ | complete | locked | invalid | void
  deriving DecidableEq, Repr

/-- Code of a group state (R342). -/
def GroupState.code : GroupState → Nat
  | .blank => 0 | .open_ => 1 | .complete => 2 | .locked => 3 | .invalid => 4 | .void => 5

/-- The state of group `g` (R342). -/
def Fus.group (f : Fus) (g : Nat) : GroupState :=
  let x := groupWords g
  let c := f.word x.2.2
  if f.unitSet (lockUnit g) then (if f.complete g then .locked else .void)
  else if f.complete g then .complete
  else if f.dataTorn g || c.1 != .blank then .invalid
  else if (List.range x.2.1).all fun i => (f.word (x.1 + i)).1 = .blank then .blank
  else .open_

/-- Is group `g` LOCKED? Only such a group gives values (R342). -/
def Fus.locked (f : Fus) (g : Nat) : Bool := f.group g = .locked

/-- The bytes of `n` words from word `w`. -/
def Fus.wordBytes (f : Fus) (w n : Nat) : Bytes :=
  (List.range n).flatMap fun i => leBytes 4 (f.word (w + i)).2

/-- `FUS.ID_BANK` (R350): 0 none, 1 A, 2 B, 0xFF VOID. -/
def Fus.idBank (f : Fus) : Nat :=
  if f.group 3 = .void || f.group 4 = .void then 0xFF
  else if f.locked 3 then 1 else if f.locked 4 then 2 else 0

/-- The first word of an identity bank. -/
def bankBase (bank : Nat) : Nat := if bank = 2 then 96 else 80

/-- The device ID of a bank (R337, R344): 0 where the bank gives none. -/
def Fus.idOf (f : Fus) (b : Nat) : Bytes := if b = 1 || b = 2 then f.wordBytes (bankBase b + 8) 4 else zeros 16

/-- The LOCKED identity bank since the boot, 0 where there is none; with the other bank VOID it is LOCKED all the same, and no operation
writes either bank (R342, R343). -/
def Fus.lockedBank (f : Fus) : Nat :=
  if f.bank = 0xFF then (if f.locked 3 then 1 else if f.locked 4 then 2 else 0) else f.bank

/-- The device ID in force since the boot (R314), and the one the array gives now. -/
def Fus.deviceId (f : Fus) : Bytes := f.idOf f.lockedBank
def Fus.latestId (f : Fus) : Bytes := ({ f with bank := f.idBank } : Fus).deviceId

/-- The identity seed of a bank (R337). -/
def Fus.seedOf (f : Fus) (b : Nat) : Bytes := f.wordBytes (bankBase b) 8

/-- The private key of the identity (R344 step 3). -/
def identityKey (seed : Bytes) : Bytes := (sha512 (seed ++ ascii "identity")).take 32

/-- The seal key of epoch `e` (R147). -/
def sealKey (seed : Bytes) (e : Nat) : Bytes := (sha512 (seed ++ ascii "seal" ++ leBytes 4 e)).take 32

/-- `RETIRE_SEAL` and `RETIRE_IDENTITY` (R335). -/
def Fus.retireSeal (f : Fus) : Bool := f.unitSet 1291
def Fus.retireIdentity (f : Fus) : Bool := f.unitSet 1292

/-- POLICY bit [0], LOCKED at 1: debug unlock allowed in COBALT (R347). -/
def Fus.debugPolicy (f : Fus) : Bool := f.locked 6 && (f.word 128).2.testBit 0

/-- Items of the latch that are WEAK (R340). -/
def Fus.weakCount (f : Fus) : Nat :=
  (f.latWords.filter fun x => weakWord x.2).length + (f.latUnits.filter fun x => weakUnit x.2).length

/-- The array latched (R340). -/
def Fus.latched (f : Fus) : Fus := { f with latWords := f.words, latUnits := f.units }

/-- `FUS.GROUP_STATE` (R350). -/
def Fus.groupStates (f : Fus) : Nat :=
  (List.range 8).foldl (fun a g => a + (f.group g).code * 8 ^ g) 0

/-- `FUS.OP_STATE` [2:0] (R350). -/
def Fus.opState (f : Fus) : Nat :=
  match f.tasks with
  | [] => 0
  | t :: _ => match t.purpose with | .identity => 2 | .reinforce => 3 | _ => 1

end Sys2Proof.Machine
end

