-- ==== Sys2Proof/Machine/Records.lean ====
section
/-! DEFINITION. The bytes of NVS and the records held there (07): the two copies of R182, the retained values by their owners (R181),
the subject staging buffers (R172), the activation record (R354) and the copying of blocks (R183). -/

namespace Sys2Proof.Machine

/-! ## Two copies (R182) -/

/-- Copy B is in force: it is the only valid one, or the newer in modulo-2^32 order. -/
def Copies.onB {α : Type} (c : Copies α) : Bool :=
  match c.a, c.b with
  | some x, some y => (y.1 - x.1).toNat < 2 ^ 31
  | none, some _ => true
  | _, none => false

/-- The copy in force. -/
def Copies.force {α : Type} (c : Copies α) : Option (Word × α) := if c.onB then c.b else c.a

/-- The value in force; none where neither copy is valid. -/
def Copies.now {α : Type} (c : Copies α) : Option α := c.force.map Prod.snd

/-- The value in force, or a default. -/
def Copies.get {α : Type} (c : Copies α) (d : α) : α := c.now.getD d

/-- The next write goes to copy A. -/
def Copies.toA {α : Type} (c : Copies α) : Bool := c.onB || c.a.isNone

/-- The sequence number of the next write. -/
def Copies.nextSeq {α : Type} (c : Copies α) : Word := c.force.elim 0 fun x => x.1 + 1

/-- A record write: the copy not in force is written. -/
def Copies.put {α : Type} (v : α) (c : Copies α) : Copies α :=
  if c.toA then { c with a := some (c.nextSeq, v), written := true } else { c with b := some (c.nextSeq, v), written := true }

/-- A record write cut short: the copy being written fails its CRC-32. -/
def Copies.torn {α : Type} (c : Copies α) : Copies α := if c.toA then { c with a := none } else { c with b := none }

/-- Both copies fail. -/
def Copies.lost {α : Type} (c : Copies α) : Copies α := { written := c.written }

/-- The record was written, and both copies fail. -/
def Copies.failed {α : Type} (c : Copies α) : Bool := c.written && c.now.isNone

/-- The value of record `k` of a list of records. -/
def recordAt {α : Type} (k : Nat) (l : Sparse (Copies α)) : Option α := ((spFind k l).getD {}).now

/-- Record `k` of a list of records written. -/
def recordPut {α : Type} (k : Nat) (v : α) (l : Sparse (Copies α)) : Sparse (Copies α) :=
  spPut k (((spFind k l).getD {}).put v) l

/-- Record `k` of a list of records changed by `f`, if it was ever written. -/
def onRecordAt {α : Type} (f : Copies α → Copies α) (k : Nat) (l : Sparse (Copies α)) : Sparse (Copies α) :=
  (spFind k l).elim l fun c => spPut k (f c) l

/-! ## Retained values by owner (R181) -/

/-- The values in force; the defaults where both copies of a record fail (DESIGN CHOICE, log 95: R182 does not say what the counts then
read). -/
def Pwr.retained (p : Pwr) : PwrTally := p.tally.get {}
def Ctl.retained (c : Ctl) : CtlTally := c.tally.get {}
def Rst.retained (r : Rst) : RstTally := r.tally.get {}
def Nvs.retained (n : Nvs) : NvsCounts := n.counts.get {}

/-- The values changed by `f`, in one record write. -/
def Pwr.retain (p : Pwr) (f : PwrTally → PwrTally) : Pwr := { p with tally := p.tally.put (f p.retained) }
def Ctl.retain (c : Ctl) (f : CtlTally → CtlTally) : Ctl := { c with tally := c.tally.put (f c.retained) }
def Rst.retain (r : Rst) (f : RstTally → RstTally) : Rst := { r with tally := r.tally.put (f r.retained) }
def Nvs.retain (n : Nvs) (f : NvsCounts → NvsCounts) : Nvs := { n with counts := n.counts.put (f n.retained) }

/-- The epoch transition record (R179); none where it is cleared. -/
def Nvs.transition (n : Nvs) : Option Transition := n.transitions.get none
def Nvs.putTransition (n : Nvs) (t : Option Transition) : Nvs := { n with transitions := n.transitions.put t }

/-- The journal record (R183). -/
def Nvs.journal (n : Nvs) : JournalRecord := n.journals.get {}
def Nvs.putJournal (n : Nvs) (j : JournalRecord) : Nvs := { n with journals := n.journals.put j }

/-- The export mark as written; none while it follows the oldest entry (R178). -/
def Nvs.mark (n : Nvs) : Option Word := n.marks.get none
def Nvs.putMark (n : Nvs) (m : Option Word) : Nvs := { n with marks := n.marks.put m }

/-- The status of a firmware update (R181). -/
def Fw.retained (f : Fw) : FwStatus := f.status.get {}
def Fw.update (f : Fw) : FwUpdate := f.retained.update
def Fw.loaded (f : Fw) : Option LoadedImage := f.retained.loaded
def Fw.putStatus (f : Fw) (x : FwStatus) : Fw := { f with status := f.status.put x }

/-! ## The activation record (R354) -/

/-- Its 128 bytes. -/
def Activation.bytes (x : Activation) (seq : Word) : Bytes :=
  let b := leBytes 4 seq.toNat ++ leBytes 1 x.active ++ leBytes 1 x.previous ++ leBytes 1 (boolNat x.trial) ++ leBytes 1 x.failed ++
    leBytes 4 x.activeVersion.toNat ++ leBytes 4 x.previousVersion.toNat ++ padTo 64 x.digest ++ zeros 44
  b ++ leBytes 4 (crc32 b).toNat

/-- What a copy holds, with its sequence; none where its CRC-32 is wrong. -/
def activationOf (b : Bytes) : Option (Word × Activation) :=
  if b.length = 128 && leAt 124 4 b = (crc32 (b.take 124)).toNat then
    some (BitVec.ofNat 32 (leAt 0 4 b),
      { active := leAt 4 1 b, previous := leAt 5 1 b, trial := leAt 6 1 b = 1, failed := leAt 7 1 b
        activeVersion := BitVec.ofNat 32 (leAt 8 4 b), previousVersion := BitVec.ofNat 32 (leAt 12 4 b), digest := slice 16 64 b })
  else none

/-- The two copies. -/
def Fw.records (f : Fw) : Copies Activation := ⟨activationOf f.recordA, activationOf f.recordB, true⟩

/-- Some copy is valid, and the record in force. -/
def Fw.recordValid (f : Fw) : Bool := f.records.now.isSome
def Fw.record (f : Fw) : Activation := f.records.get {}

/-- The record written. -/
def Fw.putRecord (f : Fw) (x : Activation) : Fw :=
  let b := x.bytes f.records.nextSeq
  if f.records.toA then { f with recordA := b } else { f with recordB := b }

/-! ## Bytes of NVS (R162) -/

/-- One byte of a byte memory: NVS, or a window of R276 (log 1: an unlisted byte reads 0, R168 for the ledger). -/
def nvRead (m : List Host.Cell) (a : Nat) : Byte := spGet 0 a m

/-- `n` bytes from address `a`. -/
def nvBytes (m : List Host.Cell) : Nat → Nat → Bytes
  | _, 0 => []
  | a, n + 1 => nvRead m a :: nvBytes m (a + 1) n

/-- Bytes written from address `a`. -/
def nvWrite (m : List Host.Cell) (a : Nat) : Bytes → List Host.Cell
  | [] => m
  | b :: bs => nvWrite (spSet 0 a b m) (a + 1) bs

/-- NVS with the addresses from `lo` up to but not including `hi` cleared to 0. -/
def nvClear (m : List Host.Cell) (lo hi : Nat) : List Host.Cell :=
  m.filter fun c => c.1 < lo || hi ≤ c.1

/-- Cells written one by one. -/
def nvCells (m : List Host.Cell) (l : List Host.Cell) : List Host.Cell := l.foldl (fun m c => spSet 0 c.1 c.2 m) m

/-- The cells of the 4 KiB block at `a`, moved to the block at `b`. -/
def blockCells (m : List Host.Cell) (a b : Nat) : List Host.Cell :=
  (m.filter fun c => a ≤ c.1 && c.1 < a + 4096).map fun c => (b + (c.1 - a), c.2)

/-- The block at `a` copied to `b`. -/
def nvCopy (m : List Host.Cell) (a b : Nat) : List Host.Cell := nvCells (nvClear m b (b + 4096)) (blockCells m a b)

/-- The block at `a` written; what the bytes leave of it is 0. -/
def nvBlock (m : List Host.Cell) (a : Nat) (b : Bytes) : List Host.Cell := nvWrite (nvClear m a (a + 4096)) a (b.take 4096)

/-- The canonical form of a byte memory: addresses strictly rising, no byte equal to what an unlisted address reads as. -/
def Memory.wf (m : List Host.Cell) : Bool := canonFrom (0 : Byte) 0 m

/-- Address of the shadow block (R181), of a firmware slot (R162), and of an image of `TBL_DEFECT` (2) or `TBL_COLCAL` (3) in the
calibration region (log 65). -/
def shadowAddr : Nat := 0x1D13000
def fwAddr (slot : Nat) : Nat := 0x1000000 + 0x400000 * slot
def imageAddr (table image : Nat) : Nat := if table = 3 then 0x1800000 + 0x60000 * image else 0x18C0000 + 0x80000 * image

/-! ## The NVS map (R162, R181) -/

/-- The parts of NVS: the map of R162, its retained region as R181 divides it. -/
inductive NvsArea where
  | ledger | slotA | slotB | calibration | configuration
  | ledgerState | counts | watchdog | resetRecords | vcoResults | firmwareStatus | journal | shadow
  | retainedReserved | reserved
  deriving DecidableEq, Repr

/-- First address of a part, and the address after its last. -/
def NvsArea.range : NvsArea → Nat × Nat
  | .ledger => (0, 0x1000000)
  | .slotA => (0x1000000, 0x1400000)
  | .slotB => (0x1400000, 0x1800000)
  | .calibration => (0x1800000, 0x1C00000)
  | .configuration => (0x1C00000, 0x1D00000)
  | .ledgerState => (0x1D00000, 0x1D01000)
  | .counts => (0x1D01000, 0x1D02000)
  | .watchdog => (0x1D02000, 0x1D03000)
  | .resetRecords => (0x1D03000, 0x1D10000)
  | .vcoResults => (0x1D10000, 0x1D11000)
  | .firmwareStatus => (0x1D11000, 0x1D12000)
  | .journal => (0x1D12000, 0x1D13000)
  | .shadow => (0x1D13000, 0x1D14000)
  | .retainedReserved => (0x1D14000, 0x1E00000)
  | .reserved => (0x1E00000, 0x2000000)

/-- The part an address lies in. -/
def nvsAreaOf (a : Nat) : Option NvsArea :=
  [.ledger, .slotA, .slotB, .calibration, .configuration, .ledgerState, .counts, .watchdog, .resetRecords, .vcoResults,
    .firmwareStatus, .journal, .shadow, .retainedReserved, .reserved].find? fun x : NvsArea => x.range.1 ≤ a && a < x.range.2

/-- The part a record of R182 lies in, by the contents that R162 and R181 name. Its bytes there have no layout, but for the activation
record (log 70). -/
def RecordName.area : RecordName → NvsArea
  | .par _ | .exportMark | .operator _ | .installer _ | .maker | .cert | .coef _ => .configuration
  | .colTable | .defectTable | .dcgRatio => .calibration
  | .pll _ => .vcoResults
  | .fwStatus | .activation => .firmwareStatus
  | .power | .ctl | .counts => .counts
  | .reset => .watchdog
  | .transition => .ledgerState
  | .journal => .journal

/-- A write to a part of NVS restarts the retention account of the calibration region or of its firmware slot (R186). -/
def Nvs.wrote (n : Nvs) (a : NvsArea) : Nvs :=
  if a = .slotA then n.retain fun t => { t with retentionA := 0 }
  else if a = .slotB then n.retain fun t => { t with retentionB := 0 }
  else if a = .calibration then n.retain fun t => { t with retentionCal := 0 }
  else n

/-- Address of the epoch transition record (R179). -/
def transitionAddr : Nat := 0x1D00200

/-! ## Subject staging buffers (R172 step 2) -/

/-- What a buffer holds: the sequence, the subject, and the displaced head, or the mark that the slot held none. -/
structure Staging where
  seq : Word
  subject : Bytes
  displaced : Option Bytes
  deriving DecidableEq, Repr

/-- Address of the buffer of sequence `q` (R181). -/
def stageAddr (q : Word) : Nat := 0x1D00400 + 0x200 * (q.toNat % 2)

/-- The bytes of a buffer, its CRC-32 last (log 65: the spec gives the contents, not their places). -/
def Staging.bytes (x : Staging) : Bytes :=
  let b := leBytes 4 x.seq.toNat ++ leBytes 2 x.subject.length ++ leBytes 1 (boolNat x.displaced.isSome) ++ zeros 1 ++
    padTo 64 (x.displaced.getD []) ++ x.subject
  b ++ leBytes 4 (crc32 b).toNat

/-- What the buffer at `a` holds; nothing where it fails its CRC-32. -/
def stagingAt (m : List Host.Cell) (a : Nat) : Option Staging :=
  let n := leNat (nvBytes m (a + 4) 2)
  if 436 < n then none
  else
    let b := nvBytes m a (76 + n)
    if leAt (72 + n) 4 b = (crc32 (b.take (72 + n))).toNat then
      some ⟨BitVec.ofNat 32 (leAt 0 4 b), slice 72 n b, if leAt 6 1 b = 1 then some (slice 8 64 b) else none⟩
    else none

/-- The buffer of sequence `q`, and the buffer written. -/
def Nvs.stage (n : Nvs) (q : Word) : Option Staging := stagingAt n.mem (stageAddr q)
def Nvs.setStage (n : Nvs) (q : Word) (x : Staging) : Nvs := { n with mem := nvWrite n.mem (stageAddr q) x.bytes }

/-- What the buffer of `q` has recorded for `q` itself. -/
def Nvs.staged (n : Nvs) (q : Word) : Option Staging := (n.stage q).filter fun x => x.seq = q

/-! ## Records by name -/

/-- The record of a name changed by `f`, whatever it holds. -/
def State.onRecord (s : State) (f : {α : Type} → Copies α → Copies α) : RecordName → State
  | .par id => { s with par := { s.par with persist := onRecordAt f id s.par.persist } }
  | .operator k => { s with role := { s.role with operators := onRecordAt f k s.role.operators } }
  | .installer k => { s with role := { s.role with installers := onRecordAt f k s.role.installers } }
  | .maker => { s with role := { s.role with maker := f s.role.maker } }
  | .cert => { s with role := { s.role with cert := f s.role.cert } }
  | .colTable => { s with tab := { s.tab with colTable := f s.tab.colTable } }
  | .defectTable => { s with tab := { s.tab with defectTable := f s.tab.defectTable } }
  | .dcgRatio => { s with tab := { s.tab with dcgRatio := f s.tab.dcgRatio } }
  | .coef ch => { s with hkc := { s.hkc with coefs := onRecordAt f ch s.hkc.coefs } }
  | .pll k => { s with clk := { s.clk with pllRecords := onRecordAt f k s.clk.pllRecords } }
  | .fwStatus => { s with fw := { s.fw with status := f s.fw.status } }
  | .activation =>
    let c := f s.fw.records
    { s with fw := { s.fw with
        recordA := if c.a.isNone then [] else s.fw.recordA, recordB := if c.b.isNone then [] else s.fw.recordB } }
  | .power => { s with pwr := { s.pwr with tally := f s.pwr.tally } }
  | .ctl => { s with ctl := { s.ctl with tally := f s.ctl.tally } }
  | .reset => { s with rst := { s.rst with tally := f s.rst.tally } }
  | .counts => { s with nvs := { s.nvs with counts := f s.nvs.counts } }
  | .exportMark => { s with nvs := { s.nvs with marks := f s.nvs.marks } }
  | .transition => { s with nvs := { s.nvs with transitions := f s.nvs.transitions } }
  | .journal => { s with nvs := { s.nvs with journals := f s.nvs.journals } }

end Sys2Proof.Machine
end

