-- ==== Sys2Proof/Machine/Ops.lean ====
section
/-! DEFINITION. The operations every family shares: time stamps, interrupt flags, packet queues (R244, R249), events (R300),
the sealing state (R159), and one ledger commit (R172). -/

namespace Sys2Proof.Machine

/-- The outcome of a command that goes on. -/
abbrev Result := Host.Outcome State Fault Refusal

/-- Bit masks joined. -/
def joinMasks (l : List Nat) : Nat := l.foldl (· ||| ·) 0

/-- Saturating count: `n + 1`, at most `m`. -/
def bump (m n : Nat) : Nat := min m (n + 1)

/-- A 32-bit count that saturates at all ones. -/
def bumpWord (w : Word) : Word := if w = 0xFFFFFFFF then w else w + 1

/-- Device time (R260). -/
def State.now (s : State) : Word64 := s.clk.time

/-- A closing run is in progress (R197). -/
def State.closing (s : State) : Bool := s.pwr.run.isSome

/-- The view `v`; a number above 31 names no view and reads as an idle one. -/
def State.viewAt (s : State) (v : Nat) : View := (s.view.toList).getD v {}

/-- View `v` replaced. -/
def State.setView (s : State) (v : Nat) (x : View) : State :=
  if h : v < 32 then { s with view := s.view.set v x h } else s

/-- View `v` changed by `f`. -/
def State.onView (s : State) (v : Nat) (f : View → View) : State := s.setView v (f (s.viewAt v))

/-- The numbers of the views that are not IDLE. -/
def State.busyViews (s : State) : List Nat := (List.range 32).filter fun v => (s.viewAt v).state != .idle

/-- Every view is IDLE. -/
def State.viewsIdle (s : State) : Bool := s.busyViews.isEmpty

/-- The views that are running: STARTING of a reactivation and STOPPING views still take part until they end. -/
def State.runningViews (s : State) : List Nat := (List.range 32).filter fun v => (s.viewAt v).state = .running

/-! ## Interrupt flags (R282) -/

/-- The W1C bit `b` of `IRQ_STATUS` set. -/
def State.setIrq (s : State) (b : Nat) : State :=
  { s with reg := { s.reg with irqStatus := s.reg.irqStatus ||| BitVec.ofNat 32 (2 ^ b) } }

/-! ## Packets (R237) -/

/-- The bytes of a packet: header, body and CRC-32. -/
def Packet.bytes (p : Packet) : Bytes :=
  let h := leBytes 1 p.kind ++ leBytes 1 (boolNat p.resent) ++ leBytes 2 (20 + p.body.length) ++
    leBytes 4 p.seq.toNat ++ leBytes 1 p.view ++ leBytes 1 p.gen ++ leBytes 1 p.stream ++ zeros 5 ++ p.body
  h ++ leBytes 4 (crc32 h).toNat

/-- Size of a packet in bytes. -/
def Packet.size (p : Packet) : Nat := 20 + p.body.length

/-- Bytes held in a queue. -/
def queueSize (q : List Packet) : Nat := q.foldl (fun a p => a + p.size) 0

/-- Capacities of the queues of R244. -/
def controlCap : Nat := 1048576
def sealCap : Nat := 4194304
def dataCap : Nat := 33554432

/-- The queue without its oldest packet of kind `k`; none if it holds none. -/
def dropOldest (k : Nat) : List Packet → Option (List Packet)
  | [] => none
  | p :: q => if p.kind = k then some q else (dropOldest k q).map (p :: ·)

/-- The control queue with the oldest EVENTs discarded until `n` bytes fit, and how many were discarded (R249). `fuel` at
least the queue's length. -/
def makeRoom : Nat → Nat → List Packet → List Packet × Nat
  | 0, _, q => (q, 0)
  | f + 1, n, q =>
    if queueSize q + n ≤ controlCap then (q, 0)
    else match dropOldest 6 q with
      | none => (q, 0)
      | some q' => let r := makeRoom f n q'; (r.1, r.2 + 1)

/-- The packet takes the next sequence (R246). -/
def State.numbered (s : State) (p : Packet) : Packet := { p with seq := s.lnk.seq }

/-- A control packet offered to its queue (R249): whether it entered, and the state. EVENTs that had to make room are
counted, and so is an EVENT that finds no room. -/
def State.offerControl (s : State) (p : Packet) : Bool × State :=
  let r := makeRoom s.lnk.control.length p.size s.lnk.control
  let fits := queueSize r.1 + p.size ≤ controlCap
  let dropped := BitVec.ofNat 32 (r.2 + (if fits || p.kind != 6 then 0 else 1))
  let l := { s.lnk with
    control := if fits then r.1 ++ [s.numbered p] else r.1
    seq := if fits then s.lnk.seq + 1 else s.lnk.seq
    eventsDropped := s.lnk.eventsDropped + dropped
    evDropSince := s.lnk.evDropSince + dropped }
  (fits, { s with lnk := l })

/-- The seal queue with one packet discarded: the oldest SEAL_SIG, or else the oldest SEAL_RECORD (R249). -/
def dropSeal (q : List Packet) : List Packet := (dropOldest 5 q).getD ((dropOldest 4 q).getD q)

/-- The seal queue with packets discarded until `n` bytes fit, and how many. -/
def makeSealRoom : Nat → Nat → List Packet → List Packet × Nat
  | 0, _, q => (q, 0)
  | f + 1, n, q =>
    if queueSize q + n ≤ sealCap then (q, 0)
    else let r := makeSealRoom f n (dropSeal q); (r.1, r.2 + 1)

/-- A seal packet put into its queue (R249). -/
def State.pushSeal (s : State) (p : Packet) : State :=
  let r := makeSealRoom s.lnk.sealQ.length p.size s.lnk.sealQ
  { s with lnk := { s.lnk with
      sealQ := r.1 ++ [s.numbered p], seq := s.lnk.seq + 1
      sealDropped := s.lnk.sealDropped + BitVec.ofNat 32 r.2
      sealDropSince := s.lnk.sealDropSince + BitVec.ofNat 32 r.2 } }

/-- A data packet put into its queue. From t0 of a closing run on, one that finds the queue full is discarded (R251). -/
def State.pushData (s : State) (p : Packet) : State :=
  if s.closing && dataCap < queueSize s.lnk.data + p.size then s
  else { s with lnk := { s.lnk with data := s.lnk.data ++ [s.numbered p], seq := s.lnk.seq + 1 } }

/-- Is the packet of sequence `q` still to be sent? -/
def Lnk.waits (l : Lnk) (q : Word) : Bool :=
  (l.data ++ l.sealQ ++ l.resend).any fun p => p.seq = q && 1 ≤ p.kind && p.kind ≤ 7

/-- May the packet leave now (R244: a seal packet waits for what R13 and R150 put before it)? -/
def Lnk.mayLeave (l : Lnk) (p : Packet) : Bool :=
  match p.after with
  | none => true
  | some q => !l.waits q

/-! ## Events (R300 to R302) -/

/-- An event record (R300). -/
def eventRecord (code : Nat) (seq : Word) (time : Word64) (args : Bytes) : Record :=
  leBytes 2 code ++ [0xFF, 0] ++ leBytes 4 seq.toNat ++ leBytes 8 time.toNat ++ padTo 48 args

/-- The record joins those waiting for the ring (R301): not from t0 of a closing run, and before MBX_READY only while fewer
than 32 wait. -/
def State.holdRecord (s : State) (r : Record) : State :=
  if s.closing then s
  else if !s.ctl.ready && 32 ≤ s.ev.waiting.length then
    { s with reg := { s.reg with evtLost := bumpWord s.reg.evtLost } }.setIrq 2
  else { s with ev := { s.ev with waiting := s.ev.waiting ++ [r] } }

/-- An event is raised: it takes the next event sequence, is held for the ring and goes out as an EVENT packet (R300). -/
def State.raise (s : State) (code : Nat) (time : Word64) (args : Bytes) : State :=
  let r := eventRecord code s.ev.seq time args
  let s1 := { s with ev := { s.ev with seq := s.ev.seq + 1 } }.holdRecord r
  (s1.offerControl { kind := 6, body := r }).2

/-- `EV_LOS` and `EV_LOL` (R302). -/
def State.raiseLos (s : State) (source : Nat) (on : Bool) : State :=
  s.raise 7 s.now (leBytes 1 source ++ leBytes 1 (boolNat on))
def State.raiseLol (s : State) (source : Nat) (on : Bool) : State :=
  s.raise 8 s.now (leBytes 1 source ++ leBytes 1 (boolNat on))

/-! ## Sealing state (R156 to R159) -/

/-- The sealing states, in the coding of `SEAL.STATE`. -/
inductive SealState where
  | sealed | debugUnsealed | vermilion | retired | unprovisioned
  deriving DecidableEq, Repr

/-- Code of a sealing state (R160). -/
def SealState.code : SealState → Nat
  | .sealed => 0 | .debugUnsealed => 1 | .vermilion => 2 | .retired => 3 | .unprovisioned => 4

/-- UNPROVISIONED applies (R159): CHALK, or IVORY with no identity bank LOCKED at the boot. -/
def State.unprovisioned (s : State) : Bool := s.fus.lifecycle = 0 || (s.fus.lifecycle = 1 && s.fus.lockedBank = 0)

/-- `SEAL.STATE` (R159: of the states that apply, the later in the list). -/
def State.sealState (s : State) : SealState :=
  if s.fus.lifecycle = 3 then .retired
  else if s.sea.vermilion != 0 then .vermilion
  else if s.unprovisioned then .unprovisioned
  else if s.fus.debug && s.fus.lifecycle = 2 then .debugUnsealed
  else .sealed

/-- The sealing states in which seal keys are used (R150, R154). -/
def State.signs (s : State) : Bool := s.sealState = .sealed || s.sealState = .debugUnsealed

/-- A ledger runs (R165, R158, R159): the boot has recovered it, and the life-cycle is IVORY or COBALT with an identity in force
since the boot; in COBALT also with a VOID one, in Vermilion (R157). -/
def State.ledgerRuns (s : State) : Bool :=
  s.led.ready && (s.fus.lifecycle = 1 || s.fus.lifecycle = 2) && s.fus.bank != 0 && !s.unprovisioned

/-- Entries may be committed now: a ledger runs, a closing run commits entries at all (R198), and the EPOCH operation is not
clearing or opening (R187). -/
def State.commits (s : State) : Bool :=
  s.ledgerRuns && (match s.pwr.run with | some r => r.commits | none => true)

/-! ## Progress and hold-off (R374, R377) -/

/-- Code of a reset cause (R281). -/
def Cause.code : Cause → Nat
  | .por => 0 | .pin => 1 | .wdogTask => 2 | .wdogProgress => 3 | .supCmd => 4 | .umber => 5 | .fwUpdate => 6 | .debug => 7
  | .thermal => 8

/-- A unit of progress: the monitors restart their counts. -/
def State.progress (s : State) (l : List Nat) : State :=
  { s with wdg := { s.wdg with counts := l.foldl (fun m i => spErase i m) s.wdg.counts } }

/-- Nothing a decided reset is held off for is still under way. -/
def State.holdoffOver (s : State) (d : Decided) : Bool := !d.commit && s.nvs.blocks.isEmpty && s.fus.tasks.isEmpty

/-- Called when a commit, a block operation or an OTP item has ended: the hold-off of a decided reset ends with the last of
them. -/
def State.workDone (s : State) (commit : Bool) : State :=
  match s.rst.decided with
  | none => s
  | some d =>
    let d1 := { d with commit := d.commit && !commit }
    let d2 := if d1.ended.isNone && s.holdoffOver d1 then { d1 with ended := some s.clk.ticks } else d1
    { s with rst := { s.rst with decided := some d2 } }

/-! ## The ledger (07) -/

/-- Number of ledger slots. -/
def slots : Nat := 131072

/-- Address of the slot of sequence `q` (R165). -/
def slotAddr (q : Word) : Nat := 128 * (q.toNat % slots)

/-- The 128 bytes stored in the slot of sequence `q`. -/
def State.entryAt (s : State) (q : Word) : Bytes := nvBytes s.nvs.mem (slotAddr q) 128

/-- Has the stored entry a correct CRC-32 (R166)? -/
def entryValid (e : Bytes) : Bool := leAt 104 4 e = (crc32 (e.take 104)).toNat

/-- Does the slot of `q` hold a valid entry of that sequence? -/
def holdsEntry (m : List Host.Cell) (q : Word) : Bool :=
  let e := nvBytes m (slotAddr q) 128
  entryValid e && leAt 4 4 e = q.toNat && leAt 0 1 e != 0

/-- Code of an entry kind (R168). -/
def Kind.code : Kind → Nat
  | .seg => 1 | .boot => 2 | .config => 3 | .time => 4 | .debug => 5 | .close => 6 | .epoch => 7 | .role => 8 | .fw => 9

/-- The genesis head of epoch `e` (R146). -/
def genesisHead (deviceId : Bytes) (e : Nat) (h : Bytes) : Bytes :=
  sha512 (ascii "CDK-GENS" ++ deviceId ++ leBytes 4 e ++ h)

/-- `LEDGER.OLDEST_SEQ`. -/
def State.oldestSeq (s : State) : Word := s.led.nextSeq - BitVec.ofNat 32 s.led.present

/-- `LEDGER.EXPORT_MARK` (R178). -/
def State.exportMark (s : State) : Word := s.nvs.mark.getD s.oldestSeq

/-- Is the entry of sequence `q` present? -/
def State.present (s : State) (q : Word) : Bool := (q - s.oldestSeq).toNat < s.led.present

/-- The anchor (R173). -/
def anchorBytes (last : Word) (epoch present : Nat) (head floor : Bytes) : Bytes :=
  let a := leBytes 4 last.toNat ++ leBytes 4 epoch ++ leBytes 4 present ++ zeros 4 ++ padTo 64 head ++ padTo 64 floor
  a ++ leBytes 4 (crc32 a).toNat ++ zeros 108

/-- Address of the anchor copy that the commit of sequence `q` writes (R172 step 6, R173). -/
def anchorAddr (q : Word) : Nat := 0x1D00000 + 0x100 * (q.toNat % 2)

/-- The entry flags (R166): UMBER, VERMILION, SEA_WEDGED, DEBUG_UNSEALED, GENESIS. -/
def State.entryFlags (s : State) (c : Commit) : Nat :=
  let wedged := match s.pwr.run with | some r => r.wedged | none => false
  boolNat s.closing + 2 * boolNat (s.sea.vermilion != 0) + 4 * boolNat (c.kind = .close && wedged) +
    8 * boolNat s.fus.debug + 16 * boolNat (s.led.present = 0)

/-- Does the kind take the commit time as both timestamps (R168)? -/
def Kind.stamped : Kind → Bool
  | .boot | .debug | .epoch | .fw => true
  | _ => false

/-- The event counter a kind carries (R168): the retained count with this entry included. -/
def State.counterOf (s : State) (c : Commit) : Word64 :=
  match c.kind with
  | .boot => s.nvs.retained.bootCount + 1
  | .time => s.nvs.retained.timeCount + 1
  | .close => s.nvs.retained.closeCount + 1
  | .debug => s.nvs.retained.debugCount
  | _ => c.counter

/-- The close flags (R170). -/
def Run.flags (r : Run) : Nat := boolNat r.wedged + 2 * boolNat r.abandoned + 4 * boolNat r.discarded

/-- The subject as NVS completes it (R145 step 1; R170: the closing sequence of a closing EPOCH entry is its own; the close flags
are those at the commit, R202). -/
def State.fillSubject (s : State) (c : Commit) : Bytes :=
  match c.kind with
  | .seg =>
    overlay (overlay c.subject 76 (leBytes 4 s.led.epoch ++ leBytes 4 s.led.nextSeq.toNat)) 224 s.led.lastHead
  | .epoch => if leAt 8 1 c.subject = 1 then overlay c.subject 20 (leBytes 4 s.led.nextSeq.toNat) else c.subject
  | .close => overlay c.subject 9 (leBytes 1 (s.pwr.run.elim 0 Run.flags))
  | _ => c.subject

/-- Bytes 0 to 39 of the entry (R166). -/
def State.entryFields (s : State) (c : Commit) : Bytes :=
  let first := if c.kind.stamped then s.now else c.first
  let last := if c.kind.stamped || c.kind = .close then s.now else c.last
  leBytes 1 c.kind.code ++ leBytes 1 c.view ++ leBytes 1 c.gen ++ leBytes 1 (s.entryFlags c) ++
    leBytes 4 s.led.nextSeq.toNat ++ leBytes 8 (s.counterOf c).toNat ++ leBytes 8 first.toNat ++ leBytes 8 last.toNat ++
    leBytes 4 c.frames.toNat ++ leBytes 4 c.gaps.toNat

/-- The retained counts with one entry of the kind added (R186). -/
def Nvs.counted (n : Nvs) (k : Kind) : Nvs :=
  match k with
  | .boot => n.retain fun t => { t with bootCount := t.bootCount + 1 }
  | .time => n.retain fun t => { t with timeCount := t.timeCount + 1 }
  | .close => n.retain fun t => { t with closeCount := t.closeCount + 1 }
  | _ => n

/-- The displaced head of the commit of `q` (R172 step 2): what the staging buffer already holds for `q`, or the head of the
valid entry of sequence `q` − 131,072 in the slot. -/
def State.displaced (s : State) (q : Word) : Option Bytes :=
  match s.nvs.staged q with
  | some x => x.displaced
  | none => if holdsEntry s.nvs.mem (q - BitVec.ofNat 32 slots) then some (slice 40 64 (s.entryAt q)) else none

/-- `LEDGER.LOST` and the export mark when the commit of `q` overwrites the entry `o` (R178). -/
def State.overwritten (s : State) : Nvs :=
  if s.led.present < slots then s.nvs
  else
    let o := s.oldestSeq
    let n := s.nvs.retain fun t => { t with lost := t.lost + 1 }
    match s.nvs.mark with
    | none => n
    | some m => if o = m then n.putMark none else if (o - m).toNat < 2 ^ 31 then n else s.nvs

/-- Domain `i` is powered. -/
def State.powered (s : State) (i : Nat) : Bool := s.pwr.domains.getLsbD i

/-- Domain `i` switched on; its power-up ends at DOMAIN_POWER_UP_DONE. A domain already on is left as it is. -/
def State.domainOn (s : State) (i : Nat) : State :=
  if s.powered i then s
  else { s with pwr := { s.pwr with
    domains := s.pwr.domains ||| BitVec.ofNat 56 (2 ^ i), poweringUp := s.pwr.poweringUp ++ [i] } }

/-- Domain `i` switched off. -/
def State.domainOff (s : State) (i : Nat) : State :=
  { s with pwr := { s.pwr with
    domains := s.pwr.domains &&& ~~~(BitVec.ofNat 56 (2 ^ i)), poweringUp := s.pwr.poweringUp.filter (· != i) } }

def State.domainsOn (s : State) (l : List Nat) : State := l.foldl State.domainOn s
def State.domainsOff (s : State) (l : List Nat) : State := l.foldl State.domainOff s

/-- A domain is powered and its power-up has ended. -/
def State.domainReady (s : State) (i : Nat) : Bool := s.powered i && !s.pwr.poweringUp.contains i

/-- A signing job is waiting: `PD_SEA_SIGN` is powered (R193). The queue of prompt jobs loses its oldest when it is full (R153). -/
def State.pushJob (s : State) (j : SignJob) : State :=
  let full := 256 ≤ s.sea.prompt.length
  { s with sea := { s.sea with
      prompt := (if full then s.sea.prompt.drop 1 else s.sea.prompt) ++ [j]
      sigSkipped := if full then s.sea.sigSkipped + 1 else s.sea.sigSkipped } }.domainOn 40

/-- The view fields of a SEAL_RECORD or SEAL_SIG header (R238): a SEG entry's own, else none. -/
def headerView (kind view gen : Nat) : Nat × Nat := if kind = 1 then (view, gen) else (0xFF, 0)

/-- What follows a commit on the link and in SEA (R150, R157): the SEAL_RECORD, and the signing job outside a closing run and
Vermilion. -/
def State.publish (s : State) (c : Commit) (q : Word) (epoch : Nat) (entry subject head : Bytes) : State :=
  if s.sea.vermilion != 0 && c.kind != .seg then s
  else
    let record := s.lnk.seq
    let h := headerView c.kind.code c.view c.gen
    let s1 := { s.pushSeal { kind := 4, view := h.1, gen := h.2, stream := c.stream,
                             body := entry ++ subject, after := c.after } with
                sea := { s.sea with recordsSent := s.sea.recordsSent + 1 } }
    if s.signs && !s.closing then
      s1.pushJob ⟨q, epoch, c.kind.code, h.1, h.2, c.stream, head, some record, false⟩
    else s1

/-- What the commit of `c` writes into its staging buffer (step 2). -/
def State.staging (s : State) (c : Commit) : Staging := ⟨s.led.nextSeq, s.fillSubject c, s.displaced s.led.nextSeq⟩

/-- The chain head of the entry (step 3, R145), and the entry (step 5). -/
def State.entryHead (s : State) (c : Commit) : Bytes := sha512 (s.led.lastHead ++ s.entryFields c ++ sha512 (s.fillSubject c))
def State.entryBytes (s : State) (c : Commit) : Bytes :=
  let b := s.entryFields c ++ s.entryHead c
  b ++ leBytes 4 (crc32 b).toNat ++ zeros 20

/-- The staging buffer written, and after it the slot (steps 2 and 5). -/
def State.writeStage (s : State) (c : Commit) : State := { s with nvs := s.nvs.setStage s.led.nextSeq (s.staging c) }
def State.writeEntry (s : State) (c : Commit) : State :=
  let n := (s.writeStage c).nvs
  { s with nvs := { n with mem := nvWrite n.mem (slotAddr s.led.nextSeq) (s.entryBytes c) } }

/-- The ledger with the entry of head `head` added, and the anchor that says so (step 6). -/
def State.ledWith (s : State) (head floor : Bytes) : Led :=
  { s.led with
    nextSeq := s.led.nextSeq + 1, present := min slots (s.led.present + 1), lastHead := head, floorHead := floor }
def Led.anchor (l : Led) : Bytes := anchorBytes (l.nextSeq - 1) l.epoch l.present l.lastHead l.floorHead

/-- One commit (R172, R145): steps 1 to 6, then what depends on it; it counts against the block operation running (R185). -/
def State.commitEntry (s : State) (c : Commit) : State :=
  let s := (s.progress [44, 46]).workDone true
  let q := s.led.nextSeq
  let x := s.staging c
  let head := s.entryHead c
  let l := s.ledWith head (x.displaced.getD s.led.floorHead)
  let n := s.overwritten.counted c.kind
  let n := { n with
    mem := nvWrite (s.writeEntry c).nvs.mem (anchorAddr q) l.anchor
    commits := n.commits + 1
    interleaved := if n.blocks.isEmpty then 0 else n.interleaved + 1
    recent := s.clk.ticks :: n.recent }
  { s with nvs := n, led := l }.publish c q s.led.epoch (s.entryBytes c) x.subject head

/-- A commit is requested (R187: in order); nothing is requested where no entry can be committed. -/
def State.request (s : State) (c : Commit) : State :=
  if s.commits then { s with nvs := { s.nvs with queue := s.nvs.queue ++ [c] } } else s

/-- Every commit requested before is made, oldest first. -/
def State.flushCommits (s : State) : State :=
  s.nvs.queue.foldl State.commitEntry { s with nvs := { s.nvs with queue := [] } }

/-- The commit made now, after those requested before it; nothing where no entry can be committed. -/
def State.commitNow (s : State) (c : Commit) : State :=
  if s.commits then s.flushCommits.commitEntry c else s

/-- The subject header (R169). -/
def subjectHead (k : Kind) (len : Nat) : Bytes :=
  leBytes 2 1 ++ leBytes 2 len ++ leBytes 1 k.code ++ zeros 3

/-- The CONFIG or ROLE fields from offset 8 to 95 (R170). -/
def authBytes (a : Auth) (status : Nat) : Bytes :=
  leBytes 2 a.code ++ leBytes 2 a.tag ++ leBytes 4 a.session ++ leBytes 4 a.sequence ++ leBytes 1 a.role ++
    leBytes 1 a.slot ++ zeros 2 ++ leBytes 4 status ++ zeros 4 ++ padTo 64 a.digest

/-- The counter of a CONFIG or ROLE entry (R168). -/
def authCounter (a : Auth) : Word64 := BitVec.ofNat 64 (a.session * 2 ^ 32 + a.sequence)

/-- A CONFIG entry for a command (R170, R171). -/
def State.configEntry (s : State) (a : Auth) (view gen status : Nat) : Commit :=
  { kind := .config, view := view, gen := gen, counter := authCounter a, first := s.now, last := s.now,
    subject := subjectHead .config 96 ++ authBytes a status }

/-- A TIME entry for a step (R170, R267). -/
def timeEntry (source : Nat) (before after : Word64) (step : Int) : Commit :=
  { kind := .time, first := before, last := after,
    subject := subjectHead .time 40 ++ leBytes 1 source ++ zeros 7 ++ leBytes 8 before.toNat ++ leBytes 8 after.toNat ++
      leBytes 8 (signedField 64 step) }

/-- A DEBUG entry (R170). -/
def debugEntry (action : Nat) (digest : Bytes) : Commit :=
  { kind := .debug, subject := subjectHead .debug 96 ++ leBytes 1 action ++ zeros 23 ++ padTo 64 digest }

/-- An EPOCH entry (R170). -/
def epochEntry (phase old : Nat) (closing : Word) (digest oldHead : Bytes) : Commit :=
  { kind := .epoch, counter := BitVec.ofNat 64 (old + 1),
    subject := subjectHead .epoch 160 ++ leBytes 1 phase ++ zeros 3 ++ leBytes 4 old ++ leBytes 4 (old + 1) ++
      leBytes 4 closing.toNat ++ zeros 8 ++ padTo 64 digest ++ padTo 64 oldHead }

/-- A FW entry (R170). -/
def fwEntry (action slot fwar : Nat) (version : Word) (digest : Bytes) : Commit :=
  { kind := .fw, counter := version.setWidth 64,
    subject := subjectHead .fw 96 ++ leBytes 1 action ++ leBytes 1 slot ++ leBytes 2 fwar ++ leBytes 4 version.toNat ++
      zeros 16 ++ padTo 64 digest }

/-! ## Block reservation (R74, R142) -/

/-- A segment counter value is taken; the end of a block reserves the next 4,096 (R142). -/
def State.takeSegment (s : State) : Word64 × State :=
  let n := s.sea.segNext
  let s1 := { s with sea := { s.sea with segNext := n + 1 } }
  (n, if n = s.nvs.retained.segEnd then { s1 with nvs := s1.nvs.retain fun t => { t with segEnd := t.segEnd + 4096 } } else s1)

/-! ## OTP programming (R339, R377) -/

/-- FUS can start the items. -/
def State.programs (s : State) (l : List OtpTask) : Bool := l.isEmpty || !(s.rst.decided.isSome || s.closing)

/-- Items given to FUS to program; none starts from the decision of a reset on (R377), nor in a closing run (R199). -/
def State.program (s : State) (l : List OtpTask) : State :=
  if l.isEmpty then s
  else if s.rst.decided.isSome || s.closing then { s with fus := { s.fus with cut := true } }
  else { s with fus := { s.fus with tasks := s.fus.tasks ++ l, cut := false } }

end Sys2Proof.Machine
end

