-- ==== Sys2Proof/Machine/Seal.lean ====
section
/-! DEFINITION. Shared sealing operations (06): leaves and Merkle trees, the values, limits and records of segments, entry to
Vermilion. -/

namespace Sys2Proof.Machine

/-- The leaf of a byte string: SHA-512(0x00 ‖ bytes) (R133, R137, R143). -/
def leafHash (bs : Bytes) : Bytes := sha512 (0x00 :: bs)

/-- The node of two digests: SHA-512(0x01 ‖ a ‖ b) (R138). -/
def nodeHash (a b : Bytes) : Bytes := sha512 (0x01 :: (a ++ b))

/-- One level of the tree of R138: neighbours are hashed, an odd last node is promoted. -/
def merkleLevel : List Bytes → List Bytes
  | a :: b :: rest => nodeHash a b :: merkleLevel rest
  | l => l

/-- Levels until one node is left; `fuel` at least the number of leaves. -/
def merkleLevels : Nat → List Bytes → Bytes
  | 0, l => l.headD []
  | f + 1, l => if l.length ≤ 1 then l.headD [] else merkleLevels f (merkleLevel l)

/-- The Merkle root of R138. -/
def merkleRoot (leaves : List Bytes) : Bytes := merkleLevels leaves.length leaves

/-- The value has its final fate. -/
def SegValue.final (v : SegValue) : Bool := v.fate != .awaited

/-- The value is a gap of the cause. -/
def SegValue.isGap (c : GapCause) (v : SegValue) : Bool := v.fate = .gap c

/-- The frame root of a value delivered as a frame. -/
def SegValue.root (v : SegValue) : Option Bytes :=
  match v.fate with | .frame r _ => some r | _ => none

/-- The value is a truncated frame. -/
def SegValue.cut (v : SegValue) : Bool :=
  match v.fate with | .frame _ t => t | _ => false

/-- Frame roots of a segment, in ascending capture-counter order. -/
def Segment.roots (g : Segment) : List Bytes := g.values.filterMap SegValue.root

/-- Gaps of a cause in a segment. -/
def Segment.gapsOf (g : Segment) (c : GapCause) : Nat := (g.values.filter (SegValue.isGap c)).length

/-- All gaps of a segment. -/
def Segment.gapCount (g : Segment) : Nat := g.values.length - g.roots.length

/-- The segment root (R143). -/
def Segment.root (g : Segment) : Bytes :=
  if g.roots.isEmpty then zeros 64 else merkleRoot (g.roots.map leafHash)

/-- Time of a value; one that never got a time counts as 0. -/
def SegValue.at (v : SegValue) : Word64 := v.time.getD 0

/-- The segment flags of R144. -/
def Segment.flags (g : Segment) : Nat :=
  boolNat g.umber + 2 * boolNat (g.values.any SegValue.cut) + 4 * boolNat g.debug + 8 * boolNat g.stopped +
    16 * boolNat g.vermilion + 32 * boolNat g.timeStep

/-- The segment record before NVS fills its fields (R144). -/
def Segment.record (g : Segment) (v : Nat) : Bytes :=
  let fst : SegValue := g.values.headD ⟨0, none, .awaited⟩
  let lst : SegValue := g.values.getLastD ⟨0, none, .awaited⟩
  leBytes 2 1 ++ leBytes 2 288 ++ leBytes 1 v ++ leBytes 1 g.gen ++ leBytes 2 g.flags ++ leBytes 8 g.counter.toNat ++
    leBytes 8 fst.capture.toNat ++ leBytes 8 lst.capture.toNat ++ leBytes 8 fst.at.toNat ++ leBytes 8 lst.at.toNat ++
    leBytes 4 g.roots.length ++ leBytes 4 g.gapCount ++ leBytes 4 (g.gapsOf .pace) ++ leBytes 4 (g.gapsOf .reconfig) ++
    leBytes 4 (g.gapsOf .link) ++ leBytes 4 (g.gapsOf .umber) ++ leBytes 2 g.rateDiv ++ leBytes 2 g.ratePhase ++
    zeros 8 ++ zeros 12 ++ g.root ++ padTo 64 g.digest ++ zeros 64

/-- The SEG entry of a segment (R168). -/
def Segment.entry (g : Segment) (v : Nat) : Commit :=
  { kind := .seg, view := v, gen := g.gen, stream := g.streamId, counter := g.counter
    first := (g.values.headD ⟨0, none, .awaited⟩).at, last := (g.values.getLastD ⟨0, none, .awaited⟩).at
    frames := BitVec.ofNat 32 g.roots.length, gaps := BitVec.ofNat 32 g.gapCount
    subject := g.record v, after := g.lastEnd }

/-- Tree hashes a segment root costs (R136): a leaf per frame and the nodes. -/
def Segment.hashes (g : Segment) : Nat := 2 * g.roots.length - 1

/-- The segment can be closed: no value joins any more and every value is final. -/
def Segment.ready (g : Segment) : Bool := g.complete && g.values.all SegValue.final && !g.values.isEmpty

/-- The SEG entry of a segment requested; a closing run with SEA wedged requests none, and its view stays uncommitted (R202). -/
def State.sealSegment (s : State) (v : Nat) (g : Segment) : State :=
  if s.closing && s.sea.wedged then
    { s with pwr := { s.pwr with run := s.pwr.run.map fun (r : Run) => { r with dropped := r.dropped ||| 2 ^ v } } }
  else
    { s.request (g.entry v) with sea := { s.sea with treeHashes := s.sea.treeHashes + BitVec.ofNat 32 g.hashes } }

/-- The SEG entries of the view's segments that are ready are requested (R141, R150 steps 1 to 3). A complete segment left
without a value writes none (R141). -/
def State.settle (s : State) (v : Nat) : State :=
  let x := s.viewAt v
  let done := x.segments.filter Segment.ready
  let keep := x.segments.filter fun g => !g.ready && !(g.complete && g.values.isEmpty)
  let s1 := s.setView v { x with segments := keep }
  done.foldl (fun s g => s.sealSegment v g) s1

/-- The view has a segment that values still join (R317 `SEAL.OPEN_MASK`). -/
def View.hasOpen (x : View) : Bool := x.segments.any fun g => !g.complete

/-- Does the value complete the segment (R141: the frame count limit, the time limit)? -/
def Segment.limit (g : Segment) : Bool :=
  let first := (g.values.headD ⟨0, none, .awaited⟩).time
  let late := match first, (g.values.getLastD ⟨0, none, .awaited⟩).time with
    | some a, some b => decide (a.toNat + g.segTime * 1000000 ≤ b.toNat)
    | _, _ => false
  g.segFrames ≤ g.values.length || late

/-- The segment closed to further values when a limit is reached. -/
def Segment.close (g : Segment) : Segment := { g with complete := g.complete || g.limit }

/-- A value joins the view's open segment, or opens one (R141, R142); nothing where no segment opens (R157, R159). -/
def State.joinValue (s : State) (v : Nat) (x : SegValue) : State :=
  if !s.signs then s
  else if (s.viewAt v).hasOpen then
    s.onView v fun w => { w with segments := w.segments.map fun g =>
      if g.complete then g else ({ g with values := g.values ++ [x] } : Segment).close }
  else
    let r := s.takeSegment
    r.2.onView v fun w => { w with segments := w.segments ++ [({
      counter := r.1, gen := w.genNo, rateDiv := w.gen.rateDiv, ratePhase := w.gen.ratePhase
      segFrames := w.gen.segFrames, segTime := w.gen.segTime, streamId := w.gen.streamId, digest := w.digest
      values := [x], debug := s.sealState = .debugUnsealed } : Segment).close] }

/-- The first value of a reconfigured generation brings its RECONFIG values before it (R127 step 4). -/
def State.takeValue (s : State) (v : Nat) (x : SegValue) : State :=
  let late := (s.viewAt v).reconfig
  let s1 := s.onView v fun w => { w with
    reconfig := [], gaps := w.gaps + BitVec.ofNat 32 late.length, renewed := false
    held := (late.getLast?.map SegValue.capture).orElse fun _ => w.held }
  (late.foldl (fun s r => s.joinValue v r) s1).joinValue v x

/-- A capture's value recorded as a gap in the view's open segment (R175). A value withheld after a reactivation completed and before
its first capture was committed is recorded with its own cause, PACE or LINK, as the generation's first value (DESIGN CHOICE, log 68:
R121 makes it such a gap, R127 step 4 would count it as RECONFIG). -/
def State.recordGap (s : State) (v : Nat) (c : Word64) (time : Word64) (cause : GapCause) : State :=
  ((s.takeValue v ⟨c, some time, .gap cause⟩).onView v fun w =>
    { w with gaps := w.gaps + 1, held := some c }).settle v

/-- Every segment of the view in which the value `c` lies, changed there by `f`. -/
def View.onValue (x : View) (c : Word64) (f : SegValue → SegValue) : View :=
  { x with segments := x.segments.map fun g =>
      { g with values := g.values.map fun y => if y.capture = c then f y else y } }

/-- The value `c` gets its time at T0 (R141), which may reach the time limit. -/
def State.timeValue (s : State) (v : Nat) (c : Word64) (t : Word64) : State :=
  (s.onView v fun x =>
    let y := x.onValue c fun y => { y with time := some t }
    { y with
      segments := y.segments.map Segment.close
      reconfig := y.reconfig.map fun r => if r.capture = c then { r with time := some t } else r }).settle v

/-- The view's open segment closed to further values, changed by `f`; it is committed once its frames have ended. -/
def State.closeSegment (s : State) (v : Nat) (f : Segment → Segment) : State :=
  (s.onView v fun x => { x with segments := x.segments.map fun g =>
    if g.complete then g else { f g with complete := true } }).settle v

/-- Every view's open segment closed (R156, R157, R199). -/
def State.closeAll (s : State) (f : Segment → Segment) : State :=
  (List.range 32).foldl (fun s v => s.closeSegment v f) s

/-- The segment without its first value still awaited and those after it, so that its values stay consecutive (R141, R144): the
awaited frames end after the segment (R157). -/
def Segment.dropAwaited (g : Segment) : Segment := { g with values := g.values.takeWhile SegValue.final }

/-- Entry to Vermilion with a cause bit (R157, R158): the cause is latched; at the first entry outside GRAPHITE the open
segments close with flag VERMILION and `EV_VERMILION` is raised. The signing jobs that wait are discarded, since none is run any
more (log 81). -/
def State.enterVermilion (s : State) (bit : Nat) : State :=
  let first := s.sea.vermilion = 0
  let cause := s.sea.vermilion ||| 2 ^ bit
  let s1 := { s with sea := { s.sea with vermilion := cause, prompt := [], resign := [] } }.setIrq 6
  if !first then { s with sea := { s.sea with vermilion := cause } }
  else if s.fus.lifecycle = 3 then { s1 with ev := { s1.ev with vermilionEntry := some s1.clk.ticks } }
  else
    let s2 := (List.range 32).foldl (fun s v => (s.onView v fun x =>
      { x with segments := x.segments.map fun g => { g.dropAwaited with complete := true, vermilion := true } }).settle v) s1
    let s3 := { s2 with ev := { s2.ev with vermilionEntry := some s2.clk.ticks, vermilionLast := s2.clk.ticks } }
    s3.raise 0x13 s3.now (leBytes 1 cause ++ zeros 3 ++ leBytes 4 0)

/-- A time step sets TIME_STEP in every segment that is open or has a value whose time is still to come (R144, R267). -/
def State.markStep (s : State) : State :=
  (List.range 32).foldl (fun s v => s.onView v fun x => { x with segments := x.segments.map fun g =>
    { g with timeStep := g.timeStep || !g.complete || g.values.any fun y => y.time.isNone } }) s

/-- A step of the time base (R267): the base takes the new value, the step is logged as an event and a TIME entry, and every
open segment is marked. Times held in the time base in force move with it (R268). -/
def State.stepTime (s : State) (source : Nat) (step : Int) : State :=
  let before := s.clk.time
  let delta := BitVec.ofInt 64 step
  let after := before + delta
  let s1 := ({ s with clk := { s.clk with time := after, lastEdge := s.clk.lastEdge.map (· + delta) } }).markStep
  let s2 := s1.raise 0x11 after (leBytes 8 before.toNat ++ leBytes 8 after.toNat ++ leBytes 8 (signedField 64 step) ++
    leBytes 1 source)
  s2.request (timeEntry source before after step)

end Sys2Proof.Machine
end

