-- ==== Sys2Proof/Machine/Params.lean ====
section
/-! DEFINITION. The parameter dictionary (13): which IDs exist, their types, access and defaults (R304, R305), and the stored
values of the writable parameters. -/

namespace Sys2Proof.Machine

/-- One row of the dictionary: `count` instances from ID `first`, `stride` apart. `role`: the minimum role to write, 0 for a
read-only row. -/
structure ParamRow where
  first : Nat
  stride : Nat
  count : Nat
  size : Nat
  signed : Bool
  writable : Bool
  isPublic : Bool
  persistent : Bool
  role : Nat
  default : Nat
  deriving DecidableEq, Repr

/-- Rows 0 to 39 of the dictionary, in ascending ID. -/
def paramRows0 : List ParamRow :=
  [⟨0x0400, 1, 2, 8, false, false, true, false, 0, 0⟩, ⟨0x0402, 1, 2, 4, false, false, true, false, 0, 0⟩,
   ⟨0x0404, 1, 1, 1, false, false, true, false, 0, 0⟩, ⟨0x0405, 1, 1, 4, false, false, true, false, 0, 0⟩,
   ⟨0x0406, 1, 2, 1, false, false, true, false, 0, 0⟩, ⟨0x0408, 1, 1, 2, false, false, true, false, 0, 0⟩,
   ⟨0x0409, 1, 1, 4, false, false, true, false, 0, 0⟩, ⟨0x040A, 1, 1, 8, false, false, true, false, 0, 0⟩,
   ⟨0x040B, 1, 3, 4, false, false, true, false, 0, 0⟩, ⟨0x040E, 1, 1, 2, false, false, true, false, 0, 0⟩,
   ⟨0x040F, 1, 3, 4, false, false, true, false, 0, 0⟩, ⟨0x0412, 1, 5, 8, false, true, true, true, 2, 0⟩,
   ⟨0x0417, 1, 1, 2, false, false, true, false, 0, 0⟩, ⟨0x0800, 1, 1, 8, false, false, true, false, 0, 0⟩,
   ⟨0x0801, 1, 1, 2, false, true, false, true, 2, 750⟩, ⟨0x0802, 1, 1, 2, false, true, false, true, 2, 20⟩,
   ⟨0x0803, 1, 1, 1, false, true, false, false, 1, 1⟩, ⟨0x0804, 1, 1, 1, false, true, false, false, 2, 0⟩,
   ⟨0x0805, 1, 1, 8, false, true, false, false, 1, 18446744073709551615⟩, ⟨0x0806, 1, 1, 4, false, false, true, false, 0, 0⟩,
   ⟨0x0807, 1, 2, 1, false, false, true, false, 0, 0⟩, ⟨0x0809, 1, 3, 4, false, false, true, false, 0, 0⟩,
   ⟨0x080C, 1, 1, 8, false, false, true, false, 0, 0⟩, ⟨0x080D, 1, 1, 4, false, false, true, false, 0, 0⟩,
   ⟨0x080E, 1, 1, 1, false, false, true, false, 0, 0⟩, ⟨0x080F, 1, 1, 4, false, false, true, false, 0, 0⟩,
   ⟨0x0810, 1, 1, 1, false, false, true, false, 0, 0⟩, ⟨0x0811, 1, 1, 1, false, true, false, false, 2, 3⟩,
   ⟨0x0812, 1, 1, 4, false, false, true, false, 0, 0⟩, ⟨0x0813, 1, 1, 1, false, false, true, false, 0, 0⟩,
   ⟨0x0814, 1, 14, 4, false, false, true, false, 0, 0⟩, ⟨0x0822, 1, 10, 1, false, false, true, false, 0, 0⟩,
   ⟨0x082C, 1, 10, 4, false, false, true, false, 0, 0⟩, ⟨0x0836, 1, 10, 1, false, false, true, false, 0, 0⟩,
   ⟨0x0C00, 1, 1, 8, false, false, true, false, 0, 0⟩, ⟨0x0C01, 1, 1, 1, false, false, true, false, 0, 0⟩,
   ⟨0x0C02, 1, 1, 8, false, true, false, false, 2, 0⟩, ⟨0x0C03, 1, 1, 1, false, true, false, false, 2, 0⟩,
   ⟨0x0C04, 1, 2, 1, false, true, false, true, 2, 0⟩, ⟨0x0C06, 1, 1, 4, false, true, false, true, 2, 0⟩]

/-- Rows 40 to 79 of the dictionary, in ascending ID. -/
def paramRows1 : List ParamRow :=
  [⟨0x0C07, 1, 1, 4, false, true, false, true, 2, 1000000⟩, ⟨0x0C08, 1, 1, 4, false, true, false, true, 2, 100000⟩,
   ⟨0x0C09, 1, 1, 1, false, true, false, true, 2, 65⟩, ⟨0x0C0A, 1, 1, 2, false, true, false, true, 2, 2000⟩,
   ⟨0x0C0B, 1, 2, 4, true, false, true, false, 0, 0⟩, ⟨0x0C0D, 1, 1, 8, false, false, true, false, 0, 0⟩,
   ⟨0x0C0E, 1, 2, 4, false, false, true, false, 0, 0⟩, ⟨0x1000, 1, 1, 1, false, false, true, false, 0, 0⟩,
   ⟨0x1001, 1, 2, 2, false, false, true, false, 0, 0⟩, ⟨0x1003, 1, 2, 1, false, true, false, false, 2, 0⟩,
   ⟨0x1005, 1, 1, 1, false, false, true, false, 0, 0⟩, ⟨0x1006, 1, 3, 1, false, true, false, false, 2, 0⟩,
   ⟨0x1009, 1, 1, 4, false, true, false, false, 2, 1041666⟩, ⟨0x100A, 1, 1, 8, false, true, false, false, 2, 0⟩,
   ⟨0x100B, 1, 1, 2, false, true, false, false, 2, 0⟩, ⟨0x100C, 1, 2, 1, false, true, false, false, 2, 0⟩,
   ⟨0x100E, 1, 1, 1, false, true, false, false, 2, 1⟩, ⟨0x100F, 1, 1, 1, false, false, true, false, 0, 0⟩,
   ⟨0x1010, 1, 2, 4, false, false, true, false, 0, 0⟩, ⟨0x1012, 1, 2, 2, false, false, true, false, 0, 0⟩,
   ⟨0x1014, 1, 1, 2, false, true, false, false, 2, 256⟩, ⟨0x1015, 1, 1, 2, false, true, false, false, 2, 64⟩,
   ⟨0x1016, 1, 1, 1, false, true, false, false, 2, 3⟩, ⟨0x1017, 1, 2, 1, false, true, false, false, 2, 1⟩,
   ⟨0x1019, 1, 1, 4, false, true, false, false, 2, 939536384⟩, ⟨0x101A, 1, 1, 4, false, true, false, false, 2, 805316608⟩,
   ⟨0x101B, 1, 1, 1, false, true, false, false, 2, 4⟩, ⟨0x101C, 1, 2, 1, false, true, false, false, 2, 0⟩,
   ⟨0x101E, 1, 3, 2, false, false, true, false, 0, 0⟩, ⟨0x1021, 1, 4, 4, false, false, true, false, 0, 0⟩,
   ⟨0x1025, 1, 1, 8, false, false, true, false, 0, 0⟩, ⟨0x1026, 1, 1, 4, false, false, true, false, 0, 0⟩,
   ⟨0x1027, 1, 1, 2, false, false, true, false, 0, 0⟩, ⟨0x1028, 1, 2, 8, false, false, true, false, 0, 0⟩,
   ⟨0x102A, 1, 3, 4, false, false, true, false, 0, 0⟩, ⟨0x102D, 1, 2, 1, false, false, true, false, 0, 0⟩,
   ⟨0x102F, 1, 1, 8, false, false, true, false, 0, 0⟩, ⟨0x1400, 32, 32, 1, false, false, true, false, 0, 0⟩,
   ⟨0x1401, 32, 32, 1, false, false, true, false, 0, 0⟩, ⟨0x1402, 32, 32, 2, false, true, false, false, 2, 0⟩]

/-- Rows 80 to 119 of the dictionary, in ascending ID. -/
def paramRows2 : List ParamRow :=
  [⟨0x1403, 32, 32, 2, false, true, false, false, 2, 0⟩, ⟨0x1404, 32, 32, 2, false, true, false, false, 2, 12288⟩,
   ⟨0x1405, 32, 32, 2, false, true, false, false, 2, 9216⟩, ⟨0x1406, 32, 32, 1, false, true, false, false, 2, 0⟩,
   ⟨0x1407, 32, 32, 1, false, true, false, false, 2, 0⟩, ⟨0x1408, 32, 32, 1, false, true, false, false, 2, 0⟩,
   ⟨0x1409, 32, 32, 2, false, true, false, false, 2, 1⟩, ⟨0x140A, 32, 32, 2, false, true, false, false, 2, 0⟩,
   ⟨0x140B, 32, 32, 1, false, true, false, false, 2, 0⟩, ⟨0x140C, 32, 32, 2, false, true, false, false, 2, 3600⟩,
   ⟨0x140D, 32, 32, 2, false, true, false, false, 2, 10000⟩, ⟨0x140E, 32, 32, 4, false, false, true, false, 0, 0⟩,
   ⟨0x140F, 32, 32, 4, false, false, true, false, 0, 0⟩, ⟨0x1410, 32, 32, 4, false, false, true, false, 0, 0⟩,
   ⟨0x1411, 32, 32, 4, false, false, true, false, 0, 0⟩, ⟨0x1412, 32, 32, 4, false, false, true, false, 0, 0⟩,
   ⟨0x1413, 32, 32, 8, false, false, true, false, 0, 0⟩, ⟨0x1800, 16, 16, 4, false, true, false, false, 1, 125000⟩,
   ⟨0x1801, 16, 16, 2, false, true, false, false, 2, 16⟩, ⟨0x1802, 16, 16, 1, false, true, false, false, 2, 1⟩,
   ⟨0x1803, 16, 16, 4, false, true, false, false, 2, 1250000⟩, ⟨0x1804, 16, 16, 4, false, true, false, false, 2, 0⟩,
   ⟨0x1805, 16, 16, 1, false, true, false, false, 2, 0⟩, ⟨0x1806, 16, 16, 1, false, true, false, false, 2, 0⟩,
   ⟨0x1807, 16, 16, 2, false, true, false, false, 1, 11796⟩, ⟨0x1808, 16, 16, 4, false, true, false, false, 2, 125⟩,
   ⟨0x1809, 16, 16, 4, false, true, false, false, 2, 500000000⟩, ⟨0x180A, 16, 16, 4, false, false, true, false, 0, 0⟩,
   ⟨0x180B, 16, 16, 4, false, false, true, false, 0, 0⟩, ⟨0x1C00, 1, 1, 1, false, true, false, true, 2, 1⟩,
   ⟨0x1C01, 1, 1, 1, false, false, true, false, 0, 0⟩, ⟨0x1C02, 1, 1, 1, false, true, false, true, 2, 2⟩,
   ⟨0x1C03, 1, 1, 1, false, false, true, false, 0, 0⟩, ⟨0x1C04, 1, 1, 1, false, true, false, true, 2, 15⟩,
   ⟨0x1C05, 1, 1, 1, false, true, false, true, 2, 4⟩, ⟨0x1C06, 1, 1, 1, false, false, true, false, 0, 0⟩,
   ⟨0x1C07, 1, 1, 2, false, true, false, true, 2, 12816⟩, ⟨0x1C08, 1, 1, 1, false, true, false, true, 2, 0⟩,
   ⟨0x1C09, 1, 1, 1, false, true, false, false, 2, 1⟩, ⟨0x1C0A, 1, 1, 1, false, false, true, false, 0, 0⟩]

/-- Rows 120 to 159 of the dictionary, in ascending ID. -/
def paramRows3 : List ParamRow :=
  [⟨0x1C0B, 1, 4, 4, false, true, false, true, 2, 16055296⟩, ⟨0x1C0F, 1, 1, 2, false, true, false, true, 2, 700⟩,
   ⟨0x1C10, 1, 1, 1, false, true, false, false, 2, 96⟩, ⟨0x1C11, 1, 1, 1, false, true, false, false, 2, 64⟩,
   ⟨0x1C12, 1, 1, 4, false, false, true, false, 0, 0⟩, ⟨0x1C13, 1, 1, 1, false, false, true, false, 0, 0⟩,
   ⟨0x1C14, 1, 1, 1, false, true, false, false, 2, 8⟩, ⟨0x1C15, 1, 1, 2, false, true, false, false, 2, 200⟩,
   ⟨0x1C16, 1, 1, 1, false, true, false, false, 2, 1⟩, ⟨0x1C17, 1, 1, 4, false, false, true, false, 0, 0⟩,
   ⟨0x1C18, 1, 1, 2, false, true, false, false, 2, 100⟩, ⟨0x1C19, 1, 1, 1, false, true, false, false, 2, 3⟩,
   ⟨0x1C1A, 1, 1, 2, false, true, false, true, 2, 10⟩, ⟨0x1C1B, 1, 1, 1, false, true, false, false, 2, 16⟩,
   ⟨0x1C1C, 1, 12, 4, false, false, true, false, 0, 0⟩, ⟨0x2000, 1, 2, 1, false, false, true, false, 0, 0⟩,
   ⟨0x2002, 1, 1, 2, false, false, true, false, 0, 0⟩, ⟨0x2003, 1, 1, 1, false, true, false, false, 2, 4⟩,
   ⟨0x2004, 1, 1, 2, false, false, true, false, 0, 0⟩, ⟨0x2005, 1, 2, 4, false, false, true, false, 0, 0⟩,
   ⟨0x2007, 1, 1, 8, false, false, true, false, 0, 0⟩, ⟨0x2008, 1, 1, 1, false, false, true, false, 0, 0⟩,
   ⟨0x2009, 1, 4, 8, false, false, true, false, 0, 0⟩, ⟨0x200D, 1, 9, 4, false, false, true, false, 0, 0⟩,
   ⟨0x2016, 1, 1, 1, false, false, true, false, 0, 0⟩, ⟨0x2017, 1, 5, 4, false, false, true, false, 0, 0⟩,
   ⟨0x201C, 1, 4, 8, false, false, true, false, 0, 0⟩, ⟨0x2400, 1, 4, 4, false, false, true, false, 0, 0⟩,
   ⟨0x2404, 1, 1, 1, false, false, true, false, 0, 0⟩, ⟨0x2405, 1, 1, 4, false, true, false, true, 1, 0⟩,
   ⟨0x2406, 1, 11, 4, false, false, true, false, 0, 0⟩, ⟨0x2411, 1, 1, 2, false, false, true, false, 0, 0⟩,
   ⟨0x2412, 1, 1, 4, false, false, true, false, 0, 0⟩, ⟨0x2413, 1, 1, 1, false, false, true, false, 0, 0⟩,
   ⟨0x2800, 1, 1, 1, false, false, true, false, 0, 0⟩, ⟨0x2801, 1, 1, 1, false, true, false, true, 2, 0⟩,
   ⟨0x2802, 1, 1, 4, false, true, false, true, 2, 18⟩, ⟨0x2803, 1, 1, 4, false, true, false, true, 2, 655364⟩,
   ⟨0x2804, 1, 1, 8, false, true, false, true, 2, 728121029136⟩, ⟨0x2805, 1, 1, 1, false, true, false, true, 2, 11⟩]

/-- Rows 160 to 199 of the dictionary, in ascending ID. -/
def paramRows4 : List ParamRow :=
  [⟨0x2806, 1, 1, 1, false, true, false, true, 2, 0⟩, ⟨0x2807, 1, 1, 2, false, true, false, false, 2, 1000⟩,
   ⟨0x2808, 1, 1, 2, false, true, false, false, 2, 0⟩, ⟨0x2809, 1, 1, 2, false, true, false, true, 2, 84⟩,
   ⟨0x280A, 1, 1, 1, false, true, false, true, 2, 2⟩, ⟨0x280B, 1, 1, 1, false, true, false, true, 2, 3⟩,
   ⟨0x280C, 1, 1, 2, false, true, false, false, 2, 0⟩, ⟨0x280D, 1, 1, 1, false, true, false, true, 2, 0⟩,
   ⟨0x280E, 1, 1, 4, false, true, false, true, 2, 4294901761⟩, ⟨0x280F, 1, 1, 4, false, true, false, true, 2, 1000⟩,
   ⟨0x2810, 1, 16, 4, false, false, true, false, 0, 0⟩, ⟨0x2820, 1, 5, 4, true, false, true, false, 0, 0⟩,
   ⟨0x2825, 1, 1, 4, false, false, true, false, 0, 0⟩, ⟨0x2826, 1, 1, 8, false, false, true, false, 0, 0⟩,
   ⟨0x2827, 1, 2, 4, false, false, true, false, 0, 0⟩, ⟨0x2829, 1, 1, 4, false, true, false, true, 2, 0⟩,
   ⟨0x282A, 1, 1, 4, false, true, false, true, 2, 12500000⟩, ⟨0x282B, 1, 1, 2, false, false, true, false, 0, 0⟩,
   ⟨0x282C, 1, 1, 1, false, true, false, false, 1, 11⟩, ⟨0x282D, 1, 1, 8, false, false, true, false, 0, 0⟩,
   ⟨0x282E, 1, 2, 4, false, false, true, false, 0, 0⟩, ⟨0x2C00, 1, 16, 8, false, true, false, true, 2, 2836224603598080⟩,
   ⟨0x2C10, 1, 8, 8, false, true, false, true, 2, 2836228881710846⟩, ⟨0x2C18, 1, 1, 1, false, true, false, true, 2, 0⟩,
   ⟨0x2C19, 1, 3, 4, false, false, true, false, 0, 0⟩, ⟨0x2C1C, 1, 8, 8, false, false, true, false, 0, 0⟩,
   ⟨0x2C24, 1, 4, 4, false, false, true, false, 0, 0⟩, ⟨0x3000, 1, 3, 2, false, false, true, false, 0, 0⟩,
   ⟨0x3003, 1, 10, 4, false, false, true, false, 0, 0⟩, ⟨0x300D, 1, 1, 1, false, false, true, false, 0, 0⟩,
   ⟨0x300E, 1, 1, 2, false, false, true, false, 0, 0⟩, ⟨0x300F, 1, 1, 4, false, false, true, false, 0, 0⟩,
   ⟨0x3400, 1, 1, 4, false, false, true, false, 0, 0⟩, ⟨0x3401, 1, 1, 1, false, false, true, false, 0, 0⟩,
   ⟨0x3402, 1, 2, 2, false, false, true, false, 0, 0⟩, ⟨0x3404, 1, 2, 1, false, false, true, false, 0, 0⟩,
   ⟨0x3406, 1, 1, 2, false, false, true, false, 0, 0⟩, ⟨0x3407, 1, 1, 4, false, false, true, false, 0, 0⟩,
   ⟨0x3408, 1, 4, 1, false, false, true, false, 0, 0⟩, ⟨0x3800, 1, 1, 2, false, false, true, false, 0, 0⟩]

/-- Rows 200 to 205 of the dictionary, in ascending ID. -/
def paramRows5 : List ParamRow :=
  [⟨0x3801, 1, 2, 1, false, false, true, false, 0, 0⟩, ⟨0x3803, 1, 3, 4, false, false, true, false, 0, 0⟩,
   ⟨0x3806, 1, 3, 1, false, false, true, false, 0, 0⟩, ⟨0x3809, 1, 1, 1, false, true, false, false, 1, 1⟩,
   ⟨0x380A, 1, 1, 8, false, false, true, false, 0, 0⟩, ⟨0x380B, 1, 1, 4, false, false, true, false, 0, 0⟩]

/-- The dictionary: every instance of R304, in ascending ID of its first instance. -/
def paramTable : List ParamRow :=
  paramRows0 ++ paramRows1 ++ paramRows2 ++ paramRows3 ++ paramRows4 ++ paramRows5

/-- Does the row name the ID? -/
def ParamRow.has (r : ParamRow) (id : Nat) : Bool :=
  r.first ≤ id && (id - r.first) % r.stride = 0 && (id - r.first) / r.stride < r.count

/-- The row of an ID; none for an absent ID (R304). -/
def paramRow (id : Nat) : Option ParamRow := paramTable.find? fun r => r.has id

/-- The default of a parameter. -/
def paramDefault (id : Nat) : Nat := ((paramRow id).map ParamRow.default).getD 0

/-- The stored value of a writable parameter. -/
def State.stored (s : State) (id : Nat) : Nat := (spFind id s.par.values).getD (paramDefault id)

/-- A writable parameter stored. -/
def State.setPar (s : State) (id v : Nat) : State :=
  { s with par := { s.par with values := spPut id v s.par.values } }

/-- A persistent parameter stored, with its record (R311). -/
def State.storePar (s : State) (id v : Nat) : State :=
  { s with par := { values := spPut id v s.par.values, persist := recordPut id v s.par.persist } }

/-- ID of field `f` of view `v`, and of profile `p` (R114, R58). -/
def viewId (v f : Nat) : Nat := 0x1400 + 32 * v + f
def profileId (p f : Nat) : Nat := 0x1800 + 16 * p + f

end Sys2Proof.Machine
end

