-- ==== Sys2Proof/Machine/LinkOps.lean ====
section
/-! DEFINITION. Shared operations of the link's bring-up, adaptation and outages (09, R247,
R250). -/

namespace Sys2Proof.Machine

/-! ## Taps (R213, R214) -/

/-- The main tap (R213). -/
def Taps.main (t : Taps) : Int := 64 - (t.m2.natAbs + t.m1.natAbs + t.p1.natAbs + t.p2.natAbs : Nat)

/-- A valid coefficient set (R213). -/
def Taps.valid (t : Taps) : Bool :=
  decide (0 ≤ t.m2 ∧ t.m2 ≤ 6 ∧ -16 ≤ t.m1 ∧ t.m1 ≤ 0 ∧ -20 ≤ t.p1 ∧ t.p1 ≤ 0 ∧ -6 ≤ t.p2 ∧ t.p2 ≤ 6 ∧ 32 ≤ t.main)

/-- The value of `LINK.FFEp` (R228). -/
def Taps.word (t : Taps) : Nat :=
  signedField 8 t.m2 + 256 * signedField 8 t.m1 + 65536 * signedField 8 t.p1 + 16777216 * signedField 8 t.p2

/-- The set a `LINK.FFEp` value spells. -/
def tapsOf (v : Nat) : Taps := ⟨toSigned 8 v, toSigned 8 (v / 256), toSigned 8 (v / 65536), toSigned 8 (v / 16777216)⟩

/-- The presets of R214. -/
def presets : List Taps :=
  [⟨0, 0, 0, 0⟩, ⟨0, 0, -8, 0⟩, ⟨0, -4, -8, 0⟩, ⟨0, -4, -12, 0⟩, ⟨0, -8, -12, 0⟩, ⟨2, -8, -14, 0⟩, ⟨2, -10, -16, 0⟩,
   ⟨4, -12, -16, 0⟩]

/-- Preset `i`. -/
def presetTaps (i : Nat) : Taps := presets.getD i ⟨0, 0, 0, 0⟩

/-- A set with the tap of search order `i` (c−1, c+1, c−2, c+2) moved by `d` (R220). -/
def Taps.move (t : Taps) (i : Nat) (d : Int) : Taps :=
  match i with
  | 0 => { t with m1 := t.m1 + d }
  | 1 => { t with p1 := t.p1 + d }
  | 2 => { t with m2 := t.m2 + d }
  | _ => { t with p2 := t.p2 + d }

/-! ## Adaptation of one lane (R220) -/

/-- The lane moved on to its next valid trial, from pass, tap and step, or to done. `fuel` bounds the trials skipped. -/
def LaneAdapt.seek (passes : Nat) : Nat → LaneAdapt → Nat → Nat → Nat → Bool → LaneAdapt
  | 0, a, _, _, _, _ => { a with phase := .done }
  | f + 1, a, pass, tap, st, improved =>
    if 4 ≤ tap then
      if improved && pass < passes then LaneAdapt.seek passes f a (pass + 1) 0 0 false
      else { a with phase := .done }
    else
      let t := a.current.move tap (if st = 0 then 1 else -1)
      if t.valid then { a with phase := .search pass tap st improved, trial := t }
      else if st = 0 then LaneAdapt.seek passes f a pass tap 1 improved
      else LaneAdapt.seek passes f a pass (tap + 1) 0 improved

/-- The tap search begun, unless the target is met. -/
def LaneAdapt.begin (passes target : Nat) (a : LaneAdapt) : LaneAdapt :=
  if target ≤ a.best then { a with phase := .done } else LaneAdapt.seek passes 16 a 1 0 0 false

/-- A lane's answer for one round (R220). -/
def LaneAdapt.answer (passes target fom : Nat) (a : LaneAdapt) : LaneAdapt :=
  match a.phase with
  | .done => a
  | .measure => LaneAdapt.begin passes target { a with best := fom }
  | .preset i =>
    let b : LaneAdapt := if i = 0 || a.best < fom then { a with best := fom, preset := i, current := presetTaps i } else a
    if i < 7 then { b with phase := .preset (i + 1), trial := presetTaps (i + 1) }
    else LaneAdapt.begin passes target b
  | .search pass tap st improved =>
    if a.best + 2 ≤ fom then
      let b : LaneAdapt := { a with current := a.trial, best := fom }
      if target ≤ fom then { b with phase := .done } else LaneAdapt.seek passes 16 b pass (tap + 1) 0 true
    else if st = 0 then LaneAdapt.seek passes 16 a pass tap 1 improved
    else LaneAdapt.seek passes 16 a pass (tap + 1) 0 improved

/-! ## Link state -/

/-- `LINK.STATE` set to `x`; no lane sends identification words outside IDENT (R217). -/
def State.linkTo (s : State) (x : LinkState) : State :=
  { s with lnk := { s.lnk with state := x, entered := s.clk.ticks, ident := if x = .ident then s.lnk.ident else [] } }

/-- The identification word of a physical lane (R217). -/
def identWord (lane : Nat) : Bytes :=
  [0x47, 0x1D, 0xB6, 0xF0] ++ leBytes 1 (lane + 16 * (15 - lane)) ++ [4, 0x55, 0x55]

/-- Code of a link state (R228). -/
def LinkState.code : LinkState → Nat
  | .off => 0 | .rlAcquire => 1 | .ident => 2 | .hop => 3 | .adapt => 4 | .align => 5 | .up => 6 | .downWait => 7

/-- `EV_LINK_DOWN` with a reason (R223): not from t0 of a closing run on. -/
def State.linkDown (s : State) (reason : Nat) : State :=
  if s.closing then s
  else { s with lnk := { s.lnk with downReason := reason } }.raise 6 s.now
    (leBytes 1 reason ++ leBytes 1 s.lnk.rateUsed ++ leBytes 1 s.lnk.lanesUsed)

/-- The packets put in ascending sequence (R247), modulo 2^32 back from the next sequence (R246), so that the oldest goes
first (DEDUCED, log 101: R247 does not speak of a wrap). -/
def sortPackets (next : Word) (l : List Packet) : List Packet :=
  l.mergeSort fun a b => (a.seq - next).toNat ≤ (b.seq - next).toNat

/-- Is the packet sequenced (R238)? -/
def Packet.sequenced (p : Packet) : Bool := 1 ≤ p.kind && p.kind ≤ 7

/-- The stream ended at a codeword boundary (R247): blocks in no codeword are not sent, and the scramblers stand (R231). -/
def Framer.ended (f : Framer) : Framer :=
  { rate := f.rate, lanes := f.lanes.map fun (l : LaneFramer) => { l with blocks := [], words := 0 } }

/-- `LINK.STATE` leaves UP (R247): the striped stream ends, packets not completely sent are kept to be sent again with RESENT
set, and every queue is held. -/
def State.leaveUp (s : State) : State :=
  if s.lnk.state != .up then s
  else
    let cut := (s.lnk.framer.inFlight.map InFlight.packet).filter Packet.sequenced
    ({ s with lnk := { s.lnk with
        resend := sortPackets s.lnk.seq (s.lnk.resend ++ cut.map fun (p : Packet) => { p with resent := true })
        train := [], framer := s.lnk.framer.ended, outstanding := none, lowRun := 0
        leftUp := s.now, firstGap := 0xFFFFFFFFFFFFFFFF, lastGap := 0xFFFFFFFFFFFFFFFF, gapCount := 0
        sealDropSince := 0, evDropSince := 0 } }).setIrq 7

/-- Physical lane of logical lane `k` in the map in force (R218). -/
def State.physical (s : State) (k : Nat) : Nat := bitsOf s.lnk.map (4 * k) 3

/-- The map in force has the driver of logical lane `k` inverted (R218). -/
def State.inverted (s : State) (k : Nat) : Bool := s.lnk.map.testBit (4 * k + 3)

/-- Coefficients in force on a physical lane (P3 until some are taken, R228). -/
def State.coefOf (s : State) (p : Nat) : Nat := (spFind p s.lnk.coef).getD 0x00F4FC00

/-- The forward lanes switched off. -/
def State.lanesOff (s : State) : State :=
  let s1 := s.domainsOff [43, 44, 45, 46]
  { s1 with lnk := { s1.lnk with framer := {} } }

/-- The framer on the given logical lanes: a physical lane that was framed already keeps its scrambler, any other starts with a scrambler
the spec leaves open (R231). The marker interval goes on, and every lane joins it, so that all send their markers on the same codeword
index (R232). -/
def State.frameLanes (s : State) (lanes : List Nat) (own : Bool) (rate : Nat) : State :=
  let count := maxList (s.lnk.framer.lanes.map LaneFramer.count)
  let lane (x : Nat × Nat) : LaneFramer :=
    let l : LaneFramer := { lane := s.physical x.1, logical := x.1, inverted := s.inverted x.1 }
    match s.lnk.framer.lanes.find? fun o => o.lane = l.lane with
    | some o => { l with scrambler := o.scrambler, count := count }
    | none => { l with scrambler := Config.scramblerSeed (s.free + x.2), count := count }
  { s with
    free := s.free + lanes.length
    lnk := { s.lnk with framer := { own := own, rate := rate, lanes := lanes.zipIdx.map lane } } }

/-- Lanes of the mask or map switched on. -/
def State.lanesOn (s : State) (l : List Nat) : State := s.domainsOn (l.map (43 + ·))

/-- Largest of 1, 2, 4 not above `n`; 0 for 0 (R219). -/
def laneCount (n : Nat) : Nat := if 4 ≤ n then 4 else if 2 ≤ n then 2 else if 1 ≤ n then 1 else 0

/-- The lanes requested r (R219): `LINK.LANES_MAX`, and in FULL mode the receivers that found a lane. -/
def State.lanesRequested (s : State) : Nat :=
  laneCount (min s.lnk.lanesMax s.lnk.requested)

/-- The physical lanes mapped (R216). -/
def State.mappedLanes (s : State) : List Nat := s.lnk.mapped.map s.physical

/-- A hop between L28 and L56 leaves the forward synthesiser its band (R271). -/
def State.reloads (s : State) (rate : Nat) : Bool := s.clk.fwdLocked && s.clk.fwdRate != 0 && rate != 0

/-- Step 4 (HOP) entered at a rate code: every mapped lane is powered, and the forward synthesiser must lock for the rate (R216,
R232). -/
def State.enterHop (s : State) (rate : Nat) : State :=
  let s1 := (s.lanesOn s.mappedLanes).frameLanes s.lnk.mapped true rate
  { s1 with
    clk := { s1.clk with fwdLocked := false, fwdSearching := false, fwdReload := s.reloads rate }
    lnk := { s1.lnk with hopRate := rate, markerCount := 0, train := [] } }.linkTo .hop

/-- The values a bring-up takes (R221, R228): `LINK.LANE_MAP` and the FFE coefficients outside FULL mode. A wake from STANDBY takes
them too (DESIGN CHOICE, log 62: R221 does not say whether the retrain it runs as keeps those in force). -/
def State.takeLinkValues (s : State) : State :=
  let mode := s.stored 0x1C08
  let l := { s.lnk with mode := mode, target := s.stored 0x1C02, lanesMax := s.stored 0x1C05, swing := s.stored 0x1C0F }
  if mode = 0 then { s with lnk := l }
  else { s with lnk := { l with map := s.stored 0x1C07
                                coef := (List.range 4).map fun p => (p, s.stored (0x1C0B + p)) } }

/-- The CTL core executes: a new bring-up or retrain waits for it (R227). -/
def State.coreFree (s : State) : Bool := !s.wdg.halted

/-- A bring-up from its beginning: step 1, RL_ACQUIRE (R216). -/
def State.enterAcquire (s : State) : State :=
  let s1 := (s.domainsOn [48, 50, 47]).takeLinkValues
  { s1 with
    clk := { s1.clk with fwdLocked := s1.clk.fwdLocked && s1.clk.fwdRate = 0, fwdSearching := false, retSearching := false }
    lnk := { s1.lnk with
      hopRate := 0, adapt := none, outstanding := none, restarts := 0, retraining := false } }.linkTo .rlAcquire

/-- A bring-up or retrain fails (R223 reason 3): DOWN_WAIT. -/
def State.failBringUp (s : State) : State :=
  let s1 := (s.linkDown 3).lanesOff
  { s1 with lnk := { s1.lnk with adapt := none, outstanding := none, mapInForce := false, wakeUp := false } }.linkTo .downWait

/-- A retrain from UP with a reason (R223): steps 4 to 7 at `LINK.RATE`. -/
def State.retrain (s : State) (reason : Nat) : State :=
  let s1 := s.leaveUp.linkDown reason
  { s1 with lnk := { s1.lnk with
      retrains := s1.lnk.retrains + 1, retraining := true, adapt := none, target := s1.stored 0x1C02
      lanesMax := s1.stored 0x1C05, swing := s1.stored 0x1C0F } }.enterHop (s1.stored 0x1C02)

/-- The link goes off with a reason (R223 reasons 7, 8), or silently in a closing run; the receiver loses its state with its power
(R194). -/
def State.linkOff (s : State) (reason : Nat) : State :=
  let up := s.lnk.state = .up
  let s1 := if up then s.leaveUp.linkDown reason else s
  let s2 := s1.domainsOff [43, 44, 45, 46, 47, 48, 50]
  { s2 with
    clk := { s2.clk with fwdLocked := false, retLocked := false, fwdSearching := false, retSearching := false }
    lnk := { s2.lnk with
      adapt := none, outstanding := none, train := [], framer := {}, wakeUp := false, retrainDue := none
      rx := {} } }.linkTo .off

/-- Step 5 begun at a rate code: full from the presets, or the tap search from the coefficients in force (R220, R221), whose FoM
a round of its own measures first (DESIGN CHOICE, log 82: R220 does not say where the search's first best FoM comes from). -/
def State.enterAdapt (s : State) : State :=
  let full := s.lnk.mode = 0 && !s.lnk.retraining
  let lane (k : Nat) : LaneAdapt :=
    if full then { phase := .preset 0, current := presetTaps 0, trial := presetTaps 0 }
    else let t := tapsOf (s.coefOf (s.physical k)); { phase := .measure, current := t, trial := t }
  let old := s.lnk.adapt
  let a : Adapt := { rate := s.lnk.hopRate, lanes := s.lnk.mapped.map fun k => (k, lane k)
                     passes := s.stored 0x1C14, target := s.stored 0x1C10, settle := s.stored 0x1C15
                     fallback := s.stored 0x1C09 = 1, since := s.clk.ticks
                     tried := (old.map Adapt.tried).getD [], final := (old.map Adapt.final).getD false }
  { s with lnk := { s.lnk with adapt := some a, outstanding := none } }.linkTo .adapt

/-- ALIGN entered with `n` lanes at a rate (R219, R234): the stripe begins. -/
def State.enterAlign (s : State) (rate n : Nat) : State :=
  let used := (List.range n).map s.physical
  let s1 := (s.domainsOff (((List.range 4).filter fun p => !used.contains p).map (43 + ·))).frameLanes (List.range n) false rate
  { s1 with lnk := { s1.lnk with
      rateUsed := rate, lanesUsed := n, adapt := none, outstanding := none, train := []
      alignTimeout := s.stored 0x1C1A } }.linkTo .align

/-- What follows HOP: ADAPT, or in FIXED mode ALIGN with `LINK.LANES_MAX` lanes (R221). A bring-up in progress stops at t0 of a
closing run (R227). -/
def State.afterHop (s : State) : State :=
  if s.closing then s
  else if s.lnk.mode = 2 then s.enterAlign s.lnk.hopRate s.lnk.lanesMax else s.enterAdapt

/-- Step 2 (IDENT) entered, or restarted (R216, R218): the lanes of the mask, and only they, are powered and send identification
words (R217). -/
def State.enterIdent (s : State) : State :=
  let lanes := (List.range 4).filter fun p => (s.stored 0x1C04).testBit p
  let s1 := (s.domainsOff (((List.range 4).filter fun p => !lanes.contains p).map (43 + ·))).lanesOn lanes
  { s1 with lnk := { s1.lnk with
      mask := s.stored 0x1C04, identTimeout := s.stored 0x1C18, retries := s.stored 0x1C19
      ident := lanes.map fun p => (p, identWord p), framer := {} } }.linkTo .ident

/-- A wake from STANDBY goes on as a retrain (R225). -/
def State.wakeRetrain (s : State) : State :=
  if s.lnk.wakeUp then
    { s with lnk := { s.lnk with wakeUp := false, retraining := true, retrains := s.lnk.retrains + 1 } }
  else s

/-- Step 4 entered from step 1. The lanes mapped are those a report found, or all four where no report stands (R219, R221). A wake in
FULL mode with no report applied takes the map and coefficients of the state, those of reset where nothing changed them (DESIGN
CHOICE, log 82: R221 and R225 name none). -/
def State.hopFromAcquire (s : State) : State :=
  let s1 := s.wakeRetrain
  let known := s.lnk.mode = 0 && s.lnk.mapInForce
  { s1 with lnk := { s1.lnk with
    requested := if known then s.lnk.requested else 4
    mapped := if known then s.lnk.mapped else [0, 1, 2, 3] } }.enterHop s.lnk.target

/-- What follows RL_ACQUIRE once its conditions hold: IDENT in FULL mode without a map in force, else HOP (R216, R221). FIXED
needs no return lane. FULL selected after a bring-up in another mode runs IDENT, since no report has put a map in force (DESIGN
CHOICE, log 82: whether that is still "the first bring-up after reset" is open). -/
def State.afterAcquire (s : State) : State :=
  let forward := s.clk.fwdLocked && s.clk.fwdRate = 0
  let ret := s.clk.retLocked && s.lnk.rx.locked && s.lnk.rx.blockLock
  if s.closing || !s.coreFree || s.lnk.state != .rlAcquire || !(s.pwr.poweringUp.all fun d => d != 48 && d != 50 && d != 47) then s
  else if !forward || (s.lnk.mode != 2 && !ret) then s
  else if s.lnk.mode = 0 && !s.lnk.mapInForce && !s.lnk.wakeUp then s.enterIdent
  else s.hopFromAcquire

/-- A bring-up from its beginning, as far as what is locked already lets it go (R216); while the core is held it waits (R227). -/
def State.startBringUp (s : State) : State :=
  if s.stored 0x1C00 = 0 || s.pwr.state != .active || s.closing || !s.coreFree then s else s.enterAcquire.afterAcquire

/-- The link goes back to step 1 (R223 reasons 1 and 2); out of UP with `EV_LINK_DOWN`. -/
def State.backToAcquire (s : State) (reason : Nat) : State :=
  match s.lnk.state with
  | .off | .downWait => s
  | .up => ((s.leaveUp.linkDown reason).lanesOff.linkTo .rlAcquire).startBringUp
  | _ =>
    let s1 := s.lanesOff
    ({ s1 with lnk := { s1.lnk with adapt := none, outstanding := none } }.linkTo .rlAcquire).startBringUp

/-- The core executes again: a bring-up that waited for it begins (R227), that of a wake too (R225). -/
def State.resumeBringUp (s : State) : State :=
  if s.lnk.state = .rlAcquire || s.lnk.state = .off then s.startBringUp else s

/-- The TRAIN LINK_STATE of R250. -/
def State.linkStateBody (s : State) : Bytes :=
  [6, 0, 0, 0] ++ leBytes 1 s.lnk.rateUsed ++ leBytes 1 s.lnk.lanesUsed ++
    leBytes 1 (if s.lnk.lastGood.isNone then 0 else s.lnk.downReason) ++
    leBytes 1 (if s.lnk.gapCount = 0 then 0 else 4) ++ leBytes 8 s.lnk.leftUp.toNat ++ leBytes 8 s.now.toNat ++
    leBytes 8 s.lnk.firstGap.toNat ++ leBytes 8 s.lnk.lastGap.toNat ++ leBytes 4 s.lnk.gapCount.toNat ++
    leBytes 4 s.lnk.sealDropSince.toNat ++ leBytes 4 s.lnk.evDropSince.toNat ++ zeros 4

/-- The link enters UP (R250): LINK_STATE goes first; the values of R226 are taken. -/
def State.enterUp (s : State) : State :=
  let s1 := { s with lnk := { s.lnk with
      train := [{ kind := 8, body := s.linkStateBody }]
      lastGood := some (s.lnk.rateUsed, s.lnk.lanesUsed)
      retraining := false, monRound := 0, monTick := s.clk.ticks, lowRun := 0 } }
  (s1.linkTo .up).setIrq 7

/-- A retrain that was asked for and waits follows once LINK_STATE has left, and while the core executes (R227, R250). It follows
although the bring-up it was noted in failed or restarted, and took the new rate so (DESIGN CHOICE, log 82). -/
def State.followRetrain (s : State) : State :=
  match s.lnk.retrainDue with
  | none => s
  | some r =>
    if s.lnk.state = .up && s.coreFree && !s.closing && s.lnk.train.isEmpty &&
        s.lnk.framer.inFlight.all fun x => x.packet.kind != 8 then
      { s with lnk := { s.lnk with retrainDue := none } }.retrain r
    else s

/-- A retrain from UP asked for now; it waits for the core (R227). -/
def State.askRetrain (s : State) (reason : Nat) : State :=
  if s.coreFree then s.retrain reason else { s with lnk := { s.lnk with retrainDue := some reason } }

/-- Capacity per lane of a rate code in Mbit/s (R130). -/
def rateCapacity (rate : Nat) : Nat := if rate = 2 then 52500 else if rate = 1 then 26250 else 9375

/-- The FoM of a logical lane after step 5. -/
def Adapt.bestOf (a : Adapt) (k : Nat) : Nat := ((spFind k a.lanes).map LaneAdapt.best).getD 0

/-- The count n at a rate, not above r (R219): receivers 0 to n − 1 all pass. -/
def Adapt.passCount (a : Adapt) (fomMin r : Nat) : Nat :=
  laneCount (((List.range r).takeWhile fun k => fomMin ≤ a.bestOf k).length)

/-- The rate with the largest n × capacity, the higher rate on a tie (R219). -/
def bestRate (l : List (Nat × Nat)) : Nat × Nat :=
  l.foldl (fun b x =>
    let p := x.2 * rateCapacity x.1
    let q := b.2 * rateCapacity b.1
    if q < p || (p = q && b.1 < x.1) then x else b) (0, 0)

/-- Step 5 has ended on every lane (R219): its results are stored, and the rate is accepted, another is tried, or the bring-up
fails. The repeat at the rate chosen decides whatever it gives, and fails with n = 0 (DESIGN CHOICE, log 15: R219 does not say what
follows a repeat that gives another n). -/
def State.endAdapt (s : State) (a : Adapt) : State :=
  let s1 := a.lanes.foldl
    (fun s x =>
      let p := s.physical x.1
      let s' := s.storePar (0x1C0B + p) x.2.current.word
      { s' with lnk := { s'.lnk with coef := spPut p x.2.current.word s'.lnk.coef } }) s
  let r := s.lanesRequested
  let n := a.passCount (s.stored 0x1C11) r
  let tried := (a.rate, n) :: a.tried
  let s2 := { s1 with lnk := { s1.lnk with rateUsed := a.rate, lanesUsed := n } }
  if n = r && n != 0 then s2.enterAlign a.rate n
  else if a.final then (if n = 0 then s2.failBringUp else s2.enterAlign a.rate n)
  else if a.fallback && 0 < a.rate then
    { s2 with lnk := { s2.lnk with adapt := some { a with tried := tried } } }.enterHop (a.rate - 1)
  else
    let b := bestRate tried
    if b.2 = 0 then s2.failBringUp
    else if b.1 = a.rate then s2.enterAlign a.rate n
    else { s2 with lnk := { s2.lnk with adapt := some { a with tried := tried, final := true } } }.enterHop b.1

end Sys2Proof.Machine
end

