-- ==== Sys2Proof/Machine/LanePll.lean ====
section
/-! DEFINITION. The lane synthesisers (R255 to R258) and the monitors of the return lane (R222, R225, R236). -/

namespace Sys2Proof.Machine

/-! ## Lane synthesisers -/

/-- Temperature band B0 to B3 of a die temperature in °C (R257). -/
def tempBand (t : Int) : Nat := if t < 0 then 0 else if t < 40 then 1 else if t < 80 then 2 else 3

/-- The adjacent band nearer the temperature (R257 step 1). -/
def nearBand (t : Int) : Nat :=
  match tempBand t with
  | 0 => 1
  | 1 => if t < 20 then 0 else 2
  | 2 => if t < 60 then 1 else 3
  | _ => 2

/-- Key of a stored record: the forward synthesiser by rate code and band, then the return synthesiser by band (R257). -/
def recordKey (synth : Synth) (rate band : Nat) : Nat :=
  match synth with | .forward => 4 * rate + band | .return => 12 + band

/-- A stored record serves at the temperature (R257 step 2). -/
def usableRecord (t : Int) : Option VcoRecord → Bool
  | some r => decide ((t - r.temp).natAbs ≤ 20)
  | none => false

/-- Some stored record serves for a lock request (R257), or the forward synthesiser reloads the band it has (R271). -/
def State.storedResult (s : State) (synth : Synth) (t : Int) : Bool :=
  let at_ (b : Nat) := usableRecord t (recordAt (recordKey synth s.lnk.hopRate b) s.clk.pllRecords)
  (synth = .forward && s.clk.fwdReload) || at_ (tempBand t) || at_ (nearBand t)

/-- Is the synthesiser locked, and is a full search under way? -/
def State.synthLocked (s : State) : Synth → Bool
  | .forward => s.clk.fwdLocked
  | .return => s.clk.retLocked
def State.synthSearching (s : State) : Synth → Bool
  | .forward => s.clk.fwdSearching
  | .return => s.clk.retSearching

/-- The synthesiser locked, for the rate code of the present hop. -/
def State.lockSynth (s : State) : Synth → State
  | .forward => { s with clk := { s.clk with fwdLocked := true, fwdRate := s.lnk.hopRate, fwdSearching := false, fwdReload := false } }
  | .return => { s with clk := { s.clk with retLocked := true, retSearching := false } }

/-- What the link does once a synthesiser has locked (R216). -/
def State.afterLock (s : State) (synth : Synth) : State :=
  if s.lnk.state = .hop && synth = .forward then s.afterHop else s.afterAcquire

/-- A lock (R256, R257): after a full search the result replaces the record of the present band, outside a closing run; both
synthesisers locked clear `EV_LOL` source 2. A search with no stored result counts here, at its lock, and one after a stored lock that
timed out has counted at its start (DESIGN CHOICE, log 96: R256 does not say when `TIME.PLL_SEARCHES` counts). -/
def State.synthLock (s : State) (synth : Synth) (band fine : Nat) (t : Int) : State :=
  let searched := s.synthSearching synth || !s.storedResult synth t
  let count := searched && !s.synthSearching synth
  let s1 := s.lockSynth synth
  let key := recordKey synth s.lnk.hopRate (tempBand t)
  let s2 := { s1 with clk := { s1.clk with
    pllSearches := if count then s1.clk.pllSearches + 1 else s1.clk.pllSearches
    pllRecords := if searched && !s.closing then recordPut key ⟨band, fine, t⟩ s1.clk.pllRecords else s1.clk.pllRecords } }
  let s3 := if s2.lnk.lol2 && s2.clk.fwdLocked && s2.clk.retLocked then
      { s2 with lnk := { s2.lnk with lol2 := false } }.raiseLol 2 false
    else s2
  s3.afterLock synth

def execLanePllLocked (synth : Synth) (band fine : Nat) (temp : Int) (s : State) : Result :=
  .next (if s.powered 48 && s.clk.refclk && !s.synthLocked synth && band < 64 then s.synthLock synth band fine temp else s)

/-- No lock within 18 µs of loading a stored result: a full band search follows (R256). -/
def State.searchSynth (s : State) : Synth → State
  | .forward => { s with clk := { s.clk with fwdSearching := true, fwdReload := false, pllSearches := s.clk.pllSearches + 1 } }
  | .return => { s with clk := { s.clk with retSearching := true, pllSearches := s.clk.pllSearches + 1 } }

def execStoredLockTimeout (lock : StoredLock) (s : State) : Result :=
  .next (if s.powered 48 && s.clk.refclk && !s.synthLocked lock.synth && !s.synthSearching lock.synth &&
      s.storedResult lock.synth lock.temp then s.searchSynth lock.synth
    else s)

/-- A synthesiser is out of lock. -/
def State.unlockSynth (s : State) : Synth → State
  | .forward => { s with clk := { s.clk with fwdLocked := false } }
  | .return => { s with clk := { s.clk with retLocked := false } }

/-- A synthesiser has been out of lock for 1 µs (R222, R258): `EV_LOL` source 2, unless the other one's loss raised it already,
and the link goes down with reason 1 (R223). -/
def State.lanePllLost (s : State) (synth : Synth) : State :=
  let s1 := s.unlockSynth synth
  (if s1.lnk.lol2 then s1 else { s1 with lnk := { s1.lnk with lol2 := true } }.raiseLol 2 true).backToAcquire 1

/-- The synthesiser that falls out of lock: the locked one; where both are, either may (a free value, log 2). -/
def State.unlocking (s : State) : Option Synth :=
  if s.synthLocked .forward then
    some (if s.synthLocked .return && Config.returnLost s.free then .return else .forward)
  else if s.synthLocked .return then some .return
  else none

def execLanePllUnlock (s : State) : Result :=
  .next (match s.unlocking with
    | some x => if s.powered 48 then { s with free := s.free + 1 }.lanePllLost x else s
    | none => s)

/-! ## The return lane -/

/-- The CDR has lock again (R222); not while `EV_LOS` source 1 stands (DESIGN CHOICE, log 91: R222 ties the clearing to the lock
alone). -/
def State.cdrLocked (s : State) : State :=
  let s1 := { s with lnk := { s.lnk with rx := { s.lnk.rx with locked := true } } }
  (if s.lnk.lol1 then { s1 with lnk := { s1.lnk with lol1 := false } }.raiseLol 1 false else s1).afterAcquire

def execRlCdrLock (s : State) : Result :=
  .next (if s.powered 47 && !s.lnk.rx.locked && !s.lnk.los1 then s.cdrLocked else s)

/-- Without the CDR's lock codewords are lost: no marker after it follows one before it (R236), and packet alignment is lost (R230). -/
def Receiver.cdrLost (x : Receiver) : Receiver :=
  { x with locked := false, stream := none, run := 0, spaced := false, since := none }

/-- The CDR has been out of lock for 1 µs: the return lane counts as lost (R236). -/
def State.cdrLost (s : State) : State :=
  { s with lnk := { s.lnk with lol1 := true, rx := s.lnk.rx.cdrLost } }.raiseLol 1 true

def execRlCdrUnlock (s : State) : Result := .next (if s.powered 47 && !s.lnk.lol1 then s.cdrLost else s)

/-- One more codeword at the receiver; `marker`: it is a valid marker codeword (R236). A marker is expected 256 codewords after the
last one, or after the last place one was expected at. -/
def Receiver.noted (x : Receiver) (marker : Bool) (tick : Nat) : Receiver :=
  if marker then
    { x with run := x.run + 1, spaced := x.since = some 255 && x.missed = 0, since := some 0, missed := 0, markTick := tick }
  else
    { x with run := 0
             since := x.since.map fun n => if n = 255 then 0 else n + 1
             missed := if x.since = some 255 then x.missed + 1 else x.missed }

/-- Block lock is there to take: four valid markers in a row, or two 256 codewords apart (R236). -/
def Receiver.lockable (x : Receiver) : Bool := 4 ≤ x.run || x.spaced

/-- Four expected markers in a row are missing or invalid; without a signal none arrives for four marker intervals of
17,408 ticks (R236). -/
def Receiver.unlockable (x : Receiver) (tick : Nat) : Bool := 4 ≤ x.missed || x.markTick + 69632 ≤ tick

def execRlBlockLock (s : State) : Result :=
  .next (if s.powered 47 && s.lnk.rx.locked && !s.lnk.rx.blockLock && s.lnk.rx.lockable then
      { s with
        free := s.free + 1
        lnk := { s.lnk with rx :=
          { s.lnk.rx with blockLock := true, descrambler := Config.scramblerSeed s.free, stream := none } } }.afterAcquire
    else s)

/-- Block lock lost (R236): the receiver searches again. -/
def State.blockLockLost (s : State) : State :=
  { s with lnk := { s.lnk with
      rlBlockLosses := s.lnk.rlBlockLosses + 1
      rx := { s.lnk.rx with blockLock := false, stream := none, run := 0, spaced := false, since := none, missed := 0 } } }

def execRlBlockLockLoss (s : State) : Result :=
  .next (if s.powered 47 && s.lnk.rx.blockLock && s.lnk.rx.unlockable s.clk.ticks then s.blockLockLost else s)

def execRlSignalLoss (s : State) : Result :=
  .next (if s.powered 47 && !s.lnk.los1 then { s with lnk := { s.lnk with los1 := true } }.raiseLos 1 true else s)

def execRlSignalRestore (s : State) : Result :=
  .next (if s.powered 47 && s.lnk.los1 then { s with lnk := { s.lnk with los1 := false } }.raiseLos 1 false else s)

/-- The return lane's figure of merit (R215), taken every 1 ms while `PD_RLANE` is powered (R228). -/
def execRlFomUpdate (fom : Byte) (s : State) : Result :=
  .next (if s.powered 47 then { s with lnk := { s.lnk with rlFom := fom } } else s)

/-- The return lane carries packets: locked, with block lock, and neither condition of R236 asserted. -/
def State.returnLane (s : State) : Bool :=
  s.powered 47 && s.lnk.rx.locked && s.lnk.rx.blockLock && !s.lnk.los1 && !s.lnk.lol1

end Sys2Proof.Machine
end

