-- ==== Sys2Proof/Machine/Link.lean ====
section
/-! DEFINITION. The commands of the link's bring-up, adaptation and retraining (R216 to R224, R235, R243). -/

namespace Sys2Proof.Machine

/-- Ticks of 8 ns in `n` ms and `n` µs. -/
def msTicks (n : Nat) : Nat := 125000 * n
def usTicks (n : Nat) : Nat := 125 * n

/-! ## Identification (R218) -/

/-- What a LANE_REPORT says of one receiver: the physical lane and whether it arrived inverted (R242, R243). -/
def laneFound (b : Byte) : Option (Nat × Bool) :=
  if b.toNat.testBit 7 then some (b.toNat % 8, b.toNat.testBit 3) else none

/-- The report is accepted (R218): receiver 0 found a lane, no physical lane appears twice, every one lies in the mask. -/
def laneReportOk (mask : Nat) (receivers : List Byte) : Bool :=
  let found := receivers.filterMap laneFound
  ((receivers.head?.bind laneFound).isSome) && decide (found.map Prod.fst).Nodup &&
    found.all fun x => x.1 < 4 && mask.testBit x.1

/-- The lane map of a report: nibble k is what receiver k found, and keeps its value where it found nothing (log 14). -/
def laneMapOf (old : Nat) (receivers : List Byte) : Nat :=
  ((List.range 4).zip receivers).foldl (fun m x =>
    match laneFound x.2 with
    | some f => m - bitsOf m (4 * x.1) 4 * 2 ^ (4 * x.1) + (f.1 + 8 * boolNat f.2) * 2 ^ (4 * x.1)
    | none => m) old

/-- Receivers, from 0 up, that found a lane (R219). -/
def lanesFound (receivers : List Byte) : Nat := (receivers.takeWhile fun b => (laneFound b).isSome).length

/-- Step 3 (R216): the map is applied and stored, lanes not mapped are switched off, and step 4 follows. -/
def State.applyLaneReport (s : State) (receivers : List Byte) : State :=
  let map := laneMapOf (s.stored 0x1C07) receivers
  let mapped := (receivers.filterMap laneFound).map Prod.fst
  let s1 := (s.storePar 0x1C07 map).domainsOff (((List.range 4).filter fun p => !mapped.contains p).map (43 + ·))
  { s1 with lnk := { s1.lnk with
      map := map, mapInForce := true, requested := lanesFound receivers, restarts := 0
      mapped := (List.range 4).filter fun k => (receivers[k]?.bind laneFound).isSome } }.enterHop s1.lnk.target

/-- A TRAIN LANE_REPORT received (R218, R243). -/
def State.onLaneReport (s : State) (receivers : List Byte) : State :=
  if s.lnk.state = .ident && s.returnLane && receivers.length = 4 && laneReportOk s.lnk.mask receivers then
    s.applyLaneReport receivers
  else s

def execLaneReport (receivers : List Byte) (s : State) : Result := .next (s.onLaneReport receivers)

/-- No valid report in time: step 2 restarts, or the bring-up fails (R218). -/
def State.identAgain (s : State) : State :=
  if s.lnk.restarts < s.lnk.retries then { s with lnk := { s.lnk with restarts := s.lnk.restarts + 1 } }.enterIdent
  else s.failBringUp

def execIdentTimeout (s : State) : Result :=
  .next (if s.lnk.state = .ident && !s.closing && s.lnk.entered + msTicks s.lnk.identTimeout ≤ s.clk.ticks then s.identAgain else s)

/-! ## FoM requests and reports (R220, R224, R243) -/

/-- A lane is still adapting. -/
def LaneAdapt.open_ (a : LaneAdapt) : Bool := a.phase != .done

/-- The logical lanes still adapting, as a mask (R242). -/
def Adapt.openMask (a : Adapt) : Nat := joinMasks ((a.lanes.filter fun x => x.2.open_).map fun x => 2 ^ x.1)

/-- A TRAIN FOM_REQUEST (R242). -/
def fomRequestPacket (round : Byte) (rate lanes monitoring : Nat) : Packet :=
  { kind := 8, body := [1, round, 0, 0] ++ leBytes 1 rate ++ leBytes 1 lanes ++ leBytes 1 monitoring ++ [0] }

/-- The request of the present round of step 5 goes to every lane (R220), with the next packet sent there. -/
def State.askFom (s : State) (a : Adapt) : State :=
  { s with lnk := { s.lnk with
      outstanding := some ⟨a.round, s.clk.ticks, false⟩
      train := s.lnk.train ++ [fomRequestPacket a.round a.rate a.openMask 0] } }

/-- The trials of the round have settled for `LINK.FOM_SETTLE`. -/
def Adapt.settled (a : Adapt) (ticks : Nat) : Bool := a.since + usTicks a.settle ≤ ticks

def execFomRequest (s : State) : Result :=
  .next (match s.lnk.adapt with
    | some a => if s.lnk.state = .adapt && !s.closing && s.lnk.outstanding.isNone && a.settled s.clk.ticks then s.askFom a else s
    | none => s)

/-- A monitoring request (R224), queued ahead of every other packet: one for every lane in use (DESIGN CHOICE, log 25). -/
def State.askMonitor (s : State) : State :=
  { s with lnk := { s.lnk with
      outstanding := some ⟨s.lnk.monRound, s.clk.ticks, true⟩, monRound := s.lnk.monRound + 1, monTick := s.clk.ticks
      train := s.lnk.train ++ List.replicate s.lnk.lanesUsed
        (fomRequestPacket s.lnk.monRound s.lnk.rateUsed (2 ^ s.lnk.lanesUsed - 1) 1) } }

def execFomMonitorRequest (s : State) : Result :=
  .next (if s.lnk.state = .up && s.lnk.monTick + msTicks 100 ≤ s.clk.ticks then s.askMonitor else s)

/-- The FoM that counts for each receiver: 0 where it has no lock (R243). -/
def countedFoms (foms : List Byte) (lock : BitVec 4) : List Nat :=
  ((List.range 4).zip foms).map fun x => if lock.getLsbD x.1 then x.2.toNat else 0

/-- The four counted FoMs as `LINK.FOM_LAST` (R228). -/
def fomWord (foms : List Nat) : Word := BitVec.ofNat 32 (leNat (foms.map (BitVec.ofNat 8 ·)))

/-- The preset sweep of the lane ended with this answer. -/
def sweepEnded (before after : Option LaneAdapt) : Bool :=
  match before.map LaneAdapt.phase, after.map LaneAdapt.phase with
  | some (.preset _), some (.preset _) => false
  | some (.preset _), some _ => true
  | _, _ => false

/-- An answer of step 5 (R220): every lane takes its FoM, and when all are done the step ends (R219). -/
def State.adaptAnswer (s : State) (a : Adapt) (foms : List Nat) : State :=
  let lanes := a.lanes.map fun x => (x.1, x.2.answer a.passes a.target (foms.getD x.1 0))
  let first := spFind 0 lanes
  let preset := if sweepEnded (spFind 0 a.lanes) first then (first.map LaneAdapt.preset).getD 0 else s.lnk.ffePreset
  let a' := { a with lanes := lanes, round := a.round + 1, missing := 0, since := s.clk.ticks }
  let s1 := { s with lnk := { s.lnk with
    outstanding := none, fomLast := fomWord foms, ffePreset := preset, adapt := some a' } }
  if lanes.any fun x => x.2.open_ then s1 else s1.endAdapt a'

/-- An answer to a monitoring request (R224). Low reports count while `LINK.AUTO_RETRAIN` is 0 too, so a third one after it is written
1 retrains (DESIGN CHOICE, log 82). -/
def State.monitorAnswer (s : State) (foms : List Nat) : State :=
  let low := (foms.take s.lnk.lanesUsed).any fun f => f < s.stored 0x1C11
  let run := if low then s.lnk.lowRun + 1 else 0
  let s1 := { s with lnk := { s.lnk with outstanding := none, fomLast := fomWord foms, lowRun := run } }
  if 3 ≤ run && s.stored 0x1C16 = 1 && !s.closing then s1.askRetrain 4 else s1

/-- The report answers the outstanding request: its round matches, and it came within 1 ms (R220, R224, R243). -/
def State.fomAnswered (s : State) (round : Byte) (q : FomAsk) : Bool :=
  q.round = round && s.clk.ticks ≤ q.tick + msTicks 1 && s.returnLane

/-- A TRAIN FOM_REPORT received (R243). -/
def State.onFomReport (s : State) (round : Byte) (foms : List Byte) (lock : BitVec 4) : State :=
  match s.lnk.outstanding with
  | none => s
  | some q =>
    if foms.length != 4 || !s.fomAnswered round q then s
    else if s.lnk.state = .up then s.monitorAnswer (countedFoms foms lock)
    else match s.lnk.adapt with
      | some a => if s.lnk.state = .adapt then s.adaptAnswer a (countedFoms foms lock) else s
      | none => s

def execFomReport (round : Byte) (foms : List Byte) (lock : BitVec 4) (s : State) : Result :=
  .next (s.onFomReport round foms lock)

/-- A report is missing after 1 ms: in step 5 the third in a row fails the bring-up (R220); while UP it counts as neither
low nor good (R224). The trials of a missing round are asked for again under the next round number (log 15). -/
def State.fomMissing (s : State) (q : FomAsk) : State :=
  let s1 := { s with lnk := { s.lnk with outstanding := none } }
  if q.monitoring || s.closing then s1
  else match s.lnk.adapt with
    | none => s1
    | some a =>
      if 3 ≤ a.missing + 1 then s1.failBringUp
      else { s1 with lnk := { s1.lnk with adapt := some { a with
               missing := a.missing + 1, round := a.round + 1, since := s.clk.ticks } } }

def execFomReportTimeout (s : State) : Result :=
  .next (match s.lnk.outstanding with
    | some q => if q.tick + msTicks 1 ≤ s.clk.ticks then s.fomMissing q else s
    | none => s)

/-! ## Alignment, retraining, waiting (R223, R235, R243) -/

/-- A TRAIN ALIGNED received (R235, R243). -/
def State.onAligned (s : State) : State :=
  if s.lnk.state = .align && s.lnk.mode != 2 && s.returnLane then s.enterUp else s

def execAligned (s : State) : Result := .next s.onAligned

def execAlignTimeout (s : State) : Result :=
  .next (if s.lnk.state = .align && !s.closing && s.lnk.mode != 2 && s.lnk.entered + msTicks s.lnk.alignTimeout ≤ s.clk.ticks then
      s.failBringUp else s)

def execFixedAlignExpiry (s : State) : Result :=
  .next (if s.lnk.state = .align && !s.closing && s.lnk.mode = 2 && s.lnk.entered + msTicks 1 ≤ s.clk.ticks then s.enterUp else s)

/-- A TRAIN RETRAIN received (R243). -/
def State.onRetrain (s : State) : State :=
  if s.lnk.state = .up && s.returnLane && !s.closing then s.askRetrain 5 else s

def execRetrain (s : State) : Result := .next s.onRetrain

def execDownWaitExpiry (s : State) : Result :=
  .next (if s.lnk.state = .downWait && s.coreFree && s.lnk.entered + msTicks 1000 ≤ s.clk.ticks then s.startBringUp else s)

end Sys2Proof.Machine
end

