-- ==== Sys2Proof/Machine/PinOps.lean ====
section
/-! DEFINITION. The GP pads (17): configuration fields, what each pad is driven to, safe levels, and what PD_PIN's removal and
return do to the engines. -/

namespace Sys2Proof.Machine

/-! ## Configuration (R386) -/

/-- The reset value of `PIN.CFGn`. -/
def pinReset : Nat := 0x000A138800002D00

/-- `PIN.CFGn` in force, and one of its fields: a change takes effect at the next tick (R387). -/
def State.pinCfg (s : State) (n : Nat) : Nat := spGet pinReset n s.pin.cfg
def State.pinField (s : State) (n lo len : Nat) : Nat := bitsOf (s.pinCfg n) lo len

/-- FUNCTION of a pin. -/
def State.pinFunction (s : State) (n : Nat) : Nat := s.pinField n 0 4

/-- The pin's input buffer is on (R387). -/
def State.bufferOn (s : State) (n : Nat) : Bool :=
  s.pinFunction n != 0 || s.stored 0x0C04 = n + 1 || ((s.stored 0x0803).testBit 1 && bitsOf (s.stored 0x0804) 0 4 = n)

/-- What a pad is driven to for a level, with INVERT and OPEN_DRAIN. -/
def State.padFor (s : State) (n : Nat) (level : Bool) : Drive :=
  if level != (s.pinField n 4 1 = 1) then (if s.pinField n 7 1 = 1 then .released else .high) else .low

/-! ## Engines' outputs -/

/-- The tint engine `e`. -/
def State.tintAt (s : State) (e : Nat) : Tint := s.pin.tint.toList.getD e {}

/-- The engine's outputs in force at the present tick (R392): a new evaluation takes effect from the next one. -/
def State.tintOut (s : State) (e : Nat) : Nat := (s.tintAt e).out

/-- The tint engine `e` replaced. -/
def State.setTint (s : State) (e : Nat) (t : Tint) : State :=
  if h : e < 8 then { s with pin := { s.pin with tint := s.pin.tint.set e t h } } else s

/-- The shade sequencer `q`, and its replacement. -/
def State.shadeAt (s : State) (q : Nat) : Shade := s.pin.shade.toList.getD q {}
def State.setShade (s : State) (q : Nat) (x : Shade) : State :=
  if h : q < 4 then { s with pin := { s.pin with shade := s.pin.shade.set q x h } } else s

/-! ## Pads -/

/-- What the pad of pin `n` is latched at, and what that drives. -/
def State.padLatch (s : State) (n : Nat) : Latch := spGet (.pad .released) n s.pin.latch
def State.latchDrive (s : State) (n : Nat) : Drive :=
  match s.padLatch n with
  | .pad d => d
  | .level b => s.padFor n b

/-- What the pad of pin `n` is driven to now (R386 to R388). -/
def State.padDrive (s : State) (n : Nat) : Drive :=
  let f := s.pinFunction n
  if f < 2 || 4 < f then .released
  else if !s.powered 52 then s.latchDrive n
  else if f = 2 then s.padFor n (s.pinField n 12 1 = 1)
  else if f = 3 then
    (if (s.tintAt (s.pinField n 16 3)).running then
      s.padFor n ((s.tintOut (s.pinField n 16 3)).testBit (s.pinField n 19 1))
    else s.latchDrive n)
  else s.latchDrive n

/-! ## Lands (R429, R446, R454) -/

/-- What drives the scanned outputs (R446): EXTEST, CLAMP and HIGHZ take effect only while RST_N is low. -/
def State.tapDrive (s : State) : TapDrive :=
  if s.pad.rstN then .functional
  else if s.tap.ir = 0 || s.tap.ir = 4 then .boundary else if s.tap.ir = 3 then .highz else .functional

/-- What a land number `k` of VDDIO is driven to, by its functional drive and its boundary cells. -/
def State.landOf (s : State) (k : Nat) (functional : Drive) (out enable : Bool) : Drive :=
  if s.pwr.padsOff then .released
  else if s.pwr.railsLow.contains .vddio then
    (if Config.weakLand k s.clk.ticks = 0 then .released else if Config.weakLand k s.clk.ticks = 1 then .low else .high)
  else match s.tapDrive with
    | .functional => functional
    | .boundary => if enable then (if out then .high else .low) else .released
    | .highz => .released

/-- The land of GP pin `n`. -/
def State.gpLand (s : State) (n : Nat) : Drive :=
  s.landOf n (s.padDrive n) (s.tap.boundary.gpOut.getLsbD n) (s.tap.boundary.gpEn.getLsbD n)

/-- The pad latched. -/
def State.latchPad (s : State) (n : Nat) (d : Latch) : State :=
  { s with pin := { s.pin with latch := spSet (.pad .released) n d s.pin.latch } }

/-- The safe level of pin `n` (R386 SAFE, R388). -/
def State.safeDrive (s : State) (n : Nat) : Drive :=
  match s.pinField n 10 2 with
  | 0 => s.padDrive n
  | 1 => .low
  | 2 => .high
  | _ => .released

/-- The pins of the list go to their safe levels. -/
def State.toSafe (s : State) (l : List Nat) : State := l.foldl (fun s' n => s'.latchPad n (.pad (s.safeDrive n))) s

/-- The pins that tint engine `e` drives, and those of sequencer `q`. -/
def State.tintPins (s : State) (e : Nat) : List Nat :=
  (List.range 16).filter fun n => s.pinFunction n = 3 && s.pinField n 16 3 = e
def State.shadePins (s : State) (q : Nat) : List Nat :=
  (List.range 16).filter fun n => s.pinFunction n = 4 && s.pinField n 16 2 = q

/-- The sequencer drives a pin, where the pin is its own (R387). -/
def State.drivePin (s : State) (q n : Nat) (d : Latch) : State :=
  if s.pinFunction n = 4 && s.pinField n 16 2 = q then s.latchPad n d else s

/-! ## Engines started and stopped -/

/-- Engine `e` starts with state 0 and both outputs 0 (R393). -/
def State.startTint (s : State) (e : Nat) : State :=
  s.setTint e { running := true, startTick := s.clk.ticks }

/-- Engine `e` stops: its state freezes, and its pins go to their safe levels (R393). -/
def State.stopTint (s : State) (e : Nat) : State :=
  if (s.tintAt e).running then
    (s.toSafe (s.tintPins e)).setTint e { s.tintAt e with running := false, next := none }
  else s

/-- The engines that `PIN.TINT_RUN` names started, the others stopped. -/
def State.runTints (s : State) (mask : Nat) : State :=
  (List.range 8).foldl (fun s e =>
    if mask.testBit e then (if (s.tintAt e).running then s else s.startTint e) else s.stopTint e) s

/-- Sequencer `q` stopped (R398 STOP): IDLE, FIFOs cleared, its pins at their safe levels. -/
def State.stopShade (s : State) (q : Nat) : State :=
  (s.toSafe (s.shadePins q)).setShade q { s.shadeAt q with
    state := .idle, inFifo := [], outFifo := [], waiting := none, shifted := 0, changed := false, target := none, drove := none
    change := none }

/-! ## The arming unit (R389) -/

/-- The source of captures' triggers is at a GP pin or a tint output (R68). -/
def State.trigSource (s : State) : Nat := s.stored 0x100C

/-- The conditioned level of a source (R68): 0 to 15 GP pins, 16 to 31 tint outputs. -/
def State.sourceLevel (s : State) (src : Nat) : Bool :=
  if src < 16 then s.pin.levels.getLsbD src else (s.tintOut ((src - 16) / 2)).testBit (src % 2)

/-- The trigger source is at its active level (R389). -/
def State.sourceActive (s : State) : Bool := s.sourceLevel s.trigSource = (s.stored 0x100D = 0)

/-- The unit starts disarmed: TRIGGERED mode, a new source or a new edge has come into force. -/
def State.resetArm (s : State) : State :=
  { s with pin := { s.pin with
    armed := false, active := s.sourceActive, since := s.clk.ticks, holdPassed := false, delivered := false } }

/-! ## PD_PIN (R388, R402) -/

/-- PD_PIN is removed: every output goes to its safe level, engines and sequencers stop. -/
def State.dropPins (s : State) : State :=
  if !s.powered 52 then s
  else
    let outputs := (List.range 16).filter fun n => 2 ≤ s.pinFunction n && s.pinFunction n ≤ 4
    let s1 := s.toSafe outputs
    let idle (x : Shade) : Shade := { state := .idle, gen := x.gen }
    { s1.domainOff 52 with pin := { s1.pin with
        samples := 0, before := 0, fixed := 0xFFFF, fixedBefore := 0xFFFF, levels := 0, activity := [], armed := false, active := false, holdPassed := false, delivered := false
        tint := Vector.replicate 8 {}, shade := s1.pin.shade.map idle } }

/-- PD_PIN powers up in its reset state; the engines that `PIN.TINT_RUN` names start (R402). -/
def State.powerPins (s : State) : State := ((s.domainOn 52).runTints (s.stored 0x2C18)).resetArm

end Sys2Proof.Machine
end

