-- ==== Sys2Proof/Machine/Calibration.lean ====
section
/-! DEFINITION. The calibration region (R111, R318, R322, R363): the images of `TBL_COLCAL` and `TBL_DEFECT`, their in-force records,
and what stands in for a table that fails its check. -/

namespace Sys2Proof.Machine

/-- The entries of `TBL_COLCAL` a table image spells (R87), and those of `TBL_DEFECT` (R95) without their
reserved bits (R9). -/
def decodeColcal : Nat → Nat → Bytes → Sparse ColCal
  | 0, _, _ => []
  | f + 1, i, b =>
    if b.length < 8 then []
    else
      let c : ColCal := ⟨toSigned 16 (leAt 0 2 b), toSigned 16 (leAt 2 2 b), leAt 4 2 b, leAt 6 2 b⟩
      let rest := decodeColcal f (i + 1) (b.drop 8)
      if c = {} then rest else (i, c) :: rest
def decodeDefects : Nat → Bytes → List Defect
  | 0, _ => []
  | f + 1, b =>
    if b.length < 8 then [] else ⟨leAt 0 2 b, leAt 2 2 b, leAt 4 1 b, leAt 5 1 b % 16⟩ :: decodeDefects f (b.drop 8)

/-- The record of a calibration table: 2 is `TBL_DEFECT`, 3 is `TBL_COLCAL`. -/
def Tab.record (t : Tab) (table : Nat) : Copies TableRecord := if table = 2 then t.defectTable else t.colTable

/-- The bytes of the image in force; none where no table was ever written. -/
def State.tableImage (s : State) (table : Nat) : Bytes :=
  match (s.tab.record table).now with
  | some r => nvBytes s.nvs.mem (imageAddr table r.image) r.length
  | none => []

/-- The image a write goes into. -/
def Tab.inactive (t : Tab) (table : Nat) : Nat := (t.record table).now.elim 0 fun r => 1 - r.image

/-- The tables in use: the substitutes of R363 where the check at boot failed, the identity and no defect where none was ever
written. -/
def State.colcal (s : State) : Sparse ColCal :=
  if s.tab.colState = 1 then [] else let b := s.tableImage 3; decodeColcal (b.length / 8) 0 b
def State.defects (s : State) : List Defect :=
  if s.tab.defectState = 1 then [] else let b := s.tableImage 2; decodeDefects (b.length / 8) b
def State.dcgRatio (s : State) : Nat := s.tab.dcgRatio.get 16384

/-- A table fails its check at boot: both copies of its record do, or its image has another SHA-512 (R363). -/
def State.tableFails (s : State) (table : Nat) : Bool :=
  let c := s.tab.record table
  c.failed || c.now.any fun r => sha512 (s.tableImage table) != r.digest

/-- The tables checked. -/
def State.checkTables (s : State) : State :=
  { s with tab := { s.tab with colState := boolNat (s.tableFails 3), defectState := boolNat (s.tableFails 2) } }

/-- A staged image comes into force by one record write, with a new serial (R322, R320), which is a write to the calibration region
(R186). A maker write restores the table's state to 0 (R363). -/
def State.tableInForce (s : State) (table : Nat) (digest : Bytes) (length : Nat) : State :=
  let c := s.tab.record table
  let r : TableRecord := ⟨s.tab.inactive table, length, digest, c.now.elim 1 fun r => r.serial + 1⟩
  { s with tab := if table = 2 then { s.tab with defectTable := c.put r, defectState := 0 }
                  else { s.tab with colTable := c.put r, colState := 0 }
           nvs := s.nvs.wrote (RecordName.area .colTable) }

end Sys2Proof.Machine
end

