-- ==== Sys2Proof/Machine/CaptureOps.lean ====
section
/-! DEFINITION. Shared timing of captures (R49 to R56, R61 to R66), the rates the views demand (R84, R129, R130), and which views
take a capture (R121). Durations are in ticks of 8 ns. -/

namespace Sys2Proof.Machine

/-! ## Tiles, quadrants and row-quads (R40, R41, R61) -/

/-- Quadrant of tile `t`: Q0 top left, Q1 top right, Q2 bottom left, Q3 bottom right. -/
def tileQuad (t : Nat) : Nat := boolNat (12 ≤ t % 24) + 2 * boolNat (9 ≤ t / 24)

/-- The tiles of the powered quadrants `quads`. -/
def tilesOf (quads : Nat) : List Nat := (List.range 432).filter fun t => quads.testBit (tileQuad t)

/-- The top half, and the bottom half, has a powered quadrant. -/
def topRead (quads : Nat) : Bool := quads % 4 != 0
def bottomRead (quads : Nat) : Bool := quads / 4 % 4 != 0

/-- Q_r (R61). -/
def rowQuads (quads : Nat) (bin : Bool) : Nat :=
  (boolNat (topRead quads) + boolNat (bottomRead quads)) * (if bin then 580 else 1160)

/-- Row-quads, in the order of the whole array, that lie before the first one read. -/
def skippedQuads (quads : Nat) (bin : Bool) : Nat := if topRead quads then 0 else if bin then 580 else 1160

/-- k_last of tile row `ty` (R62, R63). -/
def lastQuad (quads : Nat) (bin : Bool) (ty : Nat) : Nat :=
  (if bin then (if ty < 17 then 67 + 64 * ty else 1159) else (if ty < 17 then 135 + 128 * ty else 2319)) -
    skippedQuads quads bin

/-! ## Profiles (R50 to R55) -/

/-- Conversions of a row-quad, and the reference interval (R49), of a capture kind. -/
def conversions (kind : Nat) : Nat := if kind = 1 then 3 else if kind = 2 then 2 else 1
def referenceInterval (kind : Nat) : Nat := if kind = 0 then 449 else 897

/-- Slice `k` of an exposure of `e` ticks cut into `n` (R51). -/
def sliceTicks (e n k : Nat) : Nat := e / n + boolNat (k < e % n)

/-- The exposures, slices and spacing of a profile, before alignment. -/
def profileUse (p kind n window ea ratio spacing gain : Nat) (bin : Bool) : ProfileUse :=
  let period := if n = 1 then 0 else window / n
  let eb := if kind = 1 then ea / ratio else if kind = 2 then ea else 0
  let lastA := (n - 1) * period + sliceTicks ea n (n - 1)
  let s := if spacing = 0 then lastA + 3 else spacing
  let span := if kind = 1 then lastA + 3 + sliceTicks eb n (n - 1) else if kind = 2 then s + lastA else lastA
  { profile := p, slices := n, ea := ea, eb := eb, period := period, spacing := if kind = 2 then s else 0
    gain := if kind = 1 then 0 else gain, span := span + (if bin then 11 else 0), offset := 0 }

/-- Profile `p` as its fields stand. -/
def State.profile (s : State) (p : Nat) : ProfileUse :=
  profileUse p (s.stored 0x1007) (s.stored (profileId p 2)) (s.stored (profileId p 3)) (s.stored (profileId p 0))
    (s.stored (profileId p 1)) (s.stored (profileId p 4)) (s.stored (profileId p 5)) (s.stored 0x1003 = 1)

/-- Last transfer fall into SN-A, from the profile's origin. -/
def ProfileUse.lastA (u : ProfileUse) : Nat := (u.slices - 1) * u.period + sliceTicks u.ea u.slices (u.slices - 1)

/-- First transfer fall into SN-A, and into SN-B of a capture kind (R64). -/
def ProfileUse.firstA (u : ProfileUse) : Nat := sliceTicks u.ea u.slices 0
def ProfileUse.firstB (u : ProfileUse) (kind : Nat) : Nat :=
  if kind = 1 then u.firstA + 3 + sliceTicks u.eb u.slices 0 else u.spacing + u.firstA

/-- A profile is valid (R55); `spacing` is `PROFILE.BURST_SPACING` as written. -/
def ProfileUse.valid (u : ProfileUse) (kind spacing : Nat) : Bool :=
  let n := u.slices
  125 ≤ u.ea && u.ea ≤ 500000000 && 6 ≤ u.ea / n &&
    (kind != 1 || (125 ≤ u.eb && 6 ≤ u.eb / n)) &&
    (n < 2 || (u.firstA + 3 ≤ u.period && (kind != 1 || u.firstA + 3 + sliceTicks u.eb n 0 + 3 ≤ u.period))) &&
    (kind != 2 || spacing = 0 || u.lastA + 3 ≤ spacing) &&
    u.span ≤ 1000000000

/-- Profile `p` is valid as its fields stand. -/
def State.profileValid (s : State) (p : Nat) : Bool :=
  (s.profile p).valid (s.stored 0x1007) (s.stored (profileId p 4))

/-- Profile of tile `t` (R40). -/
def State.tileProfile (s : State) (t : Nat) : Nat := spGet 0 t s.tab.tilemap

/-- The profiles in use for the powered quadrants (R50). -/
def State.profilesInUse (s : State) (quads : Nat) : List Nat :=
  let used := (tilesOf quads).map s.tileProfile
  (List.range 16).filter used.contains

/-- Smax (R56). -/
def maxSpan (l : List ProfileUse) : Nat := maxList (l.map ProfileUse.span)

/-- The profiles placed against the capture's start (R56). -/
def alignProfiles (centre : Bool) (l : List ProfileUse) : List ProfileUse :=
  let m := maxSpan l
  l.map fun u => { u with offset := if centre then (m - u.span) / 2 else m - u.span }

/-- The profiles in use, aligned, for the powered quadrants. -/
def State.uses (s : State) (quads : Nat) : List ProfileUse :=
  alignProfiles (s.stored 0x1008 = 1)
    ((s.profilesInUse quads).map fun p => { s.profile p with auto := s.stored (profileId p 6) = 1 })

/-- The lead of a node (R64): from its first transfer-pulse rise to Tx. -/
def ProfileUse.lead (u : ProfileUse) (smax firstFall : Nat) : Int := (smax : Int) - u.offset - (firstFall - 5)

/-- The leads of every node the kind uses. -/
def ProfileUse.leads (u : ProfileUse) (kind smax : Nat) : List Int :=
  if kind = 0 then [u.lead smax u.firstA] else [u.lead smax u.firstA, u.lead smax (u.firstB kind)]

/-! ## The readout interval and the budgets (R62, R66) -/

/-- I for the powered quadrants (R62). -/
def State.interval (s : State) (quads : Nat) : Nat :=
  let ref := referenceInterval (s.stored 0x1007)
  let q := rowQuads quads (s.stored 0x1003 = 1)
  if s.stored 0x100B != 0 then s.stored 0x100B
  else if s.stored 0x1006 = 1 || q = 0 then ref
  else min ref (s.stored 0x1009 / q)

/-- The budget of a tile row (R66). -/
def State.budget (s : State) (quads ty : Nat) : Int :=
  (s.stored 0x1009 : Int) - (lastQuad quads (s.stored 0x1003 = 1) ty + 1) * s.interval quads - 500

/-- The smallest budget among the tiles of profile `p` (`PROFILE.LEAD_LIMIT`, R66). -/
def State.profileBudget (s : State) (quads p : Nat) : Int :=
  let rows := ((tilesOf quads).filter fun t => s.tileProfile t = p).map fun t => t / 24
  s.budget quads (maxList rows)

/-- The configuration meets R66 in CONTINUOUS mode. -/
def State.meetsBudgets (s : State) (quads : Nat) : Bool :=
  let us := s.uses quads
  let kind := s.stored 0x1007
  let smax := maxSpan us
  s.stored 0x1006 = 1 ||
    us.all fun u => u.span + 3 ≤ s.stored 0x1009 &&
      (u.leads kind smax).all fun l => decide (l ≤ s.profileBudget quads u.profile)

/-- Every profile in use is valid (R55). -/
def State.profilesValid (s : State) (quads : Nat) : Bool := (s.profilesInUse quads).all s.profileValid

/-! ## Views: sizes and demands (R116, R119, R129) -/

/-- Bits of a pixel of a format (R102). -/
def formatBits (f : Nat) : Nat := if f = 0 then 12 else if f = 1 then 14 else if f = 2 then 16 else 20

/-- b, kh and kv of R116. -/
def ViewGen.b (g : ViewGen) : Nat := if g.bin = 1 then 2 else 1
def ViewGen.kh (g : ViewGen) : Nat := g.skip % 4
def ViewGen.kv (g : ViewGen) : Nat := g.skip / 16 % 4

/-- OW and OH (R116). -/
def ViewGen.ow (g : ViewGen) : Nat := g.width / (g.b * 2 ^ g.kh)
def ViewGen.oh (g : ViewGen) : Nat := g.height / (g.b * 2 ^ g.kv)

/-- `VIEW.LINE_BYTES` and `VIEW.FRAME_BYTES` (R119). -/
def ViewGen.lineBytes (g : ViewGen) : Nat := g.ow * formatBits g.format / 8
def ViewGen.frameBytes (g : ViewGen) : Nat := g.lineBytes * g.oh

/-- n_rq (R129). -/
def ViewGen.quads (g : ViewGen) (bin : Bool) : Nat := g.height / (if bin then 8 else 4)

/-- Bytes the view packs per row-quad of its span. -/
def ViewGen.quadBytes (g : ViewGen) (bin : Bool) : Nat := g.frameBytes / g.quads bin

/-- First readout position of the view's span (R129). -/
def ViewGen.firstQuad (g : ViewGen) (powered : Nat) (bin : Bool) : Nat :=
  (g.y0 + 32) / (if bin then 8 else 4) - skippedQuads powered bin

/-- Does the view's span hold readout position `k`? -/
def ViewGen.spans (g : ViewGen) (powered : Nat) (bin : Bool) (k : Nat) : Bool :=
  g.firstQuad powered bin ≤ k && k < g.firstQuad powered bin + g.quads bin

/-- Quadrants and column segments the window needs (R44, R109). -/
def ViewGen.needQuads (g : ViewGen) : Nat :=
  let left := g.x0 < 6144
  let right := 6144 < g.x0 + g.width
  let top := g.y0 < 4608
  let bottom := 4608 < g.y0 + g.height
  boolNat (left && top) + 2 * boolNat (right && top) + 4 * boolNat (left && bottom) + 8 * boolNat (right && bottom)
def ViewGen.needSegs (g : ViewGen) : Nat :=
  maskOf ((List.range 6).map fun i => g.x0 < 2048 * (i + 1) && 2048 * i < g.x0 + g.width)

/-- P of R129 as bytes per row-quad interval: the largest sum over the readout positions. -/
def peakBytes (powered : Nat) (bin : Bool) (l : List ViewGen) : Nat :=
  maxList (l.map fun g =>
    let k := g.firstQuad powered bin
    ((l.filter fun h => h.spans powered bin k).map fun h => h.quadBytes bin).foldl (· + ·) 0)

/-- What the checks and the governor need of a configuration: I, c, powered segments, P per interval, hash groups. -/
structure Demand where
  interval : Nat
  conv : Nat
  segments : Nat
  peak : Nat
  groups : Nat
  deriving DecidableEq, Repr

/-- Number of ones among the low `n` bits. -/
def popBits (n v : Nat) : Nat := ((List.range n).filter v.testBit).length

/-- The demand of views with the powered quadrants and segments. -/
def State.demandOf (s : State) (quads segs : Nat) (l : List ViewGen) : Demand :=
  { interval := s.interval quads, conv := conversions (s.stored 0x1007), segments := popBits 6 segs
    peak := peakBytes quads (s.stored 0x1003 = 1) l, groups := s.stored 0x2003 }

/-- The demand on pace monitor `i` (R283), as a numerator over 8 × I: units per second (R84, R129, R135). -/
def Demand.on (d : Demand) (i : Nat) : Nat :=
  if i < 4 then d.conv * 1000000000
  else if i = 4 then d.conv * 1000000000 * 4 * (2048 * d.segments + 64)
  else if i = 5 then d.peak * 1000000000
  else if i - 6 < d.groups then d.peak * 1000000000 / d.groups
  else 0

/-- The worst-corner floor of a monitor (R17), in units per second. -/
def paceFloor (i : Nat) : Nat :=
  if i < 4 then 454545 else if i = 4 then 22000000000 else if i = 5 then 28000000000 else 6800000000

/-- The pace check of R18. -/
def Demand.paceOk (d : Demand) (reserve : Nat) : Bool :=
  (List.range 10).all fun i => d.on i * (102 + reserve) ≤ paceFloor i * 100 * 8 * d.interval

/-- The link check of R130, with `lanes` in use at a rate code. -/
def Demand.linkOk (d : Demand) (lanes rate : Nat) : Bool :=
  808 * d.peak * 1000000000 ≤ 97 * lanes * rateCapacity rate * 1000000 * 8 * d.interval

/-- Lanes in use and rate code for the check of R130 (R226). -/
def State.linkCheck (s : State) : Nat × Nat :=
  if s.lnk.state = .up then (s.lnk.lanesUsed, s.lnk.rateUsed)
  else match s.lnk.lastGood with
    | some (rate, lanes) => (lanes, rate)
    | none => (s.stored 0x1C05, s.stored 0x1C02)

/-- Views that count in the demands: those started and not stopped, each in its latest generation (R124, R129). -/
def State.liveViews (s : State) : List Nat :=
  (List.range 32).filter fun v => (s.viewAt v).state = .running || (s.viewAt v).state = .starting

/-! ## The readout interval in use (R62, R75, R114) -/

/-- `VIEW.READ_RATE` of a generation at a readout interval (R129). -/
def State.readRate (s : State) (g : ViewGen) (interval : Nat) : Nat :=
  g.frameBytes * 1000 / (g.quads (s.stored 0x1003 = 1) * 8 * interval)

/-- A view with its read rate at a readout interval. -/
def State.rated (s : State) (interval : Nat) (x : View) : View :=
  if x.genNo = 0 then x else { x with readRate := s.readRate x.gen interval }

/-- The readout interval in use: where it changes, so does every view's read rate. -/
def State.useInterval (s : State) (interval : Nat) : State :=
  if s.ets.intervalUsed = interval then s
  else { s with ets := { s.ets with intervalUsed := interval }, view := s.view.map (s.rated interval) }

/-- The demand now. -/
def State.demand (s : State) : Demand :=
  s.demandOf s.pix.quadReady.toNat s.pix.segReady.toNat (s.liveViews.map fun v => (s.viewAt v).gen)

/-! ## What a capture is taken by (R121) -/

/-- The running view takes the capture-counter value. -/
def View.takes (x : View) (c : Word64) : Bool :=
  x.state = .running && x.from_.toNat ≤ c.toNat && c.toNat % x.gen.rateDiv = x.gen.ratePhase

/-- The value lies after those the view's generation holds for good, or could first take (R127 step 4). -/
def View.past (x : View) (c : Word64) : Bool :=
  match x.held with
  | some h => h.toNat < c.toNat
  | none => x.from_.toNat ≤ c.toNat

/-- The views that take the value `c`. -/
def State.takers (s : State) (c : Word64) : List Nat := (List.range 32).filter fun v => (s.viewAt v).takes c

/-- The views being reconfigured under whose new divider `c` falls: they note it as a RECONFIG value (R127 step 4). -/
def State.reconfigurers (s : State) (c : Word64) : List Nat :=
  (List.range 32).filter fun v =>
    let x := s.viewAt v
    x.state = .starting && x.reactivating && c.toNat % x.gen.rateDiv = x.gen.ratePhase

/-- A value of a view being reconfigured. -/
def State.noteReconfig (s : State) (c : Word64) (time : Option Word64) : State :=
  (s.reconfigurers c).foldl (fun s v => s.onView v fun x =>
    { x with reconfig := x.reconfig ++ [⟨c, time, .gap .reconfig⟩] }) s

end Sys2Proof.Machine
end

