-- ==== Sys2Proof/Machine/Time.lean ====
section
/-! DEFINITION. Clocks and device time (11): the reference clock, the time PLL, the PPS discipline and the phase rotation, and
the tick of the time base (R259, log 3). -/

namespace Sys2Proof.Machine

/-- round_half_up(x ÷ d) (R85). -/
def roundDiv (x : Int) (d : Nat) : Int := (2 * x + d) / (2 * d : Int)

/-- round8 of R262. -/
def round8 (x : Int) : Int := 8 * roundDiv x 8

/-- `x` held between `lo` and `hi`. -/
def clampInt (lo hi x : Int) : Int := max lo (min hi x)

/-! ## The reference clock and the time PLL (R222, R261) -/

/-- REFCLK without edges for 100 ns, in the order of R227: no synthesiser keeps lock. -/
def State.refclkLost (s : State) : State :=
  let s1 := { s with clk := { s.clk with refclk := false, pllLocked := false }
                     lnk := { s.lnk with los2 := true } }.raiseLos 2 true
  let s2 := if s.clk.pllLocked then { s1 with lnk := { s1.lnk with lol3 := true } }.raiseLol 3 true else s1
  let s3 := { s2 with clk := { s2.clk with fwdLocked := false, retLocked := false } }
  (if s3.powered 48 && !s3.lnk.lol2 then { s3 with lnk := { s3.lnk with lol2 := true } }.raiseLol 2 true else s3).backToAcquire 2

/-- Nothing in the device depends on REFCLK before the power-on reset is released (R434). -/
def State.refclkUsed (s : State) : Bool := s.pwr.released || s.rst.cause != .por

def execRefclkLoss (s : State) : Result := .next (if s.clk.refclk && s.refclkUsed then s.refclkLost else s)

/-- REFCLK has been within limits for 1 ms: the loss clears, and a bring-up starts from step 1 (R223). -/
def State.refclkBack (s : State) : State :=
  let s1 := { s with clk := { s.clk with refclk := true } }
  let s2 := if s.lnk.los2 then { s1 with lnk := { s1.lnk with los2 := false } }.raiseLos 2 false else s1
  if s2.lnk.state = .rlAcquire then s2.startBringUp else s2

def execRefclkRestore (s : State) : Result := .next (if s.clk.refclk || !s.refclkUsed then s else s.refclkBack)

/-- The time PLL loses lock with REFCLK present: holdover (R261). -/
def State.timePllLost (s : State) : State :=
  { s with clk := { s.clk with pllLocked := false }, lnk := { s.lnk with lol3 := true } }.raiseLol 3 true

def execTimePllUnlock (s : State) : Result :=
  .next (if s.clk.pllLocked && s.clk.refclk then s.timePllLost else s)

/-- The time PLL has relocked by frequency; the time base goes on counting (R261). -/
def State.timePllBack (s : State) : State :=
  let s1 := { s with clk := { s.clk with pllLocked := true } }
  if s.lnk.lol3 then { s1 with lnk := { s1.lnk with lol3 := false } }.raiseLol 3 false else s1

def execTimePllRelock (s : State) : Result :=
  .next (if !s.clk.pllLocked && s.clk.refclk && s.powered 49 then s.timePllBack else s)

/-! ## PPS discipline (R262 to R267) -/

/-- Steps are allowed now (R267), once the boot has committed its BOOT entry: before it no TIME entry can be committed (R351). -/
def State.stepsAllowed (s : State) : Bool :=
  s.pwr.bootEntryDone && !s.closing && s.pwr.state != .standby && s.pwr.state != .offHold && s.led.epochState = .idle

/-- e of R265: `m` less the nearest instant congruent to `TIME.PPS_OFFSET` modulo 10^9. -/
def State.phaseError (s : State) (m : Word64) : Int :=
  let r : Int := ((m.toNat : Int) - (s.stored 0x0C06 : Nat)) % 1000000000
  if r < 500000000 then r
  else if r = 500000000 && !Config.laterPps m then r
  else r - 1000000000

/-- f and r of R265 for an error `e`. -/
def State.disciplined (s : State) (e : Int) : State :=
  let limit : Int := (s.stored 0x0C08 : Nat)
  let gain := s.stored 0x0C09
  let f := clampInt (-limit) limit (s.clk.freq - e.tdiv (2 ^ bitsOf gain 4 4 : Int))
  let r := clampInt (-limit) limit (f - e.tdiv (2 ^ bitsOf gain 0 4 : Int))
  { s with clk := { s.clk with freq := f, rate := r, rotationDebt := 0 } }

/-- The edge counts (R263): it has the polarity chosen, at least 100 ns at the active level follow it, and it is measured within 2 ns of
the time base, in the tick it falls in. -/
def State.edgeMeasured (s : State) (m : Word64) (falling : Bool) (active : Nat) : Bool :=
  let d := (m - s.now).toInt
  falling = (s.stored 0x0C05 = 1) && 100 ≤ active && decide (-2 ≤ d ∧ d ≤ 9)

/-- An edge is accepted if it comes at least 500 ms of device time after the last accepted one (R264). -/
def State.edgeAccepted (s : State) (m : Word64) : Bool :=
  match s.clk.lastEdge with
  | none => true
  | some l => 500000000 ≤ (m - l).toNat

/-- What every accepted edge leaves (R264, R272): its time, the timeout restarted, and `EV_LOS` source 3 cleared. -/
def State.noteEdge (s : State) (m : Word64) : State :=
  let s1 := { s with
    clk := { s.clk with lastEdge := some m, lastEdgeTick := s.clk.ticks, ppsLast := m, ppsOk := true, ppsLost := false }
    pin := { s.pin with ppsPulse := some s.clk.ticks } }
  if s.clk.ppsLost then s1.raiseLos 3 false else s1

/-- A saturated signed 32-bit value (`TIME.PHASE_ERR`, R272). -/
def saturate32 (x : Int) : Int := clampInt (-2147483648) 2147483647 x

/-- An accepted edge measured at `m` (R265). -/
def State.ppsAccepted (s : State) (m : Word64) : State :=
  let s1 := s.noteEdge m
  let e := s.phaseError m
  match s.clk.pendingSet with
  | some p =>
    if !s.stepsAllowed then { s1 with clk := { s1.clk with
        phaseErr := saturate32 e, pendingSet := some { p with edge := true }
        mode := if s.clk.mode = .unset then .unset else .disciplined } }
    else
      let gap : Int := (p.value - m).toInt
      let step := round8 gap
      let s2 := { s1 with clk := { s1.clk with phaseErr := saturate32 e, pendingSet := none, mode := .set } }
      (s2.stepTime 1 step).disciplined (step - gap)
  | none =>
    if s.clk.mode = .unset then s1
    else
      let s2 := { s1 with clk := { s1.clk with phaseErr := saturate32 e, mode := .disciplined } }
      if (s.stored 0x0C07 : Int) < e.natAbs then
        if s.stepsAllowed then (s2.stepTime 2 (-(round8 e))).disciplined (e - round8 e) else s2
      else s2.disciplined e

def execPpsEdge (pulse : PpsPulse) (s : State) : Result :=
  .next (
    if s.stored 0x0C04 = 0 || !s.powered 49 || !s.edgeMeasured pulse.m pulse.falling pulse.active then s
    else if s.edgeAccepted pulse.m then s.ppsAccepted pulse.m
    else { s with clk := { s.clk with ppsRejects := s.clk.ppsRejects + 1 } })

/-- Ticks of `TIME.PPS_TIMEOUT`. -/
def State.ppsTimeout (s : State) : Nat := s.stored 0x0C0A * 125000

/-- No edge accepted for `TIME.PPS_TIMEOUT` (R264): HOLDOVER, with the rate held at f. -/
def State.ppsHoldover (s : State) : State :=
  { s with clk := { s.clk with ppsLost := true, ppsOk := false, rate := s.clk.freq, mode := .holdover } }.raiseLos 3 true

def execPpsTimeout (s : State) : Result :=
  .next (if s.stored 0x0C04 != 0 && s.powered 49 && !s.clk.ppsLost && s.clk.lastEdgeTick + s.ppsTimeout ≤ s.clk.ticks
    then s.ppsHoldover else s)

/-- A pending mode 1 set is dropped with a second CONFIG entry of status `ERR_STATE`, which carries the acceptance time of the write
(R262, R168). -/
def State.dropPendingSet (s : State) : State :=
  match s.clk.pendingSet with
  | none => s
  | some p =>
    { s with clk := { s.clk with pendingSet := none } }.request
      { s.configEntry p.auth 0xFF 0 7 with first := p.acceptedTime, last := p.acceptedTime }

/-- The pending set has waited for `TIME.PPS_TIMEOUT` with no edge accepted. -/
def State.pendingSetExpired (s : State) : Bool :=
  match s.clk.pendingSet with
  | none => false
  | some p => !p.edge && p.acceptedTick + s.ppsTimeout ≤ s.clk.ticks

def execPendingSetTimeout (s : State) : Result := .next (if s.pendingSetExpired then s.dropPendingSet else s)

/-- The next rotation step is due in this tick: |r| × 64 steps per second (R266), one every 1,953,125 ÷ |r| ticks. -/
def Clk.rotationDue (c : Clk) : Bool := c.rate != 0 && 1953125 ≤ c.rotationDebt

/-- The step due in this tick made; |r| is at most 100,000 ppb, so no tick holds two. -/
def Clk.rotated (c : Clk) : Clk :=
  if c.rotationDue then { c with rotation := c.rotation + c.rate.sign, rotationDebt := c.rotationDebt - 1953125 } else c

/-- The clock at the next tick: a rotation step that its row has not made in its tick is made with the tick's end, so that the steps
stay even (R266), and the time base advances by 8 while `PD_PLL_TIME` is powered (R259). -/
def Clk.tick (c : Clk) (powered : Bool) : Clk :=
  { c.rotated with
    ticks := c.ticks + 1, time := if powered then c.time + 8 else c.time
    rotationDebt := c.rotated.rotationDebt + c.rate.natAbs }

def execPhaseRotationStep (s : State) : Result :=
  .next (if s.clk.rotationDue then { s with clk := s.clk.rotated }
    else s)

end Sys2Proof.Machine
end

