-- ==== Sys2Proof/Machine/Capture.lean ====
section
/-! DEFINITION. The pace governor (R21 to R25), the commit and withholding of captures (R64 to R74), the edges of the time island
(R15, R36, R51 to R57, R73), the release of row-quads (R61, R453) and automatic exposure (R60). -/

namespace Sys2Proof.Machine

/-! ## The pace governor -/

/-- The pipeline of monitor `i` is powered (R283, R193). -/
def State.pacePowered (s : State) (i : Nat) : Bool :=
  if i < 4 then (List.range 6).any fun k => s.powered (6 + 6 * i + k)
  else s.powered (30 + i)

/-- m of R21 × 100, rounded down and limited to 0 to 200 (R25); 200 where there is no demand. -/
def marginOf (d : Demand) (i est : Nat) : Nat :=
  let n : Int := (d.on i : Nat)
  if d.on i = 0 then 200 else (clampInt 0 200 ((98 * est * 8 * d.interval - 100 * n) / n)).toNat

/-- Is m of monitor `i` at least `r` per cent? -/
def marginMet (d : Demand) (i est r : Nat) : Bool := (100 + r) * d.on i ≤ 98 * est * 8 * d.interval

/-- The monitor with the smallest m, the lowest index on a tie. -/
def worstMonitor (d : Demand) (est : List Nat) : Nat :=
  (((List.range 10).filter fun i => d.on i != 0).foldl (fun (b : Option Nat) i =>
    match b with
    | none => some i
    | some j => if est.getD i 0 * d.on j < est.getD j 0 * d.on i then some i else some j) none).getD 0

/-- A verdict from the estimates (R21, R25). -/
def State.judge (s : State) (raw : List Nat) : State :=
  let s := s.progress [52]
  let views := !s.liveViews.isEmpty
  let d := s.demand
  let est := (List.range 10).map fun i => if s.pacePowered i then raw.getD i 0 else 0
  let busy := (List.range 10).filter fun i => views && d.on i != 0
  let margin (i : Nat) := if busy.contains i then marginOf d i (est.getD i 0) else 200
  let low := minList 200 ((List.range 10).map margin)
  let reserve := max 1 (s.stored 0x0811)
  let withhold :=
    if s.pace.withhold then !(busy.all fun i => marginMet d i (est.getD i 0) reserve)
    else !(busy.all fun i => marginMet d i (est.getD i 0) 0)
  let changed := withhold != s.pace.withhold
  { s with pace := { s.pace with
    withhold := withhold, reserve := s.stored 0x0811, margin := low, monitor := if busy.isEmpty then 0 else worstMonitor d est
    est := (List.range 10).foldl (fun m i => spSet 0 i (est.getD i 0) m) []
    monMargin := (List.range 10).foldl (fun m i => spSet 200 i (margin i) m) []
    monLow := busy.foldl (fun m i => spSet 200 i (min (spGet 200 i m) (margin i)) m) s.pace.monLow
    low := if views then min s.pace.low low else s.pace.low
    withholds := if changed && withhold then s.pace.withholds + 1 else s.pace.withholds
    prevWithhold := if changed && s.pace.changedTick != s.clk.ticks then s.pace.withhold else s.pace.prevWithhold
    changedTick := if changed then s.clk.ticks else s.pace.changedTick } }

/-- The estimate a monitor gives (R21, R452), with PACE_CAL LOCKED or not. -/
def ringEstimate (r : PaceRing) (locked : Bool) : Nat := if locked then r.scaled else r.scaled * 90 / 100

/-- The estimate is one the monitor can give: within ±2 % of the true capacity, or between 0.82 and 0.98 of it. -/
def ringFits (r : PaceRing) (locked : Bool) : Bool :=
  let e := 100 * ringEstimate r locked
  if locked then 98 * r.capacity ≤ e && e ≤ 102 * r.capacity else 82 * r.capacity ≤ e && e ≤ 98 * r.capacity

/-- PACE_CAL is LOCKED (R452). -/
def State.paceLocked (s : State) : Bool := s.fus.locked 5

def execPaceVerdictUpdate (rings : List PaceRing) (s : State) : Result :=
  .next (if s.powered 55 && rings.length = 10 && rings.all (ringFits · s.paceLocked) then
      s.judge (rings.map (ringEstimate · s.paceLocked))
    else s)

/-- The verdict in force at the start of the present tick (R22). -/
def State.verdictAtTick (s : State) : Bool :=
  if s.pace.changedTick = s.clk.ticks then s.pace.prevWithhold else s.pace.withhold

/-! ## Where the readout stands (R61, R63) -/

/-- Tick of Tx. -/
def Capture.close (c : Capture) : Nat := c.t0Tick + c.smax

/-- Row-quads to read. -/
def Capture.quadCount (c : Capture) : Nat := rowQuads c.quads c.chargeBin

/-- Conversions of each row-quad. -/
def Capture.conv (c : Capture) : Nat := conversions c.kind

/-- Ticks by which bank `b` is behind in the waiting row-quads, each with the conversions `conv` gives it, at tick `now` (R82:
(j + 1) × 275 after the release). -/
def bankBehind (now : Nat) (conv : WaitingQuad → Nat) (b : Nat) (l : List WaitingQuad) : Nat :=
  maxList (l.map fun w =>
    let j := (w.banks.getD b []).length
    if j < conv w then now - (w.tick + (j + 1) * 275) else 0)

/-- Ticks by which the releases of a capture run behind. -/
def Capture.releaseLag (c : Capture) (now : Nat) : Nat :=
  if c.closed && c.released < c.quadCount then max c.lag (now - (c.close + c.released * c.interval)) else c.lag

/-- Conversions of each row-quad of a waiting row-quad's capture; 0 for one that has been read out. -/
def State.convOf (s : State) (w : WaitingQuad) : Nat :=
  ((s.ets.captures.find? fun c => c.counter = w.capture).map Capture.conv).getD 0

/-- Ticks by which bank `b` is behind, over all waiting row-quads. -/
def State.bankLag (s : State) (b : Nat) : Nat := bankBehind s.clk.ticks s.convOf b s.pdp.waiting

/-- The amount by which the slowest bank is behind (R63). -/
def State.readLag (s : State) : Nat :=
  maxList (s.ets.captures.map fun c => c.releaseLag s.clk.ticks) + maxList ((List.range 4).map s.bankLag)

/-- The bank furthest behind its releases, the lowest on a tie (R67). -/
def State.slowestBank (s : State) : Nat :=
  (List.range 4).foldl (fun b i => if s.bankLag b < s.bankLag i then i else b) 0

/-- F of R63 for tile `t` of a capture, with the lag. -/
def Capture.freeTick (c : Capture) (lag t : Nat) : Nat :=
  c.close + (lastQuad c.quads c.chargeBin (t / 24) + 1) * c.interval + 500 + lag

/-- Captures whose nodes may still be occupied: those not read out, and the last one committed. -/
def State.holders (s : State) : List (Capture × Nat) :=
  let lag := s.readLag
  s.ets.captures.map (fun c => (c, lag)) ++ (s.ets.last.toList.map fun c => (c, 0))

/-- First rises of a profile in a capture that starts at tick `t0` (R67, R70). -/
def ProfileUse.firstRises (u : ProfileUse) (kind t0 : Nat) : List Nat :=
  let a := t0 + u.offset + u.firstA - 5
  if kind = 0 then [a] else [a, t0 + u.offset + u.firstB kind - 5]

/-- Every node the new capture uses is predicted free at its first transfer-pulse rise (R67, R70). -/
def State.nodesFree (s : State) (quads kind t0 : Nat) (us : List ProfileUse) : Bool :=
  let held := s.holders
  (tilesOf quads).all fun t =>
    match us.find? (fun u => u.profile = s.tileProfile t) with
    | none => true
    | some u =>
      let rise := minList (u.firstRises kind t0 |>.headD 0) (u.firstRises kind t0)
      held.all fun x => !x.1.quads.testBit (tileQuad t) || x.1.freeTick x.2 t ≤ rise

/-! ## Commit and withholding -/

/-- The next capture-counter value consumed, with the block written before its first use (R74). -/
def State.consume (s : State) : Word64 × State :=
  let c := s.ets.counter
  (c, { s with
    ets := { s.ets with counter := c + 1, consumed := some c }
    nvs := if c = s.nvs.retained.capEnd then s.nvs.retain fun t => { t with capEnd := t.capEnd + 65536 } else s.nvs })

/-- The value and its time are noted for the views being reconfigured, and for as long as a running view may be reconfigured and
look back to it (R127 step 4). -/
def State.noteValue (s : State) (c : Word64) (time : Option Word64) : State :=
  { s.noteReconfig c time with ets := { s.ets with
      history := ((c, time) :: s.ets.history).filter fun h => s.runningViews.any fun v => (s.viewAt v).past h.1 } }

/-- LNK admits captures (R248). -/
def State.linkAdmits (s : State) : Bool :=
  s.lnk.state = .up && queueSize s.lnk.data < s.stored 0x1C1B * 1048576

/-- `EV_PACE_SKIP` (R302). -/
def State.raisePaceSkip (s : State) (c time : Word64) (views : List Nat) (monitor reason : Nat) : State :=
  s.raise 5 time (leBytes 8 c.toNat ++ leBytes 4 (maskOf ((List.range 32).map views.contains)) ++ leBytes 1 monitor ++
    leBytes 1 reason ++ zeros 2 ++ (List.range 32).map fun v => if views.contains v then BitVec.ofNat 8 (s.viewAt v).genNo else 0)

/-- A capture withheld with cause PACE (R23, R67). -/
def State.withholdPace (s : State) (time : Word64) (monitor reason : Nat) : State :=
  let r := s.consume
  let c := r.1
  let views := r.2.takers c
  let s1 := views.foldl (fun s v => s.recordGap v c time .pace) (r.2.noteValue c (some time))
  { s1 with ets := { s1.ets with withheld := s1.ets.withheld + 1 } }.raisePaceSkip c time views monitor reason

/-- A capture withheld with cause LINK (R248). -/
def State.withholdLink (s : State) (time : Word64) : State :=
  let r := s.consume
  let c := r.1
  let s1 := (r.2.takers c).foldl (fun s v => s.recordGap v c time .link) (r.2.noteValue c (some time))
  { s1 with lnk := { s1.lnk with
      gaps := s1.lnk.gaps + 1, gapCount := s1.lnk.gapCount + 1, lastGap := c
      firstGap := if s1.lnk.gapCount = 0 then c else s1.lnk.firstGap } }

/-- `PROFILE.SPAN` as it stands (R55, R58). -/
def State.spanNow (s : State) (p : Nat) : Nat := if s.profileValid p then (s.profile p).span else 0

/-- `PROFILE.LEAD_LIMIT` as it stands (R58, R66): a smallest budget below 0 reads as 0 (DESIGN CHOICE, log 58: R66 gives no reading
of it). -/
def State.leadNow (s : State) (quads p : Nat) : Nat :=
  if s.stored 0x1006 = 1 || !(s.profilesInUse quads).contains p then 0xFFFFFFFF else (s.profileBudget quads p).toNat

/-- The lead limits refreshed (R58). -/
def State.refreshLeads (s : State) : State :=
  { s with ets := { s.ets with leads := (List.range 16).map fun p => (p, s.leadNow s.pix.quadReady.toNat p) } }

/-! ### Automatic exposure: the clamps (R60) -/

/-- R55, S ≤ PERIOD − 3 and the leads hold with the profile's exposure at `e` (R60, R66). -/
def State.aeFits (s : State) (p e : Nat) : Bool :=
  let s1 := s.setPar (profileId p 0) e
  s1.profileValid p && s1.meetsBudgets s.pix.quadReady.toNat

/-- The largest exposure up to a bound that fits, if one does. -/
def State.aeLargest (s : State) (p : Nat) : Nat → Option Nat
  | 0 => none
  | e + 1 => if s.aeFits p (e + 1) then some (e + 1) else State.aeLargest s p e

/-- An exposure clamped as R60 clamps an automatic step; the old one where no exposure up to it fits. -/
def State.aeClamp (s : State) (p e : Nat) : Nat :=
  (s.aeLargest p (min (s.stored (profileId p 9)) (max (s.stored (profileId p 8)) e))).getD (s.stored (profileId p 0))

/-- Automatic exposures whose capture has come take effect, clamped by the limits as they now stand (R60, R78). -/
def State.applyAe (s : State) : State :=
  let due := s.ets.aeNext.filter fun a => a.index ≤ s.ets.committed
  let s1 := due.foldl (fun s a => s.setPar (profileId a.profile 0) (s.aeClamp a.profile a.exposure)) s
  { s1 with ets := { s1.ets with aeNext := s.ets.aeNext.filter fun a => s.ets.committed < a.index } }

/-- A capture committed (R59, R74): it starts at tick `t0`. -/
def State.commitCapture (s : State) (t0 : Nat) (us : List ProfileUse) (quads : Nat) (detect : Option Word64) : State :=
  let r := (s.progress [52, 53]).consume
  let c := r.1
  let views := r.2.takers c
  let cap : Capture := {
    counter := c, index := s.ets.committed, kind := s.stored 0x1007, align := s.stored 0x1008
    triggered := detect.isSome, chargeBin := s.stored 0x1003 = 1, t0Tick := t0, smax := maxSpan us
    interval := s.interval quads, quads := quads, segs := s.pix.segReady.toNat, profiles := us, tilemap := s.tab.tilemap, views := views
    detect := detect.getD 0xFFFFFFFFFFFFFFFF }
  let s1 := views.foldl (fun s v => (s.takeValue v ⟨c, none, .awaited⟩).settle v) (r.2.noteValue c none)
  { s1 with ets := { s1.ets with
      captures := s1.ets.captures ++ [cap], last := some cap, committed := s1.ets.committed + 1
      spans := (List.range 16).map fun p => (p, s.spanNow p)
      leads := (List.range 16).map fun p => (p, s.leadNow quads p)
      lastClose := cap.smax, profilesInUse := maskOf ((List.range 16).map (us.map ProfileUse.profile).contains)
      rowquadsRead := cap.quadCount } }

/-- The capture starts no earlier than the previous one's Tx + 3 ticks (R64). -/
def State.startsAfter (s : State) (t0 : Nat) : Bool :=
  match s.ets.last with
  | none => true
  | some c => c.close + 3 ≤ t0

/-- ETS may commit captures: it is powered, no closing run is on, and a view is RUNNING (R72, R78, R199). -/
def State.capturing (s : State) : Bool := s.powered 55 && !s.closing && !s.runningViews.isEmpty

/-- Tick of Tx of the grid instant whose commit instant is now, if it is one (R65). -/
def State.gridClose (s : State) : Option Nat :=
  let smax := maxSpan (s.uses s.pix.quadReady.toNat)
  let tx : Int := (s.now.toNat : Int) + 1000 + 8 * smax
  if (tx - s.stored 0x100A) % (8 * s.stored 0x1009 : Nat) = 0 then some (s.clk.ticks + 125 + smax) else none

/-- The scheduled start whose commit instant is now: withheld or committed (R22, R23, R67, R248). -/
def State.scheduled (s : State) (tx : Nat) : State :=
  let quads := s.pix.quadReady.toNat
  let us := s.uses quads
  let t0 := tx - maxSpan us
  let start := s.now + 1000
  let s1 := { s with ets := { s.ets with lastGrid := some tx } }
  if s.pace.withhold then s1.withholdPace start s.pace.monitor 0
  else if !s.linkAdmits then s1.withholdLink start
  else if !s.nodesFree quads (s.stored 0x1007) t0 us then s1.withholdPace start s.slowestBank 1
  else s1.commitCapture t0 us quads none

/-- The capture that closes at tick `tx` starts late enough after the one before it (R64). -/
def State.gridFree (s : State) (tx : Nat) : Bool := s.startsAfter (tx - maxSpan (s.uses s.pix.quadReady.toNat))

/-- In CONTINUOUS mode, a grid instant whose commit instant is now, that has not been used, and whose T0 satisfies R64: another is
passed over (R268). -/
def State.scheduleDue (s : State) : Option Nat :=
  if !s.capturing || s.stored 0x1006 != 0 then none
  else match s.applyAe.gridClose with
    | none => none
    | some tx => if (s.ets.lastGrid.all fun g => g < tx) && s.applyAe.gridFree tx then some tx else none

def execScheduledStart (s : State) : Result :=
  .next (match s.scheduleDue with
    | some tx => s.applyAe.scheduled tx
    | none => s)

/-! ## Triggers (R69 to R72) -/

/-- `EV_TRIG` (R72, R302), where `ARRAY.TRIG_EVENTS` is 1. -/
def State.raiseTrig (s : State) (detect counter t0 : Word64) : State :=
  if s.stored 0x100E = 0 then s
  else s.raise 1 detect (leBytes 8 counter.toNat ++ leBytes 8 t0.toNat ++ leBytes 1 (s.stored 0x100C))

/-- A trigger that is not accepted (R71). -/
def State.coalesce (s : State) : State :=
  let e := s.ets
  let d := s.now
  let s1 := { s with ets := { e with
    coCount := bumpWord e.coCount, coFirst := if e.coCount = 0 then d else e.coFirst, coLast := d
    coEvents := min 17 (e.coEvents + 1), coalescedTotal := e.coalescedTotal + 1, coalescePulse := some s.clk.ticks } }
  if e.coEvents < 16 then
    s1.raise 2 d (leBytes 8 (e.started.getD 0xFFFFFFFFFFFFFFFF).toNat ++ leBytes 4 s1.ets.coCount.toNat)
  else s1

/-- An accepted trigger (R70, R248). In the tick of a verdict change, `EV_PACE_SKIP` names the monitor with the smallest margin as it
stands (DESIGN CHOICE, log 89: R23 does not say of which update). -/
def State.acceptTrigger (s : State) (quads : Nat) (us : List ProfileUse) : State :=
  let d := s.now
  let s1 := { s with ets := { s.ets with accepted := s.ets.accepted + 1, acceptPulse := some s.clk.ticks } }
  let c := s.ets.counter
  if s.verdictAtTick then (s1.withholdPace d s.pace.monitor 0).raiseTrig d c 0
  else if !s.linkAdmits then (s1.withholdLink d).raiseTrig d c 0
  else s1.commitCapture (s.clk.ticks + 68) us quads (some d)

/-- ETS takes a trigger edge at its detection tick (R68 to R72). -/
def State.takeTrigger (s : State) : State :=
  let d := s.now
  let s1 := { s with ets := { s.ets with trigLast := d } }
  if s.stored 0x1006 != 1 || !s.powered 55 || s.closing then s1
  else if s.runningViews.isEmpty then s1.raiseTrig d 0xFFFFFFFFFFFFFFFF 0
  else
    let s2 := s1.applyAe
    let quads := s2.pix.quadReady.toNat
    let us := s2.uses quads
    let t0 := s2.clk.ticks + 68
    if s2.startsAfter t0 && s2.nodesFree quads (s2.stored 0x1007) t0 us then s2.acceptTrigger quads us
    else s1.coalesce

/-! ## Comparator edges (R15, R51 to R57, R73) -/

/-- The slice's ticks into a node. -/
def ProfileUse.slice (u : ProfileUse) (kind k : Nat) : Node → Nat
  | .a => sliceTicks u.ea u.slices k
  | .b => if kind = 1 then sliceTicks u.eb u.slices k else sliceTicks u.ea u.slices k

/-- DG fall of a slice, from the profile's origin (R51, R53). -/
def ProfileUse.dg (u : ProfileUse) (kind k : Nat) : Node → Nat
  | .a => k * u.period
  | .b => if kind = 1 then k * u.period + sliceTicks u.ea u.slices k + 3 else u.spacing + k * u.period

/-- The profile's use in a capture. -/
def Capture.use (c : Capture) (p : Nat) : Option ProfileUse := c.profiles.find? fun u => u.profile = p

/-- Tick of a slice edge of a capture, `f` placing it from the profile's origin; none where the capture has no such slice. -/
def Capture.sliceEdge (c : Capture) (p k : Nat) (n : Node) (f : ProfileUse → Nat) : Option Nat :=
  match c.use p with
  | none => none
  | some u => if k < u.slices && (n = .a || c.kind != 0) then some (c.t0Tick + u.offset + f u) else none

/-- The suppressed slices of a node (R73). -/
def ProfileUse.dropped (u : ProfileUse) : Node → List Nat
  | .a => u.droppedA
  | .b => u.droppedB

/-- Programmed tick of an edge of a capture. -/
def Capture.edgeTick (c : Capture) : Edge → Option Nat
  | .t0 _ => some c.t0Tick
  | .dgFall p k n => c.sliceEdge p k n fun u => u.dg c.kind k n
  | .transferRise p k n => c.sliceEdge p k n fun u => u.dg c.kind k n + u.slice c.kind k n - 5
  | .transferFall p k n =>
    if ((c.use p).map fun u => (u.dropped n).contains k).getD false then none
    else c.sliceEdge p k n fun u => u.dg c.kind k n + u.slice c.kind k n
  | .mergeRise p => if c.chargeBin then (c.use p).map fun u => c.t0Tick + u.offset + u.span - 10 else none
  | .mergeFall p => if c.chargeBin then (c.use p).map fun u => c.t0Tick + u.offset + u.span else none
  | .close => some c.close

/-- Two edges are the same comparator's, whatever was measured. -/
def edgeSame : Edge → Edge → Bool
  | .t0 _, .t0 _ => true
  | a, b => a = b

/-- The edge is due now for the capture: at its programmed tick, not launched before, and T0 measured where it fell (R57). -/
def State.edgeDue (s : State) (c : Capture) (e : Edge) : Bool :=
  c.edgeTick e = some s.clk.ticks && !(c.launched.any fun x => edgeSame x e) &&
    (match e with
     | .t0 m => decide (((m.toNat : Int) - s.now.toNat).natAbs ≤ 3)
     | _ => true)

/-- Conversions before the one that first samples a node's signal level (R82). -/
def Capture.before (d : Capture) : Node → Nat
  | .a => 0
  | .b => d.conv - 1

/-- A row-quad's node has had its signal level sampled (R34): for certain once every bank has delivered the conversion that samples
it, not before the ones before it are delivered, and a free value in between (log 13). -/
def State.nodeRead (s : State) (d : Capture) (pos : Nat) (n : Node) : Bool :=
  pos < d.aligned ||
    s.pdp.waiting.any fun w => w.capture = d.counter && w.position = pos &&
      ((w.banks.all fun b => d.before n < b.length) ||
        ((w.banks.all fun b => d.before n ≤ b.length) && Config.nodeSampled s.free))

/-- A transfer of the capture into the node of tile `t` has risen and was not suppressed (R34). -/
def Capture.filled (d : Capture) (t : Nat) (n : Node) : Bool :=
  let p := spGet 0 t d.tilemap
  d.quads.testBit (tileQuad t) && d.launched.any fun e =>
    match e with
    | .transferRise q k m => q = p && m = n && !(d.profiles.any fun u => u.profile = p && (u.dropped n).contains k)
    | _ => false

/-- The node is still occupied, in some tile of the profile, by a capture before `c` (R73). -/
def State.nodeOccupied (s : State) (c : Capture) (p : Nat) (n : Node) : Bool :=
  let older := s.ets.captures.takeWhile fun d => d.counter != c.counter
  (tilesOf c.quads).any fun t =>
    spGet 0 t c.tilemap = p &&
      older.any fun d => d.filled t n && !s.nodeRead d (lastQuad d.quads d.chargeBin (t / 24)) n

/-- The profile's slice suppressed in a capture. -/
def Capture.drop (c : Capture) (p k : Nat) (n : Node) : Capture :=
  { c with profiles := c.profiles.map fun u =>
      if u.profile = p then
        match n with
        | .a => { u with droppedA := u.droppedA ++ [k] }
        | .b => { u with droppedB := u.droppedB ++ [k] }
      else u }

/-- The capture of counter `c` changed by `f`. -/
def State.onCapture (s : State) (c : Word64) (f : Capture → Capture) : State :=
  { s with ets := { s.ets with captures := s.ets.captures.map fun x => if x.counter = c then f x else x } }

/-- T0 launched and measured: the capture is started (R57, R71, R72). -/
def State.launchT0 (s : State) (c : Capture) (m : Word64) : State :=
  let s := s.progress [54]
  let e := s.ets
  let s1 := s.onCapture c.counter fun x =>
    { x with t0 := some m, coCount := e.coCount, coFirst := e.coFirst, coLast := e.coLast }
  let s2 := { s1 with ets := { s1.ets with
    started := some c.counter, coCount := 0, coFirst := 0, coLast := 0, coEvents := 0
    capturesTotal := s1.ets.capturesTotal + 1, lastT0 := m, t0Pulse := some s.clk.ticks
    history := s1.ets.history.map fun h => if h.1 = c.counter then (h.1, some m) else h } }
  let s3 := (List.range 32).foldl (fun s v => s.timeValue v c.counter m) s2
  if c.triggered then s3.raiseTrig c.detect c.counter m else s3

/-- A transfer rise suppressed because its node is occupied (R73). -/
def State.suppress (s : State) (c : Capture) (p k : Nat) (n : Node) : State :=
  let s1 := s.onCapture c.counter fun x => x.drop p k n
  { s1 with ets := { s1.ets with sliceDrops := s1.ets.sliceDrops + 1 } }

/-- What an edge does beyond being launched. -/
def State.edgeEffect (s : State) (c : Capture) : Edge → State
  | .t0 m => s.launchT0 c m
  | .dgFall _ _ _ => s
  | .transferRise p k n =>
    let s1 := { s with free := s.free + 1 }
    if s.nodeOccupied c p n then s1.suppress c p k n else s1
  | .transferFall _ _ _ => s
  | .mergeRise _ => s
  | .mergeFall _ => s
  | .close => s.onCapture c.counter fun x => { x with closed := true }

/-- An edge launched: recorded on its capture, then its effect. -/
def State.launchEdge (s : State) (c : Capture) (e : Edge) : State :=
  (s.onCapture c.counter fun x => { x with launched := x.launched ++ [e] }).edgeEffect c e

/-- The time island launches edges while it runs and no closing run is on (R199 step 2). -/
def execComparatorEdge (edge : Edge) (s : State) : Result :=
  .next (if !s.powered 55 || s.closing then s
    else match s.ets.captures.find? (fun c => s.edgeDue c edge) with
      | some c => s.launchEdge c edge
      | none => s)

/-! ## Release of row-quads (R61, R86, R453) -/

/-- The parameters and tables the PDP latches at a capture's first release (R86). -/
def State.pdpLatch (s : State) : PdpLatch :=
  { rawPedestal := s.stored 0x1014, linPedestal := s.stored 0x1015, filter := s.stored 0x1016
    rowCorr := s.stored 0x1017 = 1, defectOn := s.stored 0x1018 = 1, kneeH := s.stored 0x1019, kneeL := s.stored 0x101A
    shift20 := s.stored 0x101B, greenOnly := s.stored 0x101C = 1, dcg := s.dcgRatio
    variant := boolNat Config.monochrome
    segments := s.pix.segReady.toNat, colcal := s.tab.colcalNow, defects := s.tab.defectsNow }

/-- A frame of the view for a capture whose readout begins. -/
def State.openFrame (s : State) (c : Capture) (v : Nat) : State :=
  s.onView v fun x => { x with
    held := some (x.held.elim c.counter fun h => if h.toNat < c.counter.toNat then c.counter else h)
    current := x.current ++ [{ capture := c.counter, genNo := x.genNo, gen := x.gen, digest := x.digest
                               debug := s.fus.debug }] }

/-- A capture's readout begins: its job enters the datapath and the frames of its views open. -/
def State.beginReadout (s : State) (c : Capture) : State :=
  let s1 := c.views.foldl (fun s v => s.openFrame c v) s
  { s1 with pdp := { s1.pdp with jobs := s1.pdp.jobs ++ [{ capture := c, latch := s.pdpLatch }] } }

/-- The capture whose next row-quad is to be released: the oldest not read out, once closed. A capture's readout ends before the
next one's begins (R64). -/
def State.releasing (s : State) : Option Capture :=
  match s.ets.captures with
  | c :: _ =>
    if c.released < c.quadCount && c.closed && c.close + c.released * c.interval + c.lag ≤ s.clk.ticks then some c else none
  | [] => none

/-- Releases go on in a closing run only for a kept readout (R199 step 4). -/
def State.mayRelease (s : State) : Bool :=
  match s.pwr.run with
  | some r => r.phase = .draining && !r.abandoned
  | none => true

/-- The next row-quad of the capture released. -/
def State.releaseQuad (s : State) (c : Capture) : State :=
  let s1 := if c.released = 0 then s.beginReadout c else s
  let s2 := s1.onCapture c.counter fun x =>
    { x with released := x.released + 1, lag := max x.lag (s.clk.ticks - (c.close + c.released * c.interval)) }
  { s2 with pdp := { s2.pdp with waiting := s2.pdp.waiting ++ [⟨c.counter, c.released, s.clk.ticks, [[], [], [], []]⟩] } }

def execRowquadRelease (s : State) : Result :=
  .next (if s.powered 55 && s.mayRelease && s.pdp.waiting.length < 4 then
      match s.releasing with
      | some c => s.releaseQuad c
      | none => s
    else s)

/-! ## Automatic exposure (R60) -/

/-- The valid tile records of a profile in a statistics set. -/
def StatsSet.ofProfile (x : StatsSet) (p : Nat) : List TileStat := (x.tiles.map Prod.snd).filter fun t => t.profile = p

/-- The new exposure before the clamps, from the old one, the target and the level sums. -/
def aeTarget (old target sum count : Nat) : Nat :=
  if sum = 0 then 2 * old else max ((old + 1) / 2) (min (2 * old) (old * target * count / sum))

/-- The exposure an automatic step gives (R60). -/
def State.aeExposure (s : State) (p : Nat) (l : List TileStat) : Nat :=
  let sum := (l.map TileStat.sum).foldl (· + ·) 0
  let count := (l.map TileStat.count).foldl (· + ·) 0
  s.aeClamp p (aeTarget (s.stored (profileId p 0)) (s.stored (profileId p 7)) sum count)

/-- One automatic step of a profile from the newest statistics set. -/
def State.aeAdjust (s : State) (p : Nat) (x : StatsSet) : State :=
  let e := s.aeExposure p (x.ofProfile p)
  { s.progress [60] with ets := { s.ets with
      aeNext := (s.ets.aeNext.filter fun a => a.profile != p || a.index != x.index + 2) ++ [⟨p, e, x.index + 2⟩]
      aeDone := spPut p x.capture s.ets.aeDone } }

/-- A step is due: CTL runs, the mode is automatic now and was when the measured capture was committed (R58), and a set that holds
the profile has not been measured yet. -/
def State.aeDue (s : State) (p : Nat) : Option StatsSet :=
  match s.pdp.stats with
  | none => none
  | some x =>
    if p < 16 && s.ctl.ready && !s.wdg.halted && s.stored (profileId p 6) = 1 && x.autos.contains p && !(x.ofProfile p).isEmpty &&
        spFind p s.ets.aeDone != some x.capture then some x else none

def execAeStep (profile : Nat) (s : State) : Result :=
  .next (match s.aeDue profile with
    | some x => s.aeAdjust profile x
    | none => s)

end Sys2Proof.Machine
end

