-- ==== Sys2Proof/Machine/Supply.lean ====
section
/-! DEFINITION. The domains that follow the views, captures and jobs (R44, R45, R109, R193, R194), the completion of starts and
activations (R125, R127), with the configuration digest (R323) and the seed exposures (R419), and the end of a stop (R126). -/

namespace Sys2Proof.Machine

/-! ## What is needed -/

/-- The quadrants kept powered (R44): those the views need, those forced on, and those of captures not read out. -/
def State.neededQuads (s : State) : Nat :=
  joinMasks (s.liveViews.map fun v => (s.viewAt v).gen.needQuads) ||| s.stored 0x1004 |||
    joinMasks (s.ets.captures.map Capture.quads)

/-- The column segments kept powered (R109). -/
def State.neededSegs (s : State) : Nat :=
  joinMasks (s.liveViews.map fun v => (s.viewAt v).gen.needSegs) ||| s.stored 0x101D |||
    joinMasks (s.ets.captures.map Capture.segs) |||
    joinMasks ((s.pdp.jobs.filter fun j => !j.done).map fun j => j.latch.segments)

/-- Each domain of the list switched on or off. -/
def State.switch (s : State) (l : List Nat) (on : Nat → Bool) : State :=
  l.foldl (fun s i => if on i then s.domainOn i else s.domainOff i) s

/-- Quadrants powered and not yet flushed: a power-up under way finishes before the power goes again (R126). -/
def State.risingQuads (s : State) : Nat :=
  maskOf ((List.range 4).map fun q => s.powered q && !s.pix.quadReady.getLsbD q)

/-- Pixel quadrants and row drivers powered as needed (R44). -/
def State.switchQuads (s : State) (need : Nat) : State :=
  let keep := need ||| s.risingQuads
  let s1 := (s.switch [0, 1, 2, 3] keep.testBit).switch [4, 5] fun i => keep.testBit (i - 4) || keep.testBit (i - 2)
  { s1 with pix := { s1.pix with quadReady := s1.pix.quadReady &&& BitVec.ofNat 4 keep } }

/-- The CCV domains of a segment, one per bank (R80). -/
def segDomains (g : Nat) : List Nat := [6 + g, 12 + g, 18 + g, 24 + g]

/-- Segments powered in some bank and not yet up (R126). -/
def State.risingSegs (s : State) : Nat :=
  maskOf ((List.range 6).map fun g => (segDomains g).any s.powered && !s.pix.segReady.getLsbD g)

/-- Column segments and reference buffers powered as needed (R109). -/
def State.switchSegs (s : State) (need : Nat) : State :=
  let keep := need ||| s.risingSegs
  let s1 := (List.range 6).foldl (fun s g => s.switch (segDomains g) fun _ => keep.testBit g) s
  let s2 := s1.switch [30, 31, 32, 33] fun _ => keep % 64 != 0
  { s2 with pix := { s2.pix with segReady := s2.pix.segReady &&& BitVec.ofNat 6 keep } }

/-- The datapath has nothing in it. -/
def State.datapathEmpty (s : State) : Bool := s.ets.captures.isEmpty && s.pdp.jobs.isEmpty

/-- The datapath and sealing domains powered as needed (R193): removed only once their last work has ended (R194). A PDP HDR
stage powered down forgets its black values (R194); the statistics set and a set pinned by a transfer (R108, R321) stay readable
(DESIGN CHOICE, log 61: R111 holds them in "datapath buffers, not retained" and names no loss). -/
def State.switchViews (s : State) : State :=
  let busy := !s.viewsIdle
  let hdr := busy || !s.datapathEmpty
  let jobs := !s.sea.prompt.isEmpty || !s.sea.resign.isEmpty
  let s1 := s.switch [34, 35] fun _ => hdr
  let s2 := s1.switch [36, 37, 38, 39] fun i => busy && i - 36 < s.stored 0x2003
  let s3 := s2.switch [40] fun _ => busy || jobs
  if hdr then s3 else { s3 with pdp := { s3.pdp with black := [], ocol := [] } }

/-- Every domain that follows the views, captures and jobs set as the table of R193 requires, in ACTIVE. -/
def State.supply (s : State) : State :=
  if s.pwr.state != .active || s.closing then s
  else ((s.switchQuads s.neededQuads).switchSegs s.neededSegs).switchViews

/-! ## The configuration digest (R323) -/

/-- The encoded entries `i`, `i` + 1, … of a sparse table, `n` of them, with default `d`. -/
def tableBytes {α : Type} (enc : α → Bytes) (d : α) : Nat → Nat → Sparse α → Bytes
  | 0, _, _ => []
  | n + 1, i, [] => enc d ++ tableBytes enc d n (i + 1) []
  | n + 1, i, (k, v) :: rest =>
    if k = i then enc v ++ tableBytes enc d n (i + 1) rest
    else enc d ++ tableBytes enc d n (i + 1) ((k, v) :: rest)

/-- An entry of `TBL_COLCAL` (R87), and the table. -/
def ColCal.bytes (c : ColCal) : Bytes :=
  leBytes 2 (signedField 16 c.hcgOffset) ++ leBytes 2 (signedField 16 c.lcgOffset) ++ leBytes 2 c.hcgGain ++
    leBytes 2 c.lcgGain
def colcalBytes (t : Sparse ColCal) : Bytes := tableBytes ColCal.bytes {} 49152 0 t

/-- An entry of `TBL_DEFECT` (R95), and the table. -/
def Defect.bytes (d : Defect) : Bytes :=
  leBytes 2 d.x ++ leBytes 2 d.y ++ leBytes 1 d.method ++ leBytes 1 d.mask ++ zeros 2
def defectBytes (l : List Defect) : Bytes := l.flatMap Defect.bytes

/-- An entry of the form of R305. -/
def paramEntry (id size v : Nat) : Bytes := leBytes 2 id ++ leBytes 2 size ++ leBytes 8 v

/-- The records of the view: fields 2 to 13 as its generation holds them. -/
def ViewGen.entries (g : ViewGen) (v : Nat) : Bytes :=
  let e (f size x : Nat) := paramEntry (viewId v f) size x
  e 2 2 g.x0 ++ e 3 2 g.y0 ++ e 4 2 g.width ++ e 5 2 g.height ++ e 6 1 g.bin ++ e 7 1 g.skip ++ e 8 1 g.format ++
    e 9 2 g.rateDiv ++ e 10 2 g.ratePhase ++ e 11 1 g.streamId ++ e 12 2 g.segFrames ++ e 13 2 g.segTime

/-- The records of the array: what R323 lists before the view's fields. -/
def State.arrayEntries (s : State) : Bytes :=
  let e (id size : Nat) := paramEntry id size (s.stored id)
  paramEntry 0x1000 1 (boolNat Config.monochrome) ++ e 0x1003 1 ++ e 0x1006 1 ++ e 0x1007 1 ++ e 0x1008 1 ++ e 0x1009 4 ++
    e 0x100A 8 ++ e 0x100B 2 ++ e 0x100C 1 ++ e 0x100D 1 ++ e 0x101B 1 ++ paramEntry 0x101F 2 s.dcgRatio

/-- The device ID inside digests: 0 while UNPROVISIONED (R159). -/
def State.digestId (s : State) : Bytes := if s.unprovisioned then zeros 16 else s.fus.deviceId

/-- The configuration digest of a view (R323). -/
def State.configDigest (s : State) (v : Nat) : Bytes :=
  let x := s.viewAt v
  sha512 (ascii "CDK-CONF" ++ s.digestId ++ leBytes 1 v ++ leBytes 1 x.genNo ++ leBytes 2 24 ++ zeros 4 ++
    s.arrayEntries ++ x.gen.entries v ++ sha512 (colcalBytes s.tab.colcalNow) ++ sha512 (defectBytes s.tab.defectsNow))

/-! ## Seed exposures (R419) -/

/-- A photodiode's illuminance with a result at most 1 s old. -/
def State.lux (s : State) (ch : Nat) : Option Nat :=
  let x := spGet {} ch s.hkc.values
  match x.tick with
  | some t => if s.clk.ticks ≤ t + 125000000 then some x.value.toNat else none
  | none => none

/-- E of R419 as a fraction: the illuminance the source selects, where every photodiode used has a usable result. -/
def State.seedLux (s : State) : Option (Nat × Nat) :=
  match bitsOf (s.stored 0x2829) 16 2, s.lux 9, s.lux 10 with
  | 0, some a, _ => some (a, 1)
  | 1, _, some b => some (b, 1)
  | 2, some a, some b => some (a + b, 2)
  | 3, some a, some b => some (max a b, 1)
  | _, _, _ => none

/-- The seed exposures, which take effect at the first capture committed from now on. -/
def State.seedExposures (s : State) : State :=
  match s.seedLux with
  | none => s
  | some (e, d) =>
    if e = 0 then s
    else ((List.range 16).filter fun p => (s.stored 0x2829).testBit p && s.stored (profileId p 6) = 1).foldl
      (fun s p => { s with ets := { s.ets with
        aeNext := s.ets.aeNext ++ [⟨p, s.aeClamp p (s.stored 0x282A * 16 * d / e), s.ets.committed⟩] } }) s

/-! ## Completion (R125, R127) -/

/-- Everything the window needs is powered, and its quadrants are flushed (R45, R109, R194). -/
def State.viewSupplied (s : State) (g : ViewGen) : Bool :=
  g.needQuads &&& s.pix.quadReady.toNat = g.needQuads && g.needSegs &&& s.pix.segReady.toNat = g.needSegs &&
    ([34, 35, 40] ++ (List.range (s.stored 0x2003)).map (36 + ·)).all s.domainReady

/-- Black is measured afresh from the next capture committed on (R91). -/
def State.freshBlack (s : State) : State := { s with pdp := { s.pdp with fresh := s.pdp.fresh ++ [s.ets.committed] } }

/-- The calibration tables come into force at a view start (R111), and black is measured afresh (R91). -/
def State.adoptTables (s : State) : State :=
  { s.freshBlack with tab := { s.tab with colcalNow := s.colcal, defectsNow := s.defects } }

/-- A start or activation completes. -/
def State.completeView (s : State) (v : Nat) : State :=
  let s1 := if (s.viewAt v).reactivating then s else s.adoptTables
  let digest := s1.configDigest v
  let s2 := s1.onView v fun x =>
    { x with state := .running, waiting := false, reactivating := false, from_ := s.ets.counter, digest := digest }
  (s2.useInterval (s2.interval s2.pix.quadReady.toNat)).seedExposures.refreshLeads

/-- Every start and activation whose power-ups have ended completes. -/
def State.completeStarts (s : State) : State :=
  (List.range 32).foldl (fun s v =>
    let x := s.viewAt v
    if x.state = .starting && x.waiting && s.viewSupplied x.gen then s.completeView v else s) s

/-! ## The end of a stop (R126) -/

/-- The view's last frame has been hashed and its segments are closed. -/
def View.stopped (x : View) : Bool := x.state = .stopping && x.current.isEmpty && x.segments.isEmpty

/-- A STOPPING view becomes IDLE. -/
def State.endStop (s : State) (v : Nat) : State :=
  if (s.viewAt v).stopped then (s.onView v fun x => { x with state := .idle, reconfig := [] }).supply else s

/-- Every stop that can end ends. -/
def State.endStops (s : State) : State := (List.range 32).foldl State.endStop s

/-! ## Power-ups end -/

/-- A power-up's end noted: a switch has completed (R375). -/
def State.upDone (s : State) (l : List Nat) : State :=
  { s with pwr := { s.pwr with poweringUp := s.pwr.poweringUp.filter fun i => !l.contains i } }.progress [63]

/-- The bias settling and flush of a quadrant end (R45). A power-up of the top half (R91) is a flush of Q0 or Q1 that ends while
neither was ready, so a second top quadrant that follows restarts no filter (DESIGN CHOICE, log 60). -/
def State.flushDone (s : State) (q : Nat) : State :=
  let s0 := s.upDone [q, 4 + q % 2]
  let s1 := if q < 2 && !topRead s.pix.quadReady.toNat then s0.freshBlack else s0
  { s1 with pix := { s1.pix with
    quadReady := s1.pix.quadReady ||| BitVec.ofNat 4 (2 ^ q), quadPowerups := s1.pix.quadPowerups + 1 } }.completeStarts.supply

def execQuadrantFlushDone (quadrant : Nat) (s : State) : Result :=
  .next (if quadrant < 4 && s.powered quadrant && !s.pix.quadReady.getLsbD quadrant then s.flushDone quadrant else s)

/-- The power-up of a segment ends in all four banks (R109). -/
def State.segmentUp (s : State) (g : Nat) : State :=
  let s1 := s.upDone (segDomains g ++ [30, 31, 32, 33])
  { s1 with pix := { s1.pix with segReady := s1.pix.segReady ||| BitVec.ofNat 6 (2 ^ g) } }.completeStarts.supply

def execSegmentPowerUpDone (segment : Nat) (s : State) : Result :=
  .next (if segment < 6 && (segDomains segment).all s.powered && !s.pix.segReady.getLsbD segment then s.segmentUp segment
    else s)

end Sys2Proof.Machine
end

