-- ==== Sys2Proof/Machine/UmberOps.lean ====
section
/-! DEFINITION. The closing run (R197 to R203): its start at t0, and the steps it takes as the datapath, the sealing engine and NVS
finish their work. -/

namespace Sys2Proof.Machine

/-- The run in progress changed by `f`. -/
def State.onRun (s : State) (f : Run → Run) : State := { s with pwr := { s.pwr with run := s.pwr.run.map f } }

/-! ## Steps 1 to 4 -/

/-- The instant at which a capture's value was consumed (R141). -/
def State.consumedAt (s : State) (c : Capture) : Word64 :=
  if c.triggered then c.detect
  else BitVec.ofInt 64 ((s.now.toNat : Int) + 8 * ((c.t0Tick : Int) - s.clk.ticks))

/-- The time an undelivered value has: its T0, or the instant of its consumption (R141). -/
def State.valueTime (s : State) (c : Word64) : Word64 :=
  match s.ets.captures.find? (fun x => x.counter = c) with
  | some x => x.t0.getD (s.consumedAt x)
  | none => 0

/-- A value of the view becomes a gap of cause UMBER (R175). -/
def State.umberGap (s : State) (c : Capture) (v : Nat) : State :=
  let t := s.valueTime c.counter
  s.onView v fun x =>
    { x.onValue c.counter fun y => { y with time := some t, fate := .gap .umber } with
        gaps := x.gaps + 1, held := some c.counter }

/-- RECONFIG values not followed by a capture of the new generation form its first segment (log 27). -/
def State.flushReconfig (s : State) (v : Nat) : State :=
  let late := (s.viewAt v).reconfig
  let s1 := s.onView v fun x => { x with reconfig := [], gaps := x.gaps + BitVec.ofNat 32 late.length }
  late.foldl (fun s r => s.joinValue v { r with time := some (r.time.getD (s.valueTime r.capture)) }) s1

/-- Step 2: captures whose readout has not begun become UMBER gaps, and are not read out. A segment that is already full by SEG_FRAMES
or past SEG_TIME, and whose awaited value becomes such a gap here, closes as full: its segment flag UMBER stays 0 (DESIGN CHOICE,
log 93: R141 does not say which of the two conditions closes it). -/
def State.stopCaptures (s : State) : State :=
  let s1 := (List.range 32).foldl State.flushReconfig s
  let lost := s1.ets.captures.filter fun c => c.released = 0
  let s2 := lost.foldl (fun s c => c.views.foldl (fun s v => s.umberGap c v) s) s1
  let s3 := { s2 with ets := { s2.ets with captures := s2.ets.captures.filter fun c => c.released != 0 } }
  (List.range 32).foldl State.settle s3

/-- Step 3: waiting signing jobs are discarded. -/
def State.discardJobs (s : State) : State :=
  { s.onRun fun r => { r with discarded := !s.sea.prompt.isEmpty || !s.sea.resign.isEmpty } with
      sea := { s.sea with prompt := [], resign := [] } }

/-- Step 4: the readout in progress is kept if it is predicted to end within 1.0 ms. -/
def State.judgeReadout (s : State) : State :=
  let lag := s.readLag
  let late := s.ets.captures.any fun c => s.clk.ticks + 125000 < c.close + c.quadCount * c.interval + lag
  s.onRun fun r => { r with abandoned := late, kept := !late && !s.ets.captures.isEmpty }

/-- Entries are committed in a run that starts now (R187, R198). -/
def State.runCommits (s : State) : Bool :=
  s.pwr.bootEntryDone && s.ledgerRuns && s.led.epochState != .clearing && s.led.epochState != .opening

/-- Step 1: the run's record; the retained POWER values of R315 follow, and a decided reset is discarded (R378). -/
def State.openRun (s : State) (trigger : Nat) : State :=
  { s with
    pwr := { s.pwr.retain (fun t => { t with closeRuns := t.closeRuns + 1, lastT0 := s.now, lastTrigger := trigger }) with
      state := .closing
      run := some { trigger := trigger, t0 := s.now, t0Tick := s.clk.ticks, lastCapture := s.ets.counter - 1
                    segNext := s.sea.segNext, commits := s.runCommits
                    discardedReset := s.rst.decided.map fun d => d.cause.code } }
    rst := { s.rst with decided := none } }

/-- What every power-down of PD_HKC takes (R416, R420): the work, the results and the accumulators; converted values,
coefficients and a held z stay. -/
def Hkc.down (h : Hkc) : Hkc :=
  { h with
    conv := none, pass := none, passDue := none, prio := none, prioDue := none, prioNext := [], suspended := false
    results := [], acc := [], pwEnded := none }

/-- CTL, the pins, the debug logic and the return lane go; what CTL had in hand gets no response. A running block operation and
OTP word go on, none after them starts (R199). -/
def State.dropControl (s : State) : State :=
  let s1 := s.dropPins.domainsOff [42, 47, 54]
  { s1 with
    ctl := { s1.ctl with ready := false, inbox := [], superseded := 0, replies := [] }
    lnk := { s1.lnk with rx := {}, closing := true }
    nvs := { s1.nvs with blocks := s1.nvs.blocks.take 1 }
    fus := { s1.fus with tasks := s1.fus.tasks.take 1, cut := s1.fus.cut || 1 < s1.fus.tasks.length }
    rst := { s1.rst with after := none }
    hkc := { s1.hkc with
      cal := none, suspended := false
      conv := if s1.hkc.conv.any fun c => c.work = .calibration then none else s1.hkc.conv
      calState := if s1.hkc.cal.isSome then 6 else s1.hkc.calState } }

/-- `EV_PFAIL` (R198, R302). -/
def State.raisePfail (s : State) (trigger : Nat) : State :=
  if trigger = 3 then s else s.raise 9 s.now (leBytes 1 trigger ++ leBytes 1 s.pwr.retained.droopLast)

/-! ## Steps 5 to 9 -/

/-- A bank has delivered every conversion of the waiting row-quads. -/
def WaitingQuad.full (w : WaitingQuad) (conv : Nat) : Bool := w.banks.all fun b => conv ≤ b.length

/-- The last conversion has been delivered (step 5). -/
def State.imagingQuiet (s : State) (r : Run) : Bool :=
  (r.abandoned || s.ets.captures.isEmpty) &&
    s.pdp.waiting.all fun w =>
      match s.pdp.jobs.find? (fun j => j.capture.counter = w.capture) with
      | some j => w.full j.capture.conv
      | none => true

/-- Step 5: the imaging domains are removed. -/
def State.dropImaging (s : State) : State :=
  { s.domainsOff (List.range 34) with pix := { s.pix with quadReady := 0, segReady := 0 } }

/-- The segment of a truncated frame closes with UMBER, also where it is complete already (R161). -/
def Segment.cutBy (g : Segment) (cut : List Word64) : Segment :=
  { g with umber := g.umber || g.values.any fun y => y.fate = .awaited && cut.contains y.capture }

/-- A readout abandoned: what was aligned is all there is; its frames are truncated (R140). -/
def State.cutJobs (s : State) : State :=
  let cut := (s.pdp.jobs.filter fun j => !j.done).map fun j => j.capture.counter
  let s1 := { s with pdp := { s.pdp with jobs := s.pdp.jobs.map fun j => { j with done := true } } }
  let mark (f : Frame) : Frame := if cut.contains f.capture then { f with truncated := true } else f
  (List.range 32).foldl (fun s v => s.onView v fun x => { x with
    current := x.current.map mark, segments := x.segments.map fun g => g.cutBy cut }) s1

/-- The datapath is quiet (step 6): no row-quad waits and every frame has ended. -/
def State.datapathQuiet (s : State) (r : Run) : Bool :=
  s.imagingQuiet r && s.pdp.waiting.isEmpty && (List.range 32).all fun v => (s.viewAt v).current.isEmpty

/-- SEA treated as wedged, from whatever instant of the run: the SEG entries not yet committed are not (R202). -/
def State.wedgeRun (s : State) : State :=
  if s.closing && s.sea.wedged then
    let lost := (s.nvs.queue.filter fun c => c.kind = .seg).map fun c => 2 ^ c.view
    { s.onRun fun r => { r with wedged := true, dropped := r.dropped ||| joinMasks lost } with
        nvs := { s.nvs with queue := s.nvs.queue.filter fun c => c.kind != .seg } }
  else s

/-- Steps 6 and 7: the datapath, hash, ETS and HKC domains go; every open segment is closed, flagged UMBER, unless SEA is
wedged. A run that commits nothing is at the end of step 9 with it: `PD_SEA_SIGN` goes too (R198). -/
def State.goQuiet (s : State) : State :=
  let commits := match s.pwr.run with | some r => r.commits | none => false
  let s1 := s.domainsOff ([34, 35, 36, 37, 38, 39, 51, 55] ++ if commits then [] else [40])
  let s2 := { s1 with hkc := s1.hkc.down }
  let s3 := s2.onRun fun r => { r with phase := if commits then .committing else .sending, quietTick := s.clk.ticks }
  if s.sea.wedged then s3.wedgeRun else s3.closeAll fun g => { g with umber := true }

/-- The hold-up field of the CLOSE entry (R203). -/
def State.closeHoldup (s : State) (r : Run) : Nat :=
  let x := spGet {} 4 s.hkc.values
  match r.holdup, x.tick with
  | some v, _ => min 65534 v
  | none, some t => if r.t0Tick ≤ t + 12500000 then min 65534 x.value.toNat else 0xFFFF
  | none, none => 0xFFFF

/-- The temperatures converted in the 100 ms before a tick. -/
def Hkc.recentTemps (h : Hkc) (tick : Nat) : List (Nat × Int) := h.temps.filter fun x => tick ≤ x.1 + 12500000

/-- The temperature field of the CLOSE entry (R203). -/
def State.closeTemp (s : State) (r : Run) : Nat :=
  match r.temp, (s.hkc.recentTemps r.t0Tick).map Prod.snd with
  | some v, _ => signedField 16 v
  | none, v :: l => signedField 16 (l.foldl max v)
  | none, [] => 0x8000

/-- Views whose segment received no SEG entry: those with an open one, and those whose entries a wedged SEA dropped (R170,
R202). -/
def State.uncommittedViews (s : State) (r : Run) : Nat :=
  r.dropped ||| maskOf ((List.range 32).map fun v => !(s.viewAt v).segments.isEmpty)

/-- The CLOSE commit (R168, R170, R203). -/
def State.closeCommit (s : State) (r : Run) : Commit :=
  { kind := .close, first := r.t0, last := r.t0, frames := BitVec.ofNat 32 r.segEntries, gaps := BitVec.ofNat 32 r.umberGaps
    subject := subjectHead .close 64 ++ leBytes 1 r.trigger ++ leBytes 1 r.flags ++ zeros 2 ++
      leBytes 4 (s.uncommittedViews r) ++ leBytes 4 r.committed.toNat ++ leBytes 2 r.truncated ++ zeros 2 ++
      leBytes 8 r.lastCapture.toNat ++ leBytes 2 (s.closeHoldup r) ++ leBytes 2 (s.closeTemp r) ++ zeros 4 ++
      leBytes 8 r.segNext.toNat ++ zeros 16 }

/-- Step 8: the CLOSE entry is requested once every entry before it is committed. -/
def State.queueClose (s : State) (r : Run) : State :=
  (s.request (s.closeCommit r)).onRun fun r => { r with closeQueued := true, uncommitted := BitVec.ofNat 32 (s.uncommittedViews r) }

/-- Step 9 ends: the last record is out. -/
def State.commitsEnd (s : State) : State := (s.domainOff 40).onRun fun r => { r with phase := .sending }

/-- One look at what the run can do next. -/
def State.umberStep (s : State) : State :=
  match s.pwr.run with
  | none => s
  | some r =>
    match r.phase with
    | .draining =>
      let s1 := if s.imagingQuiet r then s.dropImaging else s
      let s2 := if r.abandoned && s1.imagingQuiet r && s1.pdp.waiting.isEmpty then s1.cutJobs else s1
      if s2.datapathQuiet r then s2.goQuiet else s2
    | .committing =>
      if !s.nvs.queue.isEmpty then s
      else if r.closeQueued then s.commitsEnd
      else s.queueClose r
    | .sending => s

/-- The closing run taken as far as it can go now: quiet, then the CLOSE entry, then the end of the commits. -/
def State.umberAdvance (s : State) : State := s.umberStep.umberStep.umberStep

/-- A closing run starts at t0 = now (R199 steps 1 to 4), with `PD_NVS` up for its retained writes (R193, R198, R207). The sealing of
in-hand work follows. -/
def State.startRun (s : State) (trigger : Nat) : State :=
  let s1 := (s.openRun trigger).setIrq 3
  let s2 := (s1.dropControl.raisePfail trigger).stopCaptures.discardJobs.judgeReadout.wedgeRun
  (s2.domainOn 41).umberAdvance

/-- Called when work on the datapath or in NVS has ended: domains no longer needed go, stops end, a closing run goes on. -/
def State.afterWork (s : State) : State := if s.closing then s.umberAdvance else s.endStops.supply

end Sys2Proof.Machine
end

