-- ==== Sys2Proof/Machine/NvsRun.lean ====
section
/-! DEFINITION. NVS at work (07): one commit at a time, the EPOCH operation, block operations, the ledger rate and the retention
accounts. -/

namespace Sys2Proof.Machine

/-! ## The EPOCH operation (R179) -/

/-- The genesis head that follows the transition `t` (R146). -/
def State.genesisAfter (s : State) (t : Transition) : Bytes := genesisHead s.fus.deviceId t.newEpoch t.closingHead

/-- Step 3: the transition record; step 4 is asked of FUS. The record also keeps the digest of the EPOCH command, for the opening entry
that a boot may have to commit (DESIGN CHOICE, log 94: R179 lists the epochs, the closing sequence and the closing head). -/
def State.epochClosed (s : State) (q : Word) : State :=
  let e := s.led.epoch
  let t : Transition := ⟨e, e + 1, q, s.led.lastHead, s.led.epochDigest⟩
  { s with nvs := s.nvs.putTransition (some t) }.program [⟨.unit (131 + e), 7, .epoch⟩]

/-- Step 5 done: the ledger of the new epoch is empty, and both anchors are cleared. -/
def State.openLedger (s : State) (t : Transition) : State :=
  let g := s.genesisAfter t
  { s with
    nvs := { s.nvs with mem := nvClear s.nvs.mem 0x1D00000 0x1D00200 }.putMark none
    led := { s.led with nextSeq := 0, present := 0, epoch := t.newEpoch, lastHead := g, floorHead := g } }

/-- The opening EPOCH entry of the transition `t`. -/
def Transition.opening (t : Transition) : Commit := epochEntry 2 t.oldEpoch t.closingSeq t.digest t.closingHead

/-- Steps 6 and 7 after the opening entry: the transition record is cleared. -/
def State.epochOpened (s : State) (t : Transition) : State :=
  { s with
    nvs := (s.nvs.putTransition none).retain fun x => { x with prevEpochLast := t.closingSeq }
    led := { s.led with epochState := .idle, epochDigest := [] } }

/-- Step 6 begins: OPENING, the opening entry next to be committed. -/
def State.epochOpening (s : State) (t : Transition) : State :=
  let s1 := s.openLedger t
  { s1 with
    led := { s1.led with epochState := .opening }
    nvs := { s1.nvs with queue := t.opening :: s1.nvs.queue } }

/-! ## Commits (R172) -/

/-- What a commit of sequence `q` changes beyond the ledger: the closing run's counts, and the steps of R179. -/
def State.afterCommit (s : State) (c : Commit) (q : Word) : State :=
  match c.kind with
  | .seg => s.onRun fun r => { r with
      segEntries := r.segEntries + 1, umberGaps := r.umberGaps + leAt 68 4 c.subject
      committed := r.committed ||| BitVec.ofNat 32 (2 ^ c.view) }
  | .close =>
    match s.pwr.run with
    | some r => { s with pwr := s.pwr.retain fun t => { t with
        report := some ⟨q, s.now, r.trigger, r.flags, r.segEntries, r.umberGaps, r.uncommitted⟩ } }
    | none => s
  | .epoch =>
    match s.nvs.transition with
    | none => s.epochClosed q
    | some t => s.epochOpened t
  | _ => s

/-- While the closing head waits to be carried over, only the opening entry is committed, except by a closing run (R179,
R187). -/
def State.epochHolds (s : State) : Bool :=
  s.nvs.transition.isSome && s.led.epochState != .opening && !s.closing

/-- A commit can start now (R172, R185, R200). -/
def State.commitDue (s : State) : Bool :=
  s.powered 41 && s.commits && !s.nvs.held && !s.wdg.nvsStopped && !s.epochHolds &&
    (s.nvs.blocks.isEmpty || s.nvs.interleaved < 8)

/-- The oldest commit requested is made. -/
def State.commitHead (s : State) (c : Commit) (rest : List Commit) : State :=
  let q := s.led.nextSeq
  (({ s with nvs := { s.nvs with queue := rest } }.commitEntry c).afterCommit c q).afterWork

def execNvsCommit (s : State) : Result :=
  .next (if s.commitDue then
      match s.nvs.queue with
      | c :: rest => s.commitHead c rest
      | [] => s
    else s)

/-- Bytes left in NVS at an address. -/
def State.leaveBytes (s : State) (a : Nat) (b : Bytes) : State := { s with nvs := { s.nvs with mem := nvWrite s.nvs.mem a b } }

/-! ## Block operations (R183) -/

/-- The header fields of an image (R352). -/
def imageVersion (b : Bytes) : Word := BitVec.ofNat 32 (leAt 12 4 b)
def imageFwar (b : Bytes) : Nat := leAt 16 2 b

/-- A checked image is whole in its slot: the status becomes LOADED (R358). -/
def State.imageLoaded (s : State) : State :=
  let b := s.fw.staged
  let x : LoadedImage := ⟨imageVersion b, imageFwar b, sha512 (b.take (320 + leAt 24 4 b))⟩
  { s with fw := { s.fw with staged := [], total := 0 }.putStatus ⟨.loaded, some x⟩ }

/-- A block written: each write restarts the retention account of the calibration region or of its slot (R186). -/
def State.writeBlock (s : State) (j : BlockJob) : State :=
  let n := { s.nvs with mem := match j.bytes with
    | some b => nvBlock s.nvs.mem j.dest b
    | none => nvClear s.nvs.mem j.dest (j.dest + 4096) }
  { s with nvs := (nvsAreaOf j.dest).elim n n.wrote }

/-- What goes on when the last block operation asked for has ended. -/
def State.blockEnds (s : State) : BlockEnd → State
  | .part => s
  | .ledgerCleared => match s.nvs.transition with
    | some t => s.epochOpening t
    | none => s
  | .imageLoaded => s.imageLoaded
  | .tableDone table digest length => s.tableInForce table digest length

/-- The journal record of a block operation in a state. -/
def BlockJob.journal (j : BlockJob) (st : Journal) : JournalRecord := ⟨j.bytes.isNone, j.dest, j.source, st⟩

/-- The first block operation asked for starts: its journal record (R183 step 1). -/
def State.startBlock (s : State) : State :=
  match s.nvs.blocks with
  | j :: _ => { s with nvs := s.nvs.putJournal (j.journal .shadow) }
  | [] => s

/-- The destination copied into the shadow block, and the journal in APPLY (steps 2 and 3). -/
def State.shadowBlock (s : State) (j : BlockJob) : State :=
  if s.nvs.journal.state = .apply then s
  else { s with nvs := { s.nvs with mem := nvCopy s.nvs.mem j.dest shadowAddr }.putJournal (j.journal .apply) }

/-- The destination written, and the journal IDLE (steps 4 and 5). -/
def State.applyBlock (s : State) (j : BlockJob) : State :=
  let s1 := (s.shadowBlock j).writeBlock j
  { s1 with nvs := s1.nvs.putJournal (j.journal .idle) }

/-- Programming that no response waits for (R345, R357, R335, R179). -/
def Purpose.background : Purpose → Bool
  | .fwar | .reinforce | .retire | .epoch => true
  | _ => false

/-- A response that waited for the operations of its message can go once all of them have ended. -/
def State.releaseReplies (s : State) : State :=
  if s.nvs.blocks.isEmpty && s.fus.tasks.all fun t => t.purpose.background then
    { s with ctl := { s.ctl with replies := s.ctl.replies.map fun (r : Reply) => { r with waits := false } } }
  else s

/-- A ledger block to clear; with the last of them the epoch opens. -/
def clearJob (b : Nat) : BlockJob := { dest := 4096 * b, done := if b = 4095 then .ledgerCleared else .part }

/-- NVS may start a block operation. -/
def State.mayStart (s : State) : Bool := !(s.rst.decided.isSome || s.closing)

/-- Block operations asked for; none starts from the decision of a reset on (R377). -/
def State.addBlocks (s : State) (l : List BlockJob) : State :=
  if !s.mayStart then s
  else
    let s1 := { s with nvs := { s.nvs with blocks := s.nvs.blocks ++ l } }
    if s.nvs.blocks.isEmpty then s1.startBlock else s1

/-- The running block operation ends; the next one starts, and commits that waited for its end may go (R185). -/
def State.blockDone (s : State) (j : BlockJob) (rest : List BlockJob) : State :=
  let s1 := (s.applyBlock j).progress [45]
  let s2 := { s1 with nvs := { s1.nvs with blocks := rest, interleaved := 0 } }.startBlock
  (((s2.blockEnds j.done).workDone false).releaseReplies).afterWork

/-- With a tick, the running block operation has its destination in the shadow block and its journal in APPLY (R183 steps 2 and 3; that
it takes one tick is a DESIGN CHOICE, log 9). -/
def State.tickBlocks (s : State) : State :=
  match s.nvs.blocks with
  | j :: _ => if s.powered 41 then s.shadowBlock j else s
  | [] => s

def execBlockOperationDone (s : State) : Result :=
  .next (match s.nvs.blocks with
    | j :: rest => if s.powered 41 then s.blockDone j rest else s
    | [] => s)

/-! ## Rate and retention (R186) -/

/-- `LEDGER.UNEXPORTED`. -/
def State.unexported (s : State) : Nat := (s.led.nextSeq - s.exportMark).toNat

/-- `LEDGER.RATE` and `LEDGER.HORIZON` refreshed from the commits of the last 3,600 s. -/
def State.updateRate (s : State) : State :=
  let recent := s.nvs.recent.filter fun t => s.clk.ticks < t + 450000000000
  let rate := recent.length
  { s with nvs := { s.nvs with
    recent := recent, rate := BitVec.ofNat 32 rate
    horizon := if rate = 0 then 0xFFFFFFFF
      else BitVec.ofNat 32 (min 0xFFFFFFFF ((slots - s.unexported) * 3600 / rate)) } }

def execLedgerRateUpdate (s : State) : Result := .next (if s.pwr.released then s.updateRate else s)

/-- The largest number below 2 ^ n, built on `lo`, whose 160th power does not exceed `x`. -/
def root160 (x : Nat) : Nat → Nat → Nat
  | 0, lo => lo
  | n + 1, lo => root160 x n (if (lo + 2 ^ n) ^ 160 ≤ x then lo + 2 ^ n else lo)

/-- 2^32 × the seconds at 85 °C that one second at `t` (in 1/8 °C) counts as (R186). -/
def retentionSecond (t : Int) : Nat :=
  if t ≤ 680 then 2 ^ 32 else root160 (2 ^ (4440 + t.toNat)) 48 0

/-- The newest temperature result, by its tick. -/
def State.newestTemp (s : State) : Option Nat :=
  ([5, 6, 7, 8].filterMap fun c => (spGet {} c s.hkc.values).tick).max?

/-- `HKC.TEMP_MAX` (R417): the highest of the four latest temperature results, 0 before the first. -/
def State.tempMax (s : State) : Int :=
  let l := [5, 6, 7, 8].filterMap fun c =>
    let x := spGet {} c s.hkc.values
    x.tick.map fun _ => x.value
  match l with
  | [] => 0
  | a :: l => l.foldl max a

/-- The temperature of R186: `HKC.TEMP_MAX` while its newest result is at most 60 s old, else the comparators (R418). -/
def State.retentionTemp (s : State) (comparator : Int) : Int :=
  match s.newestTemp with
  | some t => if s.clk.ticks ≤ t + 7500000000 then s.tempMax else comparator
  | none => comparator

/-- Sixty seconds more on every account. -/
def State.updateRetention (s : State) (t : Int) : State :=
  let d := 60 * retentionSecond t
  { s with nvs := s.nvs.retain fun t => { t with
    retentionCal := t.retentionCal + d, retentionA := t.retentionA + d, retentionB := t.retentionB + d } }

def execRetentionUpdate (comparator : Int) (s : State) : Result :=
  .next (if s.pwr.released then s.updateRetention (s.retentionTemp comparator) else s)

/-- `LEDGER.RETENTION_USED` in ‰ of 20 years of 365.25 days at 85 °C: the older of the last calibration write and the last
write of the active slot. -/
def State.retentionUsed (s : State) : Nat :=
  let fw := if s.fw.record.active = 0 then s.nvs.retained.retentionA else s.nvs.retained.retentionB
  min 65535 (max s.nvs.retained.retentionCal fw * 1000 / (631152000 * 2 ^ 32))

/-! ## VDDNV during a closing run (R200) -/

def execVddnvReturn (s : State) : Result :=
  .next (if s.nvs.held && s.powered 41 then { s with
      nvs := { s.nvs with held := false }
      pwr := { s.pwr with railsLow := s.pwr.railsLow.filter (· != .vddnv) } } else s)

end Sys2Proof.Machine
end

