-- ==== Sys2Proof/Machine/Firmware.lean ====
section
/-! DEFINITION. Firmware images (15): the checks of R353 and the choice of the slot to run (R354, R356). -/

namespace Sys2Proof.Machine

/-- The revision of the part, `DEV_REV` [15:0] and with the variant in bit 16 (R279). -/
def devRevLow : Nat := 0x4230
def devRev : Nat := devRevLow + 65536 * boolNat Config.monochrome

/-- Size of an image by its code length (R352). -/
def imageSize (b : Bytes) : Nat := 320 + leAt 24 4 b

/-- The code of an image. -/
def imageCode (b : Bytes) : Bytes := slice 256 (leAt 24 4 b) b

/-- Check 1 of R353. -/
def imageFormat (b : Bytes) : Bool :=
  slice 0 8 b = ascii "CDK-FWIM" && leAt 8 2 b = 1 && leAt 10 2 b = 256 && imageSize b ≤ 4194304 && leAt 22 2 b = 0 &&
    leAt 32 1 b < 16 && allZero (slice 33 31 b) && allZero (slice 160 96 b)

/-- Check 4 of R353: the firmware key is the one MAKER_KEYS names; any key in CHALK with that group not LOCKED. -/
def Fus.firmwareKey (f : Fus) (lifecycle : Nat) (key : Bytes) : Bool :=
  if f.locked 2 then sha512 key = f.wordBytes 48 16 else lifecycle = 0

/-- The first check of R353 an image fails; 0 where it passes all. -/
def State.imageCheck (s : State) (b : Bytes) : Nat :=
  let key := slice 64 32 b
  if !imageFormat b then 1
  else if leAt 18 2 b != 113 || devRevLow < leAt 20 2 b then 2
  else if !(leAt 32 1 b).testBit s.fus.lifecycle then 3
  else if !s.fus.firmwareKey s.fus.lifecycle key then 4
  else if sha512 (imageCode b) != slice 96 64 b then 5
  else if !edVerify key (b.take 256) (slice (256 + leAt 24 4 b) 64 b) then 6
  else if imageFwar b < s.fus.fwarSteps then 7
  else 0

/-- The image in slot `k`, of the size its header gives, at most the slot's. -/
def State.slotImage (s : State) (k : Nat) : Bytes :=
  nvBytes s.nvs.mem (fwAddr k) (min 4194304 (imageSize (nvBytes s.nvs.mem (fwAddr k) 256)))

/-- Does the image in slot `k` pass? -/
def State.slotPasses (s : State) (k : Nat) : Bool := s.imageCheck (s.slotImage k) = 0

/-- The record with the previous slot active and confirmed (R356). -/
def State.fallBackRecord (s : State) : Activation :=
  let r := s.fw.record
  { active := r.previous, previous := r.active, activeVersion := r.previousVersion, previousVersion := r.activeVersion
    digest := sha512 (s.slotImage r.previous) }

/-- The trial image is given up: two failed attempts, or it fails its checks (R356). -/
def State.fallsBack (s : State) : Bool :=
  s.fw.recordValid && s.fw.record.trial && (2 ≤ s.fw.record.failed || !s.slotPasses s.fw.record.active)

/-- The first slot that passes: the active one, then the other; A then B without a valid record (R354), which reads as slot A. -/
def State.pickSlot (s : State) : Option Nat :=
  let first := s.fw.record.active
  if s.slotPasses first then some first else if s.slotPasses (1 - first) then some (1 - first) else none

/-- Slot `k` runs. -/
def State.runSlot (s : State) (k : Nat) : State :=
  let b := s.slotImage k
  let fresh : Activation := { active := k, previous := 1 - k, activeVersion := imageVersion b, digest := sha512 b }
  { s with fw := { (if s.fw.recordValid then s.fw else s.fw.putRecord fresh) with
      slot := k, version := imageVersion b, fwar := imageFwar b, digest := sha512 b } }

/-- The boot ROM selects a slot; recovery mode where none passes (R361). -/
def State.selectSlot (s : State) : State :=
  let back := s.fallsBack
  let s1 := if back then { s with fw := s.fw.putRecord s.fallBackRecord } else s
  match s1.pickSlot with
  | some k => let s2 := s1.runSlot k; { s2 with fw := { s2.fw with fellBack := back } }
  | none => { s1 with
      pwr := { s1.pwr with recovery := true }
      fw := { s1.fw with slot := s1.fw.record.active, version := 0, fwar := 0, digest := zeros 64, fellBack := back } }

/-- A trial boot has reached 0xFF: the record is confirmed (R356). -/
def State.confirmTrial (s : State) : State :=
  if s.fw.record.trial then
    { s with fw := s.fw.putRecord { s.fw.record with trial := false, failed := 0 } }
  else s

/-- FWAR steps asked of FUS for a confirmed image (R357), in the states whose counters may be written (R333); the counter has 128
steps (R339). -/
def State.advanceFwar (s : State) : State :=
  let n := s.fus.fwarSteps
  if !(s.fus.lifecycle = 1 || s.fus.lifecycle = 2) then s
  else s.program ((List.range (min 128 s.fw.fwar - n)).map fun i => ⟨.unit (3 + n + i), 7, .fwar⟩)

end Sys2Proof.Machine
end

