-- ==== Sys2Proof/Machine/Hkc.lean ====
section
/-! DEFINITION. The housekeeping converter (18): its reference, the scan and priority sequences, calibration conversions and
results. -/

namespace Sys2Proof.Machine

/-! ## Timing (R408, R409) -/

/-- Ticks until REF_SETTLED for a value of `HKC.REF` (R408). -/
def refTicks (ref : Nat) : Nat := if ref = 0 then 250000 else if ref = 1 then 62500 else 25000

/-- The filter order a timing value names (R422). -/
def timingOrder (timing : Nat) : Nat := bitsOf timing 4 2 + 1

/-- Ticks of an integration period: by code, or the short period in steps of 10 µs (R409). -/
def periodTicks (timing : Nat) : Nat :=
  match bitsOf timing 0 3 with
  | 0 => 2500000
  | 1 => 2083333
  | 2 => 1250000
  | 3 => 1041666
  | _ => 1250 * bitsOf timing 16 7

/-- The period the conversion is in has ended, and all its periods have. -/
def HkcConv.periodOver (c : HkcConv) (ticks : Nat) : Bool := c.start + (c.periods + 1) * periodTicks c.timing ≤ ticks
def HkcConv.over (c : HkcConv) (ticks : Nat) : Bool := c.start + timingOrder c.timing * periodTicks c.timing ≤ ticks

/-- Channels named by the first `n` nibbles. -/
def nibbles (seq n : Nat) : List Nat := (List.range n).map fun i => bitsOf seq (4 * i) 4

/-- The channel of the slot a pass is at. -/
def HkcPass.channel (p : HkcPass) : Nat := p.channels.getD p.slot 0

/-! ## What runs next -/

/-- A conversion begun, under the reference of `HKC.REF`, or of a calibration under the internal one (R408, R414). -/
def State.convert (s : State) (work : HkcWork) (channel timing : Nat) : State :=
  let ref := if work = .calibration then 0 else s.stored 0x2801
  { s with hkc := { s.hkc with conv := some {
      work := work, channel := channel, timing := timing, ref := ref, settled := s.hkc.settled, start := s.clk.ticks } } }

/-- The conversion of a queued calibration phase begun (R414); a restart of R415 notes its time. -/
def State.convertCal (s : State) (c : HkcCal) : State :=
  let s1 := s.convert .calibration c.channel (s.stored 0x2802)
  { s1 with hkc := { s1.hkc with cal := some { c with again := false, restartTime := if c.again then s.now else c.restartTime }, calState := 2 } }

/-- The converter takes up its next work: priority slots first, then a calibration phase once no priority sequence waits and the
reference is settled (R414), then the scan pass. -/
def State.kickHkc (s : State) : State :=
  let h := s.hkc
  if h.conv.isSome || !s.powered 51 then s
  else match h.prio with
    | some p => s.convert .priority p.channel p.timing
    | none =>
      match h.cal, h.pass with
      | some c, _ => if h.prioDue.isNone && h.settled then s.convertCal c else s
      | none, some p => if h.suspended then s else s.convert .scan p.channel p.timing
      | none, none => s

/-! ## Scan sequence (R410, R411) -/

/-- A pass is to begin after `HKC.SCAN_DELAY`. -/
def State.planPass (s : State) : State :=
  if s.stored 0x2805 = 0 then s
  else { s with hkc := { s.hkc with passDue := some (s.clk.ticks + 125 * s.stored 0x2808) } }

/-- In CONTINUOUS a pass follows at once where none runs or waits. -/
def State.continueScan (s : State) : State :=
  if s.powered 51 && s.stored 0x2806 = 0 && s.hkc.pass.isNone && s.hkc.passDue.isNone then s.planPass else s

/-- A TIMER or PULSE start (R410). -/
def State.startScan (s : State) : State :=
  if s.hkc.pass.isSome || s.hkc.passDue.isSome || s.hkc.suspended then
    { s with hkc := { s.hkc with missedScan := bump 65535 s.hkc.missedScan } }
  else s.planPass

/-- Index of the latest instant of the TIMER grid, counted from 1. -/
def State.gridIndex (s : State) : Nat := (s.clk.ticks - s.hkc.gridTick) / (125000 * s.stored 0x2807) + 1

def execScanTimer (s : State) : Result :=
  .next (if s.powered 51 && s.stored 0x2806 = 1 && s.hkc.gridUsed < s.gridIndex then
      { s with hkc := { s.hkc with gridUsed := s.gridIndex } }.startScan
    else s)

/-- The pass that now begins takes the sequence and timing in force (R422). -/
def State.beginPass (s : State) : State :=
  let p : HkcPass := ⟨nibbles (s.stored 0x2804) (s.stored 0x2805), s.stored 0x2802, 0⟩
  let s1 := { s with hkc := { s.hkc with passDue := none } }
  if p.channels.isEmpty then s1 else { s1 with hkc := { s1.hkc with pass := some p } }.kickHkc

def execScanPassStart (s : State) : Result :=
  .next (match s.hkc.passDue with
    | some t => if s.powered 51 && t ≤ s.clk.ticks then s.beginPass else s
    | none => s)

/-! ## Priority sequence (R412) -/

/-- Trigger `b` of `HKC.PRIO_TRIG` comes: 0 droop, 1 PFAIL, 2 capture trigger, 3 pin event. -/
def State.prioTrigger (s : State) (b : Nat) : State :=
  if !s.powered 51 || !(s.stored 0x280B).testBit b then s
  else if s.hkc.prio.isSome || s.hkc.prioDue.isSome then
    { s with hkc := { s.hkc with missedPrio := bump 65535 s.hkc.missedPrio } }
  else if s.stored 0x280A = 0 then s
  else { s with hkc := { s.hkc with
    prioNext := nibbles (s.stored 0x2809) (s.stored 0x280A)
    prioDue := some (s.clk.ticks + 125 * s.stored 0x280C) } }

/-- A calibration conversion abandoned by a priority sequence (R415). -/
def State.abandonCal (s : State) (c : HkcCal) : State :=
  if c.restarts < 3 then
    { s with hkc := { s.hkc with cal := some { c with restarts := c.restarts + 1, again := true }, calState := 1, calRestarts := c.restarts + 1 } }
  else
    { s with hkc := { s.hkc with cal := none, calState := 4, suspended := false } }.raise 0x10 c.restartTime
      (leBytes 1 c.channel ++ leBytes 1 3)

/-- The running conversion abandoned for a priority sequence; a closing run starts no pre-empted scan again (R420). -/
def State.preempt (s : State) : State :=
  let work := s.hkc.conv.map HkcConv.work
  let s1 := { s with hkc := { s.hkc with conv := none } }
  match work, s1.hkc.cal with
  | some .calibration, some c => s1.abandonCal c
  | some .scan, _ => if s1.closing then { s1 with hkc := { s1.hkc with pass := none } } else s1
  | _, _ => s1

/-- The priority sequence takes the converter. -/
def State.beginPriority (s : State) : State :=
  let p : HkcPass := ⟨s.hkc.prioNext, s.stored 0x2803, 0⟩
  let s1 := s.preempt
  { s1 with hkc := { s1.hkc with prioDue := none, prioNext := [], prio := some p } }.kickHkc

def execPrioritySequenceStart (s : State) : Result :=
  .next (match s.hkc.prioDue with
    | some t => if s.powered 51 && t ≤ s.clk.ticks then s.beginPriority else s
    | none => s)

/-! ## The pulse-width unit (R411) -/

/-- The source of `HKC.PW_SOURCE` is at its active level: high, or low where bit 7 is set. -/
def State.pwLevel (s : State) : Bool := s.sourceLevel (bitsOf (s.stored 0x280D) 0 5) != (s.stored 0x280D).testBit 7

/-- The unit is powered and its source can be seen. -/
def State.pwRuns (s : State) : Bool := s.powered 51 && s.powered 52

/-- The unit takes up a source: a pulse already under way is not measured (DESIGN CHOICE, log 88). -/
def State.syncPulse (s : State) : State :=
  { s with hkc := { s.hkc with pwActive := s.pwLevel, pwSince := none, pwEnded := none } }

/-- The source may have changed: a pulse begins, or one whose beginning was seen ends with its width in ticks. -/
def State.watchPulse (s : State) : State :=
  if !s.pwRuns || s.pwLevel = s.hkc.pwActive then s
  else { s with hkc := { s.hkc with
    pwActive := s.pwLevel
    pwSince := if s.pwLevel then some s.clk.ticks else none
    pwEnded := if s.pwLevel then s.hkc.pwEnded else s.hkc.pwSince.map fun t => (s.clk.ticks, s.clk.ticks - t) } }

/-- A pulse within `HKC.PW_LIMITS`. -/
def State.pulseAccepted (s : State) (ticks : Nat) : Bool :=
  let l := s.stored 0x280E
  125 * bitsOf l 0 16 ≤ ticks && ticks ≤ 125 * bitsOf l 16 16

/-- A pulse-width event, taken once: it may start the scan sequence and the priority sequence. -/
def State.pulseEvent (s : State) : State :=
  let s1 := { s with hkc := { s.hkc with pwEnded := none } }
  (if s1.stored 0x2806 = 2 then s1.startScan else s1).prioTrigger 3

/-- The row comes in the tick of the trailing edge, with the width the unit measured. -/
def execPulseWidthEvent (ticks : Nat) (s : State) : Result :=
  .next (if s.pwRuns && s.hkc.pwEnded = some (s.clk.ticks, ticks) && s.pulseAccepted ticks then s.pulseEvent else s)

/-! ## Results (R407, R416, R417) -/

/-- The coefficients of a channel. -/
def State.hkcCoef (s : State) (ch : Nat) : Int × Nat := (recordAt ch s.hkc.coefs).getD (0, 4194304)

/-- The unclamped code of a raw result (R407). -/
def hkcCode (coef : Int × Nat) (raw : Int) : Int := roundDiv ((raw - coef.1) * (coef.2 : Nat)) 4194304

/-- Vref in nV for `HKC.REF` at a tick (R408): 1.250 V; HK_REFIN, which is 1.000 V to 1.500 V; VDDA ÷ 1.44. -/
def vref (ref tick : Nat) : Nat :=
  if ref = 0 then 1250000000
  else if ref = 1 then min 1500000000 (max 1000000000 (Config.referenceNv 1 tick))
  else max 1 (Config.referenceNv 2 tick)

/-- Divider of a channel (R406); a sensor channel has none, and channel 15 converts as channel 14. -/
def hkcDivider (ch : Nat) : Nat := [1, 2, 4, 2, 1, 1, 1, 1, 1, 1, 1, 1, 1, 2, 1, 1].getD ch 1

/-- The raw result r of an input in nV (R407); a sensor's output takes the same arithmetic. -/
def hkcRaw (ch ref tick : Nat) (input : Int) : Int := roundDiv (16777216 * input) (hkcDivider ch * vref ref tick)

/-- The TRIM group's bytes, where it is LOCKED. -/
def State.trim (s : State) : Option Bytes := if s.fus.locked 1 then some (s.fus.groupBytes 1) else none

/-- A temperature code in 1/8 °C by its linear conversion, a photodiode code in 1/16 lux by its responsivity (R417). -/
def State.hkcTemp (s : State) (sensor code : Nat) : Int :=
  roundDiv ((code : Nat) * Config.temperatureSlope sensor s.trim + Config.temperatureAtZero sensor s.trim) 16777216
def hkcLux (diode code : Nat) : Nat := (roundDiv ((code * Config.responsivity diode : Nat) : Int) 16777216).toNat

/-- A code in its unit (R417), Vref in mV being that of the conversion; channels 11 to 15 have none. -/
def State.hkcUnits (s : State) (ch ref code : Nat) : Option Int :=
  let mv : Int := roundDiv ((code * hkcDivider ch * vref ref s.clk.ticks : Nat) : Int) (16777216 * 1000000)
  if ch < 4 then some mv
  else if ch = 4 then some (roundDiv (mv * (s.stored 0x280F : Nat)) 1000)
  else if ch < 9 then some (s.hkcTemp (ch - 5) code)
  else if ch < 11 then some ((hkcLux (ch - 9) code : Nat) : Int)
  else none

/-- What a closing run keeps of a converted value for its CLOSE entry (R203). -/
def Run.measure (r : Run) (ch : Nat) (v : Int) : Run :=
  if ch = 4 then { r with holdup := some (r.holdup.getD v.toNat) }
  else if 5 ≤ ch && ch ≤ 8 then { r with temp := some (max v (r.temp.getD v)) }
  else r

/-- A good result's accumulator and converted value. -/
def State.goodResult (s : State) (ch ref code : Nat) : State :=
  let a := spGet {} ch s.hkc.acc
  let acc := if a.count < 65535 then spSet {} ch ⟨a.sum + code, a.count + 1⟩ s.hkc.acc else s.hkc.acc
  let s1 := { s with hkc := { s.hkc with acc := acc } }
  match s.hkcUnits ch ref code with
  | some v => { s1.onRun fun r => r.measure ch v with
      hkc := { s1.hkc with
        values := spPut ch ⟨v, some s.clk.ticks⟩ s1.hkc.values
        temps := if 5 ≤ ch && ch ≤ 8 then s1.hkc.recentTemps s.clk.ticks ++ [(s.clk.ticks, v)] else s1.hkc.temps } }
  | none => s1

/-- The word of `HKC.RESULTn`. -/
def resultWord (priority notSettled ovr : Bool) (code : Nat) : Nat :=
  2 ^ 27 + boolNat priority * 2 ^ 26 + boolNat notSettled * 2 ^ 25 + boolNat ovr * 2 ^ 24 + code

/-- A settled result of the conversion `c` at slot `slot`; `c` says whether the modulator saturated in its window. -/
def State.hkcResult (s : State) (c : HkcConv) (slot : Nat) (raw : Int) : State :=
  let x := hkcCode (s.hkcCoef c.channel) raw
  let code := (clampInt 0 16777215 x).toNat
  let ovr := c.saturated || x < 0 || 16777215 < x
  let priority := c.work = HkcWork.priority
  let s1 := { s with hkc := { s.hkc with
    results := spPut c.channel (resultWord priority (!c.settled) ovr code) s.hkc.results } }
  if ovr then
    { s1 with hkc := { s1.hkc with ovrCount := s1.hkc.ovrCount + 1 } }.raise 0x0E s.now
      (leBytes 1 c.channel ++ leBytes 1 (boolNat priority) ++ leBytes 1 slot)
  else if c.settled then s1.goodResult c.channel c.ref code
  else s1

/-- The sequence after one of its slots; none when it has ended. -/
def HkcPass.advance (p : HkcPass) : Option HkcPass :=
  if p.slot + 1 < p.channels.length then some { p with slot := p.slot + 1 } else none

/-- A slot has ended: its sequence goes on; after a priority sequence the pre-empted work starts again, but no scan in a closing
run (R412, R420). -/
def State.slotEnded (s : State) (work : HkcWork) : State :=
  let s1 := { s with hkc := { s.hkc with conv := none } }
  match work with
  | .priority =>
    let next := s1.hkc.prio.bind HkcPass.advance
    let pass := if next.isNone && s1.closing then none else s1.hkc.pass
    { s1 with hkc := { s1.hkc with prio := next, pass := pass } }.kickHkc
  | .scan =>
    { s1 with hkc := { s1.hkc with pass := s1.hkc.pass.bind HkcPass.advance } }.continueScan.kickHkc
  | .calibration => s1

/-- The slot a conversion belongs to. -/
def State.hkcSlot (s : State) : HkcWork → Nat
  | .priority => (s.hkc.prio.map HkcPass.slot).getD 0
  | _ => (s.hkc.pass.map HkcPass.slot).getD 0

/-- A period of the conversion ends (R409), and monitor 59 counts its filtered result: the k-th is the settled one. A calibration
conversion ends by CAL_CONVERSION_DONE. -/
def State.periodEnd (s : State) (c : HkcConv) (input : Int) (saturated : Bool) : State :=
  let c1 := { c with periods := c.periods + 1, saturated := c.saturated || saturated }
  let s1 := s.progress [59]
  if c.work = .calibration || c1.periods < timingOrder c.timing then { s1 with hkc := { s1.hkc with conv := some c1 } }
  else (s1.hkcResult c1 (s.hkcSlot c.work) (hkcRaw c.channel c.ref s.clk.ticks input)).slotEnded c.work

def execHkcPeriodEnd (input : Int) (saturated : Bool) (s : State) : Result :=
  .next (match s.hkc.conv with
    | some c => if s.powered 51 && c.periodOver s.clk.ticks then s.periodEnd c input saturated else s
    | none => s)

/-! ## Reference (R408) -/

/-- The reference begins to settle again. -/
def State.unsettle (s : State) : State := { s with hkc := { s.hkc with settled := false, refTick := s.clk.ticks } }

/-- A write of `HKC.REF`: the conversion in progress restarts; one of a calibration waits for the flag (R421). -/
def State.writeHkcRef (s : State) : State :=
  let s1 := s.unsettle
  match s1.hkc.conv with
  | some c => { s1 with hkc := { s1.hkc with
      conv := if c.work = .calibration then none else some { c with
        ref := s.stored 0x2801, periods := 0, saturated := false, settled := false, start := s.clk.ticks }
      calState := if c.work = .calibration then 1 else s1.hkc.calState } }
  | none => s1

def execRefSettled (s : State) : Result :=
  .next (if s.powered 51 && !s.hkc.settled && s.hkc.refTick + refTicks (s.stored 0x2801) ≤ s.clk.ticks then
      { s with hkc := { s.hkc with settled := true } }.kickHkc
    else s)

/-- PD_HKC powers up from its reset state: sequences from slot 0, no result, the reference settling (R194, R416, R420). The TIMER
grid starts at the end of boot (R410). -/
def State.powerHkc (s : State) (boot : Bool) : State :=
  let s1 := { (s.domainOn 51).unsettle with
    hkc := { s.unsettle.hkc.down with
      gridTick := if boot then s.clk.ticks else s.hkc.gridTick, gridUsed := if boot then 0 else s.hkc.gridUsed } }
  s1.continueScan

/-- PD_HKC powers down (R416, R420): a calibration is abandoned, a held z is kept. -/
def State.dropHkc (s : State) : State :=
  let s1 := s.domainOff 51
  { s1 with hkc := { s1.hkc.down with cal := none, calState := if s1.hkc.cal.isSome then 6 else s1.hkc.calState } }

/-! ## Calibration (R414) -/

/-- A phase ends: the scan sequence resumes. -/
def State.calEnded (s : State) (state : Nat) : State :=
  ({ s with hkc := { s.hkc with conv := none, cal := none, calState := state, suspended := false } }.progress [59]).kickHkc

/-- Coefficients from a FULL: offset and gain, where they are acceptable. -/
def calCoef (z raw : Int) (target : Nat) : Option (Int × Nat) :=
  if raw ≤ z then none
  else
    let g := roundDiv ((4194304 * target : Nat) : Int) (raw - z).toNat
    if -1048576 ≤ z && z ≤ 1048576 && 2097152 ≤ g && g ≤ 8388608 then some (z, g.toNat) else none

/-- `EV_CAL_DONE` (R302). -/
def State.raiseCalDone (s : State) (ch : Nat) (offset : Int) (gain : Nat) : State :=
  s.raise 0x0F s.now (leBytes 1 ch ++ zeros 3 ++ leBytes 4 (signedField 32 offset) ++ leBytes 4 gain)

/-- A FULL completes or is rejected; its z is discarded. -/
def State.fullDone (s : State) (c : HkcCal) (raw : Int) : State :=
  let z := spGet 0 c.channel s.hkc.zeros
  let s1 := { s with hkc := { s.hkc with zeros := spErase c.channel s.hkc.zeros } }
  match calCoef z raw c.target with
  | some k => ({ s1 with hkc := { s1.hkc with coefs := recordPut c.channel k s1.hkc.coefs } }.raiseCalDone c.channel
      k.1 k.2).calEnded 3
  | none => (s1.raiseCalDone c.channel z 0).calEnded 5

/-- A ZERO holds its raw result as z. -/
def State.zeroDone (s : State) (c : HkcCal) (raw : Int) : State :=
  { s with hkc := { s.hkc with zeros := spPut c.channel raw s.hkc.zeros } }.calEnded 3

/-- The raw result of a calibration conversion, under the reference it ran on. -/
def State.calRaw (s : State) (v : HkcConv) (input : Int) : Int := hkcRaw v.channel v.ref s.clk.ticks input

def execCalConversionDone (input : Int) (s : State) : Result :=
  .next (match s.hkc.conv, s.hkc.cal with
    | some v, some c =>
      if v.work = .calibration && s.powered 51 && v.over s.clk.ticks then
        let raw := s.calRaw v input
        if c.phase = 1 then s.zeroDone c raw else s.fullDone c raw
      else s
    | _, _ => s)

end Sys2Proof.Machine
end

