-- ==== Sys2Proof/Machine/Pixels.lean ====
section
/-! DEFINITION. The arithmetic of the datapath (R81, R87 to R107): column calibration, black level, defect correction, the HDR merge,
binning, formats, packing and tile statistics. -/

namespace Sys2Proof.Machine

/-! ## Rows and columns (R42, R79, R101) -/

/-- The row of a group of eight that binned row `i` keeps, and its partner (R42); columns pair the same way (R101). -/
def keptOffset (mono : Bool) (i : Nat) : Nat := if mono then [0, 3, 5, 6].getD i 0 else [0, 1, 6, 7].getD i 0
def partnerOffset (mono : Bool) (i : Nat) : Nat := if mono then [1, 2, 4, 7].getD i 0 else [2, 3, 4, 5].getD i 0

/-- The binned row of a group whose kept row drives the column line of bank `b`. -/
def binnedRow (mono : Bool) (b : Nat) : Nat := if mono then [0, 2, 3, 1].getD b 0 else b

/-- Total row that bank `b` converts in row-quad `q` of the whole array. -/
def bankRow (mono bin : Bool) (q b : Nat) : Nat := if bin then 8 * q + keptOffset mono (binnedRow mono b) else 4 * q + b

/-- The partner row merged into a kept row under charge binning. -/
def partnerRow (mono bin : Bool) (y : Nat) : Option Nat :=
  if bin then
    ((List.range 4).find? fun i => keptOffset mono i = y % 8).map fun i => 8 * (y / 8) + partnerOffset mono i
  else none

/-- The tile of a pixel (R41), from its total row and its active column. -/
def tileOf (y x : Nat) : Nat := 24 * min 17 ((y - 32) / 512) + min 23 (x / 512)

/-- Is the total row an active one? -/
def activeRow (y : Nat) : Bool := 32 ≤ y && y < 9248

/-! ## Conversions (R35, R81, R88) -/

/-- d and the saturation flag of a conversion (R81). -/
def rawCode (r : RawSample) : Nat × Bool :=
  let x : Int := r.reset.toNat - r.signal.toNat + 256
  if r.signal = 0 || 16383 ≤ x then (16383, true) else ((max 0 x).toNat, false)

/-- The conversion `j` reads SN-B. -/
def convNode (kind j : Nat) : Node := if kind = 1 then (if j = 2 then .b else .a) else if j = 1 then .b else .a

/-- Conversion `j` of a pixel is at LCG (R35): in HDR all but the first, otherwise as the profile's gain bit of the node says. -/
def convLcg (kind j gain : Nat) : Bool := if kind = 1 then j != 0 else gain.testBit j

/-- The gain field of the profile of a tile in a capture. -/
def Capture.tileGain (c : Capture) (t : Nat) : Nat := ((c.use (spGet 0 t c.tilemap)).map ProfileUse.gain).getD 0

/-- Column calibration (R88). -/
def ColCal.apply (e : ColCal) (lcg : Bool) (r : RawSample) : Sample :=
  let d := rawCode r
  if d.2 then ⟨16 * 16383, true⟩
  else ⟨roundDiv ((16 * (d.1 : Int) - (if lcg then e.lcgOffset else e.hcgOffset)) *
    (if lcg then e.lcgGain else e.hcgGain : Nat)) 32768, false⟩

/-- A black-column sample: no calibration (R88). -/
def blackSample (r : RawSample) : Sample := ⟨16 * ((rawCode r).1 : Int), (rawCode r).2⟩

/-- The active columns from a bank's samples. -/
def activeSamples (segs : Nat) (l : List RawSample) : List (Option RawSample) :=
  ((List.range 6).foldl (fun (x : List RawSample × List (Option RawSample)) g =>
    if segs.testBit g then (x.1.drop 2048, x.2 ++ (x.1.take 2048).map some)
    else (x.1, x.2 ++ List.replicate 2048 none)) (l.drop 32, [])).2

/-- One bank's conversion of a row after column calibration. -/
def PdpJob.calibrate (p : PdpJob) (b y j : Nat) (l : List RawSample) : RowData :=
  let c := p.capture
  { black := (l.take 32 ++ l.drop (l.length - 32)).map blackSample
    active := (activeSamples p.latch.segments l).zipIdx.map fun (o, x) =>
      o.map fun r => (spGet ({} : ColCal) (12288 * b + x) p.latch.colcal).apply
        (convLcg c.kind j (c.tileGain (tileOf y x))) r }

/-! ## Defects (R95, R97, R98) -/

/-- The entry concerns the total row, or the row merged into it. -/
def Defect.onRow (d : Defect) (mono bin : Bool) (y : Nat) : Bool :=
  d.y = 0xFFFF || d.y = y || partnerRow mono bin y = some d.y

/-- The capture's pixels pair as in the monochrome variant. -/
def PdpJob.mono (p : PdpJob) : Bool := p.latch.variant = 1

/-- The entries on a row. -/
def PdpJob.rowDefects (p : PdpJob) (y : Nat) : List Defect :=
  p.latch.defects.filter fun d => d.onRow p.mono p.capture.chargeBin y

/-- The sample of conversion `j` at active column `x` is at a position of the table. -/
def anyDefect (l : List Defect) (x : Nat) : Bool := l.any fun d => d.x = x

/-- The entry that matches pixel, node and gain; the first in table order. -/
def PdpJob.defectAt (p : PdpJob) (l : List Defect) (y x j : Nat) : Option Defect :=
  let c := p.capture
  let node := if convNode c.kind j = .a then 0 else 1
  let gain := if convLcg c.kind j (c.tileGain (tileOf y x)) then 3 else 2
  l.find? fun d => d.x = x + 32 && d.mask.testBit node && d.mask.testBit gain

/-! ## Black level and row offsets (R89 to R94) -/

/-- A mean rounded half up; a free value where there is no sample (R89, R90 state none). -/
def meanOf (sum : Int) (n free : Nat) : Int := if n = 0 then Config.emptyMean free else roundDiv sum n

/-- Samples of black rows from total row `lo` on, 16 rows, of bank `b`, conversion `j` and parity `par`. -/
def PdpJob.darkSamples (p : PdpJob) (lo b j par : Nat) : List Int :=
  (p.dark.filter fun r => lo ≤ r.y && r.y < lo + 16 && r.y % 4 = b).flatMap fun r =>
    let ds := p.rowDefects r.y
    ((r.conv.getD j ⟨[], []⟩).active.zipIdx.filterMap fun (o, x) =>
      if x % 2 != par then none
      else match o with
        | some s => if s.sat || anyDefect ds (x + 32) then none else some s.v
        | none => none)

/-- B(j, b, π) as measured (R89), from the black rows from total row `lo` on. -/
def PdpJob.measureB (p : PdpJob) (lo b j par free : Nat) : Int :=
  let a := p.darkSamples lo b j par
  let s1 := a.foldl (· + ·) 0
  let n1 : Int := (a.length : Nat)
  let near := (p.darkSamples (lo + 16) b j par).filter fun v =>
    a.length != 0 && decide ((v * n1 - s1).natAbs ≤ 2048 * a.length)
  if near.isEmpty then meanOf s1 a.length free else meanOf (near.foldl (· + ·) 0) near.length free

/-- o(j, k) of bank `b` as measured (R90). -/
def PdpJob.measureO (p : PdpJob) (lo b j k free : Nat) : Int :=
  let x := if k < 32 then k else k + 12288
  let l := (p.dark.filter fun r => lo ≤ r.y && r.y < lo + 32 && r.y % 4 = b).filterMap fun r =>
    let s := (r.conv.getD j ⟨[], []⟩).black.getD k ⟨0, true⟩
    if s.sat || anyDefect (p.rowDefects r.y) x then none else some s.v
  meanOf (l.foldl (· + ·) 0) l.length free

/-- The filter of R91. -/
def blackFilter (fresh : Bool) (a : Nat) (prev measured : Int) : Int :=
  if fresh then measured else prev + roundDiv (measured - prev) (2 ^ a)

/-- Keys of B (j, b, π) and o (j, k) of a bank. -/
def blackKey (j b par : Nat) : Nat := 8 * j + 2 * b + par
def ocolKey (j b k : Nat) : Nat := 256 * j + 64 * b + k

/-- ro(Y, j) of R92, from the row's black samples. -/
def PdpJob.rowOffset (p : PdpJob) (b j : Nat) (black : List Sample) : Int :=
  let l := black.zipIdx.filterMap fun (s, k) =>
    if s.sat then none else some (s.v - spGet 4096 (ocolKey j b k) p.ocol)
  if l.isEmpty then 0 else clampInt (-1024) 1024 (roundDiv (l.foldl (· + ·) 0) l.length)

/-- Stage 2 (R93). -/
def PdpJob.level (p : PdpJob) (b j : Nat) (r : RowData) : RowData :=
  let ro := if p.latch.rowCorr then p.rowOffset b j r.black else 0
  { black := [], active := r.active.zipIdx.map fun (o, x) =>
      o.map fun s => { s with v := s.v - spGet 4096 (blackKey j b (x % 2)) p.black - ro } }

/-! ## Defect correction (R97) -/

/-- The sample of conversion `j` at row index `i`, column `x`. -/
def PdpJob.sample (p : PdpJob) (i x j : Nat) : Option Sample :=
  match p.rows[i]? with
  | none => none
  | some r => ((r.conv.getD j ⟨[], []⟩).active.getD x none)

/-- Positions of the neighbours of a method; a step left or up from 0 leaves the array. -/
def neighbours (mono : Bool) (method i x : Nat) : List (Nat × Nat) :=
  let d := if mono then 1 else 2
  let h := (if d ≤ x then [(i, x - d)] else []) ++ [(i, x + d)]
  let v := (if d ≤ i then [(i - d, x)] else []) ++ [(i + d, x)]
  if method = 0 then h else if method = 1 then v else h ++ v

/-- The usable neighbours: there, and matched by no entry. -/
def PdpJob.usable (p : PdpJob) (j : Nat) (l : List (Nat × Nat)) : List Sample :=
  l.filterMap fun (i, x) =>
    match p.rows[i]?, p.sample i x j with
    | some r, some s => if (p.defectAt (p.rowDefects r.y) r.y x j).isSome then none else some s
    | _, _ => none

/-- The mean of samples (R97): saturated if any of them is. -/
def meanSample (l : List Sample) : Sample :=
  ⟨roundDiv ((l.map Sample.v).foldl (· + ·) 0) l.length, l.any Sample.sat⟩

/-- A sample after stage 3. -/
def PdpJob.corrected (p : PdpJob) (i x j : Nat) : Sample :=
  let s := (p.sample i x j).getD ⟨0, false⟩
  match p.rows[i]? with
  | none => s
  | some r =>
    match (if p.latch.defectOn then p.defectAt (p.rowDefects r.y) r.y x j else none) with
    | none => s
    | some d =>
      if d.method = 3 then s
      else
        let own := p.usable j (neighbours p.mono d.method i x)
        let all := p.usable j (neighbours p.mono 2 i x)
        if !own.isEmpty then meanSample own else if !all.isEmpty then meanSample all else s

/-! ## The merge (R99, R100) -/

/-- Ticks delivered to a node of a profile (R77). -/
def ProfileUse.delivered (u : ProfileUse) (kind : Nat) (n : Node) : Nat :=
  if n = .b && kind = 0 then 0
  else ((List.range u.slices).filter fun k => !(u.dropped n).contains k).foldl (fun a k => a + u.slice kind k n) 0

/-- ratio_q and whether every short sample counts as saturated (R99). -/
def Capture.ratio (c : Capture) (p : Nat) : Nat × Bool :=
  match c.use p with
  | none => (134217728, true)
  | some u =>
    let a := u.delivered c.kind .a
    let b := u.delivered c.kind .b
    if b = 0 then (134217728, true) else (min 134217728 (roundDiv (65536 * (a : Int)) b).toNat, false)

/-- A knee parameter: the lower knee and the exponent of the width. -/
def kneeLow (v : Nat) : Nat := v % 65536
def kneeExp (v : Nat) : Nat := Nat.log2 (v / 65536 - v % 65536)

/-- The blend weight at a knee. -/
def kneeWeight (knee : Nat) (s : Sample) : Int :=
  if s.sat then 16 * 2 ^ kneeExp knee else clampInt 0 (16 * 2 ^ kneeExp knee) (s.v - 16 * kneeLow knee)

/-- a16 of R100. -/
def mergeLong (l : PdpLatch) (h s : Sample) : Int :=
  let ah := roundDiv (h.v * 4096) l.dcg
  ah + roundDiv ((s.v - ah) * kneeWeight l.kneeH h) (2 ^ (kneeExp l.kneeH + 4))

/-- big of R100, and whether a saturated short sample carries the full weight. -/
def mergeAll (l : PdpLatch) (ratio : Nat) (h lo s : Sample) : Sample :=
  let a := mergeLong l h lo
  let bs : Int := if s.sat then 16 * 16777215 else roundDiv (s.v * ratio) 65536
  let w := kneeWeight l.kneeL lo
  ⟨a + roundDiv ((bs - a) * w) (2 ^ (kneeExp l.kneeL + 4)), s.sat && w = 16 * 2 ^ kneeExp l.kneeL⟩

/-- The value of a pixel after the correction chain: v16, or big in HDR. -/
def PdpJob.value (p : PdpJob) (i x : Nat) : Sample :=
  let c := p.capture
  if c.kind = 1 then
    let y := (p.rows[i]?.map Row.y).getD 0
    let r := c.ratio (spGet 0 (tileOf y x) c.tilemap)
    let s := p.corrected i x 2
    mergeAll p.latch r.1 (p.corrected i x 0) (p.corrected i x 1) { s with sat := s.sat || r.2 }
  else p.corrected i x 0

/-! ## Binning (R42, R101, R117, R118) -/

/-- Two values combined (R101). -/
def combine (a b : Sample) : Sample := ⟨(a.v + b.v + 1) / 2, a.sat || b.sat⟩

/-- The number before skipping of kept line or column `p` with exponent `k` (R118). -/
def unskipped (k p : Nat) : Nat := 2 * (p / 2 * 2 ^ k) + p % 2

/-- Total rows of output line `p` of a view: one, or the two that combine digitally. -/
def ViewGen.lineRows (g : ViewGen) (mono bin : Bool) (p : Nat) : List Nat :=
  let n := unskipped g.kv p
  if g.b = 1 then [g.y0 + 32 + n]
  else
    let base := g.y0 + 32 + 8 * (n / 4)
    let kept := base + keptOffset mono (n % 4)
    if bin then [kept] else [kept, base + partnerOffset mono (n % 4)]

/-- Active columns of output column `m` of a view. -/
def ViewGen.lineCols (g : ViewGen) (mono : Bool) (m : Nat) : List Nat :=
  let n := unskipped g.kh m
  if g.b = 1 then [g.x0 + n]
  else [g.x0 + 8 * (n / 4) + keptOffset mono (n % 4), g.x0 + 8 * (n / 4) + partnerOffset mono (n % 4)]

/-- Index of a total row among those read. -/
def PdpJob.rowIndex (p : PdpJob) (y : Nat) : Option Nat := p.rows.findIdx? fun r => r.y = y

/-- The values combined, rows first. -/
def PdpJob.pixel (p : PdpJob) (rows cols : List Nat) : Sample :=
  let col (x : Nat) : Sample :=
    match rows with
    | [a, b] => combine (p.value a x) (p.value b x)
    | a :: _ => p.value a x
    | [] => ⟨0, false⟩
  match cols with
  | [x, y] => combine (col x) (col y)
  | x :: _ => col x
  | [] => ⟨0, false⟩

/-! ## Formats and packing (R102, R104, R105) -/

/-- The segments of R104: input from, slope exponent, output from. -/
def compandSegments : List (Nat × Nat × Nat) :=
  [(0, 0, 0), (16384, 1, 16384), (32768, 2, 24576), (65536, 3, 32768), (131072, 4, 40960), (262144, 5, 49152),
   (393216, 6, 53248), (524288, 8, 55296), (1048576, 9, 57344), (2097152, 10, 59392), (4194304, 11, 61440),
   (8388608, 12, 63488)]

/-- HDR16C of a linear value (R104). -/
def compand (lp : Nat) : Nat :=
  let k := (compandSegments.filter fun e => e.1 ≤ lp).getLastD (0, 0, 0)
  k.2.2 + (lp - k.1) / 2 ^ k.2.1

/-- lp of R100. -/
def linearOf (l : PdpLatch) (big : Int) : Nat := (clampInt 0 16777215 (roundDiv big 16 + l.linPedestal)).toNat

/-- The code of a value in a format (R102). -/
def codeOf (l : PdpLatch) (format : Nat) (s : Sample) : Nat :=
  let raw := (clampInt 0 16383 (roundDiv s.v 16 + l.rawPedestal)).toNat
  let lp := if s.sat then 16777215 else linearOf l s.v
  if format = 0 then (if s.sat then 4095 else min 4095 ((raw + 2) / 4))
  else if format = 1 then (if s.sat then 16383 else raw)
  else if format = 2 then compand lp
  else min 1048575 (lp / 2 ^ l.shift20)

/-- Codes of `w` bits as a number, the first lowest (R105). -/
def packBits (w : Nat) (l : List Nat) : Nat := l.foldr (fun c a => c + a * 2 ^ w) 0

/-- The bytes of a packed line. -/
def PdpJob.line (p : PdpJob) (g : ViewGen) (n : Nat) : Bytes :=
  let rows := (g.lineRows p.mono p.capture.chargeBin n).filterMap p.rowIndex
  let codes := (List.range g.ow).map fun m => codeOf p.latch g.format (p.pixel rows (g.lineCols p.mono m))
  leBytes g.lineBytes (packBits (formatBits g.format) codes)

/-! ## Statistics (R106) -/

/-- The statistic value of a pixel. -/
def PdpJob.statValue (p : PdpJob) (i x : Nat) : Nat :=
  let level (v : Int) : Nat := (clampInt 0 16383 (roundDiv v 16)).toNat * 4
  let c := p.corrected i x (if p.capture.kind = 1 then 1 else 0)
  if c.sat then 65535
  else if p.capture.kind = 1 then level (mergeLong p.latch (p.corrected i x 0) c) else level c.v

/-- The pixel counts: there, of a counted colour, and of no entry of the table. An HDR pixel's statistic comes from its two SN-A
conversions, so an entry that matches either of them leaves it out and one that matches SN-B alone does not (DESIGN CHOICE, log 66:
R106 says "samples of entries" and not which conversion counts). -/
def PdpJob.counted (p : PdpJob) (i x : Nat) : Bool :=
  let y := (p.rows[i]?.map Row.y).getD 0
  let ds := p.rowDefects y
  (p.sample i x 0).isSome && (p.mono || !p.latch.greenOnly || (x + y) % 2 = 1) &&
    (p.defectAt ds y x 0).isNone && (p.capture.kind != 1 || (p.defectAt ds y x 1).isNone)

/-- One value added to a tile's record. -/
def TileStat.add (t : TileStat) (v : Nat) : TileStat :=
  { t with bins := modifyAt (· + 1) (v / 1024) t.bins, sum := t.sum + v, count := t.count + 1
           sat := t.sat + boolNat (v = 65535) }

/-- The record of a tile. -/
def PdpJob.tileStat (p : PdpJob) (t : Nat) : TileStat :=
  let rows := (List.range p.rows.length).filter fun i =>
    ((p.rows[i]?.map Row.y).getD 0 - 32) / 512 = t / 24
  let vs := rows.flatMap fun i =>
    ((List.range 512).map (512 * (t % 24) + ·)).filterMap fun x =>
      if p.counted i x then some (p.statValue i x) else none
  vs.foldl TileStat.add ⟨List.replicate 64 0, 0, 0, 0, spGet 0 t p.capture.tilemap⟩

/-- The capture's statistics set. Header flag "green only" shows STATS_SELECT also on the monochrome variant, where every sample counts
(DESIGN CHOICE, log 83: R107 does not say). -/
def PdpJob.stats (p : PdpJob) : StatsSet :=
  let c := p.capture
  { capture := c.counter, index := c.index, t0 := c.t0.getD 0, kind := c.kind, chargeBin := c.chargeBin
    greenOnly := p.latch.greenOnly
    tiles := ((tilesOf c.quads).filter fun t => p.latch.segments.testBit (t % 24 / 4)).map fun t => (t, p.tileStat t)
    autos := (c.profiles.filter ProfileUse.auto).map ProfileUse.profile }

end Sys2Proof.Machine
end

