-- ==== Sys2Proof/Machine/Datapath.lean ====
section
/-! DEFINITION. The datapath at work: conversions and alignment (R82, R83, R453), black level (R89 to R94), statistics (R108), the
packing of view lines and the dealing of strips (R105, R134). -/

namespace Sys2Proof.Machine

/-! ## Conversions delivered -/

/-- The job of a capture. -/
def State.job (s : State) (c : Word64) : Option PdpJob := s.pdp.jobs.find? fun j => j.capture.counter = c

/-- A job replaced. -/
def State.setJob (s : State) (p : PdpJob) : State :=
  { s with pdp := { s.pdp with
    jobs := s.pdp.jobs.map fun j => if j.capture.counter = p.capture.counter then p else j } }

/-- The samples a bank delivers for a conversion of a capture (R84, R109). -/
def PdpJob.sampleCount (p : PdpJob) : Nat := 64 + 2048 * popBits 6 p.latch.segments

/-- The next row-quad of bank `b`, if the samples suit it. -/
def State.nextQuad (s : State) (b : Nat) (samples : List RawSample) : Option WaitingQuad :=
  match s.pdp.waiting.find? (fun w => (w.banks.getD b []).length < s.convOf w) with
  | none => none
  | some w => if samples.length = ((s.job w.capture).map PdpJob.sampleCount).getD 0 then some w else none

/-- A row-quad with one more conversion of bank `b`. -/
def WaitingQuad.deliver (w : WaitingQuad) (b : Nat) (samples : List RawSample) : WaitingQuad :=
  { w with banks := modifyAt (fun l => l ++ [samples]) b w.banks }

/-- The readout of a capture has ended: every row-quad is released and delivered (R61). -/
def State.readoutEnded (s : State) (c : Capture) : Bool :=
  c.released = c.quadCount && c.quadCount != 0 &&
    s.pdp.waiting.all fun w => w.capture != c.counter || w.full c.conv

/-- Captures read out leave ETS. -/
def State.endReadouts (s : State) : State :=
  { s with ets := { s.ets with captures := s.ets.captures.filter fun c => !s.readoutEnded c } }

/-- One conversion delivered (R82), with the largest lag of a bank (R316 `ARRAY.READOUT_LAG_MAX`). -/
def State.deliver (s : State) (b : Nat) (w : WaitingQuad) (samples : List RawSample) : State :=
  let lag := s.bankLag b
  let s1 := { s with
    ets := { s.ets with lagMax := max s.ets.lagMax lag }
    pdp := { s.pdp with waiting := s.pdp.waiting.map fun (x : WaitingQuad) =>
      if x.capture = w.capture && x.position = w.position then x.deliver b samples else x } }
  (s1.progress [b]).endReadouts.afterWork

def execConversionDelivered (bank : Nat) (samples : List RawSample) (s : State) : Result :=
  .next (if bank < 4 && s.powered (30 + bank) then
      match s.nextQuad bank samples with
      | some w => s.deliver bank w samples
      | none => s
    else s)

/-! ## Black level -/

/-- The used black values after a measurement from the rows from `lo` on (R91). -/
def PdpJob.newBlack (p : PdpJob) (lo free : Nat) (fresh : Bool) (prev : List (Nat × Int)) : List (Nat × Int) :=
  ((List.range p.capture.conv).flatMap fun j => (List.range 4).flatMap fun b => (List.range 2).map fun par => (j, b, par)).foldl
    (fun m (j, b, par) =>
      let k := blackKey j b par
      spSet 4096 k (blackFilter fresh p.latch.filter (spGet 4096 k prev) (p.measureB lo b j par (free + k))) m) prev

/-- The used black-column offsets after a measurement. -/
def PdpJob.newOcol (p : PdpJob) (lo free : Nat) (fresh : Bool) (prev : List (Nat × Int)) : List (Nat × Int) :=
  ((List.range p.capture.conv).flatMap fun j => (List.range 4).flatMap fun b => (List.range 64).map fun k => (j, b, k)).foldl
    (fun m (j, b, k) =>
      let i := ocolKey j b k
      spSet 4096 i (blackFilter fresh p.latch.filter (spGet 4096 i prev) (p.measureO lo b j k (free + 32 + i))) m) prev

/-- The measurement of a capture made and carried on to the next (R91, R94); 1,024 free values are drawn. Without the top half the
measurement is made at the end of the readout and serves the next capture, and it is the first capture's own measurement that is
left unfiltered (DESIGN CHOICE, log 59: R91 says "at the first capture", R94 "from the next capture"). -/
def State.measureBlack (s : State) (p : PdpJob) (lo : Nat) : State :=
  let fresh := s.pdp.fresh.any (· ≤ p.capture.index)
  { s with
    free := s.free + 1024
    pdp := { s.pdp with
      black := p.newBlack lo s.free fresh s.pdp.black, ocol := p.newOcol lo s.free fresh s.pdp.ocol
      fresh := s.pdp.fresh.filter fun n => p.capture.index < n } }

/-! ## Alignment and the correction chain -/

/-- The banks in ascending order of the rows they convert. -/
def bankOrder (mono bin : Bool) : List Nat := if mono && bin then [0, 3, 1, 2] else [0, 1, 2, 3]

/-- The job takes a row-quad in: its rows pass stages 1 and 2 (R88, R93), black rows are kept for the measurement. -/
def PdpJob.takeQuad (p : PdpJob) (w : WaitingQuad) : PdpJob :=
  let c := p.capture
  let q := w.position + skippedQuads c.quads c.chargeBin
  let p1 := (bankOrder p.mono c.chargeBin).foldl (fun p b =>
    let y := bankRow p.mono c.chargeBin q b
    let conv := (w.banks.getD b []).zipIdx.map fun (l, j) => p.calibrate b y j l
    if activeRow y then { p with rows := p.rows ++ [⟨y, conv.zipIdx.map fun (r, j) => p.level b j r⟩] }
    else { p with dark := p.dark ++ [⟨y, conv⟩] }) p
  { p1 with quads := p1.quads + 1 }

/-- The row-quad completes the top optical-black rows. -/
def PdpJob.blackDone (p : PdpJob) : Bool :=
  topRead p.capture.quads && p.quads = (if p.capture.chargeBin then 4 else 8)

/-- `ARRAY.BLACK_MEAN` of a job (R110). -/
def PdpJob.blackMean (p : PdpJob) : Nat :=
  (clampInt 0 65535 (roundDiv (((List.range 8).map fun k => spGet 4096 k p.black).foldl (· + ·) 0) 8)).toNat

/-- Jobs whose frames have all ended are forgotten. -/
def State.dropJobs (s : State) : State :=
  let busy (c : Word64) : Bool := (List.range 32).any fun v => (s.viewAt v).current.any fun f => f.capture = c
  { s with pdp := { s.pdp with jobs := s.pdp.jobs.filter fun j => !j.done || busy j.capture.counter } }

/-- A capture's last row-quad has been processed: its statistics become readable (R108), and without the top half black is
measured for the next capture (R94). -/
def State.finishJob (s : State) (p : PdpJob) : State :=
  let s1 := if topRead p.capture.quads then s else s.measureBlack p 9248
  { s1.setJob { p with done := true } with
      pdp := { (s1.setJob { p with done := true }).pdp with stats := some p.stats, blackMean := p.blackMean } }

/-- The row-quad completes a row of tiles, 512 active rows below the 32 black ones (R46, R106). -/
def PdpJob.tileRowDone (p : PdpJob) (w : WaitingQuad) : Bool :=
  let c := p.capture
  let rows := (w.position + skippedQuads c.quads c.chargeBin + 1) * (if c.chargeBin then 8 else 4)
  32 < rows && (rows - 32) % 512 = 0

/-- A row-quad enters the correction chain (R83). The first capture without the top half is corrected by the values last used while
`PD_PDP_HDR` stayed on, measured in the top rows or not (DESIGN CHOICE, log 59: "the first such measurement" of R94 leaves it open);
they are 4,096 where there are none. -/
def State.align (s : State) (w : WaitingQuad) (p : PdpJob) : State :=
  let p0 := if p.quads = 0 then { p with black := s.pdp.black, ocol := s.pdp.ocol } else p
  let p1 := p0.takeQuad w
  let s0 := { s with pdp := { s.pdp with waiting := s.pdp.waiting.drop 1 } }
  let s1 := if p1.blackDone then s0.measureBlack p1 0 else s0
  let p2 := if p1.blackDone then { p1 with black := s1.pdp.black, ocol := s1.pdp.ocol } else p1
  let s2 := (s1.setJob p2).onCapture p.capture.counter fun c => { c with aligned := c.aligned + 1 }
  let s3 := if p2.quads = p.capture.quadCount then s2.finishJob p2 else s2
  (s3.progress (if p1.tileRowDone w then [4, 55, 56] else [4, 55])).dropJobs.afterWork

/-- Readout position of the last row-quad that contributes to line `n` of a view (R128). -/
def Capture.linePosition (c : Capture) (mono : Bool) (g : ViewGen) (n : Nat) : Nat :=
  maxList (g.lineRows mono c.chargeBin n) / (if c.chargeBin then 8 else 4) - skippedQuads c.quads c.chargeBin

/-- Row-quads of a job that views have yet to pack from (R453). -/
def State.heldQuads (s : State) (p : PdpJob) : Nat :=
  maxList ((List.range 32).map fun v =>
    match (s.viewAt v).current.find? (fun f => f.capture = p.capture.counter) with
    | some f => if f.packed < f.gen.oh then p.quads - p.capture.linePosition p.mono f.gen f.packed else 0
    | none => 0)

/-- The PDP has room for a row-quad. -/
def State.pdpRoom (s : State) : Bool := (s.pdp.jobs.map s.heldQuads).foldl (· + ·) 0 < 16

/-- The oldest waiting row-quad, once complete from all four banks. -/
def State.alignable (s : State) : Option (WaitingQuad × PdpJob) :=
  match s.pdp.waiting with
  | [] => none
  | w :: _ =>
    match s.job w.capture with
    | some p => if w.full p.capture.conv then some (w, p) else none
    | none => none

def execRowquadAligned (s : State) : Result :=
  .next (if s.powered 34 && s.pdpRoom then
      match s.alignable with
      | some (w, p) => s.align w p
      | none => s
    else s)

/-! ## View lines (R105, R128, R134) -/

/-- The line can be packed: its rows have passed, and the rows its defect neighbours may lie in (R97). -/
def PdpJob.lineReady (p : PdpJob) (g : ViewGen) (n : Nat) : Bool :=
  let idx := (g.lineRows p.mono p.capture.chargeBin n).map p.rowIndex
  idx.all Option.isSome && (p.done || maxList (idx.map fun i => i.getD 0) + 2 < p.rows.length)

/-- The oldest frame of the view with lines to pack, and its job. -/
def State.packing (s : State) (v : Nat) : Option (Frame × PdpJob) :=
  match (s.viewAt v).current.find? (fun f => f.packed < f.gen.oh) with
  | none => none
  | some f => (s.job f.capture).map fun p => (f, p)

/-- A frame of a view changed by `g`. -/
def State.onFrame (s : State) (v : Nat) (c : Word64) (g : Frame → Frame) : State :=
  s.onView v fun x => { x with current := x.current.map fun f => if f.capture = c then g f else f }

/-- Bytes outstanding at an engine, and whether strips may be dealt to it (R376). -/
def State.engine (s : State) (e : Nat) : Engine := spGet {} e s.sea.engines

/-- The engines of group `g` to which strips may be dealt. -/
def State.liveEngines (s : State) (g : Nat) : List Nat :=
  ((List.range 8).map (8 * g + ·)).filter fun e => !(s.engine e).stopped

/-- The element with the smallest measure, the first on a tie. -/
def leastBy (f : Nat → Nat) : List Nat → Option Nat
  | [] => none
  | a :: l => some (l.foldl (fun b x => if f x < f b then x else b) a)

/-- The engine a strip is dealt to (R134). -/
def State.dealTo (s : State) (dealt : List (Nat × Nat)) : Option Nat :=
  let groups := (List.range 4).filter fun g => s.domainReady (36 + g) && g < s.stored 0x2003 && !(s.liveEngines g).isEmpty
  match leastBy (fun g => spGet 0 g dealt) groups with
  | none => none
  | some g => leastBy (fun e => (s.engine e).outstanding) (s.liveEngines g)

/-- Bytes dealt since the current capture's first strip (R134). -/
def State.dealtNow (s : State) (c : Word64) : List (Nat × Nat) :=
  match s.sea.dealtCapture with
  | some d => if c.toNat ≤ d.toNat then s.sea.dealt else []
  | none => []

/-- Lines, and bytes, of strip `i` (R132). -/
def ViewGen.stripLines (g : ViewGen) (i : Nat) : Nat := min 16 (g.oh - 16 * i)
def ViewGen.stripBytes (g : ViewGen) (i : Nat) : Nat := g.stripLines i * g.lineBytes

/-- A strip dealt (R134): counted for its group and its engine. -/
def State.dealStrip (s : State) (v : Nat) (f : Frame) (e : Nat) : State :=
  let n := f.gen.stripBytes (f.packed / 16)
  let g := e / 8
  let dealt := s.dealtNow f.capture
  let last := match s.sea.dealtCapture with
    | some d => if f.capture.toNat ≤ d.toNat then d else f.capture
    | none => f.capture
  { s.onFrame v f.capture fun x => { x with strips := x.strips ++ [{ engine := e }] } with
    sea := { s.sea with
      dealt := spSet 0 g (spGet 0 g dealt + n) dealt, dealtCapture := some last
      engines := spSet {} e { s.engine e with outstanding := (s.engine e).outstanding + n } s.sea.engines
      groupStrips := spSet 0 g (spGet 0 g s.sea.groupStrips + 1) s.sea.groupStrips } }

/-- FRAME_START (R240). -/
def State.pushStart (s : State) (v : Nat) (f : Frame) (t0 : Word64) : State :=
  s.pushData { kind := 2, view := v, gen := f.genNo, stream := f.gen.streamId
               body := leBytes 8 f.capture.toNat ++ leBytes 8 t0.toNat ++ leBytes 4 f.gen.frameBytes ++ zeros 4 }

/-- A line packed into the strip buffer. -/
def State.packLine (s : State) (v : Nat) (f : Frame) (p : PdpJob) : State :=
  let line := p.line f.gen f.packed
  let s1 := s.onFrame v f.capture fun x => { x with
    packed := x.packed + 1, strips := modifyAt (fun (y : Strip) => { y with lines := y.lines ++ [line] }) (x.packed / 16) x.strips }
  let s2 := { s1 with sea := { s1.sea with buffer := s1.sea.buffer + f.gen.lineBytes } }.progress [5]
  if f.packed = 0 then s2.pushStart v f (p.capture.t0.getD 0) else s2

/-- The strip buffer has room for a line; the data queue has room for a FRAME_START, which a closing run does not wait for. -/
def State.lineRoom (s : State) (f : Frame) : Bool :=
  s.sea.buffer + f.gen.lineBytes ≤ 25165824 &&
    (f.packed != 0 || s.closing || queueSize s.lnk.data + 44 ≤ dataCap)

/-- The next line of a view packed, its strip dealt first if it opens one. -/
def State.packNext (s : State) (v : Nat) (f : Frame) (p : PdpJob) : State :=
  if f.packed % 16 = 0 then
    match s.dealTo (s.dealtNow f.capture) with
    | some e => (s.dealStrip v f e).packLine v f p
    | none => s
  else s.packLine v f p

def execViewLinePacked (view : Nat) (s : State) : Result :=
  .next (if view < 32 && s.powered 35 then
      match s.packing view with
      | some (f, p) => if p.lineReady f.gen f.packed && s.lineRoom f then s.packNext view f p else s
      | none => s
    else s)

/-! ## The pinned statistics set (R321) -/

def execStatsPinExpiry (s : State) : Result :=
  .next (match s.pdp.pinned with
    | some (_, t) => if t + 12500000 ≤ s.clk.ticks then { s with pdp := { s.pdp with pinned := none } } else s
    | none => s)

end Sys2Proof.Machine
end

