-- ==== Sys2Proof/Machine/Lines.lean ====
section
/-! DEFINITION. What LNK takes from the sealing engine: view lines in the order of R128, as VIEW_DATA packets (R239). -/

namespace Sys2Proof.Machine

/-- Parts of at most `n` bytes, in order; `fuel` at least their number. -/
def partsOf (n : Nat) : Nat → Bytes → List Bytes
  | 0, _ => []
  | f + 1, l => if l.isEmpty then [] else l.take n :: partsOf n f (l.drop n)

/-- The VIEW_DATA packets of a line (R239): packets begin anew at each line, 8,192 bytes and then the rest (DESIGN CHOICE, log 82: the
rule allows several lines in a packet). -/
def Frame.packets (f : Frame) (v : Nat) (line : Bytes) : List Packet :=
  (partsOf 8192 line.length line).zipIdx.map fun (part, i) =>
    { kind := 1, view := v, gen := f.genNo, stream := f.gen.streamId
      body := leBytes 8 f.capture.toNat ++ leBytes 4 (f.sent * f.gen.lineBytes + 8192 * i) ++ zeros 4 ++ part }

/-- More lines of the frame are to be taken. -/
def Frame.unsent (f : Frame) : Bool := f.sent < f.packed || (f.sent < f.gen.oh && !f.truncated)

/-- The place of the frame's next line in the order of R128: capture, readout position, view. -/
def State.lineOrder (s : State) (v : Nat) (f : Frame) : Nat :=
  match s.job f.capture with
  | some p => (f.capture.toNat * 4096 + p.capture.linePosition p.mono f.gen f.sent) * 32 + v
  | none => f.capture.toNat * 4096 * 32 + v

/-- Every frame with lines to be taken, with its view. -/
def State.unsentFrames (s : State) : List (Nat × Frame) :=
  (List.range 32).flatMap fun v => ((s.viewAt v).current.filter Frame.unsent).map fun f => (v, f)

/-- The frame whose line is next. -/
def State.nextFrame (s : State) : Option (Nat × Frame) :=
  match s.unsentFrames with
  | [] => none
  | a :: l => some (l.foldl (fun b x => if s.lineOrder x.1 x.2 < s.lineOrder b.1 b.2 then x else b) a)

/-- The line leaves the strip buffer. -/
def State.lineTaken (s : State) (v : Nat) (f : Frame) : State :=
  { s.onFrame v f.capture fun x => { x with sent := x.sent + 1 } with
    sea := { s.sea with buffer := s.sea.buffer - f.gen.lineBytes } }.progress [50]

/-- Strip `i` of a frame, whose engine has absorbed all of it. -/
def Frame.stripDone (f : Frame) (i : Nat) (x : Strip) : Bool := x.absorbed = f.gen.stripLines i

/-- The frame's next line, once its engine has absorbed it (R134); none of a strip that a stopped engine holds (R376). -/
def State.nextLine (s : State) (f : Frame) : Option Bytes :=
  match f.strips[f.sent / 16]? with
  | none => none
  | some x =>
    if f.sent % 16 < x.absorbed && (f.stripDone (f.sent / 16) x || !(s.engine x.engine).stopped) then x.lines[f.sent % 16]?
    else none

/-- A packet queued, or discarded where the data queue is full (R251). -/
def State.pushIfRoom (s : State) (p : Packet) : State :=
  if queueSize s.lnk.data + queueSize [p] ≤ dataCap then s.pushData p else s

/-- The next line in order taken, if an engine has absorbed it and the data queue has room (R134, R245); a closing run discards
it where the link is not UP, and those of its packets that find the queue full (R251). -/
def State.takeLine (s : State) : Option State :=
  match s.nextFrame with
  | none => none
  | some (v, f) =>
    match s.nextLine f with
    | none => none
    | some line =>
      let ps := f.packets v line
      let t := s.lineTaken v f
      if s.closing then some (if s.lnk.state = .up then ps.foldl State.pushIfRoom t else t)
      else if queueSize s.lnk.data + queueSize ps ≤ dataCap then some (ps.foldl State.pushData t)
      else none

/-- Lines taken as long as one can be, at most `fuel`. -/
def State.takeUpTo : Nat → State → State
  | 0, s => s
  | f + 1, s => match s.takeLine with
    | some t => State.takeUpTo f t
    | none => s

/-- Every line taken that can be. -/
def State.takeLines (s : State) : State :=
  State.takeUpTo ((s.unsentFrames.map fun x => x.2.packed).foldl (· + ·) 0) s

/-- A closing run begins: step 1 to 4, and the absorbed lines that LNK no longer waits for (R251). -/
def State.beginRun (s : State) (trigger : Nat) : State := (s.startRun trigger).takeLines

end Sys2Proof.Machine
end

