-- ==== Sys2Proof/Machine/SealRun.lean ====
section
/-! DEFINITION. The sealing engine at work (06): absorption and strip leaves, frame roots and seals, signatures, the repeated
`EV_VERMILION`. -/

namespace Sys2Proof.Machine

/-! ## Absorption (R133, R134) -/

/-- A line of the strip waits for its engine. -/
def Strip.pending (x : Strip) : Bool := x.absorbed < x.lines.length

/-- The oldest frame of the view whose strip `i` has a packed line that its engine, still running, has not absorbed, and the strip: a
stopped engine holds back no other (R161, R376). -/
def State.absorbing (s : State) (v i : Nat) : Option (Frame × Strip) :=
  match (s.viewAt v).current.find? fun f => f.strips[i]?.any fun x => x.pending && !(s.engine x.engine).stopped with
  | some f => f.strips[i]?.map fun x => (f, x)
  | none => none

/-- The leaf of a strip: over the lines absorbed (R133). -/
def Strip.leaf (x : Strip) : Bytes := leafHash (x.lines.take x.absorbed).flatten

/-- Bytes an engine no longer has outstanding. -/
def State.lessOutstanding (s : State) (e n : Nat) : State :=
  { s with sea := { s.sea with
    engines := spSet {} e { s.engine e with outstanding := (s.engine e).outstanding - n } s.sea.engines } }

/-- Bytes hashed counted for a group (R317 `SEAL.GROUP_BYTES`). -/
def State.countBytes (s : State) (e n : Nat) : State :=
  { s with sea := { s.sea with
    groupBytes := spSet 0 (e / 8) (spGet 0 (e / 8) s.sea.groupBytes + BitVec.ofNat 64 n) s.sea.groupBytes } }

/-- The next line of strip `i` of a frame absorbed: LNK takes what it can. A finished strip is counted for its group. -/
def State.absorb (s : State) (v i : Nat) (f : Frame) (x : Strip) : State :=
  let y := { x with absorbed := x.absorbed + 1 }
  let s1 := (s.onFrame v f.capture fun g => { g with strips := modifyAt (fun _ => y) i g.strips }).lessOutstanding x.engine
    f.gen.lineBytes
  let s2 := if f.stripDone i y then s1.countBytes x.engine (f.gen.stripBytes i) else s1
  (s2.progress [6 + x.engine / 8, 10 + x.engine]).takeLines.afterWork

def execLineAbsorbed (line : AbsorbedLine) (s : State) : Result :=
  .next (match s.absorbing line.view line.strip with
    | some (f, x) =>
      if line.view < 32 && s.powered (36 + x.engine / 8) then s.absorb line.view line.strip f x else s
    | none => s)

/-! ## The exposure descriptor (R76, R77) and the frame header (R137) -/

/-- A profile entry of the descriptor. -/
def ProfileUse.entry (u : ProfileUse) (kind : Nat) : Bytes :=
  leBytes 4 (u.delivered kind .a) ++ leBytes 4 (u.delivered kind .b) ++ leBytes 1 u.slices ++ leBytes 1 u.gain ++
    leBytes 1 (u.droppedA.length + u.droppedB.length) ++ zeros 1

/-- The exposure descriptor of a capture. -/
def Capture.descriptor (c : Capture) : Bytes :=
  let drop := c.profiles.any fun u => !u.droppedA.isEmpty || !u.droppedB.isEmpty
  leBytes 1 c.kind ++ leBytes 1 c.align ++
    leBytes 2 (boolNat c.triggered + 2 * boolNat c.chargeBin + 4 * boolNat drop) ++
    leBytes 2 (maskOf ((List.range 16).map fun p => (c.use p).isSome)) ++ zeros 2 ++ leBytes 4 c.smax ++
    leBytes 4 c.coCount.toNat ++ leBytes 8 c.detect.toNat ++ leBytes 8 c.coFirst.toNat ++ leBytes 8 c.coLast.toNat ++
    zeros 24 ++ (List.range 16).flatMap fun p => match c.use p with | some u => u.entry c.kind | none => zeros 12

/-- The readout was abandoned before the frame's last line (R140). -/
def Frame.cut (f : Frame) : Bool := f.truncated && f.packed < f.gen.oh

/-- The frame header (R137); `slot`: segment counter, frame index and whether the segment carries DEBUG_UNSEALED. A frame
of no segment carries the flag as it stood at the frame's opening, in GRAPHITE too (DESIGN CHOICE, log 69: R158 does not say). -/
def Frame.header (f : Frame) (v : Nat) (slot : Option (Word64 × Nat × Bool)) (c : Capture) (strips : Nat) : Bytes :=
  let g := f.gen
  let debug := match slot with | some x => x.2.2 | none => f.debug
  leBytes 2 1 ++ leBytes 2 384 ++ leBytes 1 v ++ leBytes 1 f.genNo ++ leBytes 1 g.format ++
    leBytes 1 (boolNat f.cut + 2 * boolNat debug + 4 * boolNat slot.isNone) ++
    leBytes 8 f.capture.toNat ++ leBytes 8 (c.t0.getD 0).toNat ++
    (match slot with | some x => leBytes 8 x.1.toNat ++ leBytes 4 x.2.1 | none => ones 12) ++
    leBytes 2 g.ow ++ leBytes 2 g.oh ++ leBytes 4 g.lineBytes ++ leBytes 4 strips ++ leBytes 4 f.packed ++
    leBytes 2 g.x0 ++ leBytes 2 g.y0 ++ leBytes 2 g.width ++ leBytes 2 g.height ++
    leBytes 1 (g.bin + 4 * g.kh + 16 * g.kv) ++ leBytes 1 g.streamId ++ zeros 2 ++ padTo 64 f.digest ++ c.descriptor

/-! ## Frame roots (R138 to R140) -/

/-- The frame's segment, its place there, and the segment's debug flag. -/
def View.slotOf (x : View) (c : Word64) : Option (Word64 × Nat × Bool) :=
  (x.segments.find? fun g => g.values.any fun y => y.capture = c).map fun g => (g.counter, g.roots.length, g.debug)

/-- Every line that will come has been taken. -/
def Frame.ended (f : Frame) (more : Bool) : Bool :=
  f.sent = f.gen.oh || (f.truncated && f.sent = f.packed && !more)

/-- The frame's next line can still be packed. -/
def State.morePacking (s : State) (f : Frame) : Bool :=
  f.packed < f.gen.oh && (match s.job f.capture with | some p => p.lineReady f.gen f.packed | none => false)

/-- The oldest frame of the view, once its last line is taken. -/
def State.endedFrame (s : State) (v : Nat) : Option (Frame × PdpJob) :=
  match (s.viewAt v).current with
  | [] => none
  | f :: _ => if f.ended (s.morePacking f) then (s.job f.capture).map fun p => (f, p) else none

/-- The last strip of a truncated frame ends: the bytes dealt for lines that never came are no longer outstanding, and those
hashed count for its group. -/
def State.releaseStrip (s : State) (f : Frame) : State :=
  let i := f.strips.length - 1
  match f.strips.getLast? with
  | some x =>
    if f.stripDone i x then s
    else (s.lessOutstanding x.engine (f.gen.stripBytes i - x.absorbed * f.gen.lineBytes)).countBytes x.engine
      (x.absorbed * f.gen.lineBytes)
  | none => s

/-- A truncated frame counted (R203, R317). -/
def State.countCut (s : State) (f : Frame) : State :=
  if f.cut then
    { s.onRun fun r => { r with truncated := r.truncated + 1 } with
      nvs := s.nvs.retain fun t => { t with truncatedTotal := t.truncatedTotal + 1 } }
  else s

/-- FRAME_END with the frame seal (R139). -/
def State.pushEnd (s : State) (v : Nat) (f : Frame) (header root : Bytes) : State :=
  s.pushData { kind := 3, view := v, gen := f.genNo, stream := f.gen.streamId, body := header ++ root }

/-- The frame root recorded: the value's fate, and the sequence of the FRAME_END its segment's record follows (R150), if that was
queued. -/
def State.recordRoot (s : State) (v : Nat) (f : Frame) (root : Bytes) (endSeq : Option Word) : State :=
  s.onView v fun x => { x with
    current := x.current.drop 1
    frames := x.frames + 1
    lastCapture := f.capture
    segments := x.segments.map fun g =>
      if g.values.any fun y => y.capture = f.capture then
        { g with
          lastEnd := endSeq
          values := g.values.map fun y => if y.capture = f.capture then { y with fate := .frame root f.cut } else y }
      else g }

/-- A frame root completes (R138, R139). -/
def State.endFrame (s : State) (v : Nat) (f : Frame) (p : PdpJob) : State :=
  let leaves := f.strips.map Strip.leaf
  let header := f.header v ((s.viewAt v).slotOf f.capture) p.capture leaves.length
  let root := merkleRoot (leaves ++ [leafHash header])
  let s1 := if f.packed = 0 then s.pushStart v f (p.capture.t0.getD 0) else s
  let s2 := s1.pushEnd v f header root
  let endSeq := if s2.lnk.seq = s1.lnk.seq then none else some s1.lnk.seq
  let s2 := ((s2.recordRoot v f root endSeq).releaseStrip f).countCut f
  let s3 := { s2 with sea := { s2.sea with
    framesSealed := s2.sea.framesSealed + 1
    treeHashes := s2.sea.treeHashes + BitVec.ofNat 32 (leaves.length + 2) } }
  (((s3.progress [42]).settle v).dropJobs).afterWork

/-- The data queue has room for the frame's end; a closing run does not wait for it. -/
def State.endRoom (s : State) : Bool := s.closing || queueSize s.lnk.data + 44 + 468 ≤ dataCap

def execFrameRootComplete (view : Nat) (s : State) : Result :=
  .next (if view < 32 && s.powered 40 && s.endRoom then
      match s.endedFrame view with
      | some (f, p) => s.endFrame view f p
      | none => s
    else s)

/-! ## Signatures (R149 to R154) -/

/-- The identity seed of the bank in force since the boot (R147). -/
def State.seed (s : State) : Bytes := s.fus.seedOf s.fus.bank

/-- An identity is in force since the boot, in IVORY or COBALT (R158, R159). -/
def State.identityActive (s : State) : Bool :=
  (s.fus.bank = 1 || s.fus.bank = 2) && (s.fus.lifecycle = 1 || s.fus.lifecycle = 2)

/-- Seal keys can be derived: RETIRE_SEAL blocks their path (R335). -/
def State.derives (s : State) : Bool := s.identityActive && !s.fus.retireSeal

/-- The signing message (R149). -/
def State.signingMessage (s : State) (j : SignJob) : Bytes :=
  ascii "CDK-SEAL" ++ s.fus.deviceId ++ leBytes 4 j.epoch ++ leBytes 4 j.seq.toNat ++ j.head

/-- The SEAL_SIG body (R152). -/
def State.sealSig (s : State) (j : SignJob) : Bytes :=
  leBytes 4 j.seq.toNat ++ leBytes 4 j.epoch ++ leBytes 1 j.kind ++ leBytes 1 (boolNat j.resigned) ++ zeros 6 ++
    edSign (sealKey s.seed j.epoch) (s.signingMessage j)

/-- The next job: prompt ones first (R154). -/
def Sea.nextJob (x : Sea) : Option (SignJob × Sea) :=
  match x.prompt, x.resign with
  | j :: l, _ => some (j, { x with prompt := l })
  | [], j :: l => some (j, { x with resign := l })
  | [], [] => none

/-- The counts of a signature sent (R160, R317). -/
def Sea.counted (x : Sea) (j : SignJob) (ns : Nat) : Sea :=
  { x with
    signedTotal := x.signedTotal + 1
    resignedTotal := if j.resigned then x.resignedTotal + 1 else x.resignedTotal
    lastSigned := if j.resigned then x.lastSigned else j.seq
    sigTimeMax := if x.sigTimeMax.toNat < ns then BitVec.ofNat 32 (min ns 0xFFFFFFFF) else x.sigTimeMax }

/-- A signing job ends: its SEAL_SIG is queued. -/
def State.signed (s : State) (j : SignJob) (rest : Sea) (ns : Nat) : State :=
  (({ s with sea := rest.counted j ns }.progress [43]).pushSeal
    { kind := 5, view := j.view, gen := j.gen, stream := j.stream, body := s.sealSig j, after := j.after }).supply

/-- An accepted `SEAL_RESIGN` has not been answered yet: its response comes before the first late signature (R154). -/
def State.resignUnanswered (s : State) : Bool :=
  s.ctl.replies.any fun r => leAt 2 2 r.bytes = 0x8031 && leAt 16 4 r.bytes = 0

/-- The job the signing unit can work on now. -/
def State.jobDue (s : State) : Option (SignJob × Sea) :=
  if s.signs && s.derives then s.sea.nextJob.filter fun x => !(x.1.resigned && s.resignUnanswered) else none

def execSignJobDone (ns : Nat) (s : State) : Result :=
  .next (if !s.closing && s.domainReady 40 then
      match s.jobDue with
      | some (j, rest) => s.signed j rest ns
      | none => s
    else s)

/-! ## Vermilion (R157) -/

/-- `EV_VERMILION` with the seconds since entry. -/
def State.repeatVermilion (s : State) (entry : Nat) : State :=
  { s with ev := { s.ev with vermilionLast := s.ev.vermilionLast + 125000000 } }.raise 0x13 s.now
    (leBytes 1 s.sea.vermilion ++ zeros 3 ++ leBytes 4 ((s.ev.vermilionLast + 125000000 - entry) / 125000000))

def execVermilionRepeat (s : State) : Result :=
  .next (match s.ev.vermilionEntry with
    | some t =>
      if s.sea.vermilion != 0 && s.fus.lifecycle != 3 && s.ev.vermilionLast + 125000000 ≤ s.clk.ticks then s.repeatVermilion t
      else s
    | none => s)

end Sys2Proof.Machine
end

