-- ==== Sys2Proof/Machine/Reset.lean ====
section
/-! DEFINITION. Resets (16): what a reset keeps, the decision and hold-off, the reset record, the task watchdog and the progress
monitors. -/

namespace Sys2Proof.Machine

/-- Code of a power state (R280). -/
def PowerState.code : PowerState → Nat
  | .boot => 0 | .active => 1 | .standby => 2 | .closing => 3 | .offHold => 4

/-! ## What a reset keeps -/

/-- The clocks: device time and the discipline run on through every reset but POR (R260); the stored band results stay (R257). -/
def Clk.kept (c : Clk) (por : Bool) : Clk :=
  if por then { ticks := c.ticks, lastEdgeTick := c.ticks, pllRecords := c.pllRecords }
  else { c with
    pendingSet := none, ppsRejects := 0, pllSearches := 0, fwdLocked := false, retLocked := false, fwdRate := 0
    fwdSearching := false, retSearching := false, fwdReload := false }

/-- The retained POWER values (R208, R315), and what the rails and the comparators show. A low level of PFAIL_N recognised before the
reset starts no second run after it (DESIGN CHOICE, log 87: R197 does not say). -/
def Pwr.kept (p : Pwr) : Pwr :=
  { domains := p.domains &&& BitVec.ofNat 56 (2 ^ 49)
    pfailLow := p.pfailLow, pfailSince := p.pfailSince, goodSince := p.goodSince, rstSince := p.rstSince
    pfailRecognised := p.pfailRecognised, padsOff := p.padsOff
    drooped := p.drooped, hot := p.hot, tally := p.tally }

/-- The retained NVS state (R181). -/
def Nvs.kept (n : Nvs) : Nvs :=
  { n with
    queue := [], held := false, blocks := [], interleaved := 0, commits := 0, recent := [], rate := 0
    horizon := 0xFFFFFFFF }

/-- The tables in the calibration region, with `ARRAY.DCG_RATIO` (R111, R318). -/
def Tab.kept (t : Tab) : Tab :=
  { colTable := t.colTable, defectTable := t.defectTable, dcgRatio := t.dcgRatio }

/-- The state a reset leaves (R311): the retained region, the OTP array, the calibration and the persistent records stand, all
else is as after the power-on reset. The link's record of packets sent is the model's own. LIFECYCLE and the identity read 0 until the
fuses are latched at stage 0x02 (DESIGN CHOICE, log 98: the reset column of R280 says "from fuses"). -/
def State.wiped (s : State) (por : Bool) : State :=
  { pending := s.pending, free := s.free, clk := s.clk.kept por, pwr := s.pwr.kept
    rst := { tally := s.rst.tally }
    ctl := { tally := s.ctl.tally }
    par := { persist := s.par.persist }
    fus := { words := s.fus.words, units := s.fus.units, cut := s.fus.cut }
    role := { operators := s.role.operators, installers := s.role.installers, maker := s.role.maker, cert := s.role.cert }
    fw := { recordA := s.fw.recordA, recordB := s.fw.recordB, status := s.fw.status }
    nvs := s.nvs.kept
    lnk := { sent := s.lnk.sent, los2 := !por && s.lnk.los2, lol3 := !por && s.lnk.lol3 }
    tab := s.tab.kept
    pin := { tables := s.pin.tables, store := s.pin.store, pads := s.pin.pads }
    hkc := { coefs := s.hkc.coefs }
    tap := s.tap, pad := s.pad }

/-- The domains SUP powers for a boot (R189 step 5). -/
def bootDomains : List Nat := [53, 41, 49, 42, 55]

/-- With TEST_MODE high the device stays at stage 0x00, outside CHALK (R348). -/
def State.testHeld (s : State) : Bool := s.pad.testMode && s.fus.latched.lcSteps != 0

/-- What is powered while TEST_MODE holds the device: the always-on region (R348), and PD_PLL_TIME where it was powered, which stays
so until POR (R193, R260; DESIGN CHOICE, log 99: R348 names the region alone). -/
def State.holdDomains (s : State) : State := s.domainsOff ((List.range 56).filter (· != 49))

/-- Reset is released and the boot begins (R189 step 5), unless TEST_MODE holds the device (R348). -/
def State.releaseBoot (s : State) : State :=
  let s1 := { s with pwr := { s.pwr with released := true } }
  if s.testHeld then s1.holdDomains else s1.domainsOn bootDomains

/-- A boot of a trial image that ends in a reset before stage 0xFF has failed, but for the causes R356 names. -/
def State.countFailure (s : State) (cause : Cause) : State :=
  if s.pwr.released && s.pwr.bootStage < 0xFE && s.fw.record.trial && cause != .por && cause != .pin && cause != .umber then
    { s with fw := s.fw.putRecord { s.fw.record with failed := s.fw.record.failed + 1 } }
  else s

/-- The device reset with a cause (R281); it is released at once unless RST_N is still low (R432). -/
def State.resetDevice (s : State) (cause : Cause) (missing : BitVec 16) (record : Bool) : State :=
  let s1 := (s.countFailure cause).wiped false
  let s2 := { s1 with rst := { s1.rst with cause := cause, missing := missing, record := record } }
  if s.pad.rstN then s2.releaseBoot else s2

/-! ## Decision and hold-off (R377, R378) -/

/-- The core was halted during the last window: the current one of some slot, or the one that has just expired (R380). -/
def State.haltSeen (s : State) : Bool := s.wdg.slots.any fun x => x.2.halted || (x.2.expired && x.2.wasHalted)

/-- A reset is decided. Nothing that could be cut starts any more; the commit in progress is the oldest one, if one may run. -/
def State.decideNew (s : State) (cause : Cause) (detail : Nat) (mask strict : BitVec 16) : State :=
  let commit := s.commitDue && !s.nvs.queue.isEmpty
  let held := boolNat commit + 2 * boolNat (!s.nvs.blocks.isEmpty) + 4 * boolNat (!s.fus.tasks.isEmpty)
  { s with
    free := s.free + 1
    rst := { s.rst with decided := some {
      cause := cause, detail := detail, mask := mask, strict := strict, time := s.now, tick := s.clk.ticks
      stage := s.pwr.bootStage, power := s.pwr.state.code, held := held, commit := commit
      ended := if held = 0 then some s.clk.ticks else none, halted := s.haltSeen, pc := Config.ctlWord s.free } }
    nvs := { s.nvs with blocks := s.nvs.blocks.take 1 }
    fus := { s.fus with tasks := s.fus.tasks.take 1, cut := s.fus.cut || 1 < s.fus.tasks.length } }

/-- A decision: a later one only adds missing slots to the first (R378). A closing run decides none (R197), and a device held
in reset or in OFF_HOLD is already so. -/
def State.decideWith (s : State) (cause : Cause) (detail : Nat) (mask strict : BitVec 16) : State :=
  if s.closing || !s.pwr.released || s.pwr.state = .offHold then s
  else match s.rst.decided with
    | some d => { s with rst := { s.rst with decided := some { d with mask := d.mask ||| mask } } }
    | none => s.decideNew cause detail mask strict

/-- A plain decision, without detail or mask. -/
def State.decideReset (s : State) (cause : Cause) : State := s.decideWith cause 0 0 0

/-! ## The reset record (R380, R381) -/

/-- The fields of a record that its decision or its closing run settles. -/
structure RecordHead where
  cause : Cause
  detail : Nat
  mask : BitVec 16
  decision : Word64
  holdoff : Nat
  held : Nat
  stage : Nat
  power : Nat
  halted : Bool
  discarded : Bool
  pc : Word
  deriving DecidableEq, Repr

/-- `CAP_CNT`: the capture-counter value most recently consumed; the resume less one from boot stage 0x01 on, 0 before
(R74, R278). -/
def State.lastConsumed (s : State) : Word64 :=
  match s.ets.consumed with
  | some c => c
  | none => if s.pwr.bootStage = 0 then 0 else s.ets.counter - 1

/-- Check-ins of a slot in its window. -/
def Wdg.checkinsOf (w : Wdg) (k : Nat) : Nat := ((spFind k w.slots).map WdgSlot.checkins).getD 0

/-- The 128 bytes of a record. -/
def State.recordBytes (s : State) (h : RecordHead) : Bytes :=
  let b := leBytes 4 s.rst.retained.recordSeq.toNat ++ leBytes 1 h.cause.code ++ leBytes 1 h.detail ++ leBytes 2 h.mask.toNat ++
    leBytes 8 h.decision.toNat ++ leBytes 8 s.now.toNat ++ leBytes 4 h.holdoff ++ leBytes 1 h.held ++ leBytes 1 h.stage ++
    leBytes 1 h.power ++ leBytes 1 (boolNat s.fus.debug + 2 * boolNat h.halted + 4 * boolNat h.discarded) ++
    leBytes 8 s.lastConsumed.toNat ++ leBytes 4 s.led.nextSeq.toNat ++ leBytes 4 s.fw.version.toNat ++
    (List.range 16).flatMap (fun k => leBytes 1 (min 255 (s.wdg.checkinsOf k))) ++ leBytes 8 s.wdg.tripped.toNat ++
    leBytes 4 h.pc.toNat ++ zeros 48
  b ++ leBytes 4 (crc32 b).toNat

/-- Address of record `n` (R381). -/
def recordAddr (n : Nat) : Nat := 0x1D03000 + 128 * (n % 256)

/-- A record written into the ring. -/
def State.writeRecord (s : State) (h : RecordHead) : State :=
  { s with
    nvs := { s.nvs with mem := nvWrite s.nvs.mem (recordAddr s.rst.retained.recordSeq.toNat) (s.recordBytes h) }
    rst := s.rst.retain fun t => { t with recordSeq := t.recordSeq + 1, records := min 256 (t.records + 1) } }

/-- Longest hold-off of what a reset is held for, in ticks: 4 µs, 140 µs, 1.2 ms (R377). -/
def holdoffBound (held : Nat) : Nat := if held.testBit 2 then 150000 else if held.testBit 1 then 17500 else 500

/-- The end of the hold-off: of the last of what the reset was held for, or of its longest time, where that is wedged. -/
def Decided.endBy (d : Decided) (tick : Nat) : Option Nat :=
  match d.ended with
  | some t => some t
  | none => if d.tick + holdoffBound d.held ≤ tick then some (d.tick + holdoffBound d.held) else none

/-- The hold-off, in µs: from the decision to the end of what it was held for. -/
def Decided.holdoff (d : Decided) : Nat := (d.ended.getD d.tick - d.tick) / 125

/-- The record of a decided reset. -/
def Decided.head (d : Decided) : RecordHead :=
  { cause := d.cause, detail := d.detail
    mask := if d.cause != .wdogTask then 0 else if d.detail = 2 then d.strict else d.mask
    decision := d.time, holdoff := d.holdoff, held := d.held, stage := d.stage, power := d.power, halted := d.halted
    discarded := false, pc := d.pc }

/-- The record written, the last mask or monitor kept (R383), and the device reset. -/
def State.carryOut (s : State) (d : Decided) : State :=
  let missing := if d.cause = .wdogTask then d.mask else 0
  let s1 := s.writeRecord d.head
  let s2 := { s1 with rst := s1.rst.retain fun t => { t with
    missingLast := if d.cause = Cause.wdogTask then missing else t.missingLast
    monitorLast := if d.cause = Cause.wdogProgress then d.detail else t.monitorLast
    holdoffMax := if t.holdoffMax.toNat < d.holdoff then BitVec.ofNat 32 d.holdoff else t.holdoffMax } }
  s2.resetDevice d.cause missing true

def execResetExecute (s : State) : Result :=
  .next (match s.rst.decided with
    | some d => if (d.endBy s.clk.ticks).isSome && !s.closing then s.carryOut { d with ended := d.endBy s.clk.ticks } else s
    | none => s)

/-! ## The task watchdog (R369 to R373) -/

/-- The CTL core runs code: it is powered outside STANDBY, and no debugger holds it. -/
def State.coreRuns (s : State) : Bool :=
  s.pwr.released && s.powered 42 && s.pwr.state != .standby && !s.closing && !s.wdg.halted

/-- A watchdog write that SUP ignores (R370). -/
def State.ignoreWdg (s : State) : State := { s with wdg := { s.wdg with ignored := bump 255 s.wdg.ignored } }

/-- A slot registered with a window in µs. -/
def State.register (s : State) (slot : Nat) (strict : Bool) (us : Nat) : State :=
  let w : WdgSlot := { strict := strict, window := 125 * us, remaining := 125 * us, checkins := 0 }
  { s with wdg := { s.wdg with slots := spPut slot w s.wdg.slots } }

/-- A write of `WDG_REGISTER`: each slot is registered at most once (R370). -/
def State.writeWdgRegister (s : State) (v : Nat) : State :=
  if (spFind (v % 16) s.wdg.slots).isSome || v / 256 < 1000 || 10000000 < v / 256 then s.ignoreWdg
  else s.register (v % 16) (v.testBit 4) (v / 256)

def execWdgRegister (value : Word) (s : State) : Result :=
  .next (if s.coreRuns then (s.progress [60]).writeWdgRegister value.toNat else s)

/-- A check-in of a registered slot (R371): the second in a window is reported, and decides a reset where the slot is
strict. -/
def State.checkIn (s : State) (slot : Nat) (w : WdgSlot) : State :=
  let s1 := { s with wdg := { s.wdg with
    slots := spPut slot { w with checkins := w.checkins + 1 } s.wdg.slots
    doubles := if w.checkins = 0 then s.wdg.doubles else s.wdg.doubles + 1 } }
  if w.checkins != 1 then s1
  else
    let s2 := s1.raise 0x0B s.now (leBytes 1 slot ++ leBytes 1 (boolNat w.strict) ++ zeros 2 ++ leBytes 4 2)
    if w.strict then s2.decideWith .wdogTask 2 0 (BitVec.ofNat 16 (2 ^ slot)) else s2

/-- A write of `WDG_CHECKIN`. -/
def State.writeWdgCheckin (s : State) (v : Nat) : State :=
  match spFind (v % 16) s.wdg.slots with
  | some w => s.checkIn (v % 16) w
  | none => s.ignoreWdg

def execWdgCheckin (value : Word) (s : State) : Result :=
  .next (if s.coreRuns then (s.progress [60]).writeWdgCheckin value.toNat else s)

/-- `WDG_STATUS` and `WDG_STRICT` (R369). -/
def State.wdgStatus (s : State) : Word :=
  BitVec.ofNat 32 (maskOf ((List.range 16).map fun k => (spFind k s.wdg.slots).isSome) + 65536 * s.wdg.ignored +
    2 ^ 24 * boolNat s.rst.decided.isSome)
def State.wdgStrict (s : State) : Word :=
  BitVec.ofNat 32 (maskOf ((List.range 16).map fun k => (spFind k s.wdg.slots).any WdgSlot.strict))

/-- What the end of a window without a check-in brings: its slot is missing (R371, R372). -/
def State.windowExpired (s : State) (slot : Nat) (w : WdgSlot) : State :=
  let s1 := s.decideWith .wdogTask 1 (BitVec.ofNat 16 (2 ^ slot)) 0
  { s1 with wdg := { s1.wdg with slots := spPut slot { w with expired := false } s1.wdg.slots } }

def execWdgWindowExpiry (slot : Nat) (s : State) : Result :=
  .next (match spFind slot s.wdg.slots with
    | some w => if w.expired then s.windowExpired slot w else s
    | none => s)

/-! ## Trips (R376) -/

/-- The engines a seal fault stops: the one, or the eight of its group. -/
def stoppedEngines (m : Nat) : List Nat :=
  if 10 ≤ m && m < 42 then [m - 10] else if 6 ≤ m && m < 10 then (List.range 8).map (8 * (m - 6) + ·) else []

/-- The hash group `EV_SEAL_FAULT` names. -/
def faultGroup (m : Nat) : Nat := if m < 10 then m - 6 else if m < 42 then (m - 10) / 8 else 0xFF

/-- Engines stopped. -/
def State.stopEngines (s : State) (l : List Nat) : State :=
  { s with sea := { s.sea with
      engines := l.foldl (fun m e => spSet {} e { spGet {} e m with stopped := true } m) s.sea.engines, wedged := true } }

/-- A seal fault (R376): outside a closing run it decides a reset 200 µs later. -/
def State.sealFault (s : State) (m : Nat) : State :=
  let s1 := (s.stopEngines (stoppedEngines m)).raise 0x12 s.now (leBytes 1 m ++ leBytes 1 (faultGroup m))
  if s.closing then s1.wedgeRun
  else if s1.rst.sealFaultAt.isSome then s1
  else { s1 with rst := { s1.rst with sealFaultAt := some (s.clk.ticks + 25000, m) } }

/-- A trip of monitor 44 to 46 in a closing run ends its commits; the run goes on without them. -/
def State.endCommits (s : State) : State :=
  let s1 := { s with wdg := { s.wdg with nvsStopped := true }, nvs := { s.nvs with queue := [] } }.onRun fun r =>
    { r with commits := false }
  match s1.pwr.run with
  | some r => if r.phase = .committing then s1.commitsEnd else s1
  | none => s1

/-- A trip of a monitor. -/
def State.trip (s : State) (m : Nat) : State :=
  let s1 := { s with wdg := { s.wdg with
    tripped := s.wdg.tripped ||| BitVec.ofNat 64 (2 ^ m), counts := spErase m s.wdg.counts } }
  if 6 ≤ m && m < 44 then s1.sealFault m
  else if s.closing then s1.endCommits
  else s1.decideWith .wdogProgress m 0 0

def execSealFaultResetDelay (s : State) : Result :=
  .next (match s.rst.sealFaultAt with
    | some (t, m) =>
      if t ≤ s.clk.ticks && !s.closing then { s with rst := { s.rst with sealFaultAt := none } }.decideWith .wdogProgress m 0 0
      else s
    | none => s)

end Sys2Proof.Machine
end

