-- ==== Sys2Proof/Machine/Power.lean ====
section
/-! DEFINITION. Power events (08): the power-on reset, the triggers of a closing run, the later steps of a run, OFF_HOLD, STANDBY
and the ends of power-ups. -/

namespace Sys2Proof.Machine

/-! ## Power-on reset (R189, R190) -/

/-- How an OTP item reads from now on. -/
def Fus.putReads (f : Fus) (i : OtpItem) (r : OtpReads) : Fus :=
  match i with
  | .word w => { f with words := spSet blankReads w r f.words }
  | .unit u => { f with units := spSet blankReads u r f.units }

/-- Do the cells read lie between `lo` and `hi`? -/
def cellsBetween (lo x hi : Nat) : Bool := lo &&& x = lo && x ||| hi = hi

/-- How the array reads an item now. -/
def Fus.rawReads (f : Fus) (i : OtpItem) : OtpReads :=
  match i with
  | .word w => spGet blankReads w f.words
  | .unit u => spGet blankReads u f.units

/-- Reads that pulses over `cells` can leave of an item that read as `old`: a cell programs from 0 to 1 only. -/
def readsGrow (cells : Nat) (old new : OtpReads) : Bool :=
  cellsBetween old.normal new.normal (old.normal ||| cells) && cellsBetween old.low new.low (old.low ||| cells) &&
    cellsBetween old.high new.high (old.high ||| cells)

/-- A word's cells are programmed in ascending order (R336): at the normal reference those below cell `k` are done and those above
it untouched, and the other reads may lag. -/
def prefixReads (cells k : Nat) (old new : OtpReads) : Bool :=
  let begun := cells &&& (2 ^ (k + 1) - 1)
  readsGrow begun old new && cellsBetween (old.normal ||| (cells &&& (2 ^ k - 1))) new.normal (old.normal ||| begun)

/-- A torn item of blank cells (R349): a word reads TORN, or as another codeword than the one meant (R338), a unit WEAK. -/
def tornReads (t : OtpTask) (new : OtpReads) : Bool :=
  match t.item with
  | .word _ =>
    let x := resolveWord new.normal
    t.cells = 0 || x.1 = .torn || (x.1 = .valid && x.2 != wordData t.cells)
  | .unit _ => weakUnit new

/-- The cells a power loss can have programmed of an item. -/
def tornCells (t : OtpTask) (old new : OtpReads) : Bool :=
  match t.item with
  | .word _ => (List.range 39).any fun k => prefixReads t.cells k old new
  | .unit _ => readsGrow t.cells old new

/-- The reads a power loss can leave of the item being programmed. One that held cells already, as a reinforced item does, keeps
them. -/
def Fus.tears (f : Fus) (t : OtpTask) (new : OtpReads) : Bool :=
  let old := f.rawReads t.item
  tornCells t old new && (old.normal != 0 || tornReads t new)

/-- The item being programmed is torn: its cells read as given (R349). -/
def State.tearOtp (s : State) (torn : OtpReads) : State :=
  match s.fus.tasks with
  | t :: _ => { s with fus := { s.fus.putReads t.item torn with cut := true } }
  | [] => s

/-- The reads given are ones the power loss can leave. -/
def State.tearFits (s : State) (torn : OtpReads) : Bool := s.fus.tasks.head?.all fun t => s.fus.tears t torn

/-- SUP releases the power-on reset. -/
def State.releasePor (s : State) : State :=
  { s.releaseBoot with clk := { s.clk with refclk := true }, pwr := { s.releaseBoot.pwr with drooped := false, padsOff := false } }

/-- Every monitored rail above its threshold, PFAIL_N high and RST_N high for 1 ms continuously (R189 step 4). -/
def State.steady (s : State) : Bool :=
  !s.pwr.pfailLow && s.pad.rstN && s.pwr.goodSince + 125000 ≤ s.clk.ticks && s.pwr.rstSince + 125000 ≤ s.clk.ticks

def execResetRelease (s : State) : Result :=
  .next (if !s.pwr.released && s.rst.cause = .por && s.steady then s.releasePor else s)

/-! ## Triggers of a closing run (R197) -/

/-- OFF_HOLD. -/
def State.offHold (s : State) : Bool := s.pwr.state = .offHold

/-- The run in progress changed by `f`, or a run with trigger `t` started where one can start. -/
def State.trigger (s : State) (t : Nat) : State :=
  if !s.pwr.released || s.closing || s.offHold then s else s.beginRun t

/-- PFAIL_N falls: the converter's priority trigger at once (R412). -/
def State.pfailDown (s : State) : State :=
  { s with pwr := { s.pwr with pfailLow := true, pfailSince := s.clk.ticks, pfailRecognised := false } }.prioTrigger 1

def execPfailFall (s : State) : Result := .next (if s.pwr.pfailLow then s else s.pfailDown)

/-- PFAIL_N rises: a low pulse shorter than 2.0 µs is counted. -/
def State.pfailUp (s : State) : State :=
  let glitch := s.clk.ticks < s.pwr.pfailSince + 250 && !s.pwr.pfailRecognised
  { s with pwr := { s.pwr with
      pfailLow := false, pfailRecognised := false, goodSince := s.clk.ticks
      pfailGlitches := if glitch then s.pwr.pfailGlitches + 1 else s.pwr.pfailGlitches } }

def execPfailRise (s : State) : Result := .next (if s.pwr.pfailLow then s.pfailUp else s)

/-- PFAIL_N has been low for 2.0 µs. -/
def State.pfailDue (s : State) : Bool :=
  s.pwr.pfailLow && !s.pwr.pfailRecognised && s.pwr.pfailSince + 250 ≤ s.clk.ticks

def execPfailRecognition (s : State) : Result :=
  .next (if s.pfailDue then { s with pwr := { s.pwr with pfailRecognised := true } }.trigger 1 else s)

/-- A droop: the rails that fired are latched (R197). -/
def State.droop (s : State) (rails : BitVec 4) : State :=
  ({ s with pwr := { s.pwr.retain (fun t => { t with droopLast := rails.toNat }) with
    drooped := true, goodSince := s.clk.ticks } }.prioTrigger 0).trigger 2

def execDroopDetect (rails : BitVec 4) (s : State) : Result := .next (if rails = 0 then s else s.droop rails)

/-- A comparator reads above 130 °C (R205). In a run or in OFF_HOLD it only asks for cooling. -/
def State.thermal (s : State) : State :=
  let s1 := { s with pwr := { s.pwr.retain (fun t => { t with thermalTrips := t.thermalTrips + 1 }) with hot := true } }
  if s1.closing then s1.onRun fun r => { r with cooling := true }
  else { s1 with pwr := { s1.pwr with hold := s1.pwr.hold.map fun (h : Hold) => { h with cooling := true } } }.trigger 4

def execThermalTrip (s : State) : Result := .next s.thermal

/-! ## OFF_HOLD (R204, R205) -/

/-- OFF_HOLD ends in a reset. -/
def State.leaveHold (s : State) (h : Hold) : State :=
  s.resetDevice (if h.trigger = 4 then .thermal else .umber) 0 h.recorded

/-- PFAIL_N and the rails have been good for `POWER.PFAIL_RELEASE`. -/
def State.railsGood (s : State) : Bool := !s.pwr.pfailLow && s.pwr.goodSince + 125000 * s.stored 0x0802 ≤ s.clk.ticks

def execOffHoldRelease (s : State) : Result :=
  .next (match s.pwr.hold with
    | some h =>
      if (h.trigger = 1 || h.trigger = 2) && !h.cooling && s.railsGood then
        { s with pwr := { s.pwr with drooped := false, padsOff := false } }.leaveHold h
      else s
    | none => s)

/-- Every comparator has read below 105 °C for 1 s. -/
def State.cooled (s : State) : State :=
  let s1 := { s with pwr := { s.pwr with hot := false } }
  match s1.pwr.hold with
  | none => s1
  | some h =>
    if h.trigger = 4 || h.asked then s1.leaveHold h
    else { s1 with pwr := { s1.pwr with hold := some { h with cooling := false } } }

/-- A comparator is hot, or OFF_HOLD waits for the comparators. -/
def State.coolingAwaited (s : State) : Bool := s.pwr.hot || s.pwr.hold.any fun h => h.trigger = 4 || h.cooling

def execThermalRelease (s : State) : Result := .next (if s.coolingAwaited then s.cooled else s)

/-- A reset asked for by RST_N or `SUP_RESET`: acted on at the end of a closing run (R197), in OFF_HOLD by R204 and R205, else
decided. -/
def State.askReset (s : State) (cause : Cause) : State :=
  if s.closing then s.onRun fun r => { r with resetAsked := true }
  else match s.pwr.hold with
    | some h =>
      if h.trigger = 4 then s
      else if h.cooling then { s with pwr := { s.pwr with hold := some { h with asked := true } } }
      else s.leaveHold h
    | none => s.decideReset cause

/-- The row is a low pulse that has lasted 1 µs, which SUP recognises (R432); a shorter one has no row. -/
def execRstNAssert (s : State) : Result :=
  .next (if s.pad.rstN then { s with pad := { s.pad with rstN := false } }.askReset .pin else s)

/-- RST_N rises, which shows that VDDIO is in range (R429: until then the system holds each input low): the TAP instruction becomes IDCODE (R446), and a reset held by RST_N is released (R432). -/
def State.rstNUp (s : State) : State :=
  let s1 := { s with
    pad := { s.pad with rstN := true }
    pwr := { s.pwr with rstSince := s.clk.ticks, padsOff := false }
    tap := { s.tap with ir := 2 } }
  if !s1.pwr.released && s1.rst.cause != .por then s1.releaseBoot else s1

def execRstNRelease (s : State) : Result := .next (if s.pad.rstN then s else s.rstNUp)

/-! ## STANDBY (R191, R192) -/

/-- Every domain but `PD_PLL_TIME` is removed; CTL's memory is retained. -/
def State.enterStandby (s : State) : State :=
  let s1 := (s.dropPins.dropHkc).linkOff 8
  let s2 := s1.domainsOff ((List.range 56).filter (· != 49))
  { s2 with
    ctl := { s2.ctl with ready := false }
    pix := { s2.pix with quadReady := 0, segReady := 0 }
    pwr := { s2.pwr with
      state := .standby, standbyWanted := false, standbyEntries := s2.pwr.standbyEntries + 1
      wakeSource := s.stored 0x0803, wakePin := s.stored 0x0804, wakeTime := BitVec.ofNat 64 (s.stored 0x0805) } }

/-- No signing job waits that can still run (R150, R335). -/
def State.signingEnded (s : State) : Bool :=
  !(s.signs && s.derives) || (s.sea.prompt.isEmpty && s.sea.resign.isEmpty)

/-- The work of the domains that STANDBY removes has ended (R194): every capture is read out (R24, R44, R109), every signing job is
done, every commit is made, and no block operation or OTP write runs. -/
def State.workEnded (s : State) : Bool :=
  s.datapathEmpty && s.signingEnded && s.nvs.queue.isEmpty && s.nvs.blocks.isEmpty && s.fus.tasks.isEmpty

/-- SUP may remove the domains: their work has ended, and no reset is decided. Messages taken until then are served, a view start
included (DESIGN CHOICE, log 86: R192 is silent). -/
def State.standbyDue (s : State) : Bool :=
  s.pwr.standbyWanted && s.pwr.state = .active && s.workEnded && s.rst.decided.isNone

def execStandbyEntry (s : State) : Result := .next (if s.standbyDue then s.enterStandby else s)

/-- The wake source is enabled, and its time has come. -/
def State.wakes (s : State) : WakeSource → Bool
  | .csFall => true
  | .wakePin pin falling => s.pwr.wakeSource.testBit 1 && pin = s.pwr.wakePin % 16 && falling = s.pwr.wakePin.testBit 4
  | .wakeTime => s.pwr.wakeSource.testBit 2 && s.pwr.wakeTime.toNat ≤ s.now.toNat

/-- The domains of ACTIVE come back, that of the return lane among them where the link is enabled; the lanes by a retrain (R225). -/
def State.wakeUp (s : State) : State :=
  let s1 := { s with pwr := { s.pwr with state := .active }, lnk := { s.lnk with wakeUp := s.stored 0x1C00 = 1 } }
  let s2 := (s1.domainsOn ([41, 42, 53, 55] ++ (if s.fus.debug then [54] else []) ++
    if s.stored 0x1C00 = 1 then [47, 50] else [])).powerHkc false
  s2.powerPins.syncPulse.startBringUp.supply

def execWake (source : WakeSource) (s : State) : Result :=
  .next (if s.pwr.state = .standby && s.wakes source then s.wakeUp else s)

/-! ## Power-ups end (R193) -/

/-- CTL is up again after STANDBY: the mailbox answers. -/
def State.ctlBack (s : State) : State := { s with ctl := { s.ctl with ready := true } }.setIrq 4

/-- What the end of a domain's power-up lets go on. -/
def State.domainUp (s : State) (i : Nat) : State :=
  let s1 := s.upDone [i]
  let s2 := if i = 49 then { s1 with clk := { s1.clk with pllLocked := s1.clk.refclk } } else s1
  let s3 := if i = 42 && s2.pwr.state = .active && !s2.ctl.ready then s2.ctlBack else s2
  (if i = 47 || i = 48 || i = 50 then s3.afterAcquire else s3).completeStarts

def execDomainPowerUpDone (domain : Nat) (s : State) : Result :=
  .next (if s.powered domain && s.pwr.poweringUp.contains domain then s.domainUp domain else s)

/-! ## The later steps of a closing run (R199 to R204) -/

/-- No packet waits on the link. -/
def State.queuesEmpty (s : State) : Bool :=
  s.lnk.control.isEmpty && s.lnk.sealQ.isEmpty && s.lnk.data.isEmpty && s.lnk.resend.isEmpty && s.lnk.train.isEmpty &&
    s.lnk.framer.inFlight.isEmpty

/-- Step 10 may end: every packet is sent, or 1.0 ms after step 6, or t0 + 1.45 ms. -/
def State.lanesDue (s : State) (r : Run) : Bool :=
  (r.phase = .sending && (s.queuesEmpty || s.lnk.state != .up)) ||
    (r.phase != .draining && r.quietTick + 125000 ≤ s.clk.ticks) || r.t0Tick + 181250 ≤ s.clk.ticks

/-- The lanes, lane PLL and PD_LINK removed; packets still queued are lost. -/
def State.removeLanes (s : State) : State :=
  let s1 := s.linkOff 8
  { s1 with lnk := { s1.lnk with control := [], sealQ := [], data := [], resend := [], train := [], framer := {} } }

def execUmberLaneRemoval (s : State) : Result :=
  .next (match s.pwr.run with
    | some r => if s.powered 50 && s.lanesDue r then s.removeLanes else s
    | none => s)

/-- Step 6 has not finished at its bound: SEA is treated as wedged, and what the datapath holds is lost (R202). -/
def State.wedge (s : State) : State :=
  let s1 := (List.range 32).foldl (fun s v => s.onView v fun x => { x with current := [] }) s
  let s2 := { s1 with
    sea := { s1.sea with wedged := true }
    ets := { s1.ets with captures := [] }
    pdp := { s1.pdp with waiting := [], jobs := [] } }
  s2.dropImaging.goQuiet.umberAdvance

/-- The bound of step 6. -/
def Run.quietBound (r : Run) : Nat := r.t0Tick + if r.kept then 137500 else 50000

def execDatapathQuietBound (s : State) : Result :=
  .next (match s.pwr.run with
    | some r => if r.phase = .draining && r.quietBound ≤ s.clk.ticks then s.wedge else s
    | none => s)

/-- The run can end: its commits and lanes are done, or t0 + 1.5 ms; nothing is being written, but for a block operation that a
trip of monitor 45 ended the run's commits over (R376). -/
def State.runEnds (s : State) (r : Run) : Bool :=
  (s.nvs.blocks.isEmpty || s.wdg.nvsStopped) && s.fus.tasks.isEmpty &&
    ((r.phase = .sending && !s.powered 50) ||
     (r.t0Tick + 187500 ≤ s.clk.ticks && (r.phase = .sending || (r.phase = .committing && s.nvs.held))))

/-- The reset record of a run (R381); one that commits no entry for want of a ledger or a BOOT entry writes none (R198). -/
def State.runRecord (s : State) (r : Run) : State :=
  if !(s.pwr.bootEntryDone && s.ledgerRuns) then s
  else s.writeRecord {
    cause := if r.trigger = 4 then .thermal else .umber
    detail := r.discardedReset.getD 0, mask := 0, decision := r.t0, holdoff := 0, held := 0
    stage := s.pwr.bootStage, power := 3, halted := s.haltSeen, discarded := r.discardedReset.isSome, pc := Config.ctlWord s.free }

/-- The reset at the end of a run, where R204 gives one at once; `rails`: after a droop, they have been above their thresholds
long enough. -/
def State.resetAtEnd (s : State) (r : Run) (rails : Bool) : Bool :=
  !r.cooling && ((r.resetAsked && r.trigger != 4) ||
    ((r.trigger = 1 || r.trigger = 2) && (!s.pwr.drooped || rails) && s.railsGood))

/-- OFF_HOLD entered. -/
def State.enterHold (s : State) (h : Hold) : State :=
  let s1 := s.domainsOff ((List.range 56).filter (· != 49))
  { s1 with
    pwr := { s1.pwr with state := .offHold, run := none, hold := some h }
    rst := { s1.rst with decided := none, sealFaultAt := none, after := none }
    nvs := { s1.nvs with queue := [] }
    hkc := s1.hkc.down
    lnk := { s1.lnk with closing := false } }

/-- The run ends: the record, the run's length, then the reset or OFF_HOLD (R204). After a droop, whether the rails have come back in
time is a free value (log 29). -/
def State.endRun (s : State) (r : Run) : State :=
  let rails := Config.railsBack s.free
  let s1 := { s.removeLanes.runRecord r with free := s.free + 1 }
  let s2 := { s1 with pwr := s1.pwr.retain fun t => { t with lastRunTime := BitVec.ofNat 32 ((s.clk.ticks - r.t0Tick) / 125) } }
  let h : Hold := ⟨r.trigger, r.cooling, r.resetAsked, s.pwr.bootEntryDone && s.ledgerRuns⟩
  if s2.resetAtEnd r rails then { s2 with pwr := { s2.pwr with drooped := s2.pwr.drooped && !rails, padsOff := s2.pwr.padsOff && !rails } }.leaveHold h else s2.enterHold h

def execClosingRunEnd (s : State) : Result :=
  .next (match s.pwr.run with
    | some r => if s.runEnds r then s.endRun r else s
    | none => s)

end Sys2Proof.Machine
end

