-- ==== Sys2Proof/Machine/Boot.lean ====
section
/-! DEFINITION. The boot (15): the stages of R351, with the recovery of the ledger (R174), a pending epoch transition (R180) and the
BOOT entry (R170). -/

namespace Sys2Proof.Machine

/-! ## Stage 0x01: the journal and the ledger (R184, R174) -/

/-- What NVS has lost since it was written. -/
def State.decayed (s : State) (env : BootEnv) : State :=
  env.failed.foldl (fun s x => s.onRecord Copies.lost x) { s with nvs := { s.nvs with mem := nvCells s.nvs.mem env.decay } }

/-- The journal resolved: an interrupted operation leaves its destination as it was. -/
def State.resolveJournal (s : State) : State :=
  let j := s.nvs.journal
  let n := { s.nvs with mem := if j.state = Journal.apply then nvCopy s.nvs.mem shadowAddr j.dest else s.nvs.mem }
  if j.state = .idle then s
  else { s with
    nvs := (n.putJournal { j with state := .idle }).retain fun t => { t with rollbacks := t.rollbacks + 1 }
    pwr := { s.pwr with bootFlags := s.pwr.bootFlags ||| 4 } }

/-- An anchor copy: its last sequence, where it is valid. -/
def State.anchorCopy (s : State) (k : Nat) : Option Bytes :=
  let a := nvBytes s.nvs.mem (0x1D00000 + 0x100 * k) 148
  if leAt 144 4 a = (crc32 (a.take 144)).toNat then some a else none

/-- The anchor in force: the newer valid copy, in modulo-2^32 order. -/
def State.anchor (s : State) : Option Bytes :=
  match s.anchorCopy 0, s.anchorCopy 1 with
  | some a, some b => if (BitVec.ofNat 32 (leAt 0 4 b) - BitVec.ofNat 32 (leAt 0 4 a)).toNat < 2 ^ 31 then some b else some a
  | some a, none => some a
  | none, b => b

/-- The ledger an anchor describes. -/
def anchorLed (a : Bytes) : Led :=
  { ready := true, nextSeq := BitVec.ofNat 32 (leAt 0 4 a + 1), epoch := leAt 4 4 a, present := leAt 8 4 a
    lastHead := slice 16 64 a, floorHead := slice 80 64 a }

/-- The entry kind of a code (R168). -/
def kindOf (code : Nat) : Option Kind :=
  [Kind.seg, .boot, .config, .time, .debug, .close, .epoch, .role, .fw].find? fun k => k.code = code

/-- The entry after the anchor, written without its anchor, is adopted: its anchor is written (step 2). -/
def State.adopt (s : State) : State :=
  let q := s.led.nextSeq
  let e := s.entryAt q
  let floor := ((s.nvs.staged q).bind Staging.displaced).getD s.led.floorHead
  let l := s.ledWith (slice 40 64 e) floor
  let n := (kindOf (leAt 0 1 e)).elim s.overwritten s.overwritten.counted
  { s with
    nvs := { n with mem := nvWrite n.mem (anchorAddr q) l.anchor }
    led := l
    pwr := { s.pwr with adopted := some q, bootFlags := s.pwr.bootFlags ||| 2 } }

/-- The slot after the last entry holds bytes that are neither 0 nor an entry with a valid CRC (step 3). -/
def State.torn (s : State) : Bool :=
  let e := s.entryAt s.led.nextSeq
  !allZero e && !entryValid e

/-- The slots that hold some byte other than 0. -/
def usedSlots (m : List Host.Cell) : List Nat := (m.filterMap fun c => if c.1 < 128 * slots then some (c.1 / 128) else none).eraseDups

/-- The sequence of the valid entry in a slot. -/
def State.slotSeq (s : State) (k : Nat) : Option Word :=
  let q := BitVec.ofNat 32 (leAt 4 4 (nvBytes s.nvs.mem (128 * k) 128))
  if holdsEntry s.nvs.mem q && q.toNat % slots = k then some q else none

/-- The valid entry whose following slot does not hold the next one (step 4). -/
def State.lastScanned (s : State) : Option Word :=
  ((usedSlots s.nvs.mem).filterMap s.slotSeq).find? fun q => !holdsEntry s.nvs.mem (q + 1)

/-- How many entries stand in a row down to sequence `q`. -/
def rowLength (m : List Host.Cell) : Nat → Word → Nat
  | 0, _ => 0
  | f + 1, q => if holdsEntry m q then rowLength m f (q - 1) + 1 else 0

/-- What FUS latches of the array: life-cycle and identity bank come into force (R340). -/
def Fus.booted (f : Fus) : Fus :=
  let f := f.latched
  { f with lifecycle := f.lcSteps, bank := f.idBank, weak := f.weakCount }

/-- An empty ledger: its heads follow at stage 0x03. -/
def State.emptyLed (s : State) : Led := { ready := true, epoch := s.fus.booted.epochSteps }

/-- The head before the first entry of an empty ledger is the genesis head of the epoch (R146), made once FUS has programmed the
retirement units, since it reads the identity group (R335). The last head of an epoch whose entries are gone is not held, and 0
stands for it. -/
def State.genesis (s : State) : State :=
  if s.led.present != 0 then s
  else
    let g := genesisHead s.fus.deviceId s.led.epoch (zeros 64)
    { s with led := { s.led with lastHead := g, floorHead := g } }

/-- The ledger rebuilt from a scan. Present are the valid entries in an unbroken row down from the last one (DESIGN CHOICE, log 84: R174
gives no count). -/
def State.scannedLed (s : State) (q : Word) : Led :=
  { ready := true, nextSeq := q + 1, present := rowLength s.nvs.mem (min slots (usedSlots s.nvs.mem).length) q
    epoch := s.fus.booted.epochSteps, lastHead := slice 40 64 (s.entryAt q), floorHead := ones 64 }

/-- Invalid CRCs found (R186): those of entries that recovery meets, a torn one in the next slot and those of a scan; not an old entry
that a commit displaces, an anchor, a staging buffer or what SUP_TAIL copies (DESIGN CHOICE, log 85). -/
def State.countCrc (s : State) (n : Nat) : State :=
  if n = 0 then s else { s with nvs := s.nvs.retain fun t => { t with crcErrors := t.crcErrors + BitVec.ofNat 32 n } }

/-- A ledger with its anchor: the entry after it is adopted, or what a torn one left is discarded. -/
def State.recoverAnchored (s : State) : State :=
  if holdsEntry s.nvs.mem s.led.nextSeq then s.adopt
  else if s.torn then { s with pwr := { s.pwr with bootFlags := s.pwr.bootFlags ||| 1 } }.countCrc 1
  else s

/-- The slots whose bytes are no valid entry. -/
def State.badSlots (s : State) : Nat :=
  ((usedSlots s.nvs.mem).filter fun k => !entryValid (nvBytes s.nvs.mem (128 * k) 128)).length

/-- R174: the ledger in force, and the boot flags TORN_DISCARDED, ADOPTED and ANCHOR_REBUILT. -/
def State.recoverLedger (s : State) : State :=
  match s.anchor, s.lastScanned with
  | some a, _ => { s with led := anchorLed a }.recoverAnchored
  | none, some q =>
    { s with led := s.scannedLed q, pwr := { s.pwr with bootFlags := s.pwr.bootFlags ||| 64 } }.countCrc s.badSlots
  | none, none => { s with led := s.emptyLed }.countCrc s.badSlots

/-! ## Stage 0x02: the fuse array (R340) -/

/-- An identity seed word (R337). -/
def seedWord (w : Nat) : Bool := within 80 87 w || within 96 103 w

/-- A read as an event's 4-byte field holds it (R302): the 32 data bits of a word, the three cells of a unit. -/
def readField (region cells : Nat) : Nat := if region = 0 then wordData cells else cells % 8

/-- The arguments of `EV_FUS_WEAK` and `EV_FUS_DRIFT` (R302). The reads of a seed word are shown as 0, since the seed never leaves
the key-derivation path (R343; DEDUCED, log 90). -/
def fuseArgs (item region : Nat) (reads : OtpReads) : Bytes :=
  let r : OtpReads := if region = 0 && seedWord item then ⟨0, 0, 0⟩ else reads
  leBytes 2 item ++ leBytes 1 region ++ zeros 1 ++ leBytes 4 (readField region r.normal) ++ leBytes 4 (readField region r.low) ++
    leBytes 4 (readField region r.high)

/-- FUS reads and latches the array. -/
def State.latchFuses (s : State) : State := ({ s with fus := { s.fus.booted with readTick := s.clk.ticks } }).progress [48]

/-- In GRAPHITE a retirement unit that does not read set is programmed (R335). -/
def State.retireUnits (s : State) : State :=
  if s.fus.lifecycle = 3 then
    s.program ([1291, 1292].filterMap fun u => if s.fus.unitSet u then none else some ⟨.unit u, 7, .retire⟩)
  else s

/-- `EV_FUS_WEAK` for every WEAK item. -/
def State.reportWeak (s : State) : State :=
  let s1 := (s.fus.latWords.filter fun x => weakWord x.2).foldl (fun s x => s.raise 0x0C s.now (fuseArgs x.1 0 x.2)) s
  (s1.fus.latUnits.filter fun x => weakUnit x.2).foldl (fun s x => s.raise 0x0C s.now (fuseArgs x.1 1 x.2)) s1

/-! ## Stages 0x04 and 0x05 -/

/-- The self-tests (R155): a failure enters Vermilion. -/
def State.selfTests (s : State) (env : BootEnv) : State :=
  let all := env.engines = 0xFFFFFFFF
  let ok := maskOf [all, env.tree, env.derivation, env.signing]
  let s1 := { s with sea := { s.sea with selfTest := ok, enginePass := env.engines } }
  let s2 := if ok = 15 then s1 else s1.enterVermilion 0
  if s2.fus.bank = 0xFF then s2.enterVermilion 1 else s2

/-- The slots of a role whose stamp is below the role's counter (R332). -/
def staleSlots (c : Nat) (l : Sparse (Copies (Option KeySlot))) : List Nat :=
  l.filterMap fun x => match x.2.get none with
    | some k => if k.stamp < c then some x.1 else none
    | none => none

/-- The role store restored (R327, R332, R350). -/
def State.restoreRoles (s : State) : State :=
  let op := staleSlots s.fus.opRev s.role.operators
  let ins := staleSlots s.fus.inRev s.role.installers
  let failed := (s.role.operators ++ s.role.installers).any (fun x => x.2.failed) || s.role.maker.failed
  { s with role := { s.role with
      staleOps := op, staleIns := ins
      storeState := boolNat (!op.isEmpty) + 2 * boolNat (!ins.isEmpty) + 4 * boolNat failed } }

/-- Persistent parameters restored, and those counted whose two copies fail, `LEDGER.EXPORT_MARK` among them (R311, R186); in recovery mode all read their defaults (R362).
The reserve of the pace verdicts starts at its parameter's value (R19). -/
def State.restoreParams (s : State) : State :=
  if s.pwr.recovery then s
  else
    let s1 := { s with
      par := { s.par with values := s.par.persist.filterMap fun (x : Nat × Copies Nat) => x.2.now.map fun v => (x.1, v) }
      ctl := { s.ctl with
        configRestore := (s.par.persist.filter fun (x : Nat × Copies Nat) => x.2.failed).length + boolNat s.nvs.marks.failed } }
    { s1 with pace := { s1.pace with reserve := s1.stored 0x0811 } }

/-- A load in progress at the reset is INTERRUPTED (R359). -/
def State.checkUpdate (s : State) : State :=
  if s.fw.update = .loading then
    { s with fw := s.fw.putStatus { s.fw.retained with update := .interrupted }, pwr := { s.pwr with bootFlags := s.pwr.bootFlags ||| 8 } }
  else s

/-! ## Stage 0x06: the ledger opens (R180, R170) -/

/-- The transition to complete: LEPOCH has advanced (R180); its genesis head uses the last chain head of the old epoch (log 8). -/
def State.transitionDue (s : State) : Option Transition :=
  (s.nvs.transition.filter fun t => s.fus.epochSteps = t.newEpoch).map fun t =>
    { t with closingHead := if s.led.epoch = t.oldEpoch then s.led.lastHead else t.closingHead }

/-- The ledger cleared for the epoch of a transition (steps 5 and 6 of R179). -/
def State.reopened (s : State) (t : Transition) : State :=
  { s with nvs := { s.nvs with mem := nvClear s.nvs.mem 0 (128 * slots) } }.openLedger t

/-- A pending epoch transition completed or abandoned (R180): the state, and whether it was completed. -/
def State.resolveTransition (s : State) : State × Bool :=
  match s.transitionDue with
  | some t => (((s.reopened t).commitNow t.opening).epochOpened t, true)
  | none => (if s.nvs.transition.isSome then { s with nvs := s.nvs.putTransition none } else s, false)

/-- The BOOT commit. -/
def State.bootCommit (s : State) (flags : Nat) : Commit :=
  let missing := if s.rst.cause = .wdogTask then s.rst.missing.toNat else 0
  { kind := .boot
    subject := subjectHead .boot 64 ++ leBytes 1 s.rst.cause.code ++ leBytes 1 flags ++ leBytes 1 s.fw.slot ++
      leBytes 1 s.fus.lifecycle ++ leBytes 4 s.fw.version.toNat ++ leBytes 2 missing ++ leBytes 2 s.fus.fwarSteps ++ zeros 4 ++
      leBytes 8 s.ets.resume.toNat ++ leBytes 8 s.sea.segNext.toNat ++ zeros 24 }

/-- `EV_UMBER_DONE` for the closing run before this boot. -/
def State.reportRun (s : State) : State :=
  match s.pwr.retained.report with
  | none => s
  | some r =>
    { s with pwr := s.pwr.retain fun t => { t with report := none } }.raise 0x0A r.closeTime
      (leBytes 4 r.closeSeq.toNat ++ leBytes 1 r.trigger ++ leBytes 1 r.flags ++ zeros 2 ++ leBytes 4 r.segEntries ++
        leBytes 4 r.umberGaps ++ leBytes 4 r.uncommitted.toNat)

/-- The SEAL_RECORD and the signing job of an adopted entry, with the subject its staging buffer still holds (R174). -/
def State.sendAdopted (s : State) (q : Word) : State :=
  if s.sea.vermilion != 0 || !s.ledgerRuns then s
  else
    let e := s.entryAt q
    let record := s.lnk.seq
    let h := headerView (leAt 0 1 e) (leAt 1 1 e) (leAt 2 1 e)
    let s1 := { s.pushSeal { kind := 4, view := h.1, gen := h.2, body := e ++ ((s.nvs.staged q).elim [] Staging.subject) } with
                sea := { s.sea with recordsSent := s.sea.recordsSent + 1 } }
    if s.signs then
      s1.pushJob ⟨q, s.led.epoch, leAt 0 1 e, h.1, h.2, 0, slice 40 64 e, some record, false⟩
    else s1

/-- The FW entry of a fall-back (R354). -/
def State.fallBackEntry (s : State) : Commit := fwEntry 2 s.fw.slot s.fw.fwar s.fw.version s.fw.digest

/-- The BOOT entry, the FW entry of a fall-back, and the report of the last closing run. -/
def State.openEntries (s : State) (flags : Nat) : State :=
  let s1 := s.commitNow (s.bootCommit flags)
  let s2 := if s.fw.fellBack then s1.commitNow s.fallBackEntry else s1
  s2.reportRun

/-! ## The boot -/

/-- Stage 0x00 done: the boot domains are up, the counters resume (R74, R142), and the cause is counted (R379). -/
def State.bootPower (s : State) : State :=
  let c := s.rst.cause.code
  let n := s.nvs.retained
  { s.upDone [53, 41, 42, 55] with
    ets := { s.ets with counter := n.capEnd, resume := n.capEnd }
    sea := { s.sea with segNext := n.segEnd }
    rst := s.rst.retain fun t => { t with counts := spSet 0 c (bumpWord (spGet 0 c t.counts)) t.counts } }

/-- Stage 0x05: what is restored and checked. -/
def State.bootRestore (s : State) : State := s.restoreParams.restoreRoles.checkTables.checkUpdate

/-- The flags of the BOOT entry (R170). -/
def State.openFlags (s : State) (completed : Bool) : Nat :=
  s.pwr.bootFlags + 16 * boolNat (s.sea.vermilion != 0) + 32 * boolNat completed

/-- Stage 0x06: an adopted entry is sent, a pending transition ends, and the BOOT entry is committed. -/
def State.bootLedger (s : State) : State :=
  let r := (s.pwr.adopted.elim s s.sendAdopted).resolveTransition
  r.1.openEntries (s.openFlags r.2)

/-- The power state becomes ACTIVE: the domains of ACTIVE, the mailbox, the link; FWAR steps of a confirmed image. -/
def State.bootEnd (s : State) : State :=
  let s1 := { s with
    pwr := { s.pwr with
      state := .active, bootStage := if s.pwr.recovery then 0xFE else 0xFF, bootEntryDone := true, bootTick := s.clk.ticks }
    ctl := { s.ctl with ready := true } }.setIrq 4
  let s2 := (s1.powerHkc true).powerPins.syncPulse.startBringUp.supply.refreshLeads
  if s2.pwr.recovery then s2 else s2.confirmTrial.advanceFwar

/-- What stage `k` does (R351). -/
def State.stageWork (s : State) (env : BootEnv) : Nat → State
  | 0 => s.bootPower
  | 1 => (s.decayed env).resolveJournal.recoverLedger
  | 2 => s.latchFuses.retireUnits.reportWeak
  | 3 => s.genesis.selectSlot
  | 4 => s.selfTests env
  | 5 => s.bootRestore
  | _ => s.bootLedger

/-- At the start of stage 0x03 the boot ROM registers slot 15 with a 1 s window (R370: a slot registered before stays as it is). -/
def State.romWatchdog (s : State) : State := s.writeWdgRegister (256 * 1000000 + 15)

/-- The stage in progress done: the next one begins, and after stage 0x06 the boot is over. -/
def State.bootStageDone (s : State) (env : BootEnv) : State :=
  let k := s.pwr.bootStage
  let s1 := (s.stageWork env k).progress [60]
  if 6 ≤ k then s1.bootEnd
  else
    let s2 := { s1 with pwr := { s1.pwr with bootStage := k + 1 } }
    if k = 2 then s2.romWatchdog else s2

/-- Past stage 0x02 the boot waits until FUS has programmed the retirement units, before anything reads the identity group (R335). -/
def State.retiring (s : State) : Bool := 3 ≤ s.pwr.bootStage && s.fus.tasks.any fun t => t.purpose = .retire

/-- `n` stages done, as far as the boot may go. -/
def State.bootStages (s : State) (env : BootEnv) : Nat → State
  | 0 => s
  | n + 1 => if s.retiring then s else (s.bootStageDone env).bootStages env n

/-- A boot can go on. -/
def State.boots (s : State) : Bool := s.pwr.released && s.pwr.state = .boot && s.rst.decided.isNone && !s.testHeld

/-- TEST_MODE at stage 0x00 (R348): while it holds the device, the boot domains are off; once it lets go, they power up. -/
def State.testLevel (s : State) (high : Bool) : State :=
  if !s.pwr.released || s.pwr.state != .boot || s.pwr.bootStage != 0 then s
  else
    let s1 := { s with pad := { s.pad with testMode := high } }
    if s1.testHeld then s1.holdDomains else s1.domainsOn bootDomains

def execBoot (env : BootEnv) (s : State) : Result :=
  let s := s.testLevel env.testMode
  .next (if s.boots && env.stage < 7 then s.bootStages env (env.stage + 1 - s.pwr.bootStage) else s)

end Sys2Proof.Machine
end

