-- ==== Sys2Proof/Machine/Flags.lean ====
section
/-! DEFINITION. The status words (12): every hardware register of R278 as it reads, computed from the state. -/

namespace Sys2Proof.Machine

/-- A word put together from fields: (lowest bit, value). -/
def fields (l : List (Nat × Nat)) : Word := BitVec.ofNat 32 (l.foldl (fun a x => a + x.2 * 2 ^ x.1) 0)

/-- The trigger of the closing run in progress, or of the run that led to OFF_HOLD (R280). -/
def State.closeTrigger (s : State) : Nat :=
  match s.pwr.run, s.pwr.hold with
  | some r, _ => r.trigger
  | none, some h => h.trigger
  | none, none => 0

/-- The `SEAL.STATE` code as `SUP_STATUS` shows it: its reset value 0 until the boot has latched the fuses (R280). -/
def State.sealShown (s : State) : Nat := if s.pwr.bootStage ≤ 2 then 0 else s.sealState.code

/-- `SUP_STATUS` (R280). -/
def State.supStatus (s : State) : Word :=
  let code := s.sealShown
  fields [(24, if s.pwr.recovery then 0xFE else s.pwr.bootStage),
    (17, code / 4), (16, boolNat (s.lnk.state = .up)), (15, boolNat s.fus.debug),
    (14, boolNat (!s.fus.tasks.isEmpty)), (13, boolNat (!(s.nvs.blocks.isEmpty && s.nvs.queue.isEmpty))),
    (12, boolNat s.rst.decided.isSome), (11, boolNat (s.pwr.pfailLow && s.pwr.pfailRecognised)), (8, s.closeTrigger),
    (7, boolNat s.ctl.ready), (5, code % 4), (3, s.fus.lifecycle), (0, s.pwr.state.code)]

/-- `RESET_CAUSE` (R281). -/
def State.resetCause (s : State) : Word :=
  fields [(16, s.rst.missing.toNat), (4, boolNat s.rst.record), (0, s.rst.cause.code)]

/-- `IRQ_STATUS` (R282): the W1C bits kept, EVENTS and RSP_READY computed. -/
def State.irqWord (s : State) : Word :=
  s.reg.irqStatus ||| fields [(1, boolNat (s.reg.evtWr != s.reg.evtRd)), (0, boolNat s.reg.rspReady)]

/-- HOST_IRQ_N is asserted (R282). -/
def State.hostIrq (s : State) : Bool := s.irqWord &&& s.reg.irqEnable != 0

/-- `PACE_STATUS` and `PACE_MONn` (R283). -/
def State.paceStatus (s : State) : Word :=
  fields [(12, boolNat s.pace.withhold), (8, s.pace.monitor), (0, s.pace.margin)]
def State.paceMon (s : State) (n : Nat) : Word :=
  fields [(16, spGet 200 n s.pace.monMargin), (0, min 65535 (spGet 0 n s.pace.est * 1000 / paceFloor n))]

/-- Codes of R284. -/
def CmdState.code : CmdState → Nat
  | .idle => 0 | .busy => 1 | .done => 2 | .refused => 3
def MailState.code : MailState → Nat
  | .idle => 0 | .posted => 1 | .executing => 2

/-- `SUP_CMD`, `CMD_STATUS` and `RSP_STATUS` (R284). -/
def State.supCmdWord (s : State) : Word :=
  fields [(12, s.reg.supReason), (8, s.reg.supState.code), (0, s.reg.supCode.toNat)]
def State.cmdStatus (s : State) : Word :=
  fields [(16, s.reg.cmdType), (2, boolNat s.reg.cmdIgnored), (0, s.reg.cmdState.code)]
def State.rspStatus (s : State) : Word :=
  fields [(17, boolNat s.reg.rspRedirected), (16, boolNat s.reg.rspReady), (0, s.reg.rspLength)]

/-- The epoch in force, `SEAL.EPOCH` (R160). -/
def State.epochNow (s : State) : Nat := if s.led.ready then s.led.epoch else s.fus.epochSteps

/-- `SNAP_TAGS`, `BULK_STATUS` and `SPI_ERRORS` (R278). -/
def State.snapTags (s : State) : Word :=
  fields [(8, s.reg.hkcTag.toNat), (4, s.reg.capTag.toNat), (0, s.reg.timeTag.toNat)]
def State.bulkStatus (s : State) : Word := fields [(16, boolNat s.reg.bulkFilled), (0, s.reg.bulkValid)]
def State.spiErrors (s : State) : Word :=
  fields [(16, s.reg.spiIgnored), (8, s.reg.spiCut), (0, s.reg.spiRefused)]

/-- The device ID as `DEV_UIDn` shows it; nothing of the identity group before the retirement units are programmed (R335). -/
def State.uid (s : State) (n : Nat) : Word :=
  if s.fus.tasks.any fun t => t.purpose = .retire then 0 else BitVec.ofNat 32 (leAt (4 * n) 4 s.fus.latestId)

/-- Low and high words. -/
def lowWord (v : Word64) : Word := v.setWidth 32
def highWord (v : Word64) : Word := (v >>> 32).setWidth 32

/-- The selected accumulator of R416. -/
def State.hkcAcc (s : State) : HkcAcc := spGet {} s.reg.hkcAccSel s.hkc.acc

/-- A hardware register as it reads (R278), without what the read itself does. -/
def State.regRead (s : State) (a : Nat) : Word :=
  if 0x64 ≤ a && a ≤ 0x88 then s.paceMon ((a - 0x64) / 4)
  else match a with
    | 0x00 => 0x4B430071
    | 0x04 => BitVec.ofNat 32 devRev
    | 0x08 => s.uid 0
    | 0x0C => s.uid 1
    | 0x10 => s.uid 2
    | 0x14 => s.uid 3
    | 0x18 => s.fw.version
    | 0x1C => s.reg.scratch
    | 0x20 => s.supStatus
    | 0x24 => s.resetCause
    | 0x28 => s.supCmdWord
    | 0x2C => s.reg.supArg
    | 0x30 => BitVec.ofNat 32 s.reg.supBuf.length
    | 0x34 => BitVec.ofNat 32 (leAt 0 4 s.reg.supBuf)
    | 0x38 => s.irqWord
    | 0x3C => s.reg.irqEnable
    | 0x40 => lowWord s.now
    | 0x44 => s.reg.timeHi
    | 0x48 => lowWord s.lastConsumed
    | 0x4C => s.reg.capHi
    | 0x50 => BitVec.ofNat 32 s.reg.hkcAccSel
    | 0x54 => BitVec.ofNat 32 s.hkcAcc.sum
    | 0x58 => s.reg.hkcHi
    | 0x5C => s.snapTags
    | 0x60 => s.paceStatus
    | 0x94 => s.cmdStatus
    | 0x98 => s.rspStatus
    | 0xA0 => s.reg.evtWr
    | 0xA4 => s.reg.evtRd
    | 0xA8 => s.reg.evtLost
    | 0xAC => s.bulkStatus
    | 0xB0 => s.spiErrors
    | _ => 0

end Sys2Proof.Machine
end

