-- ==== Sys2Proof/Machine/Operands.lean ====
section
/-! DEFINITION. The operand forms of messages (12): headers, responses, error codes, and the parts of a body. -/

namespace Sys2Proof.Machine

/-! ## Error codes (R299) -/

def errOk : Nat := 0
def errBusy : Nat := 1
def errRole : Nat := 2
def errSig : Nat := 3
def errSeq : Nat := 4
def errStaleGen : Nat := 5
def errRange : Nat := 6
def errState : Nat := 7
def errEngineActive : Nat := 8
def errFusIncomplete : Nat := 9
def errFusLocked : Nat := 10
def errNv : Nat := 11
def errPace : Nat := 12
def errUnknown : Nat := 13

/-! ## Messages (R291 to R293) -/

/-- A message at the head of CTL's order: its bytes, and whether it came in-band. -/
structure Msg where
  bytes : Bytes
  inBand : Bool
  deriving DecidableEq, Repr

/-- The side-band message: as many bytes of the command mailbox as its header counts. -/
def State.sideMessage (s : State) : Msg :=
  ⟨nvBytes s.ctl.cmdBox 0 (max 16 (min 4096 (leNat (nvBytes s.ctl.cmdBox 6 2)))), false⟩

/-- The header fields (R291). -/
def Msg.version (m : Msg) : Nat := leAt 0 2 m.bytes
def Msg.code (m : Msg) : Nat := leAt 2 2 m.bytes
def Msg.tag (m : Msg) : Nat := leAt 4 2 m.bytes
def Msg.length (m : Msg) : Nat := leAt 6 2 m.bytes
def Msg.session (m : Msg) : Nat := leAt 8 4 m.bytes
def Msg.sequence (m : Msg) : Nat := leAt 12 4 m.bytes

/-- The body of an unsigned message, and of a signed one (R293). -/
def Msg.openBody (m : Msg) : Bytes := m.bytes.drop 16
def Msg.signedBody (m : Msg) : Bytes := (m.bytes.drop 16).take (m.bytes.length - 80)

/-- The authority word and the trailer of a signed message (R293). -/
def Msg.role (m : Msg) : Nat := leAt 16 1 m.bytes
def Msg.slot (m : Msg) : Nat := leAt 17 1 m.bytes
def Msg.trailer (m : Msg) : Bytes := m.bytes.drop (m.bytes.length - 64)

/-- A field of the body, from its offset in the body. -/
def Msg.field (m : Msg) (o n : Nat) : Nat := leAt (16 + o) n m.bytes

/-- Bytes of the body, from their offset in the body. -/
def Msg.part (m : Msg) (o n : Nat) : Bytes := slice (16 + o) n m.bytes

/-- Check 1 of R295: the header. -/
def Msg.formed (m : Msg) : Bool :=
  m.version = 1 && m.length = m.bytes.length && 16 ≤ m.bytes.length && m.bytes.length ≤ 4096 && m.code < 32768

/-- Length of the body; none for a signed message too short for its trailer. -/
def Msg.bodyLength (m : Msg) (signed : Bool) : Option Nat :=
  if !signed then some (m.bytes.length - 16)
  else if 80 ≤ m.bytes.length then some (m.bytes.length - 80) else none

/-- The message is a `MSG_SESSION_OPEN` that passes checks 1 to 3. -/
def Msg.opensSession (m : Msg) : Bool := m.formed && m.code = 1 && m.bodyLength false = some 32

/-- The message joins CTL's order (R290); behind a `MSG_SESSION_OPEN`, the signed ones before it are of an old session (R303). -/
def State.arrive (s : State) (i : Inbound) (m : Msg) : State :=
  { s with ctl := { s.ctl with
      inbox := s.ctl.inbox ++ [i], superseded := if m.opensSession then s.ctl.inbox.length else s.ctl.superseded } }

/-- A response (R292): the command's header with the response bit and its own length, status, detail, body. -/
def Msg.response (m : Msg) (status detail : Nat) (body : Bytes) : Bytes :=
  slice 0 2 m.bytes ++ leBytes 2 (m.code % 32768 + 32768) ++ slice 4 2 m.bytes ++ leBytes 2 (24 + body.length) ++
    padTo 8 (slice 8 8 m.bytes) ++ leBytes 4 status ++ leBytes 4 detail ++ body

/-- The authority a signed message carries, for its ledger entry (R170). -/
def Msg.auth (m : Msg) : Auth :=
  { code := m.code, tag := m.tag, session := m.session, sequence := m.sequence, role := m.role, slot := m.slot
    digest := sha512 m.bytes }

end Sys2Proof.Machine
end

