-- ==== Sys2Proof/Machine/Control.lean ====
section
/-! DEFINITION. The side-band port (12): hardware registers, windows, supervisor commands, the event ring and the placing of
responses. SUP serves it in every power state, from the release of reset on. -/

namespace Sys2Proof.Machine

/-- The side-band port answers: SUP is out of reset. -/
def State.spiUp (s : State) : Bool := s.pwr.released

/-- The registers changed by `f`. -/
def State.onReg (s : State) (f : Reg → Reg) : State := { s with reg := f s.reg }

/-- A write ignored and counted in `SPI_ERRORS` [23:16] (R277, R284). -/
def State.countIgnored (s : State) : State := s.onReg fun r => { r with spiIgnored := bump 255 r.spiIgnored }

/-! ## Frames (R273 to R275) -/

/-- The opcodes of R274 and what follows them. -/
inductive SpiOp where
  | write | read | readPort | readStatus
  deriving DecidableEq, Repr

/-- The opcode byte (R274). -/
def spiOpcode (b : Byte) : Option SpiOp :=
  if b = 0x02 then some .write else if b = 0x03 then some .read else if b = 0x0B then some .readPort
  else if b = 0x05 then some .readStatus else none

/-- A frame is refused: another opcode, or an unaligned address where the opcode takes one (R275). -/
def frameRefused (opcode : Byte) (addr : BitVec 16) : Bool :=
  match spiOpcode opcode with
  | none => true
  | some .readStatus => false
  | some _ => addr.toNat % 4 != 0

/-- The address of a frame's data word `i` (R274): READ_PORT stays, the others go on in steps of 4; none past 0xFFFC (R275). -/
def wordAddress (op : SpiOp) (addr : BitVec 16) (i : Nat) : Option Nat :=
  match op with
  | .readPort => some addr.toNat
  | .readStatus => some 0x20
  | _ => if addr.toNat + 4 * i ≤ 0xFFFC then some (addr.toNat + 4 * i) else none

/-- The word driven on CTL_SDO. -/
def State.drive (s : State) (v : Word) : State := s.onReg fun r => { r with sdo := some v }

/-- A frame ignored and counted, CTL_SDO low (R275). -/
def State.refuseFrame (s : State) : State := (s.onReg fun r => { r with spiRefused := bump 255 r.spiRefused }).drive 0

/-- A command to the port, which answers only once SUP is out of reset. -/
def State.onPort (s : State) (f : State → State) : Result := .next (if s.spiUp then f s else s)

/-- The row stands for a frame for which `frameRefused` holds. -/
def execSpiFrameRefused (s : State) : Result := s.onPort (·.refuseFrame)

/-- A word cut short by the rise of CTL_CS_N, which ends the frame: CTL_SDO goes to high impedance (R273, R275). -/
def execWordCutShort (s : State) : Result :=
  s.onPort fun s => s.onReg fun r => { r with spiCut := bump 255 r.spiCut, sdo := none }

def execReadStatus (s : State) : Result := s.onPort fun s => s.drive s.supStatus

/-! ## Windows (R276, R277) -/

/-- A mailbox write or doorbell while `CMD_STATUS` is not IDLE (R284). -/
def State.ignoreMail (s : State) : State := s.countIgnored.onReg fun r => { r with cmdIgnored := true }

/-- A word written into the command mailbox. -/
def State.writeMail (s : State) (a : Nat) (v : Word) : State :=
  if s.reg.cmdState != .idle then s.ignoreMail
  else if !s.ctl.ready then s.countIgnored
  else { s with ctl := { s.ctl with cmdBox := nvWrite s.ctl.cmdBox (a - 0x1000) (leBytes 4 v.toNat) } }

/-- A word written into the bulk window. -/
def State.writeBulk (s : State) (a : Nat) (v : Word) : State :=
  if s.ctl.ready then { s with ctl := { s.ctl with bulk := nvWrite s.ctl.bulk (a - 0x8000) (leBytes 4 v.toNat) } }
  else s.countIgnored

/-- A window read (R276, R277): the bytes last written there; 0 while MBX_READY is 0. -/
def State.windowByte (s : State) (a : Nat) : Byte :=
  if !s.ctl.ready then 0
  else if a ≤ 0x1FFF then nvRead s.ctl.cmdBox (a - 0x1000)
  else if a ≤ 0x2FFF then nvRead s.ctl.rspBox (a - 0x2000)
  else if a ≤ 0x7FFF then nvRead s.ctl.ring (a - 0x4000)
  else nvRead s.ctl.bulk (a - 0x8000)

/-- An address of a window of R276. -/
def inWindow (a : Nat) : Bool := (0x1000 ≤ a && a ≤ 0x2FFF) || (0x4000 ≤ a && a ≤ 0xFFFF)

/-- The word a side-band read at an address finds (R275, R276), without what the read itself does: a register, four bytes of a
window, or 0. -/
def State.wordAt (s : State) (a : Nat) : Word :=
  if inWindow a then BitVec.ofNat 32 (leNat ((List.range 4).map fun i => s.windowByte (a + i)))
  else if a ≤ 0xFF then s.regRead a else 0

/-- Data word `i` of a frame that reads (R274, R275), as the instant it is taken finds it: past 0xFFFC it is 0. The registers whose
read has an effect have rows of their own. -/
def State.frameWord (s : State) (op : SpiOp) (addr : BitVec 16) (i : Nat) : Word :=
  match wordAddress op addr i with
  | some a => s.wordAt a
  | none => 0

/-- A word address of a range; with bits [1:0] not 0 the frame is refused (R275). -/
def addrIn (a lo hi : Nat) : Bool := lo ≤ a && a ≤ hi

/-- A word written by a frame that began at the address, or the frame refused. -/
def State.writeWord (s : State) (addr : BitVec 16) (f : State → State) : State :=
  if frameRefused 0x02 addr then s.refuseFrame else f s

def execMailboxWrite (addr : BitVec 16) (value : Word) (s : State) : Result :=
  s.onPort fun s => if addrIn addr.toNat 0x1000 0x1FFF then s.writeWord addr (·.writeMail addr.toNat value) else s

def execBulkWindowWrite (addr : BitVec 16) (value : Word) (s : State) : Result :=
  s.onPort fun s => if addrIn addr.toNat 0x8000 0xFFFF then s.writeWord addr (·.writeBulk addr.toNat value) else s

/-! ## Registers written (R10, R278) -/

/-- The registers that other commands write. -/
def ownRows : List Nat := [0x28, 0x38, 0x90, 0x94, 0x9C, 0xA4]

/-- A write of a register without a row of its own, or of an unmapped or read-only address. -/
def State.writeReg (s : State) (a : Nat) (v : Word) : State :=
  if a = 0x1C then s.onReg fun r => { r with scratch := v }
  else if a = 0x2C then s.onReg fun r => { r with supArg := v }
  else if a = 0x3C then s.onReg fun r => { r with irqEnable := (v &&& 0xFF) ||| 8 }
  else if a = 0x50 then s.onReg fun r => { r with hkcAccSel := v.toNat % 16 }
  else if !s.ctl.ready && ((0x2000 ≤ a && a ≤ 0x2FFF) || (0x4000 ≤ a && a ≤ 0x7FFF)) then s.countIgnored
  else s

def execRegisterWrite (addr : BitVec 16) (value : Word) (s : State) : Result :=
  let a := addr.toNat
  s.onPort fun s =>
    if ownRows.contains a || addrIn a 0x1000 0x1FFF || addrIn a 0x8000 0xFFFF then s
    else s.writeWord addr (·.writeReg a value)

def execIrqStatusClear (value : Word) (s : State) : Result :=
  s.onPort fun s => s.onReg fun r => { r with irqStatus := r.irqStatus &&& ~~~value }

def execCmdStatusClear (value : Word) (s : State) : Result :=
  .next (if s.spiUp && value.getLsbD 2 then s.onReg fun r => { r with cmdIgnored := false } else s)

def execEvtRdWrite (value : Word) (s : State) : Result :=
  .next (if s.spiUp && (s.reg.evtWr - value).toNat ≤ 256 then s.onReg fun r => { r with evtRd := value } else s)

/-! ## Registers read with an effect (R10, R285) -/

def execEvtLostRead (s : State) : Result :=
  s.onPort fun s => (s.drive s.reg.evtLost).onReg fun r => { r with evtLost := 0 }

def execSpiErrorsRead (s : State) : Result :=
  s.onPort fun s => (s.drive s.spiErrors).onReg fun r => { r with spiIgnored := 0, spiCut := 0, spiRefused := 0 }

def execSupBufRead (s : State) : Result :=
  s.onPort fun s => (s.drive (s.regRead 0x34)).onReg fun r => { r with supBuf := r.supBuf.drop 4 }

/-- Device time at the snapshot instant, 1 to 3 ticks after the command (R269). -/
def State.snapTime (s : State) (lag : Fin 3) : Word64 :=
  if s.powered 49 then s.now + BitVec.ofNat 64 (8 * (lag.val + 1)) else s.now

def execTimeLoRead (lag : Fin 3) (s : State) : Result :=
  let t := s.snapTime lag
  s.onPort fun s => (s.drive (lowWord t)).onReg fun r => { r with timeHi := highWord t, timeTag := r.timeTag + 1 }

def execCapCntLoRead (s : State) : Result :=
  let c := s.lastConsumed
  s.onPort fun s => (s.drive (lowWord c)).onReg fun r => { r with capHi := highWord c, capTag := r.capTag + 1 }

/-- The accumulator snapshot: the low word driven, the rest into the shadow, the accumulator cleared (R416). -/
def State.snapHkc (s : State) : State :=
  let x := s.hkcAcc
  let s1 := (s.drive (BitVec.ofNat 32 x.sum)).onReg fun r => { r with
    hkcHi := fields [(16, x.count), (0, x.sum / 2 ^ 32 % 65536)], hkcTag := r.hkcTag + 1 }
  { s1 with hkc := { s1.hkc with acc := spErase s.reg.hkcAccSel s1.hkc.acc } }

def execHkcAccLoRead (s : State) : Result := s.onPort State.snapHkc

/-! ## Mailbox registers (R288) -/

/-- The Type field of the message in the command mailbox. -/
def State.mailType (s : State) : Nat := leNat (nvBytes s.ctl.cmdBox 2 2)

/-- The command mailbox posted; the message joins CTL's order. -/
def State.post (s : State) : State :=
  (s.onReg fun r => { r with cmdState := .posted, cmdType := s.mailType }).arrive .side s.sideMessage

def execCmdDoorbell (value : Word) (s : State) : Result :=
  .next (if s.spiUp && value.getLsbD 0 then (if s.reg.cmdState = .idle then s.post else s.ignoreMail) else s)

def execRspAck (value : Word) (s : State) : Result :=
  .next (if s.spiUp && value.getLsbD 0 then s.onReg fun r => { r with rspReady := false } else s)

/-! ## Placing responses (R288, R289, R249) -/

/-- The response written into the response mailbox; a side-band one ends its message. -/
def State.placeMail (s : State) (bytes : Bytes) (redirected : Bool) : State :=
  let s1 := s.onReg fun r => { r with
    rspReady := true, rspRedirected := redirected, rspLength := bytes.length
    cmdState := if redirected then r.cmdState else .idle, cmdType := if redirected then r.cmdType else 0 }
  { s1 with ctl := { s1.ctl with rspBox := nvWrite [] 0 bytes } }

/-- What a response that has gone sets off: STANDBY (R192), the reset that follows (R334, R360), or the EPOCH operation
(R179). -/
def State.followUp (s : State) (follow : Nat) : State :=
  match follow with
  | 1 => { s with pwr := { s.pwr with standbyWanted := true } }
  | 2 => match s.rst.after with
    | some c => { s with rst := { s.rst with after := none } }.decideReset c
    | none => s
  | 3 => s.request
      (epochEntry 1 s.led.epoch 0 s.led.epochDigest (zeros 64))
  | _ => s

/-- One response placed, if its place is free: the mailbox, or the control queue for an in-band one. -/
def State.tryPlace (s : State) (r : Reply) : Option State :=
  if r.waits then none
  else if !r.inBand then (if s.reg.rspReady then none else some (s.placeMail r.bytes false))
  else
    let o := s.offerControl { kind := 7, body := r.bytes }
    if o.1 then some o.2 else if s.reg.rspReady then none else some (s.placeMail r.bytes true)

/-- The oldest response that can be placed: the state, what follows it, and the responses left. -/
def State.placeFirst (s : State) : List Reply → Option (State × Nat × List Reply)
  | [] => none
  | r :: rest =>
    match s.tryPlace r with
    | some s1 => some (s1, r.follow, rest)
    | none => (s.placeFirst rest).map fun x => (x.1, x.2.1, r :: x.2.2)

/-- The activation record with the loaded image active on trial (R360 step 2). -/
def Fw.activated (f : Fw) (slot : Nat) : Fw :=
  let x := f.loaded.getD ⟨0, 0, []⟩
  let r := f.record
  ({ f with activating := none }.putRecord {
    active := slot, previous := r.active, trial := true, activeVersion := x.version, previousVersion := r.activeVersion
    digest := x.digest }).putStatus {}

/-- An activation in hand writes its record and its status before anything is placed (R360 steps 2 and 3). -/
def State.finishActivation (s : State) : State :=
  match s.fw.activating with
  | some slot => { s with fw := s.fw.activated slot }
  | none => s

/-- The oldest response that can be placed is. -/
def State.placeNext (s : State) : State :=
  match s.placeFirst s.ctl.replies with
  | some (s1, follow, rest) => ({ s1 with ctl := { s1.ctl with replies := rest } }.progress [60, 61]).followUp follow
  | none => s

def execResponsePlace (s : State) : Result :=
  .next (if s.ctl.ready && s.pwr.state = .active then s.finishActivation.placeNext else s)

/-! ## The event ring (R301) -/

/-- The oldest record held is written, or lost where the ring is full. -/
def State.ringWrite (s : State) (r : Record) (rest : List Record) : State :=
  let s1 := { s with ev := { s.ev with waiting := rest } }
  if 256 ≤ (s.reg.evtWr - s.reg.evtRd).toNat then
    (s1.onReg fun x => { x with evtLost := bumpWord x.evtLost }).setIrq 2
  else
    let o := 64 * (s.reg.evtWr.toNat % 256)
    { s1.onReg (fun x => { x with evtWr := x.evtWr + 1 }) with ctl := { s1.ctl with ring := nvWrite s1.ctl.ring o (r.take 64) } }

def execEventRingWrite (s : State) : Result :=
  .next (if s.ctl.ready && !s.closing then
      match s.ev.waiting with
      | r :: rest => (s.progress [62]).ringWrite r rest
      | [] => s
    else s)

/-! ## Supervisor commands (R286) -/

/-- A supervisor command can be issued. -/
def State.supFree (s : State) : Bool := s.spiUp && s.reg.supState != .busy

/-- The confirmation word is in `SUP_ARG`. -/
def State.confirmed (s : State) : Bool := s.reg.supArg.toNat / 65536 = 0xA55A

/-- The argument field of `SUP_ARG`. -/
def State.supN (s : State) : Nat := s.reg.supArg.toNat % 65536

/-- A command ends: REFUSED with a reason, or DONE with reason 0, its result in the buffer. SUP takes `SUP_ARG` and clears
CONFIRM; a result not read is discarded. -/
def State.supEnd (s : State) (code : Byte) (reason : Nat) (result : Bytes) : State :=
  (s.onReg fun r => { r with
    supCode := code, supState := if reason = 0 then .done else .refused, supReason := reason
    supArg := r.supArg &&& 0xFFFF, supBuf := result }).setIrq 5

/-- `SUP_RESET`: the command came over the side-band port, which shows that VDDIO is in range (R429). -/
def execSupReset (s : State) : Result :=
  .next (if s.supFree then
      (if s.confirmed then
        let s1 := s.supEnd 1 0 []
        { s1 with pwr := { s1.pwr with padsOff := false } }.askReset .supCmd
      else s.supEnd 1 1 [])
    else s)

/-- A closing run with trigger 3 can start: the ledger runs, the BOOT entry stands, and the device is not closed or closing. -/
def State.mayClose (s : State) : Bool := s.pwr.bootEntryDone && s.ledgerRuns && !s.closing && !s.offHold

def execSupClose (s : State) : Result :=
  .next (if s.supFree then
      (if !s.confirmed then s.supEnd 2 1 []
       else if s.mayClose then (s.supEnd 2 0 []).beginRun 3
       else s.supEnd 2 3 [])
    else s)

/-- The last `n` entries present, oldest first, as stored. -/
def State.tail (s : State) (n : Nat) : Bytes :=
  let k := min n s.led.present
  (List.range k).flatMap fun i => s.entryAt (s.led.nextSeq - BitVec.ofNat 32 (k - i))

/-- `SUP_TAIL` (R286): n out of range is refused before the EPOCH state is looked at (DESIGN CHOICE, log 97: R286 gives the reasons no
order). -/
def execSupTail (s : State) : Result :=
  .next (if s.supFree then
      (if s.supN = 0 || 8 < s.supN then s.supEnd 3 2 []
       else if s.led.epochState != .idle then s.supEnd 3 3 []
       else s.supEnd 3 0 (s.tail s.supN))
    else s)

/-- The valid reset records held, most recent first (R381). -/
def State.resetRecords (s : State) : List Bytes :=
  ((List.range (min 256 s.rst.retained.recordSeq.toNat)).map fun i => s.rst.retained.recordSeq.toNat - 1 - i).filterMap fun n =>
    let b := nvBytes s.nvs.mem (recordAddr n) 128
    if leAt 124 4 b = (crc32 (b.take 124)).toNat && leAt 0 4 b = n then some b else none

def execSupRrecord (s : State) : Result :=
  .next (if s.supFree then
      (match s.resetRecords[s.supN]? with
       | some b => s.supEnd 4 0 b
       | none => s.supEnd 4 2 [])
    else s)

/-- The head of the last committed entry; 0 while none is present. -/
def State.headNow (s : State) : Bytes := if s.led.present = 0 then zeros 64 else s.led.lastHead

/-- The status block of R287. -/
def State.statusBlock (s : State) : Bytes :=
  leBytes 4 s.supStatus.toNat ++ leBytes 4 s.resetCause.toNat ++ leBytes 8 s.pwr.domains.toNat ++ leBytes 4 s.led.nextSeq.toNat ++
    leBytes 4 s.epochNow ++ padTo 64 s.headNow ++ leBytes 8 s.now.toNat ++ leBytes 8 s.lastConsumed.toNat ++ zeros 24

def execSupSnapshot (s : State) : Result := .next (if s.supFree then s.supEnd 5 0 s.statusBlock else s)

def execSupCmdUnknown (code : Byte) (s : State) : Result :=
  .next (if s.supFree && !(1 ≤ code.toNat && code.toNat ≤ 5) then s.supEnd code 2 [] else s)

end Sys2Proof.Machine
end

