-- ==== Sys2Proof/Machine/Messages.lean ====
section
/-! DEFINITION. Messages (12): CTL takes the message at the head of its order, checks it (R295) and answers it (R292). Each row of the
catalogue brings its body length, its generation check and its own checks and effect. -/

namespace Sys2Proof.Machine

/-! ## The message at the head of the order (R288 to R290) -/

/-- The message CTL takes next. -/
def State.nextMsg (s : State) : Option Msg :=
  match s.ctl.inbox with
  | [] => none
  | .side :: _ => some s.sideMessage
  | .inBand b :: _ => some ⟨b, true⟩

/-- A commit requested now would wait for the end of the block operation: a message commits at most two entries, and eight may
interleave (R185). -/
def State.commitsWait (s : State) : Bool :=
  !s.nvs.blocks.isEmpty && 8 < s.nvs.interleaved + s.nvs.queue.length + 2

/-- CTL executes messages: it is ready, its core runs, no earlier message waits for the operations it started, and what it commits
need not wait. -/
def State.serves (s : State) : Bool :=
  s.ctl.ready && s.pwr.state = .active && s.coreRuns && !s.ctl.replies.any Reply.waits && !s.commitsWait && s.fw.activating.isNone

/-- The message taken from the order; a side-band one is EXECUTING. -/
def State.takeMsg (s : State) (m : Msg) : State :=
  let s1 := { s.progress [60] with ctl := { s.ctl with inbox := s.ctl.inbox.tail, superseded := s.ctl.superseded - 1 } }
  if m.inBand then s1 else s1.onReg fun r => { r with cmdState := .executing, cmdType := m.code }

/-! ## Answers -/

/-- What a message's own checks and effect come to: the state, the status and detail words, the response body, whether the response
waits for operations, and what follows it. -/
structure Answer where
  s : State
  status : Nat := 0
  detail : Nat := 0
  body : Bytes := []
  waits : Bool := false
  follow : Nat := 0
  deriving DecidableEq, Repr

/-- A refusal, which changes nothing. -/
def State.refuse (s : State) (status : Nat) : Answer := { s := s, status := status }

/-- An acceptance. -/
def State.accept (s : State) (body : Bytes) : Answer := { s := s, body := body }

/-- The first check of a list that fails: (failed, error). -/
def firstError : List (Bool × Nat) → Nat
  | [] => 0
  | (bad, e) :: rest => if bad then e else firstError rest

/-- The message refused with the first failing check, or else answered by `f`. -/
def State.check (s : State) (l : List (Bool × Nat)) (f : Unit → Answer) : Answer :=
  let e := firstError l
  if e = 0 then f () else s.refuse e

/-! ## Checks 1 to 8 (R295) -/

/-- What a row of the catalogue demands (R297): its code, its lowest role (0: not signed), whether it is a public read (R179), and
whether recovery mode answers it (R361). -/
structure MsgRow where
  code : Nat
  role : Nat
  publicRead : Bool
  recovery : Bool
  deriving DecidableEq, Repr

/-- Checks 1 and 3, and the messages of recovery mode. -/
def State.earlyError (s : State) (row : MsgRow) (fits : Msg → Nat → Bool) (m : Msg) : Nat :=
  firstError [(!m.formed, errRange), (!((m.bodyLength (row.role != 0)).any (fits m)), errRange),
    (s.pwr.recovery && !row.recovery, errState)]

/-- The maker key in force (R327). -/
def State.makerKey (s : State) : Option Bytes :=
  match s.role.maker.now with
  | some k => if s.fus.locked 2 && sha512 k = s.fus.wordBytes 32 16 then some k else none
  | none => none

/-- What a slot of the role store holds; none where its record is empty or fails (R327), or its stamp was below the counter at boot
(R332). -/
def State.keySlot (s : State) (role slot : Nat) : Option KeySlot :=
  let x := if role = 1 then (s.role.operators, s.role.staleOps) else if role = 2 then (s.role.installers, s.role.staleIns) else ([], [])
  if x.2.contains slot then none else (recordAt slot x.1).bind id

/-- The key of a role and slot. -/
def State.keyOf (s : State) (role slot : Nat) : Option Bytes :=
  if role = 3 then (if slot = 0 then s.makerKey else none) else (s.keySlot role slot).map KeySlot.key

/-- `MSG_FUS_PROGRAM` with operation INSTALL_MAKER_KEY brings its own key while MAKER slot 0 is empty (R327). -/
def Msg.ownKey (m : Msg) : Option Bytes :=
  if m.code = 0x81 && m.role = 3 && m.slot = 0 && m.field 4 1 = 5 then some (m.part 12 32) else none

/-- The CHALK authority (R327). -/
def State.chalkPass (s : State) (m : Msg) : Bool :=
  s.fus.lifecycle = 0 && m.role = 3 && m.slot = 0xFF && allZero m.trailer

/-- The key the trailer is checked with. -/
def State.signer (s : State) (m : Msg) : Option Bytes := (s.keyOf m.role m.slot).orElse fun _ => m.ownKey

/-- What a trailer signs (R293). -/
def State.signedBytes (s : State) (m : Msg) : Bytes :=
  s.fus.deviceId ++ padTo 32 s.ctl.nonce ++ m.bytes.take 16 ++ m.signedBody

/-- Checks 5 and 6. -/
def State.trailerError (s : State) (m : Msg) : Nat :=
  if s.chalkPass m then errOk
  else match s.signer m with
    | none => errRole
    | some key => if edVerify key (s.signedBytes m) m.trailer then errOk else errSig

/-- The session is open and the message's (check 4). -/
def State.inSession (s : State) (m : Msg) : Bool := s.ctl.sessionOpen && m.session = s.ctl.session.toNat

/-- Checks 4 to 6. -/
def State.signedError (s : State) (row : MsgRow) (m : Msg) : Nat :=
  if !(s.inSession m && m.sequence = (s.ctl.seqLast + 1).toNat) then errSeq
  else if m.role < row.role || 3 < m.role then errRole
  else s.trailerError m

/-- The message repeats the last accepted one (R294). -/
def State.repeats (s : State) (m : Msg) : Bool :=
  s.inSession m && m.sequence = s.ctl.seqLast.toNat && s.ctl.lastDigest = some (sha512 m.bytes)

/-- The sequence consumed (R294, R295, R350). -/
def State.takeSequence (s : State) (m : Msg) : State :=
  { s with ctl := { s.ctl with
      seqLast := BitVec.ofNat 32 m.sequence, lastDigest := some (sha512 m.bytes), lastRole := m.role, lastSlot := m.slot } }

/-- Check 7: the EPOCH operation lets only public reads through (R179). -/
def State.epochBusy (s : State) (row : MsgRow) : Bool := s.led.epochState != .idle && !row.publicRead

/-! ## The response (R292, R314, R350) -/

/-- The counters of a response with the status. -/
def State.countAnswer (s : State) (status : Nat) : State :=
  let c := { s.ctl with
    msgExecuted := s.ctl.msgExecuted + 1
    msgRefused := if status = 0 then s.ctl.msgRefused else s.ctl.msgRefused + 1 }
  { s with ctl :=
      if status = errSig then c.retain fun t => { t with sigFailures := t.sigFailures + 1 }
      else if status = errRole then c.retain fun t => { t with roleFailures := t.roleFailures + 1 }
      else c }

/-- A response formed. -/
def State.reply (s : State) (r : Reply) : State := { s with ctl := { s.ctl with replies := s.ctl.replies ++ [r] } }

/-- The answer as a response; that of an accepted signed message is kept for a repeat. -/
def Answer.send (a : Answer) (m : Msg) (keep : Bool) : State :=
  let bytes := m.response a.status a.detail (if a.status = 0 then a.body else [])
  let s1 := (a.s.countAnswer a.status).reply ⟨m.inBand, bytes, a.waits && a.status = 0, if a.status = 0 then a.follow else 0⟩
  if keep then { s1 with ctl := { s1.ctl with lastResponse := bytes } } else s1

/-- The stored response sent again (R294). -/
def State.sendAgain (s : State) (m : Msg) : State :=
  (s.countAnswer (leAt 16 4 s.ctl.lastResponse)).reply ⟨m.inBand, s.ctl.lastResponse, false, 0⟩

/-- Checks 7 and 8, and the message's own checks and effect. -/
def State.late (s : State) (row : MsgRow) (gen : State → Msg → Nat) (run : State → Msg → Answer) (m : Msg) : Answer :=
  s.check [(s.epochBusy row, errBusy), (gen s m != 0, gen s m)] fun _ => run s m

/-- The message executed: checks 1 to 6, then the rest. `old`: it waited when a later `MSG_SESSION_OPEN` arrived, so if it is signed
its session is over (R303). -/
def State.execute (s : State) (row : MsgRow) (fits : Msg → Nat → Bool) (gen : State → Msg → Nat) (run : State → Msg → Answer)
    (old : Bool) (m : Msg) : State :=
  let e := s.earlyError row fits m
  if e != 0 then (s.refuse e).send m false
  else if row.role = 0 then (s.late row gen run m).send m false
  else if old then (s.refuse errSeq).send m false
  else if s.repeats m then s.sendAgain m
  else
    let e := s.signedError row m
    if e != 0 then (s.refuse e).send m false
    else ((s.takeSequence m).late row gen run m).send m true

/-- No generation is named. -/
def noGen (_ : State) (_ : Msg) : Nat := 0

/-- A body of exactly `n` bytes. -/
def exactly (n : Nat) (_ : Msg) (l : Nat) : Bool := l = n

/-- The row serves the message at the head of the order, if it is `mine`. -/
def State.serve (s : State) (mine : Msg → Bool) (row : MsgRow) (fits : Msg → Nat → Bool) (gen : State → Msg → Nat)
    (run : State → Msg → Answer) : State :=
  match s.nextMsg with
  | some m => if s.serves && mine m then (s.takeMsg m).execute row fits gen run (s.ctl.superseded != 0) m else s
  | none => s

/-- The message has the code. -/
def Msg.isCode (code : Nat) (m : Msg) : Bool := m.code % 32768 = code

/-- The row serves every message of its code. -/
def State.serveCode (s : State) (row : MsgRow) (fits : Msg → Nat → Bool) (gen : State → Msg → Nat)
    (run : State → Msg → Answer) : State :=
  s.serve (Msg.isCode row.code) row fits gen run

/-- A command that passed its checks and cannot be applied (R171): the second entry, with the error the response returns. -/
def State.applyFails (s : State) (second : Nat → Commit) : Answer :=
  let e := 1 + (Config.applyError s.free).val
  { s := { s with free := s.free + 1 }.commitNow (second e), status := e }

/-- The same for a command of a CONFIG entry. -/
def State.configFails (s : State) (m : Msg) : Answer := s.applyFails fun e => s.configEntry m.auth 0xFF 0 e

/-- A CONFIG entry for the message (R171). -/
def State.commitConfig (s : State) (m : Msg) (view gen : Nat) : State := s.commitNow (s.configEntry m.auth view gen 0)

/-! ## Rows -/

/-- The catalogue (R297). -/
def catalogue : List Nat :=
  [0x01, 0x02, 0x03, 0x04, 0x05, 0x10, 0x11, 0x12, 0x13, 0x14, 0x20, 0x21, 0x22, 0x30, 0x31, 0x40, 0x41, 0x50, 0x60, 0x61,
   0x70, 0x71, 0x80, 0x81, 0x82, 0x83, 0x84, 0x85, 0x90, 0x91, 0xA0]

/-- A message whose code the catalogue does not have. -/
def Msg.isUnknown (m : Msg) : Bool := !catalogue.contains (m.code % 32768)

def execMsgUnknown (s : State) : Result :=
  .next (s.serve Msg.isUnknown ⟨0, 0, true, true⟩ (fun _ _ => true) noGen fun s _ => s.refuse errUnknown)

/-- The next session number: never 0 (R294). -/
def nextSession (n : Word) : Word := if n + 1 = 0 then 1 else n + 1

/-- A session opened with fresh entropy; the end of the one before discards the table staging (R322). -/
def State.openSession (s : State) (entropy hostNonce : Bytes) : State :=
  let n := nextSession s.ctl.retained.sessionCounter
  { s with
    ctl := { s.ctl.retain (fun t => { t with sessionCounter := n }) with
      sessionOpen := true, session := n, nonce := (sha512 (entropy ++ hostNonce)).take 32
      seqLast := 0, lastDigest := none, lastResponse := [] }
    tab := { s.tab with staging := none } }

/-- The session opened, and the response of R298. -/
def State.answerOpen (s : State) (entropy : Bytes) (m : Msg) : Answer :=
  let s1 := s.openSession entropy (m.part 0 32)
  s1.accept (leBytes 4 s1.ctl.session.toNat ++ zeros 4 ++ s.fus.deviceId ++ s1.ctl.nonce)

def execMsgSessionOpen (entropy : Bytes) (s : State) : Result :=
  .next (if entropy.length = 32 then
      s.serveCode ⟨0x01, 0, false, true⟩ (exactly 32) noGen fun s m => s.answerOpen entropy m
    else s)

/-- The session ended, and with it the table staging (R322). -/
def State.closeSession (s : State) : State :=
  { s with
    ctl := { s.ctl with sessionOpen := false, session := 0, nonce := [], lastDigest := none }
    tab := { s.tab with staging := none } }

def execMsgSessionClose (s : State) : Result :=
  .next (s.serveCode ⟨0x02, 1, false, false⟩ (exactly 4) noGen fun s _ => s.closeSession.accept [])

def execMsgNop (s : State) : Result :=
  .next (s.serveCode ⟨0x03, 0, false, true⟩ (fun _ l => l ≤ 1024) noGen fun s m => s.accept m.openBody)

/-- `MSG_POWER_STANDBY` (R192). -/
def State.askStandby (s : State) (m : Msg) : Answer :=
  s.check [(!s.viewsIdle || s.led.epochState != .idle, errState)] fun _ => { s := s.commitConfig m 0xFF 0, follow := 1 }

def execMsgPowerStandby (s : State) : Result :=
  .next (s.serveCode ⟨0x50, 1, false, false⟩ (exactly 4) noGen State.askStandby)

end Sys2Proof.Machine
end

