-- ==== Sys2Proof/Machine/Pins.lean ====
section
/-! DEFINITION. The inputs of the GP pins (17): conditioned levels, activity detectors and the arming unit of the trigger
source. -/

namespace Sys2Proof.Machine

/-! ## The arming unit (R389, R390) -/

/-- TRIGGERED mode is in force and PD_PIN is powered: the arming unit works. -/
def State.arming (s : State) : Bool := s.stored 0x1006 = 1 && s.powered 52

/-- The unit sees its source's level: an activation while disarmed is ignored and counted (R389). -/
def State.syncArm (s : State) : State :=
  if !s.arming || s.pin.active = s.sourceActive then s
  else
    let on := s.sourceActive
    { s with pin := { s.pin with
        active := on, since := s.clk.ticks
        holdPassed := if on then false else s.pin.holdPassed
        delivered := if on then false else s.pin.delivered
        ignored := if on && !s.pin.armed then bump 0xFFFFFF s.pin.ignored else s.pin.ignored } }

/-- The source's configuration: `PIN.CFGn`, or `PIN.TINT_SELe` of its engine (R390). -/
def State.sourceCfg (s : State) : Nat :=
  if s.trigSource < 16 then s.pinCfg s.trigSource else s.stored (0x2C10 + (s.trigSource - 16) / 2)

/-- INACTIVE_MIN and HOLD_LIMIT of the source, in ticks. -/
def State.inactiveTicks (s : State) : Nat := 125 * bitsOf s.sourceCfg 48 16
def State.holdMs (s : State) : Nat := bitsOf s.sourceCfg 32 16

/-- The armed unit delivers its edge to ETS and disarms; an accepted trigger is one of the converter's (R412). -/
def State.detectTrigger (s : State) : State :=
  let s1 := { s with pin := { s.pin with armed := false, delivered := true } }.takeTrigger
  if s1.ets.accepted = s.ets.accepted then s1 else s1.prioTrigger 2

/-- The edge is seen at the tick it occurs, its detection tick (R69). -/
def State.triggerDue (s : State) : Bool := s.arming && s.pin.armed && s.pin.active && s.pin.since = s.clk.ticks

def execTriggerDetect (s : State) : Result :=
  .next (if s.syncArm.triggerDue then s.syncArm.detectTrigger else s.syncArm)

/-- The unit may arm. -/
def State.armDue (s : State) : Bool :=
  s.arming && !s.pin.armed && !s.pin.active && s.pin.since + s.inactiveTicks ≤ s.clk.ticks

def execTriggerArm (s : State) : Result :=
  .next (if s.syncArm.armDue then { s.syncArm with pin := { s.syncArm.pin with armed := true } } else s.syncArm)

/-- `EV_PIN_STUCK`, once for the activation. -/
def State.pinStuck (s : State) : State :=
  { s with pin := { s.pin with holdPassed := true } }.raise 3 s.now
    (leBytes 1 s.trigSource ++ zeros 3 ++ leBytes 4 s.holdMs)

/-- The level has stayed active for HOLD_LIMIT after the edge that disarmed the unit. -/
def State.holdDue (s : State) : Bool :=
  s.arming && s.pin.active && s.pin.delivered && !s.pin.holdPassed && s.holdMs != 0 &&
    s.pin.since + 125000 * s.holdMs ≤ s.clk.ticks

def execPinHoldLimit (s : State) : Result :=
  .next (if s.syncArm.holdDue then s.syncArm.pinStuck else s.syncArm)

/-! ## Conditioned levels (R384, R387) -/

/-- The instruction word a sequencer is at. -/
def State.shadeWord (s : State) (q : Nat) : Nat := spGet 0 (s.shadeAt q).pc s.pin.store

/-- A WAIT_PIN of sequencer `q` sees the level of pin `n` change: its level or edge has come (R395). -/
def State.noteWait (s : State) (q n : Nat) (level : Bool) : State :=
  let x := s.shadeAt q
  let w := s.shadeWord q
  match x.waiting with
  | some (.pin began none) =>
    if x.state = ShadeState.running && bitsOf w 16 4 = n && w.testBit 15 = level then
      s.setShade q { x with waiting := some (.pin began (some s.clk.ticks)) }
    else s
  | _ => s

/-- The conditioned level of a pin becomes `level`. -/
def State.setLevel (s : State) (n : Nat) (level : Bool) : State :=
  let m := BitVec.ofNat 16 (2 ^ n)
  let s1 := { s with pin := { s.pin with levels := if level then s.pin.levels ||| m else s.pin.levels &&& ~~~m } }
  (((List.range 4).foldl (fun s q => s.noteWait q n level) s1).syncArm).watchPulse

/-- The pin is sampled: its input buffer is on. -/
def State.sampled (s : State) (n : Nat) : Bool := n < 16 && s.powered 52 && s.bufferOn n

/-- The level a pad is driven to; none for a released one, whose level is the outside's. -/
def Drive.level : Drive → Option Bool
  | .released => none
  | .low => some false
  | .high => some true

/-- Bit `n` of a word set to `b`. -/
def putBit (w : BitVec 16) (n : Nat) (b : Bool) : BitVec 16 :=
  let m := BitVec.ofNat 16 (2 ^ n)
  if b then w ||| m else w &&& ~~~m

/-- INVERT acts at the pad, before sampling (R384). -/
def State.sampleOf (s : State) (n : Nat) (pad : Bool) : Bool := pad != (s.pinField n 4 1 = 1)

/-- The samples of pin `n` in this tick and in the tick before, and whether each leaves the outside no choice. -/
def Pin.sampledAs (p : Pin) (n : Nat) (now before fixed fixedBefore : Bool) : Pin :=
  { p with
    samples := putBit p.samples n now, before := putBit p.before n before
    fixed := putBit p.fixed n fixed, fixedBefore := putBit p.fixedBefore n fixedBefore }

/-- Pin `n` has read `b` at this tick's sample and at the one before: its conditioned level follows. -/
def State.condition (s : State) (n : Nat) (b : Bool) : State :=
  { s with pin := s.pin.sampledAs n b b true true }.setLevel n b

/-- The samples of this tick and of the tick before can both have read `b`: neither is known to have read the other level. -/
def Pin.canRead (p : Pin) (n : Nat) (b : Bool) : Bool :=
  (!p.fixed.getLsbD n || p.samples.getLsbD n = b) && (!p.fixedBefore.getLsbD n || p.before.getLsbD n = b)

/-- The outside gives the pad of pin `n` the level `pad`, which shows where the pad is not driven. -/
def State.outsideAt (s : State) (n : Nat) (pad : Bool) : State :=
  if s.pin.fixed.getLsbD n then s else { s with pin := { s.pin with pads := putBit s.pin.pads n pad } }

/-- The row is the second sample in a row of a new level at the pad (R384): this tick's, and the first was the tick's before. The
level is the pad's. -/
def execConditionedLevelChange (pin : Nat) (level : Bool) (s : State) : Result :=
  let b := s.sampleOf pin level
  .next (if s.sampled pin && s.pin.levels.getLsbD pin != b && s.pin.canRead pin b then (s.outsideAt pin level).condition pin b
    else s)

/-- The sample of a tick (R384): the level the pad is driven to (R387: an output reads back its pad), or for a released pad the level
last seen there. The second sample of a level conditions it. -/
def State.samplePin (s : State) (n : Nat) : State :=
  if !s.sampled n then s
  else
    let driven := (s.gpLand n).level
    let b := s.sampleOf n (driven.getD (s.pin.pads.getLsbD n))
    let last := s.pin.samples.getLsbD n
    if last = b && s.pin.levels.getLsbD n != b then s.condition n b
    else { s with pin := s.pin.sampledAs n b last driven.isSome (s.pin.fixed.getLsbD n) }

/-- A pin whose input buffer is off reads 0. -/
def State.unsampled (s : State) (n : Nat) : State :=
  if s.bufferOn n then s
  else
    let s1 := { s with pin := s.pin.sampledAs n false false true true }
    if s.pin.levels.getLsbD n then s1.setLevel n false else s1

/-! ## A configuration comes into force (R386 to R388) -/

/-- The source of pin `n` drives it: a running tint engine. A sequencer drives a pin only by its next SET or shift. -/
def State.pinDriven (s : State) (n : Nat) : Bool := s.pinFunction n = 3 && (s.tintAt (s.pinField n 16 3)).running

/-- `PIN.CFGn` comes into force: a pin given to an engine or sequencer that does not drive it goes to its safe level, where hold
keeps the level its pad had. -/
def State.applyPin (s : State) (n : Nat) : State :=
  let held := s.padDrive n
  let s1 := { s with pin := { s.pin with cfg := spSet pinReset n (s.stored (0x2C00 + n)) s.pin.cfg } }
  let f := s1.pinFunction n
  let same : Bool := f = s.pinFunction n && s1.pinField n 16 4 = s.pinField n 16 4
  let s2 := if same || !(f = 3 || f = 4) || s1.pinDriven n then s1
    else s1.latchPad n (.pad (if s1.pinField n 10 2 = 0 then held else s1.safeDrive n))
  s2.unsampled n

/-- The configurations written since the last tick. -/
def State.applyPins (s : State) : State :=
  (List.range 16).foldl (fun s n => if s.pinCfg n = s.stored (0x2C00 + n) then s else s.applyPin n) s

/-! ## Activity detectors (R385) -/

/-- A detection on pin `n`: `EV_PIN_OVERRUN` unless one was raised less than 1 ms ago. -/
def State.activityDetected (s : State) (n : Nat) : State :=
  let a := spGet {} n s.pin.activity
  let count := a.count + 1
  let quiet : Bool := match a.eventTick with
    | some t => decide (s.clk.ticks < t + 125000)
    | none => false
  let next : Activity := if quiet then { a with count := count } else ⟨some s.clk.ticks, 0⟩
  let s1 := { s with pin := { s.pin with activity := spSet {} n next s.pin.activity } }
  if quiet then s1 else s1.raise 4 s.now (leBytes 1 n ++ zeros 3 ++ leBytes 4 count)

def execPinActivityDetect (source : Nat) (s : State) : Result :=
  .next (if source < 16 && s.powered 52 && s.pinField source 13 1 = 1 then s.activityDetected source else s)

end Sys2Proof.Machine
end

