-- ==== Sys2Proof/Machine/Tint.lean ====
section
/-! DEFINITION. The tint engines (R391, R392): their inputs and their evaluation at each tick. -/

namespace Sys2Proof.Machine

/-- Does some slice of the profile cover this tick, widened by `lead` ticks before its DG fall (R391)? -/
def Capture.sliceActive (c : Capture) (p lead now : Nat) : Bool :=
  match c.use p with
  | none => false
  | some u => (List.range u.slices).any fun k => [Node.a, Node.b].any fun n =>
      match c.sliceEdge p k n fun u => u.dg c.kind k n with
      | some t => t ≤ now + lead && now < t + u.slice c.kind k n
      | none => false

/-- A readout is in progress (R391): a capture is being released, or row-quads wait for their conversions. -/
def State.readingOut (s : State) : Bool :=
  !s.pdp.waiting.isEmpty || s.ets.captures.any fun c => c.released != 0

/-- A signal line of a sequencer (R395). -/
def Shade.line (x : Shade) (l now : Nat) : Bool :=
  if l = 0 then x.line0 || x.pulse0 = some now else x.line1 || x.pulse1 = some now

/-- The input a code selects, as it stands at this tick (R391); a code not listed cannot be stored. -/
def State.tintInput (s : State) (code : Nat) : Bool :=
  let now := s.clk.ticks
  if code < 0x10 then s.pin.levels.getLsbD code
  else if code < 0x20 then (s.tintOut ((code - 0x10) / 2)).testBit (code % 2)
  else if code < 0x30 then s.ets.captures.any fun c => c.sliceActive (code - 0x20) 0 now
  else if code < 0x40 then s.ets.captures.any fun c => c.sliceActive (code - 0x30) 4 now
  else if code = 0x40 then s.ets.captures.any fun c => c.t0Tick ≤ now && now < c.close
  else if code = 0x41 then s.readingOut
  else if code = 0x42 then s.ets.t0Pulse = some now
  else if code = 0x43 then s.ets.acceptPulse = some now
  else if code = 0x44 then s.ets.coalescePulse = some now
  else if code = 0x45 then s.pin.ppsPulse = some now
  else if 0x48 ≤ code && code < 0x50 then (s.shadeAt ((code - 0x48) / 2)).line (code % 2) now
  else code = 0xFF

/-- The index of the entry an engine reads (R392). -/
def State.tintIndex (s : State) (e : Nat) : Nat :=
  let sel := s.stored (0x2C10 + e)
  16 * (s.tintAt e).state + maskOf ((List.range 4).map fun k => s.tintInput (bitsOf sel (8 * k) 8))

/-- The engine after the evaluation of this tick: state and outputs take effect from the next one. -/
def State.tintNext (s : State) (e : Nat) : Tint :=
  let v := spGet 0 (256 * e + s.tintIndex e) s.pin.tables
  { s.tintAt e with next := some (v % 16, bitsOf v 4 2) }

/-- A running engine evaluates once in a tick, first in the tick after its start (R393). -/
def State.tintDue (s : State) (e : Nat) : Bool :=
  let t := s.tintAt e
  e < 8 && s.powered 52 && t.running && t.startTick < s.clk.ticks && t.next.isNone

/-- The evaluation of the tick before takes effect. -/
def Tint.tick (t : Tint) : Tint :=
  match t.next with
  | some (state, out) => { t with state := state, out := out, next := none }
  | none => t

def execTintEvaluate (engine : Nat) (s : State) : Result :=
  .next (if s.tintDue engine then (s.progress [57]).setTint engine (s.tintNext engine) else s)

end Sys2Proof.Machine
end

