-- ==== Sys2Proof/Machine/ParamRead.lean ====
section
/-! DEFINITION. Parameters read (13): what every parameter reads as, and the two read messages (R306, R308, R309). Values are given as
the 8 bytes of R305 hold them: a signed one as 64 bits of two's complement. -/

namespace Sys2Proof.Machine

/-- All ones in 64 bits. -/
def allOnes64 : Nat := 0xFFFFFFFFFFFFFFFF

/-- The mask of the numbers below `n` for which `f` holds. -/
def maskBy (n : Nat) (f : Nat → Bool) : Nat := maskOf ((List.range n).map f)

/-! ## DEVICE (R314) -/

/-- `DEVICE.FW_UPDATE`. -/
def FwUpdate.code : FwUpdate → Nat
  | .none => 0 | .loading => 1 | .loaded => 2 | .interrupted => 3

/-- `DEVICE.UPTIME`: ns since the end of the boot. -/
def State.uptime (s : State) : Nat := 8 * (s.clk.ticks - s.pwr.bootTick)

def State.deviceParam (s : State) : Nat → Nat
  | 0 => leAt 0 8 s.fus.deviceId
  | 1 => leAt 8 8 s.fus.deviceId
  | 2 => 0x4B430071
  | 3 => devRev
  | 4 => s.fus.lcSteps
  | 5 => s.fw.version.toNat
  | 6 => s.fw.slot
  | 7 => s.fw.update.code
  | 8 => s.fus.fwarSteps
  | 9 => s.resetCause.toNat
  | 10 => s.uptime
  | 11 => if s.ctl.sessionOpen then s.ctl.session.toNat else 0
  | 12 => s.ctl.seqLast.toNat
  | 13 => s.ctl.retained.configSerial.toNat
  | 14 => 1204
  | 15 => s.ctl.msgExecuted.toNat
  | 16 => s.ctl.msgRefused.toNat
  | 17 => s.ctl.retained.sigFailures.toNat
  | 23 => s.ctl.configRestore
  | _ => 0

/-! ## POWER (R208, R25, R315) -/

/-- Typical power of a domain in mW (R193). -/
def domainMw (i : Nat) : Nat :=
  if i < 4 then 120 else if i < 6 then 100 else if i < 30 then 120 else if i < 34 then 50
  else [760, 550, 350, 350, 350, 350, 80, 60, 120, 150, 150, 150, 150, 60, 100, 30, 150, 20, 30, 10, 0, 50].getD (i - 34) 0

/-- `POWER.ESTIMATE`. -/
def State.powerEstimate (s : State) : Nat :=
  (List.range 56).foldl (fun a i => if s.powered i then a + domainMw i else a) 20

/-- The unit of `POWER.MON_ESTn` and `POWER.MON_FLOORn` in units per second (R315). -/
def monitorUnit (n : Nat) : Nat := if n < 4 then 1 else 1000000

/-- A demand in units per second times `unit`; 0 while no view is live. -/
def State.demandParam (s : State) (f : Demand → Nat) (unit : Nat) : Nat :=
  if s.liveViews.isEmpty then 0 else f s.demand / (8 * s.demand.interval * unit)

/-- The pace monitors' rows, `n` the monitor. -/
def State.monitorParam (s : State) (i : Nat) : Nat :=
  if i < 34 then spGet 0 (i - 24) s.pace.est / monitorUnit (i - 24)
  else if i < 44 then spGet 200 (i - 34) s.pace.monMargin
  else if i < 54 then paceFloor (i - 44) / monitorUnit (i - 44)
  else spGet 200 (i - 54) s.pace.monLow

def State.powerParam (s : State) : Nat → Nat
  | 0 => s.pwr.domains.toNat
  | 6 => s.pwr.pfailGlitches.toNat
  | 7 => s.pwr.retained.droopLast
  | 8 => s.pwr.state.code
  | 9 => s.pwr.standbyEntries.toNat
  | 10 => s.pwr.retained.closeRuns.toNat
  | 11 => s.pwr.retained.thermalTrips.toNat
  | 12 => s.pwr.retained.lastT0.toNat
  | 13 => s.pwr.retained.lastRunTime.toNat
  | 14 => s.pwr.retained.lastTrigger
  | 15 => s.powerEstimate
  | 16 => s.pace.margin
  | 18 => s.pace.withholds.toNat
  | 19 => s.pace.low
  | 20 => s.demandParam (fun d => d.on 0) 1
  | 21 => s.demandParam (fun d => d.on 4) 1000000
  | 22 => s.demandParam (fun d => d.on 5) 1000000
  | 23 => s.demandParam (fun d => 808 * d.on 5) 100000000
  | i => s.monitorParam i

/-! ## TIME (R272) -/

def TimeMode.code : TimeMode → Nat
  | .unset => 0 | .set => 1 | .disciplined => 2 | .holdover => 3

def State.timeParam (s : State) : Nat → Nat
  | 0 => s.now.toNat
  | 1 => s.clk.mode.code + 4 * boolNat s.clk.pllLocked + 8 * boolNat s.clk.refclk + 16 * boolNat s.clk.ppsOk +
      32 * boolNat s.clk.pendingSet.isSome
  | 11 => signedField 64 s.clk.freq
  | 12 => signedField 64 s.clk.phaseErr
  | 13 => s.clk.ppsLast.toNat
  | 14 => s.clk.ppsRejects.toNat
  | 15 => s.clk.pllSearches.toNat
  | _ => 0

/-! ## ARRAY (R46, R75, R112, R316) -/

/-- `ARRAY.QUAD_STATE` and `ARRAY.SEG_STATE`. -/
def State.quadState (s : State) : Nat :=
  s.pix.quadReady.toNat + 16 * maskBy 4 fun q => s.powered q && !s.pix.quadReady.getLsbD q
def State.segState (s : State) : Nat :=
  s.pix.segReady.toNat + 256 * maskBy 6 fun g => s.powered (6 + g) && !s.pix.segReady.getLsbD g

/-- `ARRAY.CAP_STATE`: captures are scheduled while ETS may commit them, armed while the unit also is. -/
def State.capState (s : State) : Nat :=
  let ready := s.capturing && (s.stored 0x1006 = 0 || s.pin.armed)
  let exposing := s.ets.captures.any fun c => c.t0Tick ≤ s.clk.ticks && s.clk.ticks < c.close
  boolNat ready + 2 * boolNat exposing + 4 * boolNat s.readingOut + 8 * boolNat s.pace.withhold

def State.arrayParam (s : State) : Nat → Nat
  | 0x00 => boolNat Config.monochrome
  | 0x01 => 12288
  | 0x02 => 9216
  | 0x05 => s.quadState
  | 0x0F => s.capState
  | 0x10 => s.ets.coalescedTotal.toNat
  | 0x11 => s.ets.sliceDrops.toNat
  | 0x12 => s.ets.intervalUsed
  | 0x13 => s.ets.rowquadsRead
  | 0x1E => s.segState
  | 0x1F => s.dcgRatio
  | 0x20 => s.pdp.blackMean
  | 0x21 => s.defects.length
  | 0x22 => s.ets.capturesTotal.toNat
  | 0x23 => s.ets.withheld.toNat
  | 0x24 => s.ets.accepted.toNat
  | 0x25 => s.ets.lastT0.toNat
  | 0x26 => s.ets.lastClose
  | 0x27 => s.ets.profilesInUse
  | 0x28 => s.ets.trigLast.toNat
  | 0x29 => (s.pdp.stats.map fun x => x.capture.toNat).getD allOnes64
  | 0x2A => s.ets.lagMax
  | 0x2B => s.tab.tileWrites.toNat
  | 0x2C => s.pix.quadPowerups.toNat
  | 0x2D => s.tab.colState
  | 0x2E => s.tab.defectState
  | 0x2F => s.nvs.retained.capEnd.toNat
  | _ => 0

/-! ## VIEW and PROFILE (R114, R58) -/

def ViewState.code : ViewState → Nat
  | .idle => 0 | .starting => 1 | .running => 2 | .stopping => 3

/-- The staged fields of a view (R115). -/
def State.stagedGen (s : State) (v : Nat) : ViewGen :=
  let f (i : Nat) := s.stored (viewId v i)
  { x0 := f 2, y0 := f 3, width := f 4, height := f 5, bin := f 6, skip := f 7, format := f 8, rateDiv := f 9, ratePhase := f 10
    streamId := f 11, segFrames := f 12, segTime := f 13 }

/-- A view's read-only fields (R114). `VIEW.STATE` [4] reads 0 while no generation was installed (DESIGN CHOICE, log 67: there is no
active generation to differ from). -/
def State.viewParam (s : State) (v : Nat) (f : Nat) : Nat :=
  let x := s.viewAt v
  match f with
  | 0 => x.state.code + 16 * boolNat (x.genNo != 0 && x.gen != s.stagedGen v)
  | 1 => x.genNo
  | 14 => if x.genNo = 0 then 0 else x.gen.lineBytes
  | 15 => if x.genNo = 0 then 0 else x.gen.frameBytes
  | 16 => x.readRate
  | 17 => x.frames.toNat
  | 18 => x.gaps.toNat
  | 19 => x.lastCapture.toNat
  | _ => 0

def State.profileParam (s : State) (p : Nat) (f : Nat) : Nat :=
  if f = 10 then (spFind p s.ets.spans).getD 0 else (spFind p s.ets.leads).getD 0xFFFFFFFF

/-! ## LINK (R228, R253) -/

def State.linkParam (s : State) : Nat → Nat
  | 0x01 => s.lnk.state.code
  | 0x03 => s.lnk.rateUsed
  | 0x06 => s.lnk.lanesUsed
  | 0x0A => s.lnk.ffePreset
  | 0x12 => s.lnk.fomLast.toNat
  | 0x13 => s.lnk.rlFom.toNat
  | 0x17 => s.lnk.retrains.toNat
  | 0x1C => s.lnk.seq.toNat
  | 0x1D => queueSize s.lnk.data
  | 0x1E => queueSize s.lnk.sealQ
  | 0x1F => queueSize s.lnk.control
  | 0x20 => s.lnk.sealDropped.toNat
  | 0x21 => s.lnk.eventsDropped.toNat
  | 0x22 => s.lnk.gaps.toNat
  | 0x23 => s.lnk.outageTime.toNat
  | 0x24 => s.lnk.markerCount.toNat
  | 0x25 => s.lnk.rlFecCorr.toNat
  | 0x26 => s.lnk.rlFecUncorr.toNat
  | 0x27 => s.lnk.rlBlockLosses.toNat
  | _ => 0

/-! ## SEAL (R160, R317) -/


/-- `SEAL.PUBKEY`. -/
def State.sealPublic (s : State) : Bytes :=
  if s.derives then edPublic (sealKey s.seed s.epochNow) else zeros 32

def State.sealParam (s : State) (i : Nat) : Nat :=
  match i with
  | 0 => s.sealState.code
  | 1 => s.sea.vermilion
  | 2 => s.epochNow
  | 4 => s.sea.prompt.length
  | 5 => s.sea.sigSkipped.toNat
  | 6 => s.sea.signedTotal.toNat
  | 7 => s.sea.segNext.toNat
  | 8 => s.sea.selfTest
  | 0x11 => s.sea.enginePass.toNat
  | 0x12 => s.sea.buffer
  | 0x13 => s.sea.treeHashes.toNat
  | 0x14 => s.sea.framesSealed.toNat
  | 0x15 => s.nvs.retained.truncatedTotal.toNat
  | 0x16 => s.sea.resign.length
  | 0x17 => s.sea.resignedTotal.toNat
  | 0x18 => s.sea.recordsSent.toNat
  | 0x19 => s.sea.lastSigned.toNat
  | 0x1A => s.sea.sigTimeMax.toNat
  | 0x1B => maskBy 32 fun v => (s.viewAt v).hasOpen
  | _ =>
    if i < 0x0D then (spGet 0 (i - 9) s.sea.groupBytes).toNat
    else if i < 0x11 then (spGet 0 (i - 0x0D) s.sea.groupStrips).toNat
    else leAt (8 * (i - 0x1C)) 8 s.sealPublic

/-! ## LEDGER (R186) -/

def EpochState.code : EpochState → Nat
  | .idle => 0 | .closing => 1 | .clearing => 2 | .opening => 3
def Journal.code : Journal → Nat
  | .idle => 0 | .shadow => 1 | .apply => 2

/-- `LEDGER.NV_STATE`. -/
def State.nvState (s : State) : Nat :=
  s.nvs.journal.state.code + 4 * boolNat (1 < s.nvs.blocks.length)

def State.ledgerParam (s : State) : Nat → Nat
  | 0 => slots
  | 1 => s.led.nextSeq.toNat
  | 2 => s.oldestSeq.toNat
  | 3 => s.led.present
  | 4 => s.led.epochState.code
  | 5 => s.exportMark.toNat
  | 6 => s.unexported
  | 7 => s.nvs.retained.lost.toNat
  | 8 => s.nvs.rate.toNat
  | 9 => s.nvs.horizon.toNat
  | 10 => s.nvs.commits.toNat
  | 11 => s.nvs.retained.crcErrors.toNat
  | 12 => (lowWord s.nvs.retained.bootCount).toNat
  | 13 => (lowWord s.nvs.retained.closeCount).toNat
  | 14 => (lowWord s.nvs.retained.debugCount).toNat
  | 15 => (lowWord s.nvs.retained.timeCount).toNat
  | 16 => s.nvs.retained.rollbacks.toNat
  | 17 => s.retentionUsed
  | 18 => s.nvs.retained.prevEpochLast.toNat
  | 19 => s.nvState
  | _ => 0

/-! ## HKC (R422) -/

/-- The converted value of a channel. -/
def State.hkcValue (s : State) (ch : Nat) : Int := (spGet {} ch s.hkc.values).value

/-- `HKC.STATE` [1:0]. -/
def Hkc.activity (h : Hkc) : Nat :=
  match h.conv with
  | some c => match c.work with | .scan => 1 | .priority => 2 | .calibration => 3
  | none => if h.prio.isSome then 2 else if h.pass.isSome && !h.suspended then 1 else 0

/-- A calibration waits for its conversion. -/
def Hkc.queued (h : Hkc) : Bool := h.cal.isSome && !h.conv.any fun c => c.work = .calibration

/-- `HKC.STATE`, `HKC.SUPPLY_MV`, `HKC.CAL_STATE` and `HKC.CAL_COEF`. -/
def State.hkcState (s : State) : Nat :=
  s.hkc.activity + 4 * boolNat s.hkc.settled + 8 * boolNat s.hkc.suspended + 16 * boolNat s.hkc.queued
def State.supplyMv (s : State) : Nat :=
  (List.range 4).foldl (fun a ch => a + min 65535 (s.hkcValue ch).toNat * 65536 ^ ch) 0
def State.calWord (s : State) : Nat :=
  s.hkc.calChannel + 16 * s.hkc.calState + 256 * s.hkc.calRestarts +
    4096 * boolNat (spFind s.hkc.calChannel s.hkc.zeros).isSome
def State.calCoefWord (s : State) : Nat :=
  let c := s.hkcCoef (s.stored 0x282C)
  signedField 32 c.1 + 4294967296 * c.2

def State.hkcParam (s : State) (i : Nat) : Nat :=
  match i with
  | 0x00 => s.hkcState
  | 0x24 => signedField 64 s.tempMax
  | 0x25 => (s.hkcValue 4).toNat
  | 0x26 => s.supplyMv
  | 0x27 => (s.hkcValue 9).toNat
  | 0x28 => (s.hkcValue 10).toNat
  | 0x2B => s.calWord
  | 0x2D => s.calCoefWord
  | 0x2E => s.hkc.ovrCount.toNat
  | 0x2F => s.hkc.missedScan + 65536 * s.hkc.missedPrio
  | _ =>
    if i < 0x20 then spGet 0 (i - 0x10) s.hkc.results
    else signedField 64 (s.hkcValue (5 + (i - 0x20)))

/-! ## PIN (R404, R405) -/

def ShadeState.code : ShadeState → Nat
  | .idle => 0 | .running => 1 | .halted => 2

/-- `PIN.SHADE_STATEs`, `PIN.SHADE_REGs` and `PIN.SHADE_LOSSs`. -/
def Shade.stateWord (x : Shade) : Nat :=
  x.state.code + 8 * boolNat x.waiting.isSome + 16 * boolNat x.changed + 32 * boolNat x.overrun + 256 * x.gen + 65536 * x.pc +
    2 ^ 24 * x.inFifo.length + 2 ^ 28 * x.outFifo.length + 2 ^ 32 * x.bc
def Shade.regWord (x : Shade) : Nat :=
  x.d.toNat + 2 ^ 32 * x.k.toNat + 2 ^ 48 * boolNat x.z + 2 ^ 49 * boolNat x.t
def Shade.lossWord (x : Shade) : Nat := x.stale + 65536 * x.drops

/-- The outputs of the tint engines, two bits an engine. -/
def State.tintOutputs (s : State) : Nat := (List.range 8).foldl (fun a e => a + s.tintOut e * 4 ^ e) 0

def State.pinParam (s : State) (i : Nat) : Nat :=
  match i with
  | 0x19 => (List.range 8).foldl (fun a e => a + (s.tintAt e).state * 16 ^ e) 0
  | 0x1A => s.pin.levels.toNat + 65536 * s.tintOutputs
  | 0x1B => boolNat s.pin.armed + 2 * boolNat s.pin.active + 4 * boolNat s.pin.holdPassed + 256 * s.pin.ignored
  | _ =>
    if i < 0x20 then (s.shadeAt (i - 0x1C)).stateWord
    else if i < 0x24 then (s.shadeAt (i - 0x20)).regWord
    else (s.shadeAt (i - 0x24)).lossWord

/-! ## WDOG (R382) -/

def State.wdogParam (s : State) (i : Nat) : Nat :=
  match i with
  | 0 => maskBy 16 fun k => (spFind k s.wdg.slots).isSome
  | 1 => maskBy 16 fun k => (spFind k s.wdg.slots).any WdgSlot.strict
  | 2 => s.rst.retained.missingLast.toNat
  | 3 => s.wdg.doubles.toNat
  | 13 => s.rst.retained.monitorLast
  | 14 => s.rst.retained.records
  | 15 => s.rst.retained.holdoffMax.toNat
  | _ => (spGet 0 (i - 4) s.rst.retained.counts).toNat

/-! ## FUS and ROLE (R350) -/

def State.fusParam (s : State) : Nat → Nat
  | 0 => s.fus.groupStates
  | 1 => s.fus.lcSteps
  | 2 => s.fus.fwarSteps
  | 3 => s.fus.epochSteps
  | 4 => s.fus.opRev
  | 5 => s.fus.inRev
  | 6 => s.fus.weak
  | 7 => s.fus.driftCount.toNat
  | 8 => s.fus.opState + 128 * boolNat s.fus.cut
  | 9 => s.fus.idBank
  | 10 => boolNat s.fus.retireSeal + 2 * boolNat s.fus.retireIdentity
  | 11 => boolNat s.fus.debug + 2 * boolNat s.fus.debugPolicy
  | _ => 0

/-- The key `ROLE.KEY_SELECT` selects. -/
def State.selectedKey (s : State) : Option Bytes := s.keyOf (s.stored 0x3809 % 4) (s.stored 0x3809 / 16)

/-- The record of an operator or installer key, or the maker key's. -/
def State.keyRecord (s : State) (role slot : Nat) : Nat × Nat × Nat :=
  match s.keySlot role slot with
  | some k => (k.stamp, k.bySlot, k.byRole)
  | none => (0, 0, 0)

/-- `ROLE.KEY_INFO`. -/
def State.keyInfo (s : State) : Nat :=
  if s.selectedKey.isNone then 0
  else
    let r := s.keyRecord (s.stored 0x3809 % 4) (s.stored 0x3809 / 16)
    r.1 + 256 * r.2.1 + 65536 * r.2.2 + 2 ^ 24

def State.roleParam (s : State) : Nat → Nat
  | 0 => maskBy 16 fun k => (s.keyOf 1 k).isSome
  | 1 => maskBy 4 fun k => (s.keyOf 2 k).isSome
  | 2 => if s.makerKey.isSome then 1 else if s.role.maker.now.isSome then 2 else 0
  | 3 => s.ctl.retained.enrolments.toNat
  | 4 => s.ctl.retained.revocations.toNat
  | 5 => s.ctl.retained.roleFailures.toNat
  | 6 => s.ctl.lastRole
  | 7 => s.ctl.lastSlot
  | 8 => s.role.storeState
  | 10 => (s.selectedKey.map fun k => leAt 0 8 (sha512 k)).getD 0
  | 11 => s.keyInfo
  | _ => 0

/-! ## Any parameter -/

/-- A read-only parameter, by group and index (R304). -/
def State.readOnly (s : State) (id : Nat) : Nat :=
  let i := id % 1024
  match id / 1024 with
  | 1 => s.deviceParam i
  | 2 => s.powerParam i
  | 3 => s.timeParam i
  | 4 => s.arrayParam i
  | 5 => s.viewParam (i / 32) (i % 32)
  | 6 => s.profileParam (i / 16) (i % 16)
  | 7 => s.linkParam i
  | 8 => s.sealParam i
  | 9 => s.ledgerParam i
  | 10 => s.hkcParam i
  | 11 => s.pinParam i
  | 12 => s.wdogParam i
  | 13 => s.fusParam i
  | 14 => s.roleParam i
  | _ => 0

/-- What a parameter reads as. -/
def State.paramValue (s : State) (r : ParamRow) (id : Nat) : Nat :=
  if r.writable && id != 0x2405 then s.stored id else s.readOnly id

/-! ## The read messages (R306, R308, R309) -/

/-- The entry of R305. -/
def State.readEntry (s : State) (id : Nat) : Bytes :=
  match paramRow id with
  | some r => paramEntry id r.size (s.paramValue r id)
  | none => []

/-- The role a parameter demands of a reader: public, OPERATOR, or MAKER (R308). -/
def ParamRow.readRole (r : ParamRow) : Nat := if r.isPublic then 0 else if r.role = 3 then 3 else 1

/-- The first ID that fails: its index and the error. -/
def readError (role : Nat) : Nat → List Nat → Option (Nat × Nat)
  | _, [] => none
  | i, id :: rest =>
    match paramRow id with
    | none => some (i, errRange)
    | some r => if role < r.readRole then some (i, errRole) else readError role (i + 1) rest

/-- The IDs a read names, from offset `o` of the body. -/
def Msg.ids (m : Msg) (o n : Nat) : List Nat := (List.range n).map fun i => m.field (o + 2 * i) 2

/-- A list of `n` items of `size` bytes after `fixed` bytes: the count lies in its range and matches the length. -/
def Msg.counted (m : Msg) (at_ fixed size most len : Nat) : Bool :=
  let n := m.field at_ 2
  1 ≤ n && n ≤ most && len = fixed + size * n

/-- A body that can hold a list: the fixed part and a whole number of items (check 3). -/
def listBody (fixed size most : Nat) (_ : Msg) (l : Nat) : Bool :=
  fixed + size ≤ l && l ≤ fixed + size * most && (l - fixed) % size = 0

/-- A read: the count, then each ID. -/
def State.readParams (s : State) (role fixed len : Nat) (m : Msg) : Answer :=
  if !m.counted (fixed - 4) fixed 2 256 len then s.refuse errRange
  else
    let ids := m.ids fixed (m.field (fixed - 4) 2)
    match readError role 0 ids with
    | some (i, e) => { s := s, status := e, detail := i }
    | none => s.accept (ids.flatMap s.readEntry)

def execMsgParamGet (s : State) : Result :=
  .next (s.serveCode ⟨0x10, 0, true, false⟩ (listBody 4 2 256) noGen fun s m => s.readParams 0 4 m.openBody.length m)

def execMsgParamGetSigned (s : State) : Result :=
  .next (s.serveCode ⟨0x11, 1, false, false⟩ (listBody 8 2 256) noGen fun s m => s.readParams m.role 8 m.signedBody.length m)

end Sys2Proof.Machine
end

