-- ==== Sys2Proof/Machine/ParamWrite.lean ====
section
/-! DEFINITION. Parameters written (13): the checks of `MSG_PARAM_SET` in their order (R312), the ranges of every writable parameter,
and what an accepted write does at once (R313). -/

namespace Sys2Proof.Machine

/-! ## Values as they are stored (R9) -/

/-- The bits of a `PIN.CFGn` value that are not reserved (R386): SOURCE counts under FUNCTION 3 and 4 only. -/
def pinCfgMask (v : Nat) : Nat :=
  0xFFFFFFFF00003FFF + (if v % 16 = 3 then 0xF0000 else if v % 16 = 4 then 0x30000 else 0)

/-- A value without its reserved bits; `POWER.WAKE_SOURCE` [0] reads 1. -/
def storedBits (id v : Nat) : Nat :=
  if 0x2C00 ≤ id && id < 0x2C10 then v &&& pinCfgMask v
  else if 0x1400 ≤ id && id < 0x1800 then (if id % 32 = 7 then v &&& 0x33 else v)
  else if 0x1800 ≤ id && id < 0x1C00 then (if id % 16 = 5 then v &&& 3 else v)
  else match id with
    | 0x0803 => v &&& 6 ||| 1
    | 0x0804 => v &&& 0x1F
    | 0x1004 => v &&& 0x0F
    | 0x101D => v &&& 0x3F
    | 0x2802 | 0x2803 => v &&& 0x7F0037
    | 0x280B => v &&& 0x0F
    | 0x280D => v &&& 0x9F
    | 0x2829 => v &&& 0x3FFFF
    | 0x3809 => v &&& 0xF3
    | _ => v

/-! ## Ranges (step 6) -/

/-- The two knees of R110. -/
def kneeOk (v : Nat) : Bool :=
  let k0 := v % 65536
  let k1 := v / 65536
  k1 ≤ 16000 && k0 ≤ k1 && [256, 512, 1024, 2048, 4096].contains (k1 - k0)

/-- `TIME.LOOP_GAIN` (R272). -/
def loopGainOk (v : Nat) : Bool := v % 16 ≤ 7 && within 2 10 (v / 16) && v % 16 < v / 16

/-- `LINK.LANE_MAP`: four distinct physical lanes of this part (R2, R228). -/
def laneMapOk (v : Nat) : Bool :=
  let l := (List.range 4).map fun k => bitsOf v (4 * k) 3
  l.all (· < 4) && l.eraseDups.length = 4

/-- A tint input code of R391. -/
def tintCodeOk (c : Nat) : Bool := c ≤ 0x45 || within 0x48 0x4F c || c = 0xFE || c = 0xFF

/-- A timing word of R422: the short period counts under code 4 only. -/
def hkcTimingOk (v : Nat) : Bool := v % 8 ≤ 4 && (v % 8 != 4 || within 10 100 (bitsOf v 16 7))

/-- `ROLE.KEY_SELECT`: an existing slot. -/
def keySelectOk (v : Nat) : Bool :=
  let role := v % 4
  let slot := v / 16
  (role = 1 && slot < 16) || (role = 2 && slot < 4) || (role = 3 && slot = 0)

/-- A field of a view (R114). -/
def viewRange (f v : Nat) : Bool :=
  match f with
  | 2 => v ≤ 12032 && v % 16 = 0
  | 3 => v ≤ 9152 && v % 8 = 0
  | 4 => within 256 12288 v && v % 16 = 0
  | 5 => within 64 9216 v && v % 8 = 0
  | 6 => v ≤ 1
  | 8 => v ≤ 3
  | 9 => within 1 256 v
  | 10 => v ≤ 255
  | 12 => within 1 3600 v
  | 13 => within 100 60000 v
  | _ => true

/-- A field of profile `p` (R58, R59), with the values that would stand. -/
def State.profileRange (s : State) (p f v : Nat) : Bool :=
  match f with
  | 0 => within (s.stored (profileId p 8)) (s.stored (profileId p 9)) v
  | 1 => within 1 1024 v
  | 2 => within 1 64 v
  | 3 => within 6 500000000 v
  | 4 => v ≤ 500000000
  | 6 => v ≤ 1
  | 7 => 1 ≤ v
  | 8 => within 125 500000000 v
  | 9 => within 125 500000000 v
  | _ => true

/-- DEVICE, POWER and TIME. -/
def earlyRange (id v : Nat) : Bool :=
  match id with
  | 0x0801 => within 620 900 v
  | 0x0802 => within 1 1000 v
  | 0x0811 => v ≤ 10
  | 0x0C02 => v % 8 = 0
  | 0x0C03 => v ≤ 1
  | 0x0C04 => v ≤ 16
  | 0x0C05 => v ≤ 1
  | 0x0C06 => v ≤ 999999999
  | 0x0C07 => within 8 100000000 v
  | 0x0C08 => within 1000 100000 v
  | 0x0C09 => loopGainOk v
  | 0x0C0A => within 1100 10000 v
  | _ => true

/-- ARRAY. -/
def arrayRange (id v : Nat) : Bool :=
  match id with
  | 0x1003 => v ≤ 1
  | 0x1006 => v ≤ 1
  | 0x1007 => v ≤ 2
  | 0x1008 => v ≤ 1
  | 0x1009 => within 250000 1250000000 v
  | 0x100A => v % 8 = 0
  | 0x100B => v = 0 || 275 ≤ v
  | 0x100C => v ≤ 31
  | 0x100D => v ≤ 1
  | 0x100E => v ≤ 1
  | 0x1014 => v ≤ 1023
  | 0x1015 => v ≤ 4095
  | 0x1016 => v ≤ 7
  | 0x1017 => v ≤ 1
  | 0x1018 => v ≤ 1
  | 0x1019 => kneeOk v
  | 0x101A => kneeOk v
  | 0x101B => v ≤ 4
  | 0x101C => v ≤ 1
  | _ => true

/-- LINK; the coefficient sets are checked at step 8 (R213). -/
def State.linkRange (s : State) (id v : Nat) : Bool :=
  match id with
  | 0x1C00 => v ≤ 1
  | 0x1C02 => v ≤ 2
  | 0x1C04 => within 1 15 v
  | 0x1C05 => [1, 2, 4].contains v
  | 0x1C07 => laneMapOk v
  | 0x1C08 => v ≤ 2
  | 0x1C09 => v ≤ 1
  | 0x1C0F => within 400 900 v && v % 50 = 0
  | 0x1C10 => 32 ≤ v && s.stored 0x1C11 ≤ v
  | 0x1C11 => within 32 (s.stored 0x1C10) v
  | 0x1C14 => within 1 32 v
  | 0x1C15 => within 10 10000 v
  | 0x1C16 => v ≤ 1
  | 0x1C18 => within 1 10000 v
  | 0x1C19 => v ≤ 15
  | 0x1C1A => within 1 1000 v
  | 0x1C1B => within 1 31 v
  | _ => true

/-- HKC. -/
def hkcRange (id v : Nat) : Bool :=
  match id with
  | 0x2801 => v ≤ 2
  | 0x2802 => hkcTimingOk v
  | 0x2803 => hkcTimingOk v
  | 0x2805 => v ≤ 16
  | 0x2806 => v ≤ 2
  | 0x2807 => 1 ≤ v
  | 0x280A => v ≤ 4
  | 0x280E => within 1 (v / 65536) (v % 65536)
  | 0x280F => within 1000 100000 v
  | 0x282A => 1 ≤ v
  | 0x282C => v ≤ 15
  | _ => true

/-- PIN (R386, R391). -/
def pinRange (id v : Nat) : Bool :=
  if id < 0x2C10 then v % 16 ≤ 4 && bitsOf v 5 2 != 3
  else if id < 0x2C18 then (List.range 4).all fun k => tintCodeOk (bitsOf v (8 * k) 8)
  else true

/-- `LEDGER.EXPORT_MARK`: from the oldest sequence to the next one (R186). -/
def State.markRange (s : State) (v : Nat) : Bool := (BitVec.ofNat 32 v - s.oldestSeq).toNat ≤ s.led.present

/-- The value lies in its range, on the values that would stand. -/
def State.rangeOk (s : State) (id v : Nat) : Bool :=
  match id / 1024 with
  | 4 => arrayRange id v
  | 5 => viewRange (id % 32) v
  | 6 => s.profileRange (id % 1024 / 16) (id % 16) v
  | 7 => s.linkRange id v
  | 8 => within 1 4 v
  | 9 => s.markRange v
  | 10 => hkcRange id v
  | 11 => pinRange id v
  | 14 => keySelectOk v
  | _ => earlyRange id v

/-! ## State conditions (step 7) -/

/-- Parameters written only with every view IDLE (R310). -/
def idleOnly : List Nat :=
  [0x1003, 0x1006, 0x1007, 0x1008, 0x1009, 0x100A, 0x100B, 0x100C, 0x100D, 0x101B, 0x2003]

/-- The state condition of a write; `t` is the state with the values that would stand. -/
def State.conditionOk (s t : State) (id v : Nat) : Bool :=
  if idleOnly.contains id then s.viewsIdle
  else if 0x1800 ≤ id && id < 0x1C00 && id % 16 = 0 then s.stored (id + 6) != 1
  else if id = 0x1C00 then v != 0 || s.viewsIdle
  else if id = 0x0C02 then t.stored 0x0C03 = 0 || t.stored 0x0C04 != 0
  else if 0x2C10 ≤ id && id < 0x2C18 then
    !(s.tintAt (id - 0x2C10)).running || v % 4294967296 = s.stored id % 4294967296
  else true

/-! ## The configuration that would stand (step 8) -/

/-- The quadrants the next capture would find powered. -/
def State.quadsNext (s : State) : Nat := s.pix.quadReady.toNat ||| s.neededQuads

/-- The fields of profile `p` that R51 to R55 read. -/
def State.profileReads (s : State) (p : Nat) : List Nat :=
  let k := s.stored 0x1007
  [profileId p 0, profileId p 2, profileId p 8, profileId p 9] ++
    (if 2 ≤ s.stored (profileId p 2) then [profileId p 3] else []) ++
    (if k = 1 then [profileId p 1] else []) ++ (if k = 2 then [profileId p 4] else [])

/-- The budget of a profile's tiles behind the readout of the capture `c` (R66: the next capture paired with the current one); none
where `c` reads none of them. -/
def State.budgetBehind (s : State) (quads : Nat) (c : Capture) (p : Nat) : Option Int :=
  let rows := ((tilesOf (quads &&& c.quads)).filter fun t => s.tileProfile t = p).map fun t => t / 24
  if rows.isEmpty then none
  else some ((s.stored 0x1009 : Int) - (lastQuad c.quads c.chargeBin (maxList rows) + 1) * c.interval - 500)

/-- R66 for the next capture behind the current one. -/
def State.meetsPairing (s : State) (quads : Nat) : Bool :=
  match s.ets.captures.getLast? with
  | none => true
  | some c =>
    let us := s.uses quads
    s.stored 0x1006 = 1 || us.all fun u => (u.leads (s.stored 0x1007) (maxSpan us)).all fun l =>
      (s.budgetBehind quads c u.profile).all fun b => l ≤ b

/-- R66 as a whole. -/
def State.meetsR66 (s : State) : Bool := s.meetsBudgets s.quadsNext && s.meetsPairing s.quadsNext

/-- The lowest index of an entry that a rule reads, if there is one. -/
def lowestOf (reads ids : List Nat) : Option Nat := ids.findIdx? reads.contains

/-- R213: each coefficient set written is valid. -/
def ffeFails (l : List (Nat × Nat)) : Option Nat :=
  l.findIdx? fun x => 0x1C0B ≤ x.1 && x.1 ≤ 0x1C0E && !(tapsOf x.2).valid

/-- R55: a profile in use would be left invalid. -/
def State.profilesFail (t : State) (ids : List Nat) : Option Nat :=
  let bad := (t.profilesInUse t.quadsNext).filter fun p => !t.profileValid p
  let hits := bad.filterMap fun p => lowestOf (t.profileReads p ++ [0x1003, 0x1004, 0x1007]) ids
  hits.min?

/-- R59: an EXP_MIN above its EXP_MAX would stand. -/
def State.limitsFail (t : State) (ids : List Nat) : Option Nat :=
  ids.findIdx? fun id => (List.range 16).any fun p =>
    (id = profileId p 8 || id = profileId p 9) && t.stored (profileId p 9) < t.stored (profileId p 8)

/-- R66, at every write to a PROFILE field. -/
def State.budgetsFail (t : State) (ids : List Nat) : Option Nat :=
  if !(ids.any fun id => id / 1024 = 6) || t.meetsR66 then none
  else
    let reads := [0x1003, 0x1004, 0x1006, 0x1007, 0x1008, 0x1009, 0x100B] ++ (t.profilesInUse t.quadsNext).flatMap t.profileReads
    some ((lowestOf reads ids).getD 0)

/-! ## The checks of R312 -/

/-- The value of an entry fits the type (step 5). -/
def ParamRow.fits (r : ParamRow) (v : Nat) : Bool :=
  if r.signed then signedField 64 (toSigned (8 * r.size) v) = v else v < 2 ^ (8 * r.size)

/-- Steps 1 to 5 of one entry. -/
def stepsOne (role : Nat) (earlier : List Nat) (e : Bytes) : Nat :=
  let id := leAt 0 2 e
  match paramRow id with
  | none => errRange
  | some r => firstError [(earlier.contains id, errRange), (!r.writable, errState), (leAt 2 1 e != r.size, errRange),
      (role < r.role, errRole), (!r.fits (leAt 4 8 e), errRange)]

/-- Steps 1 to 5 of every entry: the first failure. -/
def stepsAll (role : Nat) : Nat → List Nat → List Bytes → Option (Nat × Nat)
  | _, _, [] => none
  | i, earlier, e :: rest =>
    let x := stepsOne role earlier e
    if x != 0 then some (i, x) else stepsAll role (i + 1) (leAt 0 2 e :: earlier) rest

/-- The writes of a message: ID and value as it is stored. -/
def writesOf (l : List Bytes) : List (Nat × Nat) := l.map fun e => (leAt 0 2 e, storedBits (leAt 0 2 e) (leAt 4 8 e))

/-- The mark a write of `m` leaves: where the write's own CONFIG entry has just overwritten the entry at `m`, it moves with the wrap
(R178). -/
def State.markFor (s : State) (m : Word) : Option Word := if (m - s.oldestSeq).toNat ≤ s.led.present then some m else none

/-- A value stored (R311). -/
def State.put (s : State) (id v : Nat) : State :=
  if id = 0x2405 then { s with nvs := s.nvs.putMark (s.markFor (BitVec.ofNat 32 v)) }
  else match paramRow id with
    | some r => if r.persistent then s.storePar id v else s.setPar id v
    | none => s

/-- `PROFILE.EXPOSURE` clamped into limits that were written (R59). -/
def State.clampExposure (s : State) (p : Nat) : State :=
  s.setPar (profileId p 0) (min (s.stored (profileId p 9)) (max (s.stored (profileId p 8)) (s.stored (profileId p 0))))

/-- The profiles whose limits the message writes. -/
def narrowed (l : List (Nat × Nat)) : List Nat :=
  (List.range 16).filter fun p => l.any fun x => x.1 = profileId p 8 || x.1 = profileId p 9

/-- The values of the message stored, all at one instant. -/
def State.putAll (s : State) (l : List (Nat × Nat)) : State :=
  (narrowed l).foldl State.clampExposure (l.foldl (fun (s : State) x => s.put x.1 x.2) s)

/-- Steps 6 to 8: index and error of the first failure. -/
def State.lateFailure (s : State) (l : List (Nat × Nat)) : Option (Nat × Nat) :=
  let t := s.putAll l
  let ids := l.map Prod.fst
  match l.findIdx? fun x => !t.rangeOk x.1 x.2 with
  | some i => some (i, errRange)
  | none =>
    match l.findIdx? fun x => !s.conditionOk t x.1 x.2 with
    | some i => some (i, errState)
    | none => ((((t.profilesFail ids).orElse fun _ => t.limitsFail ids).orElse fun _ => t.budgetsFail ids).orElse fun _ =>
      ffeFails l).map fun i => (i, errRange)

/-! ## What a write does at once -/

/-- `TIME.SET` (R262). -/
def State.writeTime (s : State) (a : Auth) (v : Nat) : State :=
  let value := BitVec.ofNat 64 v
  if s.stored 0x0C03 = 1 then { s with clk := { s.clk with pendingSet := some ⟨value, s.clk.ticks, s.now, a, false⟩ } }
  else { s with clk := { s.clk with pendingSet := none, mode := .set } }.stepTime 1 (value - s.now).toInt

/-- `TIME.PPS_SOURCE` (R271): a change leaves DISCIPLINED; 0 drops a pending set. -/
def State.writePps (s : State) (old v : Nat) : State :=
  if old = v then s
  else
    let c := { s.clk with lastEdgeTick := s.clk.ticks, ppsOk := false,
                          mode := if s.clk.mode = .disciplined then .set else s.clk.mode }
    let s1 := { s with clk := c }
    if v = 0 then s1.dropPendingSet else s1

/-- `LINK.ENABLE` (R227). -/
def State.writeEnable (s : State) (v : Nat) : State :=
  if v = 0 then (if s.lnk.state = .off then s else s.linkOff 7)
  else if s.lnk.state = .off then s.startBringUp else s

/-- `LINK.RATE`, `LINK.LANES_MAX` or `LINK.TX_SWING` (R223 reason 6, R227). -/
def State.writeRate (s : State) : State :=
  match s.lnk.state with
  | .up => s.retrain 6
  | .off | .downWait => s
  | _ => { s with lnk := { s.lnk with retrainDue := some 6 } }

/-- `HKC.SCAN_INTERVAL` or `HKC.SCAN_START`: the TIMER grid begins now (R410). -/
def State.writeScan (s : State) : State :=
  { s with hkc := { s.hkc with gridTick := s.clk.ticks, gridUsed := 0 } }.continueScan

/-- The effect of one value in force; `s` holds every new value, `old` is the value before. -/
def State.paramEffect (s : State) (a : Auth) (old id v : Nat) : State :=
  match id with
  | 0x0803 | 0x0804 => (List.range 16).foldl State.unsampled s
  | 0x0C02 => s.writeTime a v
  | 0x0C04 => (List.range 16).foldl State.unsampled (s.writePps old v)
  | 0x1004 | 0x101D | 0x2003 => s.supply
  | 0x1006 | 0x100C | 0x100D => s.resetArm
  | 0x1007 => if old = v then s else s.freshBlack
  | 0x1C00 => s.writeEnable v
  | 0x2801 => s.writeHkcRef
  | 0x2805 => s.continueScan
  | 0x2806 | 0x2807 => s.writeScan
  | 0x280D => s.syncPulse
  | 0x2C18 => (s.runTints v).watchPulse
  | _ =>
    if 0x1800 ≤ id && id < 0x1C00 && id % 16 = 5 then (if old = v then s else s.freshBlack)
    else if 0x1800 ≤ id && id < 0x1C00 && id % 16 = 6 && v = 0 then
      { s with ets := { s.ets with aeNext := s.ets.aeNext.filter fun x => x.profile != (id - 0x1800) / 16 } }
    else s

/-- The message names `LINK.RATE`, `LINK.LANES_MAX` or `LINK.TX_SWING`. -/
def namesRate (l : List (Nat × Nat)) : Bool := l.any fun x => [0x1C02, 0x1C05, 0x1C0F].contains x.1

/-- Every value stored at one instant, then what each does; one retrain for the link's three (R313). -/
def State.applyWrites (s : State) (a : Auth) (l : List (Nat × Nat)) : State :=
  let s1 := l.foldl (fun (t : State) x => t.paramEffect a (s.stored x.1) x.1 x.2) (s.putAll l)
  (if namesRate l then s1.writeRate else s1).refreshLeads

/-- One more accepted write in `DEVICE.CONFIG_SERIAL` (R314). -/
def State.bumpSerial (s : State) : State := { s with ctl := s.ctl.retain fun t => { t with configSerial := t.configSerial + 1 } }

/-- The sequence answered: the entry's, or an open value where none is committed. -/
def State.entrySeq (s t : State) : Nat := if s.commits then (t.led.nextSeq - 1).toNat else Config.noEntry s.free

/-- An accepted write (R313). -/
def State.setParams (s : State) (m : Msg) (l : List (Nat × Nat)) : Answer :=
  let s1 := s.commitConfig m 0xFF 0
  let s2 := { s1.bumpSerial with free := s1.free + 1 }
  (s2.applyWrites m.auth l).accept (leBytes 4 (s.entrySeq s1))

/-- The entries of the message. -/
def Msg.entries (m : Msg) : List Bytes := (List.range (m.field 4 2)).map fun i => m.part (8 + 12 * i) 12

/-- `MSG_PARAM_SET` after checks 1 to 8. -/
def State.paramSet (s : State) (m : Msg) : Answer :=
  if !m.counted 4 8 12 64 m.signedBody.length then s.refuse errRange
  else match stepsAll m.role 0 [] m.entries with
    | some (i, e) => { s := s, status := e, detail := i }
    | none =>
      match s.lateFailure (writesOf m.entries) with
      | some (i, e) => { s := s, status := e, detail := i }
      | none => s.setParams m (writesOf m.entries)

/-- A write of `TIME.SET` waits for the next tick where a PPS edge was accepted in this one: a set and an edge of one tick come in
this order (R271). -/
def State.setWaits (s : State) : Bool :=
  s.pin.ppsPulse = some s.clk.ticks &&
    s.nextMsg.any fun m => m.isCode 0x12 && m.entries.any fun e => leAt 0 2 e = 0x0C02

def execMsgParamSet (s : State) : Result :=
  .next (if s.setWaits then s else s.serveCode ⟨0x12, 1, false, false⟩ (listBody 8 12 64) noGen State.paramSet)

end Sys2Proof.Machine
end

