-- ==== Sys2Proof/Machine/Tables.lean ====
section
/-! DEFINITION. Table objects (13): reads with serials and the pinned statistics set (R320, R321), staged writes (R318, R322), and the
bulk window (R307). -/

namespace Sys2Proof.Machine

/-- Bytes into the bulk window, and `BULK_STATUS` (R290). -/
def State.fillBulk (s : State) (b : Bytes) : State :=
  let bulk := nvWrite s.ctl.bulk 0 b
  { s.onReg (fun r => { r with bulkValid := b.length, bulkFilled := true }) with ctl := { s.ctl with bulk := bulk } }

/-! ## What the tables hold -/

/-- Serial of a writable table (R320). -/
def Tab.serial (t : Tab) (table : Nat) : Word :=
  if table = 1 then t.tileSerial else (t.record table).now.elim 0 TableRecord.serial

/-- The bytes of `TBL_TILEMAP` (R319). -/
def tilemapBytes (t : List (Nat × Nat)) : Bytes :=
  (List.range 216).map fun i => BitVec.ofNat 8 (spGet 0 (2 * i) t + 16 * spGet 0 (2 * i + 1) t)

/-- The tile map that bytes spell. -/
def decodeTilemap (b : Bytes) : List (Nat × Nat) :=
  (List.range 432).foldl (fun m t => spSet 0 t (bitsOf (leAt (t / 2) 1 b) (4 * (t % 2)) 4) m) []

/-- A tile record of `TBL_STATS` (R107). -/
def TileStat.bytes (t : TileStat) : Bytes :=
  t.bins.flatMap (leBytes 4) ++ leBytes 8 t.sum ++ leBytes 4 t.count ++ leBytes 4 t.sat ++ leBytes 1 t.profile ++ leBytes 1 1 ++
    zeros 6

/-- The bytes of a statistics set (R107). -/
def StatsSet.bytes (x : StatsSet) : Bytes :=
  leBytes 8 x.capture.toNat ++ leBytes 8 x.t0.toNat ++ leBytes 1 x.kind ++
    leBytes 1 (boolNat x.chargeBin + 2 * boolNat x.greenOnly) ++ leBytes 2 x.tiles.length ++ zeros 12 ++
    (List.range 432).flatMap fun t => match spFind t x.tiles with
      | some r => r.bytes
      | none => zeros 280

/-- The serial of a set (R320). -/
def StatsSet.serial (x : StatsSet) : Nat := x.capture.toNat % 4294967296

/-- The set a read at offset `o` works on: the newest complete one at 0, else the one still pinned (R321). -/
def State.statsFor (s : State) (o : Nat) : Option StatsSet :=
  if o = 0 then s.pdp.stats
  else match s.pdp.pinned with
    | some (x, t) => if s.clk.ticks < t + 12500000 then some x else none
    | none => none

/-- Size of a table in bytes. -/
def State.tableSize (s : State) (table : Nat) : Nat :=
  match table with
  | 1 => 216
  | 2 => 8 * s.defects.length
  | 3 => 393216
  | _ => 120992

/-- Contents and serial of a table for a read at offset `o`; none where no statistics set can be read. -/
def State.tableData (s : State) (table o : Nat) : Option (Bytes × Nat) :=
  match table with
  | 1 => some (tilemapBytes s.tab.tilemap, s.tab.tileSerial.toNat)
  | 2 => some (defectBytes s.defects, (s.tab.serial 2).toNat)
  | 3 => some (colcalBytes s.colcal, (s.tab.serial 3).toNat)
  | _ => (s.statsFor o).map fun x => (x.bytes, x.serial)

/-! ## `MSG_TABLE_READ` (R320, R321) -/

/-- A read of `TBL_STATS` pins the set it works on, or lets it go at the table's end. -/
def State.pinSet (s : State) (o copied : Nat) : State :=
  match s.statsFor o with
  | some x => { s with pdp := { s.pdp with pinned := if 120992 ≤ o + copied then none else some (x, s.clk.ticks) } }
  | none => s

/-- A part of a table copied. -/
def State.copyPart (s : State) (m : Msg) (table o serial : Nat) (data : Bytes) : Answer :=
  let part := slice o (if m.inBand then min 4032 (m.field 8 4) else m.field 8 4) data
  let head := leBytes 4 part.length ++ leBytes 4 data.length ++ leBytes 4 serial ++ zeros 4
  let s1 := if table = 4 then s.pinSet o part.length else s
  if m.inBand then s1.accept (head ++ part) else (s1.fillBulk part).accept head

/-- `MSG_TABLE_READ` after checks 1 to 8. -/
def State.tableRead (s : State) (m : Msg) : Answer :=
  let table := m.field 0 1
  let o := m.field 4 4
  s.check [(!within 1 32768 (m.field 8 4) || !within 1 4 table || s.tableSize table ≤ o, errRange)] fun _ =>
    match s.tableData table o with
    | none => s.refuse errState
    | some (data, serial) =>
      s.check [(o != 0 && m.field 12 4 != serial, errState)] fun _ => s.copyPart m table o serial data

def execMsgTableRead (s : State) : Result :=
  .next (s.serveCode ⟨0x13, 0, true, false⟩ (exactly 16) noGen State.tableRead)

/-! ## `MSG_TABLE_WRITE` (R318, R322) -/

/-- A body of 88 bytes, or in-band with its part (R307). -/
def tableWriteFits (m : Msg) (l : Nat) : Bool := if m.inBand then 88 ≤ l && l ≤ 3992 else l = 88

/-- The part a message brings, of the length in its body. -/
def State.partBytes (s : State) (m : Msg) : Bytes :=
  if m.inBand then m.part 88 (m.field 12 4) else nvBytes s.ctl.bulk 0 (m.field 12 4)

/-- The length in the body is one the path allows (R307). -/
def Msg.partFits (m : Msg) : Bool :=
  if m.inBand then m.signedBody.length = 88 + m.field 12 4 else m.field 12 4 ≤ 32768

/-- An entry of `TBL_COLCAL` in its ranges (R87). -/
def colcalOk (e : Bytes) : Bool :=
  let off (o : Nat) : Bool := decide (-8192 ≤ toSigned 16 (leAt o 2 e)) && decide (toSigned 16 (leAt o 2 e) ≤ 8191)
  off 0 && off 2 && within 28672 36864 (leAt 4 2 e) && within 28672 36864 (leAt 6 2 e)

/-- The key of an entry of `TBL_DEFECT`; none outside the ranges of R95 and R96. -/
def defectKey (e : Bytes) : Option Nat :=
  let x := leAt 0 2 e
  let y := leAt 2 2 e
  let mask := leAt 5 1 e
  if x ≤ 12351 && (y ≤ 9279 || y = 65535) && leAt 4 1 e ≤ 3 && mask % 4 != 0 && mask / 4 % 4 != 0 &&
    (y != 65535 || leAt 4 1 e = 0) then some (y * 65536 + x) else none

/-- Every whole entry of `b` is in its ranges, those of `TBL_DEFECT` in strictly ascending order of their keys from `low` on. -/
def entriesOk (table : Nat) : Nat → Nat → Bytes → Bool
  | 0, _, _ => true
  | n + 1, low, b =>
    if b.length < 8 then true
    else if table = 3 then colcalOk (b.take 8) && entriesOk table n low (b.drop 8)
    else match defectKey (b.take 8) with
      | some k => low ≤ k && entriesOk table n (k + 1) (b.drop 8)
      | none => false

/-- The total of a FIRST part is one its table can have. -/
def totalOk (table total : Nat) : Bool :=
  match table with
  | 1 => total = 216
  | 3 => total = 393216
  | _ => total ≤ 524288 && total % 8 = 0

/-- The staging a part continues: a fresh one with FIRST, else the one there is, if it is of the table. -/
def State.stagingFor (s : State) (m : Msg) : Option TableStaging :=
  if bitOf (m.field 5 1) 0 then some ⟨m.field 4 1, m.field 16 4, []⟩
  else match s.tab.staging with
    | some t => if t.table = m.field 4 1 then some t else none
    | none => none

/-- The staging set. -/
def State.stage (s : State) (t : Option TableStaging) : State := { s with tab := { s.tab with staging := t } }

/-- A table's own checks at LAST (R318): for the tile map R55 and R66. -/
def State.tableChecks (s : State) (t : TableStaging) : Bool :=
  if t.table != 1 then true
  else
    let s1 := { s with tab := { s.tab with tilemap := decodeTilemap t.bytes } }
    s1.profilesValid s1.quadsNext && s1.meetsR66

/-- The tile map in force (R59, R320). -/
def State.setTilemap (s : State) (b : Bytes) : State :=
  { s with tab := { s.tab with
      tilemap := decodeTilemap b, tileSerial := s.tab.tileSerial + 1, tileWrites := s.tab.tileWrites + 1 } }.refreshLeads

/-- The body of the response. -/
def stagedBody (staged : Nat) (serial : Word) : Bytes := leBytes 4 staged ++ leBytes 4 serial.toNat

/-- The block operations a part of a calibration table costs, into the inactive image: one for each 4 KiB block it touches, with what
is staged of that block; the last of them brings the table into force with LAST. -/
def State.calibrationBlocks (s : State) (t : TableStaging) (o n : Nat) (last : Bool) : List BlockJob :=
  let k := if n = 0 then 0 else (o + n - 1) / 4096 - o / 4096 + 1
  (List.range k).map fun i =>
    let at_ := 4096 * (o / 4096 + i)
    { dest := imageAddr t.table (s.tab.inactive t.table) + at_, source := at_ - o, bytes := some (slice at_ 4096 t.bytes)
      done := if last && i + 1 = k then .tableDone t.table (sha512 t.bytes) t.bytes.length else .part }

/-- A part accepted without LAST. -/
def State.keepPart (s : State) (t : TableStaging) (o n : Nat) : Answer :=
  let blocks := if t.table = 1 then [] else s.calibrationBlocks t o n false
  { s := (s.stage (some t)).addBlocks blocks, body := stagedBody t.bytes.length (s.tab.serial t.table), waits := !blocks.isEmpty }

/-- A table complete: the CONFIG entry, and the table in force at once, or once its last block is written (R322). Where no block
operation may start any more, the command fails after its entry (R171). -/
def State.completeTable (s : State) (m : Msg) (t : TableStaging) (o n : Nat) : Answer :=
  let blocks := if t.table = 1 then [] else s.calibrationBlocks t o n true
  let s1 := (s.stage none).commitConfig m 0xFF 0
  if !(blocks.isEmpty || s1.mayStart) then s1.configFails m
  else
    let s2 := s1.bumpSerial
    let s3 := if t.table = 1 then s2.setTilemap t.bytes
      else if blocks.isEmpty then s2.tableInForce t.table (sha512 t.bytes) t.bytes.length else s2.addBlocks blocks
    { s := s3, body := stagedBody t.bytes.length (s.tab.serial t.table + 1), waits := !blocks.isEmpty }

/-- A part whose place in the staging is right. A part that fails from here on discards the staging. -/
def State.takePart (s : State) (m : Msg) (old : TableStaging) : Answer :=
  let t : TableStaging := { old with bytes := old.bytes ++ s.partBytes m }
  let last := bitOf (m.field 5 1) 1
  if t.table != 1 && !entriesOk t.table (t.bytes.length / 8) 0 t.bytes then (s.stage none).refuse errRange
  else if !last then s.keepPart t old.bytes.length (m.field 12 4)
  else if t.bytes.length = t.total && m.part 24 64 = sha512 t.bytes && s.tableChecks t then
    s.completeTable m t old.bytes.length (m.field 12 4)
  else (s.stage none).refuse errRange

/-- The minimum role to write a table (R318). -/
def tableRole (table : Nat) : Nat := if table = 1 then 2 else if table = 4 then 0 else 3

/-- `MSG_TABLE_WRITE` after checks 1 to 8. A part that these checks refuse keeps the staging, one with LAST included: R322's words on
each of them stand before its last sentence on a refused LAST (DEDUCED, log 40). -/
def State.tableWrite (s : State) (m : Msg) : Answer :=
  let table := m.field 4 1
  let first := bitOf (m.field 5 1) 0
  s.check [(!m.partFits || !within 1 4 table, errRange), (m.role < tableRole table, errRole), (table = 4, errState),
      (table != 1 && !s.viewsIdle, errState), (first && !totalOk table (m.field 16 4), errRange)] fun _ =>
    match s.stagingFor m with
    | none => s.refuse errState
    | some t =>
      s.check [(m.field 8 4 != t.bytes.length || t.total < t.bytes.length + m.field 12 4, errRange)] fun _ => s.takePart m t

def execMsgTableWrite (s : State) : Result :=
  .next (s.serveCode ⟨0x14, 2, false, false⟩ tableWriteFits noGen State.tableWrite)

end Sys2Proof.Machine
end

