-- ==== Sys2Proof/Machine/LedgerMsgs.lean ====
section
/-! DEFINITION. Messages about the ledger and the seal: seal certificates (R148), late signing (R154), ledger export (R177) and the
EPOCH operation (R179). -/

namespace Sys2Proof.Machine

/-! ## `MSG_SEAL_CERT` (R148) -/

/-- The seal certificate of epoch `e`. -/
def State.sealCert (s : State) (e : Nat) : Bytes :=
  let body := ascii "CDK-SKEY" ++ s.fus.deviceId ++ leBytes 4 e ++ zeros 4 ++ edPublic (sealKey s.seed e)
  body ++ edSign (identityKey s.seed) body

/-- `MSG_SEAL_CERT` after checks 1 to 8. -/
def State.answerSealCert (s : State) (m : Msg) : Answer :=
  s.check [(!s.derives || s.fus.retireIdentity, errState), (s.epochNow < m.field 0 4, errRange)] fun _ =>
    s.accept (s.sealCert (m.field 0 4))

def execMsgSealCert (s : State) : Result :=
  .next (s.serveCode ⟨0x30, 0, true, false⟩ (exactly 4) noGen State.answerSealCert)

/-! ## `SEAL_RESIGN` (R154, R158, R159) -/

/-- The sequences named. -/
def namedFrom (first n : Nat) : List Word := (List.range n).map fun i => BitVec.ofNat 32 (first + i)

/-- The late signing job of an entry present; its packet carries stream ID 0 (R238). -/
def State.lateJob (s : State) (q : Word) : SignJob :=
  let e := s.entryAt q
  let h := headerView (leAt 0 1 e) (leAt 1 1 e) (leAt 2 1 e)
  { seq := q, epoch := s.led.epoch, kind := leAt 0 1 e, view := h.1, gen := h.2, stream := 0, head := slice 40 64 e, after := none
    resigned := true }

/-- The jobs queued. -/
def State.resign (s : State) (m : Msg) (l : List Word) : Answer :=
  let jobs := l.map s.lateJob
  let s1 := s.commitConfig m 0xFF 0
  ({ s1 with sea := { s1.sea with resign := s1.sea.resign ++ jobs } }.supply).accept (leBytes 4 l.length)

/-- `SEAL_RESIGN` after checks 1 to 8. -/
def State.sealResign (s : State) (m : Msg) : Answer :=
  let n := m.field 8 2
  let l := namedFrom (m.field 4 4) n
  let bad := (l.filter fun q => !entryValid (s.entryAt q)).length
  s.check [(s.unprovisioned || s.fus.lifecycle = 3, errState), (!within 1 64 n || !l.all s.present, errRange),
      (!s.signs || l.any fun q => bitOf (leAt 3 1 (s.entryAt q)) 1, errState)] fun _ =>
    if bad != 0 then (s.countCrc bad).refuse errNv
    else s.check [(64 < s.sea.resign.length + n, errBusy)] fun _ => s.resign m l

def execSealResign (s : State) : Result :=
  .next (s.serveCode ⟨0x31, 1, false, false⟩ (exactly 12) noGen State.sealResign)

/-! ## `MSG_LEDGER_READ` (R177, R307) -/

/-- The response of a read from `first` on that copied the entries `l`. -/
def State.ledgerBody (s : State) (first : Word) (l : List Word) : Bytes :=
  let bad := l.filter fun q => !entryValid (s.entryAt q)
  leBytes 4 l.length ++ leBytes 4 s.oldestSeq.toNat ++ leBytes 4 s.led.nextSeq.toNat ++ leBytes 4 bad.length ++
    leBytes 4 (bad.headD 0xFFFFFFFF).toNat ++ (if first = s.oldestSeq then padTo 64 s.led.floorHead else zeros 64)

/-- The entries of the sequences copied as stored, those invalid counted. -/
def State.copyEntries (s : State) (m : Msg) (first : Word) (l : List Word) : Answer :=
  let bad := (l.filter fun q => !entryValid (s.entryAt q)).length
  let data := l.flatMap s.entryAt
  let body := s.ledgerBody first l
  let s1 := s.countCrc bad
  if m.inBand then s1.accept (body ++ data) else (s1.fillBulk data).accept body

/-- `MSG_LEDGER_READ` after checks 1 to 8. -/
def State.ledgerRead (s : State) (m : Msg) : Answer :=
  let first := BitVec.ofNat 32 (m.field 0 4)
  let n := m.field 4 2
  s.check [(!within 1 256 n || !s.present first, errRange)] fun _ =>
    let n := min (if m.inBand then min 31 n else n) (s.led.nextSeq - first).toNat
    s.copyEntries m first (namedFrom first.toNat n)

def execMsgLedgerRead (s : State) : Result :=
  .next (s.serveCode ⟨0x40, 0, true, true⟩ (exactly 8) noGen State.ledgerRead)

/-! ## `MSG_LEDGER_EPOCH` (R179) -/

/-- The life-cycle, the sealing state and the views allow the end of an epoch. -/
def State.mayEndEpoch (s : State) : Bool :=
  (s.fus.lifecycle = 1 || s.fus.lifecycle = 2) && s.sealState = .sealed && s.viewsIdle

/-- The operation accepted: CLOSING, and the closing entry once the response has gone. -/
def State.startEpoch (s : State) (m : Msg) : Answer :=
  { s := { s with led := { s.led with epochState := .closing, epochDigest := sha512 m.bytes } }, follow := 3 }

/-- `MSG_LEDGER_EPOCH` after checks 1 to 8. -/
def State.ledgerEpoch (s : State) (m : Msg) : Answer :=
  s.check [(!s.mayEndEpoch, errState), (s.fus.epochSteps = 1024, errRange), (s.led.epochState != .idle, errBusy)] fun _ =>
    s.startEpoch m

def execMsgLedgerEpoch (s : State) : Result :=
  .next (s.serveCode ⟨0x41, 3, false, false⟩ (exactly 4) noGen State.ledgerEpoch)

end Sys2Proof.Machine
end

