-- ==== Sys2Proof/Machine/CertMsgs.lean ====
section
/-! DEFINITION. The device certificate (R364, R365) and attestation (R366, R367). -/

namespace Sys2Proof.Machine

/-! ## `MSG_DEVICE_CERT` (R365) -/

/-- The operation byte of `MSG_DEVICE_CERT`. -/
def Msg.certOp (m : Msg) : Nat := m.field 0 1

/-- The body of each operation. -/
def certFits (m : Msg) (l : Nat) : Bool := l = if m.certOp = 3 then 196 else 4

/-- The rows of the three operations. -/
def certRead : MsgRow := ⟨0x04, 0, true, true⟩
def certStoreRow : MsgRow := ⟨0x04, 0, false, true⟩

/-- GET, and any operation that does not exist. -/
def State.certGet (s : State) (m : Msg) : Answer :=
  s.check [(m.certOp != 1, errRange), (s.role.cert.now.isNone, errState)] fun _ => s.accept (s.role.cert.get [])

def execDeviceCertGet (s : State) : Result :=
  .next (s.serve (fun m => m.isCode 0x04 && m.certOp != 2 && m.certOp != 3) certRead certFits noGen State.certGet)

/-- The private key of the identity of a bank, and its public key P (R344). -/
def State.identityPrivate (s : State) (bank : Nat) : Bytes := identityKey (s.fus.seedOf bank)
def State.identityPublic (s : State) (bank : Nat) : Bytes := edPublic (s.identityPrivate bank)

/-- IDENTITY, of the bank `FUS.ID_BANK` names; RETIRE_IDENTITY blocks its key (R335). -/
def State.certIdentity (s : State) : Answer :=
  let b := s.fus.idBank
  let body := s.fus.latestId ++ s.identityPublic b
  s.check [(!(b = 1 || b = 2) || s.fus.lifecycle = 3 || s.sea.vermilion != 0 || s.fus.retireIdentity, errState)] fun _ =>
    s.accept (body ++ edSign (s.identityPrivate b) (ascii "CDK-IDPK" ++ body))

def execDeviceCertIdentity (s : State) : Result :=
  .next (s.serve (fun m => m.isCode 0x04 && m.certOp = 2) certRead certFits noGen fun s _ => s.certIdentity)

/-- An identity is in force since the boot. -/
def State.identityInForce (s : State) : Bool := s.fus.bank = 1 || s.fus.bank = 2

/-- The fields of a certificate are the device's own (R364). -/
def State.certMine (s : State) (c : Bytes) : Bool :=
  slice 0 8 c = ascii "CDK-DCRT" && leAt 8 2 c = 1 && leAt 10 1 c = boolNat Config.monochrome && leAt 12 4 c = devRev &&
    slice 16 16 c = s.fus.deviceId && slice 32 32 c = s.identityPublic s.fus.bank

/-- STORE. -/
def State.certStore (s : State) (m : Msg) : Answer :=
  let c := m.part 4 192
  match s.makerKey with
  | none => s.refuse errState
  | some key =>
    s.check [(s.fus.lifecycle != 1 || !s.identityInForce || s.fus.retireIdentity, errState), (!s.certMine c, errRange),
        (!edVerify key (c.take 128) (c.drop 128), errSig)] fun _ =>
      { s with role := { s.role with cert := s.role.cert.put c } }.accept []

def execDeviceCertStore (s : State) : Result :=
  .next (s.serve (fun m => m.isCode 0x04 && m.certOp = 3) certStoreRow certFits noGen State.certStore)

/-! ## `MSG_ATTEST` (R366, R367) -/

/-- The report is signed (R367); RETIRE_IDENTITY blocks the key (R335). -/
def State.attests (s : State) : Bool := s.identityActive && s.sea.vermilion = 0 && !s.fus.retireIdentity

/-- Bytes 0 to 255 of the report. -/
def State.reportBody (s : State) (nonce : Bytes) : Bytes :=
  ascii "CDK-ATST" ++ leBytes 2 1 ++ leBytes 1 (boolNat s.attests + 2 * boolNat s.fus.debug + 4 * boolNat s.pwr.recovery) ++
    leBytes 1 s.fus.lcSteps ++ leBytes 4 devRev ++ s.fus.deviceId ++ padTo 32 nonce ++ leBytes 1 s.sealState.code ++
    leBytes 1 s.sea.vermilion ++ leBytes 1 s.fw.slot ++ leBytes 1 s.fw.update.code ++ leBytes 4 s.fw.version.toNat ++
    leBytes 2 s.fus.fwarSteps ++ leBytes 2 s.epochNow ++ leBytes 4 s.fus.groupStates ++ leBytes 4 s.resetCause.toNat ++
    leBytes 4 s.nvs.retained.bootCount.toNat ++ leBytes 4 s.led.nextSeq.toNat ++ leBytes 4 s.ctl.retained.configSerial.toNat ++
    leBytes 8 s.now.toNat ++ leBytes 8 s.lastConsumed.toNat ++ padTo 64 s.fw.digest ++ padTo 64 s.headNow ++
    leBytes 1 s.fus.opRev ++ leBytes 1 s.fus.inRev ++ zeros 14

/-- The report. -/
def State.report (s : State) (nonce : Bytes) : Bytes :=
  let body := s.reportBody nonce
  body ++ if s.attests then edSign (s.identityPrivate s.fus.bank) body else zeros 64

def execMsgAttest (s : State) : Result :=
  .next (s.serveCode ⟨0x05, 0, true, true⟩ (exactly 32) noGen fun s m => s.accept (s.report (m.part 0 32)))

end Sys2Proof.Machine
end

