-- ==== Sys2Proof/Machine/ReedSolomon.lean ====
section
/-! DEFINITION. The RS(544,514) code of R229 over GF(2^10), with the field polynomial x^10 + x^3 + 1 and the generator roots
α^0 to α^29 (log 12: R229 names IEEE 802.3 Clause 119 for them). Field elements are numbers below 1,024. -/

namespace Sys2Proof.Machine

/-- A symbol times x. -/
def gfDouble (a : Nat) : Nat := if 512 ≤ a then ((2 * a) ^^^ 0x409) % 1024 else 2 * a

/-- Product of two symbols; `n` bits of `b` are used. -/
def gfMulBits : Nat → Nat → Nat → Nat
  | 0, _, _ => 0
  | n + 1, a, b => (if b % 2 = 1 then a else 0) ^^^ gfMulBits n (gfDouble a) (b / 2)

/-- Product of two symbols. -/
def gfMul (a b : Nat) : Nat := gfMulBits 10 a b

/-- α^n. -/
def gfAlpha : Nat → Nat
  | 0 => 1
  | n + 1 => gfDouble (gfAlpha n)

/-- a^(2^i) multiplied up: a^n with `f` bits of n. -/
def gfPow : Nat → Nat → Nat → Nat
  | 0, _, _ => 1
  | f + 1, a, n => gfMul (if n % 2 = 1 then a else 1) (gfPow f (gfMul a a) (n / 2))

/-- The inverse of a non-zero symbol: a^1022. -/
def gfInv (a : Nat) : Nat := gfPow 10 a 1022

/-- Sum of two polynomials, lowest coefficient first. -/
def polyAdd : List Nat → List Nat → List Nat
  | [], q => q
  | p, [] => p
  | a :: p, b :: q => (a ^^^ b) :: polyAdd p q

/-- A polynomial times a symbol. -/
def polyScale (c : Nat) (p : List Nat) : List Nat := p.map (gfMul c)

/-- Product of two polynomials. -/
def polyMul : List Nat → List Nat → List Nat
  | [], _ => []
  | a :: p, q => polyAdd (polyScale a q) (0 :: polyMul p q)

/-- Value of a polynomial. -/
def polyEval (p : List Nat) (x : Nat) : Nat := p.foldr (fun c v => c ^^^ gfMul v x) 0

/-- The generator polynomial, highest coefficient first without the leading 1. -/
def rsGenerator : List Nat :=
  (((List.range 30).foldl (fun g j => polyMul g [gfAlpha j, 1]) [1]).take 30).reverse

/-- One step of the parity register (highest place first) for one message symbol. -/
def rsStep (gen : List Nat) (reg : List Nat) (m : Nat) : List Nat :=
  let f := m ^^^ reg.headD 0
  List.zipWith (fun r g => r ^^^ gfMul f g) (reg.drop 1 ++ [0]) gen

/-- The 30 parity symbols of 514 message symbols. -/
def rsParity (msg : List Nat) : List Nat :=
  let gen := rsGenerator
  msg.foldl (rsStep gen) (List.replicate 30 0)

/-- The syndromes of a received word, first symbol the highest place. -/
def rsSyndromes (word : List Nat) : List Nat :=
  (List.range 30).map fun j => let a := gfAlpha j; word.foldl (fun v c => gfMul v a ^^^ c) 0

/-- The state of the Berlekamp–Massey search: locator, previous locator, length, gap and previous discrepancy. -/
structure RsSearch where
  c : List Nat
  b : List Nat
  l : Nat
  m : Nat
  d : Nat

/-- One step of the search, for syndrome number `n`. -/
def rsSearchStep (syn : List Nat) (x : RsSearch) (n : Nat) : RsSearch :=
  let disc := (List.range (x.l + 1)).foldl (fun v i => v ^^^ gfMul (x.c.getD i 0) (syn.getD (n - i) 0)) 0
  if disc = 0 then { x with m := x.m + 1 }
  else
    let t := polyAdd x.c (List.replicate x.m 0 ++ polyScale (gfMul disc (gfInv x.d)) x.b)
    if 2 * x.l ≤ n then { c := t, b := x.c, l := n + 1 - x.l, m := 1, d := disc }
    else { x with c := t, m := x.m + 1 }

/-- The error locator of a list of syndromes, and the number of errors it stands for. -/
def rsLocator (syn : List Nat) : List Nat × Nat :=
  let x := (List.range 30).foldl (rsSearchStep syn) { c := [1], b := [1], l := 0, m := 1, d := 1 }
  (x.c, x.l)

/-- The odd part of the locator's formal derivative at x: the sum of c_i x^(i−1) over odd i. -/
def polyDerivative (p : List Nat) (x : Nat) : Nat :=
  polyEval ((List.range (p.length - 1)).map fun i => if i % 2 = 0 then p.getD (i + 1) 0 else 0) x

/-- The corrected word and the number of symbols corrected; none where more than 15 symbols are wrong, as far as the code can
tell (R229). -/
def rsCorrect (word : List Nat) : Option (List Nat × Nat) :=
  let syn := rsSyndromes word
  if syn.all (· == 0) then some (word, 0)
  else
    let (loc, n) := rsLocator syn
    let omega := (polyMul syn loc).take 30
    let fixed := ((List.range 544).zip word).map fun x =>
      let place := 543 - x.1
      let inv := gfInv (gfPow 10 2 place)
      if polyEval loc inv = 0 then
        (true, x.2 ^^^ gfMul (gfPow 10 2 place) (gfMul (polyEval omega inv) (gfInv (polyDerivative loc inv))))
      else (false, x.2)
    let roots := (fixed.filter Prod.fst).length
    if n ≤ 15 && roots = n then some (fixed.map Prod.snd, n) else none

end Sys2Proof.Machine
end

