-- ==== Sys2Proof/Machine/Framer.lean ====
section
/-! DEFINITION. The link's framing (R229 to R234), its transmit order (R244 to R247), and what the return lane receives (R236 to
R243, R289). -/

namespace Sys2Proof.Machine

/-! ## Blocks (R229 to R231) -/

/-- The bits of a byte string, byte 0 first, each byte least significant bit first. -/
def bitsOfBytes (bs : Bytes) : List Bool := bs.flatMap fun b => (List.range 8).map fun i => b.toNat.testBit i

/-- A bit list cut into numbers of `n` bits, the first bit the least significant; `fuel` at least the number of pieces. -/
def chunkBits (n : Nat) : Nat → List Bool → List Nat
  | 0, _ => []
  | f + 1, l => if l.isEmpty then [] else maskOf (l.take n) :: chunkBits n f (l.drop n)

/-- One bit scrambled: the scrambler 1 + x^39 + x^58 over its own output (R231). The output bits come newest first. -/
def scrambleBit (x : BitVec 58 × List Bool) (i : Bool) : BitVec 58 × List Bool :=
  let o := (i != x.1.getLsbD 38) != x.1.getLsbD 57
  ((x.1 <<< 1) ||| BitVec.ofNat 58 (boolNat o), o :: x.2)

/-- The bits scrambled, and the scrambler after them. -/
def scramble (st : BitVec 58) (bits : List Bool) : BitVec 58 × List Bool :=
  let r := bits.foldl scrambleBit (st, [])
  (r.1, r.2.reverse)

/-- One bit descrambled; the register holds the bits as received. -/
def descrambleBit (x : BitVec 58 × List Bool) (o : Bool) : BitVec 58 × List Bool :=
  let i := (o != x.1.getLsbD 38) != x.1.getLsbD 57
  ((x.1 <<< 1) ||| BitVec.ofNat 58 (boolNat o), i :: x.2)

/-- The bits descrambled, and the descrambler after them. -/
def descramble (st : BitVec 58) (bits : List Bool) : BitVec 58 × List Bool :=
  let r := bits.foldl descrambleBit (st, [])
  (r.1, r.2.reverse)

/-- A block of a header bit and 256 payload bits. -/
def blockOf (header : Bool) (payload : List Bool) : BitVec 257 := BitVec.ofNat 257 (maskOf (header :: payload))

/-- The bits of a block, header bit first. -/
def blockBits (b : BitVec 257) : List Bool := (List.range 257).map b.getLsbD

/-- The 544 symbols of twenty blocks, in order (R229). -/
def codewordOf (blocks : List (BitVec 257)) : List (BitVec 10) :=
  let msg := chunkBits 10 514 (blocks.flatMap blockBits)
  (msg ++ rsParity msg).map (BitVec.ofNat 10)

/-- The PAM4 level of two bits, the first the more significant (R229). -/
def pam4Level (a b : Bool) : Nat :=
  match a, b with
  | false, false => 0
  | false, true => 1
  | true, true => 2
  | true, false => 3

/-- The PAM4 levels of a bit string. -/
def pam4Levels : List Bool → List Nat
  | a :: b :: l => pam4Level a b :: pam4Levels l
  | _ => []

/-- The line symbols of a codeword at a rate code: Gray-coded PAM4 at L56, else NRZ (R209, R229); an inverted driver sends each level
from the other end (R218). -/
def lineSymbols (rate : Nat) (inverted : Bool) (codeword : List (BitVec 10)) : List Nat :=
  let bits := codeword.flatMap fun x => (List.range 10).map x.getLsbD
  let levels := if rate = 2 then pam4Levels bits else bits.map boolNat
  if inverted then levels.map ((if rate = 2 then 3 else 1) - ·) else levels

/-- A codeword leaves on the lane. -/
def LaneFramer.launch (l : LaneFramer) (rate : Nat) (codeword : List (BitVec 10)) : LaneFramer :=
  { l with codeword := codeword, line := lineSymbols rate l.inverted codeword }

/-- Bit `k` on a physical lane that sends identification words back to back (R217), counted from the first word's start; none where
the lane sends none. No map is in force, so no driver is inverted. -/
def Lnk.identBit (l : Lnk) (lane k : Nat) : Option Bool :=
  (spFind lane l.ident).map fun word => (bitsOfBytes word).getD (k % 64) false

/-- Blocks scrambled one after the other (R231). -/
def scrambleBlocks (st : BitVec 58) : List (Bool × Bytes) → BitVec 58 × List (BitVec 257)
  | [] => (st, [])
  | b :: l =>
    let r := scramble st (bitsOfBytes b.2)
    let t := scrambleBlocks r.1 l
    (t.1, blockOf b.1 r.2 :: t.2)

/-- Codewords formed from waiting blocks, twenty to one, up to the 255th since the last marker (R232); at most `fuel`. -/
def LaneFramer.form (rate : Nat) : Nat → LaneFramer → LaneFramer
  | 0, l => l
  | f + 1, l =>
    if l.blocks.length < 20 || 255 ≤ l.count then l
    else
      let r := scrambleBlocks l.scrambler (l.blocks.take 20)
      LaneFramer.form rate f ({ l with
        scrambler := r.1, blocks := l.blocks.drop 20, count := l.count + 1, words := l.words + 1 }.launch rate (codewordOf r.2))

/-- A data or pointer block given to a lane. -/
def LaneFramer.addBlock (l : LaneFramer) (rate : Nat) (header : Bool) (bytes : Bytes) : LaneFramer :=
  LaneFramer.form rate 1 { l with blocks := l.blocks ++ [(header, bytes)] }

/-- A block given to its lane (R234): block i to lane i mod n, or to each lane while each carries its own stream. -/
def Framer.addBlock (f : Framer) (header : Bool) (bytes : Bytes) : Framer :=
  { f with
    blocks := f.blocks + 1
    lanes := if f.own then f.lanes.map fun l => l.addBlock f.rate header bytes
             else modifyAt (fun l => l.addBlock f.rate header bytes) (f.blocks % f.lanes.length) f.lanes }

/-- Full blocks cut from the stream (R230): a pointer block where a packet starts within its 31 stream bytes, else a data block
(log 16). `fuel` at least the number of blocks. -/
def Framer.cut : Nat → Framer → Framer
  | 0, f => f
  | n + 1, f =>
    let p := f.starts.headD 32
    let size := if p < 31 then 31 else 32
    if f.partial_.length < size then f
    else
      let bytes := f.partial_.take size
      let block := if p < 31 then BitVec.ofNat 8 (p + 1) :: bytes else bytes
      Framer.cut n ({ f with
        partial_ := f.partial_.drop size
        starts := (f.starts.filter fun x => size ≤ x).map fun x => x - size }.addBlock (size = 32) block)

/-- A packet joins the stream, and is in flight until every codeword with a byte of it is sent (R247). -/
def Framer.push (f : Framer) (p : Packet) : Framer :=
  let bytes := p.bytes
  let g := Framer.cut (f.partial_.length + bytes.length)
    { f with partial_ := f.partial_ ++ bytes, starts := f.starts ++ [f.partial_.length] }
  { g with inFlight := g.inFlight ++
      [⟨p, f.blocks, if g.partial_.isEmpty then g.blocks - 1 else g.blocks⟩] }

/-- Is the codeword of block `j` sent on its own lane? -/
def Framer.blockSent (f : Framer) (j : Nat) : Bool :=
  let n := f.lanes.length
  let (lane, index) := if f.own then (0, j) else (j % n, j / n)
  index / 20 < ((f.lanes[lane]?).map LaneFramer.words).getD 0

/-- Packets whose codewords are all sent are in flight no more. -/
def Framer.retire (f : Framer) : Framer :=
  { f with inFlight := f.inFlight.filter fun x =>
      !((List.range (x.lastBlock + 1 - x.firstBlock)).all fun i => f.blockSent (x.firstBlock + i)) }

/-! ## Sending (R244) -/

/-- The IDLE packet (R238) of the next free length (log 2). -/
def State.idlePacket (s : State) : Packet := { kind := 0, body := zeros (min 2028 (Config.idleLength s.free)) }

/-- The packet leaves at a packet boundary. -/
def State.sendPacket (s : State) (p : Packet) : State :=
  { s with lnk := { s.lnk with framer := (s.lnk.framer.push p).retire, sent := p :: s.lnk.sent } }

/-- The first packet that is ready while UP, and the link without it (R244, R247). -/
def Lnk.nextPacket (l : Lnk) : Option (Packet × Lnk) :=
  match l.train with
  | p :: q => some (p, { l with train := q })
  | [] =>
    match l.resend with
    | p :: q => some (p, { l with resend := q })
    | [] =>
      match l.control with
      | p :: q => some (p, { l with control := q })
      | [] =>
        let fromData := match l.data with
          | p :: q => some (p, { l with data := q })
          | [] => none
        match l.sealQ with
        | p :: q => if l.mayLeave p then some (p, { l with sealQ := q }) else fromData
        | [] => fromData

/-- What is sent next: nothing but IDLE and TRAIN before UP (R234). -/
def State.toSend (s : State) : Option (Packet × Lnk) :=
  match s.lnk.state with
  | .up => s.lnk.nextPacket
  | .adapt => match s.lnk.train with
    | p :: q => some (p, { s.lnk with train := q })
    | [] => none
  | _ => none

/-- At a packet boundary the next packet leaves, or an IDLE packet; LNK then takes the lines there is room for (R245), and a
retrain that waited may follow (R227). -/
def State.packetBoundary (s : State) : State :=
  (match s.toSend with
    | some (p, l) => ({ s with lnk := l }.sendPacket p).takeLines
    | none => { s.sendPacket s.idlePacket with free := s.free + 1 }).followRetrain

/-- The forward lanes carry codewords of packets. -/
def State.carriesPackets (s : State) : Bool :=
  (s.lnk.state = .up || s.lnk.state = .align || s.lnk.state = .adapt) && !s.pwr.railsLow.contains .vddl &&
    !s.pwr.railsLow.contains .vddlh

/-! ## Markers (R232, R233) -/

/-- The marker block of a lane. -/
def markerBytes (lane rate striping : Nat) (count : Word) (time : Word64) : Bytes :=
  let h := [0xFE] ++ leBytes 1 lane ++ leBytes 1 rate ++ leBytes 1 striping ++ leBytes 4 count.toNat ++ leBytes 8 time.toNat
  h ++ leBytes 4 (crc32 h).toNat ++ List.replicate 12 0x5A

/-- A lane with its marker codeword sent: the next 255 codewords begin with the blocks that waited. -/
def LaneFramer.mark (l : LaneFramer) (rate : Nat) (block : BitVec 257) : LaneFramer :=
  LaneFramer.form rate l.blocks.length ({ l with count := 0 }.launch rate (codewordOf (List.replicate 20 block)))

/-- A lane with its own marker codeword sent: it names its logical lane (R233). -/
def markLane (rate striping : Nat) (count : Word) (time : Word64) (l : LaneFramer) : LaneFramer :=
  l.mark rate (blockOf false (bitsOfBytes (markerBytes l.logical rate striping count time)))

/-- One marker on every lane (R232). In HOP they show striping 0 as in step 5 (DESIGN CHOICE, log 82: R233 names step 5 only). -/
def State.sendMarkers (s : State) : State :=
  let f := s.lnk.framer
  let striping := if f.own then 0 else f.lanes.length
  { s with lnk := { s.lnk with
      markerCount := s.lnk.markerCount + 1
      framer := { f with lanes := f.lanes.map (markLane f.rate striping s.lnk.markerCount s.now) }.retire } }

/-- A marker is due: every lane has sent 255 other codewords. In HOP the lanes carry nothing else (R232). -/
def State.markerDue (s : State) : Bool :=
  s.lnk.state = .hop || (s.carriesPackets && s.lnk.framer.lanes.all fun l => 255 ≤ l.count)

def execPacketSend (s : State) : Result := .next (if s.carriesPackets && !s.markerDue then (s.progress [49]).packetBoundary else s)

def execMarkerCodeword (s : State) : Result := .next (if s.markerDue then (s.progress [49]).sendMarkers else s)

/-! ## Receiving packets (R238, R241 to R243) -/

/-- An in-band message (R289): CTL holds 16; a 17th is answered `ERR_BUSY`. One that comes while MBX_READY is 0 is dropped without a
response (DESIGN CHOICE, log 100: R289 speaks of the doorbell only). -/
def State.onMessage (s : State) (bytes : Bytes) : State :=
  let waiting := (s.ctl.inbox.filter fun i => i != .side).length
  if !s.ctl.ready then s
  else if waiting < 16 then s.arrive (.inBand bytes) ⟨bytes, true⟩
  else
    { s with ctl := { s.ctl with
        msgExecuted := s.ctl.msgExecuted + 1, msgRefused := s.ctl.msgRefused + 1
        replies := s.ctl.replies ++ [{ inBand := true, bytes := Msg.response ⟨bytes, true⟩ errBusy 0 [] }] } }

/-- A TRAIN packet from the host (R242). -/
def State.onTrain (s : State) (body : Bytes) : State :=
  match leAt 0 1 body with
  | 2 => s.onFomReport ((body.getD 1 0)) (slice 4 4 body) (BitVec.ofNat 4 (leAt 8 1 body))
  | 3 => s.onLaneReport (slice 4 4 body)
  | 4 => s.onAligned
  | 5 => s.onRetrain
  | _ => s

/-- A packet passes its receiver's checks (R238): its length and its CRC. -/
def packetOk (p : Bytes) : Bool :=
  20 ≤ p.length && p.length ≤ 8228 && leAt 2 2 p = p.length && leAt (p.length - 4) 4 p = (crc32 (p.take (p.length - 4))).toNat

/-- One packet received on the return lane; MSG is discarded when it repeats the sequence of the one before (R246). -/
def State.onPacket (s : State) (p : Bytes) : State :=
  let seq := BitVec.ofNat 32 (leAt 4 4 p)
  let body := slice 16 (p.length - 20) p
  if !packetOk p then s
  else match leAt 0 1 p with
    | 7 =>
      if s.lnk.rx.lastSeq = some seq then s
      else { s with lnk := { s.lnk with rx := { s.lnk.rx with lastSeq := some seq } } }.onMessage body
    | 8 => s.onTrain body
    | _ => s

/-- In-band messages stop while the return lane is lost (R225, R236). -/
def execRlMsgPacket (packet : Bytes) (s : State) : Result :=
  .next (if s.returnLane && leAt 0 1 packet = 7 then s.onPacket packet else s)

/-! ## Receiving codewords (R229, R230) -/

/-- Whole packets taken off the front of the received stream; a bad length loses packet alignment. `fuel` at least the number of
packets. -/
def takePackets : Nat → Bytes → List Bytes × Option Bytes
  | 0, st => ([], some st)
  | f + 1, st =>
    let n := leAt 2 2 st
    if st.length < 4 then ([], some st)
    else if n < 20 || 8228 < n then ([], none)
    else if st.length < n then ([], some st)
    else
      let r := takePackets f (st.drop n)
      (st.take n :: r.1, r.2)

/-- The stream bytes a block gives a receiver with the stream `st` (none: alignment lost), and the stream after it before
packets are taken off. -/
def blockStream (header : Bool) (bytes : Bytes) (st : Option Bytes) : Option Bytes :=
  if header then st.map (· ++ bytes)
  else
    let p := leAt 0 1 bytes
    if 1 ≤ p && p ≤ 31 then
      match st with
      | some x => some (x ++ bytes.drop 1)
      | none => some (bytes.drop p)
    else none

/-- One block received: descrambled, joined to the stream, its whole packets taken. -/
def State.receiveBlock (s : State) (b : BitVec 257) : State :=
  let r := descramble s.lnk.rx.descrambler ((blockBits b).drop 1)
  let bytes := (chunkBits 8 32 r.2).map (BitVec.ofNat 8)
  let st := blockStream (b.getLsbD 0) bytes s.lnk.rx.stream
  let t := match st with
    | some x => takePackets x.length x
    | none => ([], none)
  let s1 := { s with lnk := { s.lnk with rx := { s.lnk.rx with descrambler := r.1, stream := t.2 } } }
  t.1.foldl State.onPacket s1

/-- The marker codeword: twenty identical blocks of header bit 0 with a valid marker (R232, R233). -/
def isMarker (blocks : List (BitVec 257)) : Bool :=
  match blocks with
  | [] => false
  | b :: rest =>
    let bytes := (chunkBits 8 32 ((blockBits b).drop 1)).map (BitVec.ofNat 8)
    rest.all (· = b) && !b.getLsbD 0 && leAt 0 1 bytes = 0xFE && leAt 16 4 bytes = (crc32 (bytes.take 16)).toNat

/-- The twenty blocks of corrected symbols. -/
def blocksOf (symbols : List Nat) : List (BitVec 257) :=
  (chunkBits 257 20 ((symbols.take 514).flatMap fun x => (List.range 10).map fun i => x.testBit i)).map (BitVec.ofNat 257)

/-- A codeword corrected, or none (R229). -/
def correctedOf (symbols : List (BitVec 10)) : Option (List Nat × Nat) := rsCorrect (symbols.map BitVec.toNat)

/-- What a codeword brings a receiver with block lock (R229): an uncorrectable one is counted and loses packet alignment (R230); its
bits still pass the self-synchronising descrambler as they came. -/
def State.takeCodeword (s : State) (symbols : List (BitVec 10)) : State :=
  match correctedOf symbols with
  | none =>
    let bits := (blocksOf (symbols.map BitVec.toNat)).flatMap fun b => (blockBits b).drop 1
    { s with lnk := { s.lnk with
      rlFecUncorr := s.lnk.rlFecUncorr + 1
      rx := { s.lnk.rx with stream := none, descrambler := (descramble s.lnk.rx.descrambler bits).1 } } }
  | some (word, n) =>
    let s1 := { s with lnk := { s.lnk with rlFecCorr := s.lnk.rlFecCorr + BitVec.ofNat 32 n } }
    let blocks := blocksOf word
    if isMarker blocks then s1 else blocks.foldl State.receiveBlock s1

/-- Is the codeword a valid marker codeword? -/
def markerWord (symbols : List (BitVec 10)) : Bool := (correctedOf symbols).any fun x => isMarker (blocksOf x.1)

/-- A codeword received: the marker count of R236, and, where the lane carries packets, its contents. -/
def State.receiveCodeword (s : State) (symbols : List (BitVec 10)) : State :=
  let s1 := { s with lnk := { s.lnk with rx := s.lnk.rx.noted (markerWord symbols) s.clk.ticks } }
  if s.returnLane then s1.takeCodeword symbols else s1

def execRlCodewordReceive (symbols : List (BitVec 10)) (s : State) : Result :=
  .next (if s.powered 47 && s.lnk.rx.locked && symbols.length = 544 then (s.progress [51]).receiveCodeword symbols else s)

end Sys2Proof.Machine
end

