-- ==== Sys2Proof/Machine/RoleMsgs.lean ====
section
/-! DEFINITION. Enrolment and revocation of keys (R328 to R331). -/

namespace Sys2Proof.Machine

/-- The target role and slot of both messages (R328). -/
def Msg.target (m : Msg) : Nat := m.field 4 1
def Msg.targetSlot (m : Msg) : Nat := m.field 5 1

/-- The counter of a role: OPREV or INREV (R331). -/
def State.revSteps (s : State) (role : Nat) : Nat := if role = 1 then s.fus.opRev else s.fus.inRev

/-- A ROLE entry (R170). -/
def State.roleEntry (s : State) (m : Msg) (action steps status : Nat) (key : Bytes) : Commit :=
  { kind := .role, counter := authCounter m.auth, first := s.now, last := s.now
    subject := subjectHead .role 160 ++ authBytes m.auth status ++ leBytes 1 action ++ leBytes 1 m.target ++ leBytes 1 m.targetSlot ++
      zeros 1 ++ leBytes 2 steps ++ zeros 2 ++ padTo 32 key ++ zeros 24 }

/-- The record of a slot written, which from then on holds what it says. -/
def State.putSlot (s : State) (role slot : Nat) (k : Option KeySlot) : State :=
  if role = 1 then { s with role := { s.role with
    operators := recordPut slot k s.role.operators, staleOps := s.role.staleOps.filter (· != slot) } }
  else { s with role := { s.role with
    installers := recordPut slot k s.role.installers, staleIns := s.role.staleIns.filter (· != slot) } }

/-- Steps 1 to 4 of R329; `holds`: the slot must hold a key, or must hold none. -/
def State.roleChecks (s : State) (m : Msg) (holds : Bool) : List (Bool × Nat) :=
  [(!(m.target = 1 && m.targetSlot < 16 || m.target = 2 && m.targetSlot < 4), errRange), (m.role ≤ m.target, errRole),
   (!(s.fus.lifecycle = 1 || s.fus.lifecycle = 2), errState), ((s.keyOf m.target m.targetSlot).isSome != holds, errState)]

/-- The body of the response. -/
def stepsBody (n : Nat) : Bytes := leBytes 4 n

/-! ## `MSG_ROLE_ENROL` (R330) -/

/-- Every key that some slot holds. -/
def State.keysHeld (s : State) : List Bytes :=
  (List.range 16).filterMap (s.keyOf 1) ++ (List.range 4).filterMap (s.keyOf 2) ++ s.makerKey.toList

/-- An accepted enrolment. -/
def State.enrol (s : State) (m : Msg) : Answer :=
  let n := s.revSteps m.target
  let key := m.part 8 32
  let s1 := s.commitNow (s.roleEntry m 1 n 0 key)
  let slot : KeySlot := { key := key, stamp := n, byRole := m.role, bySlot := m.slot, entry := BitVec.ofNat 32 (s.entrySeq s1) }
  let s2 := s1.putSlot m.target m.targetSlot (some slot)
  { s2 with free := s2.free + 1, ctl := s2.ctl.retain fun t => { t with enrolments := t.enrolments + 1 } }.accept (stepsBody n)

/-- `MSG_ROLE_ENROL` after checks 1 to 8. -/
def State.roleEnrol (s : State) (m : Msg) : Answer :=
  let key := m.part 8 32
  s.check (s.roleChecks m false ++ [((edDecode key).isNone || s.keysHeld.contains key, errRange)]) fun _ => s.enrol m

def execMsgRoleEnrol (s : State) : Result :=
  .next (s.serveCode ⟨0x60, 2, false, false⟩ (exactly 40) noGen State.roleEnrol)

/-! ## `MSG_ROLE_REVOKE` (R331) -/

/-- Every other occupied slot of the role restamped (step 3). -/
def State.restamp (s : State) (role slot n : Nat) : State :=
  ((List.range 16).filter (· != slot)).foldl (fun s k => match s.keySlot role k with
    | some x => s.putSlot role k (some { x with stamp := n + 1 })
    | none => s) s

/-- First unit of a role's counter (R339). -/
def revBase (role : Nat) : Nat := if role = 1 then 1155 else 1219

/-- An accepted revocation. Where the step cannot be programmed, the second entry carries the steps latched (R171). -/
def State.revoke (s : State) (m : Msg) : Answer :=
  let n := s.revSteps m.target
  let step : List OtpTask := if n < 64 then [⟨.unit (revBase m.target + n), 7, .revoke m.target⟩] else []
  let s1 := (s.commitNow (s.roleEntry m 2 (min 64 (n + 1)) 0 [])).putSlot m.target m.targetSlot none
  let s2 := s1.restamp m.target m.targetSlot n
  let s2 := { s2 with ctl := s2.ctl.retain fun t => { t with revocations := t.revocations + 1 } }
  if s2.programs step then { s := s2.program step, body := stepsBody (min 64 (n + 1)), waits := n < 64 }
  else (s2.program step).applyFails fun e => s2.roleEntry m 2 (s2.revSteps m.target) e []

/-- `MSG_ROLE_REVOKE` after checks 1 to 8. -/
def State.roleRevoke (s : State) (m : Msg) : Answer := s.check (s.roleChecks m true) fun _ => s.revoke m

def execMsgRoleRevoke (s : State) : Result :=
  .next (s.serveCode ⟨0x61, 2, false, false⟩ (exactly 8) noGen State.roleRevoke)

end Sys2Proof.Machine
end

