-- ==== Sys2Proof/Machine/FwMsgs.lean ====
section
/-! DEFINITION. Firmware messages (15): loading an image into the inactive slot (R358) and activating it (R360). -/

namespace Sys2Proof.Machine

/-- The slot that does not hold the active image (R354). -/
def State.inactiveSlot (s : State) : Nat := 1 - s.fw.record.active

/-! ## `MSG_FW_LOAD` (R358) -/

/-- Offset, length, FIRST and LAST of a part. -/
def Msg.fwOffset (m : Msg) : Nat := m.field 8 4
def Msg.fwLength (m : Msg) : Nat := m.field 12 4
def Msg.fwFirst (m : Msg) : Bool := bitOf (m.field 4 1) 0
def Msg.fwLast (m : Msg) : Bool := bitOf (m.field 4 1) 1

/-- Bytes staged so far and total, as the part finds them. -/
def State.fwStaged (s : State) (m : Msg) : Bytes × Nat := if m.fwFirst then ([], m.field 16 4) else (s.fw.staged, s.fw.total)

/-- The block operations of a part: one for each 4 KiB of it. -/
def imageBlocks (slot offset : Nat) (part : Bytes) (last : Bool) : List BlockJob :=
  let n := (part.length + 4095) / 4096
  (List.range n).map fun i =>
    { dest := fwAddr slot + offset + 4096 * i, source := 4096 * i, bytes := some (slice (4096 * i) 4096 part)
      done := if last && i + 1 = n then .imageLoaded else .part }

/-- The staging after a part; the status is LOADING. -/
def State.stageImage (s : State) (m : Msg) (b : Bytes) : State :=
  { s with fw := { s.fw with staged := b, total := (s.fwStaged m).2 }.putStatus ⟨.loading, none⟩ }

/-- An image that passes its checks at LAST: the CONFIG entry, and LOADED once its last block is written. Where no block operation may
start any more, the command fails after its entry (R171). -/
def State.finishImage (s : State) (m : Msg) (b : Bytes) (blocks : List BlockJob) : Answer :=
  let s1 := s.commitConfig m 0xFF 0
  if !(blocks.isEmpty || s1.mayStart) then s1.configFails m
  else
    { s := if blocks.isEmpty then s1.imageLoaded else s1.addBlocks blocks
      body := leBytes 4 b.length ++ leBytes 4 (imageVersion b).toNat ++ leBytes 4 (imageFwar b), waits := !blocks.isEmpty }

/-- A part in its place. -/
def State.loadPart (s : State) (m : Msg) : Answer :=
  let part := nvBytes s.ctl.bulk 0 m.fwLength
  let b := (s.fwStaged m).1 ++ part
  let s1 := s.stageImage m b
  let fails := s1.imageCheck b
  let blocks := imageBlocks s.inactiveSlot m.fwOffset part (m.fwLast && fails = 0)
  if !m.fwLast then { s := s1.addBlocks blocks, body := leBytes 4 b.length ++ zeros 8, waits := !blocks.isEmpty }
  else if fails = 0 then s1.finishImage m b blocks
  else
    { s := { s1 with fw := { s1.fw with staged := [], total := 0 }.putStatus {} }.addBlocks blocks
      status := [0, errRange, errRange, errState, errSig, errSig, errSig, errState].getD fails 0, detail := fails }

/-- `MSG_FW_LOAD` after checks 1 to 8. -/
def State.fwLoad (s : State) (m : Msg) : Answer :=
  let x := s.fwStaged m
  let stop := x.1.length + m.fwLength
  s.check [(m.inBand, errState), (32768 < m.fwLength, errRange), (m.fwFirst && !within 324 4194304 x.2, errRange),
      (!m.fwFirst && s.fw.update != .loading, errState),
      (m.fwOffset != x.1.length || x.2 < stop || (!m.fwLast && m.fwLength % 4096 != 0) || (m.fwLast && stop != x.2), errRange)] fun _ =>
    s.loadPart m

def execMsgFwLoad (s : State) : Result :=
  .next (s.serveCode ⟨0x70, 2, false, true⟩ (exactly 24) noGen State.fwLoad)

/-! ## `MSG_FW_ACTIVATE` (R360) -/

/-- An accepted activation: its two entries; the record and the status are written before the response is placed, and the reset
follows it. -/
def State.activateImage (s : State) (m : Msg) (x : LoadedImage) : Answer :=
  let slot := s.inactiveSlot
  let s1 := (s.commitConfig m 0xFF 0).commitNow (fwEntry 1 slot x.fwar x.version x.digest)
  { s := { s1 with fw := { s1.fw with activating := some slot }, rst := { s1.rst with after := some .fwUpdate } }, follow := 2 }

/-- `MSG_FW_ACTIVATE` after checks 1 to 8. -/
def State.fwActivate (s : State) (m : Msg) : Answer :=
  match s.fw.loaded with
  | none => s.refuse errState
  | some x =>
    s.check [(s.fw.update != .loaded || !s.viewsIdle, errState),
        (m.field 4 1 != s.inactiveSlot || m.field 8 4 != x.version.toNat, errRange)] fun _ => s.activateImage m x

def execMsgFwActivate (s : State) : Result :=
  .next (s.serveCode ⟨0x71, 2, false, true⟩ (exactly 12) noGen State.fwActivate)

end Sys2Proof.Machine
end

