-- ==== Sys2Proof/Machine/FusMsgs.lean ====
section
/-! DEFINITION. Fuse, life-cycle and debug messages (14): R334, R343 to R347. -/

namespace Sys2Proof.Machine

/-- A FUS operation runs. -/
def State.fusBusy (s : State) : Bool := !s.fus.tasks.isEmpty

/-! ## `MSG_FUS_READ` (R346) -/

/-- Indices `first` to `first` + `n` − 1 exist in the region, and `n` is 1 to 256. -/
def otpRange (region first n : Nat) : Bool := within 1 256 n && (region = 0 && first + n ≤ 256 || region = 1 && first + n ≤ 1365)

/-- Code of a word (R346). -/
def WordCode.code : WordCode → Nat
  | .blank => 0 | .valid => 1 | .corrected => 2 | .torn => 3

/-- The item of a word; what the value field of a TORN word reads is open (R346). -/
def Fus.wordItem (f : Fus) (w : Nat) : Bytes :=
  let x := f.word w
  let hidden := seedWord w
  let value := if x.1 = .torn then Config.tornWord (spGet blankReads w f.latWords).normal else x.2
  leBytes 4 (if hidden then 0 else value) ++ leBytes 1 x.1.code ++
    leBytes 1 (boolNat (weakWord (spGet blankReads w f.latWords)) + 2 * boolNat hidden + 4 * boolNat (f.driftWords.contains w)) ++
    leBytes 1 ((groupOf w).getD 0xFF) ++ zeros 1

/-- The item of a unit. -/
def Fus.unitItem (f : Fus) (u : Nat) : Bytes :=
  let r := spGet blankReads u f.latUnits
  leBytes 4 (r.normal % 8 + 8 * (r.low % 8) + 64 * (r.high % 8)) ++ leBytes 1 (boolNat (readsSet r)) ++
    leBytes 1 (boolNat (weakUnit r) + 4 * boolNat (f.driftUnits.contains u)) ++
    leBytes 1 (if within 1283 1290 u then u - 1283 else 0xFF) ++ zeros 1

/-- `MSG_FUS_READ` after checks 1 to 8. -/
def State.fusRead (s : State) (m : Msg) : Answer :=
  let first := m.field 2 2
  let n := m.field 4 2
  s.check [(!otpRange (m.field 0 1) first n, errRange)] fun _ =>
    s.accept ((List.range n).flatMap fun i => if m.field 0 1 = 0 then s.fus.wordItem (first + i) else s.fus.unitItem (first + i))

def execMsgFusRead (s : State) : Result :=
  .next (s.serveCode ⟨0x80, 0, true, false⟩ (exactly 6) noGen State.fusRead)

/-! ## `MSG_FUS_PROGRAM` (R343) -/

/-- Operation, group and word of the message. -/
def Msg.fusOp (m : Msg) : Nat := m.field 4 1
def Msg.group (m : Msg) : Nat := m.field 5 1
def Msg.word (m : Msg) : Nat := m.field 6 2

/-- The row of every operation. -/
def fusRow : MsgRow := ⟨0x81, 3, false, false⟩

/-- A message of an operation. -/
def isFusOp (op : Nat) (m : Msg) : Bool := m.isCode 0x81 && m.fusOp = op

/-- The groups that may be written in a life-cycle state (R333). -/
def groupWritable (lifecycle g : Nat) : Bool :=
  (lifecycle = 0 && g < 8 && g != 3 && g != 4) || (lifecycle = 1 && 3 ≤ g && g < 8)

/-- An operation accepted: its CONFIG entry, then the items to program. Where none can start, it fails (R171). -/
def State.startFus (s : State) (m : Msg) (l : List OtpTask) (f : State → Answer) : Answer :=
  let s1 := s.commitConfig m 0xFF 0
  if s1.programs l then f (s1.program l) else (s1.program l).applyFails fun e => s1.configEntry m.auth 0xFF 0 e

/-- A word that is reserved: in no group, or in the part of an identity bank that R337 keeps (R343 check 1). -/
def reservedWord (w : Nat) : Bool := (groupOf w).isNone || within 92 94 w || within 108 110 w

/-- PROGRAM_WORD, and any operation that does not exist. -/
def State.programWord (s : State) (m : Msg) : Answer :=
  let g := (groupOf m.word).getD 8
  let st := s.fus.group g
  s.check [(m.fusOp != 1 || 256 ≤ m.word || reservedWord m.word, errRange), (s.fusBusy, errBusy),
      (!groupWritable s.fus.lifecycle g || st = .locked, errFusLocked),
      (s.fus.word m.word != (.blank, 0) || !(st = .blank || st = .open_) || m.word = (groupWords g).2.2 || g = 3 || g = 4, errState)]
    fun _ => s.startFus m [⟨.word m.word, wordCells (m.field 8 4), .single⟩] fun s => { s := s, waits := true }

def execProgramWord (s : State) : Result :=
  .next (s.serve (fun m => m.isCode 0x81 && !within 2 5 m.fusOp) fusRow (exactly 44) noGen State.programWord)

/-- Checks 1 to 3 of the operations that name a group; the identity banks are written by GENERATE_IDENTITY only (R333). -/
def State.groupChecks (s : State) (m : Msg) : List (Bool × Nat) :=
  [(8 ≤ m.group, errRange), (s.fusBusy, errBusy),
   (!groupWritable s.fus.lifecycle m.group || m.group = 3 || m.group = 4 || s.fus.group m.group = .locked, errFusLocked)]

/-- COMPLETE_GROUP. -/
def State.completeGroup (s : State) (m : Msg) : Answer :=
  let st := s.fus.group m.group
  s.check (s.groupChecks m ++ [(!(st = .blank || st = .open_) || s.fus.dataTorn m.group, errState)]) fun _ =>
    s.startFus m [⟨.word (groupWords m.group).2.2, wordCells (s.fus.completion m.group), .single⟩] fun s => { s := s, waits := true }

def execCompleteGroup (s : State) : Result := .next (s.serve (isFusOp 2) fusRow (exactly 44) noGen State.completeGroup)

/-- LOCK_GROUP. An identity bank that is not COMPLETE is refused as any group is (R349); a COMPLETE one is locked by
GENERATE_IDENTITY only (R333). -/
def State.lockGroup (s : State) (m : Msg) : Answer :=
  s.check [(8 ≤ m.group, errRange), (s.fusBusy, errBusy),
      (!groupWritable s.fus.lifecycle m.group || s.fus.group m.group = .locked, errFusLocked),
      (s.fus.group m.group != .complete, errFusIncomplete), (m.group = 3 || m.group = 4, errFusLocked)] fun _ =>
    s.startFus m [⟨.unit (lockUnit m.group), 7, .single⟩] fun s => { s := s, waits := true }

def execLockGroup (s : State) : Result := .next (s.serve (isFusOp 3) fusRow (exactly 44) noGen State.lockGroup)

/-- The device ID of an identity (R344 step 4). -/
def deviceIdOf (seed : Bytes) : Bytes := (sha512 (ascii "CDK-DVID" ++ edPublic (identityKey seed))).take 16

/-- The items of an identity generation, in the order of R344. -/
def identityTasks (bank : Nat) (seed : Bytes) : List OtpTask :=
  let base := bankBase bank
  let data := seed ++ deviceIdOf seed
  let done := 0xC3A50000 + (crc32 (data ++ zeros 12)).toNat % 65536
  ((List.range 12).map fun i => ⟨.word (base + i), wordCells (leAt (4 * i) 4 data), .identity⟩) ++
    [⟨.word (base + 15), wordCells done, .identity⟩, ⟨.unit (lockUnit (bank + 2)), 7, .identity⟩]

/-- The lowest BLANK identity bank, where one may be generated. -/
def State.freeBank (s : State) : Option Nat :=
  if s.fus.lifecycle != 1 || s.fus.idBank != 0 then none
  else if s.fus.group 3 = .blank then some 1 else if s.fus.group 4 = .blank then some 2 else none

/-- GENERATE_IDENTITY, with the bytes of the entropy source. -/
def State.generateIdentity (s : State) (entropy : Bytes) (m : Msg) : Answer :=
  s.check [(s.fusBusy, errBusy)] fun _ =>
    match s.freeBank with
    | none => s.refuse errState
    | some b => s.startFus m (identityTasks b ((sha512 entropy).take 32)) fun s => s.accept []

def execGenerateIdentity (entropy : Bytes) (s : State) : Result :=
  .next (if entropy.length = 64 then s.serve (isFusOp 4) fusRow (exactly 44) noGen (State.generateIdentity · entropy) else s)

/-- INSTALL_MAKER_KEY. -/
def State.installMaker (s : State) (m : Msg) : Answer :=
  let key := m.part 12 32
  s.check [(s.fusBusy, errBusy),
      (s.fus.lifecycle = 3 || !(s.fus.locked 2 && sha512 key = s.fus.wordBytes 32 16), errState)] fun _ =>
    let s1 := s.commitConfig m 0xFF 0
    { s1 with role := { s1.role with maker := s1.role.maker.put key } }.accept []

def execInstallMakerKey (s : State) : Result := .next (s.serve (isFusOp 5) fusRow (exactly 44) noGen State.installMaker)

/-! ## `MSG_FUS_REINFORCE` (R345) -/

/-- The pulses of an item: the ones of a latched codeword, or a unit latched as set. -/
def Fus.pulses (f : Fus) (region i : Nat) : List OtpTask :=
  if region = 0 then
    let x := f.word i
    if x.1 = .valid || x.1 = .corrected then [⟨.word i, wordCells x.2, .reinforce⟩] else []
  else if f.unitSet i then [⟨.unit i, 7, .reinforce⟩] else []

/-- `MSG_FUS_REINFORCE` after checks 1 to 8. -/
def State.reinforce (s : State) (m : Msg) : Answer :=
  let region := m.field 4 1
  let first := m.field 6 2
  let n := m.field 8 2
  s.check [(!otpRange region first n, errRange), (s.fusBusy, errBusy)] fun _ =>
    s.startFus m ((List.range n).flatMap fun i => s.fus.pulses region (first + i)) fun s => s.accept []

def execMsgFusReinforce (s : State) : Result :=
  .next (s.serveCode ⟨0x82, 3, false, false⟩ (exactly 10) noGen State.reinforce)

/-! ## `MSG_LIFECYCLE_ADVANCE` (R334) -/

/-- What the advance out of the present state requires. -/
def State.mayAdvance (s : State) : Bool :=
  match s.fus.lifecycle with
  | 0 => s.fus.locked 0 && s.fus.locked 1 && s.fus.locked 2 && s.makerKey.isSome
  | 1 => (s.fus.idBank = 1 || s.fus.idBank = 2) && s.fus.locked 5 && s.fus.locked 6 && s.role.cert.now.isSome &&
      s.tab.colState = 0 && s.tab.defectState = 0
  | _ => s.led.epochState = .idle

/-- An accepted advance: the LC step, into GRAPHITE also both retirement units; the reset follows the response. -/
def State.advance (s : State) (m : Msg) : Answer :=
  let step : OtpTask := ⟨.unit s.fus.lifecycle, 7, .lifecycle⟩
  let retire : List OtpTask := if s.fus.lifecycle = 2 then [⟨.unit 1291, 7, .lifecycle⟩, ⟨.unit 1292, 7, .lifecycle⟩] else []
  s.startFus m (step :: retire) fun s =>
    { s := { s with rst := { s.rst with after := some .supCmd } }, waits := true, follow := 2 }

/-- `MSG_LIFECYCLE_ADVANCE` after checks 1 to 8. -/
def State.lifecycleAdvance (s : State) (m : Msg) : Answer :=
  s.check [(m.field 4 1 != s.fus.lifecycle + 1 || 3 ≤ s.fus.lifecycle, errRange), (!s.viewsIdle || s.fusBusy, errState),
      (!s.mayAdvance, errFusIncomplete)] fun _ => s.advance m

def execMsgLifecycleAdvance (s : State) : Result :=
  .next (s.serveCode ⟨0x83, 3, false, false⟩ (exactly 8) noGen State.lifecycleAdvance)

/-! ## `MSG_DEBUG_UNLOCK` and `MSG_DEBUG_RELOCK` (R347, R156) -/

/-- The unlock comes into force or ends; in COBALT the open segments close at that instant. -/
def State.setDebug (s : State) (on : Bool) : State :=
  let s1 := if s.fus.lifecycle = 2 then s.closeAll id else s
  let s2 := { s1 with fus := { s1.fus with debug := on } }
  if on then s2.domainOn 54 else s2.domainOff 54

/-- One more unlock counted, outside CHALK (R168). -/
def State.countUnlock (s : State) : State :=
  if s.fus.lifecycle = 0 then s else { s with nvs := s.nvs.retain fun t => { t with debugCount := t.debugCount + 1 } }

/-- `MSG_DEBUG_UNLOCK` after checks 1 to 8. -/
def State.debugUnlock (s : State) (m : Msg) : Answer :=
  s.check [(s.fus.debug || (s.fus.lifecycle = 2 && !s.fus.debugPolicy), errState)] fun _ =>
    ((s.countUnlock.commitNow (debugEntry 1 (sha512 m.bytes))).setDebug true).accept []

def execMsgDebugUnlock (s : State) : Result :=
  .next (s.serveCode ⟨0x84, 3, false, false⟩ (exactly 4) noGen State.debugUnlock)

/-- `MSG_DEBUG_RELOCK` after checks 1 to 8. -/
def State.debugRelock (s : State) (m : Msg) : Answer :=
  s.check [(!s.fus.debug, errState)] fun _ =>
    ((s.commitNow (debugEntry 2 (sha512 m.bytes))).setDebug false).accept []

def execMsgDebugRelock (s : State) : Result :=
  .next (s.serveCode ⟨0x85, 3, false, false⟩ (exactly 4) noGen State.debugRelock)

end Sys2Proof.Machine
end

