-- ==== Sys2Proof/Machine/Fuses.lean ====
section
/-! DEFINITION. FUS at work (14): the end of a programming pulse (R339, R340) and the background re-read (R341). -/

namespace Sys2Proof.Machine

/-! ## Programming -/

/-- The reads a completed pulse leaves (R336, R339): at the normal reference every cell pulsed reads 1. -/
def Fus.pulseFits (f : Fus) (t : OtpTask) (new : OtpReads) : Bool :=
  let old := f.rawReads t.item
  readsGrow t.cells old new && new.normal = old.normal ||| t.cells

/-- Reads that an item's cells can give: 39 cells of a word, 3 of a unit. -/
def readsFit (i : OtpItem) (r : OtpReads) : Bool :=
  let n := match i with | .word _ => 39 | .unit _ => 3
  r.normal < 2 ^ n && r.low < 2 ^ n && r.high < 2 ^ n

/-- The latched reads of an item replaced. -/
def Fus.putLatch (f : Fus) (i : OtpItem) (r : OtpReads) : Fus :=
  match i with
  | .word w => { f with latWords := spSet blankReads w r f.latWords }
  | .unit u => { f with latUnits := spSet blankReads u r f.latUnits }

/-- The array after a pulse; a completed programming updates the latched value at once, a reinforcement does not (R345). -/
def Fus.pulsed (f : Fus) (t : OtpTask) (r : OtpReads) : Fus :=
  if t.purpose = .reinforce then f.putReads t.item r else (f.putReads t.item r).putLatch t.item r

/-- Step 5 of R179: the ledger blocks are cleared. -/
def State.clearLedger (s : State) : State :=
  { s with led := { s.led with epochState := .clearing } }.addBlocks ((List.range 4096).map clearJob)

/-- What the end of an item's programming lets go on: the EPOCH operation. -/
def State.afterPulse (s : State) (p : Purpose) : State := if p = .epoch then s.clearLedger else s

/-- The running item is done. -/
def State.pulseDone (s : State) (t : OtpTask) (rest : List OtpTask) (r : OtpReads) : State :=
  let s1 := { s with fus := { s.fus.pulsed t r with tasks := rest } }.progress [47]
  (((s1.afterPulse t.purpose).workDone false).releaseReplies).afterWork

def execOtpProgramDone (reads : OtpReads) (s : State) : Result :=
  .next (match s.fus.tasks with
    | t :: rest => if s.powered 53 && s.fus.pulseFits t reads then s.pulseDone t rest reads else s
    | [] => s)

/-! ## The re-read -/

/-- What a word's reads resolve to: its code without the mark CORRECTED, and its value. -/
def resolvedWord (r : OtpReads) : Bool × Bool × Nat :=
  let x := resolveWord r.normal
  (x.1 = .blank, x.1 = .torn, x.2)

/-- A drift reported: the event once per boot, and Vermilion for a lock or retirement unit. -/
def State.driftWord (s : State) (w : Nat) (r : OtpReads) : State :=
  if s.fus.driftWords.contains w || resolvedWord r = resolvedWord (spGet blankReads w s.fus.latWords) then s
  else { s with fus := { s.fus with
    driftWords := w :: s.fus.driftWords, driftCount := s.fus.driftCount + 1 } }.raise 0x0D s.now (fuseArgs w 0 r)
def State.driftUnit (s : State) (u : Nat) (r : OtpReads) : State :=
  if s.fus.driftUnits.contains u || readsSet r = readsSet (spGet blankReads u s.fus.latUnits) then s
  else
    let s1 := { s with fus := { s.fus with
      driftUnits := u :: s.fus.driftUnits, driftCount := s.fus.driftCount + 1 } }.raise 0x0D s.now (fuseArgs u 1 r)
    if 1283 ≤ u && u ≤ 1292 then s1.enterVermilion 2 else s1

/-- The items listed in the array or in the latch. -/
def Fus.listedWords (f : Fus) : List Nat := (f.words ++ f.latWords).map Prod.fst |>.eraseDups
def Fus.listedUnits (f : Fus) : List Nat := (f.units ++ f.latUnits).map Prod.fst |>.eraseDups

/-- Every item whose resolved value differs from its latched value reported. -/
def State.reportDrift (s : State) : State :=
  let s1 := s.fus.listedWords.foldl (fun s w => s.driftWord w (spGet blankReads w s.fus.words)) s
  s1.fus.listedUnits.foldl (fun s u => s.driftUnit u (spGet blankReads u s.fus.units)) s1

/-- The cells that changed since they were last read. -/
def Fus.drifted (f : Fus) (l : List (OtpItem × OtpReads)) : Fus := l.foldl (fun f x => f.putReads x.1 x.2) f

/-- An item the array has. -/
def otpItemExists (i : OtpItem) : Bool := match i with | .word w => w < 256 | .unit u => u < 1365

/-- The background re-read falls due: the array has been latched since the reset, and 60 s have passed since it was last read. -/
def State.rereadDue (s : State) : Bool :=
  s.pwr.released && !(s.pwr.state = .boot && s.pwr.bootStage ≤ 2) && s.fus.readTick + 7500000000 ≤ s.clk.ticks

def execFusReread (drift : List (OtpItem × OtpReads)) (s : State) : Result :=
  .next (if s.powered 53 && s.rereadDue && drift.all fun x => otpItemExists x.1 && readsFit x.1 x.2 then
      ({ s with fus := { s.fus.drifted drift with readTick := s.clk.ticks } }.progress [48]).reportDrift
    else s)

end Sys2Proof.Machine
end

