-- ==== Sys2Proof/Machine/Shade.lean ====
section
/-! DEFINITION. The instructions of the shade sequencers (R394 to R397). -/

namespace Sys2Proof.Machine

/-! ## Going on -/

/-- The first cycle boundary at or after tick `t`. -/
def Shade.boundary (x : Shade) (t : Nat) : Nat :=
  if t ≤ x.next then x.next else x.next + (t - x.next + x.cycle - 1) / x.cycle * x.cycle

/-- Sequencer `q` is at an instruction of opcode `op`, at a cycle boundary, and waits for nothing. -/
def State.shadeDue (s : State) (q op : Nat) : Bool :=
  let x := s.shadeAt q
  q < 4 && s.powered 52 && x.state = .running && x.waiting.isNone && x.target.isNone && x.change.isNone &&
    bitsOf (s.shadeWord q) 20 4 = op && x.next ≤ s.clk.ticks

/-- The sequencer ran past its window: it stops, OVERRUN set (R394). -/
def State.overrunShade (s : State) (q : Nat) : State :=
  let s1 := s.stopShade q
  s1.setShade q { s1.shadeAt q with overrun := true }

/-- The sequencer `x` goes on at word `pc` from the boundary `next`. -/
def State.goShade (s : State) (q : Nat) (x : Shade) (pc next : Nat) : State :=
  let y := { x with next := next, waiting := none, shifted := 0, target := none, drove := none }
  let s1 := (s.progress [58]).setShade q y
  if x.first ≤ pc && pc < x.first + x.length then s1.setShade q { y with pc := pc } else s1.overrunShade q

/-- The one-cycle instruction begun at the boundary `b` is done; its cycle lasts until the next one, where the sequencer goes on at
word `pc` (R394). -/
def State.cycleTo (s : State) (q : Nat) (x : Shade) (b pc : Nat) : State :=
  (s.progress [58]).setShade q { x with next := b + x.cycle, waiting := none, target := some pc }
def State.oneCycle (s : State) (q : Nat) (x : Shade) : State := s.cycleTo q x x.next (x.pc + 1)

/-! ## SHIFT_OUT and SHIFT_IN (R396) -/

/-- Bits of the shift, and the place in D of bit `k`. -/
def shiftBits (w : Nat) : Nat := bitsOf w 7 5 + 1
def shiftPlace (w k : Nat) : Nat := if w.testBit 6 then shiftBits w - 1 - k else k

/-- The clock pin's level in cycle `c` of a shift. -/
def shiftClock (w c : Nat) : Bool := if c % 2 = 0 then w.testBit 5 else !w.testBit 5

/-- A shift may be at cycle `c` by now. -/
def State.shiftDue (s : State) (q op c : Nat) : Bool :=
  let x := s.shadeAt q
  s.shadeDue q op && x.shifted ≤ c && c ≤ 2 * shiftBits (s.shadeWord q) + 1 &&
    x.next + (c - x.shifted) * x.cycle ≤ s.clk.ticks

/-- The shift stands at cycle `c`, or has ended, with D as given. -/
def State.shiftTo (s : State) (q c : Nat) (d : Word) : State :=
  let x := s.shadeAt q
  let w := s.shadeWord q
  let next := x.next + (c - x.shifted) * x.cycle
  let y := { x with d := d, bc := min (c / 2) (shiftBits w), shifted := c, next := next }
  if c ≤ 2 * shiftBits w then (s.progress [58]).setShade q y else s.goShade q y (x.pc + 1) next

/-- The clock pin driven as cycle `c` has it; after the last cycle it stays idle. -/
def State.driveClock (s : State) (q c : Nat) : State :=
  let w := s.shadeWord q
  let n := bitsOf w 12 4
  s.drivePin q n (.level (shiftClock w (min c (2 * shiftBits w))))

/-- The data pin driven with the bit of cycle `c`. -/
def State.driveData (s : State) (q c : Nat) : State :=
  let w := s.shadeWord q
  let n := bitsOf w 16 4
  s.drivePin q n (.level ((s.shadeAt q).d.getLsbD (shiftPlace w (min (c / 2) (shiftBits w - 1)))))

def execShiftOut (seq cycles : Nat) (s : State) : Result :=
  .next (if s.shiftDue seq 1 cycles then
      ((s.driveData seq cycles).driveClock seq cycles).shiftTo seq cycles (s.shadeAt seq).d
    else s)

/-- D with bit `i` set to `b`. -/
def setBit (d : Word) (i : Nat) (b : Bool) : Word :=
  let m := BitVec.ofNat 32 (2 ^ i)
  if b then d ||| m else d &&& ~~~m

/-- D with the samples gathered, the first one bit `k`. -/
def gather (w : Nat) : Nat → List Bool → Word → Word
  | _, [], d => d
  | k, b :: l, d => gather w (k + 1) l (setBit d (shiftPlace w k) b)

/-- Pin `n` can have given the sample `b` during a shift of sequencer `q` (R384, R387): one whose buffer is off reads 0, and one
driven all the while, as a constant or by the sequencer itself other than by its clock, reads that drive. -/
def State.sampleFits (s : State) (q n : Nat) (b : Bool) : Bool :=
  let own : Bool := s.pinFunction n = 4 && s.pinField n 16 2 = q && n != bitsOf (s.shadeWord q) 12 4
  if !s.bufferOn n then !b
  else if s.pinFunction n = 2 || own then (s.gpLand n).level.all fun pad => b = s.sampleOf n pad
  else true

def execShiftIn (seq cycles : Nat) (samples : List Bool) (s : State) : Result :=
  let from_ := (s.shadeAt seq).shifted / 2
  .next (if s.shiftDue seq 2 cycles && samples.length = min (cycles / 2) (shiftBits (s.shadeWord seq)) - from_ &&
      samples.all (s.sampleFits seq (bitsOf (s.shadeWord seq) 16 4)) then
      (s.driveClock seq cycles).shiftTo seq cycles (gather (s.shadeWord seq) from_ samples (s.shadeAt seq).d)
    else s)

/-! ## SET -/

/-- The logical level a pad shows its sequencer, where it is driven or released by an open drain. -/
def State.padLevel (s : State) (n : Nat) : Option Bool :=
  match s.padLatch n with
  | .level b => some b
  | .pad d => if d = s.padFor n true then some true else if d = s.padFor n false then some false else none

/-- The level a toggle gives; a pad that is not driven gives a free one. -/
def State.toggled (s : State) (n : Nat) : Bool := match s.padLevel n with
  | some b => !b
  | none => Config.toggleReleased s.free

/-- What SET drives. -/
def State.setDrive (s : State) (n code : Nat) : Latch :=
  if code = 2 then .pad .released else .level (if code = 3 then s.toggled n else code = 1)

def execSet (seq : Nat) (s : State) : Result :=
  let w := s.shadeWord seq
  let n := bitsOf w 16 4
  let l := s.setDrive n (bitsOf w 14 2)
  .next (if s.shadeDue seq 3 then
      ({ s.drivePin seq n l with free := s.free + 1 }).oneCycle seq { s.shadeAt seq with drove := some (n, l) }
    else s)

/-! ## WAIT_PIN and WAIT_TICKS -/

/-- The sequencer begins a wait. -/
def State.beginWait (s : State) (q : Nat) (w : ShadeWait) : State :=
  (s.progress [58]).setShade q { s.shadeAt q with waiting := some w, next := (s.shadeAt q).next + (s.shadeAt q).cycle }

/-- When the condition of a WAIT_PIN that begins now has come: at once where it asks for a level and the pin has it. -/
def State.levelMet (s : State) (q : Nat) : Option Nat :=
  let w := s.shadeWord q
  if !w.testBit 14 && s.pin.levels.getLsbD (bitsOf w 16 4) = w.testBit 15 then some s.clk.ticks else none

def execWaitPin (seq : Nat) (s : State) : Result :=
  .next (if s.shadeDue seq 4 then s.beginWait seq (.pin (s.shadeAt seq).next (s.levelMet seq)) else s)

/-- The sequencer is running and powered. -/
def State.shadeRuns (s : State) (q : Nat) : Bool :=
  q < 4 && s.powered 52 && (s.shadeAt q).state = .running && (s.shadeAt q).change.isNone

/-- The tick at which a WAIT_PIN times out; none without a timeout. -/
def State.waitLimit (s : State) (q began : Nat) : Option Nat :=
  let n := bitsOf (s.shadeWord q) 0 14
  if n = 0 then none else some (began + n * (s.shadeAt q).cycle)

/-- The boundary at which the condition that came at tick `met` lets a WAIT_PIN complete; none where it times out first. -/
def State.waitEnds (s : State) (q began : Nat) (met : Option Nat) : Option Nat :=
  match met with
  | some m =>
    let b := (s.shadeAt q).boundary m
    if (s.waitLimit q began).all (b ≤ ·) then some b else none
  | none => none

def execWaitPinDone (seq : Nat) (s : State) : Result :=
  let x := s.shadeAt seq
  .next (match x.waiting with
    | some (.pin began met) =>
      match s.waitEnds seq began met with
      | some b => if s.shadeRuns seq && b ≤ s.clk.ticks then s.goShade seq { x with t := false } (x.pc + 1) b else s
      | none => s
    | _ => s)

def execWaitPinTimeout (seq : Nat) (s : State) : Result :=
  let x := s.shadeAt seq
  .next (match x.waiting with
    | some (.pin began met) =>
      match s.waitLimit seq began with
      | some t =>
        if s.shadeRuns seq && x.boundary t ≤ s.clk.ticks && (s.waitEnds seq began met).isNone then
          s.goShade seq { x with t := true } (x.pc + 1) (x.boundary t)
        else s
      | none => s
    | _ => s)

/-- Ticks a WAIT_TICKS lasts at least. -/
def waitTicksOf (w : Nat) : Nat := bitsOf w 0 18 * 64 ^ bitsOf w 18 2

def execWaitTicks (seq : Nat) (s : State) : Result :=
  .next (if s.shadeDue seq 5 then s.beginWait seq (.ticks ((s.shadeAt seq).next + waitTicksOf (s.shadeWord seq))) else s)

def execWaitTicksDone (seq : Nat) (s : State) : Result :=
  let x := s.shadeAt seq
  .next (match x.waiting with
    | some (.ticks ends) =>
      if s.shadeRuns seq && x.boundary ends ≤ s.clk.ticks then s.goShade seq x (x.pc + 1) (x.boundary ends) else s
    | _ => s)

/-! ## JUMP -/

/-- The condition of a JUMP. -/
def State.jumpTaken (s : State) (q w : Nat) : Bool :=
  let x := s.shadeAt q
  match bitsOf w 16 4 with
  | 0 => true
  | 1 => x.z
  | 2 => !x.z
  | 3 => x.t
  | 4 => !x.t
  | 5 => s.pin.levels.getLsbD (bitsOf w 12 4)
  | 6 => !s.pin.levels.getLsbD (bitsOf w 12 4)
  | 7 => !x.inFifo.isEmpty
  | 8 => x.outFifo.length < 4
  | _ => false

def execJump (seq : Nat) (s : State) : Result :=
  let x := s.shadeAt seq
  let w := s.shadeWord seq
  .next (if s.shadeDue seq 6 then
      s.cycleTo seq x x.next (if s.jumpTaken seq w then bitsOf w 0 6 else x.pc + 1)
    else s)

/-! ## PULL and PUSH (R397) -/

/-- The value put into D, or its low 16 bits into K. -/
def Shade.pulled (x : Shade) (w : Nat) (v : Word) : Shade :=
  if w.testBit 18 then { x with k := v.setWidth 16, lastPulled := v } else { x with d := v, lastPulled := v }

/-- The oldest value taken from the in-FIFO. -/
def Shade.pullHead (x : Shade) (w : Nat) : Shade :=
  { x with inFifo := x.inFifo.drop 1 }.pulled w (x.inFifo.headD 0)

/-- The last value pulled used again. -/
def Shade.pullStale (x : Shade) (w : Nat) : Shade := { x with stale := bump 65535 x.stale }.pulled w x.lastPulled

def execPull (seq : Nat) (s : State) : Result :=
  let x := s.shadeAt seq
  let w := s.shadeWord seq
  .next (if s.shadeDue seq 7 then
      (if !x.inFifo.isEmpty then s.oneCycle seq (x.pullHead w)
       else if w.testBit 19 then s.beginWait seq (.pull none)
       else s.oneCycle seq (x.pullStale w))
    else s)

def execPullUnblock (seq : Nat) (s : State) : Result :=
  let x := s.shadeAt seq
  .next (match x.waiting with
    | some (.pull (some r)) =>
      if s.shadeRuns seq && x.boundary r ≤ s.clk.ticks && !x.inFifo.isEmpty then
        s.cycleTo seq (x.pullHead (s.shadeWord seq)) (x.boundary r) (x.pc + 1)
      else s
    | _ => s)

/-- The value a PUSH offers. -/
def Shade.offered (x : Shade) (w : Nat) : Word := if w.testBit 18 then x.k.setWidth 32 else x.d

/-- The value put into the out-FIFO. -/
def Shade.pushed (x : Shade) (w : Nat) : Shade := { x with outFifo := x.outFifo ++ [x.offered w] }

def execPush (seq : Nat) (s : State) : Result :=
  let x := s.shadeAt seq
  let w := s.shadeWord seq
  .next (if s.shadeDue seq 8 then
      (if x.outFifo.length < 4 then s.oneCycle seq (x.pushed w)
       else if w.testBit 19 then s.beginWait seq (.push none)
       else s.oneCycle seq { x with drops := bump 65535 x.drops })
    else s)

def execPushUnblock (seq : Nat) (s : State) : Result :=
  let x := s.shadeAt seq
  .next (match x.waiting with
    | some (.push (some r)) =>
      if s.shadeRuns seq && x.boundary r ≤ s.clk.ticks && x.outFifo.length < 4 then
        s.cycleTo seq (x.pushed (s.shadeWord seq)) (x.boundary r) (x.pc + 1)
      else s
    | _ => s)

/-! ## MOVE and SIGNAL -/

/-- The source v of a MOVE. -/
def State.moveSource (s : State) (q w : Nat) : Word :=
  let x := s.shadeAt q
  match bitsOf w 15 2 with
  | 0 => BitVec.ofInt 32 (toSigned 15 w)
  | 1 => x.d
  | 2 => x.k.setWidth 32
  | _ => s.pin.levels.setWidth 32

/-- The operation of a MOVE on the destination's value. -/
def moveResult (w : Nat) (old v : Word) : Word :=
  match bitsOf w 17 2 with
  | 0 => v
  | 1 => old + v
  | 2 => old &&& v
  | _ => old ^^^ v

/-- The sequencer after a MOVE. -/
def State.moved (s : State) (q w : Nat) : Shade :=
  let x := s.shadeAt q
  if w.testBit 19 then
    let r := (moveResult w (x.k.setWidth 32) (s.moveSource q w)).setWidth 16
    { x with k := r, z := r = 0 }
  else
    let r := moveResult w x.d (s.moveSource q w)
    { x with d := r, z := r = 0 }

def execMove (seq : Nat) (s : State) : Result :=
  .next (if s.shadeDue seq 9 then s.oneCycle seq (s.moved seq (s.shadeWord seq)) else s)

/-- The sequencer after a SIGNAL; the reserved code does nothing. -/
def Shade.signalled (x : Shade) (w now : Nat) : Shade :=
  match w.testBit 19, bitsOf w 17 2 with
  | false, 0 => { x with pulse0 := some now }
  | false, 1 => { x with line0 := true }
  | false, 2 => { x with line0 := false }
  | true, 0 => { x with pulse1 := some now }
  | true, 1 => { x with line1 := true }
  | true, 2 => { x with line1 := false }
  | _, _ => x

def execSignal (seq : Nat) (s : State) : Result :=
  .next (if s.shadeDue seq 10 then
      s.oneCycle seq ((s.shadeAt seq).signalled (s.shadeWord seq) s.clk.ticks)
    else s)

/-! ## Halt and resume (R398), and the tick -/

/-- What a halt at tick `now` keeps of the time of a wait, or of the cycle of an instruction that is done. -/
def Shade.keeps (x : Shade) (now : Nat) : Nat :=
  match x.waiting with
  | some (.ticks ends) => ends - now
  | some (.pin began _) => (now - began) / x.cycle * x.cycle
  | some _ => 0
  | none => if x.target.isSome then x.cycle else 0

/-- The sequencer stands still, its pins at their safe levels. -/
def State.haltShade (s : State) (q : Nat) : State :=
  let x := s.shadeAt q
  (s.toSafe (s.shadePins q)).setShade q { x with state := .halted, changed := false, change := none, left := x.keeps s.clk.ticks }

/-- The wait of a sequencer that goes on at tick `t`: WAIT_TICKS has what was left of it, and WAIT_PIN has waited the whole cycles it
had, since the interrupted one restarts. -/
def Shade.waitFrom (x : Shade) (t : Nat) : ShadeWait → ShadeWait
  | .ticks _ => .ticks (t + x.left)
  | .pin _ met => .pin (t - x.left) met
  | .pull _ => .pull (if x.inFifo.isEmpty then none else some t)
  | .push _ => .push (if x.outFifo.length < 4 then some t else none)

/-- The sequencer is to go on from tick `t`: the interrupted cycle restarts there, so a wait or an instruction that is done has that
cycle to complete. -/
def Shade.resumed (x : Shade) (t : Nat) : Shade :=
  { x with
    left := 0, waiting := x.waiting.map (x.waitFrom t), change := some .resume
    next := if x.target.isSome then t + x.left else if x.waiting.isSome then t + x.cycle else t }

/-- A WAIT_PIN that has not seen its condition looks at its pin's level now: one that asks for a level sees it (R395). -/
def State.lookAgain (s : State) (q : Nat) : Option ShadeWait → Option ShadeWait
  | some (.pin began none) => some (.pin began (s.levelMet q))
  | w => w

/-- A START takes effect: RUNNING from this tick. -/
def State.startsNow (s : State) (q : Nat) : State := s.setShade q { s.shadeAt q with state := .running, change := none }

/-- A RESUME takes effect: RUNNING, and the pins that the interrupted cycle drives are driven again from its beginning, a SET's or
those of a shift. -/
def State.redrive (s : State) (q : Nat) : State :=
  let x := s.shadeAt q
  let op := bitsOf (s.shadeWord q) 20 4
  let s0 := s.setShade q { x with state := .running, change := none, waiting := s.lookAgain q x.waiting }
  match x.drove with
  | some (n, l) => s0.drivePin q n l
  | none =>
    if x.shifted = 0 then s0
    else if op = 1 then (s0.driveData q x.shifted).driveClock q x.shifted
    else if op = 2 then s0.driveClock q x.shifted
    else s0

/-- A sequencer at a tick: a cycle may end, and a start, a halt or a resumption takes effect. -/
def State.tickShade (s : State) (q : Nat) : State :=
  let x := s.shadeAt q
  let s1 := match x.target with
    | some pc => if x.state = ShadeState.running && x.next ≤ s.clk.ticks then s.goShade q x pc x.next else s
    | none => s
  match (s1.shadeAt q).change with
  | some .start => s1.startsNow q
  | some .halt => s1.haltShade q
  | some .resume => s1.redrive q
  | none => s1

/-- The pins and their engines at a tick, from what the tick before left: evaluations, cycles and configurations take effect, every
pin is sampled, and the arming unit looks at its source. -/
def State.tickPins (s : State) : State :=
  let s0 := { s with pin := { s.pin with tint := s.pin.tint.map Tint.tick } }
  let s1 := ((List.range 4).foldl State.tickShade s0).applyPins
  if s1.powered 52 then ((List.range 16).foldl State.samplePin s1).syncArm.watchPulse else s1

end Sys2Proof.Machine
end

