-- ==== Sys2Proof/Machine/PinMsgs.lean ====
section
/-! DEFINITION. Pin-engine messages (17): `MSG_PIN_LOAD` (R400) and the operations of `MSG_PIN_CONTROL` (R398, R401). -/

namespace Sys2Proof.Machine

/-! ## Instructions as loaded (R395) -/

/-- A reserved opcode. -/
def reservedOp (w : Nat) : Bool := bitsOf w 20 4 = 0 || 10 < bitsOf w 20 4

/-- The reserved bits of an instruction that are set. -/
def reservedBits (w : Nat) : Bool :=
  match bitsOf w 20 4 with
  | 1 | 2 => bitsOf w 0 5 != 0
  | 3 => bitsOf w 0 14 != 0
  | 6 => bitsOf w 6 6 != 0 || (!within 5 6 (bitsOf w 16 4) && bitsOf w 12 4 != 0)
  | 7 | 8 => bitsOf w 0 18 != 0
  | 10 => bitsOf w 0 17 != 0
  | _ => false

/-- A word that may be loaded (R400). -/
def loadableWord (w : Nat) : Bool := w < 2 ^ 24 && !reservedOp w && !reservedBits w

/-- A word that may stand in a window from `first` of `n` words (R399). -/
def runnableWord (first n w : Nat) : Bool :=
  !reservedOp w && (bitsOf w 20 4 != 6 || (bitsOf w 16 4 ≤ 8 && first ≤ bitsOf w 0 6 && bitsOf w 0 6 < first + n))

/-- The state an operation finds: one accepted in this tick counts, though it takes effect at the next (R398). -/
def Shade.opState (x : Shade) : ShadeState :=
  match x.change with
  | some .halt => .halted
  | some _ => .running
  | none => x.state

/-! ## `MSG_PIN_LOAD` (R400) -/

/-- Target, engine, first index and count. -/
def Msg.pinTarget (m : Msg) : Nat := m.field 4 1
def Msg.pinUnit (m : Msg) : Nat := m.field 5 1
def Msg.pinFirst (m : Msg) : Nat := m.field 8 2
def Msg.pinCount (m : Msg) : Nat := m.field 10 2

/-- A target or an engine that does not exist, in place of check 8; the generation of the named sequencer. -/
def State.pinLoadGen (s : State) (m : Msg) : Nat :=
  if !(m.pinTarget = 1 && m.pinUnit < 8 || m.pinTarget = 2 && m.pinUnit < 4) then errRange
  else if m.pinTarget = 2 && m.field 6 1 != (s.shadeAt m.pinUnit).gen then errStaleGen
  else errOk

/-- Item `i` that the message brings. -/
def Msg.tintItem (m : Msg) (i : Nat) : Nat := m.field (16 + i) 1
def Msg.storeItem (m : Msg) (i : Nat) : Nat := m.field (16 + 4 * i) 4

/-- The header fields that must be zero, and the length that the count gives. -/
def Msg.pinShape (m : Msg) : Bool :=
  m.field 7 1 = 0 && m.field 12 4 = 0 &&
    m.signedBody.length = 16 + (if m.pinTarget = 1 then m.pinCount else 4 * m.pinCount)

/-- The index range and the items are acceptable. -/
def Msg.pinItems (m : Msg) : Bool :=
  if m.pinTarget = 1 then
    m.field 6 1 = 0 && 0 < m.pinCount && m.pinFirst + m.pinCount ≤ 256 &&
      (List.range m.pinCount).all fun i => m.tintItem i < 64
  else
    0 < m.pinCount && m.pinFirst + m.pinCount ≤ 48 && (List.range m.pinCount).all fun i => loadableWord (m.storeItem i)

/-- A word of the message lies in the window of sequencer `x`. -/
def Msg.meets (m : Msg) (x : Shade) : Bool := m.pinFirst < x.first + x.length && x.first < m.pinFirst + m.pinCount

/-- An engine that uses what the message would load runs (R393, R399). -/
def State.pinActive (s : State) (m : Msg) : Bool :=
  if m.pinTarget = 1 then (s.tintAt m.pinUnit).running
  else s.pin.shade.toList.any fun x => x.opState = .running && m.meets x

/-- The table entries loaded. -/
def State.loadTint (s : State) (m : Msg) : State :=
  { s with pin := { s.pin with tables :=
      (List.range m.pinCount).foldl (fun t i => spSet 0 (256 * m.pinUnit + m.pinFirst + i) (m.tintItem i) t) s.pin.tables } }

/-- The program words loaded: a HALTED sequencer whose window they touch is marked as changed (R399). -/
def State.loadStore (s : State) (m : Msg) : State :=
  let mark (x : Shade) : Shade := if x.opState = .halted && m.meets x then { x with changed := true } else x
  { s with pin := { s.pin with
      store := (List.range m.pinCount).foldl (fun t i => spSet 0 (m.pinFirst + i) (m.storeItem i) t) s.pin.store
      shade := s.pin.shade.map mark } }

/-- `MSG_PIN_LOAD` after checks 1 to 8. -/
def State.pinLoad (s : State) (m : Msg) : Answer :=
  s.check [(!m.pinShape || !m.pinItems, errRange), (s.pinActive m, errEngineActive)] fun _ =>
    let s1 := s.commitConfig m 0xFF 0
    (if m.pinTarget = 1 then s1.loadTint m else s1.loadStore m).accept
      (leBytes 4 (if m.pinTarget = 1 then 0 else (s.shadeAt m.pinUnit).gen))

def execMsgPinLoad (s : State) : Result :=
  .next (s.serveCode ⟨0x90, 2, false, false⟩ (fun _ l => within 17 272 l) State.pinLoadGen State.pinLoad)

/-! ## `MSG_PIN_CONTROL` (R398, R401) -/

/-- Sequencer and operation. -/
def Msg.shadeSeq (m : Msg) : Nat := m.field 4 1
def Msg.shadeOp (m : Msg) : Nat := m.field 6 1

/-- The row of every operation. -/
def shadeRow : MsgRow := ⟨0x91, 2, false, false⟩

/-- A message of an operation. -/
def isShadeOp (op : Nat) (m : Msg) : Bool := m.isCode 0x91 && m.shadeOp = op

/-- The sequencer exists (else `ERR_RANGE` in place of check 8), and its generation. -/
def State.shadeGen (s : State) (m : Msg) : Nat :=
  if 4 ≤ m.shadeSeq then errRange else if m.field 5 1 != (s.shadeAt m.shadeSeq).gen then errStaleGen else errOk

/-- The fields of START and RESTART are zero, and those of FIFO_WRITE. -/
def Msg.noWindow (m : Msg) : Bool := m.field 8 3 = 0 && m.field 12 2 = 0
def Msg.noValues (m : Msg) : Bool := bitsOf (m.field 16 1) 0 3 = 0 && allZero (m.part 20 16)

/-- The sequencer that the message names. -/
def State.shadeOf (s : State) (m : Msg) : Shade := s.shadeAt m.shadeSeq

/-- An accepted operation: the sequencer as given, its CONFIG entry, and the response of R401. -/
def State.shadeDone (s : State) (m : Msg) (values : List Word) : Answer :=
  let s1 := s.commitConfig m 0xFF 0
  let x := s1.shadeOf m
  s1.accept (leBytes 1 x.gen ++ leBytes 1 x.opState.code ++ zeros 2 ++ leBytes 4 values.length ++
    padTo 16 (values.flatMap fun v => leBytes 4 v.toNat))

/-- The program a START names can run (R399). -/
def State.runnable (s : State) (m : Msg) : Bool :=
  let first := m.field 9 1
  let n := m.field 10 1
  0 < n && first + n ≤ 48 && first ≤ m.field 8 1 && m.field 8 1 < first + n && within 4 1024 (m.field 12 2) &&
    (List.range n).all fun i => runnableWord first n (spGet 0 (first + i) s.pin.store)

/-- The sequencer started: all it holds is cleared, and it runs from the next tick. -/
def State.freshShade (s : State) (m : Msg) : Shade :=
  let x := s.shadeOf m
  let g := x.gen
  { state := if x.state = .idle then .idle else .halted, change := some .start, gen := if g = 255 then 1 else g + 1, first := m.field 9 1, length := m.field 10 1, entry := m.field 8 1
    pc := m.field 8 1, cycle := m.field 12 2, next := s.clk.ticks + 1 }

/-- A halt accepted in this tick has happened. -/
def State.haltDone (s : State) (q : Nat) : State := if (s.shadeAt q).change = some .halt then s.haltShade q else s

/-- START from IDLE and RESTART from HALTED. -/
def State.shadeBegin (s : State) (from_ : ShadeState) (m : Msg) : Answer :=
  s.check [(!m.noValues, errRange), ((s.shadeOf m).opState != from_, errState), (!s.runnable m, errRange)] fun _ =>
    ((s.haltDone m.shadeSeq).setShade m.shadeSeq (s.freshShade m)).shadeDone m []

/-- START; an operation that does not exist is refused here. -/
def State.shadeStart (s : State) (m : Msg) : Answer :=
  s.check [(m.shadeOp != 1, errRange)] fun _ => s.shadeBegin .idle m

def execShadeStart (s : State) : Result :=
  .next (s.serve (fun m => m.isCode 0x91 && !within 2 7 m.shadeOp) shadeRow (exactly 40) State.shadeGen State.shadeStart)

/-- HALT: at the next tick. The response says what the sequencer then is. -/
def State.shadeHalt (s : State) (m : Msg) : Answer :=
  let x := s.shadeOf m
  s.check [(!m.noWindow || !m.noValues, errRange), (x.opState != .running, errState)] fun _ =>
    (s.setShade m.shadeSeq { x with change := some .halt }).shadeDone m []

def execShadeHalt (s : State) : Result := .next (s.serve (isShadeOp 2) shadeRow (exactly 40) State.shadeGen State.shadeHalt)

/-- RESUME. -/
def State.shadeResume (s : State) (m : Msg) : Answer :=
  let x := s.shadeOf m
  s.check [(!m.noWindow || !m.noValues, errRange), (x.opState != .halted || x.changed, errState)] fun _ =>
    let s1 := s.haltDone m.shadeSeq
    (s1.setShade m.shadeSeq ((s1.shadeOf m).resumed (s.clk.ticks + 1))).shadeDone m []

def execShadeResume (s : State) : Result := .next (s.serve (isShadeOp 3) shadeRow (exactly 40) State.shadeGen State.shadeResume)

def execShadeRestart (s : State) : Result :=
  .next (s.serve (isShadeOp 4) shadeRow (exactly 40) State.shadeGen fun s m => s.shadeBegin .halted m)

/-- STOP. -/
def State.shadeStop (s : State) (m : Msg) : Answer :=
  s.check [(!m.noWindow || !m.noValues, errRange), ((s.shadeOf m).opState = .idle, errState)] fun _ =>
    (s.stopShade m.shadeSeq).shadeDone m []

def execShadeStop (s : State) : Result := .next (s.serve (isShadeOp 5) shadeRow (exactly 40) State.shadeGen State.shadeStop)

/-- The values of a FIFO_WRITE. -/
def Msg.fifoCount (m : Msg) : Nat := bitsOf (m.field 16 1) 0 3
def Msg.fifoValues (m : Msg) : List Word := (List.range m.fifoCount).map fun i => BitVec.ofNat 32 (m.field (20 + 4 * i) 4)

/-- A blocking PULL or PUSH can complete from now on (R397). -/
def Shade.ready (x : Shade) (now : Nat) : Shade :=
  match x.waiting with
  | some (.pull none) => if x.inFifo.isEmpty then x else { x with waiting := some (.pull (some now)) }
  | some (.push none) => if x.outFifo.length < 4 then { x with waiting := some (.push (some now)) } else x
  | _ => x

/-- FIFO_WRITE. -/
def State.fifoWrite (s : State) (m : Msg) : Answer :=
  let x := s.shadeOf m
  s.check [(!m.noWindow || !within 1 4 m.fifoCount, errRange), (x.opState = .idle || x.changed, errState),
      (4 < x.inFifo.length + m.fifoCount, errBusy)] fun _ =>
    (s.setShade m.shadeSeq ({ x with inFifo := x.inFifo ++ m.fifoValues }.ready s.clk.ticks)).shadeDone m []

def execFifoWrite (s : State) : Result := .next (s.serve (isShadeOp 6) shadeRow (exactly 40) State.shadeGen State.fifoWrite)

/-- FIFO_READ. -/
def State.fifoRead (s : State) (m : Msg) : Answer :=
  let x := s.shadeOf m
  s.check [(!m.noWindow || !m.noValues, errRange), (x.changed, errState)] fun _ =>
    (s.setShade m.shadeSeq ({ x with outFifo := [] }.ready s.clk.ticks)).shadeDone m x.outFifo

def execFifoRead (s : State) : Result := .next (s.serve (isShadeOp 7) shadeRow (exactly 40) State.shadeGen State.fifoRead)

end Sys2Proof.Machine
end

