-- ==== Sys2Proof/Machine/HkcMsgs.lean ====
section
/-! DEFINITION. `MSG_HKC_CALIBRATE` (R413, R414). -/

namespace Sys2Proof.Machine

/-- Channel and phase. -/
def Msg.calChannel (m : Msg) : Nat := m.field 4 1
def Msg.calPhase (m : Msg) : Nat := m.field 5 1

/-- The target code c_t of a FULL. -/
def Msg.calTarget (m : Msg) : Nat := (roundDiv ((16777216 * m.field 8 4 : Nat) : Int) 1250000).toNat

/-- The row of every phase. -/
def calRow : MsgRow := ⟨0xA0, 2, false, false⟩

/-- A message of a phase. -/
def isPhase (phase : Nat) (m : Msg) : Bool := m.isCode 0xA0 && m.calPhase = phase

/-- Step 1 of R413 fails. -/
def Msg.calRange (m : Msg) : Bool :=
  !(m.calChannel = 4 || m.calChannel = 11 || m.calChannel = 12) || !within 1 3 m.calPhase ||
    (m.calPhase = 2 && !within 4194304 16777215 m.calTarget)

/-- Steps 1 to 3 of R413. -/
def State.calChecks (s : State) (m : Msg) : List (Bool × Nat) :=
  [(m.calRange, errRange), (s.hkc.cal.isSome, errBusy),
   (m.calPhase = 2 && ((spFind m.calChannel s.hkc.zeros).isNone || s.stored 0x2801 != 0), errState)]

/-- The phase queued: the scan sequence is suspended and its conversion abandoned (R414). -/
def State.queueCal (s : State) (m : Msg) : State :=
  let scanning := s.hkc.conv.any fun c => c.work = HkcWork.scan
  { s with hkc := { s.hkc with
      cal := some { channel := m.calChannel, phase := m.calPhase, target := m.calTarget }
      calChannel := m.calChannel, calState := 1, calRestarts := 0, suspended := true
      conv := if scanning then none else s.hkc.conv } }

/-- ZERO or FULL accepted; the response says whether it waits behind a priority sequence. -/
def State.acceptCal (s : State) (m : Msg) : Answer :=
  let behind := s.hkc.prio.isSome || s.hkc.prioDue.isSome
  (((s.commitConfig m 0xFF 0).queueCal m).kickHkc).accept (leBytes 4 (boolNat behind))

/-- ZERO and FULL; a phase that does not exist is refused here. -/
def State.calibrate (s : State) (m : Msg) : Answer := s.check (s.calChecks m) fun _ => s.acceptCal m

def execHkcCalZero (s : State) : Result :=
  .next (s.serve (fun m => m.isCode 0xA0 && !within 2 3 m.calPhase) calRow (exactly 12) noGen State.calibrate)

def execHkcCalFull (s : State) : Result := .next (s.serve (isPhase 2) calRow (exactly 12) noGen State.calibrate)

/-- CLEAR: the coefficients at once. -/
def State.calClear (s : State) (m : Msg) : Answer :=
  s.check (s.calChecks m) fun _ =>
    let s1 := s.commitConfig m 0xFF 0
    { s1 with hkc := { s1.hkc with coefs := recordPut m.calChannel (0, 4194304) s1.hkc.coefs } }.accept (zeros 4)

def execHkcCalClear (s : State) : Result := .next (s.serve (isPhase 3) calRow (exactly 12) noGen State.calClear)

end Sys2Proof.Machine
end

