-- ==== Sys2Proof/Machine/ViewMsgs.lean ====
section
/-! DEFINITION. View messages (05): activation, start and stop, with the checks of R124 and what happens at the instant A (R125 to
R127). -/

namespace Sys2Proof.Machine

/-! ## The view a message names (R123, R296) -/

def Msg.view (m : Msg) : Nat := m.field 4 1

/-- Check 8. -/
def viewGenError (s : State) (m : Msg) : Nat :=
  if 31 < m.view then errRange else if m.field 5 1 != (s.viewAt m.view).genNo then errStaleGen else errOk

/-- The CONFIG entry of a view message. -/
def State.commitView (s : State) (m : Msg) : State := s.commitConfig m m.view (m.field 5 1)

/-! ## Checks (R124) -/

/-- The staged fields of a view. -/
def State.stagedView (s : State) (v : Nat) : ViewGen :=
  let f (n : Nat) : Nat := s.stored (viewId v n)
  { x0 := f 2, y0 := f 3, width := f 4, height := f 5, bin := f 6, skip := f 7, format := f 8, rateDiv := f 9, ratePhase := f 10
    streamId := f 11, segFrames := f 12, segTime := f 13 }

/-- Check 1: the cross-field rules of R116. -/
def ViewGen.windowOk (g : ViewGen) : Bool :=
  g.x0 + g.width ≤ 12288 && g.y0 + g.height ≤ 9216 && g.width % (16 * g.b * 2 ^ g.kh) = 0 && g.height % (8 * 2 ^ g.kv) = 0 &&
    g.ratePhase < g.rateDiv

/-- Check 3: the format suits the capture kind (R102, R103). -/
def formatSuits (format kind : Nat) : Bool := if format ≤ 1 then kind != 1 else kind = 1

/-- The generations that count: those of the other live views, and this one (R124). -/
def State.gensWith (s : State) (v : Nat) (g : ViewGen) : List ViewGen :=
  g :: (s.liveViews.filter (· != v)).map fun w => (s.viewAt w).gen

/-- Quadrants and segments that those generations have powered. -/
def State.quadsFor (s : State) (l : List ViewGen) : Nat := joinMasks (l.map ViewGen.needQuads) ||| s.stored 0x1004
def State.segsFor (s : State) (l : List ViewGen) : Nat := joinMasks (l.map ViewGen.needSegs) ||| s.stored 0x101D

/-- Checks 2 to 7 for view `v` in generation `g`: (failed, error), in order (R122 to R124). A start or activation that powers a
quadrant whose tiles name a profile R55 makes invalid is not refused, since the checks of the spec name no such case
(DESIGN CHOICE, log 57: its captures are committed with that profile). -/
def State.viewChecks (s : State) (v : Nat) (g : ViewGen) : List (Bool × Nat) :=
  let l := s.gensWith v g
  let quads := s.quadsFor l
  let d := s.demandOf quads (s.segsFor l) l
  [(g.bin != 1 && s.stored 0x1003 = 1, errState), (!formatSuits g.format (s.stored 0x1007), errState),
   (d.interval < 275 * d.conv, errRange), (!(s.meetsBudgets quads && s.meetsPairing quads), errRange),
   (!d.linkOk s.linkCheck.1 s.linkCheck.2, errRange), (!d.paceOk s.pace.reserve, errPace)]

/-- Refused with the first check that fails, its number in the detail word, or else answered by `f`. -/
def State.checkNumbered (s : State) (first : Nat) (l : List (Bool × Nat)) (f : Unit → Answer) : Answer :=
  match l.findIdx? Prod.fst with
  | some i => { s := s, status := (l[i]?.map Prod.snd).getD 0, detail := first + i }
  | none => f ()

/-- I as the checks count it becomes `ARRAY.READOUT_INTERVAL_USED` (R75). -/
def State.noteInterval (s : State) (v : Nat) (g : ViewGen) : State :=
  s.useInterval (s.interval (s.quadsFor (s.gensWith v g)))

/-! ## The instant A (R126, R127) -/

/-- Captures whose readout has not begun (R61). -/
def State.unread (s : State) : List Word64 := (s.ets.captures.filter fun c => c.released = 0).map Capture.counter

/-- A value of a segment whose readout had not begun. -/
def State.notBegun (s : State) (y : SegValue) : Bool := y.fate = .awaited && s.unread.contains y.capture

/-- The view's first value whose readout has not begun: from it on the view's segments hold nothing (R126, R127, R141). -/
def State.firstLost (s : State) (v : Nat) : Option Word64 :=
  (((s.viewAt v).segments.flatMap Segment.values).find? s.notBegun).map SegValue.capture

/-- A segment loses the values from the first undelivered one on, gaps among them, so that its values stay consecutive (R141, R144;
log 81); one that loses some, or that is open, closes with flag STOPPED. -/
def Segment.cutOff (g : Segment) (lost : Option Word64) : Segment :=
  let kept := g.values.filter fun y => lost.all fun c => y.capture.toNat < c.toNat
  if g.complete && kept.length = g.values.length then g else { g with values := kept, complete := true, stopped := true }

/-- The captures no longer delivered to the view. -/
def State.leaveCaptures (s : State) (v : Nat) : State :=
  { s with ets := { s.ets with captures := s.ets.captures.map fun c =>
      if c.released = 0 then { c with views := c.views.filter (· != v) } else c } }

/-- The RECONFIG gaps of a generation ended before its first capture form its segment (R127 step 5), the captures whose readout has
not begun leave the view, and its segments close. -/
def State.cutView (s : State) (v : Nat) : State :=
  let s1 := s.flushReconfig v
  let lost := s1.firstLost v
  (s1.leaveCaptures v).onView v fun x => { x with segments := x.segments.map fun g => g.cutOff lost }

/-- The values before A that a new generation with this divider and phase counts as RECONFIG: those after the last that the old
generation's segments hold (R127 steps 4 and 5). -/
def State.lookBack (s : State) (v : Nat) (g : ViewGen) : List SegValue :=
  let x := s.viewAt v
  if x.renewed then []
  else
    let l := s.ets.history.filter fun h => x.past h.1 && h.1.toNat % g.rateDiv = g.ratePhase
    l.reverse.map fun h => ⟨h.1, h.2, .gap .reconfig⟩

/-- A value whose readout had not begun at A, although a later one was recorded as a gap, stays in the old generation's segment as a
gap of cause RECONFIG: so the segment keeps the later gap, and its values stay consecutive (R27, R141; log 81). -/
def State.passedOver (s : State) (y : SegValue) : SegValue :=
  if s.notBegun y then { y with time := some (y.time.getD (s.valueTime y.capture)), fate := .gap .reconfig } else y

/-- The old generation's segment at A: what comes after the last value held for good leaves it (R127 steps 1 and 4). -/
def State.endGen (s : State) (x : View) (g : Segment) : Segment :=
  let kept := (g.values.filter fun y => !(s.notBegun y && x.past y.capture)).map s.passedOver
  if g.complete && kept = g.values then g else { g with values := kept, complete := true, stopped := true }

/-- The RECONFIG gaps of a generation that ends before its first capture form its segment (R127 step 5), the captures whose readout
has not begun leave the view, and the segments of the generation that ends keep what they hold for good. -/
def State.renewView (s : State) (v : Nat) : State :=
  let s1 := s.flushReconfig v
  (s1.leaveCaptures v).onView v fun x => { x with segments := x.segments.map (s1.endGen (s1.viewAt v)) }

/-- The next generation number (R122). -/
def nextGen (n : Nat) : Nat := if n = 255 then 1 else n + 1

/-! ## `MSG_VIEW_ACTIVATE` -/

/-- A generation installed. -/
def View.install (x : View) (g : ViewGen) : View := { x with genNo := nextGen x.genNo, gen := g, frames := 0, gaps := 0 }

/-- A running view in its new generation, waiting for its supplies. -/
def State.reactivate (s : State) (v : Nat) (g : ViewGen) : State :=
  let late := s.lookBack v g
  let s1 := (s.renewView v).onView v fun x => { x.install g with
    state := .starting, waiting := true, reactivating := true, renewed := true, reconfig := late, held := none
    digest := leBytes 64 (Config.unformedDigest s.free).toNat }
  ({ s1 with free := s1.free + 1 }.settle v).supply.completeStarts

/-- An accepted activation. -/
def State.activate (s : State) (m : Msg) (g : ViewGen) : Answer :=
  let v := m.view
  let s1 := (s.commitView m).noteInterval v g
  let s2 := if (s.viewAt v).state = .idle then s1.onView v fun x => x.install g else s1.reactivate v g
  (s2.onView v fun x => s2.rated s2.ets.intervalUsed x).accept (leBytes 4 (nextGen (s.viewAt v).genNo))

/-- The view is in STARTING or STOPPING. -/
def View.between (x : View) : Bool := x.state = .starting || x.state = .stopping

/-- `MSG_VIEW_ACTIVATE` after checks 1 to 8. -/
def State.viewActivate (s : State) (m : Msg) : Answer :=
  let g := s.stagedView m.view
  s.check [((s.viewAt m.view).between, errBusy)] fun _ =>
    s.checkNumbered 1 ((!g.windowOk, errRange) :: s.viewChecks m.view g) fun _ => s.activate m g

def execMsgViewActivate (s : State) : Result :=
  .next (s.serveCode ⟨0x20, 2, false, false⟩ (exactly 8) viewGenError State.viewActivate)

/-! ## `MSG_VIEW_START` -/

/-- An accepted start. -/
def State.startView (s : State) (m : Msg) : Answer :=
  let v := m.view
  let s1 := ((s.commitView m).noteInterval v (s.viewAt v).gen).onView v fun x => { x with
    state := .starting, waiting := true, reactivating := false, renewed := false, held := none, reconfig := [], frames := 0, gaps := 0 }
  s1.supply.completeStarts.accept []

/-- `MSG_VIEW_START` after checks 1 to 8. -/
def State.viewStart (s : State) (m : Msg) : Answer :=
  let x := s.viewAt m.view
  s.check [(x.between, errBusy), (x.state = .running || x.genNo = 0, errState)] fun _ =>
    s.checkNumbered 2 (s.viewChecks m.view x.gen) fun _ => s.startView m

def execMsgViewStart (s : State) : Result :=
  .next (s.serveCode ⟨0x21, 1, false, false⟩ (exactly 8) viewGenError State.viewStart)

/-! ## `MSG_VIEW_STOP` -/

/-- An accepted stop. -/
def State.stopView (s : State) (m : Msg) : Answer :=
  let v := m.view
  let s1 := ((s.commitView m).cutView v).onView v fun x => { x with state := .stopping, waiting := false, reactivating := false }
  (((s1.settle v).endStop v).supply).accept []

/-- `MSG_VIEW_STOP` after checks 1 to 8. -/
def State.viewStop (s : State) (m : Msg) : Answer :=
  let x := s.viewAt m.view
  s.check [(x.state = .idle || x.state = .stopping, errState)] fun _ => s.stopView m

def execMsgViewStop (s : State) : Result :=
  .next (s.serveCode ⟨0x22, 1, false, false⟩ (exactly 8) viewGenError State.viewStop)

end Sys2Proof.Machine
end

