-- ==== Sys2Proof/Machine/HandCut.lean ====
section
/-! DEFINITION. What a loss of power cuts short in NVS (R172, R182, R454): the commit in progress, be it of an entry requested or of one
that the message in hand or the boot makes, or a record; the power-on reset (R190) and the rails of a closing run (R200, R454). -/

namespace Sys2Proof.Machine

/-! ## Entries in hand -/

/-- An entry about to be committed within a row: the state its commit begins in, its sequence, and what steps 2 and 5 write. -/
structure HandEntry where
  base : State
  seq : Word
  stage : Bytes
  entry : Bytes
  deriving DecidableEq, Repr

/-- The entry of a commit about to be made. -/
def State.entryInHand (s : State) (c : Commit) : HandEntry := ⟨s, s.led.nextSeq, (s.staging c).bytes, s.entryBytes c⟩

/-- The same of an entry that a row leading from `s` to `t` makes. -/
def State.entryMade (s t : State) (q : Word) : HandEntry := ⟨s, q, (t.nvs.staged q).elim [] Staging.bytes, t.entryAt q⟩

/-- The staging buffer written, and after it the slot. -/
def HandEntry.staged (h : HandEntry) : State := h.base.leaveBytes (stageAddr h.seq) h.stage
def HandEntry.slotted (h : HandEntry) : State := h.staged.leaveBytes (slotAddr h.seq) h.entry

/-- What is left of the commit by a cut in one of its steps. -/
def HandEntry.cut (h : HandEntry) (step : CommitStep) (b : Bytes) : State :=
  match step with
  | .stage => h.base.leaveBytes (stageAddr h.seq) b
  | .slot => h.staged.leaveBytes (slotAddr h.seq) b
  | .anchor => h.slotted.leaveBytes (anchorAddr h.seq) b

/-- A cut leaves as many bytes as its step writes. -/
def HandEntry.fits (h : HandEntry) (step : CommitStep) (b : Bytes) : Bool :=
  match step with
  | .stage => b.length = h.stage.length
  | .slot => b.length = 128
  | .anchor => b.length = 256

/-- The meanings of the messages that commit an entry of their own. -/
def handRows (entropy : Bytes) : List (State → Result) :=
  [execMsgParamSet, execMsgTableWrite, execMsgViewActivate, execMsgViewStart, execMsgViewStop, execSealResign, execMsgLedgerEpoch,
   execMsgPowerStandby, execMsgRoleEnrol, execMsgRoleRevoke, execMsgFwLoad, execMsgFwActivate, execProgramWord, execCompleteGroup,
   execLockGroup, execGenerateIdentity entropy, execInstallMakerKey, execMsgFusReinforce, execMsgLifecycleAdvance,
   execMsgDebugUnlock, execMsgDebugRelock, execMsgPinLoad, execShadeStart, execShadeHalt, execShadeResume, execShadeRestart,
   execShadeStop, execFifoWrite, execFifoRead, execHkcCalZero, execHkcCalFull, execHkcCalClear]

/-- The state a row leads to, if it commits. -/
def State.committed (s : State) (f : State → Result) : Option State :=
  match f s with
  | .next t => if t.led.nextSeq = s.led.nextSeq then none else some t
  | _ => none

/-- The one or two entries of a row from `s` to `t`: the second begins with the first complete. -/
def State.entriesMade (s t : State) : List HandEntry :=
  let q := s.led.nextSeq
  let h := s.entryMade t q
  if t.led.nextSeq = q + 1 then [h]
  else
    let s1 := { s with nvs := s.overwritten, led := t.led }
    [h, ({ h with base := s1 }.slotted.leaveBytes (anchorAddr q) (nvBytes t.nvs.mem (anchorAddr q) 256)).entryMade t (q + 1)]

/-- The entries of stage 0x06 of the boot, in order: the opening entry of a transition, BOOT, and FW of a fall-back (R180, R170). -/
def State.bootEntries (s : State) : List HandEntry :=
  let s1 := s.pwr.adopted.elim s s.sendAdopted
  let r := s1.resolveTransition
  let c := r.1.bootCommit (s.openFlags r.2)
  (s1.transitionDue.elim [] fun t => [(s1.reopened t).entryInHand t.opening]) ++ [r.1.entryInHand c] ++
    (if r.1.fw.fellBack then [(r.1.commitNow c).entryInHand r.1.fallBackEntry] else [])

/-- The entries that the boot or the message in hand is about to commit, one after the other, nothing requested waiting before them. -/
def State.handEntries (s : State) (entropy : Bytes) : List HandEntry :=
  if !s.commits || !s.powered 41 || !s.nvs.queue.isEmpty then []
  else if s.boots && s.pwr.bootStage = 6 then s.bootEntries
  else ((handRows entropy).findSome? s.committed).elim [] s.entriesMade

/-! ## Writes cut short -/

/-- What step of a commit the cut falls into, and the bytes it leaves. -/
def cutStep : NvsCut → Option (CommitStep × Bytes)
  | .stage b => some (.stage, b)
  | .slot b => some (.slot, b)
  | .anchor b => some (.anchor, b)
  | _ => none

/-- The commit the cut falls into: that of the oldest entry requested, if one may run, or of the entry in hand. -/
def State.cutEntry (s : State) : NvsCut → Option (HandEntry × CommitStep × Bytes)
  | .inHand e step b => (s.handEntries e.entropy)[e.index]?.map fun h => (h, step, b)
  | cut =>
    match s.nvs.queue, cutStep cut with
    | c :: _, some (step, b) => if s.commitDue then some (s.entryInHand c, step, b) else none
    | _, _ => none

/-- The cut falls into something being written, and leaves as many bytes as that writes. -/
def State.cutFits (s : State) (cut : NvsCut) : Bool :=
  match cut with
  | .none => true
  | .record _ => true
  | cut => (s.cutEntry cut).any fun x => x.1.fits x.2.1 x.2.2

/-- What a cut leaves in NVS: the steps before the one it falls into are done. -/
def State.cutNvs (s : State) (cut : NvsCut) : State :=
  match cut with
  | .none => s
  | .record name => s.onRecord Copies.torn name
  | cut => (s.cutEntry cut).elim s fun x => { s with nvs := (x.1.cut x.2.1 x.2.2).nvs }

/-! ## The power-on reset (R189, R190) -/

/-- Every domain off, all but the retained contents lost, cause POR; TEST_MODE has the level given (R348). -/
def State.powerLost (s : State) (loss : PowerLoss) : State :=
  let s1 := ((s.cutNvs loss.cut).tearOtp loss.torn).wiped true
  { s1 with pwr := { s1.pwr with domains := 0, goodSince := s.clk.ticks }, pad := { s1.pad with testMode := loss.testMode } }

def execPowerOnReset (loss : PowerLoss) (s : State) : Result :=
  .next (if s.tearFits loss.torn && s.cutFits loss.cut then s.powerLost loss else s)

/-! ## Rails in a closing run (R200, R429, R454) -/

/-- A rail below its closing minimum in a run (R454): no commit starts while it is VDDNV (R200), and VDDL and VDDLH end
transmission. A commit that VDDNV tears stays in the queue. VDDIO below 1.2 V releases every output (R429). -/
def State.railLow (s : State) (rail : Rail) (cut : NvsCut) (padsOff : Bool) : State :=
  let s := s.cutNvs cut
  { s with
    pwr := { s.pwr with
      railsLow := if s.pwr.railsLow.contains rail then s.pwr.railsLow else rail :: s.pwr.railsLow
      padsOff := s.pwr.padsOff || (rail = .vddio && padsOff) }
    nvs := if rail = .vddnv then { s.nvs with held := true } else s.nvs }

/-- Only VDDNV tears what NVS writes. -/
def State.railCuts (s : State) (rail : Rail) (cut : NvsCut) : Bool := cut = .none || (rail = .vddnv && s.cutFits cut)

/-- Outside a closing run no rail but VDDIO below 1.2 V has an effect: every output is released, in whatever power state (R189 step 7,
R429). -/
def State.padsFall (s : State) (fall : RailFall) : State :=
  if fall.rail = .vddio && fall.padsOff && fall.cut = .none then { s with pwr := { s.pwr with padsOff := true } } else s

def execRailBelowClosingMinimum (fall : RailFall) (s : State) : Result :=
  .next (if !s.closing then s.padsFall fall
    else if s.railCuts fall.rail fall.cut then s.railLow fall.rail fall.cut fall.padsOff else s)

end Sys2Proof.Machine
end

