-- ==== Sys2Proof/Machine/Monitors.lean ====
section
/-! DEFINITION. The progress monitors (R374, R375) and the tick of the time base (log 3). -/

namespace Sys2Proof.Machine

/-! ## What a monitor watches -/

/-- Timeout of a monitor, in ticks (R375). -/
def monitorTimeout (m : Nat) : Nat :=
  if m < 43 then 12500 else if m < 46 then 125000 else if m = 46 then 12500 else if m < 49 then 1250000
  else if m < 51 then 12500 else if m = 51 then 125000 else if m = 52 then 12500 else if m < 55 then 1250
  else if m = 55 then 12500 else if m = 56 then 125000 else if m = 57 then 1250 else if m = 58 then 125000
  else if m = 59 then 12500000 else if m = 60 then 1250 else if m = 61 then 1250000 else if m = 62 then 125000 else 1250000

/-- The domains of which one must be powered for the monitor's pipeline to hold work; none for those of SUP. -/
def monitorDomains (m : Nat) : List Nat :=
  if m < 4 then (List.range 6).map (6 + 6 * m + ·)
  else if m = 4 then [34] else if m = 5 then [35]
  else if m < 10 then [30 + m]
  else if m < 42 then [36 + (m - 10) / 8]
  else if m < 44 then [40] else if m < 47 then [41] else if m < 49 then [53] else if m < 51 then [50]
  else if m = 51 then [47] else if m < 55 then [55] else if m < 57 then [34] else if m < 59 then [52]
  else if m = 59 then [51] else if m < 62 then [42] else []

/-- The line LNK would take next, absorbed, and its packets (R128). -/
def State.lineWaiting (s : State) : Option (List Packet) :=
  match s.nextFrame with
  | some (v, f) => (s.nextLine f).map fun line => f.packets v line
  | none => none

/-- LNK has no room for what it would take next: the next line, or a frame's end (R245). -/
def State.intakeFull (s : State) : Bool :=
  !s.endRoom || (match s.lineWaiting with
    | some l => dataCap < queueSize s.lnk.data + queueSize l
    | none => false)

/-- The stall of the readout caused by the link not being UP (R247). -/
def State.linkStall (s : State) : Bool := s.lnk.state != .up && s.intakeFull

/-- The monitors that do not count during such a stall (R247, R382). -/
def stallExempt (m : Nat) : Bool := m ≤ 42 || m = 49 || m = 50 || m = 55

/-- A line of some view is ready to be packed, and the strip buffer takes it. -/
def State.packable (s : State) : Bool :=
  (List.range 32).any fun v => match s.packing v with
    | some (f, p) => p.lineReady f.gen f.packed && s.lineRoom f &&
        (f.packed % 16 != 0 || (s.dealTo (s.dealtNow f.capture)).isSome)
    | none => false

/-- The engines that have a packed line to absorb. -/
def State.busyEngines (s : State) : List Nat :=
  (List.range 32).flatMap fun v => (s.viewAt v).current.flatMap fun f => (f.strips.filter Strip.pending).map Strip.engine

/-- A response that can go, a message to execute, or an operation a response waits for (R374): not a response that only waits for
`RSP_ACK` or for room. -/
def State.messageWork (s : State) : Bool :=
  (s.placeFirst s.ctl.replies).isSome || s.ctl.replies.any Reply.waits || (s.ctl.replies.isEmpty && !s.ctl.inbox.isEmpty)

/-- FUS is reading the array: the boot is at stage 0x02, or 60 s have passed since the last reading (R340, R341). -/
def State.fusReading (s : State) : Bool := (s.pwr.state = .boot && s.pwr.bootStage = 2) || s.rereadDue

/-- A capture's comparators are loaded and its T0 has not been launched; T0's instant has come, and its timestamp is not taken. -/
def State.comparatorsLoaded (s : State) : Bool := s.ets.captures.any fun c => c.t0.isNone
def State.timestampWaits (s : State) : Bool := s.ets.captures.any fun c => c.t0.isNone && c.t0Tick ≤ s.clk.ticks

/-- The core is not idle (R14, R375): it boots, has a message or a response in hand, or has its rounds to do, for as long as a task
slot is registered (DESIGN CHOICE, log 64: the model holds no instructions, and the row itself says that none was retired). -/
def State.coreBusy (s : State) : Bool := s.coreRuns && (s.pwr.state = .boot || s.messageWork || !s.wdg.slots.isEmpty)

/-- The monitor's pipeline holds work, and its output is not refused (R374). A verdict update is always due (R21), so the scheduler
of ETS holds work whenever it is powered. -/
def State.monitorWork (s : State) (m : Nat) : Bool :=
  if m < 4 then s.pdp.waiting.any fun w => (w.banks.getD m []).length < s.convOf w
  else if m = 4 || m = 55 || m = 56 then s.alignable.isSome && s.pdpRoom
  else if m = 5 then s.packable
  else if m < 10 then s.busyEngines.any fun e => e / 8 = m - 6
  else if m < 42 then s.busyEngines.contains (m - 10)
  else if m = 42 then s.endRoom && (List.range 32).any fun v => (s.endedFrame v).isSome
  else if m = 43 then s.jobDue.isSome
  else if m = 44 || m = 46 then s.commitDue && !s.nvs.queue.isEmpty
  else if m = 45 then !s.nvs.blocks.isEmpty
  else if m = 47 then !s.fus.tasks.isEmpty
  else if m = 48 then s.fusReading
  else if m = 49 then s.lnk.state = .up && s.toSend.isSome
  else if m = 50 then s.lineWaiting.isSome && !s.intakeFull
  else if m = 51 then s.lnk.rx.blockLock
  else if m = 53 then s.comparatorsLoaded
  else if m = 54 then s.timestampWaits
  else if m = 57 then s.pin.tint.toList.any Tint.running
  else if m = 58 then s.pin.shade.toList.any fun x => x.state = .running && x.waiting.isNone
  else if m = 59 then s.hkc.conv.isSome
  else if m = 60 then s.coreBusy
  else if m = 61 then s.messageWork
  else if m = 62 then s.ctl.ready && !s.ev.waiting.isEmpty
  else if m = 63 then !s.pwr.poweringUp.isEmpty
  else true

/-- The monitor measures time (R374 to R376): its pipeline is powered and holds work whose output is not refused; those of CTL
not while the core is halted; in a closing run only those of SEA and NVS. -/
def State.monitorRuns (s : State) (m : Nat) : Bool :=
  s.pwr.released && m < 64 && (62 ≤ m || (monitorDomains m).any s.powered) &&
    !((m = 60 || m = 61) && s.wdg.halted) && (!s.closing || (6 ≤ m && m ≤ 46)) && !(stallExempt m && s.linkStall) &&
    s.monitorWork m

/-- The monitor has reached its timeout. -/
def State.monitorDue (s : State) (m : Nat) : Bool :=
  s.monitorRuns m && monitorTimeout m ≤ spGet 0 m s.wdg.counts

def execProgressMonitorTrip (monitor : Nat) (s : State) : Result :=
  .next (if s.monitorDue monitor then s.trip monitor else s)

/-- A replica ring of a powered pipeline without an edge for 100 µs gives an estimate of zero, and its monitor trips (R25, R374). -/
def execReplicaRingStall (monitor : Nat) (s : State) : Result :=
  .next (if s.powered 55 && monitor < 10 && (monitorDomains monitor).any s.powered && (!s.closing || 6 ≤ monitor) then
      (s.judge ((List.range 10).map fun i => if i = monitor then 0 else spGet 0 i s.pace.est)).trip monitor
    else s)

/-- One tick of every monitor that measures time. -/
def State.tickMonitors (s : State) : State :=
  { s with wdg := { s.wdg with
    counts := ((List.range 64).filter s.monitorRuns).foldl
      (fun l m => spSet 0 m (min (monitorTimeout m) (spGet 0 m l + 1)) l) s.wdg.counts } }

/-! ## The tick (log 3) -/

/-- One tick of a watchdog window: a window ends with the tick at which nothing of it remains, so that a check-in or a halt in that
tick still falls in it (R382); the next one begins at that tick, and one without a check-in has expired (R371). -/
def WdgSlot.tick (w : WdgSlot) : WdgSlot :=
  if w.remaining = 0 then
    { w with
      remaining := w.window - 1, checkins := 0, expired := w.expired || w.checkins = 0, halted := false, wasHalted := w.halted }
  else { w with remaining := w.remaining - 1 }

/-- The windows are frozen while the core is halted, in STANDBY, and from t0 of a closing run on (R373). -/
def State.windowsFrozen (s : State) : Bool := s.wdg.halted || s.pwr.state = .standby || s.closing || s.offHold

/-- Watchdog windows count ticks (R371). -/
def State.tickWindows (s : State) : State :=
  if s.windowsFrozen then s
  else { s with wdg := { s.wdg with slots := s.wdg.slots.map fun x => (x.1, x.2.tick) } }

/-- One tick of 8 ns passes with nothing commanded: the time base advances by 8 while `PD_PLL_TIME` is powered (R259), and
the counts that run in ticks advance. No frame is on the side-band port: CTL_SDO is at high impedance (R273). -/
def State.tick (s : State) : State :=
  let out := s.lnk.state != .up && !s.viewsIdle
  let outage := if out then s.lnk.outageTicks + 1 else s.lnk.outageTicks
  ({ s with
    clk := s.clk.tick (s.powered 49)
    lnk := { s.lnk with
      outageTicks := outage
      outageTime :=
        if (s.clk.ticks + 1) % 125000 = 0 then BitVec.ofNat 32 (outage / 125) else s.lnk.outageTime }
    reg := { s.reg with sdo := none } }).tickBlocks.tickWindows.tickMonitors.tickPins

end Sys2Proof.Machine
end

