-- ==== Sys2Proof/Machine/Spi.lean ====
section
/-! DEFINITION. A side-band frame on the wire (R273 to R275): from the levels of CTL_CS_N, CTL_SCK and CTL_SDI to bytes, words and the
commands of the table that the frame carries, and from the words read to the bits of CTL_SDO. A read of a register or window without
a row of its own is `State.frameWord`; it changes nothing. -/

namespace Sys2Proof.Machine

/-! ## Bits (R273) -/

/-- The port's inputs at one instant. -/
structure SpiPins where
  csN : Bool := true
  sck : Bool := false
  sdi : Bool := false
  deriving DecidableEq, Repr

/-- SPI mode 0 or 3, by the level of CTL_SCK when CTL_CS_N falls. -/
inductive SpiMode where
  | mode0 | mode3
  deriving DecidableEq, Repr

def SpiPins.mode (p : SpiPins) : SpiMode := if p.sck then .mode3 else .mode0

/-- One frame: its mode and the bits sampled on the rising edges of CTL_SCK, in order. -/
structure SpiFrame where
  mode : SpiMode
  bits : List Bool := []
  deriving DecidableEq, Repr

/-- The port as it follows its inputs: the last levels, the frame open, and the frames ended. -/
structure SpiPort where
  last : SpiPins := {}
  frame : Option SpiFrame := none
  ended : List SpiFrame := []
  deriving DecidableEq, Repr

/-- New levels: CTL_CS_N falls and a frame begins, rises and it ends; CTL_SCK rises and a bit is sampled. -/
def SpiPort.next (x : SpiPort) (p : SpiPins) : SpiPort :=
  match x.frame with
  | none => { x with last := p, frame := if x.last.csN && !p.csN then some ⟨p.mode, []⟩ else none }
  | some f =>
    if p.csN then { last := p, frame := none, ended := x.ended ++ [f] }
    else { x with last := p, frame := some (if p.sck && !x.last.sck then { f with bits := f.bits ++ [p.sdi] } else f) }

/-- The frames a row of levels carries. -/
def spiFrames (l : List SpiPins) : List SpiFrame := (l.foldl SpiPort.next {}).ended

/-- Eight bits as a byte, the most significant first; and the other way. -/
def msbByte (l : List Bool) : Byte := BitVec.ofNat 8 (l.foldl (fun a b => 2 * a + boolNat b) 0)
def msbBits (b : Byte) : List Bool := (List.range 8).map fun i => b.toNat.testBit (7 - i)

/-- The whole bytes of a frame. -/
def SpiFrame.bytes (f : SpiFrame) : Bytes :=
  (List.range (f.bits.length / 8)).map fun i => msbByte ((f.bits.drop (8 * i)).take 8)

/-- The bits of CTL_SDO for a word: least significant byte first, each changed on a falling edge of CTL_SCK. -/
def sdoBits (v : Word) : List Bool := (leBytes 4 v.toNat).flatMap msbBits

/-! ## Words (R274, R275) -/

/-- The address of a frame. -/
def SpiFrame.addr (f : SpiFrame) : BitVec 16 := BitVec.ofNat 16 (leAt 1 2 f.bytes)

/-- Bytes ahead of the data: the opcode, the address where it has one, and the dummy bits of a read. -/
def SpiOp.lead : SpiOp → Nat
  | .write => 3
  | .read | .readPort => 4
  | .readStatus => 2

/-- Whole data words of a frame, whether a word was cut short, and a word written. -/
def SpiFrame.count (f : SpiFrame) (op : SpiOp) : Nat := (f.bits.length - 8 * op.lead) / 32
def SpiFrame.cut (f : SpiFrame) (op : SpiOp) : Bool := (f.bits.length - 8 * op.lead) % 32 != 0
def SpiFrame.word (f : SpiFrame) (op : SpiOp) (i : Nat) : Word := BitVec.ofNat 32 (leAt (op.lead + 4 * i) 4 f.bytes)

/-! ## Commands -/

/-- A code written into `SUP_CMD` (R286). -/
def supCommand (code : Byte) : Instr :=
  if code = 1 then .supReset else if code = 2 then .supClose else if code = 3 then .supTail
  else if code = 4 then .supRrecord else if code = 5 then .supSnapshot else .supCmdUnknown code

/-- The command a word written at an address is. -/
def writeCommand (a : Nat) (v : Word) : Instr :=
  if a = 0x28 then supCommand (v.truncate 8)
  else if a = 0x38 then .irqStatusClear v
  else if a = 0x90 then .cmdDoorbell v
  else if a = 0x94 then .cmdStatusClear v
  else if a = 0x9C then .rspAck v
  else if a = 0xA4 then .evtRdWrite v
  else if addrIn a 0x1000 0x1FFF then .mailboxWrite (BitVec.ofNat 16 a) v
  else if addrIn a 0x8000 0xFFFF then .bulkWindowWrite (BitVec.ofNat 16 a) v
  else .registerWrite (BitVec.ofNat 16 a) v

/-- The command a word read at an address is; none for a read that changes nothing. -/
def readCommand (a : Nat) (lag : Fin 3) : Option Instr :=
  if a = 0x20 then some .readStatus
  else if a = 0x34 then some .supBufRead
  else if a = 0x40 then some (.timeLoRead lag)
  else if a = 0x48 then some .capCntLoRead
  else if a = 0x54 then some .hkcAccLoRead
  else if a = 0xA8 then some .evtLostRead
  else if a = 0xB0 then some .spiErrorsRead
  else none

/-- The command of data word `i`. -/
def SpiFrame.wordCommand (f : SpiFrame) (op : SpiOp) (lag : Fin 3) (i : Nat) : Option Instr :=
  (wordAddress op f.addr i).bind fun a => if op = .write then some (writeCommand a (f.word op i)) else readCommand a lag

/-- The commands a frame carries, in order (R274, R275). A frame that ends before its address is whole, and a word read that is cut
short, carry none and count as no error (DESIGN CHOICE, log 92: the spec is silent on both). -/
def SpiFrame.commands (f : SpiFrame) (lag : Fin 3) : List Instr :=
  match f.bytes with
  | [] => []
  | b :: rest =>
    match spiOpcode b with
    | none => [.spiFrameRefused]
    | some op =>
      if op != .readStatus && rest.length < 2 then []
      else if frameRefused b f.addr then [.spiFrameRefused]
      else (List.range (f.count op)).filterMap (f.wordCommand op lag) ++
        if op = .write && f.cut op then [.wordCutShort] else []

/-- The commands that the levels on the port carry, queued behind those that wait. -/
def State.hearsPort (s : State) (l : List SpiPins) (lag : Fin 3) : State :=
  { s with pending := s.pending ++ (spiFrames l).flatMap fun f => f.commands lag }

/-! ## CTL_SDO (R273, R428) -/

/-- The level of CTL_SDO after `falls` falling edges of CTL_SCK in a frame that reads `words`: high impedance ahead of the data; each
bit from one falling edge to the next. In mode 3 a falling edge comes before the first rising one. -/
def SpiMode.sdo (m : SpiMode) (op : SpiOp) (words : List Word) (falls : Nat) : Option Bool :=
  let first := 8 * op.lead + (if m = .mode3 then 1 else 0)
  if op = .write || falls < first then none else (words.flatMap sdoBits)[falls - first]?

/-- The falling edges seen in a frame that is open. -/
def sckFalls (l : List SpiPins) : Nat := ((l.zip l.tail).filter fun x => x.1.sck && !x.2.sck && !x.2.csN).length

/-- CTL_SDO after a row of levels that begin with the frame: high impedance while CTL_CS_N is high. -/
def sdoLevel (op : SpiOp) (words : List Word) (l : List SpiPins) : Option Bool :=
  match l.head?, l.getLast? with
  | some a, some b => if b.csN then none else a.mode.sdo op words (sckFalls l)
  | _, _ => none

end Sys2Proof.Machine
end

