-- ==== Sys2Proof/Machine/Tap.lean ====
section
/-! DEFINITION. The test access port (R445, R446) and what a debugger does through it under an unlock (R347, R373). -/

namespace Sys2Proof.Machine

/-! ## The instruction and what it selects (R445, R446) -/

/-- A code of the debug instructions. -/
def debugCode (c : BitVec 5) : Bool := 0x10 ≤ c.toNat && c.toNat ≤ 0x1E

/-- The unlock is in force and the debug logic powered. -/
def State.debugOpen (s : State) : Bool := s.fus.debug && s.powered 54

/-- The data register the instruction in force selects: EXTEST acts as BYPASS while RST_N is high, and the debug instructions without
an unlock. -/
def State.tapSelected (s : State) : TapReg :=
  if s.tap.ir = 2 then .idcode
  else if s.tap.ir = 1 || (s.tap.ir = 0 && !s.pad.rstN) then .boundary
  else if debugCode s.tap.ir && s.debugOpen then .debug
  else .bypass

/-- The IDCODE. -/
def idcodeWord : Word := 0x1007156B

/-- The 32-bit word that the selected register gives to TDO: the IDCODE, or what the debugger has read. TDO is driven in Shift-DR and
Shift-IR only, which lie inside a row (R428). -/
def State.tapWord (s : State) : Option Word :=
  match s.tapSelected with
  | .idcode => some idcodeWord
  | .debug => some s.tap.data
  | _ => none

/-- An instruction is shifted in: TRST_N is high, since low it holds the TAP in reset (R428). -/
def State.tapTo (s : State) (ir : BitVec 5) : State :=
  { s with tap := { s.tap with ir := ir }, pad := { s.pad with trstN := true } }

def execExtest (s : State) : Result := .next (s.tapTo 0)

def execIdcode (s : State) : Result := .next (s.tapTo 2)

def execHighz (s : State) : Result := .next (s.tapTo 3)

def execClamp (s : State) : Result := .next (s.tapTo 4)

def execBypass (code : BitVec 5) (s : State) : Result :=
  .next (if debugCode code || code.toNat ≤ 4 then s else s.tapTo code)

/-- TRST_N falls: the TAP is reset, and its instruction is IDCODE. -/
def execTrstNAssert (s : State) : Result :=
  .next { s with tap := { s.tap with ir := 2 }, pad := { s.pad with trstN := false } }

/-! ## The lands (R428, R429, R446) -/

/-- The land of HOST_IRQ_N, which is open-drain, and what CTL_SDO carries: the word driven, while nothing else drives or releases the land. -/
def State.irqLand (s : State) : Drive :=
  s.landOf 16 (if s.hostIrq then .low else .released) false (s.tap.boundary.irqEn && !s.tap.boundary.irqN)
def State.sdoWord (s : State) : Option Word :=
  if s.pwr.padsOff then none
  else if s.pwr.railsLow.contains .vddio then Config.weakSdo s.clk.ticks
  else if s.tapDrive = .functional then s.reg.sdo else none

/-- The land of CTL_SDO where the boundary register drives it. -/
def State.sdoLand (s : State) : Drive := s.landOf 17 .released s.tap.boundary.sdo s.tap.boundary.sdoEn

/-- A bit for each GP pin. -/
def gpBits (f : Nat → Bool) : BitVec 16 := BitVec.ofNat 16 (maskOf ((List.range 16).map f))

/-- The level that CTL_SDO has at bit `k` of its word; none while it is released. -/
def State.sdoAt (s : State) (k : Nat) : Option Bool := s.reg.sdo.bind fun w => (sdoBits w)[k]?

/-- What a scan captures (R446): at the input cells the levels of the lands, at the output cells what the device gives them. -/
def State.captured (s : State) (x : BoundaryScan) : BoundaryCells :=
  { gpIn := gpBits fun n => (s.gpLand n).level.getD (x.seen.gpIn.getLsbD n)
    gpOut := gpBits fun n => (s.padDrive n).level.getD (x.seen.gpOut.getLsbD n)
    gpEn := gpBits fun n => s.padDrive n != .released
    sck := x.seen.sck, csN := x.seen.csN, sdi := x.seen.sdi, rstN := s.pad.rstN, pfailN := !s.pwr.pfailLow
    sdo := (s.sdoAt x.sdoBit).getD x.seen.sdo, sdoEn := (s.sdoAt x.sdoBit).isSome
    irqN := !s.hostIrq && x.seen.irqN, irqEn := s.hostIrq }

/-- The boundary register scanned: its cells captured and new ones loaded. The device's own sampling goes on undisturbed. -/
def State.scanBoundary (s : State) (x : BoundaryScan) : State :=
  { s with tap := { s.tap with boundary := x.cells, captured := s.captured x } }

def execSamplePreload (scan : BoundaryScan) (s : State) : Result :=
  .next (if !scan.test then (s.tapTo 1).scanBoundary scan
    else if s.tapSelected = .boundary then s.scanBoundary scan
    else s)

/-! ## The debugger (R347, R373) -/

/-- The core is held, in the current window of every slot (R373). -/
def State.debugHalt (s : State) : State :=
  { s with wdg := { s.wdg with halted := true, slots := s.wdg.slots.map fun x => (x.1, { x.2 with halted := true }) } }

/-- The core executes again, once or on and on: what the debugger had written may change. -/
def State.coreMoves (s : State) (halted : Bool) : State :=
  let s1 := s.progress [60]
  { s1 with wdg := { s1.wdg with halted := halted, debugMem := [], debugRegs := [] } }

/-- The word the debugger has read. -/
def State.debugData (s : State) (w : Word) : State := { s with tap := { s.tap with data := w } }

/-- A read of a word the spec does not lay out: what the debugger wrote in this halt, else whatever is there. -/
def State.debugLook (s : State) (m : List (Nat × Option Word)) (addr : Nat) : State :=
  match spGet none addr m with
  | some w => s.debugData w
  | none => { s with free := s.free + 1 }.debugData (Config.ctlWord s.free)

/-- A subsystem register read: the watchdog's (R369; a write-only one reads 0, R10), or another one. -/
def State.debugRegRead (s : State) (addr : Nat) : State :=
  if addr = 0xE0000100 || addr = 0xE0000104 then s.debugData 0
  else if addr = 0xE0000108 then s.debugData s.wdgStatus
  else if addr = 0xE000010C then s.debugData s.wdgStrict
  else s.debugLook s.wdg.debugRegs addr

/-- A subsystem register written. -/
def State.debugRegWrite (s : State) (addr : Nat) (value : Word) : State :=
  if addr = 0xE0000100 then s.writeWdgRegister value.toNat
  else if addr = 0xE0000104 then s.writeWdgCheckin value.toNat
  else if addr = 0xE0000108 || addr = 0xE000010C then s
  else { s with wdg := { s.wdg with debugRegs := spSet none addr (some value) s.wdg.debugRegs } }

/-- What the debugger does with the core and what it reaches (R347): halt and its end act on the watchdog's windows (R373);
step, memory and registers are those of a core it holds. -/
def State.debugAct (s : State) : DebugAct → State
  | .halt => if s.powered 42 then s.debugHalt else s
  | .resume => (s.coreMoves false).resumeBringUp
  | .step => if s.wdg.halted then s.coreMoves true else s
  | .readMemory a => if s.wdg.halted then s.debugLook s.wdg.debugMem a.toNat else s
  | .writeMemory a v =>
    if s.wdg.halted then { s with wdg := { s.wdg with debugMem := spSet none a.toNat (some v) s.wdg.debugMem } } else s
  | .readRegister a => if s.wdg.halted then s.debugRegRead a.toNat else s
  | .writeRegister a v => if s.wdg.halted then s.debugRegWrite a.toNat v else s

def execTapDebug (code : BitVec 5) (act : DebugAct) (s : State) : Result :=
  .next (if !debugCode code then s
    else if s.debugOpen then (s.tapTo code).debugAct act
    else s.tapTo code)

def execTapReset (s : State) : Result := .next (if s.debugOpen then s.decideReset .debug else s)

end Sys2Proof.Machine
end

