-- ==== Sys2Proof/Machine/Dispatch.lean ====
section
/-! DEFINITION. The dispatch: one arm per command, each one direct call of its meaning. -/

namespace Sys2Proof.Machine

/-- The effect of one command on everything but the queue. -/
def exec (i : Instr) (s : State) : Host.Outcome State Fault Refusal :=
  match i with
  | .powerOnReset loss => Sys2Proof.Machine.execPowerOnReset loss s
  | .resetRelease => Sys2Proof.Machine.execResetRelease s
  | .boot env => Sys2Proof.Machine.execBoot env s
  | .pfailFall => Sys2Proof.Machine.execPfailFall s
  | .pfailRise => Sys2Proof.Machine.execPfailRise s
  | .pfailRecognition => Sys2Proof.Machine.execPfailRecognition s
  | .droopDetect rails => Sys2Proof.Machine.execDroopDetect rails s
  | .thermalTrip => Sys2Proof.Machine.execThermalTrip s
  | .offHoldRelease => Sys2Proof.Machine.execOffHoldRelease s
  | .thermalRelease => Sys2Proof.Machine.execThermalRelease s
  | .rstNAssert => Sys2Proof.Machine.execRstNAssert s
  | .standbyEntry => Sys2Proof.Machine.execStandbyEntry s
  | .wake source => Sys2Proof.Machine.execWake source s
  | .domainPowerUpDone domain => Sys2Proof.Machine.execDomainPowerUpDone domain s
  | .quadrantFlushDone quadrant => Sys2Proof.Machine.execQuadrantFlushDone quadrant s
  | .segmentPowerUpDone segment => Sys2Proof.Machine.execSegmentPowerUpDone segment s
  | .paceVerdictUpdate rings => Sys2Proof.Machine.execPaceVerdictUpdate rings s
  | .replicaRingStall monitor => Sys2Proof.Machine.execReplicaRingStall monitor s
  | .scheduledStart => Sys2Proof.Machine.execScheduledStart s
  | .triggerDetect => Sys2Proof.Machine.execTriggerDetect s
  | .comparatorEdge edge => Sys2Proof.Machine.execComparatorEdge edge s
  | .rowquadRelease => Sys2Proof.Machine.execRowquadRelease s
  | .conversionDelivered bank samples => Sys2Proof.Machine.execConversionDelivered bank samples s
  | .rowquadAligned => Sys2Proof.Machine.execRowquadAligned s
  | .viewLinePacked view => Sys2Proof.Machine.execViewLinePacked view s
  | .lineAbsorbed line => Sys2Proof.Machine.execLineAbsorbed line s
  | .frameRootComplete view => Sys2Proof.Machine.execFrameRootComplete view s
  | .nvsCommit => Sys2Proof.Machine.execNvsCommit s
  | .signJobDone ns => Sys2Proof.Machine.execSignJobDone ns s
  | .blockOperationDone => Sys2Proof.Machine.execBlockOperationDone s
  | .aeStep profile => Sys2Proof.Machine.execAeStep profile s
  | .lanePllLocked synth band fine temp => Sys2Proof.Machine.execLanePllLocked synth band fine temp s
  | .storedLockTimeout lock => Sys2Proof.Machine.execStoredLockTimeout lock s
  | .lanePllUnlock => Sys2Proof.Machine.execLanePllUnlock s
  | .rlCdrLock => Sys2Proof.Machine.execRlCdrLock s
  | .rlCdrUnlock => Sys2Proof.Machine.execRlCdrUnlock s
  | .rlBlockLock => Sys2Proof.Machine.execRlBlockLock s
  | .rlBlockLockLoss => Sys2Proof.Machine.execRlBlockLockLoss s
  | .rlSignalLoss => Sys2Proof.Machine.execRlSignalLoss s
  | .rlSignalRestore => Sys2Proof.Machine.execRlSignalRestore s
  | .refclkLoss => Sys2Proof.Machine.execRefclkLoss s
  | .refclkRestore => Sys2Proof.Machine.execRefclkRestore s
  | .timePllUnlock => Sys2Proof.Machine.execTimePllUnlock s
  | .timePllRelock => Sys2Proof.Machine.execTimePllRelock s
  | .laneReport receivers => Sys2Proof.Machine.execLaneReport receivers s
  | .identTimeout => Sys2Proof.Machine.execIdentTimeout s
  | .fomRequest => Sys2Proof.Machine.execFomRequest s
  | .fomMonitorRequest => Sys2Proof.Machine.execFomMonitorRequest s
  | .fomReport round foms lock => Sys2Proof.Machine.execFomReport round foms lock s
  | .fomReportTimeout => Sys2Proof.Machine.execFomReportTimeout s
  | .aligned => Sys2Proof.Machine.execAligned s
  | .alignTimeout => Sys2Proof.Machine.execAlignTimeout s
  | .fixedAlignExpiry => Sys2Proof.Machine.execFixedAlignExpiry s
  | .retrain => Sys2Proof.Machine.execRetrain s
  | .downWaitExpiry => Sys2Proof.Machine.execDownWaitExpiry s
  | .rlCodewordReceive symbols => Sys2Proof.Machine.execRlCodewordReceive symbols s
  | .rlMsgPacket packet => Sys2Proof.Machine.execRlMsgPacket packet s
  | .packetSend => Sys2Proof.Machine.execPacketSend s
  | .markerCodeword => Sys2Proof.Machine.execMarkerCodeword s
  | .ppsEdge pulse => Sys2Proof.Machine.execPpsEdge pulse s
  | .ppsTimeout => Sys2Proof.Machine.execPpsTimeout s
  | .pendingSetTimeout => Sys2Proof.Machine.execPendingSetTimeout s
  | .phaseRotationStep => Sys2Proof.Machine.execPhaseRotationStep s
  | .spiFrameRefused => Sys2Proof.Machine.execSpiFrameRefused s
  | .readStatus => Sys2Proof.Machine.execReadStatus s
  | .mailboxWrite addr value => Sys2Proof.Machine.execMailboxWrite addr value s
  | .cmdDoorbell value => Sys2Proof.Machine.execCmdDoorbell value s
  | .rspAck value => Sys2Proof.Machine.execRspAck value s
  | .responsePlace => Sys2Proof.Machine.execResponsePlace s
  | .irqStatusClear value => Sys2Proof.Machine.execIrqStatusClear value s
  | .cmdStatusClear value => Sys2Proof.Machine.execCmdStatusClear value s
  | .evtRdWrite value => Sys2Proof.Machine.execEvtRdWrite value s
  | .evtLostRead => Sys2Proof.Machine.execEvtLostRead s
  | .spiErrorsRead => Sys2Proof.Machine.execSpiErrorsRead s
  | .supBufRead => Sys2Proof.Machine.execSupBufRead s
  | .timeLoRead lag => Sys2Proof.Machine.execTimeLoRead lag s
  | .capCntLoRead => Sys2Proof.Machine.execCapCntLoRead s
  | .hkcAccLoRead => Sys2Proof.Machine.execHkcAccLoRead s
  | .registerWrite addr value => Sys2Proof.Machine.execRegisterWrite addr value s
  | .supReset => Sys2Proof.Machine.execSupReset s
  | .supClose => Sys2Proof.Machine.execSupClose s
  | .supTail => Sys2Proof.Machine.execSupTail s
  | .supRrecord => Sys2Proof.Machine.execSupRrecord s
  | .supSnapshot => Sys2Proof.Machine.execSupSnapshot s
  | .supCmdUnknown code => Sys2Proof.Machine.execSupCmdUnknown code s
  | .eventRingWrite => Sys2Proof.Machine.execEventRingWrite s
  | .vermilionRepeat => Sys2Proof.Machine.execVermilionRepeat s
  | .msgUnknown => Sys2Proof.Machine.execMsgUnknown s
  | .msgSessionOpen entropy => Sys2Proof.Machine.execMsgSessionOpen entropy s
  | .msgSessionClose => Sys2Proof.Machine.execMsgSessionClose s
  | .msgNop => Sys2Proof.Machine.execMsgNop s
  | .deviceCertGet => Sys2Proof.Machine.execDeviceCertGet s
  | .deviceCertIdentity => Sys2Proof.Machine.execDeviceCertIdentity s
  | .deviceCertStore => Sys2Proof.Machine.execDeviceCertStore s
  | .msgAttest => Sys2Proof.Machine.execMsgAttest s
  | .msgParamGet => Sys2Proof.Machine.execMsgParamGet s
  | .msgParamGetSigned => Sys2Proof.Machine.execMsgParamGetSigned s
  | .msgParamSet => Sys2Proof.Machine.execMsgParamSet s
  | .msgTableRead => Sys2Proof.Machine.execMsgTableRead s
  | .msgTableWrite => Sys2Proof.Machine.execMsgTableWrite s
  | .msgViewActivate => Sys2Proof.Machine.execMsgViewActivate s
  | .msgViewStart => Sys2Proof.Machine.execMsgViewStart s
  | .msgViewStop => Sys2Proof.Machine.execMsgViewStop s
  | .msgSealCert => Sys2Proof.Machine.execMsgSealCert s
  | .sealResign => Sys2Proof.Machine.execSealResign s
  | .msgLedgerRead => Sys2Proof.Machine.execMsgLedgerRead s
  | .msgLedgerEpoch => Sys2Proof.Machine.execMsgLedgerEpoch s
  | .msgPowerStandby => Sys2Proof.Machine.execMsgPowerStandby s
  | .msgRoleEnrol => Sys2Proof.Machine.execMsgRoleEnrol s
  | .msgRoleRevoke => Sys2Proof.Machine.execMsgRoleRevoke s
  | .msgFwLoad => Sys2Proof.Machine.execMsgFwLoad s
  | .msgFwActivate => Sys2Proof.Machine.execMsgFwActivate s
  | .msgFusRead => Sys2Proof.Machine.execMsgFusRead s
  | .programWord => Sys2Proof.Machine.execProgramWord s
  | .completeGroup => Sys2Proof.Machine.execCompleteGroup s
  | .lockGroup => Sys2Proof.Machine.execLockGroup s
  | .generateIdentity entropy => Sys2Proof.Machine.execGenerateIdentity entropy s
  | .installMakerKey => Sys2Proof.Machine.execInstallMakerKey s
  | .msgFusReinforce => Sys2Proof.Machine.execMsgFusReinforce s
  | .msgLifecycleAdvance => Sys2Proof.Machine.execMsgLifecycleAdvance s
  | .msgDebugUnlock => Sys2Proof.Machine.execMsgDebugUnlock s
  | .msgDebugRelock => Sys2Proof.Machine.execMsgDebugRelock s
  | .msgPinLoad => Sys2Proof.Machine.execMsgPinLoad s
  | .shadeStart => Sys2Proof.Machine.execShadeStart s
  | .shadeHalt => Sys2Proof.Machine.execShadeHalt s
  | .shadeResume => Sys2Proof.Machine.execShadeResume s
  | .shadeRestart => Sys2Proof.Machine.execShadeRestart s
  | .shadeStop => Sys2Proof.Machine.execShadeStop s
  | .fifoWrite => Sys2Proof.Machine.execFifoWrite s
  | .fifoRead => Sys2Proof.Machine.execFifoRead s
  | .hkcCalZero => Sys2Proof.Machine.execHkcCalZero s
  | .hkcCalFull => Sys2Proof.Machine.execHkcCalFull s
  | .hkcCalClear => Sys2Proof.Machine.execHkcCalClear s
  | .wdgRegister value => Sys2Proof.Machine.execWdgRegister value s
  | .wdgCheckin value => Sys2Proof.Machine.execWdgCheckin value s
  | .wdgWindowExpiry slot => Sys2Proof.Machine.execWdgWindowExpiry slot s
  | .progressMonitorTrip monitor => Sys2Proof.Machine.execProgressMonitorTrip monitor s
  | .sealFaultResetDelay => Sys2Proof.Machine.execSealFaultResetDelay s
  | .resetExecute => Sys2Proof.Machine.execResetExecute s
  | .otpProgramDone reads => Sys2Proof.Machine.execOtpProgramDone reads s
  | .fusReread drift => Sys2Proof.Machine.execFusReread drift s
  | .statsPinExpiry => Sys2Proof.Machine.execStatsPinExpiry s
  | .ledgerRateUpdate => Sys2Proof.Machine.execLedgerRateUpdate s
  | .retentionUpdate comparator => Sys2Proof.Machine.execRetentionUpdate comparator s
  | .rlFomUpdate fom => Sys2Proof.Machine.execRlFomUpdate fom s
  | .triggerArm => Sys2Proof.Machine.execTriggerArm s
  | .pinHoldLimit => Sys2Proof.Machine.execPinHoldLimit s
  | .pinActivityDetect source => Sys2Proof.Machine.execPinActivityDetect source s
  | .tintEvaluate engine => Sys2Proof.Machine.execTintEvaluate engine s
  | .shiftOut seq cycles => Sys2Proof.Machine.execShiftOut seq cycles s
  | .shiftIn seq cycles samples => Sys2Proof.Machine.execShiftIn seq cycles samples s
  | .set seq => Sys2Proof.Machine.execSet seq s
  | .waitPin seq => Sys2Proof.Machine.execWaitPin seq s
  | .waitPinDone seq => Sys2Proof.Machine.execWaitPinDone seq s
  | .waitPinTimeout seq => Sys2Proof.Machine.execWaitPinTimeout seq s
  | .waitTicks seq => Sys2Proof.Machine.execWaitTicks seq s
  | .waitTicksDone seq => Sys2Proof.Machine.execWaitTicksDone seq s
  | .jump seq => Sys2Proof.Machine.execJump seq s
  | .pull seq => Sys2Proof.Machine.execPull seq s
  | .pullUnblock seq => Sys2Proof.Machine.execPullUnblock seq s
  | .push seq => Sys2Proof.Machine.execPush seq s
  | .pushUnblock seq => Sys2Proof.Machine.execPushUnblock seq s
  | .move seq => Sys2Proof.Machine.execMove seq s
  | .signal seq => Sys2Proof.Machine.execSignal seq s
  | .hkcPeriodEnd input saturated => Sys2Proof.Machine.execHkcPeriodEnd input saturated s
  | .scanTimer => Sys2Proof.Machine.execScanTimer s
  | .pulseWidthEvent ticks => Sys2Proof.Machine.execPulseWidthEvent ticks s
  | .scanPassStart => Sys2Proof.Machine.execScanPassStart s
  | .prioritySequenceStart => Sys2Proof.Machine.execPrioritySequenceStart s
  | .refSettled => Sys2Proof.Machine.execRefSettled s
  | .calConversionDone input => Sys2Proof.Machine.execCalConversionDone input s
  | .extest => Sys2Proof.Machine.execExtest s
  | .samplePreload scan => Sys2Proof.Machine.execSamplePreload scan s
  | .idcode => Sys2Proof.Machine.execIdcode s
  | .highz => Sys2Proof.Machine.execHighz s
  | .clamp => Sys2Proof.Machine.execClamp s
  | .bypass code => Sys2Proof.Machine.execBypass code s
  | .tapDebug code act => Sys2Proof.Machine.execTapDebug code act s
  | .tapReset => Sys2Proof.Machine.execTapReset s
  | .wordCutShort => Sys2Proof.Machine.execWordCutShort s
  | .bulkWindowWrite addr value => Sys2Proof.Machine.execBulkWindowWrite addr value s
  | .trstNAssert => Sys2Proof.Machine.execTrstNAssert s
  | .rstNRelease => Sys2Proof.Machine.execRstNRelease s
  | .conditionedLevelChange pin level => Sys2Proof.Machine.execConditionedLevelChange pin level s
  | .umberLaneRemoval => Sys2Proof.Machine.execUmberLaneRemoval s
  | .datapathQuietBound => Sys2Proof.Machine.execDatapathQuietBound s
  | .closingRunEnd => Sys2Proof.Machine.execClosingRunEnd s
  | .railBelowClosingMinimum fall => Sys2Proof.Machine.execRailBelowClosingMinimum fall s
  | .vddnvReturn => Sys2Proof.Machine.execVddnvReturn s

end Sys2Proof.Machine
end

