-- ==== Sys2Proof/Safety.lean ====
section
/-! DEFINITION. What counts as a safe state and a safe step, in the terms the statements use. -/

namespace Sys2Proof.Machine

/-- A step that goes on: it neither faults nor refuses. -/
def Completes (s : State) : Prop := ∃ s', step s = .next s'

end Sys2Proof.Machine
end

