-- ==== Sys2Proof/Certificates/Slice0/Obligations.lean ====
section
/-! DEFINITION. The statements for the provers. -/

open Sys2Proof Sys2Proof.Machine

/-! ## The step -/

/-- A step takes the command at the front of the queue and runs it with the queue's rest. -/
def Obligations.StepRunsFront : Prop :=
  ∀ (c : Instr) (rest : List Instr) (s : State), s.pending = c :: rest → step s = exec c { s with pending := rest }

/-- The model's own choice (log 3), no rule of the spec: on an empty queue one tick of 8 ns passes. Ticks are counted on, and device time
advances while `PD_PLL_TIME` is powered; a rotation step its row has not made is made (R266); the outage time is counted and shown once
every 1 ms (R253); a block operation comes to APPLY (log 9); windows and monitors count; the pins and their engines take their tick (log
34), which the pulse-width unit may see (log 88); CTL_SDO is at high impedance. Nothing else changes. -/
def Obligations.EmptyQueueTicks : Prop :=
  ∀ s : State, s.pending = [] → ∃ t, step s = .next t ∧
    (t.clk = { s.clk with
      ticks := s.clk.ticks + 1, time := if s.powered 49 then s.clk.time + 8 else s.clk.time
      rotation := t.clk.rotation, rotationDebt := t.clk.rotationDebt }) ∧
    (s.clk.rotationDebt < 1953125 → t.clk.rotation = s.clk.rotation ∧
      t.clk.rotationDebt = s.clk.rotationDebt + s.clk.rate.natAbs) ∧
    (s.clk.rate ≠ 0 → 1953125 ≤ s.clk.rotationDebt → t.clk.rotation = s.clk.rotation + s.clk.rate.sign ∧
      t.clk.rotationDebt + 1953125 = s.clk.rotationDebt + s.clk.rate.natAbs) ∧
    (t.lnk = { s.lnk with outageTicks := t.lnk.outageTicks, outageTime := t.lnk.outageTime }) ∧
    (s.lnk.state = .up ∨ s.viewsIdle = true → t.lnk.outageTicks = s.lnk.outageTicks) ∧
    (s.lnk.state ≠ .up → s.viewsIdle = false → t.lnk.outageTicks = s.lnk.outageTicks + 1) ∧
    ((s.clk.ticks + 1) % 125000 ≠ 0 → t.lnk.outageTime = s.lnk.outageTime) ∧
    ((s.clk.ticks + 1) % 125000 = 0 → t.lnk.outageTime = BitVec.ofNat 32 (t.lnk.outageTicks / 125)) ∧
    (s.nvs.blocks = [] ∨ s.nvs.journal.state = .apply → t.nvs = s.nvs) ∧
    (t.nvs = { s.nvs with mem := t.nvs.mem, journals := t.nvs.journals }) ∧
    (t.wdg = { s.wdg with slots := t.wdg.slots, counts := t.wdg.counts }) ∧
    (t.reg = { s.reg with sdo := none }) ∧
    t.pin.tint = s.pin.tint.map Tint.tick ∧ t.pin.tables = s.pin.tables ∧ t.pin.store = s.pin.store ∧
    t.pin.armed = s.pin.armed ∧ t.pin.activity = s.pin.activity ∧ t.pin.ppsPulse = s.pin.ppsPulse ∧
    (t.hkc = { s.hkc with pwActive := t.hkc.pwActive, pwSince := t.hkc.pwSince, pwEnded := t.hkc.pwEnded }) ∧
    (s.powered 52 = false → t.hkc = s.hkc) ∧
    t.pending = s.pending ∧ t.free = s.free ∧ t.pwr = s.pwr ∧ t.rst = s.rst ∧ t.ctl = s.ctl ∧ t.ev = s.ev ∧ t.par = s.par ∧
    t.fus = s.fus ∧ t.role = s.role ∧ t.fw = s.fw ∧ t.led = s.led ∧ t.sea = s.sea ∧ t.view = s.view ∧ t.pace = s.pace ∧
    t.ets = s.ets ∧ t.pix = s.pix ∧ t.pdp = s.pdp ∧ t.tab = s.tab ∧ t.tap = s.tap ∧ t.pad = s.pad

/-- What a command does, it does to everything but the queue: no command adds or removes a waiting command. -/
def execKeepsQueue : Prop :=
  ∀ (c : Instr) (s t : State), exec c s = .next t → t.pending = s.pending

/-- Every command of the table answers a next state: none ends in a fault or a refusal. That a command whose condition does not hold changes
nothing, where the spec names no answer, is the model's choice (log 5). -/
def execAlwaysGoesOn : Prop := ∀ (c : Instr) (s : State), ∃ t, exec c s = .next t

/-- Every command goes on and leaves the queue as it is. -/
def Obligations.CommandsGoOn : Prop :=
  execKeepsQueue ∧ execAlwaysGoesOn

/-! ## Reset -/

/-- The power-on reset: cause POR without a record, state BOOT, no interrupt but the enables of R278, every view IDLE at generation 0
without a last capture, every pin released, and the TAP at IDCODE. -/
def Obligations.ResetState : Prop :=
  State.reset.pending = [] ∧ State.reset.resetCause = 0 ∧ State.reset.supStatus = 0 ∧
  State.reset.regRead 0x3C = 0x3B ∧ State.reset.regRead 0x60 = 0xC8 ∧ State.reset.regRead 0x64 = 0x00C80000 ∧
  State.reset.regRead 0x00 = 0x4B430071 ∧ State.reset.regRead 0x1C = 0 ∧ State.reset.regRead 0x5C = 0 ∧
  (∀ v, v < 32 → (State.reset.viewAt v).state = .idle ∧ (State.reset.viewAt v).genNo = 0 ∧
    (State.reset.viewAt v).lastCapture = 0xFFFFFFFFFFFFFFFF) ∧
  (∀ n, State.reset.padDrive n = .released) ∧ State.reset.tapSelected = .idcode ∧ State.reset.clk.time = 0

/-! ## Registers and windows (12) -/

/-- Frames of an opcode that R274 does not list, or with an unaligned address, are refused (R275); cut words, the status read, and the
three registers whose read clears or consumes (R273, R275, R278). -/
def sideBandReads : Prop :=
  ∀ s : State, s.pwr.released = true →
    (∀ (opcode : Byte) (a : BitVec 16), frameRefused opcode a = true ↔
      (opcode ∉ [0x02, 0x03, 0x05, 0x0B] ∨ (opcode ≠ 0x05 ∧ a.toNat % 4 ≠ 0))) ∧
    exec .spiFrameRefused s = .next { s with reg := { s.reg with spiRefused := min 255 (s.reg.spiRefused + 1), sdo := some 0 } } ∧
    exec .wordCutShort s = .next { s with reg := { s.reg with spiCut := min 255 (s.reg.spiCut + 1), sdo := none } } ∧
    exec .readStatus s = .next { s with reg := { s.reg with sdo := some s.supStatus } } ∧
    exec .spiErrorsRead s = .next { s with reg := { s.reg with
      sdo := some s.spiErrors, spiIgnored := 0, spiCut := 0, spiRefused := 0 } } ∧
    exec .evtLostRead s = .next { s with reg := { s.reg with sdo := some s.reg.evtLost, evtLost := 0 } } ∧
    exec .supBufRead s = .next { s with reg := { s.reg with
      sdo := some (BitVec.ofNat 32 (leAt 0 4 s.reg.supBuf)), supBuf := s.reg.supBuf.drop 4 } }

/-- What a frame on the wire carries (R273 to R275): it begins when CTL_CS_N falls, in mode 3 where CTL_SCK is high then, ends when
CTL_CS_N rises, and its bits are those of CTL_SDI at the rising edges of CTL_SCK. Bytes come most significant bit first, the address and
words least significant byte first; a word written whole is its command, one left incomplete is cut short, and another opcode or an
unaligned address is refused. -/
def framesOnTheWire : Prop :=
  (∀ x : SpiPort, x.frame = none → x.last.csN = true → ∀ p : SpiPins, p.csN = false →
    (x.next p).frame = some ⟨if p.sck then .mode3 else .mode0, []⟩ ∧ (x.next p).ended = x.ended) ∧
  (∀ (x : SpiPort) (f : SpiFrame), x.frame = some f → ∀ p : SpiPins,
    (p.csN = true → (x.next p).ended = x.ended ++ [f] ∧ (x.next p).frame = none) ∧
    (p.csN = false → p.sck = true → x.last.sck = false → (x.next p).frame = some { f with bits := f.bits ++ [p.sdi] }) ∧
    (p.csN = false → (p.sck = false ∨ x.last.sck = true) → (x.next p).frame = some f)) ∧
  (∀ b : Byte, msbByte (msbBits b) = b) ∧
  (∀ (a : BitVec 16) (v : Word) (f : SpiFrame) (lag : Fin 3), a.toNat % 4 = 0 →
    f.bits = ([(0x02 : Byte)] ++ leBytes 2 a.toNat ++ leBytes 4 v.toNat).flatMap msbBits →
    (f.commands lag = [writeCommand a.toNat v]) ∧
    (∀ (b : Bool) (g : SpiFrame), g.bits = f.bits ++ [b] → g.commands lag = [writeCommand a.toNat v, .wordCutShort])) ∧
  (∀ (o : Byte) (a : BitVec 16) (f : SpiFrame) (lag : Fin 3), frameRefused o a = true →
    f.bits = ([o] ++ leBytes 2 a.toNat).flatMap msbBits → f.commands lag = [.spiFrameRefused])

/-- What a frame reads (R274 to R277): READ takes words at addresses rising by 4 and READ_PORT one address throughout; past 0xFFFC a
burst reads 0, and so does every window while MBX_READY is 0; a window's word is the four bytes there, the lowest address first. -/
def frameReads : Prop :=
  ∀ (s : State) (a : BitVec 16) (i : Nat), a.toNat % 4 = 0 →
    (a.toNat + 4 * i ≤ 0xFFFC → s.frameWord .read a i = s.frameWord .readPort (a + BitVec.ofNat 16 (4 * i)) 0) ∧
    (0xFFFC < a.toNat + 4 * i → s.frameWord .read a i = 0) ∧
    s.frameWord .readPort a i = s.frameWord .readPort a 0 ∧
    (a.toNat ≤ 0xFF → s.frameWord .readPort a i = s.regRead a.toNat) ∧
    (s.ctl.ready = false → 0x1000 ≤ a.toNat → s.frameWord .readPort a i = 0) ∧
    (s.ctl.ready = true → 0x1000 ≤ a.toNat → a.toNat ≤ 0x1FFF →
      (s.frameWord .readPort a i).toNat = leNat (nvBytes s.ctl.cmdBox (a.toNat - 0x1000) 4)) ∧
    (s.ctl.ready = true → 0x2000 ≤ a.toNat → a.toNat ≤ 0x2FFF →
      (s.frameWord .readPort a i).toNat = leNat (nvBytes s.ctl.rspBox (a.toNat - 0x2000) 4)) ∧
    (s.ctl.ready = true → 0x4000 ≤ a.toNat → a.toNat ≤ 0x7FFF →
      (s.frameWord .readPort a i).toNat = leNat (nvBytes s.ctl.ring (a.toNat - 0x4000) 4)) ∧
    (s.ctl.ready = true → 0x8000 ≤ a.toNat →
      (s.frameWord .readPort a i).toNat = leNat (nvBytes s.ctl.bulk (a.toNat - 0x8000) 4))

/-- Snapshot reads (R285): the read of a low word takes both words at one instant, copies the high word into its shadow and advances
the tag modulo 16; a read of a high word returns the shadow; reading `SNAP_TAGS` takes no snapshot, writing `HKC_ACC_SEL` leaves the
shadow, and a reset clears shadows and tags. `SNAP_TAGS` shows the tags of time in bits 3 to 0, of the counter in 7 to 4 and of the
accumulator in 11 to 8 (R278), and a frame that reads it or a high word carries no command, so that nothing changes. That `HKC_ACC_LO`
also clears its accumulator and count is R416; the instant of `TIME_LO` is the row's operand (log 71). -/
def Obligations.SnapshotReads : Prop :=
  (∀ (s : State) (lag : Fin 3), s.pwr.released = true →
    exec (.timeLoRead lag) s = .next { s with reg := { s.reg with
      sdo := some ((s.snapTime lag).setWidth 32), timeHi := (s.snapTime lag >>> 32).setWidth 32, timeTag := s.reg.timeTag + 1 } }) ∧
  (∀ s : State, s.pwr.released = true →
    exec .capCntLoRead s = .next { s with reg := { s.reg with
      sdo := some (s.lastConsumed.setWidth 32), capHi := (s.lastConsumed >>> 32).setWidth 32, capTag := s.reg.capTag + 1 } } ∧
    exec .hkcAccLoRead s = .next { s with
      reg := { s.reg with
        sdo := some (BitVec.ofNat 32 s.hkcAcc.sum)
        hkcHi := BitVec.ofNat 32 (s.hkcAcc.count * 65536 + s.hkcAcc.sum / 2 ^ 32 % 65536), hkcTag := s.reg.hkcTag + 1 }
      hkc := { s.hkc with acc := spErase s.reg.hkcAccSel s.hkc.acc } }) ∧
  (∀ s : State, s.regRead 0x44 = s.reg.timeHi ∧ s.regRead 0x4C = s.reg.capHi ∧ s.regRead 0x58 = s.reg.hkcHi ∧
    (s.regRead 0x5C).toNat = s.reg.timeTag.toNat + 16 * s.reg.capTag.toNat + 256 * s.reg.hkcTag.toNat) ∧
  (∀ (s : State) (a : BitVec 16) (rest : List Bool) (f : SpiFrame) (lag : Fin 3), a ∈ [0x44#16, 0x4C#16, 0x58#16, 0x5C#16] →
    f.bits = ([(0x0B : Byte)] ++ leBytes 2 a.toNat ++ [0]).flatMap msbBits ++ rest →
    f.commands lag = [] ∧ ∀ i, s.frameWord .readPort a i = s.regRead a.toNat) ∧
  (∀ (s : State) (v : Word), s.pwr.released = true →
    exec (.registerWrite 0x50 v) s = .next { s with reg := { s.reg with hkcAccSel := v.toNat % 16 } }) ∧
  (∀ (s : State) (c : Cause) (m : BitVec 16) (r : Bool), (s.resetDevice c m r).snapTags = 0 ∧
    (s.resetDevice c m r).reg.timeHi = 0 ∧ (s.resetDevice c m r).reg.capHi = 0 ∧ (s.resetDevice c m r).reg.hkcHi = 0)

/-- Writes of registers without a row of their own (R10, R278): `SCRATCH`, `SUP_ARG` and `IRQ_ENABLE` store, bit 3 of the last reads
1, an unmapped or read-only address below the windows is ignored, and a frame with an unaligned address is refused (R275). -/
def registerWrites : Prop :=
  ∀ (s : State) (v : Word), s.pwr.released = true →
    exec (.registerWrite 0x1C v) s = .next { s with reg := { s.reg with scratch := v } } ∧
    exec (.registerWrite 0x2C v) s = .next { s with reg := { s.reg with supArg := v } } ∧
    exec (.registerWrite 0x3C v) s = .next { s with reg := { s.reg with irqEnable := (v &&& 0xFF) ||| 8 } } ∧
    (∀ a : BitVec 16, a.toNat % 4 = 0 → a.toNat < 0x1000 → a.toNat ∉ [0x1C, 0x28, 0x2C, 0x38, 0x3C, 0x50, 0x90, 0x94, 0x9C, 0xA4] →
      exec (.registerWrite a v) s = .next s) ∧
    (∀ a : BitVec 16, a.toNat % 4 ≠ 0 → a.toNat < 0x1000 → exec (.registerWrite a v) s = .next { s with reg := { s.reg with
      spiRefused := min 255 (s.reg.spiRefused + 1), sdo := some 0 } })

/-- Clears and acknowledgements (R282, R284, R288, R301): only the bits written 1, only IGNORED, only READY; `EVT_RD` takes a value
at most 256 records behind `EVT_WR` and ignores any other. -/
def clearsAndAcks : Prop :=
  ∀ (s : State) (v : Word), s.pwr.released = true →
    exec (.irqStatusClear v) s = .next { s with reg := { s.reg with irqStatus := s.reg.irqStatus &&& ~~~v } } ∧
    (v.getLsbD 2 = true → exec (.cmdStatusClear v) s = .next { s with reg := { s.reg with cmdIgnored := false } }) ∧
    (v.getLsbD 0 = true → exec (.rspAck v) s = .next { s with reg := { s.reg with rspReady := false } }) ∧
    exec (.evtRdWrite v) s = .next (if (s.reg.evtWr - v).toNat ≤ 256 then { s with reg := { s.reg with evtRd := v } } else s)

/-- Reads that clear, writes that store, clears and acknowledgements. -/
def Obligations.RegisterAccess : Prop :=
  sideBandReads ∧ framesOnTheWire ∧ frameReads ∧ registerWrites ∧ clearsAndAcks

/-- The command mailbox takes a word only while MBX_READY is 1 and the state is IDLE; else the write is counted, and IGNORED set where
the state was not IDLE (R276, R284). The word reads back, and every other byte of the mailbox is as before. -/
def mailboxWrites : Prop :=
  ∀ (s : State) (a : BitVec 16) (v : Word), s.pwr.released = true → 0x1000 ≤ a.toNat → a.toNat ≤ 0x1FFF → a.toNat % 4 = 0 →
    (s.ctl.ready = true → s.reg.cmdState = .idle → Memory.wf s.ctl.cmdBox = true → ∃ m,
      exec (.mailboxWrite a v) s = .next { s with ctl := { s.ctl with cmdBox := m } } ∧
      nvBytes m (a.toNat - 0x1000) 4 = leBytes 4 v.toNat ∧
      ∀ x, (x < a.toNat - 0x1000 ∨ a.toNat - 0x1000 + 4 ≤ x) → nvRead m x = nvRead s.ctl.cmdBox x) ∧
    (s.reg.cmdState ≠ .idle → exec (.mailboxWrite a v) s = .next { s with reg := { s.reg with
      spiIgnored := min 255 (s.reg.spiIgnored + 1), cmdIgnored := true } }) ∧
    (s.ctl.ready = false → s.reg.cmdState = .idle → exec (.mailboxWrite a v) s = .next { s with reg := { s.reg with
      spiIgnored := min 255 (s.reg.spiIgnored + 1) } })

/-- The bulk window takes a word while MBX_READY is 1 (R276): the word reads back, every other byte is as before. -/
def bulkWrites : Prop :=
  ∀ (s : State) (a : BitVec 16) (v : Word), s.pwr.released = true → 0x8000 ≤ a.toNat → a.toNat % 4 = 0 →
    (s.ctl.ready = true → Memory.wf s.ctl.bulk = true → ∃ m,
      exec (.bulkWindowWrite a v) s = .next { s with ctl := { s.ctl with bulk := m } } ∧
      nvBytes m (a.toNat - 0x8000) 4 = leBytes 4 v.toNat ∧
      ∀ x, (x < a.toNat - 0x8000 ∨ a.toNat - 0x8000 + 4 ≤ x) → nvRead m x = nvRead s.ctl.bulk x) ∧
    (s.ctl.ready = false → exec (.bulkWindowWrite a v) s = .next { s with reg := { s.reg with
      spiIgnored := min 255 (s.reg.spiIgnored + 1) } })

/-- The doorbell posts an IDLE mailbox, whose message joins CTL's order; any other state ignores it, counts it and sets IGNORED
(R284, R288). A `MSG_SESSION_OPEN` makes the signed messages before it ones of an old session (R303). -/
def doorbell : Prop :=
  ∀ (s : State) (v : Word), s.pwr.released = true → v.getLsbD 0 = true →
    (s.reg.cmdState = .idle → exec (.cmdDoorbell v) s = .next { s with
      reg := { s.reg with cmdState := .posted, cmdType := leNat (nvBytes s.ctl.cmdBox 2 2) }
      ctl := { s.ctl with
        inbox := s.ctl.inbox ++ [.side]
        superseded := if s.sideMessage.opensSession then s.ctl.inbox.length else s.ctl.superseded } }) ∧
    (s.reg.cmdState ≠ .idle → exec (.cmdDoorbell v) s = .next { s with
      reg := { s.reg with spiIgnored := min 255 (s.reg.spiIgnored + 1), cmdIgnored := true } })

/-- The command mailbox, the bulk window and the doorbell. -/
def Obligations.Mailboxes : Prop :=
  mailboxWrites ∧ bulkWrites ∧ doorbell

/-- The oldest response that can be placed is a side-band one: it is written from the start of the response mailbox once READY is 0,
READY is set and the command mailbox returns to IDLE (R288). A response placed is progress of monitors 60 and 61 (R375; that its rows are
the units of progress is the model's reading, log 64). -/
def responsePlaced : Prop :=
  ∀ (s : State) (r : Reply) (rest : List Reply), s.ctl.ready = true → s.pwr.state = .active → s.ctl.replies = r :: rest →
    r.inBand = false → r.waits = false → r.follow = 0 → s.reg.rspReady = false → s.fw.activating = none → ∃ m,
      exec .responsePlace s = .next { s with
        reg := { s.reg with
          rspReady := true, rspRedirected := false, rspLength := r.bytes.length, cmdState := .idle, cmdType := 0 }
        ctl := { s.ctl with rspBox := m, replies := rest }
        wdg := { s.wdg with counts := spErase 61 (spErase 60 s.wdg.counts) } } ∧
      nvBytes m 0 r.bytes.length = r.bytes ∧ ∀ x, r.bytes.length ≤ x → nvRead m x = 0

/-- What a side-band response that has gone sets off: STANDBY (R192), the reset that follows (R334, R360), and what was in hand of an
activation: that its record and status are written at the placing, before anything is placed, is the model's choice (log 44). -/
def responseFollows : Prop :=
  ∀ (s : State) (r : Reply) (rest : List Reply), s.ctl.ready = true → s.pwr.state = .active → s.ctl.replies = r :: rest →
    r.inBand = false → r.waits = false → s.reg.rspReady = false → ∃ t, exec .responsePlace s = .next t ∧
      t.ctl.rspBox = nvWrite [] 0 r.bytes ∧ t.ctl.replies = rest ∧ t.reg.rspReady = true ∧ t.reg.rspLength = r.bytes.length ∧
      t.reg.cmdState = .idle ∧ (r.follow = 1 → t.pwr.standbyWanted = true) ∧
      (∀ c, r.follow = 2 → s.rst.after = some c → s.rst.decided = none → s.pwr.released = true → s.pwr.run = none →
        t.rst.decided.map Decided.cause = some c ∧ t.rst.after = none) ∧
      (∀ slot, s.fw.activating = some slot → t.fw.activating = none ∧ t.fw.record.active = slot ∧ t.fw.record.trial = true ∧
        t.fw.update = .none)

/-- An in-band response enters the control queue, the oldest EVENT dropped for it where that makes room (R249); where there is no room and
no EVENT to drop, it goes to the mailbox, redirected (R288). -/
def responseInBand : Prop :=
  ∀ (s : State) (r : Reply) (rest : List Reply) (p : Packet), s.ctl.ready = true → s.pwr.state = .active → s.ctl.replies = r :: rest →
    r.inBand = true → r.waits = false → r.follow = 0 → s.fw.activating = none → p = { kind := 7, seq := s.lnk.seq, body := r.bytes } →
    (queueSize s.lnk.control + p.size ≤ controlCap → exec .responsePlace s = .next { s with
      ctl := { s.ctl with replies := rest }
      lnk := { s.lnk with control := s.lnk.control ++ [p], seq := s.lnk.seq + 1 }
      wdg := { s.wdg with counts := spErase 61 (spErase 60 s.wdg.counts) } }) ∧
    (∀ q, controlCap < queueSize s.lnk.control + p.size → dropOldest 6 s.lnk.control = some q → queueSize q + p.size ≤ controlCap →
      exec .responsePlace s = .next { s with
        ctl := { s.ctl with replies := rest }
        lnk := { s.lnk with
          control := q ++ [p], seq := s.lnk.seq + 1, eventsDropped := s.lnk.eventsDropped + 1
          evDropSince := s.lnk.evDropSince + 1 }
        wdg := { s.wdg with counts := spErase 61 (spErase 60 s.wdg.counts) } }) ∧
    (controlCap < queueSize s.lnk.control + p.size → dropOldest 6 s.lnk.control = none → s.reg.rspReady = false → ∃ m,
      exec .responsePlace s = .next { s with
        reg := { s.reg with rspReady := true, rspRedirected := true, rspLength := r.bytes.length }
        ctl := { s.ctl with rspBox := m, replies := rest }
        wdg := { s.wdg with counts := spErase 61 (spErase 60 s.wdg.counts) } } ∧ nvBytes m 0 r.bytes.length = r.bytes)

/-- A raised event is written to the ring at record `EVT_WR` mod 256 and counted; with 256 records unread it is lost, counted and
EVT_OVERFLOW set (R301). A record taken, lost ones included, restarts monitor 62 (the model's reading of its unit of progress, log 64). -/
def eventRing : Prop :=
  ∀ (s : State) (r : Record) (rest : List Record), s.ctl.ready = true → s.pwr.run = none → s.ev.waiting = r :: rest →
    ((s.reg.evtWr - s.reg.evtRd).toNat < 256 → r.length = 64 → Memory.wf s.ctl.ring = true → ∃ m,
      exec .eventRingWrite s = .next { s with
        reg := { s.reg with evtWr := s.reg.evtWr + 1 }, ev := { s.ev with waiting := rest }
        ctl := { s.ctl with ring := m }
        wdg := { s.wdg with counts := spErase 62 s.wdg.counts } } ∧
      nvBytes m (64 * (s.reg.evtWr.toNat % 256)) 64 = r ∧
      ∀ x, (x < 64 * (s.reg.evtWr.toNat % 256) ∨ 64 * (s.reg.evtWr.toNat % 256) + 64 ≤ x) → nvRead m x = nvRead s.ctl.ring x) ∧
    (256 ≤ (s.reg.evtWr - s.reg.evtRd).toNat → exec .eventRingWrite s = .next { s with
      reg := { s.reg with
        evtLost := if s.reg.evtLost = 0xFFFFFFFF then s.reg.evtLost else s.reg.evtLost + 1
        irqStatus := s.reg.irqStatus ||| 4 }
      ev := { s.ev with waiting := rest }
      wdg := { s.wdg with counts := spErase 62 s.wdg.counts } })

/-- Responses are placed in order, and events written to the ring or counted lost. -/
def Obligations.ResponsesAndEvents : Prop :=
  responsePlaced ∧ responseFollows ∧ responseInBand ∧ eventRing

/-! ## Supervisor commands (R286, R287) -/

/-- How a supervisor command leaves `SUP_CMD`, `SUP_ARG` (CONFIRM cleared), the buffer and SUP_DONE. -/
def supDone (s : State) (code : Byte) (reason : Nat) (result : Bytes) : State :=
  { s with reg := { s.reg with
      supCode := code, supState := if reason = 0 then .done else .refused, supReason := reason
      supArg := s.reg.supArg &&& 0xFFFF, supBuf := result, irqStatus := s.reg.irqStatus ||| 32 } }

/-- `SUP_TAIL`, `SUP_RRECORD`, `SUP_SNAPSHOT` and an unknown code: DONE with the result in the buffer, or REFUSED with its reason;
nothing else changes (R286). -/
def supervisorReads : Prop :=
  ∀ s : State, s.pwr.released = true → s.reg.supState ≠ .busy →
    (exec .supTail s = .next (
      if s.reg.supArg.toNat % 65536 = 0 ∨ 8 < s.reg.supArg.toNat % 65536 then supDone s 3 2 []
      else if s.led.epochState ≠ .idle then supDone s 3 3 []
      else supDone s 3 0 ((List.range (min (s.reg.supArg.toNat % 65536) s.led.present)).flatMap fun i =>
        s.entryAt (s.led.nextSeq - BitVec.ofNat 32 (min (s.reg.supArg.toNat % 65536) s.led.present - i))))) ∧
    (∀ b, s.resetRecords[s.reg.supArg.toNat % 65536]? = some b → exec .supRrecord s = .next (supDone s 4 0 b)) ∧
    (s.resetRecords[s.reg.supArg.toNat % 65536]? = none → exec .supRrecord s = .next (supDone s 4 2 [])) ∧
    exec .supSnapshot s = .next (supDone s 5 0 s.statusBlock) ∧
    (∀ code : Byte, code.toNat = 0 ∨ 5 < code.toNat → exec (.supCmdUnknown code) s = .next (supDone s code 2 []))

/-- The status block of `SUP_SNAPSHOT` (R287): taken at one instant, 128 bytes, each field at its offset. The head of
zeros while no entry is present is the model's choice (log 50). -/
def Obligations.StatusBlock : Prop :=
  ∀ s : State, s.statusBlock.length = 128 ∧
    leAt 0 4 s.statusBlock = s.supStatus.toNat ∧ leAt 4 4 s.statusBlock = s.resetCause.toNat ∧
    leAt 8 8 s.statusBlock = s.pwr.domains.toNat ∧ leAt 16 4 s.statusBlock = s.led.nextSeq.toNat ∧
    leAt 20 4 s.statusBlock = s.epochNow ∧
    slice 24 64 s.statusBlock = padTo 64 (if s.led.present = 0 then zeros 64 else s.led.lastHead) ∧
    leAt 88 8 s.statusBlock = s.now.toNat ∧ leAt 96 8 s.statusBlock = s.lastConsumed.toNat ∧
    slice 104 24 s.statusBlock = zeros 24

/-- `SUP_RESET` (R286): without the confirmation word REFUSED with reason 1; with it DONE and, outside a closing run and OFF_HOLD and
with none decided before, a reset with cause SUP_CMD is decided. That it is DONE at once, the reset following, is the model's choice
(log 50). -/
def supReset : Prop :=
  ∀ s : State, s.pwr.released = true → s.reg.supState ≠ .busy →
    (s.reg.supArg.toNat / 65536 ≠ 0xA55A → exec .supReset s = .next (supDone s 1 1 [])) ∧
    (s.reg.supArg.toNat / 65536 = 0xA55A → s.pwr.run = none → s.pwr.hold = none → s.pwr.state ≠ .offHold → s.rst.decided = none →
      ∃ t d, exec .supReset s = .next t ∧ t.rst.decided = some d ∧ d.cause = .supCmd ∧ d.mask = 0 ∧ d.time = s.clk.time ∧
        t.reg = (supDone s 1 0 []).reg ∧ t.ctl = s.ctl ∧ t.led = s.led ∧ t.view = s.view ∧ t.lnk = s.lnk ∧ t.pin = s.pin)

/-- `SUP_CLOSE` (R286): REFUSED with reason 1 without the confirmation word, with reason 3 in CHALK, in GRAPHITE, before the BOOT entry
and during a run; else DONE, and a closing run with trigger 3 starts at the acceptance. That OFF_HOLD refuses with reason 3 as well is the
model's choice (log 50). -/
def supClose : Prop :=
  ∀ s : State, s.pwr.released = true → s.reg.supState ≠ .busy →
    (s.reg.supArg.toNat / 65536 ≠ 0xA55A → exec .supClose s = .next (supDone s 2 1 [])) ∧
    (s.reg.supArg.toNat / 65536 = 0xA55A → (s.pwr.bootEntryDone = false ∨ s.ledgerRuns = false ∨ s.pwr.run.isSome = true ∨
      s.pwr.state = .offHold) → exec .supClose s = .next (supDone s 2 3 [])) ∧
    (s.reg.supArg.toNat / 65536 = 0xA55A → s.pwr.bootEntryDone = true → s.ledgerRuns = true → s.pwr.run = none →
      s.pwr.state ≠ .offHold → ∃ t r, exec .supClose s = .next t ∧ t.pwr.run = some r ∧ r.trigger = 3 ∧ r.t0 = s.clk.time ∧
        t.pwr.state = .closing ∧ t.pwr.retained.closeRuns = s.pwr.retained.closeRuns + 1 ∧ t.pwr.retained.lastTrigger = 3 ∧
        t.reg.supState = .done ∧ t.reg.supCode = 2 ∧ t.ctl.ready = false ∧ t.par = s.par ∧ t.role = s.role ∧ t.fw = s.fw)
/-! ## Power (08) -/

/-- What the supervisor commands do, and when they are refused. -/
def Obligations.SupervisorCommands : Prop :=
  supervisorReads ∧ supReset ∧ supClose

/-- The power-on reset (R190, R281): cause POR without a record, device time 0, every domain off and the reset not released; the
non-volatile memory, the parameters, the roles and the tables stand but for a write that the loss of power cuts (R182), and the OTP
array does but for an item that was being programmed (R349). TEST_MODE has the level of the operand (R348, log
71). The reads and the cut are ones that what runs allows (logs 5, 11, 77). -/
def powerOnReset : Prop :=
  ∀ (s : State) (loss : PowerLoss), s.tearFits loss.torn = true → s.cutFits loss.cut = true →
    ∃ t, exec (.powerOnReset loss) s = .next t ∧ t.pad.testMode = loss.testMode ∧
    t.rst.cause = .por ∧ t.rst.record = false ∧ t.rst.missing = 0 ∧ t.clk.time = 0 ∧ t.clk.mode = .unset ∧
    t.pwr.domains = 0 ∧ t.pwr.released = false ∧ t.pwr.state = .boot ∧ t.ctl.ready = false ∧ t.reg = {} ∧ t.wdg = {} ∧
    (∀ v, v < 32 → (t.viewAt v).state = .idle ∧ (t.viewAt v).genNo = 0) ∧
    t.par.values = [] ∧
    (loss.cut = .none → t.nvs.mem = s.nvs.mem ∧ t.par.persist = s.par.persist ∧ t.role.operators = s.role.operators ∧
      t.role.installers = s.role.installers ∧ t.role.maker = s.role.maker ∧ t.role.cert = s.role.cert ∧
      t.tab.colTable = s.tab.colTable ∧ t.tab.defectTable = s.tab.defectTable ∧ t.rst.retained = s.rst.retained ∧
      t.pwr.retained = s.pwr.retained ∧ t.nvs.retained = s.nvs.retained ∧ t.fw.recordA = s.fw.recordA ∧
      t.fw.recordB = s.fw.recordB) ∧
    (s.fus.tasks = [] → t.fus.words = s.fus.words ∧ t.fus.units = s.fus.units)

/-- SUP releases the power-on reset once power and RST_N have been good for 1 ms (R189 steps 4 and 5): `PD_FUS`, `PD_NVS`, `PD_PLL_TIME`,
`PD_CTL` and `PD_ETS` are powered; with TEST_MODE high outside CHALK none is (R348), but `PD_PLL_TIME` where it was (log 99). That REFCLK counts as present from the release on is the
model's choice (log 1). -/
def resetReleased : Prop :=
  (∀ s : State, s.pwr.released = false → s.rst.cause = .por → s.pwr.pfailLow = false → s.pad.rstN = true →
    s.pwr.goodSince + 125000 ≤ s.clk.ticks → s.pwr.rstSince + 125000 ≤ s.clk.ticks →
    ∃ t, exec .resetRelease s = .next t ∧ t.pwr.released = true ∧ t.pwr.state = s.pwr.state ∧
      ((s.pad.testMode = false ∨ s.fus.latched.lcSteps = 0) → ∀ i, i ∈ [53, 41, 49, 42, 55] → t.powered i = true) ∧
      (s.pad.testMode = true → s.fus.latched.lcSteps ≠ 0 →
        (∀ i, i < 56 → i ≠ 49 → t.powered i = false) ∧ t.powered 49 = s.powered 49) ∧
      ((s.pad.testMode = false ∨ s.fus.latched.lcSteps = 0) →
        ∀ i, i < 56 → i ∉ [53, 41, 49, 42, 55] → t.powered i = s.powered i) ∧
      t = { s with clk := t.clk, pwr := t.pwr } ∧ t.clk = { s.clk with refclk := true }) ∧
  (∀ s : State, s.clk.ticks < s.pwr.goodSince + 125000 ∨ s.clk.ticks < s.pwr.rstSince + 125000 →
    exec .resetRelease s = .next s)

/-- RST_N (R432): low while a reset is not held decides one with cause PIN; in a closing run it is acted on at the run's end. Its rise
makes the TAP instruction IDCODE and releases a device reset that it held. -/
def resetPin : Prop :=
  (∀ s : State, s.pad.rstN = true → s.pwr.hold = none → s.pwr.run = none → exec .rstNAssert s =
    .next ({ s with pad := { s.pad with rstN := false } }.decideWith .pin 0 0 0)) ∧
  (∀ (s : State) (r : Run), s.pad.rstN = true → s.pwr.run = some r → exec .rstNAssert s = .next { s with
    pad := { s.pad with rstN := false }, pwr := { s.pwr with run := some { r with resetAsked := true } } }) ∧
  (∀ s : State, s.pad.rstN = false → ∃ t, exec .rstNRelease s = .next t ∧
    t.pad = { s.pad with rstN := true } ∧ t.pwr.rstSince = s.clk.ticks ∧
    t.tap = { s.tap with ir := 2 } ∧ t.tapSelected = .idcode ∧ t.tapDrive = .functional ∧
    (s.rst.cause ≠ .por → t.pwr.released = true) ∧ t = { s with pad := t.pad, tap := t.tap, pwr := t.pwr })

/-- Power-on reset, its release, and RST_N. -/
def Obligations.PowerOnAndResetPin : Prop :=
  powerOnReset ∧ resetReleased ∧ resetPin

/-- PFAIL_N falls and rises (R197): a low pulse shorter than 2.0 µs, 250 ticks, adds 1 to `POWER.PFAIL_GLITCHES`. The fall may start the
converter's priority sequence (R412). -/
def Obligations.PfailEdges : Prop :=
  (∀ s : State, s.pwr.pfailLow = false → ∃ h, exec .pfailFall s = .next { s with
    pwr := { s.pwr with pfailLow := true, pfailSince := s.clk.ticks, pfailRecognised := false }, hkc := h }) ∧
  (∀ s : State, s.pwr.pfailLow = true → exec .pfailRise s = .next { s with pwr := { s.pwr with
    pfailLow := false, pfailRecognised := false, goodSince := s.clk.ticks
    pfailGlitches :=
      if s.clk.ticks < s.pwr.pfailSince + 250 ∧ s.pwr.pfailRecognised = false then s.pwr.pfailGlitches + 1
      else s.pwr.pfailGlitches } })

/-- What a closing run with trigger `k` shows from its t0 on (R197, R199 step 1, R208, R280, R282). -/
def runStarted (s t : State) (k : Nat) : Prop :=
  t.pwr.run.map (fun r => (r.trigger, r.t0, r.t0Tick)) = some (k, s.clk.time, s.clk.ticks) ∧ t.pwr.state = .closing ∧
    t.pwr.retained.closeRuns = s.pwr.retained.closeRuns + 1 ∧ t.pwr.retained.lastT0 = s.clk.time ∧ t.pwr.retained.lastTrigger = k ∧
    t.rst.decided = none ∧
    t.reg.irqStatus.getLsbD 3 = true ∧ t.ctl.ready = false ∧ t.powered 42 = false ∧ t.powered 47 = false ∧
    t.powered 52 = false ∧ t.powered 54 = false ∧ t.sea.prompt = [] ∧ t.sea.resign = [] ∧
    t.par = s.par ∧ t.role = s.role ∧ t.fw = s.fw ∧ t.led = s.led ∧ t.tab = s.tab ∧ t.tap = s.tap ∧ t.pad = s.pad

/-- The triggers of a closing run (R197, R205): PFAIL_N low for 2.0 µs, a droop, which latches the rails that fired, and a thermal trip,
which is counted. -/
def closingRunStarts : Prop :=
  ∀ s : State, s.pwr.released = true → s.pwr.run = none → s.pwr.state ≠ .offHold → s.pwr.hold = none →
    (s.pwr.pfailLow = true → s.pwr.pfailRecognised = false → s.pwr.pfailSince + 250 ≤ s.clk.ticks →
      ∃ t, exec .pfailRecognition s = .next t ∧ runStarted s t 1 ∧ t.pwr.pfailRecognised = true) ∧
    (∀ rails : BitVec 4, rails ≠ 0 →
      ∃ t, exec (.droopDetect rails) s = .next t ∧ runStarted s t 2 ∧ t.pwr.retained.droopLast = rails.toNat) ∧
    (∃ t, exec .thermalTrip s = .next t ∧ runStarted s t 4 ∧
      t.pwr.retained.thermalTrips = s.pwr.retained.thermalTrips + 1)

/-- In a closing run a further trigger starts nothing, and the trigger of the first stands (R197, R205, R207): PFAIL_N low for 2.0 µs, a
thermal trip, which asks for cooling, and a droop, whose rails are latched. -/
def runNotStopped : Prop :=
  ∀ (s : State) (r : Run), s.pwr.run = some r →
    (s.pwr.pfailLow = true → s.pwr.pfailRecognised = false → s.pwr.pfailSince + 250 ≤ s.clk.ticks →
      exec .pfailRecognition s = .next { s with pwr := { s.pwr with pfailRecognised := true } }) ∧
    (∃ t, exec .thermalTrip s = .next t ∧ t.pwr.retained = { s.pwr.retained with thermalTrips := s.pwr.retained.thermalTrips + 1 } ∧
      t = { s with pwr := { s.pwr with hot := true, tally := t.pwr.tally, run := some { r with cooling := true } } }) ∧
    (∀ rails : BitVec 4, rails ≠ 0 → ∃ t, exec (.droopDetect rails) s = .next t ∧
      t.pwr.retained = { s.pwr.retained with droopLast := rails.toNat } ∧
      t = { s with
        hkc := t.hkc, free := t.free, par := t.par, clk := t.clk
        pwr := { s.pwr with drooped := true, goodSince := s.clk.ticks, tally := t.pwr.tally } })

/-- The triggers of a closing run, and that a second one changes nothing. -/
def Obligations.ClosingRunStart : Prop :=
  closingRunStarts ∧ runNotStopped

/-- In a closing run a rail below its closing minimum is held with the run; below that of VDDNV no commit starts until it is back
(R200, R454), and what VDDNV cuts in the middle of a write is torn. VDDIO below 1.2 V, which the operand says, releases every
output, in whatever state (R429). That a commit which VDDNV cut stays requested, and so at the front of the queue, is the model's choice
(log 11). -/
def closingRails : Prop :=
  (∀ (s : State) (rail : Rail) (off : Bool), s.pwr.run.isSome = true → ∃ l, rail ∈ l ∧ (∀ x, x ∈ s.pwr.railsLow → x ∈ l) ∧
    exec (.railBelowClosingMinimum ⟨rail, .none, off⟩) s = .next { s with
      pwr := { s.pwr with railsLow := l, padsOff := s.pwr.padsOff || (rail = .vddio && off) }
      nvs := if rail = .vddnv then { s.nvs with held := true } else s.nvs }) ∧
  (∀ (s : State) (c : Commit) (rest : List Commit) (b : Bytes), s.pwr.run.isSome = true → s.commitDue = true →
    s.nvs.queue = c :: rest → b.length = 128 → Memory.wf s.nvs.mem = true →
    ∃ t, exec (.railBelowClosingMinimum ⟨.vddnv, .slot b, false⟩) s = .next t ∧ t.nvs.held = true ∧ t.nvs.queue = s.nvs.queue ∧ t.led = s.led ∧
      nvBytes t.nvs.mem (slotAddr s.led.nextSeq) 128 = b ∧ nvBytes t.nvs.mem (anchorAddr s.led.nextSeq) 256 =
        nvBytes s.nvs.mem (anchorAddr s.led.nextSeq) 256) ∧
  (∀ s : State, s.pwr.run = none → exec (.railBelowClosingMinimum ⟨.vddio, .none, true⟩) s = .next { s with
    pwr := { s.pwr with padsOff := true } }) ∧
  (∀ (s : State) (n : Nat), s.pwr.padsOff = true → s.gpLand n = .released ∧ s.irqLand = .released ∧ s.sdoWord = none) ∧
  (∀ s : State, s.nvs.held = true → exec .nvsCommit s = .next s) ∧
  (∀ s : State, s.nvs.held = true → s.powered 41 = true → exec .vddnvReturn s = .next { s with
    nvs := { s.nvs with held := false }, pwr := { s.pwr with railsLow := s.pwr.railsLow.filter (· != .vddnv) } })

/-- Steps 6 and 10 of a closing run at their bounds (R199, R202): SEA counts as wedged where step 6 has not ended in time, and the lanes,
the lane PLL and `PD_LINK` are removed at t0 + 1.45 ms at the latest, with every packet still queued lost. With `PD_HKC` go its results and
accumulators (R416). -/
def closingBounds : Prop :=
  (∀ (s : State) (r : Run), s.pwr.run = some r → r.phase = .draining →
    r.t0Tick + (if r.kept then 137500 else 50000) ≤ s.clk.ticks → ∃ t, exec .datapathQuietBound s = .next t ∧
      t.sea.wedged = true ∧ t.ets.captures = [] ∧ t.pdp.waiting = [] ∧ t.pdp.jobs = [] ∧
      t.hkc.results = [] ∧ t.hkc.acc = [] ∧ (∀ i, i < 40 → t.powered i = false) ∧ t.powered 51 = false ∧ t.powered 55 = false ∧ t.par = s.par ∧ t.role = s.role ∧
      t.fw = s.fw ∧ t.ctl = s.ctl ∧ t.tap = s.tap) ∧
  (∀ (s : State) (r : Run), s.pwr.run = some r → s.powered 50 = true → r.t0Tick + 181250 ≤ s.clk.ticks →
    ∃ t, exec .umberLaneRemoval s = .next t ∧ t.lnk.state = .off ∧ t.lnk.control = [] ∧ t.lnk.sealQ = [] ∧ t.lnk.data = [] ∧
      (∀ i, i ∈ [43, 44, 45, 46, 47, 48, 50] → t.powered i = false) ∧ t.nvs = s.nvs ∧ t.led = s.led ∧ t.fus = s.fus ∧
      t.role = s.role ∧ t.par = s.par ∧ t.view = s.view)

/-- Rails below their minima and the bounds inside a closing run. -/
def Obligations.ClosingRunBounds : Prop :=
  closingRails ∧ closingBounds

/-- The end of a closing run (R204): a reset with cause UMBER at once where the trigger was PFAIL_N or the droop detector and power has
been good for `POWER.PFAIL_RELEASE` — after a droop, the rails too, a free value (log 29) — else OFF_HOLD, in which only `PD_PLL_TIME`
stays powered: so where power is not good, or not for that long, after trigger 3 or 4, and where a trip in the run asks for cooling (R205). An
RST_N or SUP_RESET in the run is acted on here, but after trigger 4. -/
def closingRunEnds : Prop :=
  ∀ (s : State) (r : Run), s.pwr.run = some r → r.phase = .sending → s.powered 50 = false → s.nvs.blocks = [] → s.fus.tasks = [] →
    (r.cooling = false → r.resetAsked = true → r.trigger ≠ 4 → ∃ t, exec .closingRunEnd s = .next t ∧
      t.rst.cause = .umber ∧ t.pwr.run = none ∧ t.pwr.hold = none ∧ t.pwr.state = .boot ∧ t.role.operators = s.role.operators) ∧
    (r.cooling = false → r.resetAsked = false → (r.trigger = 1 ∨ r.trigger = 2) → (s.pwr.drooped = false ∨ Config.railsBack s.free = true) → s.pwr.pfailLow = false →
      s.pwr.goodSince + 125000 * s.stored 0x0802 ≤ s.clk.ticks → ∃ t, exec .closingRunEnd s = .next t ∧
        t.rst.cause = .umber ∧ t.pwr.run = none ∧ t.pwr.state = .boot ∧ (s.pad.rstN = true → t.pwr.released = true) ∧
        (∀ v, v < 32 → (t.viewAt v).state = .idle) ∧ t.role.operators = s.role.operators ∧ t.par.persist = s.par.persist) ∧
    ((r.cooling = true ∨ r.trigger = 4 ∨ r.resetAsked = false ∧
        (r.trigger = 3 ∨ (s.pwr.drooped = true ∧ Config.railsBack s.free = false) ∨ s.pwr.pfailLow = true ∨
          s.clk.ticks < s.pwr.goodSince + 125000 * s.stored 0x0802)) →
      ∃ t, exec .closingRunEnd s = .next t ∧
        t.pwr.state = .offHold ∧ t.pwr.run = none ∧ t.pwr.hold.map Hold.trigger = some r.trigger ∧
        t.pwr.hold.map Hold.cooling = some r.cooling ∧ (∀ i, i < 56 → i ≠ 49 → t.powered i = false) ∧ t.powered 49 = s.powered 49 ∧ t.role = s.role ∧ t.par = s.par)

/-- Leaving OFF_HOLD (R204, R205): after PFAIL_N or a droop the reset has cause UMBER, after a thermal run THERMAL, once every comparator
has read below 105 °C. RST_N and SUP_RESET end it with cause UMBER, but wait for the cooling a trip asked for, and do not end that of a
thermal run. -/
def offHoldEnds : Prop :=
  (∀ (s : State) (h : Hold), s.pwr.hold = some h → (h.trigger = 1 ∨ h.trigger = 2) → h.cooling = false → s.pwr.pfailLow = false →
    s.pwr.goodSince + 125000 * s.stored 0x0802 ≤ s.clk.ticks → ∃ t, exec .offHoldRelease s = .next t ∧ t.rst.cause = .umber ∧
      t.pwr.hold = none ∧ t.pwr.state = .boot ∧ t.rst.missing = 0 ∧ t.role.operators = s.role.operators ∧ t.nvs.mem = s.nvs.mem) ∧
  (∀ (s : State) (h : Hold), s.pwr.hold = some h → h.trigger = 4 → ∃ t, exec .thermalRelease s = .next t ∧ t.rst.cause = .thermal ∧
      t.pwr.hold = none ∧ t.pwr.hot = false ∧ t.role.operators = s.role.operators ∧ t.nvs.mem = s.nvs.mem) ∧
  (∀ (s : State) (h : Hold), s.pwr.hold = some h → (h.trigger = 1 ∨ h.trigger = 2 ∨ h.trigger = 3) → h.asked = false →
    exec .thermalRelease s = (if s.pwr.hot ∨ h.cooling then
      .next { s with pwr := { s.pwr with hot := false, hold := some { h with cooling := false } } } else .next s)) ∧
  (∀ (s : State) (h : Hold) (i : Instr), s.pwr.hold = some h → s.pwr.run = none →
    (i = .rstNAssert ∧ s.pad.rstN = true ∨
      i = .supReset ∧ s.pwr.released = true ∧ s.reg.supState ≠ .busy ∧ s.reg.supArg.toNat / 65536 = 0xA55A) →
    ((h.trigger = 1 ∨ h.trigger = 2 ∨ h.trigger = 3) → h.cooling = false → ∃ t, exec i s = .next t ∧ t.rst.cause = .umber ∧
      t.pwr.hold = none ∧ t.pwr.state = .boot ∧ t.role.operators = s.role.operators ∧ t.nvs.mem = s.nvs.mem ∧
      (i = .rstNAssert → t.pad.rstN = false ∧ t.pwr.released = false)) ∧
    (h.trigger = 4 ∨ h.cooling = true → ∃ t, exec i s = .next t ∧ t.pwr.state = s.pwr.state ∧ t.rst = s.rst ∧
      t.pwr.hold = some (if h.trigger = 4 then h else { h with asked := true }))) ∧
  (∀ (s : State) (h : Hold), s.pwr.hold = some h → h.asked = true → (s.pwr.hot = true ∨ h.cooling = true) → ∃ t,
    exec .thermalRelease s = .next t ∧ t.pwr.hold = none ∧ t.pwr.state = .boot ∧
      t.rst.cause = (if h.trigger = 4 then .thermal else .umber))

/-- How a closing run and OFF_HOLD end. -/
def Obligations.ClosingRunEnd : Prop :=
  closingRunEnds ∧ offHoldEnds

/-- STANDBY (R191, R192, R194): once asked for and with the work of every domain ended, every domain but `PD_PLL_TIME` goes; device
time, parameters, ledger and session continue. A wake brings the domains of ACTIVE back, with the link enabled
the return lane's too (R225), but the lanes; one by the wake pin takes the pin
and the edge of `POWER.WAKE_PIN`. -/
def standby : Prop :=
  (∀ s : State, s.pwr.standbyWanted = true → s.pwr.state = .active → s.ets.captures = [] → s.pdp.jobs = [] → s.sea.prompt = [] →
    s.sea.resign = [] → s.nvs.queue = [] → s.nvs.blocks = [] → s.fus.tasks = [] → s.rst.decided = none →
    ∃ t, exec .standbyEntry s = .next t ∧ t.pwr.state = .standby ∧ t.pwr.standbyEntries = s.pwr.standbyEntries + 1 ∧
      (∀ i, i < 56 → i ≠ 49 → t.powered i = false) ∧ t.powered 49 = s.powered 49 ∧ t.ctl.ready = false ∧
      t.ctl.session = s.ctl.session ∧ t.ctl.nonce = s.ctl.nonce ∧ t.clk.time = s.clk.time ∧ t.par = s.par ∧ t.nvs = s.nvs ∧
      t.led = s.led ∧ t.fus = s.fus ∧ t.role = s.role) ∧
  (∀ (s : State) (pin : Nat) (falling : Bool), s.pwr.state = .standby →
    (s.pwr.wakeSource.testBit 1 = false ∨ pin ≠ s.pwr.wakePin % 16 ∨ falling ≠ s.pwr.wakePin.testBit 4) →
    exec (.wake (.wakePin pin falling)) s = .next s) ∧
  (∀ (s : State) (w : WakeSource), s.pwr.state = .standby →
    (w = .csFall ∨ (w = .wakePin (s.pwr.wakePin % 16) (s.pwr.wakePin.testBit 4) ∧ s.pwr.wakeSource.testBit 1 = true) ∨
      (w = .wakeTime ∧ s.pwr.wakeSource.testBit 2 = true ∧ s.pwr.wakeTime.toNat ≤ s.clk.time.toNat)) →
    ∃ t, exec (.wake w) s = .next t ∧ t.pwr.state = .active ∧
      (∀ i, i ∈ [41, 42, 51, 52, 53, 55] → t.powered i = true) ∧ (s.stored 0x1C00 = 1 → t.powered 47 = true ∧ t.powered 50 = true) ∧
      t.ctl = s.ctl ∧ t.par = s.par ∧ t.nvs = s.nvs ∧ t.led = s.led ∧
      t.fus = s.fus ∧ t.role = s.role ∧ t.clk.time = s.clk.time)

/-- The quadrants and segments that stay powered: in ACTIVE those needed (R44, R109), otherwise all. -/
def keptQuads (s : State) : BitVec 4 :=
  if s.pwr.state = .active ∧ s.closing = false then BitVec.ofNat 4 s.neededQuads else 15
def keptSegs (s : State) : BitVec 6 :=
  if s.pwr.state = .active ∧ s.closing = false then BitVec.ofNat 6 s.neededSegs else 63

/-- Power-ups end (R45, R109, R193): the domain leaves the list of those powering up; a flushed quadrant becomes usable and is counted; a
segment up in all four banks becomes usable. One that nothing needs any longer loses its power then (R126). -/
def powerUps : Prop :=
  (∀ (s : State) (i : Nat), i < 56 → s.powered i = true → i ∈ s.pwr.poweringUp → ∃ t, exec (.domainPowerUpDone i) s = .next t ∧
    i ∉ t.pwr.poweringUp ∧ t.powered i = true ∧ t.par = s.par ∧ t.nvs = s.nvs ∧ t.led = s.led ∧ t.fus = s.fus ∧ t.role = s.role) ∧
  (∀ (s : State) (q : Nat), q < 4 → s.powered q = true → s.pix.quadReady.getLsbD q = false →
    ∃ t, exec (.quadrantFlushDone q) s = .next t ∧
      t.pix.quadReady = (s.pix.quadReady ||| BitVec.ofNat 4 (2 ^ q)) &&& keptQuads s ∧
      t.pix.quadPowerups = s.pix.quadPowerups + 1 ∧ t.pix.segReady = s.pix.segReady &&& keptSegs s ∧ t.par = s.par ∧ t.nvs = s.nvs ∧
      t.lnk = s.lnk ∧ t.reg = s.reg ∧ t.fus = s.fus) ∧
  (∀ (s : State) (g : Nat), g < 6 → s.powered (6 + g) = true → s.powered (12 + g) = true → s.powered (18 + g) = true →
    s.powered (24 + g) = true → s.pix.segReady.getLsbD g = false → ∃ t, exec (.segmentPowerUpDone g) s = .next t ∧
      t.pix.segReady = (s.pix.segReady ||| BitVec.ofNat 6 (2 ^ g)) &&& keptSegs s ∧
      t.pix.quadReady = s.pix.quadReady &&& keptQuads s ∧ t.par = s.par ∧
      t.nvs = s.nvs ∧ t.lnk = s.lnk ∧ t.reg = s.reg ∧ t.fus = s.fus)
/-! ## Boot (15) -/

/-- STANDBY, wake, and the ends of power-ups. -/
def Obligations.StandbyAndPowerUps : Prop :=
  standby ∧ powerUps

/-- A boot shown up to a stage before the last is still in BOOT, at the stage after it (R351), or past stage 0x02 waiting for the
programming of the retirement units (R335). Outside CHALK TEST_MODE high holds it at stage 0x00 with the always-on region alone powered
(R348; that `PD_PLL_TIME` stays powered where it was is log 99). That the row's operand brings the stage, and the level of TEST_MODE at stage 0x00, is the model's choice (logs 7, 71). -/
def bootStages : Prop :=
  ∀ (s : State) (env : BootEnv), s.pwr.released = true → s.pwr.state = .boot →
    (env.testMode = true → s.fus.latched.lcSteps ≠ 0 → s.pwr.bootStage = 0 → ∃ t, exec (.boot env) s = .next t ∧
      t.pwr.bootStage = 0 ∧ t.pwr.state = .boot ∧ (∀ i, i < 56 → i ≠ 49 → t.powered i = false) ∧ t.powered 49 = s.powered 49 ∧
      t = { s with pwr := t.pwr, pad := { s.pad with testMode := true } }) ∧
    (s.rst.decided = none → (s.pwr.bootStage = 0 → env.testMode = false ∨ s.fus.latched.lcSteps = 0) →
      (s.pwr.bootStage ≠ 0 → s.pad.testMode = false ∨ s.fus.latched.lcSteps = 0) → s.pwr.bootStage ≤ env.stage → env.stage < 6 →
      ∃ t, exec (.boot env) s = .next t ∧ (t.pwr.bootStage = env.stage + 1 ∨ t.retiring = true) ∧
        s.pwr.bootStage ≤ t.pwr.bootStage ∧ t.pwr.state = .boot ∧
        (t.ctl = { s.ctl with configRestore := t.ctl.configRestore, tally := t.ctl.tally }) ∧ t.rst.cause = s.rst.cause ∧
        (t.clk = { s.clk with pllRecords := t.clk.pllRecords }) ∧
        (env.failed = [] → t.ctl.tally = s.ctl.tally ∧ t.clk = s.clk) ∧ t.tap = s.tap ∧
        t.pad = { s.pad with testMode := t.pad.testMode })

/-- The boot (R351, R279, R280, R282, R170): the fuses are latched, the capture and segment counters resume from their blocks, and the
device comes up ACTIVE with the mailbox open; in recovery mode the boot stage ends at 0xFE, else at 0xFF. With a ledger one BOOT entry
is committed. What NVS has lost, how far the row goes and the results of the tests are its operand (log 7). -/
def fullBoot : Prop :=
  ∀ (s : State) (env : BootEnv), s.pwr.released = true → s.pwr.state = .boot → s.rst.decided = none →
    (env.testMode = false ∨ s.fus.latched.lcSteps = 0) → s.pwr.run = none → s.pwr.bootStage = 0 → env.stage = 6 →
    s.fus.tasks = [] →
    (s.fus.latched.lcSteps = 3 → ∀ u, u ∈ [1291, 1292] → s.fus.booted.unitSet u = true) →
    ∃ t, exec (.boot env) s = .next t ∧
      t.pwr.state = .active ∧ t.pwr.bootEntryDone = true ∧ t.ctl.ready = true ∧ t.reg.irqStatus.getLsbD 4 = true ∧
      t.pwr.bootStage = (if t.pwr.recovery then 0xFE else 0xFF) ∧
      t.fus.words = s.fus.words ∧ t.fus.units = s.fus.units ∧ t.fus.latWords = s.fus.words ∧ t.fus.latUnits = s.fus.units ∧
      t.fus.lifecycle = s.fus.latched.lcSteps ∧ t.fus.bank = s.fus.latched.idBank ∧
      (.counts ∉ env.failed → t.ets.counter = s.nvs.retained.capEnd ∧ t.ets.resume = s.nvs.retained.capEnd) ∧ t.sea.enginePass = env.engines ∧
      t.led.ready = true ∧
      (env.failed = [] → t.pwr.adopted = none → t.nvs.retained.bootCount =
        (if (t.fus.lifecycle = 1 ∨ t.fus.lifecycle = 2) ∧ t.fus.bank ≠ 0 then s.nvs.retained.bootCount + 1
        else s.nvs.retained.bootCount)) ∧
      t.rst.cause = s.rst.cause ∧ t.clk.time = s.clk.time ∧ t.tap = s.tap ∧
      t.pad = { s.pad with testMode := env.testMode }

/-- The boot resumes the counters and comes up ACTIVE. -/
def Obligations.BootUp : Prop :=
  bootStages ∧ fullBoot

/-! ## Pace governor (01) -/

/-- The estimate a verdict uses for monitor `i`. -/
def paceEstimate (s : State) (l : List Nat) (i : Nat) : Nat := if s.pacePowered i then l.getD i 0 else 0

/-- The verdict (R21, R25): it turns to WITHHOLD when 0.98 × the estimate of some governed pipeline is below its demand, and back to
PERMIT only when every margin reaches the reserve, at least 1 %; with no view running it is PERMIT and the margin reads 200. An estimate
is what the rings scale to, × 0.90 while PACE_CAL is not LOCKED, within the bounds that R21 and R452 give it. The reserve written takes
effect here (R19), and the margin is the smallest one in per cent, rounded down, from 0 to 200. That a STARTING view counts as running for
the verdict and the demands is the model's reading (log 41), and so are that the product with 0.90 is rounded down and what a ring can give
(log 78). -/
def paceVerdict : Prop :=
  ∀ (s : State) (rings : List PaceRing) (l : List Nat), s.powered 55 = true → rings.length = 10 →
    l = rings.map (fun r => if s.fus.locked 5 then r.scaled else r.scaled * 90 / 100) →
    (∀ r, r ∈ rings → ringFits r (s.fus.locked 5) = true) →
    ∃ p : Pace, exec (.paceVerdictUpdate rings) s = .next { s with
        pace := p, wdg := { s.wdg with counts := spErase 52 s.wdg.counts } } ∧ p.reserve = s.stored 0x0811 ∧
      (s.liveViews = [] → p.withhold = false ∧ p.margin = 200) ∧
      (s.liveViews ≠ [] → s.pace.withhold = false →
        (p.withhold = true ↔ ∃ i, i < 10 ∧ s.demand.on i ≠ 0 ∧
          98 * paceEstimate s l i * 8 * s.demand.interval < 100 * s.demand.on i)) ∧
      (s.liveViews ≠ [] → s.pace.withhold = true →
        (p.withhold = false ↔ ∀ i, i < 10 → s.demand.on i ≠ 0 →
          (100 + max 1 (s.stored 0x0811)) * s.demand.on i ≤ 98 * paceEstimate s l i * 8 * s.demand.interval)) ∧
      (s.liveViews ≠ [] → p.margin ≤ 200 ∧ ∀ k, k ≤ 200 → (k ≤ p.margin ↔ k = 0 ∨ ∀ i, i < 10 → s.demand.on i ≠ 0 →
        (100 + k) * s.demand.on i ≤ 98 * paceEstimate s l i * 8 * s.demand.interval)) ∧
      (∀ i, i < 10 → spGet 0 i p.est = paceEstimate s l i) ∧
      p.withholds = (if p.withhold = true ∧ s.pace.withhold = false then s.pace.withholds + 1 else s.pace.withholds)

/-- A replica ring without an edge for 100 µs (R25, R374): its estimate is zero, where its pipeline is governed the verdict is WITHHOLD,
and its monitor trips at once: the row itself says that the time has passed (log 64). The views that count as running are those of log 41. -/
def ringStall : Prop :=
  ∀ (s : State) (m : Nat), s.powered 55 = true → m < 10 → s.pwr.run = none →
    ∃ t, exec (.replicaRingStall m) s = .next t ∧ spGet 0 m t.pace.est = 0 ∧
      (s.liveViews ≠ [] → s.demand.on m ≠ 0 → t.pace.withhold = true) ∧ t.wdg.tripped.getLsbD m = true ∧
      (m < 6 → s.rst.decided = none → s.pwr.released = true → s.pwr.state ≠ .offHold →
        t.rst.decided.map (fun d => (d.cause, d.detail)) = some (.wdogProgress, m)) ∧
      (6 ≤ m → t.sea.wedged = true ∧ t.rst.decided = s.rst.decided ∧ ∀ e, e < 8 → (t.engine (8 * (m - 6) + e)).stopped = true)

/-- The pace verdict and a stalled replica ring. -/
def Obligations.PaceGovernor : Prop :=
  paceVerdict ∧ ringStall

/-! ## Captures (03) -/

/-- A value withheld: one capture-counter value is consumed, no capture is committed, and every view that takes the value records one
gap; the views that do not, and are not being reconfigured, are as before. That the value takes its own cause behind the RECONFIG values
held for its view, and is held itself, is the model's choice (log 68). -/
def withheldFrom (s t : State) (c : Word64) : Prop :=
  t.ets.counter = c + 1 ∧ t.ets.consumed = some c ∧ t.ets.captures = s.ets.captures ∧ t.ets.committed = s.ets.committed ∧
    (∀ v, v ∈ s.takers c → (t.viewAt v).gaps = (s.viewAt v).gaps + BitVec.ofNat 32 (s.viewAt v).reconfig.length + 1 ∧
      (t.viewAt v).held = some c) ∧
    (∀ v, v ∉ s.takers c → v ∉ s.reconfigurers c → t.viewAt v = s.viewAt v)

/-- A capture committed: it joins ETS with the value, its start tick, the powered quadrants and the views that take it. -/
def committedFrom (s t : State) (c : Word64) (t0 quads : Nat) : Prop :=
  t.ets.counter = c + 1 ∧ t.ets.consumed = some c ∧ t.ets.committed = s.ets.committed + 1 ∧ ∃ x : Capture,
    t.ets.captures = s.ets.captures ++ [x] ∧ t.ets.last = some x ∧ x.counter = c ∧ x.t0Tick = t0 ∧ x.quads = quads ∧
    x.views = s.takers c ∧ x.index = s.ets.committed ∧ x.launched = [] ∧ x.released = 0 ∧
    ∀ v, v ∉ s.takers c → v ∉ s.reconfigurers c → t.viewAt v = s.viewAt v

/-- What starting or withholding a capture leaves as it was. -/
def captureFrame (s t : State) : Prop :=
  t.clk = s.clk ∧ t.ctl = s.ctl ∧ t.fus = s.fus ∧ t.role = s.role ∧ t.fw = s.fw ∧ t.tab = s.tab ∧ t.led = s.led ∧
    t.nvs.mem = s.nvs.mem ∧ t.tap = s.tap ∧ t.pad = s.pad ∧ t.pdp.jobs = s.pdp.jobs ∧ t.pdp.waiting = s.pdp.waiting

/-- A scheduled start, 1 µs ahead, at a grid instant not used before whose T0 satisfies R64 (R22, R23, R65, R67, R248, R268): under
WITHHOLD it is withheld with `EV_PACE_SKIP`; else, where LNK does not admit captures, it is withheld with cause LINK and counted there;
else, where some node it uses would be occupied, it is withheld, and where every node is free it is committed to start so that it closes
at the grid instant. That a grid instant is used once (log 20), and which cause a value
withheld beside RECONFIG values has (log 68), are the model's readings. -/
def scheduledStart : Prop :=
  ∀ (s u : State) (smax tx : Nat), u = s.applyAe → smax = maxSpan (u.uses s.pix.quadReady.toNat) → tx = s.clk.ticks + 125 + smax →
    s.powered 55 = true → s.pwr.run = none → s.runningViews ≠ [] → s.stored 0x1006 = 0 →
    ((s.clk.time.toNat : Int) + 1000 + 8 * smax - u.stored 0x100A) % (8 * u.stored 0x1009 : Nat) = 0 →
    (∀ g, s.ets.lastGrid = some g → g < tx) → (∀ c, s.ets.last = some c → c.close + 3 ≤ tx - smax) →
    ∃ t, exec .scheduledStart s = .next t ∧ captureFrame s t ∧ t.ets.lastGrid = some tx ∧
    (s.pace.withhold = true → withheldFrom s t s.ets.counter ∧ t.ets.withheld = s.ets.withheld + 1 ∧ t.ev.seq = s.ev.seq + 1) ∧
    (s.pace.withhold = false → u.linkAdmits = false → withheldFrom s t s.ets.counter ∧ t.lnk.gaps = s.lnk.gaps + 1 ∧
      t.ev.seq = s.ev.seq) ∧
    (s.pace.withhold = false → u.linkAdmits = true →
      u.nodesFree s.pix.quadReady.toNat (u.stored 0x1007) (tx - smax) (u.uses s.pix.quadReady.toNat) = false →
      withheldFrom s t s.ets.counter ∧ t.ets.withheld = s.ets.withheld + 1 ∧ t.ev.seq = s.ev.seq + 1) ∧
    (s.pace.withhold = false → u.linkAdmits = true →
      (u.nodesFree s.pix.quadReady.toNat (u.stored 0x1007) (tx - smax) (u.uses s.pix.quadReady.toNat) = true ∨
        (s.ets.last = none ∧ s.ets.captures = [])) →
      committedFrom s t s.ets.counter (tx - smax) s.pix.quadReady.toNat ∧ t.ev.seq = s.ev.seq)

/-- A delivered trigger edge without a running view does nothing but disarm the unit (R72). -/
def triggerAlone : Prop :=
  ∀ s : State, s.stored 0x1006 = 1 → s.syncArm.triggerDue = true → s.runningViews = [] → s.stored 0x100E = 0 →
    ∃ t, exec .triggerDetect s = .next t ∧ t.pin.armed = false ∧ t.ets.trigLast = s.clk.time ∧
      t = { s with pin := t.pin, ets := { s.ets with trigLast := s.clk.time } }

/-- One that R64 does not allow, or for which a node is not free, is not accepted, and counted (R71). -/
def triggerCoalesced : Prop :=
  ∀ (s u : State), u = s.applyAe → s.syncArm.triggerDue = true → s.pwr.run = none → s.powered 55 = true → s.runningViews ≠ [] →
    ((∃ c, s.ets.last = some c ∧ s.clk.ticks + 68 < c.close + 3) ∨
      u.nodesFree s.pix.quadReady.toNat (u.stored 0x1007) (s.clk.ticks + 68) (u.uses s.pix.quadReady.toNat) = false) →
    s.stored 0x1006 = 1 →
    ∃ t, exec .triggerDetect s = .next t ∧ t.pin.armed = false ∧ t.ets.trigLast = s.clk.time ∧
      t.ets.coalescedTotal = s.ets.coalescedTotal + 1 ∧ t.ets.accepted = s.ets.accepted ∧ t.ets.captures = s.ets.captures ∧
      t.ets.counter = s.ets.counter ∧ t.view = s.view ∧ t.par = s.par ∧ t.nvs = s.nvs ∧ t.led = s.led

/-- A delivered trigger edge (R69, R70, R248): in TRIGGERED mode the arming unit disarms; with a running view, R64 met and every node free
it is accepted, and starts its capture 68 ticks (544 ns) later, or is withheld under WITHHOLD or for the link. -/
def triggerTaken : Prop :=
  ∀ (s u : State), u = s.applyAe → s.syncArm.triggerDue = true → s.stored 0x1006 = 1 → s.pwr.run = none → s.powered 55 = true →
    s.runningViews ≠ [] → (∀ c, s.ets.last = some c → c.close + 3 ≤ s.clk.ticks + 68) →
    (u.nodesFree s.pix.quadReady.toNat (u.stored 0x1007) (s.clk.ticks + 68) (u.uses s.pix.quadReady.toNat) = true ∨
      (s.ets.last = none ∧ s.ets.captures = [])) →
    ∃ t, exec .triggerDetect s = .next t ∧ t.pin.armed = false ∧ t.ets.trigLast = s.clk.time ∧
      t.ets.accepted = s.ets.accepted + 1 ∧ t.ctl = s.ctl ∧ t.fus = s.fus ∧ t.role = s.role ∧ t.fw = s.fw ∧ t.tab = s.tab ∧
      t.led = s.led ∧ t.nvs.mem = s.nvs.mem ∧ t.tap = s.tap ∧ t.pad = s.pad ∧
      (s.verdictAtTick = true → withheldFrom s t s.ets.counter ∧ t.ets.withheld = s.ets.withheld + 1) ∧
      (s.verdictAtTick = false → u.linkAdmits = false → withheldFrom s t s.ets.counter ∧ t.lnk.gaps = s.lnk.gaps + 1) ∧
      (s.verdictAtTick = false → u.linkAdmits = true →
        committedFrom s t s.ets.counter (s.clk.ticks + 68) s.pix.quadReady.toNat)

/-- Scheduled starts and triggers: committed or withheld. -/
def Obligations.CaptureStarts : Prop :=
  scheduledStart ∧ triggerAlone ∧ triggerCoalesced ∧ triggerTaken

/-- Comparator edges (R56, R57, R71, R73): T0 gives the capture its timestamp and counts it as started; the close instant closes it;
a transfer whose node is still occupied is suppressed and counted. An edge is launched once, at its programmed tick. From when to when a node counts
as occupied, with a free value in between, is the model's choice (log 13). -/
def Obligations.ComparatorEdges : Prop :=
  ∀ (s : State) (e : Edge) (c : Capture) (l r : List Capture), s.powered 55 = true → s.pwr.run = none →
    s.ets.captures = l ++ c :: r → (∀ d, d ∈ l → s.edgeDue d e = false ∧ d.counter ≠ c.counter) → (∀ d, d ∈ r → d.counter ≠ c.counter) →
    c.edgeTick e = some s.clk.ticks → (∀ d, d ∈ c.launched → edgeSame d e = false) →
    (∀ m, e = .t0 m → ((m.toNat : Int) - s.clk.time.toNat).natAbs ≤ 3) →
    ∃ t x, exec (.comparatorEdge e) s = .next t ∧ t.ets.captures = l ++ x :: r ∧ x.launched = c.launched ++ [e] ∧
      x.counter = c.counter ∧ x.released = c.released ∧ x.quads = c.quads ∧ x.views = c.views ∧
      (∀ m, e = .t0 m → x.t0 = some m ∧ t.ets.lastT0 = m ∧ t.ets.started = some c.counter ∧
        t.ets.capturesTotal = s.ets.capturesTotal + 1 ∧ t.ets.coCount = 0) ∧
      (e = .close → x = { c with launched := c.launched ++ [e], closed := true } ∧ t = { s with ets := t.ets }) ∧
      (∀ p k n, e = .transferRise p k n →
        t.ets.sliceDrops = (if { s with free := s.free + 1 }.nodeOccupied c p n then s.ets.sliceDrops + 1 else s.ets.sliceDrops)) ∧
      t.clk = s.clk ∧ t.ctl = s.ctl ∧ t.fus = s.fus ∧ t.role = s.role ∧ t.fw = s.fw ∧ t.tab = s.tab ∧ t.led = s.led ∧
      t.pin = s.pin ∧ t.pdp = s.pdp ∧ t.par = s.par

/-- The release of a row-quad (R61, R64, R86): the next one of the oldest capture not read out, at Tx + k × I or later, waits for its
conversions from the present tick on; the first opens the capture's job and a frame in each of its views. -/
def rowquadRelease : Prop :=
  ∀ (s : State) (c : Capture) (r : List Capture), s.powered 55 = true → s.pwr.run = none → s.pdp.waiting.length < 4 →
    s.ets.captures = c :: r → (∀ d, d ∈ r → d.counter ≠ c.counter) → c.released < c.quadCount → c.closed = true → c.close + c.released * c.interval + c.lag ≤ s.clk.ticks →
    ∃ t x, exec .rowquadRelease s = .next t ∧ t.ets.captures = x :: r ∧ x.released = c.released + 1 ∧ x.counter = c.counter ∧
      t.pdp.waiting = s.pdp.waiting ++ [⟨c.counter, c.released, s.clk.ticks, [[], [], [], []]⟩] ∧
      t.pdp.jobs.length = s.pdp.jobs.length + (if c.released = 0 then 1 else 0) ∧
      (c.released ≠ 0 → t.view = s.view) ∧ t = { s with view := t.view, ets := t.ets, pdp := t.pdp }

/-- An automatic exposure step (R60): the exposure that brings the mean level of the profile's tiles to the target, by a factor of at most
2 either way, clamped to the limits, waits for the second capture after the measured one, and the measured capture is not used again. A
capture committed under another mode starts no step (R58). The roundings, that a set serves a profile once, and that a step restarts monitor
60, are the model's reading (logs 23, 64). -/
def autoExposure : Prop :=
  ∀ (s : State) (p : Nat) (x : StatsSet), p < 16 → s.pdp.stats = some x → s.ctl.ready = true → s.wdg.halted = false →
    s.stored (profileId p 6) = 1 → x.ofProfile p ≠ [] → spFind p s.ets.aeDone ≠ some x.capture →
    (p ∉ x.autos → exec (.aeStep p) s = .next s) ∧ (p ∈ x.autos → ∃ l e sum count, exec (.aeStep p) s = .next { s with
        ets := { s.ets with aeNext := l, aeDone := spPut p x.capture s.ets.aeDone }
        wdg := { s.wdg with counts := spErase 60 s.wdg.counts } } ∧
      sum = ((x.ofProfile p).map TileStat.sum).foldl (· + ·) 0 ∧ count = ((x.ofProfile p).map TileStat.count).foldl (· + ·) 0 ∧
      e = s.aeClamp p (if sum = 0 then 2 * s.stored (profileId p 0) else
        max ((s.stored (profileId p 0) + 1) / 2) (min (2 * s.stored (profileId p 0))
          (s.stored (profileId p 0) * s.stored (profileId p 7) * count / sum))) ∧
      (⟨p, e, x.index + 2⟩ : AeNext) ∈ l ∧ (∀ a, a ∈ l → a ∈ s.ets.aeNext ∨ a = ⟨p, e, x.index + 2⟩))

/-- Row-quads are released in order; an automatic exposure step. -/
def Obligations.ReadoutAndExposure : Prop :=
  rowquadRelease ∧ autoExposure

/-! ## Datapath (04) -/

/-- A conversion delivered (R82, R453): it joins the oldest row-quad whose bank has not delivered all of them, at its bank and nowhere
else. -/
def conversion : Prop :=
  ∀ (s : State) (b : Nat) (l : List RawSample) (w : WaitingQuad) (u r : List WaitingQuad), b < 4 → s.powered (30 + b) = true →
    s.pwr.run = none → s.pdp.waiting = u ++ w :: r → w.banks.length = 4 →
    (∀ y, y ∈ u → s.convOf y ≤ (y.banks.getD b []).length ∧ (y.capture ≠ w.capture ∨ y.position ≠ w.position)) →
    (∀ y, y ∈ r → y.capture ≠ w.capture ∨ y.position ≠ w.position) → (w.banks.getD b []).length < s.convOf w →
    (∀ p, s.job w.capture = some p → l.length = p.sampleCount) → (s.job w.capture = none → l = []) →
    ∃ t x, exec (.conversionDelivered b l) s = .next t ∧ t.pdp.waiting = u ++ x :: r ∧ x.capture = w.capture ∧ x.position = w.position ∧
      (∀ i, i < 4 → x.banks.getD i [] = if i = b then w.banks.getD i [] ++ [l] else w.banks.getD i []) ∧
      t.pdp.jobs = s.pdp.jobs ∧ t.ctl = s.ctl ∧ t.fus = s.fus ∧ t.role = s.role ∧ t.fw = s.fw ∧ t.tab = s.tab ∧ t.par = s.par ∧
      t.pin = s.pin ∧ t.reg = s.reg ∧ t.ev = s.ev

/-- A complete row-quad enters the correction chain (R83): it leaves the waiting row-quads, in their order, and each of its rows joins the
active or the optical-black rows of its job. With the last of the top optical-black rows the capture takes the values measured there, and a
first capture needs no filter any more (R91). -/
def aligned : Prop :=
  ∀ (s : State) (w : WaitingQuad) (rest : List WaitingQuad) (p : PdpJob), s.powered 34 = true → s.pdpRoom = true →
    s.pwr.run = none → s.pdp.waiting = w :: rest → s.job w.capture = some p → w.full p.capture.conv = true →
    ∃ t, exec .rowquadAligned s = .next t ∧ t.pdp.waiting = rest ∧
      (∀ q, t.job w.capture = some q → q.quads = p.quads + 1 ∧ (∃ l, q.rows = p.rows ++ l) ∧
        (∀ b y, b < 4 → y = bankRow p.mono p.capture.chargeBin (w.position + skippedQuads p.capture.quads p.capture.chargeBin) b →
          ∃ r, r.y = y ∧ r.conv.length = (w.banks.getD b []).length ∧ (if activeRow y then r ∈ q.rows else r ∈ q.dark)) ∧
        (topRead p.capture.quads = true → p.quads + 1 = (if p.capture.chargeBin then 4 else 8) →
          q.black = t.pdp.black ∧ q.ocol = t.pdp.ocol ∧ t.pdp.fresh = s.pdp.fresh.filter (fun n => p.capture.index < n))) ∧
      t.ctl = s.ctl ∧ t.fus = s.fus ∧ t.role = s.role ∧ t.fw = s.fw ∧ t.tab = s.tab ∧ t.par = s.par ∧ t.pin = s.pin ∧
      t.reg = s.reg ∧ t.ev = s.ev

/-- `m` is the mean of `l`, rounded half up. -/
def isMean (m : Int) (l : List Int) : Prop :=
  2 * (l.length : Int) * m ≤ 2 * l.foldl (· + ·) 0 + l.length ∧ 2 * l.foldl (· + ·) 0 + l.length < 2 * (l.length : Int) * (m + 1)

/-- Black level and row offsets (R89 to R93): B is the mean of the second pass within 128 codes of that of the first, over the samples of
its bank and parity that are not saturated and at no position of the defect table; each used value is filtered from the one before; ro is the
mean of the row's black samples less their offsets, at most 64 codes; both are taken from every active sample. With no sample at all B is a
free value. -/
def blackLevel : Prop :=
  (∀ (p : PdpJob) (lo b j par free : Nat) (a c : List Int), a = p.darkSamples lo b j par →
    c = (p.darkSamples (lo + 16) b j par).filter (fun (v : Int) => decide ((v * a.length - a.foldl (· + ·) 0).natAbs ≤ 2048 * a.length)) →
    (a ≠ [] → c ≠ [] → isMean (p.measureB lo b j par free) c) ∧ (a ≠ [] → c = [] → isMean (p.measureB lo b j par free) a) ∧
    (a = [] → p.measureB lo b j par free = Config.emptyMean free)) ∧
  (∀ (p : PdpJob) (lo b j par : Nat) (v : Int), v ∈ p.darkSamples lo b j par ↔ ∃ r, r ∈ p.dark ∧ lo ≤ r.y ∧ r.y < lo + 16 ∧ r.y % 4 = b ∧
    ∃ (x : Nat) (s : Sample), x % 2 = par ∧ (r.conv.getD j ⟨[], []⟩).active[x]? = some (some s) ∧ s.v = v ∧ s.sat = false ∧
      ∀ d, d ∈ p.latch.defects → d.onRow p.mono p.capture.chargeBin r.y = true → d.x ≠ x + 32) ∧
  (∀ (p : PdpJob) (lo free : Nat) (fresh : Bool) (prev : List (Nat × Int)), canonFrom 4096 0 prev = true →
    (∀ j b par : Nat, j < p.capture.conv → b < 4 → par < 2 → spGet 4096 (blackKey j b par) (p.newBlack lo free fresh prev) =
      blackFilter fresh p.latch.filter (spGet 4096 (blackKey j b par) prev) (p.measureB lo b j par (free + blackKey j b par))) ∧
    (∀ k : Nat, 8 * p.capture.conv ≤ k → spGet 4096 k (p.newBlack lo free fresh prev) = spGet 4096 k prev) ∧
    (∀ j b k : Nat, j < p.capture.conv → b < 4 → k < 64 → spGet 4096 (ocolKey j b k) (p.newOcol lo free fresh prev) =
      blackFilter fresh p.latch.filter (spGet 4096 (ocolKey j b k) prev) (p.measureO lo b j k (free + 32 + ocolKey j b k)))) ∧
  (∀ (a : Nat) (prev m : Int), blackFilter true a prev m = m ∧ blackFilter false a prev m = prev + (2 * (m - prev) + 2 ^ a) / (2 * 2 ^ a)) ∧
  (∀ (p : PdpJob) (b j : Nat) (black : List Sample) (l : List Int),
    l = (black.zipIdx.filter (fun x => !x.1.sat)).map (fun x => x.1.v - spGet 4096 (ocolKey j b x.2) p.ocol) →
    (l = [] → p.rowOffset b j black = 0) ∧ (l ≠ [] → ∃ m, isMean m l ∧ p.rowOffset b j black = max (-1024) (min 1024 m))) ∧
  (∀ (p : PdpJob) (b j x : Nat) (r : RowData), (r.active[x]? = some none → (p.level b j r).active[x]? = some none) ∧
    (∀ s, r.active[x]? = some (some s) → (p.level b j r).active[x]? = some (some { s with
      v := s.v - spGet 4096 (blackKey j b (x % 2)) p.black - (if p.latch.rowCorr = true then p.rowOffset b j r.black else 0) })))

/-- The neighbour at row index `i` and column `x`, if a defect mean may use it: there, and matched by no entry (R97). -/
def neighbourAt (p : PdpJob) (j : Nat) (inside : Bool) (i x : Nat) : Option Sample :=
  match p.rows[i]? with
  | some r => if inside = true ∧ p.defectAt (p.rowDefects r.y) r.y x j = none then p.sample i x j else none
  | none => none

/-- The entry names the pixel, or the row merged into it, or its whole column, and the node and gain of the conversion (R95, R98). -/
def entryMatches (p : PdpJob) (y x j : Nat) (d : Defect) : Prop :=
  (d.y = 0xFFFF ∨ d.y = y ∨ partnerRow p.mono p.capture.chargeBin y = some d.y) ∧ d.x = x + 32 ∧
    d.mask.testBit (if convNode p.capture.kind j = .a then 0 else 1) = true ∧
    d.mask.testBit (if convLcg p.capture.kind j (p.capture.tileGain (tileOf y x)) then 3 else 2) = true

/-- Defect correction (R95, R97, R98): an entry matches by pixel or whole column, by node and by gain; a sample that one matches becomes the
mean of the usable neighbours its method names, of the four where there is none, and passes where those have none too; method 3 and
DEFECT_ENABLE 0 replace nothing. Neighbours lie one step away, two in the colour variant. -/
def defectCorrection : Prop :=
  (∀ (p : PdpJob) (y x j : Nat) (d : Defect),
    (d ∈ p.latch.defects → entryMatches p y x j d → p.defectAt (p.rowDefects y) y x j ≠ none) ∧
    (p.defectAt (p.rowDefects y) y x j = some d → d ∈ p.latch.defects ∧ entryMatches p y x j d)) ∧
  (∀ (p : PdpJob) (i x j n : Nat) (r : Row) (s : Sample) (a b c d : Option Sample), p.rows[i]? = some r → p.sample i x j = some s →
    n = (if p.mono then 1 else 2) → a = neighbourAt p j (n ≤ x) i (x - n) → b = neighbourAt p j true i (x + n) →
    c = neighbourAt p j (n ≤ i) (i - n) x → d = neighbourAt p j true (i + n) x →
    ((p.latch.defectOn = false ∨ p.defectAt (p.rowDefects r.y) r.y x j = none) → p.corrected i x j = s) ∧
    (∀ (e : Defect) (own all : List Sample), p.latch.defectOn = true → p.defectAt (p.rowDefects r.y) r.y x j = some e → all = [a, b, c, d].filterMap id →
      own = ((if e.method = 0 then [a, b] else if e.method = 1 then [c, d] else [a, b, c, d]).filterMap id) →
      (e.method = 3 ∨ all = [] → p.corrected i x j = s) ∧
      (e.method ≠ 3 → own ≠ [] → isMean (p.corrected i x j).v (own.map Sample.v) ∧ (p.corrected i x j).sat = own.any Sample.sat) ∧
      (e.method ≠ 3 → own = [] → all ≠ [] →
        isMean (p.corrected i x j).v (all.map Sample.v) ∧ (p.corrected i x j).sat = all.any Sample.sat)))

/-- Conversions join their row-quad; black level and defect correction. -/
def Obligations.Conversions : Prop :=
  conversion ∧ aligned ∧ blackLevel ∧ defectCorrection

/-- The merge (R99, R100): below a knee the longer path stands, above it the other one, and between them they are blended by weight, rounded
half up; a saturated sample takes the other path whole. The pixel is saturated where a saturated short sample has the full weight. -/
def merge : Prop :=
  (∀ (l : PdpLatch) (h lo : Sample) (k0 k1 q : Nat) (ah : Int), l.kneeH = k0 + 65536 * k1 → k0 < 65536 → k1 = k0 + 2 ^ q → 0 < l.dcg →
    ah = (8192 * h.v + l.dcg) / (2 * l.dcg) →
    (h.sat = false → h.v ≤ 16 * k0 → mergeLong l h lo = ah) ∧ (h.sat = true ∨ 16 * k1 ≤ h.v → mergeLong l h lo = lo.v) ∧
    (h.sat = false → 16 * k0 ≤ h.v → h.v ≤ 16 * k1 →
      mergeLong l h lo = ah + (2 * (lo.v - ah) * (h.v - 16 * k0) + 16 * 2 ^ q) / (32 * 2 ^ q))) ∧
  (∀ (l : PdpLatch) (h lo s : Sample) (ratio k0 k1 q : Nat) (bs : Int), l.kneeL = k0 + 65536 * k1 → k0 < 65536 → k1 = k0 + 2 ^ q →
    bs = (if s.sat then 268435440 else (2 * s.v * ratio + 65536) / 131072) →
    (lo.sat = false → lo.v ≤ 16 * k0 → mergeAll l ratio h lo s = ⟨mergeLong l h lo, false⟩) ∧
    (lo.sat = true ∨ 16 * k1 ≤ lo.v → mergeAll l ratio h lo s = ⟨bs, s.sat⟩) ∧
    (lo.sat = false → 16 * k0 ≤ lo.v → lo.v < 16 * k1 → mergeAll l ratio h lo s =
      ⟨mergeLong l h lo + (2 * (bs - mergeLong l h lo) * (lo.v - 16 * k0) + 16 * 2 ^ q) / (32 * 2 ^ q), false⟩)) ∧
  (∀ (c : Capture) (p : Nat) (u : ProfileUse), c.use p = some u →
    (u.delivered c.kind .b = 0 → c.ratio p = (134217728, true)) ∧
    (u.delivered c.kind .b ≠ 0 → c.ratio p = (min 134217728
      ((131072 * u.delivered c.kind .a + u.delivered c.kind .b) / (2 * u.delivered c.kind .b)), false))) ∧
  (∀ (p : PdpJob) (i x : Nat) (r : Row), p.rows[i]? = some r →
    (p.capture.kind ≠ 1 → p.value i x = p.corrected i x 0) ∧
    (∀ k : Nat × Bool, p.capture.kind = 1 → k = p.capture.ratio (spGet 0 (tileOf r.y x) p.capture.tilemap) → p.value i x =
      mergeAll p.latch k.1 (p.corrected i x 0) (p.corrected i x 1) ⟨(p.corrected i x 2).v, (p.corrected i x 2).sat || k.2⟩))

/-- Binning (R42, R101, R118): the rows and columns that pair in each group of eight, the second row only where charge binning has not merged
it; four values are combined rows first, each pair to the mean rounded half up, saturated if any of them is. Without binning a line or column
is one row or column, pairs kept as skipping says. -/
def binning : Prop :=
  (∀ (g : ViewGen) (mono : Bool) (i r a b : Nat), g.b = 2 → r < 4 → a = (if mono then [0, 3, 5, 6] else [0, 1, 6, 7]).getD r 0 →
    b = (if mono then [1, 2, 4, 7] else [2, 3, 4, 5]).getD r 0 →
    (g.kh = 0 → g.lineCols mono (4 * i + r) = [g.x0 + 8 * i + a, g.x0 + 8 * i + b]) ∧
    (g.kv = 0 → g.lineRows mono true (4 * i + r) = [32 + g.y0 + 8 * i + a] ∧
      g.lineRows mono false (4 * i + r) = [32 + g.y0 + 8 * i + a, 32 + g.y0 + 8 * i + b])) ∧
  (∀ (g : ViewGen) (mono bin : Bool) (n : Nat), g.b = 1 → g.lineCols mono n = [g.x0 + n / 2 * 2 ^ (g.kh + 1) + n % 2] ∧
    g.lineRows mono bin n = [32 + g.y0 + n / 2 * 2 ^ (g.kv + 1) + n % 2]) ∧
  (∀ (p : PdpJob) (i k x y : Nat), p.pixel [i] [x] = p.value i x ∧
    (p.pixel [i, k] [x, y]).v = (((p.value i x).v + (p.value k x).v + 1) / 2 + ((p.value i y).v + (p.value k y).v + 1) / 2 + 1) / 2 ∧
    (p.pixel [i] [x, y]).v = ((p.value i x).v + (p.value i y).v + 1) / 2 ∧
    ((p.pixel [i, k] [x, y]).sat = true ↔ (p.value i x).sat = true ∨ (p.value k x).sat = true ∨ (p.value i y).sat = true ∨
      (p.value k y).sat = true))

/-- The breakpoints of R104: input from and below, slope exponent, output from. -/
def breakpoints : List (Nat × Nat × Nat × Nat) :=
  [(0, 16384, 0, 0), (16384, 32768, 1, 16384), (32768, 65536, 2, 24576), (65536, 131072, 3, 32768), (131072, 262144, 4, 40960),
   (262144, 393216, 5, 49152), (393216, 524288, 6, 53248), (524288, 1048576, 8, 55296), (1048576, 2097152, 9, 57344),
   (2097152, 4194304, 10, 59392), (4194304, 8388608, 11, 61440), (8388608, 16777216, 12, 63488)]

/-- Formats and packing (R102, R104, R105): the code of a value in each format, the largest one for a saturated value; the companding segments,
which rise throughout; and every pixel in its bits of the packed line. -/
def formats : Prop :=
  (∀ (l : PdpLatch) (s : Sample), s.sat = true → l.shift20 ≤ 4 →
    codeOf l 0 s = 4095 ∧ codeOf l 1 s = 16383 ∧ codeOf l 2 s = 65535 ∧ codeOf l 3 s = 1048575) ∧
  (∀ (l : PdpLatch) (s : Sample) (lp : Nat), s.sat = false → (lp : Int) = max 0 (min 16777215 ((s.v + 8) / 16 + l.linPedestal)) →
    (codeOf l 1 s : Int) = max 0 (min 16383 ((s.v + 8) / 16 + l.rawPedestal)) ∧ codeOf l 0 s = min 4095 ((codeOf l 1 s + 2) / 4) ∧
    codeOf l 2 s = compand lp ∧ codeOf l 3 s = min 1048575 (lp / 2 ^ l.shift20)) ∧
  (∀ x u e y lp : Nat, (x, u, e, y) ∈ breakpoints → x ≤ lp → lp < u → compand lp = y + (lp - x) / 2 ^ e) ∧
  (∀ a b : Nat, a ≤ b → b ≤ 16777215 → compand a ≤ compand b ∧ compand b ≤ 65535) ∧
  (∀ (l : PdpLatch) (f : Nat) (s : Sample), f < 4 → codeOf l f s < 2 ^ formatBits f) ∧
  (∀ (w m : Nat) (l : List Nat), (∀ c, c ∈ l → c < 2 ^ w) → m < l.length → packBits w l / 2 ^ (w * m) % 2 ^ w = l.getD m 0) ∧
  (∀ (p : PdpJob) (g : ViewGen) (n m w : Nat), g.format < 4 → w = formatBits g.format → g.ow * w % 8 = 0 → m < g.ow →
    (p.line g n).length = g.lineBytes ∧ leNat (p.line g n) / 2 ^ (w * m) % 2 ^ w =
      codeOf p.latch g.format (p.pixel ((g.lineRows p.mono p.capture.chargeBin n).filterMap p.rowIndex) (g.lineCols p.mono m)))

/-- Tile statistics (R106, R107): the value of a sample, what one value adds to a record, that the bins of a record sum to its count, and which
tiles have one. That an entry matching either SN-A conversion leaves an HDR pixel out is the model's choice (log 66). -/
def statistics : Prop :=
  (∀ (p : PdpJob) (i x : Nat) (c : Sample), c = p.corrected i x (if p.capture.kind = 1 then 1 else 0) →
    (c.sat = true → p.statValue i x = 65535) ∧
    (c.sat = false → (p.statValue i x : Int) = 4 * max 0 (min 16383
      (((if p.capture.kind = 1 then mergeLong p.latch (p.corrected i x 0) c else c.v) + 8) / 16)))) ∧
  (∀ (p : PdpJob) (i x : Nat) (r : Row), p.rows[i]? = some r → (p.counted i x = true ↔ (∃ s, p.sample i x 0 = some s) ∧
    (p.mono = true ∨ p.latch.greenOnly = false ∨ (x + r.y) % 2 = 1) ∧ p.defectAt (p.rowDefects r.y) r.y x 0 = none ∧
    (p.capture.kind = 1 → p.defectAt (p.rowDefects r.y) r.y x 1 = none))) ∧
  (∀ (t : TileStat) (v : Nat), v < 65536 → t.bins.length = 64 → (t.add v).sum = t.sum + v ∧ (t.add v).count = t.count + 1 ∧
    (t.add v).sat = t.sat + (if v = 65535 then 1 else 0) ∧ (t.add v).profile = t.profile ∧
    (∀ k, k < 64 → (t.add v).bins.getD k 0 = t.bins.getD k 0 + (if v / 1024 = k then 1 else 0))) ∧
  (∀ (p : PdpJob) (t : Nat), (p.tileStat t).bins.length = 64 ∧ (p.tileStat t).bins.foldl (· + ·) 0 = (p.tileStat t).count ∧
    (p.tileStat t).sat ≤ (p.tileStat t).bins.getD 63 0 ∧ (p.tileStat t).sum ≤ 65535 * (p.tileStat t).count ∧
    (p.tileStat t).profile = spGet 0 t p.capture.tilemap) ∧
  (∀ (p : PdpJob) (t : Nat) (x : TileStat), (t, x) ∈ p.stats.tiles ↔
    t ∈ tilesOf p.capture.quads ∧ p.latch.segments.testBit (t % 24 / 4) = true ∧ x = p.tileStat t)

/-- A line packed inside a strip (R105, R134): it joins the lines of its strip, the buffer holds its bytes, and nothing but the view and the
buffer changes but that the monitor of the packing sees progress. -/
def linePacked : Prop :=
  ∀ (s : State) (v : Nat) (f : Frame) (p : PdpJob), v < 32 → s.powered 35 = true → s.packing v = some (f, p) →
    p.lineReady f.gen f.packed = true → s.lineRoom f = true →
    (f.packed % 16 ≠ 0 → exec (.viewLinePacked v) s = .next { s.onFrame v f.capture (fun x =>
      { x with packed := x.packed + 1, strips := modifyAt (fun (y : Strip) =>
        { y with lines := y.lines ++ [p.line f.gen f.packed] }) (x.packed / 16) x.strips }) with
        sea := { s.sea with buffer := s.sea.buffer + f.gen.lineBytes }
        wdg := { s.wdg with counts := spErase 5 s.wdg.counts } }) ∧
    (f.packed % 16 = 0 → s.dealTo (s.dealtNow f.capture) ≠ none → ∃ t, exec (.viewLinePacked v) s = .next t ∧
      t.sea.buffer = s.sea.buffer + f.gen.lineBytes ∧ t = { s with view := t.view, sea := t.sea, lnk := t.lnk, wdg := t.wdg } ∧
      (f.packed ≠ 0 → t.lnk = s.lnk))

/-- The pinned statistics set is released 100 ms after its last read (R321). -/
def pinExpiry : Prop :=
  ∀ (s : State) (x : StatsSet) (k : Nat), s.pdp.pinned = some (x, k) →
    exec .statsPinExpiry s = .next (if k + 12500000 ≤ s.clk.ticks then { s with pdp := { s.pdp with pinned := none } } else s)
/-! ## Sealing (06) -/

/-- Merge, binning, formats and statistics; lines packed; the pinned set. -/
def Obligations.PackedLines : Prop :=
  merge ∧ binning ∧ formats ∧ statistics ∧ linePacked ∧ pinExpiry

/-- A line absorbed (R133, R134): strips go on each at its own engine; the engine has that many bytes less outstanding, the strip has
one line more in its leaf, and nothing else of the strip changes. -/
def lineAbsorbed : Prop :=
  ∀ (s : State) (v i : Nat) (f : Frame) (x : Strip), v < 32 → s.pwr.run = none → s.absorbing v i = some (f, x) →
    s.powered (36 + x.engine / 8) = true → (s.engine x.engine).stopped = false → canonFrom {} 0 s.sea.engines = true →
    ∃ t g, exec (.lineAbsorbed ⟨v, i⟩) s = .next t ∧
      (t.engine x.engine).outstanding = (s.engine x.engine).outstanding - f.gen.lineBytes ∧
      g ∈ (t.viewAt v).current ∧ g.capture = f.capture ∧ g.packed = f.packed ∧
      g.strips = modifyAt (fun _ => { x with absorbed := x.absorbed + 1 }) i f.strips ∧
      t.reg = s.reg ∧ t.ctl = s.ctl ∧ t.par = s.par ∧ t.fus = s.fus ∧ t.role = s.role ∧ t.fw = s.fw ∧ t.led = s.led ∧
      t.tab = s.tab ∧ t.pin = s.pin ∧ t.ets = s.ets

/-- A frame root completes (R138, R139): FRAME_END with the header and the Merkle root over the strip leaves and the header's leaf
joins the data queue, and the view counts the frame. -/
def frameRoot : Prop :=
  ∀ (s : State) (v : Nat) (f : Frame) (p : PdpJob) (leaves : List Bytes), v < 32 → s.powered 40 = true → s.endRoom = true → s.pwr.run = none →
    s.endedFrame v = some (f, p) → f.packed ≠ 0 → leaves = f.strips.map (fun x => leafHash (x.lines.take x.absorbed).flatten) →
    ∃ t, exec (.frameRootComplete v) s = .next t ∧
      t.lnk.data = s.lnk.data ++ [{ kind := 3, seq := s.lnk.seq, view := v, gen := f.genNo, stream := f.gen.streamId
                                    body := f.header v ((s.viewAt v).slotOf f.capture) p.capture leaves.length ++
                                      merkleRoot (leaves ++ [leafHash
                                        (f.header v ((s.viewAt v).slotOf f.capture) p.capture leaves.length)]) }] ∧
      t.sea.framesSealed = s.sea.framesSealed + 1 ∧ (t.viewAt v).frames = (s.viewAt v).frames + 1 ∧
      (t.viewAt v).lastCapture = f.capture ∧ t.reg = s.reg ∧ t.ctl = s.ctl ∧ t.par = s.par ∧ t.fus = s.fus ∧ t.role = s.role ∧
      t.fw = s.fw ∧ t.led = s.led ∧ t.tab = s.tab ∧ t.pin = s.pin ∧ t.ets = s.ets

/-- Lines absorbed into strips, and the frame root. -/
def Obligations.HashedFrames : Prop :=
  lineAbsorbed ∧ frameRoot

/-- A signing job ends (R149 to R154): the prompt jobs come first; its SEAL_SIG, with the Ed25519 signature of the epoch's key, joins the
seal queue and is counted. -/
def signatureSent : Prop :=
  ∀ (s : State) (ns : Nat) (j : SignJob) (rest : List SignJob), s.signs = true → s.derives = true → s.domainReady 40 = true →
    s.pwr.run = none → j.resigned = false → s.sea.prompt = j :: rest → queueSize s.lnk.sealQ + 100 ≤ sealCap → ∃ t, exec (.signJobDone ns) s = .next t ∧
      t.sea.prompt = rest ∧ t.sea.resign = s.sea.resign ∧ t.sea.signedTotal = s.sea.signedTotal + 1 ∧ t.sea.lastSigned = j.seq ∧
      t.lnk.sealQ = s.lnk.sealQ ++ [{ kind := 5, seq := s.lnk.seq, view := j.view, gen := j.gen, stream := j.stream
                                      body := s.sealSig j, after := j.after }] ∧
      t.reg = s.reg ∧ t.ctl = s.ctl ∧ t.par = s.par ∧ t.fus = s.fus ∧ t.role = s.role ∧ t.fw = s.fw ∧ t.nvs = s.nvs ∧
      t.led = s.led ∧ t.view = s.view ∧ t.ets = s.ets

/-- A late signature (R154): with no prompt job, and the response to its `SEAL_RESIGN` gone, the oldest late job is signed and counted; the
last prompt sequence signed stays. -/
def lateSignature : Prop :=
  ∀ (s : State) (ns : Nat) (j : SignJob) (rest : List SignJob), s.signs = true → s.derives = true → s.domainReady 40 = true →
    s.pwr.run = none → s.sea.prompt = [] → s.sea.resign = j :: rest → j.resigned = true → s.resignUnanswered = false →
    queueSize s.lnk.sealQ + 100 ≤ sealCap → ∃ t, exec (.signJobDone ns) s = .next t ∧
      t.sea.prompt = [] ∧ t.sea.resign = rest ∧ t.sea.signedTotal = s.sea.signedTotal + 1 ∧
      t.sea.resignedTotal = s.sea.resignedTotal + 1 ∧ t.sea.lastSigned = s.sea.lastSigned ∧
      t.lnk.sealQ = s.lnk.sealQ ++ [{ kind := 5, seq := s.lnk.seq, view := j.view, gen := j.gen, stream := j.stream
                                      body := s.sealSig j, after := j.after }] ∧
      t.reg = s.reg ∧ t.ctl = s.ctl ∧ t.par = s.par ∧ t.fus = s.fus ∧ t.role = s.role ∧ t.fw = s.fw ∧ t.nvs = s.nvs ∧ t.led = s.led

/-- The repeated `EV_VERMILION` (R157): every second after the entry, outside GRAPHITE, with the cause and the seconds since then. -/
def vermilionAgain : Prop :=
  ∀ (s : State) (entry : Nat), s.ev.vermilionEntry = some entry → s.sea.vermilion ≠ 0 → s.fus.lifecycle ≠ 3 →
    s.ev.vermilionLast + 125000000 ≤ s.clk.ticks →
    exec .vermilionRepeat s = .next ({ s with ev := { s.ev with vermilionLast := s.ev.vermilionLast + 125000000 } }.raise 0x13 s.clk.time
      (leBytes 1 s.sea.vermilion ++ zeros 3 ++ leBytes 4 ((s.ev.vermilionLast + 125000000 - entry) / 125000000)))

/-- Signatures sent, and the repeated Vermilion event. -/
def Obligations.Signatures : Prop :=
  signatureSent ∧ lateSignature ∧ vermilionAgain

/-- What raising an event does (R300, R301): it takes the next event sequence and its record waits for the ring, outside a closing run and
with the mailbox open; EVENT packets are the only other effect. -/
def Obligations.EventRaised : Prop :=
  ∀ (s : State) (code : Nat) (time : Word64) (args : Bytes), s.pwr.run = none → s.ctl.ready = true →
    ∃ l, s.raise code time args = { s with
        ev := { s.ev with
          seq := s.ev.seq + 1
          waiting := s.ev.waiting ++ [leBytes 2 code ++ [0xFF, 0] ++ leBytes 4 s.ev.seq.toNat ++ leBytes 8 time.toNat ++
            padTo 48 args] }
        lnk := l } ∧
      l.sealQ = s.lnk.sealQ ∧ l.data = s.lnk.data ∧ l.state = s.lnk.state ∧
      (queueSize s.lnk.control + 84 ≤ controlCap → args.length ≤ 48 → l.seq = s.lnk.seq + 1 ∧ ∃ p, l.control = s.lnk.control ++ [p] ∧
        p.kind = 6 ∧ p.seq = s.lnk.seq)

/-! ## Ledger and non-volatile store (07) -/

/-- The 128 bytes a commit stores for its entry (R166, R145): its fields, its head and the CRC-32 over both. -/
def ledgerEntry (fields head : Bytes) : Bytes := fields ++ head ++ leBytes 4 (crc32 (fields ++ head)).toNat ++ zeros 20

/-- One commit (R145, R172, R173): the subject and the displaced head go into the staging buffer of its sequence, the entry takes the next
sequence, its head chains the fields and the subject to the head before it, it is stored in its slot, and the anchor copy of its parity is
written; every other byte of the store is as before. Where in the staging buffer they lie is the model's choice (log 65). -/
def ledgerCommitted : Prop :=
  ∀ (s : State) (c : Commit) (rest : List Commit), s.commitDue = true → s.nvs.queue = c :: rest → Memory.wf s.nvs.mem = true →
    ∃ t head, exec .nvsCommit s = .next t ∧
      head = sha512 (s.led.lastHead ++ s.entryFields c ++ sha512 (s.fillSubject c)) ∧
      t.led.nextSeq = s.led.nextSeq + 1 ∧ t.led.lastHead = head ∧ t.led.epoch = s.led.epoch ∧
      t.led.present = min 131072 (s.led.present + 1) ∧
      nvBytes t.nvs.mem (slotAddr s.led.nextSeq) 128 = ledgerEntry (s.entryFields c) head ∧
      nvBytes t.nvs.mem (stageAddr s.led.nextSeq) (s.staging c).bytes.length = (s.staging c).bytes ∧
      (∀ a, (a < slotAddr s.led.nextSeq ∨ slotAddr s.led.nextSeq + 128 ≤ a) →
        (a < anchorAddr s.led.nextSeq ∨ anchorAddr s.led.nextSeq + 256 ≤ a) →
        (a < stageAddr s.led.nextSeq ∨ stageAddr s.led.nextSeq + (s.staging c).bytes.length ≤ a) →
        nvRead t.nvs.mem a = nvRead s.nvs.mem a) ∧
      (s.pwr.run = none → t.nvs.queue = rest) ∧ t.nvs.commits = s.nvs.commits + 1 ∧
      t.nvs.interleaved = (if s.nvs.blocks = [] then 0 else s.nvs.interleaved + 1) ∧
      t.par = s.par ∧ t.role = s.role ∧ t.fw = s.fw ∧ t.reg = s.reg ∧ t.ctl = s.ctl ∧ t.ev = s.ev

/-- A commit cut short by the loss of power (R172, R174): torn in step 5, its slot holds what the cut left, the anchor is still that of the
entry before, and the staging buffer holds its subject, in a layout of the model's choice (log 65); torn in step 6, the entry stands whole in its slot. -/
def commitTorn : Prop :=
  ∀ (s : State) (c : Commit) (rest : List Commit) (b : Bytes), s.commitDue = true → s.nvs.queue = c :: rest →
    Memory.wf s.nvs.mem = true → s.fus.tasks = [] →
    (b.length = 128 → ∃ t, exec (.powerOnReset { torn := ⟨0, 0, 0⟩, cut := .slot b }) s = .next t ∧ nvBytes t.nvs.mem (slotAddr s.led.nextSeq) 128 = b ∧
      nvBytes t.nvs.mem (anchorAddr s.led.nextSeq) 256 = nvBytes s.nvs.mem (anchorAddr s.led.nextSeq) 256 ∧
      nvBytes t.nvs.mem (stageAddr s.led.nextSeq) (s.staging c).bytes.length = (s.staging c).bytes) ∧
    (b.length = 256 → ∃ t, exec (.powerOnReset { torn := ⟨0, 0, 0⟩, cut := .anchor b }) s = .next t ∧
      nvBytes t.nvs.mem (slotAddr s.led.nextSeq) 128 =
        ledgerEntry (s.entryFields c) (sha512 (s.led.lastHead ++ s.entryFields c ++ sha512 (s.fillSubject c))) ∧
      nvBytes t.nvs.mem (anchorAddr s.led.nextSeq) 256 = b)

/-- Two copies (R182): a write leaves the copy in force as it is, so that a write cut short leaves the old value, and one that is made
is in force. -/
def twoCopies : Prop :=
  (∀ (c : Copies Nat) (v : Nat), (c.put v).now = some v) ∧
  (∀ c : Copies Nat, c.torn.now = c.now) ∧
  (∀ c : Copies Nat, c.lost.now = none ∧ c.lost.written = c.written) ∧
  (∀ (s : State) (id v : Nat), s.tearFits ⟨0, 0, 0⟩ = true → recordAt id s.par.persist = some v →
    ∃ t, exec (.powerOnReset { torn := ⟨0, 0, 0⟩, cut := .record (.par id) }) s = .next t ∧ recordAt id t.par.persist = some v)

/-- A commit chains its entry, stores it and leaves the rest of the store. -/
def Obligations.LedgerCommit : Prop :=
  ledgerCommitted ∧ commitTorn ∧ twoCopies

/-- The EPOCH entries (R179): after the closing entry the transition record is written and FUS is asked for the next EPOCHS unit; after
the opening entry the record is cleared and the operation is over. -/
def epochEntries : Prop :=
  ∀ (s : State) (c : Commit) (rest : List Commit), s.commitDue = true → s.nvs.queue = c :: rest → c.kind = .epoch →
    (s.nvs.transition = none → ∃ t r, exec .nvsCommit s = .next t ∧ t.nvs.transition = some r ∧ r.oldEpoch = s.led.epoch ∧
      r.newEpoch = s.led.epoch + 1 ∧ r.closingSeq = s.led.nextSeq ∧ r.closingHead = t.led.lastHead ∧
      r.digest = s.led.epochDigest ∧
      (s.rst.decided = none → s.pwr.run = none → t.fus.tasks = s.fus.tasks ++ [⟨.unit (131 + s.led.epoch), 7, .epoch⟩])) ∧
    (∀ r, s.nvs.transition = some r → ∃ t, exec .nvsCommit s = .next t ∧ t.nvs.transition = none ∧
      t.nvs.retained.prevEpochLast = r.closingSeq ∧ t.led.epochState = .idle ∧ t.fus = s.fus)

/-- A block operation at work (R183, R184): its destination is copied into the shadow block before the journal record says APPLY, with
the next tick (the model's choice, log 9); at its end the destination holds the block's bytes, or 0, and the next operation asked for has its journal record. The last block of the ledger
opens the new epoch, empty, with its genesis head (R179); a checked image is LOADED (R358); a table comes into force by one record write,
with the next serial (R322). -/
def blockOperation : Prop :=
  ∀ (s : State) (j : BlockJob) (rest : List BlockJob), s.powered 41 = true → s.nvs.blocks = j :: rest → s.pwr.run = none →
    Memory.wf s.nvs.mem = true →
    (s.pending = [] → s.nvs.journal.state ≠ .apply → ∃ t, step s = .next t ∧ t.nvs.blocks = s.nvs.blocks ∧
      t.nvs.journal = ⟨j.bytes.isNone, j.dest, j.source, .apply⟩ ∧ ∀ a, nvRead t.nvs.mem a =
        if shadowAddr ≤ a ∧ a < shadowAddr + 4096 then nvRead s.nvs.mem (j.dest + (a - shadowAddr)) else nvRead s.nvs.mem a) ∧
    (s.pending = [] → s.nvs.journal.state = .apply → ∃ t, step s = .next t ∧ t.nvs = s.nvs) ∧
    ∃ t, exec .blockOperationDone s = .next t ∧ t.nvs.blocks = rest ∧
      (rest = [] → t.nvs.journal = ⟨j.bytes.isNone, j.dest, j.source, .idle⟩) ∧
      (∀ k l, rest = k :: l → t.nvs.journal = ⟨k.bytes.isNone, k.dest, k.source, .shadow⟩) ∧
      (j.done ≠ .ledgerCleared → ∀ a, nvRead t.nvs.mem a =
        if j.dest ≤ a ∧ a < j.dest + 4096 then (match j.bytes with | some b => (b.take 4096).getD (a - j.dest) 0 | none => 0)
        else if s.nvs.journal.state ≠ .apply ∧ shadowAddr ≤ a ∧ a < shadowAddr + 4096 then nvRead s.nvs.mem (j.dest + (a - shadowAddr))
        else nvRead s.nvs.mem a) ∧
      (j.done = .part → t.led = s.led ∧ t.fw = s.fw ∧ t.tab = s.tab) ∧
      (∀ r, j.done = .ledgerCleared → s.nvs.transition = some r → t.led.epochState = .opening ∧ t.led.nextSeq = 0 ∧
        t.led.present = 0 ∧ t.led.epoch = r.newEpoch ∧ t.led.lastHead = genesisHead s.fus.deviceId r.newEpoch r.closingHead ∧
        t.nvs.queue = r.opening :: s.nvs.queue) ∧
      (j.done = .imageLoaded → t.fw.update = .loaded ∧ t.fw.loaded = some ⟨imageVersion s.fw.staged, imageFwar s.fw.staged,
        sha512 (s.fw.staged.take (320 + leAt 24 4 s.fw.staged))⟩ ∧ t.fw.record = s.fw.record ∧ t.tab = s.tab) ∧
      (∀ d n, j.done = .tableDone 2 d n → t.tab.defectState = 0 ∧ t.tab.colTable = s.tab.colTable ∧
        ∃ r, t.tab.defectTable.now = some r ∧ r.digest = d ∧ r.length = n ∧
          r.serial = s.tab.defectTable.now.elim 1 (fun x => x.serial + 1)) ∧
      t.reg = s.reg ∧ t.lnk = s.lnk ∧ t.par = s.par ∧ t.fus = s.fus ∧ t.role = s.role ∧ t.pin = s.pin

/-- The entries of an EPOCH operation and the ends of block operations. -/
def Obligations.EpochAndBlocks : Prop :=
  epochEntries ∧ blockOperation

/-- `LEDGER.RATE` and `LEDGER.HORIZON` (R186): the commits of the last 3,600 s, and all ones while there are none. -/
def ledgerRate : Prop :=
  ∀ s : State, s.pwr.released = true → ∃ n, exec .ledgerRateUpdate s = .next { s with nvs := n } ∧
    n.rate = BitVec.ofNat 32 (s.nvs.recent.filter fun t => s.clk.ticks < t + 450000000000).length ∧
    ((s.nvs.recent.filter fun t => s.clk.ticks < t + 450000000000) = [] → n.horizon = 0xFFFFFFFF) ∧
    n = { s.nvs with recent := n.recent, rate := n.rate, horizon := n.horizon }

/-- The retention accounts (R186): at or below 85 °C 60 s count as 60 s; above, each second counts as 2^((t − 85) ÷ 20) s.
Temperatures are in 1/8 °C. How the power of 2 is taken and rounded down to 2^−32 s is the model's choice (log 10). -/
def retention : Prop :=
  (∀ (s : State) (c : Int), s.pwr.released = true → ∃ d n, exec (.retentionUpdate c) s = .next { s with nvs := n } ∧
      n = { s.nvs with counts := n.counts } ∧ d = retentionSecond (s.retentionTemp c) ∧ n.retained = { s.nvs.retained with
        retentionCal := s.nvs.retained.retentionCal + 60 * d, retentionA := s.nvs.retained.retentionA + 60 * d
        retentionB := s.nvs.retained.retentionB + 60 * d }) ∧
  (∀ t : Int, t ≤ 680 → retentionSecond t = 2 ^ 32) ∧
  (∀ t : Int, 680 < t → t < 3240 → retentionSecond t ^ 160 ≤ 2 ^ (4440 + t.toNat) ∧
    2 ^ (4440 + t.toNat) < (retentionSecond t + 1) ^ 160)
/-! ## Resets, watchdog and progress monitors (12, 16) -/

/-- The commit rate and the retention accounts. -/
def Obligations.LedgerAccounts : Prop :=
  ledgerRate ∧ retention

/-- A watchdog slot registered (R370): unless it is registered already or its window lies outside 1 ms to 10 s, in which case the write is
counted as ignored. The first window begins now; nothing else changes, but that the write restarts monitor 60 (log 64). -/
def watchdogRegister : Prop :=
  ∀ (s : State) (v : Word), s.coreRuns = true →
    ((spFind (v.toNat % 16) s.wdg.slots = none ∧ 1000 ≤ v.toNat / 256 ∧ v.toNat / 256 ≤ 10000000) →
      exec (.wdgRegister v) s = .next { s with wdg := { s.wdg with
        counts := spErase 60 s.wdg.counts
        slots := spPut (v.toNat % 16) { strict := v.getLsbD 4, window := 125 * (v.toNat / 256), remaining := 125 * (v.toNat / 256)
                                        checkins := 0 } s.wdg.slots } }) ∧
    (¬ (spFind (v.toNat % 16) s.wdg.slots = none ∧ 1000 ≤ v.toNat / 256 ∧ v.toNat / 256 ≤ 10000000) →
      exec (.wdgRegister v) s = .next { s with wdg := { s.wdg with
        counts := spErase 60 s.wdg.counts, ignored := min 255 (s.wdg.ignored + 1) } })

/-- A check-in (R371): it is counted in its slot; one of an unregistered slot is ignored; the second in a window of a slot that is not
strict is a double and raises `EV_WDOG_DOUBLE`, and of a strict slot it also decides a reset with cause WDOG_TASK, detail 2. The write
restarts monitor 60 (log 64). -/
def watchdogCheckin : Prop :=
  ∀ (s : State) (v : Word), s.coreRuns = true →
    (spFind (v.toNat % 16) s.wdg.slots = none →
      exec (.wdgCheckin v) s = .next { s with wdg := { s.wdg with
        counts := spErase 60 s.wdg.counts, ignored := min 255 (s.wdg.ignored + 1) } }) ∧
    (∀ w, spFind (v.toNat % 16) s.wdg.slots = some w → ∃ t, exec (.wdgCheckin v) s = .next t ∧
      t.wdg = { s.wdg with
        counts := spErase 60 s.wdg.counts
        slots := spPut (v.toNat % 16) { w with checkins := w.checkins + 1 } s.wdg.slots
        doubles := if w.checkins = 0 then s.wdg.doubles else s.wdg.doubles + 1 } ∧
      (w.checkins ≠ 1 → t = { s with wdg := t.wdg }) ∧
      (w.checkins = 1 → t.ev.seq = s.ev.seq + 1 ∧ (w.strict = false → t.rst = s.rst)) ∧
      (w.checkins = 1 → w.strict = true → s.pwr.state ≠ .offHold → s.rst.decided = none → ∃ d, t.rst.decided = some d ∧
        d.cause = .wdogTask ∧ d.detail = 2 ∧ d.strict = BitVec.ofNat 16 (2 ^ (v.toNat % 16)) ∧ d.time = s.clk.time) ∧
      t.pwr = s.pwr ∧ t.par = s.par ∧ t.led = s.led ∧ t.view = s.view ∧ t.role = s.role ∧ t.fw = s.fw ∧ t.ctl = s.ctl)

/-- Watchdog registrations and check-ins. -/
def Obligations.Watchdog : Prop :=
  watchdogRegister ∧ watchdogCheckin

/-- What deciding a reset leaves as it was (R377): everything but the decision, the block operations and OTP items not yet begun. -/
def decidedFrame (s t : State) : Prop :=
  t.reg = s.reg ∧ t.ctl = s.ctl ∧ t.par = s.par ∧ t.role = s.role ∧ t.fw = s.fw ∧ t.led = s.led ∧ t.view = s.view ∧
    t.pwr = s.pwr ∧ t.nvs = { s.nvs with blocks := s.nvs.blocks.take 1 } ∧
    t.fus = { s.fus with tasks := s.fus.tasks.take 1, cut := t.fus.cut }

/-- Windows lie end to end (R371): each tick counts down, and where a window ends the next begins, with no check-in; one that had none has
expired. That a tick is one step on an empty queue is the model's choice (log 3), and so is that a window ends with the tick at which
nothing of it remains, a check-in in that tick still counting in it (log 64, R382). They are frozen while the core is halted, in STANDBY and from a closing run's t0 on (R373). -/
def windowCounts : Prop :=
  ∀ (s : State) (k : Nat) (w : WdgSlot), s.pending = [] → spFind k s.wdg.slots = some w → ∃ t, step s = .next t ∧
    ((s.wdg.halted = true ∨ s.pwr.state = .standby ∨ s.pwr.run ≠ none ∨ s.pwr.state = .offHold) → spFind k t.wdg.slots = some w) ∧
    (s.wdg.halted = false → s.pwr.state ≠ .standby → s.pwr.run = none → s.pwr.state ≠ .offHold → spFind k t.wdg.slots = some
      (if w.remaining = 0 then { w with
        remaining := w.window - 1, checkins := 0, expired := w.expired || w.checkins = 0, halted := false, wasHalted := w.halted }
      else { w with remaining := w.remaining - 1 }))

/-- An expired window decides a reset with cause WDOG_TASK, detail 1 and its slot in the mask (R371, R377, R380). The
instant of the decision is that of the row, which its sender gives at the expiry (log 72). -/
def windowExpiry : Prop :=
  ∀ (s : State) (k : Nat) (w : WdgSlot), spFind k s.wdg.slots = some w → w.expired = true →
    s.pwr.run = none → s.pwr.released = true → s.pwr.state ≠ .offHold → s.rst.decided = none →
    ∃ t d, exec (.wdgWindowExpiry k) s = .next t ∧ t.rst.decided = some d ∧ d.cause = .wdogTask ∧ d.detail = 1 ∧
      d.mask = BitVec.ofNat 16 (2 ^ k) ∧ d.time = s.clk.time ∧
      t.wdg = { s.wdg with slots := spPut k { w with expired := false } s.wdg.slots } ∧ decidedFrame s t

/-- A monitor counts the ticks while it runs, up to its timeout of R375; a unit of progress starts the count again (R374).
What each pipeline's work and units of progress are, and that time is counted in steps on an empty queue, is the model's reading (logs 3
and 64). -/
def monitorCounts : Prop :=
  ∀ (s : State) (m : Nat),
    (s.pending = [] → m < 64 → ∃ t, step s = .next t ∧ spGet 0 m t.wdg.counts =
      if ({ t with pin := s.pin, hkc := s.hkc } : State).monitorRuns m then min (monitorTimeout m) (spGet 0 m s.wdg.counts + 1) else spGet 0 m s.wdg.counts) ∧
    (canonFrom 0 0 s.wdg.counts = true → spGet 0 m (s.progress [m]).wdg.counts = 0)

/-- A monitor that is due trips (R374 to R376): its bit is set; a seal fault raises its event and a reset with cause WDOG_PROGRESS follows
200 µs later; any other trip decides one at once with the monitor as its detail. That the row may come at the timeout or later, and starts the
monitor's count again, is the model's choice (logs 3, 64). -/
def monitorTrip : Prop :=
  ∀ (s : State) (m : Nat), s.monitorDue m = true → s.pwr.run = none → s.pwr.state ≠ .offHold → s.rst.decided = none →
    s.rst.sealFaultAt = none → ∃ t, exec (.progressMonitorTrip m) s = .next t ∧
      t.wdg = { s.wdg with tripped := s.wdg.tripped ||| BitVec.ofNat 64 (2 ^ m), counts := spErase m s.wdg.counts } ∧
      ((6 ≤ m ∧ m < 44) → t.rst.sealFaultAt = some (s.clk.ticks + 25000, m) ∧ t.rst.decided = none ∧ t.ev.seq = s.ev.seq + 1 ∧
        t.sea.wedged = true ∧ (∀ e, e ∈ stoppedEngines m → (t.engine e).stopped = true) ∧
        (∀ e, e ∉ stoppedEngines m → t.engine e = s.engine e)) ∧
      (¬ (6 ≤ m ∧ m < 44) → ∃ d, t.rst.decided = some d ∧ d.cause = .wdogProgress ∧ d.detail = m ∧ d.mask = 0 ∧
        t.sea = s.sea ∧ t.ev = s.ev) ∧
      t.par = s.par ∧ t.role = s.role ∧ t.fw = s.fw ∧ t.led = s.led ∧ t.view = s.view ∧ t.ctl = s.ctl

/-- The reset that a seal fault asked for is decided once its 200 µs have passed (R376), at the row, which names the instant (logs 3, 72). -/
def sealFaultReset : Prop :=
  ∀ (s : State) (at_ m : Nat), s.rst.sealFaultAt = some (at_, m) → at_ ≤ s.clk.ticks → s.pwr.run = none → s.pwr.released = true →
    s.pwr.state ≠ .offHold → s.rst.decided = none → ∃ t d, exec .sealFaultResetDelay s = .next t ∧ t.rst.decided = some d ∧
      d.cause = .wdogProgress ∧ d.detail = m ∧ t.rst.sealFaultAt = none ∧ t.wdg = s.wdg ∧ decidedFrame s t

/-- What decides a reset: expired windows, monitors and seal faults. -/
def Obligations.DecidedResets : Prop :=
  windowCounts ∧ windowExpiry ∧ monitorCounts ∧ monitorTrip ∧ sealFaultReset

/-- The longest hold-off in ticks (R377): 4 µs for a commit, 140 µs for a block operation, 1.2 ms for an OTP item. -/
def longestHold (held : Nat) : Nat := if held.testBit 2 then 150000 else if held.testBit 1 then 17500 else 500

/-- A decided reset carried out (R377, R380, R381, R281): held off until a commit, a block operation and an OTP item under way at the
decision have ended, or for the longest time such work may take, where it is wedged; then a reset record, with the cause, the instant of the decision and the hold-off in µs, is written into the ring, the cause and the missing slots are shown, and views, mailboxes and watchdog are as after a reset, while roles,
persistent values, the calibration and the ledger stand. -/
def Obligations.ResetExecuted : Prop :=
  ∀ (s : State) (d : Decided), s.rst.decided = some d → s.pwr.run = none →
    (d.ended = none → s.clk.ticks < d.tick + longestHold d.held → exec .resetExecute s = .next s) ∧
    (∀ k, (d.ended = some k ∨ (d.ended = none ∧ d.tick + longestHold d.held ≤ s.clk.ticks ∧ k = d.tick + longestHold d.held)) → ∃ t, exec .resetExecute s = .next t ∧ t.rst.cause = d.cause ∧ t.rst.record = true ∧
      t.rst.missing = (if d.cause = .wdogTask then d.mask else 0) ∧ t.rst.decided = none ∧
      t.rst.retained.recordSeq = s.rst.retained.recordSeq + 1 ∧ t.rst.retained.records = min 256 (s.rst.retained.records + 1) ∧
      (∀ a, (a < recordAddr s.rst.retained.recordSeq.toNat ∨ recordAddr s.rst.retained.recordSeq.toNat + 128 ≤ a) →
        nvRead t.nvs.mem a = nvRead s.nvs.mem a) ∧
      (∀ b, b = nvBytes t.nvs.mem (recordAddr s.rst.retained.recordSeq.toNat) 128 → Memory.wf s.nvs.mem = true →
        leAt 0 4 b = s.rst.retained.recordSeq.toNat ∧ leAt 4 1 b = d.cause.code ∧ leAt 8 8 b = d.time.toNat ∧
        leAt 24 4 b = (k - d.tick) / 125 % 2 ^ 32) ∧
      t.pwr.state = .boot ∧ t.pwr.released = s.pad.rstN ∧ t.ctl.ready = false ∧ t.reg = {} ∧ t.wdg = {} ∧
      (∀ v, v < 32 → (t.viewAt v).state = .idle ∧ (t.viewAt v).genNo = 0) ∧
      t.role.operators = s.role.operators ∧ t.role.installers = s.role.installers ∧ t.role.maker = s.role.maker ∧
      t.par.persist = s.par.persist ∧ t.tab.colTable = s.tab.colTable ∧ t.fus.words = s.fus.words ∧
      t.fus.units = s.fus.units)

/-! ## Fuses (14) -/

/-- A programming pulse ends (R336, R339, R340, R345): the item reads as given from now on, with every cell pulsed reading 1 and no cell
going from 1 to 0. What reads a pulse may leave is the model's reading (log 77), and other reads change nothing (log 5). The latched value follows at once unless the pulse
was a reinforcement; no other item changes. -/
def otpProgrammed : Prop :=
  ∀ (s : State) (r : OtpReads) (k : OtpTask) (rest : List OtpTask), s.powered 53 = true → s.fus.tasks = k :: rest →
    (s.fus.pulseFits k r = false → exec (.otpProgramDone r) s = .next s) ∧
    (s.fus.pulseFits k r = true → r.normal = (s.fus.rawReads k.item).normal ||| k.cells) ∧
    (s.fus.pulseFits k r = true → s.pwr.run = none → ∃ t, exec (.otpProgramDone r) s = .next t ∧
      (∀ w, k.item = .word w → t.fus.words = spSet blankReads w r s.fus.words ∧ t.fus.units = s.fus.units ∧
        t.fus.latWords = (if k.purpose = .reinforce then s.fus.latWords else spSet blankReads w r s.fus.latWords) ∧
        t.fus.latUnits = s.fus.latUnits) ∧
      (∀ u, k.item = .unit u → t.fus.units = spSet blankReads u r s.fus.units ∧ t.fus.words = s.fus.words ∧
        t.fus.latUnits = (if k.purpose = .reinforce then s.fus.latUnits else spSet blankReads u r s.fus.latUnits) ∧
        t.fus.latWords = s.fus.latWords) ∧
      t.fus.tasks = rest ∧ t.fus.lifecycle = s.fus.lifecycle ∧ t.fus.bank = s.fus.bank ∧
      (k.purpose ≠ .epoch → t.nvs = s.nvs ∧ t.led = s.led) ∧ (k.purpose = .epoch → t.led = { s.led with epochState := .clearing } ∧
        (s.rst.decided = none → s.nvs.blocks = [] → t.nvs.blocks.length = 4096)) ∧
      t.reg = s.reg ∧ t.par = s.par ∧ t.role = s.role ∧ t.fw = s.fw)

/-- The background re-read (R341), 60 s after the array was last read: latched values stay; an item whose resolved value differs from its latched value is counted and raises
`EV_FUS_DRIFT` once, and any other changes nothing. A reading is progress of monitor 48 (its unit is the model's reading, log 64), and the
next is due 60 s later (R341). -/
def fuseReread : Prop :=
  (∀ (s : State) (l : List (OtpItem × OtpReads)),
    (s.pwr.released = false ∨ (s.pwr.state = .boot ∧ s.pwr.bootStage ≤ 2) ∨ s.clk.ticks < s.fus.readTick + 7500000000) →
    exec (.fusReread l) s = .next s) ∧
  (∀ s : State, s.powered 53 = true → s.rereadDue = true → s.fus.latWords = [] → s.fus.latUnits = [] →
    (s.fus.words = [] → s.fus.units = [] → exec (.fusReread []) s = .next { s with
      fus := { s.fus with readTick := s.clk.ticks }, wdg := { s.wdg with counts := spErase 48 s.wdg.counts } }) ∧
    (∀ w r, w < 256 → readsFit (.word w) r = true → resolvedWord r ≠ (true, false, 0) → s.fus.words = [] → s.fus.units = [] →
      w ∉ s.fus.driftWords → ∃ t, exec (.fusReread [(.word w, r)]) s = .next t ∧ t.fus.words = [(w, r)] ∧
        t.fus.latWords = [] ∧ t.fus.driftCount = s.fus.driftCount + 1 ∧ t.fus.driftWords = w :: s.fus.driftWords ∧
        t.ev.seq = s.ev.seq + 1 ∧ t.sea = s.sea ∧ t.view = s.view ∧ t.nvs = s.nvs ∧ t.par = s.par ∧ t.role = s.role))

/-- Any re-read (R341, R342): the array holds the reads given, the latched values stay; every word and unit whose resolved value differs from
its latched value has been reported, once per boot and with one event each, which shows the three reads, of a word that holds no seed the
data. A lock or retirement unit that drifts enters Vermilion with cause lock drift, and nothing else does. -/
def fuseDrift : Prop :=
  ∀ (s : State) (l : List (OtpItem × OtpReads)), s.powered 53 = true → s.rereadDue = true →
    (∀ x, x ∈ l → otpItemExists x.1 = true ∧ readsFit x.1 x.2 = true) →
    ∃ t, exec (.fusReread l) s = .next t ∧ t.fus.words = (s.fus.drifted l).words ∧ t.fus.units = (s.fus.drifted l).units ∧
      t.fus.latWords = s.fus.latWords ∧ t.fus.latUnits = s.fus.latUnits ∧
      (∀ w, w < 256 → resolvedWord (spGet blankReads w t.fus.words) ≠ resolvedWord (spGet blankReads w s.fus.latWords) →
        w ∈ t.fus.driftWords) ∧
      (∀ u, u < 1365 → readsSet (spGet blankReads u t.fus.units) ≠ readsSet (spGet blankReads u s.fus.latUnits) → u ∈ t.fus.driftUnits) ∧
      (∀ w, w ∈ s.fus.driftWords → w ∈ t.fus.driftWords) ∧ (∀ u, u ∈ s.fus.driftUnits → u ∈ t.fus.driftUnits) ∧
      t.fus.driftCount = s.fus.driftCount + BitVec.ofNat 32 (t.fus.driftWords.length + t.fus.driftUnits.length -
        (s.fus.driftWords.length + s.fus.driftUnits.length)) ∧
      t.ev.seq = s.ev.seq + BitVec.ofNat 32 (t.fus.driftWords.length + t.fus.driftUnits.length -
        (s.fus.driftWords.length + s.fus.driftUnits.length) +
          (if s.sea.vermilion = 0 ∧ t.sea.vermilion ≠ 0 ∧ s.fus.lifecycle ≠ 3 then 1 else 0)) ∧
      ((∃ u, u ∈ t.fus.driftUnits ∧ u ∉ s.fus.driftUnits ∧ 1283 ≤ u ∧ u ≤ 1292) → t.sea.vermilion = s.sea.vermilion ||| 4) ∧
      ((∀ u, u ∈ t.fus.driftUnits → u ∉ s.fus.driftUnits → u < 1283 ∨ 1292 < u) → t.sea = s.sea ∧ t.view = s.view) ∧
      (s.pwr.run = none → s.ctl.ready = true →
        (∀ w, w ∈ t.fus.driftWords → w ∉ s.fus.driftWords → seedWord w = false → ∃ q, eventRecord 0x0D q s.clk.time (leBytes 2 w ++ [0, 0] ++
          leBytes 4 (wordData (spGet blankReads w t.fus.words).normal) ++ leBytes 4 (wordData (spGet blankReads w t.fus.words).low) ++
          leBytes 4 (wordData (spGet blankReads w t.fus.words).high)) ∈ t.ev.waiting) ∧
        (∀ u, u ∈ t.fus.driftUnits → u ∉ s.fus.driftUnits → ∃ q, eventRecord 0x0D q s.clk.time (leBytes 2 u ++ [1, 0] ++
          leBytes 4 ((spGet blankReads u t.fus.units).normal % 8) ++ leBytes 4 ((spGet blankReads u t.fus.units).low % 8) ++
          leBytes 4 ((spGet blankReads u t.fus.units).high % 8)) ∈ t.ev.waiting)) ∧
      t.fus.tasks = s.fus.tasks ∧ t.nvs.mem = s.nvs.mem ∧
      t.par = s.par ∧ t.role = s.role ∧ t.ctl = s.ctl ∧ t.clk = s.clk
/-! ## Lanes and link (09, 10) -/

/-- A fuse item programmed, and the background reading of the array. -/
def Obligations.FusesProgrammed : Prop :=
  otpProgrammed ∧ fuseReread ∧ fuseDrift

/-- A synthesiser locks (R216, R256, R257): after a full search, outside a closing run, its result is stored under the present temperature
band; outside HOP and RL_ACQUIRE nothing but the lock follows; in HOP the forward lock begins step 5, or ALIGN in FIXED mode. The VCO has 64
bands. -/
def lanePllLocks : Prop :=
  ∀ (s : State) (x : Synth) (band fine : Nat) (temp : Int), s.powered 48 = true → s.clk.refclk = true → s.synthLocked x = false →
    band < 64 → ∃ t, exec (.lanePllLocked x band fine temp) s = .next t ∧
      (s.pwr.run = none → (s.synthSearching x = true ∨ s.storedResult x temp = false) →
        recordAt (recordKey x s.lnk.hopRate (tempBand temp)) t.clk.pllRecords = some ⟨band, fine, temp⟩) ∧
      (s.synthSearching x = false → s.storedResult x temp = true → t.clk.pllRecords = s.clk.pllRecords) ∧
      (s.lnk.state ≠ .hop → s.lnk.state ≠ .rlAcquire → t.synthLocked x = true ∧ t.lnk.state = s.lnk.state ∧ t.pwr = s.pwr) ∧
      (s.lnk.state = .hop → x = .forward → s.pwr.run = none → t.lnk.state = if s.lnk.mode = 2 then .align else .adapt) ∧
      t = { s with free := t.free, clk := t.clk, pwr := t.pwr, reg := t.reg, ev := t.ev, lnk := t.lnk }

/-- A lock request from a stored result that has not locked in 18 µs becomes a full search, which is counted (R256). -/
def storedLockTimesOut : Prop :=
  ∀ (s : State) (x : Synth) (temp : Int), s.powered 48 = true → s.clk.refclk = true → s.synthLocked x = false →
    s.synthSearching x = false → s.storedResult x temp = true →
    ∃ c, exec (.storedLockTimeout ⟨x, temp⟩) s = .next { s with clk := c } ∧ c.pllSearches = s.clk.pllSearches + 1 ∧
      c.fwdSearching = (if x = .forward then true else s.clk.fwdSearching) ∧
      c.retSearching = (if x = .return then true else s.clk.retSearching) ∧ c.pllRecords = s.clk.pllRecords ∧ c.time = s.clk.time

/-- A lane synthesiser unlocks (R222, R223, R258): `EV_LOL` source 2 unless it stands; from UP the link goes down with reason 1, and from
any state but OFF and DOWN_WAIT it goes back to RL_ACQUIRE. It is a locked one that unlocks; which of two, the row does not say, and it is a
free value (log 2). -/
def lanePllUnlocks : Prop :=
  (∀ s : State, s.synthLocked .forward = true ∨ s.synthLocked .return = true → ∃ x, s.unlocking = some x) ∧
  (∀ (s : State) (x : Synth), s.unlocking = some x → s.synthLocked x = true) ∧
  (∀ (s : State) (x : Synth), s.powered 48 = true → s.unlocking = some x → s.pwr.run = none →
    (x = .forward ∨ s.stored 0x1C08 ≠ 2) → ∃ t, exec .lanePllUnlock s = .next t ∧
    t.lnk.lol2 = true ∧ t.synthLocked x = false ∧ t.clk.time = s.clk.time ∧ t.clk.pllRecords = s.clk.pllRecords ∧
    t.lnk.state = (if s.lnk.state = .off ∨ s.lnk.state = .downWait then s.lnk.state else .rlAcquire) ∧
    (s.lnk.state = .up → t.lnk.downReason = 1 ∧ t.lnk.leftUp = s.clk.time ∧ t.reg.irqStatus.getLsbD 7 = true ∧
      t.ev.seq = s.ev.seq + (if s.lnk.lol2 then 1 else 2)) ∧
    (s.lnk.state ≠ .up → t.ev.seq = s.ev.seq + (if s.lnk.lol2 then 0 else 1)) ∧
    t = { s with free := s.free + 1, clk := t.clk, pwr := t.pwr, reg := t.reg, ev := t.ev, lnk := t.lnk })

/-- The lane synthesisers (R216, R222, R256 to R258). -/
def Obligations.Synthesisers : Prop := lanePllLocks ∧ storedLockTimesOut ∧ lanePllUnlocks

/-- The return lane's receiver (R215, R222, R236): CDR lock and its loss, which begins the count of markers anew; block lock after four valid markers in a row or two 256
codewords apart, and its loss, which is counted, after four that are missing or invalid; without a signal the 69,632 ticks of four marker intervals stand for
them, the model's reading (log 79); signal loss and return with `EV_LOS` source 1, and the figure of merit. -/
def Obligations.ReturnLane : Prop :=
  ∀ s : State, s.powered 47 = true →
    (s.lnk.rx.locked = false → s.lnk.los1 = false → ∃ t, exec .rlCdrLock s = .next t ∧ t.lnk.rx.locked = true ∧ t.lnk.lol1 = false ∧
      t.ev.seq = (if s.lnk.lol1 then s.ev.seq + 1 else s.ev.seq) ∧
      t = { s with free := t.free, clk := t.clk, pwr := t.pwr, reg := t.reg, ev := t.ev, lnk := t.lnk } ∧
      (s.lnk.state ≠ .rlAcquire → t.lnk.state = s.lnk.state ∧ t.pwr = s.pwr ∧ t.clk = s.clk)) ∧
    (s.lnk.lol1 = false → ∃ t, exec .rlCdrUnlock s = .next t ∧ t.lnk.lol1 = true ∧ t.lnk.rx.locked = false ∧
      t.lnk.rx.run = 0 ∧ t.lnk.rx.spaced = false ∧ t.lnk.rx.since = none ∧
      t.ev.seq = s.ev.seq + 1 ∧ t.lnk.state = s.lnk.state ∧ t = { s with reg := t.reg, ev := t.ev, lnk := t.lnk }) ∧
    (s.lnk.rx.locked = true → s.lnk.rx.blockLock = false → (4 ≤ s.lnk.rx.run ∨ s.lnk.rx.spaced = true) → ∃ t, exec .rlBlockLock s = .next t ∧ t.lnk.rx.blockLock = true ∧
      t.lnk.rx.stream = none ∧ t = { s with free := t.free, clk := t.clk, pwr := t.pwr, lnk := t.lnk } ∧
      (s.lnk.state ≠ .rlAcquire → t.pwr = s.pwr ∧ t.clk = s.clk ∧ t.lnk = { s.lnk with rx := t.lnk.rx })) ∧
    (s.lnk.rx.blockLock = true → (4 ≤ s.lnk.rx.missed ∨ s.lnk.rx.markTick + 69632 ≤ s.clk.ticks) →
      exec .rlBlockLockLoss s = .next { s with lnk := { s.lnk with
        rlBlockLosses := s.lnk.rlBlockLosses + 1
        rx := { s.lnk.rx with blockLock := false, stream := none, run := 0, spaced := false, since := none, missed := 0 } } }) ∧
    (s.lnk.los1 = false → ∃ t, exec .rlSignalLoss s = .next t ∧ t.lnk.los1 = true ∧ t.ev.seq = s.ev.seq + 1 ∧
      t.lnk.state = s.lnk.state ∧ t = { s with reg := t.reg, ev := t.ev, lnk := t.lnk }) ∧
    (s.lnk.los1 = true → ∃ t, exec .rlSignalRestore s = .next t ∧ t.lnk.los1 = false ∧ t.ev.seq = s.ev.seq + 1 ∧
      t.lnk.state = s.lnk.state ∧ t = { s with reg := t.reg, ev := t.ev, lnk := t.lnk }) ∧
    (∀ fom, exec (.rlFomUpdate fom) s = .next { s with lnk := { s.lnk with rlFom := fom } })

/-- REFCLK and the time PLL (R222, R227, R261): the loss of REFCLK takes the time PLL with it, and the link's bring-up begins again;
without lock device time stays as it is. The order of the events of a loss, and that a waiting set stays, is the model's reading (log 55). -/
def Obligations.ReferenceClock : Prop :=
  ∀ s : State, (s.pwr.released = true ∨ s.rst.cause ≠ .por) →
    (s.clk.refclk = true → s.pwr.run = none → ∃ t, exec .refclkLoss s = .next t ∧ t.clk.refclk = false ∧ t.clk.pllLocked = false ∧
      t.clk.time = s.clk.time ∧ t.lnk.los2 = true ∧ (s.clk.pllLocked = true → t.lnk.lol3 = true) ∧
      t.lnk.state = (if s.lnk.state = .off ∨ s.lnk.state = .downWait then s.lnk.state else .rlAcquire) ∧
      (s.lnk.state = .up → t.lnk.downReason = 2) ∧
      t = { s with clk := t.clk, pwr := t.pwr, reg := t.reg, ev := t.ev, lnk := t.lnk }) ∧
    (s.clk.refclk = false → ∃ t, exec .refclkRestore s = .next t ∧ t.clk.refclk = true ∧ t.lnk.los2 = false ∧
      t.clk.time = s.clk.time ∧ t.ev.seq = (if s.lnk.los2 then s.ev.seq + 1 else s.ev.seq) ∧
      t = { s with free := t.free, clk := t.clk, pwr := t.pwr, reg := t.reg, ev := t.ev, lnk := t.lnk }) ∧
    (s.clk.refclk = true → s.clk.pllLocked = true → ∃ t, exec .timePllUnlock s = .next t ∧
      t.clk = { s.clk with pllLocked := false } ∧ t.lnk.lol3 = true ∧ t.ev.seq = s.ev.seq + 1 ∧ t.lnk.state = s.lnk.state ∧
      t = { s with clk := t.clk, reg := t.reg, ev := t.ev, lnk := t.lnk }) ∧
    (s.clk.refclk = true → s.clk.pllLocked = false → s.powered 49 = true → ∃ t, exec .timePllRelock s = .next t ∧
      t.clk = { s.clk with pllLocked := true } ∧ t.lnk.lol3 = false ∧
      t.ev.seq = (if s.lnk.lol3 then s.ev.seq + 1 else s.ev.seq) ∧ t.lnk.state = s.lnk.state ∧
      t = { s with clk := t.clk, reg := t.reg, ev := t.ev, lnk := t.lnk })

/-- Identification (R216 to R219): an accepted LANE_REPORT gives the lane map and begins step 4 with every mapped lane powered; without one
in time step 2 restarts, each lane of the mask powered and sending its identification word, and after its restarts the bring-up fails with
reason 3. That a receiver that found nothing keeps its nibble (log 14), and that a failed bring-up powers the lanes off (log 18), is the
model's choice. -/
def identification : Prop :=
  (∀ (s : State) (l : List Byte), s.lnk.state = .ident → s.returnLane = true → l.length = 4 → laneReportOk s.lnk.mask l = true →
    ∃ t, exec (.laneReport l) s = .next t ∧ t.lnk.state = .hop ∧ t.lnk.hopRate = s.lnk.target ∧ t.lnk.mapInForce = true ∧
      (∀ k p, k < 4 → laneFound (l.getD k 0) = some p → bitsOf t.lnk.map (4 * k) 4 = p.1 + 8 * boolNat p.2 ∧
        t.powered (43 + p.1) = true) ∧
      t = { s with free := t.free, clk := t.clk, pwr := t.pwr, par := t.par, lnk := t.lnk }) ∧
  (∀ s : State, s.lnk.state = .ident → s.lnk.entered + 125000 * s.lnk.identTimeout ≤ s.clk.ticks →
    (s.lnk.restarts < s.lnk.retries → s.pwr.run = none → ∃ t, exec .identTimeout s = .next t ∧ t.lnk.state = .ident ∧
      t.lnk.restarts = s.lnk.restarts + 1 ∧ t.lnk.entered = s.clk.ticks ∧
      (∀ p, p < 4 → (s.stored 0x1C04).testBit p = true → t.powered (43 + p) = true ∧
        (p, [0x47, 0x1D, 0xB6, 0xF0, BitVec.ofNat 8 (p + 16 * (15 - p)), 4, 0x55, 0x55]) ∈ t.lnk.ident) ∧
      (∀ p, p < 4 → (s.stored 0x1C04).testBit p = false → t.powered (43 + p) = false) ∧ t = { s with pwr := t.pwr, lnk := t.lnk }) ∧
    (s.lnk.retries ≤ s.lnk.restarts → s.pwr.run = none → ∃ t, exec .identTimeout s = .next t ∧ t.lnk.state = .downWait ∧
      t.lnk.downReason = 3 ∧ t.ev.seq = s.ev.seq + 1 ∧ (∀ i, i ∈ [43, 44, 45, 46] → t.powered i = false) ∧
      t = { s with pwr := t.pwr, reg := t.reg, ev := t.ev, lnk := t.lnk }))

/-- Alignment and retraining (R221, R223, R226, R235, R243, R250): ALIGNED, or in FIXED mode 1 ms, brings the link UP, with LINK_STATE first
to be sent; without ALIGNED in time the bring-up fails; RETRAIN leaves UP for step 4 with reason 5, but waits while the core is held
(R227); a second after a failure the bring-up begins again, and where every lock still holds it goes on from step 1 at once. What waits for the
held core (log 18), the retrain in FIXED mode (log 22), and a retrain asked for before UP (log 73) are the model's choices. -/
def alignment : Prop :=
  ∀ s : State, s.pwr.run = none →
    (s.lnk.state = .align → s.lnk.mode ≠ 2 → s.returnLane = true → ∃ t, exec .aligned s = .next t ∧
      t.lnk.state = .up ∧ t.lnk.lastGood = some (s.lnk.rateUsed, s.lnk.lanesUsed) ∧ t.lnk.train.map Packet.kind = [8] ∧
      t.reg.irqStatus.getLsbD 7 = true ∧ t.lnk.data = s.lnk.data ∧ t.lnk.sealQ = s.lnk.sealQ ∧ t.lnk.control = s.lnk.control ∧
      t = { s with reg := t.reg, lnk := t.lnk }) ∧
    (s.lnk.state = .align → s.lnk.mode ≠ 2 → s.lnk.entered + 125000 * s.lnk.alignTimeout ≤ s.clk.ticks →
      ∃ t, exec .alignTimeout s = .next t ∧ t.lnk.state = .downWait ∧ t.lnk.downReason = 3 ∧ t.ev.seq = s.ev.seq + 1 ∧
        t = { s with pwr := t.pwr, reg := t.reg, ev := t.ev, lnk := t.lnk }) ∧
    (s.lnk.state = .align → s.lnk.mode = 2 → s.lnk.entered + 125000 ≤ s.clk.ticks →
      ∃ t, exec .fixedAlignExpiry s = .next t ∧ t.lnk.state = .up ∧ t.reg.irqStatus.getLsbD 7 = true ∧
        t = { s with reg := t.reg, lnk := t.lnk }) ∧
    (s.lnk.state = .up → s.returnLane = true → s.wdg.halted = true → exec .retrain s = .next { s with lnk := { s.lnk with
      retrainDue := some 5 } }) ∧
    (s.lnk.state = .up → s.returnLane = true → s.wdg.halted = false → ∃ t, exec .retrain s = .next t ∧ t.lnk.state = .hop ∧
      t.lnk.hopRate = s.stored 0x1C02 ∧ t.lnk.retrains = s.lnk.retrains + 1 ∧ t.lnk.downReason = 5 ∧ t.lnk.leftUp = s.clk.time ∧
      t.ev.seq = s.ev.seq + 1 ∧ t.lnk.data = s.lnk.data ∧ t.lnk.sealQ = s.lnk.sealQ ∧
      t = { s with free := t.free, clk := t.clk, pwr := t.pwr, reg := t.reg, ev := t.ev, lnk := t.lnk }) ∧
    (s.lnk.state = .downWait → s.lnk.entered + 125000000 ≤ s.clk.ticks → s.stored 0x1C00 ≠ 0 → s.pwr.state = .active →
      s.wdg.halted = false → ∃ t, exec .downWaitExpiry s = .next t ∧ (∀ i, i ∈ [47, 48, 50] → t.powered i = true) ∧
        (s.clk.fwdLocked = false → t.lnk.state = .rlAcquire) ∧
        (s.clk.fwdLocked = true → s.clk.fwdRate = 0 → s.clk.retLocked = true → s.lnk.rx.locked = true → s.lnk.rx.blockLock = true →
          s.pwr.poweringUp = [] → (∀ i, i ∈ [47, 48, 50] → s.powered i = true) → s.stored 0x1C08 = 0 → s.lnk.mapInForce = false →
          s.lnk.wakeUp = false → t.lnk.state = .ident) ∧
        t = { s with free := t.free, clk := t.clk, pwr := t.pwr, lnk := t.lnk })

/-- The link's bring-up and retraining (R216 to R223, R235, R250). Its clauses rest in part on the model's readings and choices of
logs 14, 18, 22, 73 and 82. -/
def Obligations.BringUp : Prop := identification ∧ alignment

/-- FoM requests, reports and their timeouts (R220, R224, R242, R243): a request of step 5 names the lanes still adapting; a monitoring
request goes out once for every lane in use. That copy for each lane (log 25), the round advanced after a timeout (log 15), and that low
reports count while AUTO_RETRAIN is 0 (log 82), are the model's choices. -/
def fomRounds : Prop :=
  (∀ (s : State) (a : Adapt), s.lnk.adapt = some a → s.lnk.state = .adapt → s.lnk.outstanding = none → s.pwr.run = none →
    a.since + 125 * a.settle ≤ s.clk.ticks → exec .fomRequest s = .next { s with lnk := { s.lnk with
      outstanding := some ⟨a.round, s.clk.ticks, false⟩
      train := s.lnk.train ++ [
        { kind := 8
          body := [1, a.round, 0, 0] ++ leBytes 1 a.rate ++ leBytes 1 a.openMask ++ [0, 0] }] } }) ∧
  (∀ (a : Adapt) (k : Nat), a.openMask.testBit k = true ↔ ∃ x, x ∈ a.lanes ∧ x.1 = k ∧ x.2.phase ≠ .done) ∧
  (∀ s : State, s.lnk.state = .up → s.lnk.monTick + 12500000 ≤ s.clk.ticks → exec .fomMonitorRequest s = .next { s with
    lnk := { s.lnk with
      outstanding := some ⟨s.lnk.monRound, s.clk.ticks, true⟩, monRound := s.lnk.monRound + 1, monTick := s.clk.ticks
      train := s.lnk.train ++ List.replicate s.lnk.lanesUsed
        { kind := 8
          body := [1, s.lnk.monRound, 0, 0] ++ leBytes 1 s.lnk.rateUsed ++ leBytes 1 (2 ^ s.lnk.lanesUsed - 1) ++ [1, 0] } } }) ∧
  (∀ (s : State) (q : FomAsk) (foms : List Byte) (lock : BitVec 4), s.lnk.outstanding = some q → foms.length = 4 →
    s.fomAnswered q.round q = true → s.lnk.state = .up →
    ∃ t, exec (.fomReport q.round foms lock) s = .next t ∧ t.lnk.outstanding = none ∧
      t.lnk.fomLast = fomWord (countedFoms foms lock) ∧
      (s.stored 0x1C16 ≠ 1 → t = { s with lnk := t.lnk } ∧ t.lnk.state = .up ∧
        t.lnk.lowRun = (if ((countedFoms foms lock).take s.lnk.lanesUsed).any (fun f => f < s.stored 0x1C11) then s.lnk.lowRun + 1
          else 0)) ∧
      (s.stored 0x1C16 = 1 → s.pwr.run = none → s.wdg.halted = false → 2 ≤ s.lnk.lowRun →
        ((countedFoms foms lock).take s.lnk.lanesUsed).any (fun f => f < s.stored 0x1C11) = true →
        t.lnk.state = .hop ∧ t.lnk.downReason = 4 ∧ t.lnk.retrains = s.lnk.retrains + 1)) ∧
  (∀ (s : State) (q : FomAsk) (a : Adapt) (foms : List Byte) (lock : BitVec 4), s.lnk.outstanding = some q → foms.length = 4 →
    s.fomAnswered q.round q = true → s.lnk.state = .adapt → s.lnk.adapt = some a →
    (a.lanes.map fun x => x.2.answer a.passes a.target ((countedFoms foms lock).getD x.1 0)).any LaneAdapt.open_ = true →
    ∃ p, exec (.fomReport q.round foms lock) s = .next { s with lnk := { s.lnk with
      outstanding := none, fomLast := fomWord (countedFoms foms lock), ffePreset := p
      adapt := some { a with
        lanes := a.lanes.map fun x => (x.1, x.2.answer a.passes a.target ((countedFoms foms lock).getD x.1 0))
        round := a.round + 1, missing := 0, since := s.clk.ticks } } }) ∧
  (∀ (s : State) (q : FomAsk), s.lnk.outstanding = some q → q.tick + 125000 ≤ s.clk.ticks →
    (q.monitoring = true → exec .fomReportTimeout s = .next { s with lnk := { s.lnk with outstanding := none } }) ∧
    (∀ a, q.monitoring = false → s.lnk.adapt = some a → a.missing < 2 → s.pwr.run = none → exec .fomReportTimeout s = .next { s with
      lnk := { s.lnk with
        outstanding := none
        adapt := some { a with missing := a.missing + 1, round := a.round + 1, since := s.clk.ticks } } }) ∧
    (∀ a, q.monitoring = false → s.lnk.adapt = some a → 2 ≤ a.missing → s.pwr.run = none → ∃ t, exec .fomReportTimeout s = .next t ∧
      t.lnk.state = .downWait ∧ t.lnk.downReason = 3 ∧ t.lnk.outstanding = none ∧ t.ev.seq = s.ev.seq + 1))

/-- Step 5 ends when no lane is open (R219): every lane's coefficients are stored under its physical lane, and the rate is accepted with the
lanes that pass, or the next lower rate is tried. At the lowest rate, or with FALLBACK 0, the rate of the largest n × capacity, the higher one
on a tie, is taken at once where it is the one just tried, and repeated else; none passing a lane at any rate, the bring-up fails. At a repeat
what it gives decides (the model's choice, log 15). In ALIGN every lane counts towards the same marker (R232). -/
def adaptEnds : Prop :=
  ∀ (s : State) (q : FomAsk) (a b : Adapt) (foms : List Byte) (lock : BitVec 4) (n : Nat), s.lnk.outstanding = some q → foms.length = 4 →
    s.fomAnswered q.round q = true → s.lnk.state = .adapt → s.lnk.adapt = some a → s.pwr.run = none →
    b = { a with
      lanes := a.lanes.map fun x => (x.1, x.2.answer a.passes a.target ((countedFoms foms lock).getD x.1 0))
      round := a.round + 1, missing := 0, since := s.clk.ticks } →
    b.lanes.any (fun x => x.2.open_) = false → (∀ x, x ∈ a.lanes → x.1 < 4) → n = b.passCount (s.stored 0x1C11) s.lanesRequested →
    ∃ t, exec (.fomReport q.round foms lock) s = .next t ∧ t.lnk.outstanding = none ∧ t.lnk.rateUsed = a.rate ∧ t.lnk.lanesUsed = n ∧
      (n = s.lanesRequested → n ≠ 0 → t.lnk.state = .align) ∧
      (n ≠ s.lanesRequested → a.final = true → n ≠ 0 → t.lnk.state = .align) ∧
      ((n ≠ s.lanesRequested ∨ n = 0) → a.final = true → n = 0 → t.lnk.state = .downWait ∧ t.lnk.downReason = 3) ∧
      ((n ≠ s.lanesRequested ∨ n = 0) → a.final = false → a.fallback = true → 0 < a.rate → t.lnk.state = .hop ∧ t.lnk.hopRate = a.rate - 1) ∧
      (t.lnk.state = .align → ∀ l, l ∈ t.lnk.framer.lanes → l.count = maxList (s.lnk.framer.lanes.map LaneFramer.count)) ∧
      ((b.lanes.map fun x => s.physical x.1).Nodup → ∀ x, x ∈ b.lanes → t.stored (0x1C0B + s.physical x.1) = x.2.current.word ∧
        t.coefOf (s.physical x.1) = x.2.current.word) ∧
      ((n ≠ s.lanesRequested ∨ n = 0) → a.final = false → (a.fallback = false ∨ a.rate = 0) →
        ((∀ x, x ∈ (a.rate, n) :: a.tried → x.2 = 0) → t.lnk.state = .downWait ∧ t.lnk.downReason = 3) ∧
        (∀ x, x ∈ (a.rate, n) :: a.tried → 0 < x.2 →
          (∀ y, y ∈ (a.rate, n) :: a.tried → y.2 * rateCapacity y.1 < x.2 * rateCapacity x.1 ∨
            y.2 * rateCapacity y.1 = x.2 * rateCapacity x.1 ∧ y.1 ≤ x.1) →
          (x.1 = a.rate → t.lnk.state = .align) ∧
          (x.1 ≠ a.rate → t.lnk.state = .hop ∧ t.lnk.hopRate = x.1 ∧ t.lnk.adapt.map Adapt.final = some true))) ∧
      t.fus = s.fus ∧ t.role = s.role ∧ t.led = s.led ∧ t.fw = s.fw

/-- Figure-of-merit rounds and what follows them. -/
def Obligations.FigureOfMerit : Prop :=
  fomRounds ∧ adaptEnds

/-- The transmit order while UP (R244, R247): TRAIN, then packets sent again, control packets, seal packets that may leave, and data; with
none ready an IDLE packet leaves. No packet leaves while a marker is due (R232). -/
def transmitOrder : Prop :=
  ∀ s : State, (s.markerDue = true → exec .packetSend s = .next s) ∧
    (s.carriesPackets = true → s.lnk.state = .up → s.markerDue = false → s.lnk.retrainDue = none →
    (∀ p q, s.lnk.train = p :: q → ∃ t, exec .packetSend s = .next t ∧ t.lnk.sent = p :: s.lnk.sent ∧ t.lnk.train = q ∧
      t = { s with sea := t.sea, view := t.view, lnk := t.lnk, wdg := t.wdg }) ∧
    (∀ p q, s.lnk.train = [] → s.lnk.resend = p :: q → ∃ t, exec .packetSend s = .next t ∧ t.lnk.sent = p :: s.lnk.sent ∧
      t.lnk.resend = q ∧ t.lnk.control = s.lnk.control ∧ t.lnk.sealQ = s.lnk.sealQ) ∧
    (∀ p q, s.lnk.train = [] → s.lnk.resend = [] → s.lnk.control = p :: q → ∃ t, exec .packetSend s = .next t ∧
      t.lnk.sent = p :: s.lnk.sent ∧ t.lnk.control = q ∧ t.lnk.sealQ = s.lnk.sealQ) ∧
    (∀ p q, s.lnk.train = [] → s.lnk.resend = [] → s.lnk.control = [] → s.lnk.sealQ = p :: q → s.lnk.mayLeave p = true →
      ∃ t, exec .packetSend s = .next t ∧ t.lnk.sent = p :: s.lnk.sent ∧ t.lnk.sealQ = q) ∧
    (∀ p q, s.lnk.train = [] → s.lnk.resend = [] → s.lnk.control = [] → (∀ x y, s.lnk.sealQ = x :: y → s.lnk.mayLeave x = false) →
      s.lnk.data = p :: q → ∃ t, exec .packetSend s = .next t ∧ t.lnk.sent = p :: s.lnk.sent ∧ t.lnk.sealQ = s.lnk.sealQ) ∧
    (s.lnk.train = [] → s.lnk.resend = [] → s.lnk.control = [] → s.lnk.sealQ = [] → s.lnk.data = [] →
      ∃ t p, exec .packetSend s = .next t ∧ p.kind = 0 ∧ t.lnk.sent = p :: s.lnk.sent ∧ t.view = s.view ∧ t.sea = s.sea))

/-- Before UP nothing but TRAIN and IDLE packets leaves (R234): in step 5 the training packets in their order, and IDLE packets else. -/
def trainingOrder : Prop :=
  ∀ s : State, s.carriesPackets = true → s.markerDue = false →
    (∀ p q, s.lnk.state = .adapt → s.lnk.train = p :: q → ∃ t, exec .packetSend s = .next t ∧ t.lnk.sent = p :: s.lnk.sent ∧
      t.lnk.train = q ∧ t.lnk.control = s.lnk.control ∧ t.lnk.sealQ = s.lnk.sealQ) ∧
    ((s.lnk.state = .align ∨ s.lnk.state = .adapt ∧ s.lnk.train = []) → ∃ t p, exec .packetSend s = .next t ∧ p.kind = 0 ∧
      t.lnk.sent = p :: s.lnk.sent ∧ t.lnk.train = s.lnk.train ∧ t.lnk.control = s.lnk.control ∧ t.lnk.sealQ = s.lnk.sealQ ∧
      t.lnk.data = s.lnk.data)

/-- Markers (R232, R233): in HOP, and once every lane has sent 255 other codewords, one on every lane, twenty times the marker block with
the count, the rate and device time; the marker count goes up, and the lanes count their codewords anew. That a marker carries the count
before its advance is the model's reading (log 17), and that a marker or a packet restarts monitor 49 too (log 64); striping 0 in HOP is its
choice (log 82), and the codeword's generator, bit order and parity are presumed (log 12). -/
def markersSent : Prop :=
  ∀ s : State, (s.lnk.state = .hop ∨ (s.carriesPackets = true ∧ ∀ l, l ∈ s.lnk.framer.lanes → 255 ≤ l.count)) →
    ∃ f, exec .markerCodeword s = .next { s with
      lnk := { s.lnk with markerCount := s.lnk.markerCount + 1, framer := f }
      wdg := { s.wdg with counts := spErase 49 s.wdg.counts } } ∧
    f.lanes.map LaneFramer.count = s.lnk.framer.lanes.map (fun (l : LaneFramer) => min (l.blocks.length / 20) 255) ∧
    (∀ (k : Nat) (l : LaneFramer), s.lnk.framer.lanes[k]? = some l → l.blocks.length < 20 → (f.lanes[k]?).map LaneFramer.codeword =
      some (codewordOf (List.replicate 20 (blockOf false (bitsOfBytes (markerBytes l.logical s.lnk.framer.rate
        (if s.lnk.framer.own then 0 else s.lnk.framer.lanes.length) s.lnk.markerCount s.clk.time)))))) ∧
    (∀ x, x ∈ f.inFlight → x ∈ s.lnk.framer.inFlight) ∧ f.blocks = s.lnk.framer.blocks

/-- What the return lane brings (R229, R230, R238, R246, R289): a MSG packet joins CTL's order unless it repeats the sequence before it; an
uncorrectable codeword is counted and loses packet alignment; a corrected marker codeword counts its corrections and the markers in a
row of R236. Before block lock only the markers count. That a session's opening supersedes the signed messages waiting at its arrival is the
model's reading (log 74), and what the correction finds rests on the presumed code (log 12). -/
def returnLaneReceives : Prop :=
  (∀ (s : State) (p : Bytes), s.returnLane = true → leAt 0 1 p = 7 → packetOk p = true →
    (s.lnk.rx.lastSeq = some (BitVec.ofNat 32 (leAt 4 4 p)) → exec (.rlMsgPacket p) s = .next s) ∧
    (s.lnk.rx.lastSeq ≠ some (BitVec.ofNat 32 (leAt 4 4 p)) → s.ctl.ready = true →
      (s.ctl.inbox.filter fun i => i != .side).length < 16 → exec (.rlMsgPacket p) s = .next { s with
        lnk := { s.lnk with rx := { s.lnk.rx with lastSeq := some (BitVec.ofNat 32 (leAt 4 4 p)) } }
        ctl := { s.ctl with
          inbox := s.ctl.inbox ++ [.inBand (slice 16 (p.length - 20) p)]
          superseded := if (⟨slice 16 (p.length - 20) p, true⟩ : Msg).opensSession then s.ctl.inbox.length
            else s.ctl.superseded } })) ∧
  (∀ (s : State) (l : List (BitVec 10)), s.powered 47 = true → s.lnk.rx.locked = true → l.length = 544 →
    ∃ t, exec (.rlCodewordReceive l) s = .next t ∧
    t = { s with free := t.free, clk := t.clk, pwr := t.pwr, reg := t.reg, ctl := t.ctl, ev := t.ev, par := t.par, lnk := t.lnk
                 wdg := { s.wdg with counts := spErase 51 s.wdg.counts } } ∧
    (s.returnLane = false → t.lnk = { s.lnk with rx := t.lnk.rx } ∧ t.ctl = s.ctl) ∧
    (rsCorrect (l.map BitVec.toNat) = none → t.lnk.rx.run = 0 ∧
      (s.returnLane = true → t.lnk.rlFecUncorr = s.lnk.rlFecUncorr + 1 ∧ t.lnk.rx.stream = none ∧ t.ctl = s.ctl)) ∧
    (∀ w n, rsCorrect (l.map BitVec.toNat) = some (w, n) → isMarker (blocksOf w) = true → t.lnk.rx.run = s.lnk.rx.run + 1 ∧
      t.lnk.rx.missed = 0 ∧ t.lnk.rx.markTick = s.clk.ticks ∧ t.lnk.rx.spaced = (s.lnk.rx.since = some 255 && s.lnk.rx.missed = 0) ∧
      t.ctl = s.ctl ∧ (s.returnLane = true → t.lnk.rlFecCorr = s.lnk.rlFecCorr + BitVec.ofNat 32 n)))

/-- Packets and codewords of the link (R229 to R233, R238, R244 to R247, R289). The marker count taken before its advance (log 17), the
messages a later session supersedes (log 74) and striping 0 in HOP (log 82) are the model's readings; the code's generator, bit order and
parity, on which codewordOf and rsCorrect rest, are presumed (log 12). -/
def Obligations.Packets : Prop := transmitOrder ∧ trainingOrder ∧ markersSent ∧ returnLaneReceives

/-! ## Time (11) -/

/-- PPS edges (R263 to R265): one of the other polarity, shorter than 100 ns at the active level, or not measured in the tick it falls in
does nothing; one less than 500 ms after the last accepted one is rejected and counted; while the time is UNSET and no set
waits, an accepted edge only sets its time and the timeout; within `TIME.STEP_THRESHOLD` the base goes on in DISCIPLINED mode. That an edge
measured outside its tick is no edge of the row is the model's choice (logs 5, 71), and so is what a waiting set does at an edge (log 55). -/
def ppsEdges : Prop :=
  ∀ (s : State) (m : Word64) (falling : Bool) (active : Nat),
    ((falling ≠ decide (s.stored 0x0C05 = 1) ∨ active < 100 ∨ (m - s.clk.time).toInt < -2 ∨ 9 < (m - s.clk.time).toInt) →
      exec (.ppsEdge ⟨m, falling, active⟩) s = .next s) ∧
    (s.stored 0x0C04 ≠ 0 → s.powered 49 = true → falling = decide (s.stored 0x0C05 = 1) → 100 ≤ active → -2 ≤ (m - s.clk.time).toInt → (m - s.clk.time).toInt ≤ 9 →
    (s.edgeAccepted m = false → exec (.ppsEdge ⟨m, falling, active⟩) s = .next { s with clk := { s.clk with ppsRejects := s.clk.ppsRejects + 1 } }) ∧
    (s.edgeAccepted m = true → s.clk.pendingSet = none → s.clk.mode = .unset → s.clk.ppsLost = false → ∃ t,
      exec (.ppsEdge ⟨m, falling, active⟩) s = .next t ∧ t.clk = { s.clk with
        lastEdge := some m, lastEdgeTick := s.clk.ticks, ppsLast := m, ppsOk := true } ∧
      t = { s with clk := t.clk, pin := { s.pin with ppsPulse := some s.clk.ticks } }) ∧
    (s.edgeAccepted m = true → s.clk.pendingSet = none → s.clk.mode ≠ .unset → s.clk.ppsLost = false →
      (s.phaseError m).natAbs ≤ s.stored 0x0C07 → ∃ t, exec (.ppsEdge ⟨m, falling, active⟩) s = .next t ∧ t.clk.mode = .disciplined ∧
        t.clk.time = s.clk.time ∧ t.clk.lastEdge = some m ∧ t.clk.phaseErr = saturate32 (s.phaseError m) ∧
        t.clk.freq = clampInt (-(s.stored 0x0C08 : Int)) (s.stored 0x0C08 : Nat)
          (s.clk.freq - (s.phaseError m).tdiv (2 ^ bitsOf (s.stored 0x0C09) 4 4 : Int)) ∧
        t = { s with clk := t.clk, pin := { s.pin with ppsPulse := some s.clk.ticks } }) ∧
    (∀ p, s.edgeAccepted m = true → s.clk.pendingSet = some p → s.stepsAllowed = false → ∃ t,
      exec (.ppsEdge ⟨m, falling, active⟩) s = .next t ∧ t.clk.pendingSet = some { p with edge := true } ∧ t.clk.time = s.clk.time ∧
      t.clk.lastEdge = some m ∧ t.par = s.par ∧ t.nvs = s.nvs) ∧
    (∀ p, s.edgeAccepted m = true → s.clk.pendingSet = some p → s.stepsAllowed = true → ∃ t,
      exec (.ppsEdge ⟨m, falling, active⟩) s = .next t ∧
      t.clk.pendingSet = none ∧ t.clk.mode = .set ∧ t.clk.time = s.clk.time + BitVec.ofInt 64 (round8 (p.value - m).toInt) ∧
      t.ctl = s.ctl ∧ t.par = s.par ∧ t.led = s.led ∧ t.fus = s.fus ∧ t.role = s.role))

/-- The other accepted edges: one that ends a loss clears EV_LOS source 3 (R264); one whose error is beyond `TIME.STEP_THRESHOLD` steps the
time base where steps are allowed, and else leaves the loop as it is (R265, R267). The rows' operands are as log 71 says. -/
def ppsRecovers : Prop :=
  ∀ (s : State) (m : Word64) (falling : Bool) (active : Nat), s.stored 0x0C04 ≠ 0 → s.powered 49 = true →
    falling = decide (s.stored 0x0C05 = 1) → 100 ≤ active → -2 ≤ (m - s.clk.time).toInt → (m - s.clk.time).toInt ≤ 9 →
    s.edgeAccepted m = true → s.clk.pendingSet = none →
    (s.clk.ppsLost = true → ∃ t, exec (.ppsEdge ⟨m, falling, active⟩) s = .next t ∧ t.clk.ppsLost = false ∧ t.clk.ppsOk = true ∧
      t.clk.lastEdge.isSome = true ∧ t.clk.lastEdgeTick = s.clk.ticks ∧ s.ev.seq ≠ t.ev.seq) ∧
    (s.clk.mode ≠ .unset → s.clk.ppsLost = false → s.stored 0x0C07 < (s.phaseError m).natAbs → s.stepsAllowed = false →
      ∃ t, exec (.ppsEdge ⟨m, falling, active⟩) s = .next t ∧ t.clk.mode = .disciplined ∧ t.clk.time = s.clk.time ∧
        t.clk.phaseErr = saturate32 (s.phaseError m) ∧ t.clk.freq = s.clk.freq ∧ t.clk.rate = s.clk.rate ∧ t.ev = s.ev) ∧
    (s.clk.mode ≠ .unset → s.clk.ppsLost = false → s.stored 0x0C07 < (s.phaseError m).natAbs → s.stepsAllowed = true →
      ∃ t, exec (.ppsEdge ⟨m, falling, active⟩) s = .next t ∧ t.clk.mode = .disciplined ∧
        t.clk.time = s.clk.time + BitVec.ofInt 64 (-(round8 (s.phaseError m))) ∧ t.clk.phaseErr = saturate32 (s.phaseError m) ∧
        t.ctl = s.ctl ∧ t.par = s.par ∧ t.fus = s.fus ∧ t.role = s.role)

/-- Edges missing for `TIME.PPS_TIMEOUT` (R262, R264, R266): HOLDOVER with the rate at f and `EV_LOS` source 3; a set that waited as long
with no edge accepted is dropped, with a second CONFIG entry of the acceptance time. A rotation step, |r| × 64 in a second, moves the net
rotation by one in the sign of the rate. That the debt of the rotation is counted in steps on an empty queue is the model's choice (log 3). -/
def timeRuns : Prop :=
  (∀ s : State, s.pending = [] → s.clk.rotationDebt < 1953125 → ∃ t, step s = .next t ∧
    t.clk.rotationDebt = s.clk.rotationDebt + s.clk.rate.natAbs) ∧
  ∀ s : State,
    (s.stored 0x0C04 ≠ 0 → s.powered 49 = true → s.clk.ppsLost = false → s.clk.lastEdgeTick + 125000 * s.stored 0x0C0A ≤ s.clk.ticks →
      ∃ t, exec .ppsTimeout s = .next t ∧ t.clk = { s.clk with
          ppsLost := true, ppsOk := false, rate := s.clk.freq
          mode := TimeMode.holdover } ∧ t.ev.seq = s.ev.seq + 1 ∧
        t = { s with clk := t.clk, reg := t.reg, ev := t.ev, lnk := t.lnk }) ∧
    (∀ p, s.clk.pendingSet = some p → p.edge = true → exec .pendingSetTimeout s = .next s) ∧
    (∀ p, s.clk.pendingSet = some p → p.edge = false → p.acceptedTick + 125000 * s.stored 0x0C0A ≤ s.clk.ticks →
      ∃ t, exec .pendingSetTimeout s = .next t ∧ t.clk = { s.clk with pendingSet := none } ∧
        t.nvs.queue = s.nvs.queue ++ (if s.commits then
          [{ s.configEntry p.auth 0xFF 0 7 with first := p.acceptedTime, last := p.acceptedTime }] else []) ∧
        t = { s with clk := t.clk, nvs := { s.nvs with queue := t.nvs.queue } }) ∧
    (s.clk.rate ≠ 0 → 1953125 ≤ s.clk.rotationDebt → exec .phaseRotationStep s = .next { s with clk := { s.clk with
      rotation := s.clk.rotation + s.clk.rate.sign, rotationDebt := s.clk.rotationDebt - 1953125 } })

/-- The PPS discipline and the phase rotation (R262 to R267). That the rotation debt grows by the tick (log 3), that an edge off its tick or
its window does nothing (logs 5 and 71), and what becomes of a waiting set at an edge (log 55), are the model's choices. -/
def Obligations.DeviceTime : Prop := ppsEdges ∧ ppsRecovers ∧ timeRuns
/-! ## Pins (17) -/

/-- The arming unit (R389): inactive for INACTIVE_MIN it arms; a level that stays active for HOLD_LIMIT after its delivered edge raises
`EV_PIN_STUCK` once. -/
def armingUnit : Prop :=
  ∀ s : State, s.arming = true →
    (s.pin.armed = false → s.pin.active = false → s.sourceActive = false → s.pin.since + s.inactiveTicks ≤ s.clk.ticks →
      exec .triggerArm s = .next { s with pin := { s.pin with armed := true } }) ∧
    (s.pin.active = true → s.sourceActive = true → s.pin.delivered = true → s.pin.holdPassed = false → s.holdMs ≠ 0 →
      s.pin.since + 125000 * s.holdMs ≤ s.clk.ticks → ∃ t, exec .pinHoldLimit s = .next t ∧
        t.pin = { s.pin with holdPassed := true } ∧ t.ev.seq = s.ev.seq + 1 ∧
        t = { s with pin := t.pin, reg := t.reg, ev := t.ev, lnk := t.lnk })

/-- Activity detection (R385): on a pin whose detector is on, `EV_PIN_OVERRUN` is raised unless one was raised less than 1 ms ago; then the
detection is counted. -/
def activityDetectors : Prop :=
  ∀ (s : State) (n : Nat), n < 16 → s.powered 52 = true → s.pinField n 13 1 = 1 →
    (∀ a k, spGet {} n s.pin.activity = a → a.eventTick = some k → s.clk.ticks < k + 125000 →
      exec (.pinActivityDetect n) s = .next { s with pin := { s.pin with
        activity := spSet {} n { a with count := a.count + 1 } s.pin.activity } }) ∧
    ((∀ k, (spGet {} n s.pin.activity).eventTick = some k → k + 125000 ≤ s.clk.ticks) →
      ∃ t, exec (.pinActivityDetect n) s = .next t ∧ t.ev.seq = s.ev.seq + 1 ∧
        t.pin = { s.pin with activity := spSet {} n ⟨some s.clk.ticks, 0⟩ s.pin.activity } ∧
        t = { s with pin := t.pin, reg := t.reg, ev := t.ev, lnk := t.lnk })

/-- A conditioned level changes (R384): of a pin whose input buffer is on, at the second sample in a row that reads the new level, INVERT
applied at the pad, and of no other; so never twice within two samples. A tick's sample reads the level that the pad is driven to, or that the
outside was last seen to give it. A WAIT_PIN for that level or edge has seen it (R395), and the pulse-width unit may see its source (R411).
That the row carries the level at the pad, and that a released pad keeps the outside's level, is the model's choice (log 34). -/
def levelChanges : Prop :=
  (∀ (s : State) (n : Nat) (level b : Bool), b = (level != (s.pinField n 4 1 = 1)) →
    ((s.pin.fixed.getLsbD n = true ∧ s.pin.samples.getLsbD n ≠ b) ∨ (s.pin.fixedBefore.getLsbD n = true ∧ s.pin.before.getLsbD n ≠ b) →
      exec (.conditionedLevelChange n level) s = .next s)) ∧
  (∀ (s : State) (n : Nat) (b : Bool), s.sampled n = true →
    b = ((s.gpLand n).level.getD (s.pin.pads.getLsbD n) != (s.pinField n 4 1 = 1)) →
    (s.samplePin n).pin.samples.getLsbD n = b ∧
    (s.pin.samples.getLsbD n = b → (s.samplePin n).pin.levels.getLsbD n = b) ∧
    (s.pin.samples.getLsbD n ≠ b → (s.samplePin n).pin.levels = s.pin.levels ∧ (s.samplePin n).pin.before.getLsbD n ≠ b ∧
      (s.samplePin n).pin.fixed.getLsbD n = (s.gpLand n).level.isSome)) ∧
  (∀ (s : State) (n : Nat) (level b : Bool), s.sampled n = true →
    (s.pin.fixed.getLsbD n = true → s.pin.samples.getLsbD n = b) → (s.pin.fixedBefore.getLsbD n = true → s.pin.before.getLsbD n = b) →
    b = (level != (s.pinField n 4 1 = 1)) → s.pin.levels.getLsbD n ≠ b →
    ∃ t, exec (.conditionedLevelChange n level) s = .next t ∧
      (∀ i, i < 16 → t.pin.levels.getLsbD i = if i = n then b else s.pin.levels.getLsbD i) ∧
      t = { s with pin := t.pin, hkc := t.hkc } ∧ t.pin.tint = s.pin.tint ∧ t.pin.latch = s.pin.latch ∧
      exec (.conditionedLevelChange n (!level)) t = .next t ∧
      t.hkc = { s.hkc with pwActive := t.hkc.pwActive, pwSince := t.hkc.pwSince, pwEnded := t.hkc.pwEnded } ∧
      (∀ q began, q < 4 → (s.shadeAt q).state = .running → (s.shadeAt q).waiting = some (.pin began none) →
        bitsOf (s.shadeWord q) 16 4 = n → (s.shadeWord q).testBit 15 = b →
        (t.shadeAt q).waiting = some (.pin began (some s.clk.ticks))))

/-- The tint engines (R392): at each tick a running engine reads the entry at 16 × its state plus its four inputs; the entry gives the next
state and the outputs, which the next tick puts in force. No other engine changes. -/
def tintEngines : Prop :=
  ∀ (s : State) (e v : Nat), s.tintDue e = true → v = spGet 0 (256 * e + s.tintIndex e) s.pin.tables → ∃ t,
    exec (.tintEvaluate e) s = .next t ∧
    t.tintAt e = { s.tintAt e with next := some (v % 16, bitsOf v 4 2) } ∧
    (t.tintAt e).tick = { s.tintAt e with state := v % 16, out := bitsOf v 4 2 } ∧ (∀ i, i < 8 → i ≠ e → t.tintAt i = s.tintAt i) ∧
    t = { s.progress [57] with pin := t.pin } ∧
    t.pin.shade = s.pin.shade ∧ t.pin.levels = s.pin.levels ∧ t.pin.latch = s.pin.latch

/-- The inputs of the pins and the tint engines (R384, R385, R389, R392). -/
def Obligations.PinInputs : Prop := armingUnit ∧ activityDetectors ∧ levelChanges ∧ tintEngines

/-- Sequencer `q` has done a one-cycle instruction begun at the boundary `b`, as `y`: its cycle lasts until the next boundary, where it goes
on at word `pc` (R394). The other sequencers are as before. -/
def shadeCycle (s t : State) (q : Nat) (y : Shade) (b pc : Nat) : Prop :=
  t = { s.progress [58] with free := t.free, pin := t.pin } ∧ (∀ r, r < 4 → r ≠ q → t.shadeAt r = s.shadeAt r) ∧
    t.pin.levels = s.pin.levels ∧ t.pin.tint = s.pin.tint ∧ t.pin.store = s.pin.store ∧
    t.shadeAt q = { y with next := b + y.cycle, waiting := none, target := some pc }

/-- A sequencer `q` that goes on as `x` at word `pc` from tick `next`; past its window it stops with OVERRUN and empty FIFOs (R394). The
other sequencers are as before. -/
def shadeAfter (s t : State) (q : Nat) (x : Shade) (pc next : Nat) : Prop :=
  t = { s.progress [58] with free := t.free, pin := t.pin } ∧ (∀ r, r < 4 → r ≠ q → t.shadeAt r = s.shadeAt r) ∧
    t.pin.levels = s.pin.levels ∧ t.pin.tint = s.pin.tint ∧ t.pin.store = s.pin.store ∧
    ((x.first ≤ pc ∧ pc < x.first + x.length) →
      t.shadeAt q = { x with pc := pc, next := next, waiting := none, shifted := 0, target := none, drove := none }) ∧
    (¬ (x.first ≤ pc ∧ pc < x.first + x.length) → (t.shadeAt q).state = .idle ∧ (t.shadeAt q).overrun = true ∧
      (t.shadeAt q).inFifo = [] ∧ (t.shadeAt q).outFifo = [] ∧ (t.shadeAt q).gen = x.gen)

/-- SET, JUMP, MOVE and SIGNAL take one cycle (R394, R395): a SET drives a pin of the sequencer's own; a JUMP goes to its target where its
condition holds; a MOVE writes D or K and Z; a SIGNAL acts on one signal line. Where the cycle ends, the sequencer goes on at its next
word. That a row has its effects at the boundary where its cycle begins is the model's choice (log 34). -/
def oneCycleInstructions : Prop :=
  ∀ (s : State) (q : Nat) (x : Shade) (w : Nat), s.shadeAt q = x → s.shadeWord q = w →
    (s.shadeDue q 3 = true → ∃ t, exec (.set q) s = .next t ∧
      shadeCycle s t q { x with drove := some (bitsOf w 16 4, s.setDrive (bitsOf w 16 4) (bitsOf w 14 2)) } x.next (x.pc + 1) ∧
      t.free = s.free + 1 ∧
      (∀ n, n < 16 →
        t.padLatch n = if n = bitsOf w 16 4 ∧ s.pinFunction n = 4 ∧ s.pinField n 16 2 = q then s.setDrive n (bitsOf w 14 2)
          else s.padLatch n)) ∧
    (s.shadeDue q 6 = true → ∃ t, exec (.jump q) s = .next t ∧
      shadeCycle s t q x x.next (if s.jumpTaken q w then bitsOf w 0 6 else x.pc + 1) ∧ t.free = s.free) ∧
    (s.shadeDue q 9 = true → ∃ t y, exec (.move q) s = .next t ∧ shadeCycle s t q y x.next (x.pc + 1) ∧
      t.free = s.free ∧
      (w.testBit 19 = true → y = { x with
        k := (moveResult w (x.k.setWidth 32) (s.moveSource q w)).setWidth 16
        z := decide ((moveResult w (x.k.setWidth 32) (s.moveSource q w)).setWidth 16 = 0#16) }) ∧
      (w.testBit 19 = false → y = { x with
        d := moveResult w x.d (s.moveSource q w), z := decide (moveResult w x.d (s.moveSource q w) = 0) })) ∧
    (s.shadeDue q 10 = true → ∃ t y, exec (.signal q) s = .next t ∧ shadeCycle s t q y x.next (x.pc + 1) ∧
      t.free = s.free ∧ y = { x with line0 := y.line0, line1 := y.line1, pulse0 := y.pulse0, pulse1 := y.pulse1 } ∧
      (w.testBit 19 = false → bitsOf w 17 2 = 0 → y = { x with pulse0 := some s.clk.ticks }) ∧
      (w.testBit 19 = false → bitsOf w 17 2 = 1 → y = { x with line0 := true }) ∧
      (w.testBit 19 = false → bitsOf w 17 2 = 2 → y = { x with line0 := false }) ∧
      (w.testBit 19 = true → bitsOf w 17 2 = 0 → y = { x with pulse1 := some s.clk.ticks }) ∧
      (w.testBit 19 = true → bitsOf w 17 2 = 1 → y = { x with line1 := true }) ∧
      (w.testBit 19 = true → bitsOf w 17 2 = 2 → y = { x with line1 := false })) ∧
    (∀ pc, q < 4 → x.target = some pc → x.state = .running → x.change = none → x.next ≤ s.clk.ticks →
      shadeAfter s (s.tickShade q) q x pc x.next)

/-- Shifts (R396): at cycle `c` the clock pin stands as the cycle has it; a shift ends after 2n + 1 cycles; SHIFT_OUT leaves D, SHIFT_IN
gathers into it the samples taken, each one the level its pin can have had. That a row carries the cycle the shift stands at, and the
samples taken since the row before, is the model's choice (log 34). -/
def shifts : Prop :=
  ∀ (s : State) (q c : Nat) (x : Shade) (w : Nat), s.shadeAt q = x → s.shadeWord q = w →
    (s.shiftDue q 1 c = true → ∃ t, exec (.shiftOut q c) s = .next t ∧
      (c ≤ 2 * shiftBits w → t = { s.progress [58] with pin := t.pin } ∧ (∀ r, r < 4 → r ≠ q → t.shadeAt r = s.shadeAt r) ∧
        t.shadeAt q = { x with bc := min (c / 2) (shiftBits w), shifted := c, next := x.next + (c - x.shifted) * x.cycle } ∧
        (s.pinFunction (bitsOf w 12 4) = 4 → s.pinField (bitsOf w 12 4) 16 2 = q →
          t.padLatch (bitsOf w 12 4) = .level (shiftClock w c))) ∧
      (c = 2 * shiftBits w + 1 → shadeAfter s t q { x with bc := shiftBits w } (x.pc + 1)
        (x.next + (c - x.shifted) * x.cycle))) ∧
    (∀ l : List Bool, s.shiftDue q 2 c = true → l.length = min (c / 2) (shiftBits w) - x.shifted / 2 →
      (∀ b, b ∈ l → s.sampleFits q (bitsOf w 16 4) b = true) → ∃ t, exec (.shiftIn q c l) s = .next t ∧
        (c ≤ 2 * shiftBits w → t = { s.progress [58] with pin := t.pin } ∧ (∀ r, r < 4 → r ≠ q → t.shadeAt r = s.shadeAt r) ∧
          t.shadeAt q = { x with
            d := gather w (x.shifted / 2) l x.d, bc := min (c / 2) (shiftBits w), shifted := c
            next := x.next + (c - x.shifted) * x.cycle }) ∧
        (c = 2 * shiftBits w + 1 → shadeAfter s t q { x with d := gather w (x.shifted / 2) l x.d, bc := shiftBits w } (x.pc + 1)
          (x.next + (c - x.shifted) * x.cycle)))

/-- Waits (R395): WAIT_PIN and WAIT_TICKS begin, a level that stands already seen at once; a WAIT_PIN ends at the first boundary at or
after its condition came, T cleared, unless its timeout came before, where it ends with T set; a WAIT_TICKS ends at the first boundary at
or after its ticks. -/
def waits : Prop :=
  ∀ (s : State) (q : Nat) (x : Shade) (w : Nat), s.shadeAt q = x → s.shadeWord q = w →
    (s.shadeDue q 4 = true → exec (.waitPin q) s = .next ((s.progress [58]).setShade q { x with
      waiting := some (.pin x.next (if w.testBit 14 = false ∧ s.pin.levels.getLsbD (bitsOf w 16 4) = w.testBit 15
        then some s.clk.ticks else none))
      next := x.next + x.cycle })) ∧
    (s.shadeDue q 5 = true → exec (.waitTicks q) s = .next ((s.progress [58]).setShade q { x with
      waiting := some (.ticks (x.next + waitTicksOf w)), next := x.next + x.cycle })) ∧
    (s.shadeRuns q = true →
      (∀ b m, x.waiting = some (.pin b (some m)) → (bitsOf w 0 14 = 0 ∨ x.boundary m ≤ b + bitsOf w 0 14 * x.cycle) →
        x.boundary m ≤ s.clk.ticks → ∃ t, exec (.waitPinDone q) s = .next t ∧
        shadeAfter s t q { x with t := false } (x.pc + 1) (x.boundary m)) ∧
      (∀ b met, x.waiting = some (.pin b met) → bitsOf w 0 14 ≠ 0 →
        (∀ m, met = some m → b + bitsOf w 0 14 * x.cycle < x.boundary m) →
        x.boundary (b + bitsOf w 0 14 * x.cycle) ≤ s.clk.ticks → ∃ t, exec (.waitPinTimeout q) s = .next t ∧
        shadeAfter s t q { x with t := true } (x.pc + 1) (x.boundary (b + bitsOf w 0 14 * x.cycle))) ∧
      (∀ ends, x.waiting = some (.ticks ends) → x.boundary ends ≤ s.clk.ticks → ∃ t, exec (.waitTicksDone q) s = .next t ∧
        shadeAfter s t q x (x.pc + 1) (x.boundary ends)))

/-- The instructions of the shade sequencers but PULL and PUSH (R394 to R396). At which boundary a row has its effects, and what the shift
rows carry, are the model's choices (log 34). -/
def Obligations.ShadeInstructions : Prop := oneCycleInstructions ∧ shifts ∧ waits

/-- PULL and PUSH (R397): a blocking one that cannot complete waits, and completes at the next cycle boundary once it can; a non-blocking PULL
on an empty in-FIFO goes on with the last value pulled and counts it stale; a non-blocking PUSH on a full out-FIFO drops the value and
counts the drop. The FIFOs hold four values. That an unblocked one takes one more cycle from that boundary is the model's choice
(log 34). -/
def Obligations.ShadeFifoInstructions : Prop :=
  ∀ (s : State) (q : Nat) (x : Shade) (w : Nat), s.shadeAt q = x → s.shadeWord q = w →
    (∀ v l, s.shadeDue q 7 = true → x.inFifo = v :: l → ∃ t y, exec (.pull q) s = .next t ∧
      shadeCycle s t q y x.next (x.pc + 1) ∧ y.inFifo = l ∧ y.lastPulled = v ∧
      (if w.testBit 18 then y.k = v.setWidth 16 ∧ y.d = x.d else y.d = v ∧ y.k = x.k)) ∧
    (s.shadeDue q 7 = true → x.inFifo = [] → w.testBit 19 = true → exec (.pull q) s = .next ((s.progress [58]).setShade q { x with
      waiting := some (.pull none), next := x.next + x.cycle })) ∧
    (s.shadeDue q 7 = true → x.inFifo = [] → w.testBit 19 = false → ∃ t y, exec (.pull q) s = .next t ∧
      shadeCycle s t q y x.next (x.pc + 1) ∧ y.inFifo = [] ∧ y.stale = min 65535 (x.stale + 1) ∧
      (if w.testBit 18 then y.k = x.lastPulled.setWidth 16 ∧ y.d = x.d else y.d = x.lastPulled ∧ y.k = x.k)) ∧
    (∀ v l r, s.shadeRuns q = true → x.waiting = some (.pull (some r)) → x.inFifo = v :: l → x.boundary r ≤ s.clk.ticks →
      ∃ t y, exec (.pullUnblock q) s = .next t ∧ shadeCycle s t q y (x.boundary r) (x.pc + 1) ∧ y.inFifo = l ∧ y.lastPulled = v ∧
        (if w.testBit 18 then y.k = v.setWidth 16 ∧ y.d = x.d else y.d = v ∧ y.k = x.k)) ∧
    (s.shadeDue q 8 = true → x.outFifo.length < 4 → ∃ t, exec (.push q) s = .next t ∧ shadeCycle s t q
      { x with outFifo := x.outFifo ++ [if w.testBit 18 then x.k.setWidth 32 else x.d] } x.next (x.pc + 1)) ∧
    (s.shadeDue q 8 = true → 4 ≤ x.outFifo.length → w.testBit 19 = true → exec (.push q) s = .next ((s.progress [58]).setShade q { x with
      waiting := some (.push none), next := x.next + x.cycle })) ∧
    (s.shadeDue q 8 = true → 4 ≤ x.outFifo.length → w.testBit 19 = false → ∃ t, exec (.push q) s = .next t ∧
      shadeCycle s t q { x with drops := min 65535 (x.drops + 1) } x.next (x.pc + 1)) ∧
    (∀ r, s.shadeRuns q = true → x.waiting = some (.push (some r)) → x.outFifo.length < 4 → x.boundary r ≤ s.clk.ticks →
      ∃ t, exec (.pushUnblock q) s = .next t ∧ shadeCycle s t q
        { x with outFifo := x.outFifo ++ [if w.testBit 18 then x.k.setWidth 32 else x.d] } (x.boundary r) (x.pc + 1))

/-! ## TAP (20) -/

/-- What a debugger does under an unlock (R347, R369, R373), from the state `u` with the debug register selected: a halt holds the core in
the window of every slot, a resume releases it, and a bring-up that waited for the core begins (R227; that one waits is log 18, the model's
choice); step, memory and subsystem registers act on a core it holds. The watchdog's two status words read as R369 lays them out, its two
write-only registers as 0 (R10). That a word written is read back until the core executes again, that another one reads as a free value,
and that step, memory and registers wait for a held core, are the model's choices (log 33), as is that a resume or a step restarts monitor 60
(log 64); that an action before its time changes nothing
is too (log 5). -/
def debugFunctions : Prop :=
  ∀ (s u : State) (c : BitVec 5), 0x10 ≤ c.toNat → c.toNat ≤ 0x1E → s.debugOpen = true →
    u = { s with tap := { s.tap with ir := c }, pad := { s.pad with trstN := true } } →
    u.tapSelected = .debug ∧
    (s.powered 42 = true → exec (.tapDebug c .halt) s = .next { u with wdg := { s.wdg with
      halted := true, slots := s.wdg.slots.map fun x => (x.1, { x.2 with halted := true }) } }) ∧
    (∀ v, v = { u with wdg := { s.wdg with counts := spErase 60 s.wdg.counts, halted := false, debugMem := [], debugRegs := [] } } →
      (s.lnk.state ≠ .rlAcquire → s.lnk.state ≠ .off → exec (.tapDebug c .resume) s = .next v) ∧
      (s.stored 0x1C00 = 0 → exec (.tapDebug c .resume) s = .next v) ∧
      (s.lnk.state = .rlAcquire ∨ s.lnk.state = .off → exec (.tapDebug c .resume) s = .next v.startBringUp)) ∧
    (s.wdg.halted = false → ∀ act, act ≠ .halt → act ≠ .resume → exec (.tapDebug c act) s = .next u) ∧
    (s.wdg.halted = true →
      exec (.tapDebug c .step) s = .next { u with wdg := { s.wdg with
        counts := spErase 60 s.wdg.counts, debugMem := [], debugRegs := [] } } ∧
      (∀ a v, exec (.tapDebug c (.writeMemory a v)) s = .next { u with wdg := { s.wdg with
        debugMem := spSet none a.toNat (some v) s.wdg.debugMem } }) ∧
      (∀ a v, spGet none a.toNat s.wdg.debugMem = some v → exec (.tapDebug c (.readMemory a)) s = .next { u with
        tap := { u.tap with data := v } }) ∧
      (∀ a, spGet none a.toNat s.wdg.debugMem = none → exec (.tapDebug c (.readMemory a)) s = .next { u with
        free := s.free + 1
        tap := { u.tap with data := Config.ctlWord s.free } }) ∧
      exec (.tapDebug c (.readRegister 0xE0000108#32)) s = .next { u with tap := { u.tap with data := s.wdgStatus } } ∧
      exec (.tapDebug c (.readRegister 0xE000010C#32)) s = .next { u with tap := { u.tap with data := s.wdgStrict } } ∧
      exec (.tapDebug c (.readRegister 0xE0000100#32)) s = .next { u with tap := { u.tap with data := 0 } } ∧
      exec (.tapDebug c (.readRegister 0xE0000104#32)) s = .next { u with tap := { u.tap with data := 0 } } ∧
      (∀ a v : Word, a ≠ 0xE0000100#32 → a ≠ 0xE0000104#32 → a ≠ 0xE0000108#32 → a ≠ 0xE000010C#32 →
        exec (.tapDebug c (.writeRegister a v)) s = .next { u with wdg := { s.wdg with
          debugRegs := spSet none a.toNat (some v) s.wdg.debugRegs } } ∧
        (∀ x, spGet none a.toNat s.wdg.debugRegs = some x → exec (.tapDebug c (.readRegister a)) s = .next { u with
          tap := { u.tap with data := x } })) ∧
      (∀ v : Word, s.wdg.slots = [] →
        exec (.tapDebug c (.writeRegister 0xE0000104#32 v)) s = .next { u with wdg := { s.wdg with
          ignored := min 255 (s.wdg.ignored + 1) } }))

/-- The instruction `ir` is in force, TRST_N high, and nothing else has changed. -/
def tapLoaded (s : State) (ir : BitVec 5) : State := { s with tap := { s.tap with ir := ir }, pad := { s.pad with trstN := true } }

/-- What a scan of the boundary register captures (R446): at the input cells the levels of the lands, at the output and enable cells what
the device gives them; what neither says is the operand's (log 33). -/
def scanCaptures (s : State) (x : BoundaryScan) (y : BoundaryCells) : Prop :=
  (∀ n, n < 16 → y.gpIn.getLsbD n = (s.gpLand n).level.getD (x.seen.gpIn.getLsbD n) ∧
    (y.gpEn.getLsbD n = true ↔ s.padDrive n ≠ .released) ∧ (s.padDrive n = .high → y.gpOut.getLsbD n = true) ∧
    (s.padDrive n = .low → y.gpOut.getLsbD n = false)) ∧
  y.rstN = s.pad.rstN ∧ y.pfailN = !s.pwr.pfailLow ∧ y.irqEn = s.hostIrq ∧ (s.hostIrq = true → y.irqN = false) ∧
  y.sck = x.seen.sck ∧ y.csN = x.seen.csN ∧ y.sdi = x.seen.sdi ∧
  (∀ w, s.reg.sdo = some w → x.sdoBit < 32 → y.sdoEn = true ∧ (sdoBits w)[x.sdoBit]? = some y.sdo) ∧
  (s.reg.sdo = none → y.sdoEn = false)

/-- The test access port (R347, R348, R428, R445, R446): each row puts its instruction in force, and SAMPLE_PRELOAD scans the boundary
register, under its own instruction or under EXTEST (log 33). EXTEST, HIGHZ and CLAMP act only while
RST_N is low, whenever it falls, else as BYPASS; a debug instruction without an unlock in force is BYPASS too. TRST_N low holds the TAP at
IDCODE. That an instruction shifted in says TRST_N is high (log 71), and that a row whose code is another row's changes nothing (log 5), are the
model's choices; so is what the debug instructions do to core, windows and words the spec does not lay out (log 33). -/
def Obligations.TestAccessPort : Prop :=
  debugFunctions ∧
  (∀ s : State,
    exec .extest s = .next (tapLoaded s 0) ∧
    (∀ x : BoundaryScan, x.test = false → ∃ y, scanCaptures s x y ∧ exec (.samplePreload x) s = .next { tapLoaded s 1 with
      tap := { ir := 1, boundary := x.cells, captured := y, data := s.tap.data } }) ∧
    (∀ x : BoundaryScan, x.test = true →
      (s.tapSelected = .boundary → ∃ y, scanCaptures s x y ∧ exec (.samplePreload x) s = .next { s with
        tap := { s.tap with boundary := x.cells, captured := y } }) ∧
      (s.tapSelected ≠ .boundary → exec (.samplePreload x) s = .next s)) ∧
    exec .idcode s = .next (tapLoaded s 2) ∧
    exec .highz s = .next (tapLoaded s 3) ∧
    exec .clamp s = .next (tapLoaded s 4) ∧
    (∀ c : BitVec 5, 4 < c.toNat → (c.toNat < 0x10 ∨ 0x1E < c.toNat) → exec (.bypass c) s = .next (tapLoaded s c)) ∧
    (∀ (c : BitVec 5) act, 0x10 ≤ c.toNat → c.toNat ≤ 0x1E → s.debugOpen = false →
      exec (.tapDebug c act) s = .next (tapLoaded s c)) ∧
    (s.debugOpen = false → exec .tapReset s = .next s) ∧
    (s.debugOpen = true → s.pwr.run = none → s.pwr.released = true → s.pwr.state ≠ .offHold → s.rst.decided = none →
      ∃ t d, exec .tapReset s = .next t ∧ t.rst.decided = some d ∧ d.cause = .debug ∧ t.tap = s.tap ∧ t.wdg = s.wdg ∧ decidedFrame s t) ∧
    exec .trstNAssert s = .next { s with tap := { s.tap with ir := 2 }, pad := { s.pad with trstN := false } } ∧
    (∀ c : BitVec 5, (c.toNat ≤ 4 ∨ (0x10 ≤ c.toNat ∧ c.toNat ≤ 0x1E)) → exec (.bypass c) s = .next s) ∧
    (∀ (c : BitVec 5) act, (c.toNat < 0x10 ∨ 0x1E < c.toNat) → exec (.tapDebug c act) s = .next s)) ∧
  ∀ s : State,
    (s.tap.ir = 2 → s.tapSelected = .idcode ∧ s.tapWord = some 0x1007156B#32 ∧ s.tapDrive = .functional) ∧
    (s.tap.ir = 1 → s.tapSelected = .boundary ∧ s.tapDrive = .functional) ∧
    (s.pad.rstN = true → s.tap.ir = 0 ∨ s.tap.ir = 3 ∨ s.tap.ir = 4 → s.tapSelected = .bypass ∧ s.tapDrive = .functional) ∧
    (s.pad.rstN = false → s.pwr.padsOff = false → Rail.vddio ∉ s.pwr.railsLow →
      (s.tap.ir = 0 → s.tapSelected = .boundary) ∧ (s.tap.ir = 3 ∨ s.tap.ir = 4 → s.tapSelected = .bypass) ∧
      (s.tap.ir = 0 ∨ s.tap.ir = 4 → ∀ n, n < 16 → s.gpLand n = if s.tap.boundary.gpEn.getLsbD n = false then .released
        else if s.tap.boundary.gpOut.getLsbD n = true then .high else .low) ∧
      (s.tap.ir = 3 → ∀ n, s.gpLand n = .released)) ∧
    (4 < s.tap.ir.toNat → (s.tap.ir.toNat < 0x10 ∨ 0x1E < s.tap.ir.toNat ∨ s.debugOpen = false) →
      s.tapSelected = .bypass ∧ s.tapDrive = .functional)
/-! ## Housekeeping converter (18) -/

/-- What a start takes with it: the work of the converter may begin a conversion or a calibration phase, no result changes. -/
def hkcStarted (s t : State) : Prop :=
  t = { s with hkc := t.hkc } ∧ t.hkc.results = s.hkc.results ∧ t.hkc.acc = s.hkc.acc ∧ t.hkc.values = s.hkc.values ∧
    t.hkc.coefs = s.hkc.coefs

/-- The scan sequence (R410, R411): a TIMER instant or a pulse in its limits plans a pass, or counts as missed where one runs or waits; a
planned pass takes the sequence in force. The unit measures a pulse from the source's becoming active to its becoming inactive; that the
row comes in the tick of the trailing edge is the model's choice (log 88). -/
def scanSequence : Prop :=
  ∀ s : State, s.powered 51 = true →
    (s.stored 0x2806 = 1 → s.hkc.gridUsed < s.gridIndex → ∃ t, exec .scanTimer s = .next t ∧ hkcStarted s t ∧
      t.hkc.gridUsed = s.gridIndex ∧
      ((s.hkc.pass.isSome ∨ s.hkc.passDue.isSome ∨ s.hkc.suspended = true) →
        t.hkc.missedScan = min 65535 (s.hkc.missedScan + 1) ∧ t.hkc.passDue = s.hkc.passDue) ∧
      (s.hkc.pass = none → s.hkc.passDue = none → s.hkc.suspended = false → s.stored 0x2805 ≠ 0 →
        t.hkc.passDue = some (s.clk.ticks + 125 * s.stored 0x2808) ∧ t.hkc.missedScan = s.hkc.missedScan)) ∧
    (s.powered 52 = true → ∀ on, on = (s.sourceLevel (bitsOf (s.stored 0x280D) 0 5) != (s.stored 0x280D).testBit 7) →
      (s.hkc.pwActive = false → on = true → s.watchPulse = { s with hkc := { s.hkc with
        pwActive := true, pwSince := some s.clk.ticks } }) ∧
      (∀ b, s.hkc.pwActive = true → on = false → s.hkc.pwSince = some b → s.watchPulse = { s with hkc := { s.hkc with
        pwActive := false, pwSince := none, pwEnded := some (s.clk.ticks, s.clk.ticks - b) } })) ∧
    (∀ w, s.powered 52 = true → s.hkc.pwEnded = some (s.clk.ticks, w) → 125 * bitsOf (s.stored 0x280E) 0 16 ≤ w →
      w ≤ 125 * bitsOf (s.stored 0x280E) 16 16 → ∃ t, exec (.pulseWidthEvent w) s = .next t ∧ hkcStarted s t ∧ t.hkc.pwEnded = none ∧
      (s.stored 0x2806 = 2 → s.hkc.pass.isSome → t.hkc.missedScan = min 65535 (s.hkc.missedScan + 1)) ∧
      ((s.stored 0x280B).testBit 3 = true → s.hkc.prio = none → s.hkc.prioDue = none → s.stored 0x280A ≠ 0 →
        t.hkc.prioDue = some (s.clk.ticks + 125 * s.stored 0x280C))) ∧
    (∀ d, s.hkc.passDue = some d → d ≤ s.clk.ticks → s.stored 0x2805 ≠ 0 → ∃ t, exec .scanPassStart s = .next t ∧ hkcStarted s t ∧
      t.hkc.passDue = none ∧ t.hkc.pass = some ⟨nibbles (s.stored 0x2804) (s.stored 0x2805), s.stored 0x2802, 0⟩)

/-- The priority sequence (R412, R415): at its start it takes the converter from what runs; a calibration conversion it interrupts begins
again, and a fourth time fails with its event. -/
def prioritySequence : Prop :=
  ∀ (s : State) (d : Nat), s.powered 51 = true → s.hkc.prioDue = some d → d ≤ s.clk.ticks →
    (s.hkc.conv.map HkcConv.work ≠ some .calibration → ∃ t, exec .prioritySequenceStart s = .next t ∧ hkcStarted s t ∧
      t.hkc.prio = some ⟨s.hkc.prioNext, s.stored 0x2803, 0⟩ ∧ t.hkc.prioDue = none ∧
      t.hkc.conv = some ⟨.priority, s.hkc.prioNext.getD 0 0, s.stored 0x2803, s.stored 0x2801, 0, false, s.hkc.settled, s.clk.ticks⟩ ∧
      t.hkc.cal = s.hkc.cal) ∧
    (∀ c, s.hkc.conv.map HkcConv.work = some .calibration → s.hkc.cal = some c → c.restarts < 3 →
      ∃ t, exec .prioritySequenceStart s = .next t ∧ hkcStarted s t ∧ t.hkc.cal = some { c with restarts := c.restarts + 1, again := true } ∧
        t.hkc.calState = 1 ∧ t.hkc.calRestarts = c.restarts + 1) ∧
    (∀ c, s.hkc.conv.map HkcConv.work = some .calibration → s.hkc.cal = some c → 3 ≤ c.restarts →
      ∃ t, exec .prioritySequenceStart s = .next t ∧ t.hkc.cal = none ∧ t.hkc.calState = 4 ∧ t.ev.seq = s.ev.seq + 1 ∧
        t = { s with hkc := t.hkc, reg := t.reg, ev := t.ev, lnk := t.lnk })

/-- The raw result of a channel's input in nV (R406 to R408): 2^24 V ÷ (divider × Vref), rounded half up. That the row carries the input is
the model's choice (log 71). -/
def hkcRawResult : Prop :=
  ∀ (ch ref tick : Nat) (input d : Int), d = ((hkcDivider ch * vref ref tick : Nat) : Int) →
    0 < d ∧ (ref = 0 → vref ref tick = 1250000000) ∧
    2 * d * hkcRaw ch ref tick input ≤ 2 * 16777216 * input + d ∧ 2 * 16777216 * input + d < 2 * d * (hkcRaw ch ref tick input + 1) ∧
    hkcDivider 15 = hkcDivider 14 ∧ hkcDivider 13 = 2 ∧ hkcDivider 2 = 4

/-- Results (R407, R409, R416): a period before the last of its conversion, and one of a calibration, ends with the saturation seen in it;
the last gives the result word of its channel, and a settled result inside the code's range is accumulated. Every period counts for
monitor 59. -/
def hkcResults : Prop :=
  ∀ (s : State) (input raw : Int) (sat : Bool) (c : HkcConv), s.powered 51 = true → s.hkc.conv = some c →
    c.periodOver s.clk.ticks = true → raw = hkcRaw c.channel c.ref s.clk.ticks input →
    (c.work = .calibration ∨ c.periods + 1 < timingOrder c.timing → exec (.hkcPeriodEnd input sat) s = .next { s.progress [59] with
      hkc := { s.hkc with conv := some { c with periods := c.periods + 1, saturated := (c.saturated || sat) } } }) ∧
    (∀ code : Nat, c.work ≠ .calibration → timingOrder c.timing ≤ c.periods + 1 → c.saturated = false → sat = false →
      s.pwr.run = none →
      hkcCode (s.hkcCoef c.channel) raw = (code : Int) → code ≤ 16777215 → ∃ t, exec (.hkcPeriodEnd input sat) s = .next t ∧
        spFind c.channel t.hkc.results = some (resultWord (c.work = .priority) (!c.settled) false code) ∧
        t.hkc.ovrCount = s.hkc.ovrCount ∧ t.ev = s.ev ∧ t = { s.progress [59] with hkc := t.hkc } ∧
        (c.settled = false → t.hkc.acc = s.hkc.acc ∧ t.hkc.values = s.hkc.values) ∧
        (c.settled = true → (spGet {} c.channel s.hkc.acc).count < 65535 → spGet {} c.channel t.hkc.acc =
          ⟨(spGet {} c.channel s.hkc.acc).sum + code, (spGet {} c.channel s.hkc.acc).count + 1⟩)) ∧
    (∀ code : Int, c.work ≠ .calibration → timingOrder c.timing ≤ c.periods + 1 → s.pwr.run = none →
      hkcCode (s.hkcCoef c.channel) raw = code → (c.saturated = true ∨ sat = true ∨ code < 0 ∨ 16777215 < code) →
      ∃ t, exec (.hkcPeriodEnd input sat) s = .next t ∧ t.hkc.ovrCount = s.hkc.ovrCount + 1 ∧ t.ev.seq = s.ev.seq + 1 ∧
        spFind c.channel t.hkc.results = some (resultWord (c.work = .priority) (!c.settled) true (clampInt 0 16777215 code).toNat) ∧
        t.hkc.acc = s.hkc.acc ∧ t.hkc.values = s.hkc.values ∧
        t = { s.progress [59] with hkc := t.hkc, reg := t.reg, ev := t.ev, lnk := t.lnk })

/-- The reference settles (R408), and a calibration conversion ends (R413, R414): a ZERO holds its raw result; a FULL whose offset and gain
are acceptable becomes the channel's coefficients, and raises `EV_CAL_DONE` in either case. -/
def hkcCalibration : Prop :=
  ∀ s : State, s.powered 51 = true →
    (s.hkc.settled = false → s.hkc.refTick + refTicks (s.stored 0x2801) ≤ s.clk.ticks → ∃ t, exec .refSettled s = .next t ∧
      hkcStarted s t ∧ t.hkc.settled = true) ∧
    (∀ input raw v c, s.hkc.conv = some v → v.work = .calibration → s.hkc.cal = some c → v.over s.clk.ticks = true →
      raw = hkcRaw v.channel v.ref s.clk.ticks input →
      (c.phase = 1 → ∃ t, exec (.calConversionDone input) s = .next t ∧ hkcStarted (s.progress [59]) t ∧
        spFind c.channel t.hkc.zeros = some raw ∧ t.hkc.cal = none ∧ t.hkc.calState = 3) ∧
      (c.phase ≠ 1 → ∃ t, exec (.calConversionDone input) s = .next t ∧ t.hkc.cal = none ∧ t.ev.seq = s.ev.seq + 1 ∧
        t = { s.progress [59] with hkc := t.hkc, reg := t.reg, ev := t.ev, lnk := t.lnk } ∧
        (∀ k, calCoef (spGet 0 c.channel s.hkc.zeros) raw c.target = some k →
          t.hkc.coefs = recordPut c.channel k s.hkc.coefs ∧ t.hkc.calState = 3) ∧
        (calCoef (spGet 0 c.channel s.hkc.zeros) raw c.target = none → t.hkc.coefs = s.hkc.coefs ∧ t.hkc.calState = 5)))

/-- The housekeeping converter (R406 to R416). -/
def Obligations.Housekeeping : Prop := scanSequence ∧ prioritySequence ∧ hkcRawResult ∧ hkcResults ∧ hkcCalibration
/-! ## Tables and the datapath's arithmetic (13, 04) -/

/-- Entry t of `TBL_TILEMAP` (R319) lies in byte t ÷ 2, in the low half for even t and the high half for odd t, tile 61 and tile 62 among
them; and the bytes are read back as they were written. -/
def Obligations.TileMapBytes : Prop :=
  (∀ (m : List (Nat × Nat)) (t : Nat), (∀ i, i < 432 → spGet 0 i m < 16) → t < 432 →
    (t % 2 = 0 → leAt (t / 2) 1 (tilemapBytes m) % 16 = spGet 0 t m) ∧
    (t % 2 = 1 → leAt (t / 2) 1 (tilemapBytes m) / 16 = spGet 0 t m)) ∧
  (∀ b : Bytes, b.length = 216 → tilemapBytes (decodeTilemap b) = b ∧ ∀ t, spGet 0 t (decodeTilemap b) < 16) ∧
  (∀ m : List (Nat × Nat), (∀ i, i < 432 → spGet 0 i m < 16) →
    leAt 30 1 (tilemapBytes m) / 16 = spGet 0 61 m ∧ leAt 31 1 (tilemapBytes m) % 16 = spGet 0 62 m)

/-- Column calibration (R88): v16 is (16 × d − offset) × gain ÷ 32,768 rounded half up, with the offset and gain of the conversion's gain; a
saturated conversion stays saturated at 16 × 16,383; a black column applies no calibration. -/
def Obligations.ColumnCalibration : Prop :=
  ∀ (e : ColCal) (lcg : Bool) (r : RawSample) (d : Nat) (x : Int),
    (rawCode r = (d, false) →
      x = (16 * (d : Int) - (if lcg then e.lcgOffset else e.hcgOffset)) * ((if lcg then e.lcgGain else e.hcgGain : Nat) : Int) →
      (e.apply lcg r).sat = false ∧ 65536 * (e.apply lcg r).v ≤ 2 * x + 32768 ∧ 2 * x + 32768 < 65536 * ((e.apply lcg r).v + 1)) ∧
    (rawCode r = (d, true) → e.apply lcg r = ⟨16 * 16383, true⟩) ∧
    (rawCode r = (d, false) → blackSample r = ⟨16 * (d : Int), false⟩)
/-! ## Messages (12) -/

/-- CTL takes the message `m` next, its header is well formed, and it has the code and the length (R288 to R291, R295 checks 1 and 2). -/
def arrives (s : State) (m : Msg) (code len : Nat) : Prop :=
  s.nextMsg = some m ∧ s.serves = true ∧ m.formed = true ∧ m.code = code ∧ m.bytes.length = len

/-- Checks 4 to 7 of R295 pass: the session, which no later `MSG_SESSION_OPEN` has ended (R303), and the next sequence, a role not below
the row's, a good trailer, and no EPOCH operation. -/
def authorised (s : State) (m : Msg) (role : Nat) : Prop :=
  s.ctl.superseded = 0 ∧ s.inSession m = true ∧ m.sequence = (s.ctl.seqLast + 1).toNat ∧ role ≤ m.role ∧ m.role ≤ 3 ∧ s.trailerError m = 0 ∧
    s.led.epochState = .idle ∧ s.pwr.recovery = false

/-- What CTL holds once an unsigned message is answered with acceptance: the message taken, its response in order, one more executed. -/
def openCtl (s : State) (m : Msg) (body : Bytes) : Ctl :=
  { s.ctl with
    inbox := s.ctl.inbox.tail
    superseded := s.ctl.superseded - 1
    replies := s.ctl.replies ++ [⟨m.inBand, m.response 0 0 body, false, 0⟩]
    msgExecuted := s.ctl.msgExecuted + 1 }

/-- The same for a signed message: its sequence is consumed and its response kept for a repeat (R294). -/
def signedCtl (s : State) (m : Msg) (body : Bytes) (waits : Bool) (follow : Nat) : Ctl :=
  { s.ctl with
    inbox := s.ctl.inbox.tail
    replies := s.ctl.replies ++ [⟨m.inBand, m.response 0 0 body, waits, follow⟩]
    msgExecuted := s.ctl.msgExecuted + 1
    seqLast := s.ctl.seqLast + 1
    lastDigest := some (sha512 m.bytes)
    lastResponse := m.response 0 0 body
    lastRole := m.role
    lastSlot := m.slot }

/-- The entry `c` is committed where entries can be (R171, R172): it takes the next sequence and chains the head; elsewhere none is. -/
def recorded (s t : State) (c : Commit) : Prop :=
  (s.commits = true → s.nvs.queue = [] → t.led.nextSeq = s.led.nextSeq + 1 ∧
    t.led.lastHead = sha512 (s.led.lastHead ++ s.entryFields c ++ sha512 (s.fillSubject c))) ∧
  (s.commits = false → t.led = s.led ∧ t.nvs.mem = s.nvs.mem)

/-- The CONFIG entry of the message. -/
def configFor (s : State) (m : Msg) (view gen : Nat) : Commit := s.configEntry m.auth view gen 0

/-- Beside the ledger an entry restarts the counts of its monitors (R374) and ends a decided reset's wait for a commit (R377); a message
taken restarts that of monitor 60 (log 64). -/
def entryBeside (s t : State) : Prop :=
  t.wdg = { s.wdg with counts := t.wdg.counts } ∧ t.rst = { s.rst with decided := t.rst.decided } ∧
    (s.commits = false → t.wdg = (s.progress [60]).wdg ∧ t.rst = s.rst) ∧ (s.rst.decided = none → t.rst.decided = none)

/-- What a message whose only further effect is its entry leaves as it was: all but the answer, the ledger and what an entry sends. -/
def entryOnly (s t : State) (m : Msg) : Prop :=
  entryBeside s t ∧ t.reg = (s.takeMsg m).reg ∧ t = { s with
    rst := t.rst
    wdg := t.wdg
    reg := t.reg
    ctl := t.ctl
    nvs := t.nvs
    led := t.led
    sea := t.sea
    view := t.view
    lnk := t.lnk }

/-- Sessions (R294, R298) and NOP: an unsigned NOP echoes its body, SESSION_OPEN answers with the next number, the device ID and a nonce of
its entropy and the host's bytes, SESSION_CLOSE ends the session, POWER_STANDBY (R192) is answered before its work; a code outside the
catalogue is answered `ERR_UNKNOWN`. The end of a session drops the table staging (R322). -/
def sessionMessages : Prop :=
  ∀ (s : State) (m : Msg),
    (∀ n, n ≤ 1024 → arrives s m 0x03 (16 + n) → s.led.epochState = .idle → exec .msgNop s = .next { s.takeMsg m with
      ctl := openCtl s m m.openBody }) ∧
    (∀ entropy, entropy.length = 32 → arrives s m 0x01 48 → s.led.epochState = .idle → ∃ t, exec (.msgSessionOpen entropy) s = .next t ∧
      t.ctl.session = (if s.ctl.retained.sessionCounter + 1 = 0 then 1 else s.ctl.retained.sessionCounter + 1) ∧
      t.ctl.nonce = (sha512 (entropy ++ m.part 0 32)).take 32 ∧ t.ctl.sessionOpen = true ∧
      t.ctl.retained = { s.ctl.retained with sessionCounter := t.ctl.session } ∧
      t.ctl.seqLast = 0 ∧ t.ctl.lastDigest = none ∧ t.tab = { s.tab with staging := none } ∧
      t.ctl.replies = s.ctl.replies ++ [⟨m.inBand, m.response 0 0
        (leBytes 4 t.ctl.session.toNat ++ zeros 4 ++ s.fus.deviceId ++ t.ctl.nonce), false, 0⟩] ∧
      t = { s with wdg := (s.takeMsg m).wdg, reg := (s.takeMsg m).reg, ctl := t.ctl, tab := t.tab }) ∧
    (arrives s m 0x02 84 → authorised s m 1 → exec .msgSessionClose s = .next { s.takeMsg m with
      ctl := { signedCtl s m [] false 0 with sessionOpen := false, session := 0, nonce := [], lastDigest := none }
      tab := { s.tab with staging := none } }) ∧
    (arrives s m 0x50 84 → authorised s m 1 → s.viewsIdle = true → ∃ t, exec .msgPowerStandby s = .next t ∧
      t.ctl = signedCtl s m [] false 1 ∧ recorded s t (configFor s m 0xFF 0) ∧ entryOnly s t m) ∧
    (s.nextMsg = some m → s.serves = true → m.formed = true → ¬ m.code ∈ catalogue → ∃ t, exec .msgUnknown s = .next t ∧
      t.ctl.replies = s.ctl.replies ++ [⟨m.inBand, m.response 13 0 [], false, 0⟩] ∧ t.ctl.inbox = s.ctl.inbox.tail ∧
      t.ctl.msgRefused = s.ctl.msgRefused + 1 ∧ t = { s with wdg := (s.takeMsg m).wdg, reg := (s.takeMsg m).reg, ctl := t.ctl })

/-- The order of the checks of a signed message (R294, R295, R303), shown on SESSION_CLOSE: one that waited when a later
`MSG_SESSION_OPEN` arrived is refused with `ERR_SEQ`; a repeat of the last accepted message is answered with the bytes kept; else the
sequence, the role, then the trailer is refused, and no sequence is consumed. -/
def signedChecks : Prop :=
  ∀ (s : State) (m : Msg), arrives s m 0x02 84 → s.pwr.recovery = false →
    (∃ t, exec .msgSessionClose s = .next t ∧ t.ctl.inbox = s.ctl.inbox.tail ∧ t.ctl.msgExecuted = s.ctl.msgExecuted + 1) ∧
    (∀ t, exec .msgSessionClose s = .next t →
      (s.ctl.superseded = 0 → s.repeats m = true → t.ctl.replies = s.ctl.replies ++ [⟨m.inBand, s.ctl.lastResponse, false, 0⟩] ∧ t.tab = s.tab ∧
        t.ctl.seqLast = s.ctl.seqLast ∧ t.ctl.sessionOpen = s.ctl.sessionOpen) ∧
      (∀ e, (s.repeats m = false ∨ s.ctl.superseded ≠ 0) →
        e = (if s.ctl.superseded ≠ 0 ∨ s.inSession m = false ∨ m.sequence ≠ (s.ctl.seqLast + 1).toNat then 4
          else if m.role < 1 ∨ 3 < m.role then 2 else s.trailerError m) → e ≠ 0 →
        t.ctl.replies = s.ctl.replies ++ [⟨m.inBand, m.response e 0 [], false, 0⟩] ∧ t.tab = s.tab ∧ t.ctl.seqLast = s.ctl.seqLast ∧
        t.ctl.sessionOpen = s.ctl.sessionOpen ∧ t.ctl.msgRefused = s.ctl.msgRefused + 1))

/-- Sessions, NOP, unknown messages, and the order of the signed checks. -/
def Obligations.SessionMessages : Prop :=
  sessionMessages ∧ signedChecks

/-- Unsigned reads (R179, R148, R177, R346, R365, R366, R321, R316): each answers its body and changes nothing but the order, the counters
and what it fills; R177 lists what a LEDGER_READ brings. -/
def readMessages : Prop :=
  ∀ (s : State) (m : Msg), s.pwr.recovery = false →
    (arrives s m 0x30 20 → s.derives = true → s.fus.retireIdentity = false → m.field 0 4 ≤ s.epochNow → exec .msgSealCert s = .next { s.takeMsg m with
      ctl := openCtl s m (s.sealCert (m.field 0 4)) }) ∧
    (arrives s m 0x05 48 → exec .msgAttest s = .next { s.takeMsg m with ctl := openCtl s m (s.report (m.part 0 32)) }) ∧
    (arrives s m 0x04 20 → m.field 0 1 = 1 → ∀ c, s.role.cert.now = some c → exec .deviceCertGet s = .next { s.takeMsg m with
      ctl := openCtl s m c }) ∧
    (∀ b id pub, arrives s m 0x04 20 → m.field 0 1 = 2 → b = s.fus.idBank → (b = 1 ∨ b = 2) → s.fus.lifecycle ≠ 3 →
      s.sea.vermilion = 0 → s.fus.retireIdentity = false → id = s.fus.wordBytes (if b = 1 then 88 else 104) 4 →
      pub = edPublic (identityKey (s.fus.wordBytes (if b = 1 then 80 else 96) 8)) → exec .deviceCertIdentity s = .next { s.takeMsg m with
        ctl := openCtl s m (id ++ pub ++
          edSign (identityKey (s.fus.wordBytes (if b = 1 then 80 else 96) 8)) (ascii "CDK-IDPK" ++ id ++ pub)) }) ∧
    (∀ n, arrives s m 0x80 22 → m.field 0 1 = 0 → m.field 4 2 = n → 1 ≤ n → n ≤ 256 → m.field 2 2 + n ≤ 256 →
      exec .msgFusRead s = .next { s.takeMsg m with
        ctl := openCtl s m ((List.range n).flatMap fun i => s.fus.wordItem (m.field 2 2 + i)) }) ∧
    (∀ n, arrives s m 0x40 24 → m.inBand = true → 1 ≤ m.field 4 2 → m.field 4 2 ≤ 256 → s.present (BitVec.ofNat 32 (m.field 0 4)) = true →
      n = min (min 31 (m.field 4 2)) (s.led.nextSeq - BitVec.ofNat 32 (m.field 0 4)).toNat →
      ∃ t, exec .msgLedgerRead s = .next t ∧ t.ctl.replies = s.ctl.replies ++ [⟨true, m.response 0 0
          (s.ledgerBody (BitVec.ofNat 32 (m.field 0 4)) (namedFrom (m.field 0 4) n) ++
            (namedFrom (m.field 0 4) n).flatMap s.entryAt), false, 0⟩] ∧
        t.led = s.led ∧ t.nvs = { s.nvs with counts := t.nvs.counts } ∧
        t.nvs.retained.crcErrors = s.nvs.retained.crcErrors + BitVec.ofNat 32
          ((namedFrom (m.field 0 4) n).filter fun q => !entryValid (s.entryAt q)).length ∧
        t = { s with wdg := (s.takeMsg m).wdg, reg := t.reg, ctl := t.ctl, nvs := t.nvs }) ∧
    (∀ o n, arrives s m 0x13 32 → m.inBand = true → m.field 0 1 = 1 → m.field 4 4 = o → o < 216 → m.field 8 4 = n → 1 ≤ n → n ≤ 32768 →
      (o = 0 ∨ m.field 12 4 = s.tab.tileSerial.toNat) → exec .msgTableRead s = .next { s.takeMsg m with
        ctl := openCtl s m (leBytes 4 (min n (216 - o)) ++ leBytes 4 216 ++ leBytes 4 s.tab.tileSerial.toNat ++ zeros 4 ++
          slice o (min 4032 n) (tilemapBytes s.tab.tilemap)) })

/-- The other reads: units of the fuse array (R346); ledger entries and tables through the bulk window (R307); and any table in-band (R306,
R320, R321). -/
def readElsewhere : Prop :=
  ∀ (s : State) (m : Msg), s.pwr.recovery = false →
    (∀ n, arrives s m 0x80 22 → m.field 0 1 = 1 → m.field 4 2 = n → 1 ≤ n → n ≤ 256 → m.field 2 2 + n ≤ 1365 →
      exec .msgFusRead s = .next { s.takeMsg m with
        ctl := openCtl s m ((List.range n).flatMap fun i => s.fus.unitItem (m.field 2 2 + i)) }) ∧
    (∀ n d, arrives s m 0x40 24 → m.inBand = false → 1 ≤ m.field 4 2 → m.field 4 2 ≤ 256 →
      s.present (BitVec.ofNat 32 (m.field 0 4)) = true →
      n = min (m.field 4 2) (s.led.nextSeq - BitVec.ofNat 32 (m.field 0 4)).toNat → d = (namedFrom (m.field 0 4) n).flatMap s.entryAt →
      ∃ t, exec .msgLedgerRead s = .next t ∧ t.ctl.replies = s.ctl.replies ++ [⟨false, m.response 0 0
          (s.ledgerBody (BitVec.ofNat 32 (m.field 0 4)) (namedFrom (m.field 0 4) n)), false, 0⟩] ∧
        t.ctl.bulk = nvWrite s.ctl.bulk 0 d ∧ t.reg.bulkFilled = true ∧ t.reg.bulkValid = d.length ∧ t.led = s.led ∧
        t = { s with wdg := (s.takeMsg m).wdg, reg := t.reg, ctl := t.ctl, nvs := t.nvs }) ∧
    (∀ k o n d serial, arrives s m 0x13 32 → m.field 0 1 = k → 1 ≤ k → k ≤ 4 → m.field 4 4 = o → o < s.tableSize k → m.field 8 4 = n →
      1 ≤ n → n ≤ 32768 → (s.takeMsg m).tableData k o = some (d, serial) → (o = 0 ∨ m.field 12 4 = serial) →
      ∃ t, exec .msgTableRead s = .next t ∧ t = { s with wdg := (s.takeMsg m).wdg, reg := t.reg, ctl := t.ctl, pdp := { s.pdp with pinned := t.pdp.pinned } } ∧
        (m.inBand = true → t.ctl = openCtl s m (leBytes 4 (slice o (min 4032 n) d).length ++ leBytes 4 d.length ++ leBytes 4 serial ++
          zeros 4 ++ slice o (min 4032 n) d)) ∧
        (m.inBand = false → t.ctl = { openCtl s m (leBytes 4 (slice o n d).length ++ leBytes 4 d.length ++ leBytes 4 serial ++ zeros 4) with
          bulk := nvWrite s.ctl.bulk 0 (slice o n d) } ∧ t.reg.bulkFilled = true ∧ t.reg.bulkValid = (slice o n d).length) ∧
        (k ≠ 4 → t.pdp = s.pdp))

/-- Reading parameters (R305, R316): the entries of the named IDs in their order, as CTL holds them once the message is taken; or the first
one that cannot be read, with its index in the detail word. -/
def parameterReads : Prop :=
  ∀ (s : State) (m : Msg) (n : Nat), 1 ≤ n → n ≤ 256 → s.pwr.recovery = false →
    (∀ ids, arrives s m 0x10 (20 + 2 * n) → m.field 0 2 = n → ids = m.ids 4 n →
      (readError 0 0 ids = none → exec .msgParamGet s = .next { s.takeMsg m with
        ctl := openCtl s m (ids.flatMap (s.takeMsg m).readEntry) }) ∧
      (∀ i e, readError 0 0 ids = some (i, e) → ∃ t, exec .msgParamGet s = .next t ∧
        t.ctl.replies = s.ctl.replies ++ [⟨m.inBand, m.response e i [], false, 0⟩] ∧
        t = { s with wdg := (s.takeMsg m).wdg, reg := (s.takeMsg m).reg, ctl := t.ctl })) ∧
    (∀ ids, arrives s m 0x11 (88 + 2 * n) → authorised s m 1 → m.field 4 2 = n → ids = m.ids 8 n → readError m.role 0 ids = none →
      exec .msgParamGetSigned s = .next { s.takeMsg m with
        ctl := signedCtl s m (ids.flatMap ((s.takeMsg m).takeSequence m).readEntry) false 0 })

/-- Messages that read answer their bodies and change nothing else. -/
def Obligations.ReadMessages : Prop :=
  readMessages ∧ readElsewhere ∧ parameterReads

/-- Writing parameters (R311 to R313): a list that fails a step is refused with the index and error of its first failure and stores nothing;
an accepted list is recorded and counted in the configuration serial; every parameter it names then holds its value, a persistent one in its
record too, an EXPOSURE the value its new limits leave of it (R59), and no other writable parameter changes. TIME.SET steps device time or
waits for an edge (R262), RATE while UP retrains and ENABLE 0 switches the link off (R227). That a write of `TIME.SET` is not taken in the tick of an accepted PPS edge is the model's order of a tick's
commands (log 3), and that it then changes nothing is log 5. -/
def parameterWrites : Prop :=
  ∀ (s : State) (m : Msg) (n : Nat), 1 ≤ n → n ≤ 64 → arrives s m 0x12 (88 + 12 * n) → authorised s m 1 → m.field 4 2 = n →
    ((∃ e ∈ m.entries, leAt 0 2 e = 0x0C02) → s.pin.ppsPulse = some s.clk.ticks → exec .msgParamSet s = .next s) ∧
    (((∀ e ∈ m.entries, leAt 0 2 e ≠ 0x0C02) ∨ s.pin.ppsPulse ≠ some s.clk.ticks) →
    (∀ i e, stepsAll m.role 0 [] m.entries = some (i, e) → ∃ t, exec .msgParamSet s = .next t ∧
      t.ctl.replies = s.ctl.replies ++ [⟨m.inBand, m.response e i [], false, 0⟩] ∧ t.ctl.seqLast = s.ctl.seqLast + 1 ∧
      t = { s with wdg := (s.takeMsg m).wdg, reg := (s.takeMsg m).reg, ctl := t.ctl }) ∧
    (∀ l, stepsAll m.role 0 [] m.entries = none → l = writesOf m.entries →
      ((s.takeMsg m).takeSequence m).lateFailure l = none → ∃ t, exec .msgParamSet s = .next t ∧
        t.ctl.retained = { s.ctl.retained with configSerial := s.ctl.retained.configSerial + 1 } ∧ t.ctl.inbox = s.ctl.inbox.tail ∧ t.ctl.seqLast = s.ctl.seqLast + 1 ∧
        (s.commits = true → s.nvs.queue = [] → t.ctl.replies = s.ctl.replies ++ [⟨m.inBand, m.response 0 0
          (leBytes 4 s.led.nextSeq.toNat), false, 0⟩]) ∧
        t.fus = s.fus ∧ t.role = s.role ∧ t.fw = s.fw ∧ t.tab = s.tab ∧
        (∀ id x, (id, x) ∈ l → id ≠ 0x2405 → (∀ p, p ∈ narrowed l → id ≠ profileId p 0) → t.stored id = x ∧
          ((paramRow id).map ParamRow.persistent = some true → recordAt id t.par.persist = some x)) ∧
        (∀ id, (∀ x, (id, x) ∉ l) → (∀ p, p ∈ narrowed l → id ≠ profileId p 0) → t.stored id = s.stored id) ∧
        (∀ p v, p < 16 → (∃ x, (profileId p 8, x) ∈ l ∨ (profileId p 9, x) ∈ l) →
          (((profileId p 0, v) ∈ l) ∨ (∀ x, (profileId p 0, x) ∉ l) ∧ v = s.stored (profileId p 0)) →
          t.stored (profileId p 0) = min (t.stored (profileId p 9)) (max (t.stored (profileId p 8)) v)) ∧
        ((∀ x, x ∈ l → x.1 ≠ 0x0C02 ∧ x.1 ≠ 0x2405) → recorded s t (configFor s m 0xFF 0)) ∧
        (∀ v, l = [(0x0C02, v)] → s.stored 0x0C03 ≠ 1 → t.clk.time = BitVec.ofNat 64 v ∧ t.clk.mode = .set ∧ t.clk.pendingSet = none) ∧
        (∀ v, l = [(0x0C02, v)] → s.stored 0x0C03 = 1 → t.clk.time = s.clk.time ∧
          t.clk.pendingSet.map PendingSet.value = some (BitVec.ofNat 64 v)) ∧
        (∀ v, l = [(0x1C02, v)] → s.lnk.state = .up → s.pwr.run = none → t.lnk.state = .hop ∧ t.lnk.downReason = 6 ∧ t.lnk.hopRate = v) ∧
        (l = [(0x1C00, 0)] → t.lnk.state = .off)))

/-- `MSG_TABLE_WRITE` (R318, R320, R322), for the tile map: a FIRST part is staged and nothing else changes; a part with LAST that completes
the table with its digest, and passes the table's own checks, brings it into force with the next serial. -/
def tableWrites : Prop :=
  ∀ (s : State) (m : Msg) (t0 : TableStaging), m.inBand = true → m.field 12 4 ≤ 3904 → m.field 4 1 = 1 →
    m.signedBody.length = 88 + m.field 12 4 → arrives s m 0x14 (168 + m.field 12 4) → authorised s m 2 →
    s.stagingFor m = some t0 → m.field 8 4 = t0.bytes.length → t0.bytes.length + m.field 12 4 ≤ t0.total → t0.table = 1 →
    (bitOf (m.field 5 1) 0 = true → m.field 16 4 = 216) →
    (bitOf (m.field 5 1) 1 = false → exec .msgTableWrite s = .next { s.takeMsg m with
      ctl := signedCtl s m (leBytes 4 (t0.bytes ++ m.part 88 (m.field 12 4)).length ++ leBytes 4 s.tab.tileSerial.toNat) false 0
      tab := { s.tab with staging := some { t0 with bytes := t0.bytes ++ m.part 88 (m.field 12 4) } } }) ∧
    (∀ b, bitOf (m.field 5 1) 1 = true → b = t0.bytes ++ m.part 88 (m.field 12 4) → b.length = t0.total → m.part 24 64 = sha512 b →
      ((s.takeMsg m).takeSequence m).tableChecks { t0 with bytes := b } = true → ∃ t, exec .msgTableWrite s = .next t ∧
        t.tab = { s.tab with
          staging := none
          tilemap := decodeTilemap b
          tileSerial := s.tab.tileSerial + 1
          tileWrites := s.tab.tileWrites + 1 } ∧
        t.ctl = { signedCtl s m (leBytes 4 b.length ++ leBytes 4 (s.tab.tileSerial + 1).toNat) false 0 with tally := t.ctl.tally } ∧
        t.ctl.retained = { s.ctl.retained with configSerial := s.ctl.retained.configSerial + 1 } ∧
        recorded s t (configFor s m 0xFF 0) ∧ entryBeside s t ∧ t = { s with
          rst := t.rst
          wdg := t.wdg
          reg := (s.takeMsg m).reg
          ctl := t.ctl
          nvs := t.nvs
          led := t.led
          sea := t.sea
          view := t.view
          lnk := t.lnk
          ets := t.ets
          tab := t.tab })

/-- Parts through the bulk window and parts of the calibration tables (R307, R318, R322): a part in its place, with its entries in their
ranges, is staged; for a calibration table its blocks are queued for the inactive image and the response waits for them. -/
def tableParts : Prop :=
  ∀ (s : State) (m : Msg) (t0 : TableStaging) (k n : Nat) (b : Bytes), m.field 12 4 = n → m.partFits = true → m.field 4 1 = k → 1 ≤ k → k ≤ 3 →
    tableWriteFits m (m.bytes.length - 80) = true → arrives s m 0x14 m.bytes.length → authorised s m (tableRole k) →
    (k ≠ 1 → s.viewsIdle = true) → s.stagingFor m = some t0 → m.field 8 4 = t0.bytes.length → t0.bytes.length + n ≤ t0.total → t0.table = k →
    (bitOf (m.field 5 1) 0 = true → totalOk k (m.field 16 4) = true) → bitOf (m.field 5 1) 1 = false →
    b = t0.bytes ++ (if m.inBand then m.part 88 n else nvBytes s.ctl.bulk 0 n) →
    (k ≠ 1 → entriesOk k (b.length / 8) 0 b = true) → s.rst.decided = none → s.pwr.run = none →
    ∃ t, exec .msgTableWrite s = .next t ∧ t.tab = { s.tab with staging := some { t0 with bytes := b } } ∧
      t.nvs.blocks = s.nvs.blocks ++ (if k = 1 then [] else s.calibrationBlocks { t0 with bytes := b } t0.bytes.length n false) ∧
      t.ctl = signedCtl s m (leBytes 4 b.length ++ leBytes 4 (s.tab.serial k).toNat)
        (decide (k ≠ 1) && !(s.calibrationBlocks { t0 with bytes := b } t0.bytes.length n false).isEmpty) 0 ∧
      t = { s with wdg := (s.takeMsg m).wdg, reg := (s.takeMsg m).reg, ctl := t.ctl, tab := t.tab, nvs := t.nvs }

/-- Parameter and table writes: stored whole or refused whole. -/
def Obligations.ConfigurationWrites : Prop :=
  parameterWrites ∧ tableWrites ∧ tableParts

/-- Views (R122 to R127): an activation that passes the seven checks installs the staged fields in an idle view under the next generation
number, and in a running one sets it STARTING again; a start of an activated idle view begins it with its counts at 0; a stop takes the
view out of every capture whose readout has not begun. Each is recorded with the view and the generation of the message, and another view
keeps its generation. -/
def viewMessages : Prop :=
  ∀ (s u : State) (m : Msg) (v : Nat) (x : View), m.bytes.length = 88 → m.field 4 1 = v → v < 32 → s.viewAt v = x →
    m.field 5 1 = x.genNo → u = (s.takeMsg m).takeSequence m →
    (∀ g, arrives s m 0x20 88 → authorised s m 2 → g = s.stagedView v → x.between = false → g.windowOk = true →
      (∀ c ∈ u.viewChecks v g, c.1 = false) → ∃ t, exec .msgViewActivate s = .next t ∧
        t.ctl = signedCtl s m (leBytes 4 (nextGen x.genNo)) false 0 ∧ recorded s t (configFor s m v x.genNo) ∧
        (t.viewAt v).genNo = nextGen x.genNo ∧ (t.viewAt v).gen = g ∧ (t.viewAt v).frames = 0 ∧ (t.viewAt v).gaps = 0 ∧
        (x.state = .idle → (t.viewAt v).state = .idle ∧ t.ets = { s.ets with intervalUsed := t.ets.intervalUsed }) ∧
        (x.state = .running → (t.viewAt v).state = .starting ∨ (t.viewAt v).state = .running) ∧ t.par = s.par ∧ t.fus = s.fus ∧
        (∀ w, w ≠ v → (t.viewAt w).genNo = (s.viewAt w).genNo ∧ (t.viewAt w).gen = (s.viewAt w).gen)) ∧
    (arrives s m 0x21 88 → authorised s m 1 → x.state = .idle → x.genNo ≠ 0 → (∀ c ∈ u.viewChecks v x.gen, c.1 = false) →
      ∃ t, exec .msgViewStart s = .next t ∧ t.ctl = signedCtl s m [] false 0 ∧ recorded s t (configFor s m v x.genNo) ∧
        ((t.viewAt v).state = .starting ∨ (t.viewAt v).state = .running) ∧ (t.viewAt v).gen = x.gen ∧
        (t.viewAt v).genNo = x.genNo ∧ (t.viewAt v).frames = 0 ∧ (t.viewAt v).gaps = 0 ∧ t.par = s.par ∧ t.fus = s.fus ∧
        (∀ w, w ≠ v → (t.viewAt w).genNo = (s.viewAt w).genNo ∧ (t.viewAt w).gen = (s.viewAt w).gen)) ∧
    (arrives s m 0x22 88 → authorised s m 1 → (x.state = .running ∨ x.state = .starting) → ∃ t, exec .msgViewStop s = .next t ∧
      t.ctl = signedCtl s m [] false 0 ∧ recorded s t (configFor s m v x.genNo) ∧ ((t.viewAt v).state = .stopping ∨ (t.viewAt v).state = .idle) ∧
      (∀ c ∈ t.ets.captures, c.released = 0 → ¬ v ∈ c.views) ∧ t.ets.captures.length = s.ets.captures.length ∧
      (t.viewAt v).gen = x.gen ∧ (t.viewAt v).genNo = x.genNo ∧ t.par = s.par ∧ t.fus = s.fus ∧
      (∀ w, w ≠ v → (t.viewAt w).genNo = (s.viewAt w).genNo ∧ (t.viewAt w).gen = (s.viewAt w).gen))

/-- Activation, start and stop of a view. -/
def Obligations.ViewMessages : Prop :=
  viewMessages

/-- The EPOCH operation starts (R179), and late signing is queued (R154): each only in the states its rule names, else refused. That an
EPOCH changes nothing but its state until the response has gone is the model's choice (log 9). -/
def ledgerMessages : Prop :=
  ∀ (s : State) (m : Msg),
    (arrives s m 0x41 84 → authorised s m 3 → s.mayEndEpoch = true → s.fus.epochSteps ≠ 1024 →
      exec .msgLedgerEpoch s = .next { s.takeMsg m with
        ctl := signedCtl s m [] false 3
        led := { s.led with epochState := .closing, epochDigest := sha512 m.bytes } }) ∧
    (arrives s m 0x41 84 → authorised s m 3 → s.mayEndEpoch = false → ∃ t, exec .msgLedgerEpoch s = .next t ∧
      t.ctl.replies = s.ctl.replies ++ [⟨m.inBand, m.response 7 0 [], false, 0⟩] ∧ t.led = s.led) ∧
    (∀ l n, arrives s m 0x31 92 → authorised s m 1 → s.signs = true → m.field 8 2 = n → 1 ≤ n → n ≤ 64 →
      l = namedFrom (m.field 4 4) n → (∀ q ∈ l, s.present q = true ∧ bitOf (leAt 3 1 (s.entryAt q)) 1 = false ∧
        entryValid (s.entryAt q) = true) → s.sea.resign.length + n ≤ 64 →
      ∃ t, exec .sealResign s = .next t ∧ t.ctl = signedCtl s m (leBytes 4 n) false 0 ∧
        t.sea.resign = s.sea.resign ++ l.map s.lateJob ∧ recorded s t (configFor s m 0xFF 0) ∧ t.fus = s.fus ∧ t.par = s.par) ∧
    (∀ l n e, arrives s m 0x31 92 → authorised s m 1 → s.unprovisioned = false → s.fus.lifecycle ≠ 3 → m.field 8 2 = n →
      l = namedFrom (m.field 4 4) n →
      (((n = 0 ∨ 64 < n ∨ ∃ q ∈ l, s.present q = false) ∧ e = 6) ∨
        (1 ≤ n ∧ n ≤ 64 ∧ (∀ q ∈ l, s.present q = true) ∧ s.signs = false ∧ e = 7) ∨
        (1 ≤ n ∧ n ≤ 64 ∧ s.signs = true ∧ 64 < s.sea.resign.length + n ∧ (∀ q ∈ l, s.present q = true ∧
          bitOf (leAt 3 1 (s.entryAt q)) 1 = false ∧ entryValid (s.entryAt q) = true) ∧ e = 1)) →
      ∃ t, exec .sealResign s = .next t ∧ t.ctl.replies = s.ctl.replies ++ [⟨m.inBand, m.response e 0 [], false, 0⟩] ∧
        t.sea = s.sea ∧ t.led = s.led)

/-- Roles and certificates (R330, R331, R327, R343, R364): an enrolment fills its empty slot with the key; a revocation clears its slot, and
asks for the next unit of the role's counter while there is one; STORE keeps a certificate that is the device's own and signed by the
maker; INSTALL_MAKER_KEY keeps the key of the locked digest. What stamp the other keys get at the 64th unit (log 43), and what a
revocation answers under a decided reset, with a free error (log 76), are the model's choices. -/
def keyMessages : Prop :=
  ∀ (s : State) (m : Msg),
    (∀ q, arrives s m 0x60 120 → authorised s m 2 → q = m.field 5 1 → (m.field 4 1 = 1 ∧ q < 16 ∨ m.field 4 1 = 2 ∧ q < 4) →
      m.field 4 1 < m.role → (s.fus.lifecycle = 1 ∨ s.fus.lifecycle = 2) → s.keyOf (m.field 4 1) q = none →
      (edDecode (m.part 8 32)).isSome = true → ¬ m.part 8 32 ∈ s.keysHeld → ∃ t, exec .msgRoleEnrol s = .next t ∧
        t.ctl = { signedCtl s m (leBytes 4 (s.revSteps (m.field 4 1))) false 0 with tally := t.ctl.tally } ∧
        (∃ k, t.keySlot (m.field 4 1) q = some k ∧ k.key = m.part 8 32 ∧ k.stamp = s.revSteps (m.field 4 1) ∧ k.byRole = m.role ∧
          k.bySlot = m.slot ∧ (s.commits = true → s.nvs.queue = [] → k.entry = s.led.nextSeq)) ∧
        (∀ i, i ≠ q → t.keySlot (m.field 4 1) i = s.keySlot (m.field 4 1) i) ∧
        (∀ i, t.keySlot (3 - m.field 4 1) i = s.keySlot (3 - m.field 4 1) i) ∧
        t.ctl.retained = { s.ctl.retained with enrolments := s.ctl.retained.enrolments + 1 } ∧
        t.role.maker = s.role.maker ∧ t.role.cert = s.role.cert ∧
        recorded s t (s.roleEntry m 1 (s.revSteps (m.field 4 1)) 0 (m.part 8 32)) ∧ t.fus = s.fus) ∧
    (∀ q n, arrives s m 0x61 88 → authorised s m 2 → q = m.field 5 1 → (m.field 4 1 = 1 ∧ q < 16 ∨ m.field 4 1 = 2 ∧ q < 4) →
      m.field 4 1 < m.role → (s.fus.lifecycle = 1 ∨ s.fus.lifecycle = 2) → (s.keyOf (m.field 4 1) q).isSome = true →
      n = s.revSteps (m.field 4 1) → (s.rst.decided = none ∨ 64 ≤ n) → ∃ t, exec .msgRoleRevoke s = .next t ∧
        t.ctl = { signedCtl s m (leBytes 4 (min 64 (n + 1))) (decide (n < 64)) 0 with tally := t.ctl.tally } ∧
        t.ctl.retained = { s.ctl.retained with revocations := s.ctl.retained.revocations + 1 } ∧
        t.fus.tasks = s.fus.tasks ++ (if n < 64 then
          [⟨.unit ((if m.field 4 1 = 1 then 1155 else 1219) + n), 7, .revoke (m.field 4 1)⟩] else []) ∧
        t.keySlot (m.field 4 1) q = none ∧
        (∀ i, i < 16 → i ≠ q → t.keySlot (m.field 4 1) i = (s.keySlot (m.field 4 1) i).map fun k => { k with stamp := n + 1 }) ∧
        (∀ i, t.keySlot (3 - m.field 4 1) i = s.keySlot (3 - m.field 4 1) i) ∧
        recorded s t (s.roleEntry m 2 (min 64 (n + 1)) 0 [])) ∧
    (∀ q n, arrives s m 0x61 88 → authorised s m 2 → q = m.field 5 1 → (m.field 4 1 = 1 ∧ q < 16 ∨ m.field 4 1 = 2 ∧ q < 4) →
      m.field 4 1 < m.role → (s.fus.lifecycle = 1 ∨ s.fus.lifecycle = 2) → (s.keyOf (m.field 4 1) q).isSome = true →
      n = s.revSteps (m.field 4 1) → n < 64 → s.rst.decided.isSome = true → ∃ t e, exec .msgRoleRevoke s = .next t ∧
        1 ≤ e ∧ e ≤ 13 ∧ t.ctl.replies = s.ctl.replies ++ [⟨m.inBand, m.response e 0 [], false, 0⟩] ∧
        t.fus.tasks = s.fus.tasks ∧ t.keySlot (m.field 4 1) q = none ∧
        (s.commits = true → s.nvs.queue = [] → t.led.nextSeq = s.led.nextSeq + 2)) ∧
    (∀ key c, arrives s m 0x04 212 → s.led.epochState = .idle → m.field 0 1 = 3 → c = m.part 4 192 → s.makerKey = some key → s.fus.lifecycle = 1 →
      s.identityInForce = true → s.fus.retireIdentity = false → s.certMine c = true → edVerify key (c.take 128) (c.drop 128) = true →
      exec .deviceCertStore s = .next { s.takeMsg m with ctl := openCtl s m [], role := { s.role with cert := s.role.cert.put c } }) ∧
    (arrives s m 0x81 124 → authorised s m 3 → m.field 4 1 = 5 → s.fus.tasks = [] → s.fus.lifecycle ≠ 3 → s.fus.locked 2 = true →
      sha512 (m.part 12 32) = s.fus.wordBytes 32 16 → ∃ t, exec .installMakerKey s = .next t ∧ t.ctl = signedCtl s m [] false 0 ∧
        t.role = { s.role with maker := s.role.maker.put (m.part 12 32) } ∧ recorded s t (configFor s m 0xFF 0) ∧ t.fus = s.fus)

/-- EPOCH and late signing; keys and certificates. -/
def Obligations.LedgerAndKeyMessages : Prop :=
  ledgerMessages ∧ keyMessages

/-- Firmware (R358, R360): a part in its place is staged and its blocks asked for, and the status is LOADING; LAST with an image that fails
step k of R353 discards the staging and answers the error of the step; LAST with an image that passes is recorded, and the answer waits for
its last block; an activation commits its two entries and the reset follows the response. That its record and the status are written when the response is
placed is the model's choice (log 44). -/
def firmwareMessages : Prop :=
  ∀ (s : State) (m : Msg), m.inBand = false →
    (∀ o n part, arrives s m 0x70 104 → authorised s m 2 → m.field 8 4 = o → m.field 12 4 = n → part = nvBytes s.ctl.bulk 0 n →
      1 ≤ n → n ≤ 32768 → n % 4096 = 0 → m.fwLast = false → m.fwFirst = false → s.fw.update = .loading → o = s.fw.staged.length →
      o + n ≤ s.fw.total → s.rst.decided = none → s.nvs.blocks = [] → exec .msgFwLoad s = .next { s.takeMsg m with
        ctl := signedCtl s m (leBytes 4 (o + n) ++ zeros 8) true 0
        fw := { s.fw with staged := s.fw.staged ++ part, status := s.fw.status.put ⟨.loading, none⟩ }
        nvs := { s.nvs with
          blocks := imageBlocks (1 - s.fw.record.active) o part false
          journals := s.nvs.journals.put ⟨false, fwAddr (1 - s.fw.record.active) + o, 0, .shadow⟩ } }) ∧
    (∀ o n b part, arrives s m 0x70 104 → authorised s m 2 → m.field 8 4 = o → m.field 12 4 = n → part = nvBytes s.ctl.bulk 0 n →
      1 ≤ n → n ≤ 32768 → m.fwLast = true → m.fwFirst = false → s.fw.update = .loading → o = s.fw.staged.length →
      o + n = s.fw.total → s.rst.decided = none → b = s.fw.staged ++ part → s.imageCheck b = 0 → ∃ t, exec .msgFwLoad s = .next t ∧
        t.ctl = signedCtl s m (leBytes 4 b.length ++ leBytes 4 (leAt 12 4 b) ++ leBytes 4 (leAt 16 2 b)) true 0 ∧
        t.fw.staged = b ∧ t.fw.update = .loading ∧ t.fw.record = s.fw.record ∧
        t.nvs.blocks = s.nvs.blocks ++ imageBlocks (1 - s.fw.record.active) o part true ∧ recorded s t (configFor s m 0xFF 0)) ∧
    (∀ n b e, arrives s m 0x70 104 → authorised s m 2 → m.field 8 4 = s.fw.staged.length → m.field 12 4 = n → n ≤ 32768 →
      m.fwLast = true → m.fwFirst = false → s.fw.update = .loading → s.fw.staged.length + n = s.fw.total →
      b = s.fw.staged ++ nvBytes s.ctl.bulk 0 n → e = s.imageCheck b → e ≠ 0 → ∃ t, exec .msgFwLoad s = .next t ∧
        t.ctl.replies = s.ctl.replies ++ [⟨false, m.response
          ([0, 6, 6, 7, 3, 3, 3, 7].getD e 0) e [], false, 0⟩] ∧
        t.fw = { s.fw with staged := [], total := 0, status := t.fw.status } ∧ t.fw.update = .none ∧ t.fw.loaded = none ∧
        t.led = s.led) ∧
    (∀ x slot, arrives s m 0x71 92 → authorised s m 2 → s.fw.loaded = some x → s.fw.update = .loaded → s.viewsIdle = true →
      slot = 1 - s.fw.record.active → m.field 4 1 = slot → m.field 8 4 = x.version.toNat → ∃ t, exec .msgFwActivate s = .next t ∧
        t.ctl = signedCtl s m [] false 2 ∧ t.fw = { s.fw with activating := some slot } ∧ t.rst.after = some .fwUpdate ∧ t.fus = s.fus ∧
        (s.commits = true → s.nvs.queue = [] → t.led.nextSeq = s.led.nextSeq + 2))

/-- The FIRST part of an image (R358) starts a staging of its total, whatever was staged before; parts queue behind the blocks there are. -/
def firmwareParts : Prop :=
  ∀ (s : State) (m : Msg) (n : Nat) (part : Bytes), m.inBand = false → arrives s m 0x70 104 → authorised s m 2 → m.field 8 4 = 0 →
    m.field 12 4 = n → part = nvBytes s.ctl.bulk 0 n → 1 ≤ n → n ≤ 32768 → n % 4096 = 0 → m.fwLast = false → m.fwFirst = true →
    324 ≤ m.field 16 4 → m.field 16 4 ≤ 4194304 → n ≤ m.field 16 4 → s.rst.decided = none → s.pwr.run = none →
    ∃ t, exec .msgFwLoad s = .next t ∧ t.ctl = signedCtl s m (leBytes 4 n ++ zeros 8) true 0 ∧
      t.fw = { s.fw with staged := part, total := m.field 16 4, status := s.fw.status.put ⟨.loading, none⟩ } ∧
      t.nvs.blocks = s.nvs.blocks ++ imageBlocks (1 - s.fw.record.active) 0 part false ∧
      t = { s with wdg := (s.takeMsg m).wdg, reg := (s.takeMsg m).reg, ctl := t.ctl, fw := t.fw, nvs := t.nvs }

/-- Loading and activating firmware. -/
def Obligations.FirmwareMessages : Prop :=
  firmwareMessages ∧ firmwareParts

/-- What a fuse message leaves: the items asked for, in order, and nothing else but the answer and the entry. -/
def fuseStarted (s t : State) (m : Msg) (l : List OtpTask) : Prop :=
  t.fus = { s.fus with tasks := l, cut := false } ∧ recorded s t (configFor s m 0xFF 0) ∧ entryBeside s t ∧ t = { s with
    wdg := t.wdg
    reg := (s.takeMsg m).reg
    ctl := t.ctl
    fus := t.fus
    nvs := t.nvs
    led := t.led
    sea := t.sea
    view := t.view
    lnk := t.lnk }

/-- Fuses (R333, R343 to R345): a word of a group open to writing, its completion word, its lock unit, the items of a generated identity in
their order, and the pulses of a reinforcement. -/
def fuseMessages : Prop :=
  ∀ (s : State) (m : Msg), authorised s m 3 → s.fus.tasks = [] → s.rst.decided = none → s.closing = false →
    (∀ w g, arrives s m 0x81 124 → m.field 4 1 = 1 → m.field 6 2 = w → w < 256 → groupOf w = some g →
      groupWritable s.fus.lifecycle g = true → g ≠ 3 → g ≠ 4 → (s.fus.group g = .blank ∨ s.fus.group g = .open_) →
      s.fus.word w = (.blank, 0) → w ≠ (groupWords g).2.2 → ∃ t, exec .programWord s = .next t ∧ t.ctl = signedCtl s m [] true 0 ∧
        fuseStarted s t m [⟨.word w, wordCells (m.field 8 4), .single⟩]) ∧
    (∀ g, arrives s m 0x81 124 → m.field 4 1 = 2 → m.field 5 1 = g → g < 8 → groupWritable s.fus.lifecycle g = true → g ≠ 3 → g ≠ 4 →
      (s.fus.group g = .blank ∨ s.fus.group g = .open_) → s.fus.dataTorn g = false → ∃ t, exec .completeGroup s = .next t ∧
        t.ctl = signedCtl s m [] true 0 ∧
        fuseStarted s t m [⟨.word (groupWords g).2.2, wordCells (s.fus.completion g), .single⟩]) ∧
    (∀ g, arrives s m 0x81 124 → m.field 4 1 = 3 → m.field 5 1 = g → g < 8 → groupWritable s.fus.lifecycle g = true → g ≠ 3 → g ≠ 4 →
      s.fus.group g = .complete → ∃ t, exec .lockGroup s = .next t ∧ t.ctl = signedCtl s m [] true 0 ∧
        fuseStarted s t m [⟨.unit (lockUnit g), 7, .single⟩]) ∧
    (∀ entropy b, entropy.length = 64 → arrives s m 0x81 124 → m.field 4 1 = 4 → s.freeBank = some b →
      ∃ t, exec (.generateIdentity entropy) s = .next t ∧ t.ctl = signedCtl s m [] false 0 ∧
        fuseStarted s t m (identityTasks b ((sha512 entropy).take 32))) ∧
    (∀ first n, arrives s m 0x82 90 → m.field 4 1 = 0 → m.field 6 2 = first → m.field 8 2 = n → 1 ≤ n → n ≤ 256 → first + n ≤ 256 →
      ∃ t, exec .msgFusReinforce s = .next t ∧ t.ctl = signedCtl s m [] false 0 ∧
        fuseStarted s t m ((List.range n).flatMap fun i => s.fus.pulses 0 (first + i))) ∧
    (∀ first n, arrives s m 0x82 90 → m.field 4 1 = 1 → m.field 6 2 = first → m.field 8 2 = n → 1 ≤ n → n ≤ 256 → first + n ≤ 1365 →
      ∃ t, exec .msgFusReinforce s = .next t ∧ t.ctl = signedCtl s m [] false 0 ∧
        fuseStarted s t m ((List.range n).flatMap fun i => s.fus.pulses 1 (first + i)))

/-- Life cycle and debug (R334, R347, R156): an advance to the next state asks for its step, out of COBALT also for the retirement of both
identities, and its reset follows the response; an unlock comes into force at once and powers the debug domain, a relock ends it. -/
def lifecycleMessages : Prop :=
  ∀ (s : State) (m : Msg), authorised s m 3 →
    (∀ n, arrives s m 0x83 88 → m.field 4 1 = n + 1 → s.fus.lifecycle = n → n < 3 → s.viewsIdle = true → s.fus.tasks = [] →
      s.mayAdvance = true → s.rst.decided = none → s.closing = false → ∃ t, exec .msgLifecycleAdvance s = .next t ∧
        t.ctl = signedCtl s m [] true 2 ∧ t.fus = { s.fus with
          cut := false
          tasks := ⟨.unit n, 7, .lifecycle⟩ :: (if n = 2 then [⟨.unit 1291, 7, .lifecycle⟩, ⟨.unit 1292, 7, .lifecycle⟩] else []) } ∧
        t.rst = { s.rst with after := some .supCmd } ∧ recorded s t (configFor s m 0xFF 0)) ∧
    (arrives s m 0x84 84 → s.fus.debug = false → (s.fus.lifecycle = 2 → s.fus.debugPolicy = true) →
      ∃ t, exec .msgDebugUnlock s = .next t ∧ t.ctl = signedCtl s m [] false 0 ∧ t.fus = { s.fus with debug := true } ∧
        t.powered 54 = true ∧ recorded s.countUnlock t (debugEntry 1 (sha512 m.bytes)) ∧
        (s.fus.lifecycle ≠ 0 → t.nvs.retained.debugCount = s.nvs.retained.debugCount + 1) ∧
        (s.fus.lifecycle = 0 → t.nvs.retained.debugCount = s.nvs.retained.debugCount)) ∧
    (arrives s m 0x85 84 → s.fus.debug = true → ∃ t, exec .msgDebugRelock s = .next t ∧ t.ctl = signedCtl s m [] false 0 ∧
        t.fus = { s.fus with debug := false } ∧ t.powered 54 = false ∧ recorded s t (debugEntry 2 (sha512 m.bytes)))

/-- Fuse, life-cycle and debug messages. -/
def Obligations.FuseMessages : Prop :=
  fuseMessages ∧ lifecycleMessages

/-- A message to the pins: the answer, the pins and the entry, and nothing else. -/
def pinChanged (s t : State) (m : Msg) (body : Bytes) : Prop :=
  t.ctl = signedCtl s m body false 0 ∧ recorded s t (configFor s m 0xFF 0) ∧ entryBeside s t ∧ t = { s with
    rst := t.rst
    wdg := t.wdg
    reg := (s.takeMsg m).reg
    ctl := t.ctl
    nvs := t.nvs
    led := t.led
    sea := t.sea
    view := t.view
    lnk := t.lnk
    pin := t.pin }

/-- The state an operation finds and answers: one accepted in this tick counts (R398, log 34). -/
def shadeNow (x : Shade) : ShadeState :=
  if x.change = none then x.state else if x.change = some .halt then .halted else .running

/-- The body R401 gives: generation and state of the sequencer after the operation, and the values read. -/
def shadeBody (x : Shade) (values : List Word) : Bytes :=
  leBytes 1 x.gen ++ leBytes 1 (shadeNow x).code ++ zeros 2 ++ leBytes 4 values.length ++ padTo 16 (values.flatMap fun v => leBytes 4 v.toNat)

/-- What the operation leaves of the sequencers: `y` in place of the one named, every other as it was. -/
def shadeReplaced (s t : State) (q : Nat) (y : Shade) : Prop := t.shadeAt q = y ∧ ∀ i, i < 4 → i ≠ q → t.shadeAt i = s.shadeAt i

/-- `MSG_PIN_CONTROL` (R398, R399, R401): START clears a sequencer and runs its window under the next generation from the next tick, RESTART
does so from HALTED; HALT and RESUME take effect at the next tick; STOP brings its pins to their safe levels; the FIFO
operations add values while there is room, and take them all, but not of a halted sequencer whose window was loaded again. That an
operation finds one accepted in its own tick done is the model's choice (log 34). -/
def pinControl : Prop :=
  ∀ (s : State) (m : Msg) (q : Nat) (x : Shade), arrives s m 0x91 120 → authorised s m 2 → m.field 4 1 = q → q < 4 → s.shadeAt q = x →
    m.field 5 1 = x.gen → (m.field 6 1 = 6 ∨ m.noValues = true) → (m.field 6 1 = 1 ∨ m.field 6 1 = 4 ∨ m.noWindow = true) →
    (∀ y : Shade, s.runnable m = true → y = {
        state := if x.state = .idle then .idle else .halted
        change := some .start
        gen := nextGen x.gen
        first := m.field 9 1
        length := m.field 10 1
        entry := m.field 8 1
        pc := m.field 8 1
        cycle := m.field 12 2
        next := s.clk.ticks + 1 } →
      (m.field 6 1 = 1 → shadeNow x = .idle → ∃ t, exec .shadeStart s = .next t ∧ shadeReplaced s t q y ∧
        pinChanged s t m (shadeBody y [])) ∧
      (m.field 6 1 = 4 → shadeNow x = .halted → ∃ t, exec .shadeRestart s = .next t ∧ shadeReplaced s t q y ∧
        pinChanged s t m (shadeBody y []))) ∧
    (m.field 6 1 = 2 → shadeNow x = .running → ∃ t, exec .shadeHalt s = .next t ∧
      shadeReplaced s t q { x with change := some .halt } ∧ t.pin.latch = s.pin.latch ∧
      pinChanged s t m (shadeBody { x with change := some .halt } [])) ∧
    (m.field 6 1 = 3 → x.state = .halted → x.change = none → x.changed = false → ∃ t, exec .shadeResume s = .next t ∧
      shadeReplaced s t q (x.resumed (s.clk.ticks + 1)) ∧ pinChanged s t m (shadeBody { x with change := some .resume } [])) ∧
    (m.field 6 1 = 5 → shadeNow x ≠ .idle → canonFrom (.pad .released) 0 s.pin.latch = true → ∃ t, exec .shadeStop s = .next t ∧
      (t.shadeAt q).state = .idle ∧ (t.shadeAt q).inFifo = [] ∧ (t.shadeAt q).outFifo = [] ∧ (t.shadeAt q).gen = x.gen ∧
      (∀ n, n < 16 → t.padLatch n = if n ∈ s.shadePins q then .pad (s.safeDrive n) else s.padLatch n) ∧
      pinChanged s t m (shadeBody { x with state := .idle, change := none } [])) ∧
    (∀ n, m.field 6 1 = 6 → m.fifoCount = n → 1 ≤ n → n ≤ 4 → shadeNow x ≠ .idle → x.changed = false → x.inFifo.length + n ≤ 4 → ∃ t,
      exec .fifoWrite s = .next t ∧ shadeReplaced s t q ({ x with inFifo := x.inFifo ++ m.fifoValues }.ready s.clk.ticks) ∧
      (x.waiting = some (.pull none) → (t.shadeAt q).waiting = some (.pull (some s.clk.ticks))) ∧
      pinChanged s t m (shadeBody x [])) ∧
    (∀ n, m.field 6 1 = 6 → m.fifoCount = n → 1 ≤ n → n ≤ 4 → shadeNow x ≠ .idle → x.changed = false → 4 < x.inFifo.length + n → ∃ t,
      exec .fifoWrite s = .next t ∧ t.ctl.replies = s.ctl.replies ++ [⟨m.inBand, m.response 1 0 [], false, 0⟩] ∧ t.pin = s.pin) ∧
    (m.field 6 1 = 7 → x.changed = false → ∃ t, exec .fifoRead s = .next t ∧
      shadeReplaced s t q ({ x with outFifo := [] }.ready s.clk.ticks) ∧
      (x.waiting = some (.push none) → (t.shadeAt q).waiting = some (.push (some s.clk.ticks))) ∧
      pinChanged s t m (shadeBody x x.outFifo)) ∧
    (x.changed = true →
      (∀ n, m.field 6 1 = 6 → m.fifoCount = n → 1 ≤ n → n ≤ 4 → ∃ t, exec .fifoWrite s = .next t ∧
        t.ctl.replies = s.ctl.replies ++ [⟨m.inBand, m.response 7 0 [], false, 0⟩] ∧ t.pin = s.pin) ∧
      (m.field 6 1 = 7 → ∃ t, exec .fifoRead s = .next t ∧
        t.ctl.replies = s.ctl.replies ++ [⟨m.inBand, m.response 7 0 [], false, 0⟩] ∧ t.pin = s.pin))

/-- HALT, START and RESUME take effect at the tick after their message (R398): a halted sequencer stands still with what is left of its wait
or cycle, and its pins go to their safe levels; a started one runs; a resumed one restarts the interrupted cycle at that tick, so that a wait
lasts one cycle more at least, WAIT_TICKS has the ticks it had left, WAIT_PIN its whole cycles, and a WAIT_PIN for a level sees one that came
in the halt (R395, R403). -/
def haltAtTick : Prop :=
  (∀ (s : State) (q : Nat) (x : Shade), q < 4 → s.shadeAt q = x → x.change = some .start → x.target = none →
    shadeReplaced s (s.tickShade q) q { x with state := .running, change := none }) ∧
  (∀ (x : Shade) (t : Nat), (x.resumed t).left = 0 ∧ (x.resumed t).pc = x.pc ∧ (x.resumed t).shifted = x.shifted ∧
    (x.target = none → (x.resumed t).next = if x.waiting = none then t else t + x.cycle) ∧
    (x.target ≠ none → (x.resumed t).next = t + x.left) ∧
    (∀ e, x.waiting = some (.ticks e) → (x.resumed t).waiting = some (.ticks (t + x.left))) ∧
    (∀ b m, x.waiting = some (.pin b m) → (x.resumed t).waiting = some (.pin (t - x.left) m))) ∧
  (∀ (x : Shade) (t b : Nat) (m : Option Nat) (e : Nat),
    (x.waiting = some (.ticks e) → x.keeps t = e - t) ∧ (x.waiting = some (.pin b m) → x.keeps t = (t - b) / x.cycle * x.cycle) ∧
    (x.waiting = none → x.target ≠ none → x.keeps t = x.cycle)) ∧
  (∀ (s : State) (q b : Nat) (x : Shade) (w : Nat), q < 4 → s.shadeAt q = x → s.shadeWord q = w → x.change = some .resume → x.target = none →
    x.shifted = 0 → x.drove = none → x.waiting = some (.pin b none) →
    shadeReplaced s (s.tickShade q) q { x with
      state := .running
      change := none
      waiting := some (.pin b (if w.testBit 14 = false ∧ s.pin.levels.getLsbD (bitsOf w 16 4) = w.testBit 15
        then some s.clk.ticks else none)) }) ∧
  (∀ (s : State) (q : Nat) (x : Shade), q < 4 → s.shadeAt q = x → x.change = some .halt → x.target = none →
    canonFrom (.pad .released) 0 s.pin.latch = true →
    shadeReplaced s (s.tickShade q) q { x with state := .halted, changed := false, change := none, left := x.keeps s.clk.ticks } ∧
    (∀ n, n < 16 → (s.tickShade q).padLatch n = if n ∈ s.shadePins q then .pad (s.safeDrive n) else s.padLatch n))

/-- `MSG_PIN_LOAD` (R400): the entries of a stopped tint engine's table, or the program words of the common store, where no running
sequencer's window holds one of them; every other entry and word stays. -/
def pinLoad : Prop :=
  ∀ (s : State) (m : Msg) (first n : Nat), authorised s m 2 → m.pinShape = true → m.pinItems = true → m.field 8 2 = first →
    m.field 10 2 = n →
    (∀ e, m.field 4 1 = 1 → m.field 5 1 = e → e < 8 → arrives s m 0x90 (96 + n) → (s.tintAt e).running = false →
      canonFrom 0 0 s.pin.tables = true → ∃ t, exec .msgPinLoad s = .next t ∧ pinChanged s t m (zeros 4) ∧
        (∀ k, spGet 0 k t.pin.tables = if 256 * e + first ≤ k ∧ k < 256 * e + first + n then m.field (16 + (k - 256 * e - first)) 1
          else spGet 0 k s.pin.tables) ∧ t.pin = { s.pin with tables := t.pin.tables }) ∧
    (∀ q, m.field 4 1 = 2 → m.field 5 1 = q → q < 4 → m.field 6 1 = (s.shadeAt q).gen → arrives s m 0x90 (96 + 4 * n) →
      (∀ i, i < 4 → shadeNow (s.shadeAt i) ≠ .running ∨ m.meets (s.shadeAt i) = false) → canonFrom 0 0 s.pin.store = true →
      ∃ t, exec .msgPinLoad s = .next t ∧ pinChanged s t m (leBytes 4 (s.shadeAt q).gen) ∧
        (∀ k, spGet 0 k t.pin.store = if first ≤ k ∧ k < first + n then m.field (16 + 4 * (k - first)) 4 else spGet 0 k s.pin.store) ∧
        (∀ i, i < 4 → t.shadeAt i = if shadeNow (s.shadeAt i) = .halted ∧ m.meets (s.shadeAt i) = true then
          { s.shadeAt i with changed := true } else s.shadeAt i))

/-- Control and loading of the pin engines. -/
def Obligations.PinMessages : Prop :=
  pinControl ∧ haltAtTick ∧ pinLoad

/-- `MSG_HKC_CALIBRATE` (R413, R414): ZERO and FULL queue their phase and suspend the scan sequence; CLEAR gives the channel its default
coefficients at once; a phase while another is at work is refused. -/
def calibrateMessages : Prop :=
  ∀ (s : State) (m : Msg) (c p : Nat), arrives s m 0xA0 92 → authorised s m 2 → m.field 4 1 = c → (c = 4 ∨ c = 11 ∨ c = 12) →
    m.field 5 1 = p →
    (s.hkc.cal = none →
      (p = 1 → ∃ t, exec .hkcCalZero s = .next t ∧ t.hkc.suspended = true ∧ (t.hkc.calState = 1 ∨ t.hkc.calState = 2) ∧ t.hkc.calChannel = c ∧
        t.hkc.cal.map HkcCal.phase = some 1 ∧ t.hkc.cal.map HkcCal.channel = some c ∧ t.hkc.coefs = s.hkc.coefs ∧
        t.ctl = signedCtl s m (leBytes 4 (boolNat (s.hkc.prio.isSome || s.hkc.prioDue.isSome))) false 0 ∧
        recorded s t (configFor s m 0xFF 0)) ∧
      (∀ z, p = 2 → spFind c s.hkc.zeros = some z → s.stored 0x2801 = 0 → 4194304 ≤ m.calTarget → m.calTarget ≤ 16777215 →
        ∃ t, exec .hkcCalFull s = .next t ∧ t.hkc.suspended = true ∧ (t.hkc.calState = 1 ∨ t.hkc.calState = 2) ∧ t.hkc.calChannel = c ∧
          t.hkc.cal.map HkcCal.target = some m.calTarget ∧ t.hkc.coefs = s.hkc.coefs ∧ recorded s t (configFor s m 0xFF 0)) ∧
      (p = 3 → ∃ t, exec .hkcCalClear s = .next t ∧ t.hkc = { s.hkc with coefs := recordPut c (0, 4194304) s.hkc.coefs } ∧
        t.ctl = signedCtl s m (zeros 4) false 0 ∧ recorded s t (configFor s m 0xFF 0))) ∧
    (s.hkc.cal = none → p = 2 → 4194304 ≤ m.calTarget → m.calTarget ≤ 16777215 → (spFind c s.hkc.zeros = none ∨ s.stored 0x2801 ≠ 0) →
      ∃ t, exec .hkcCalFull s = .next t ∧ t.hkc = s.hkc ∧ t.ctl.replies = s.ctl.replies ++ [⟨m.inBand, m.response 7 0 [], false, 0⟩]) ∧
    (∀ (k : HkcCal) (i : Instr), s.hkc.cal = some k → (p = 1 ∧ i = .hkcCalZero ∨ p = 3 ∧ i = .hkcCalClear ∨
        p = 2 ∧ i = .hkcCalFull ∧ 4194304 ≤ m.calTarget ∧ m.calTarget ≤ 16777215) →
      ∃ t, exec i s = .next t ∧ t.hkc = s.hkc ∧ t.nvs = s.nvs ∧
        t.ctl.replies = s.ctl.replies ++ [⟨m.inBand, m.response 1 0 [], false, 0⟩])

/-- Calibration of the housekeeping converter. -/
def Obligations.CalibrateMessages : Prop :=
  calibrateMessages

/-! ## What every step keeps -/

/-- The byte stores are in their one canonical form: NVS, the mailboxes, the bulk window and the event ring. -/
def StoresCanonical (s : State) : Prop :=
  Memory.wf s.nvs.mem = true ∧ Memory.wf s.ctl.cmdBox = true ∧ Memory.wf s.ctl.rspBox = true ∧ Memory.wf s.ctl.bulk = true ∧
    Memory.wf s.ctl.ring = true

/-- The pins' stores are in their one canonical form, and no FIFO of a sequencer holds more than its four entries (R394). -/
def PinsInForm (s : State) : Prop :=
  canonFrom (.pad .released) 0 s.pin.latch = true ∧ canonFrom 0 0 s.pin.tables = true ∧ canonFrom 0 0 s.pin.store = true ∧
    ∀ q, q < 4 → (s.shadeAt q).inFifo.length ≤ 4 ∧ (s.shadeAt q).outFifo.length ≤ 4

/-- Every step, whatever its command, keeps the byte stores in their canonical form. -/
def Obligations.StepKeepsStores : Prop := ∀ s t : State, StoresCanonical s → step s = .next t → StoresCanonical t

/-- Every step keeps the pins' stores in their canonical form, and every FIFO within its four entries. -/
def Obligations.StepKeepsPins : Prop := ∀ s t : State, PinsInForm s → step s = .next t → PinsInForm t

/-- Both invariants hold at reset. -/
def Obligations.InvariantsAtReset : Prop := StoresCanonical State.reset ∧ PinsInForm State.reset

/-- The commands at which a reset may take place: the reset itself, power-on, the end of a hold or of a closing run, `RST_N`,
`SUP_RESET` and the boot, whose failed trial resets. -/
def mayReset : Instr → Bool
  | .powerOnReset _ | .offHoldRelease | .thermalRelease | .rstNAssert | .closingRunEnd | .resetExecute | .supReset | .boot _ => true
  | _ => false

/-- Only a reset leaves Vermilion (R157): whatever the command, if no reset can take place at it, every cause latched stays latched. -/
def Obligations.VermilionStays : Prop :=
  ∀ (c : Instr) (s t : State), mayReset c = false → exec c s = .next t → s.sea.vermilion &&& t.sea.vermilion = s.sea.vermilion
end

