-- ==== Sys2Proof/Laws/Sparse.lean ====
section
/-! SUPPORT. Sparse stores: what a write leaves at each key, and that writes keep the canonical form. -/

namespace Sys2Proof.Machine

variable {α : Type} [DecidableEq α]

theorem canonFrom_mono {d : α} {m : Sparse α} {a b : Nat} (hab : a ≤ b) (h : canonFrom d b m = true) :
    canonFrom d a m = true := by
  cases m with
  | nil => rfl
  | cons x m =>
    simp [canonFrom] at *
    exact ⟨⟨by omega, h.1.2⟩, h.2⟩

/-- Below its first key a canonical store lists nothing. -/
theorem spGet_below {d : α} {m : Sparse α} {lo k : Nat} (h : canonFrom d lo m = true) (hk : k < lo) : spGet d k m = d := by
  induction m generalizing lo with
  | nil => rfl
  | cons x m ih =>
    simp [canonFrom] at h
    rw [spGet, if_neg (by omega)]
    exact ih h.2 (by omega)

/-- A write is read back at its key. -/
theorem spGet_spSet_same {d : α} {m : Sparse α} {lo : Nat} (k : Nat) (v : α) (h : canonFrom d lo m = true) :
    spGet d k (spSet d k v m) = v := by
  induction m generalizing lo with
  | nil => by_cases hv : v = d <;> simp [spSet, spGet, hv]
  | cons x m ih =>
    simp [canonFrom] at h
    rcases Nat.lt_trichotomy k x.1 with hk | hk | hk
    · by_cases hv : v = d
      · simp [spSet, hk, hv, spGet, Nat.ne_of_lt hk, spGet_below h.2 (by omega : k < x.1 + 1)]
      · simp [spSet, hk, hv, spGet]
    · by_cases hv : v = d
      · simp [spSet, hk, hv, spGet_below h.2 (by omega : x.1 < x.1 + 1)]
      · simp [spSet, hk, hv, spGet]
    · simp [spSet, spGet, Nat.not_lt.mpr (Nat.le_of_lt hk), Nat.ne_of_gt hk, ih h.2]

/-- A write leaves every other key as it was. -/
theorem spGet_spSet_other {d : α} (m : Sparse α) {k j : Nat} (v : α) (h : j ≠ k) :
    spGet d j (spSet d k v m) = spGet d j m := by
  induction m with
  | nil => by_cases hv : v = d <;> simp [spSet, spGet, hv, h]
  | cons x m ih =>
    rcases Nat.lt_trichotomy k x.1 with hk | hk | hk
    · by_cases hv : v = d <;> simp [spSet, hk, hv, spGet, h]
    · subst hk
      by_cases hv : v = d <;> simp [spSet, hv, spGet, h]
    · by_cases hj : j = x.1 <;>
        simp [spSet, spGet, Nat.not_lt.mpr (Nat.le_of_lt hk), Nat.ne_of_gt hk, ih, hj]

theorem spSet_canon {d : α} {m : Sparse α} {lo : Nat} {k : Nat} (v : α) (hk : lo ≤ k) (h : canonFrom d lo m = true) :
    canonFrom d lo (spSet d k v m) = true := by
  induction m generalizing lo with
  | nil => by_cases hv : v = d <;> simp [spSet, canonFrom, hv, hk]
  | cons x m ih =>
    have h' := h
    simp [canonFrom] at h
    rcases Nat.lt_trichotomy k x.1 with hx | hx | hx
    · by_cases hv : v = d
      · simpa [spSet, hx, hv] using h'
      · simp only [spSet, if_pos hx, if_neg hv, canonFrom, Bool.and_eq_true, decide_eq_true_eq]
        exact ⟨⟨hk, hv⟩, ⟨by omega, h.1.2⟩, h.2⟩
    · by_cases hv : v = d
      · simpa [spSet, hx, hv] using canonFrom_mono (by omega) h.2
      · simp only [spSet, hx, Nat.lt_irrefl, if_neg, if_neg hv, not_false_eq_true, canonFrom, if_true, Bool.and_eq_true,
          decide_eq_true_eq]
        exact ⟨⟨h.1.1, hv⟩, h.2⟩
    · simp only [spSet, if_neg (Nat.not_lt.mpr (Nat.le_of_lt hx)), if_neg (Nat.ne_of_gt hx), canonFrom, Bool.and_eq_true,
        decide_eq_true_eq]
      exact ⟨h.1, ih (by omega) h.2⟩

/-- A write keeps the canonical form. -/
theorem spSet_wf {d : α} {m : Sparse α} (k : Nat) (v : α) (h : canonFrom d 0 m = true) :
    canonFrom d 0 (spSet d k v m) = true := spSet_canon v (Nat.zero_le k) h

/-- Dropping entries keeps the canonical form. -/
theorem filter_canon {d : α} (p : Nat × α → Bool) {m : Sparse α} {lo : Nat} (h : canonFrom d lo m = true) :
    canonFrom d lo (m.filter p) = true := by
  induction m generalizing lo with
  | nil => rfl
  | cons x m ih =>
    simp [canonFrom] at h
    by_cases hx : p x
    · simp [hx, canonFrom, h.1, ih h.2]
    · simp only [List.filter_cons, hx, if_neg, Bool.false_eq_true, not_false_eq_true]
      exact ih (canonFrom_mono (by omega) h.2)

/-! ## NVS -/

/-- Every write to NVS keeps the canonical form. -/
theorem nvWrite_wf (m : List Host.Cell) (a : Nat) (bs : Bytes) (h : Memory.wf m = true) : Memory.wf (nvWrite m a bs) = true := by
  induction bs generalizing m a with
  | nil => exact h
  | cons b bs ih => exact ih _ _ (spSet_wf a b h)

/-- A clear of NVS keeps the canonical form. -/
theorem nvClear_wf (m : List Host.Cell) (lo hi : Nat) (h : Memory.wf m = true) : Memory.wf (nvClear m lo hi) = true :=
  filter_canon _ h

/-- Cells written keep the canonical form, and with them copies and writes of whole blocks (R183). -/
theorem nvCells_wf (m l : List Host.Cell) (h : Memory.wf m = true) : Memory.wf (nvCells m l) = true := by
  induction l generalizing m with
  | nil => exact h
  | cons c l ih => exact ih _ (spSet_wf c.1 c.2 h)
theorem nvCopy_wf (m : List Host.Cell) (a b : Nat) (h : Memory.wf m = true) : Memory.wf (nvCopy m a b) = true :=
  nvCells_wf _ _ (nvClear_wf _ _ _ h)
theorem nvBlock_wf (m : List Host.Cell) (a : Nat) (b : Bytes) (h : Memory.wf m = true) : Memory.wf (nvBlock m a b) = true :=
  nvWrite_wf _ _ _ (nvClear_wf _ _ _ h)

/-- A write to NVS leaves every address outside its bytes as it was. -/
theorem nvWrite_other (m : List Host.Cell) (a : Nat) (bs : Bytes) (x : Nat) (h : x < a ∨ a + bs.length ≤ x) :
    nvRead (nvWrite m a bs) x = nvRead m x := by
  induction bs generalizing m a with
  | nil => rfl
  | cons b bs ih =>
    simp only [List.length_cons] at h
    rw [nvWrite, ih _ _ (by omega)]
    exact spGet_spSet_other m b (by omega)

/-- What is written to NVS reads back. -/
theorem nvBytes_nvWrite (m : List Host.Cell) (a : Nat) (bs : Bytes) (h : Memory.wf m = true) :
    nvBytes (nvWrite m a bs) a bs.length = bs := by
  induction bs generalizing m a with
  | nil => rfl
  | cons b bs ih =>
    have h1 : nvRead (nvWrite (spSet 0 a b m) (a + 1) bs) a = b := by
      rw [nvWrite_other _ _ _ _ (by omega)]
      exact spGet_spSet_same a b h
    simp only [nvWrite, nvBytes, List.length_cons]
    rw [h1, ih _ _ (spSet_wf a b h)]

end Sys2Proof.Machine
end

