-- ==== Sys2Proof/Laws/Bytes.lean ====
section
/-! SUPPORT. Byte strings: their lengths, what a little-endian field reads back as, and listed stores. -/

namespace Sys2Proof.Machine

/-! ## Lengths -/

@[simp] theorem leBytes_length (n v : Nat) : (leBytes n v).length = n := by
  induction n generalizing v with
  | zero => rfl
  | succ n ih => simp [leBytes, ih]

@[simp] theorem zeros_length (n : Nat) : (zeros n).length = n := by simp [zeros]

@[simp] theorem ones_length (n : Nat) : (ones n).length = n := by simp [ones]

@[simp] theorem padTo_length (n : Nat) (bs : Bytes) : (padTo n bs).length = n := by
  simp [padTo]; omega

@[simp] theorem nvBytes_length (m : List Host.Cell) (a n : Nat) : (nvBytes m a n).length = n := by
  induction n generalizing a with
  | zero => rfl
  | succ n ih => simp [nvBytes, ih]

@[simp] theorem wordBe_length (w : Word64) : (wordBe w).length = 8 := by simp [wordBe]

/-- A digest of SHA-512 has 64 bytes. -/
@[simp] theorem sha512_length (bs : Bytes) : (sha512 bs).length = 64 := by simp [sha512]

/-! ## Little-endian fields (R7) -/

/-- A field reads back the value it was written from, modulo its width. -/
theorem leNat_leBytes (n v : Nat) : leNat (leBytes n v) = v % 256 ^ n := by
  induction n generalizing v with
  | zero => simp [leBytes, leNat, Nat.mod_one]
  | succ n ih =>
    rw [show 256 ^ (n + 1) = 256 * 256 ^ n by rw [Nat.pow_succ, Nat.mul_comm], Nat.mod_mul]
    simp [leBytes, leNat, ih]

/-! ## Listed stores -/

/-- What is listed at a key is found there. -/
@[simp] theorem spFind_spPut_same {α : Type} (k : Nat) (v : α) (m : Sparse α) : spFind k (spPut k v m) = some v := by
  induction m with
  | nil => simp [spPut, spFind]
  | cons x m ih =>
    unfold spPut
    split
    · simp [spFind]
    · split
      · simp [spFind]
      · simp [spFind, *]

/-- And leaves every other key as it was. -/
theorem spFind_spPut_other {α : Type} {k j : Nat} (h : j ≠ k) (v : α) (m : Sparse α) : spFind j (spPut k v m) = spFind j m := by
  induction m with
  | nil => simp [spPut, spFind, h]
  | cons x m ih =>
    unfold spPut
    split
    · simp [spFind, h]
    · split
      · next e => subst e; simp [spFind, h]
      · simp [spFind, ih]

end Sys2Proof.Machine
end

