-- ==== Sys2Proof/Laws/State.lean ====
section
/-! SUPPORT. The fields of State: each through `if` and `foldl`, and which of them every shared update leaves as they were. -/

set_option linter.unusedSimpArgs false
set_option Elab.async false

namespace Sys2Proof.Machine

/-! ## Fields through `if`, `foldl` and the checks of a message -/

@[simp] theorem ite_pending (c : Prop) [Decidable c] (a b : State) : (if c then a else b).pending = if c then a.pending else
    b.pending := apply_ite State.pending c a b

@[simp] theorem dite_pending (c : Prop) [Decidable c] (a : c → State) (b : ¬c → State) : (dite c a b).pending = dite c (fun h
    => (a h).pending) (fun h => (b h).pending) := apply_dite State.pending c a b

@[simp] theorem foldl_pending {β : Type} (f : State → β → State) (h : ∀ s b, (f s b).pending = s.pending) (l : List β) (s :
    State) :
    (l.foldl f s).pending = s.pending := by
  induction l generalizing s with
  | nil => rfl
  | cons x l ih => simp [ih, h]

@[simp] theorem ite_free (c : Prop) [Decidable c] (a b : State) : (if c then a else b).free = if c then a.free else b.free :=
    apply_ite State.free c a b

@[simp] theorem dite_free (c : Prop) [Decidable c] (a : c → State) (b : ¬c → State) : (dite c a b).free = dite c (fun h => (a
    h).free) (fun h => (b h).free) := apply_dite State.free c a b

@[simp] theorem foldl_free {β : Type} (f : State → β → State) (h : ∀ s b, (f s b).free = s.free) (l : List β) (s : State) :
    (l.foldl f s).free = s.free := by
  induction l generalizing s with
  | nil => rfl
  | cons x l ih => simp [ih, h]

@[simp] theorem ite_clk (c : Prop) [Decidable c] (a b : State) : (if c then a else b).clk = if c then a.clk else b.clk :=
    apply_ite State.clk c a b

@[simp] theorem dite_clk (c : Prop) [Decidable c] (a : c → State) (b : ¬c → State) : (dite c a b).clk = dite c (fun h => (a
    h).clk) (fun h => (b h).clk) := apply_dite State.clk c a b

@[simp] theorem foldl_clk {β : Type} (f : State → β → State) (h : ∀ s b, (f s b).clk = s.clk) (l : List β) (s : State) :
    (l.foldl f s).clk = s.clk := by
  induction l generalizing s with
  | nil => rfl
  | cons x l ih => simp [ih, h]

@[simp] theorem ite_pwr (c : Prop) [Decidable c] (a b : State) : (if c then a else b).pwr = if c then a.pwr else b.pwr :=
    apply_ite State.pwr c a b

@[simp] theorem dite_pwr (c : Prop) [Decidable c] (a : c → State) (b : ¬c → State) : (dite c a b).pwr = dite c (fun h => (a
    h).pwr) (fun h => (b h).pwr) := apply_dite State.pwr c a b

@[simp] theorem foldl_pwr {β : Type} (f : State → β → State) (h : ∀ s b, (f s b).pwr = s.pwr) (l : List β) (s : State) :
    (l.foldl f s).pwr = s.pwr := by
  induction l generalizing s with
  | nil => rfl
  | cons x l ih => simp [ih, h]

@[simp] theorem ite_rst (c : Prop) [Decidable c] (a b : State) : (if c then a else b).rst = if c then a.rst else b.rst :=
    apply_ite State.rst c a b

@[simp] theorem dite_rst (c : Prop) [Decidable c] (a : c → State) (b : ¬c → State) : (dite c a b).rst = dite c (fun h => (a
    h).rst) (fun h => (b h).rst) := apply_dite State.rst c a b

@[simp] theorem foldl_rst {β : Type} (f : State → β → State) (h : ∀ s b, (f s b).rst = s.rst) (l : List β) (s : State) :
    (l.foldl f s).rst = s.rst := by
  induction l generalizing s with
  | nil => rfl
  | cons x l ih => simp [ih, h]

@[simp] theorem ite_wdg (c : Prop) [Decidable c] (a b : State) : (if c then a else b).wdg = if c then a.wdg else b.wdg :=
    apply_ite State.wdg c a b

@[simp] theorem dite_wdg (c : Prop) [Decidable c] (a : c → State) (b : ¬c → State) : (dite c a b).wdg = dite c (fun h => (a
    h).wdg) (fun h => (b h).wdg) := apply_dite State.wdg c a b

@[simp] theorem foldl_wdg {β : Type} (f : State → β → State) (h : ∀ s b, (f s b).wdg = s.wdg) (l : List β) (s : State) :
    (l.foldl f s).wdg = s.wdg := by
  induction l generalizing s with
  | nil => rfl
  | cons x l ih => simp [ih, h]

@[simp] theorem ite_reg (c : Prop) [Decidable c] (a b : State) : (if c then a else b).reg = if c then a.reg else b.reg :=
    apply_ite State.reg c a b

@[simp] theorem dite_reg (c : Prop) [Decidable c] (a : c → State) (b : ¬c → State) : (dite c a b).reg = dite c (fun h => (a
    h).reg) (fun h => (b h).reg) := apply_dite State.reg c a b

@[simp] theorem foldl_reg {β : Type} (f : State → β → State) (h : ∀ s b, (f s b).reg = s.reg) (l : List β) (s : State) :
    (l.foldl f s).reg = s.reg := by
  induction l generalizing s with
  | nil => rfl
  | cons x l ih => simp [ih, h]

@[simp] theorem ite_ctl (c : Prop) [Decidable c] (a b : State) : (if c then a else b).ctl = if c then a.ctl else b.ctl :=
    apply_ite State.ctl c a b

@[simp] theorem dite_ctl (c : Prop) [Decidable c] (a : c → State) (b : ¬c → State) : (dite c a b).ctl = dite c (fun h => (a
    h).ctl) (fun h => (b h).ctl) := apply_dite State.ctl c a b

@[simp] theorem foldl_ctl {β : Type} (f : State → β → State) (h : ∀ s b, (f s b).ctl = s.ctl) (l : List β) (s : State) :
    (l.foldl f s).ctl = s.ctl := by
  induction l generalizing s with
  | nil => rfl
  | cons x l ih => simp [ih, h]

@[simp] theorem ite_ev (c : Prop) [Decidable c] (a b : State) : (if c then a else b).ev = if c then a.ev else b.ev := apply_ite
    State.ev c a b

@[simp] theorem dite_ev (c : Prop) [Decidable c] (a : c → State) (b : ¬c → State) : (dite c a b).ev = dite c (fun h => (a
    h).ev) (fun h => (b h).ev) := apply_dite State.ev c a b

@[simp] theorem foldl_ev {β : Type} (f : State → β → State) (h : ∀ s b, (f s b).ev = s.ev) (l : List β) (s : State) :
    (l.foldl f s).ev = s.ev := by
  induction l generalizing s with
  | nil => rfl
  | cons x l ih => simp [ih, h]

@[simp] theorem ite_par (c : Prop) [Decidable c] (a b : State) : (if c then a else b).par = if c then a.par else b.par :=
    apply_ite State.par c a b

@[simp] theorem dite_par (c : Prop) [Decidable c] (a : c → State) (b : ¬c → State) : (dite c a b).par = dite c (fun h => (a
    h).par) (fun h => (b h).par) := apply_dite State.par c a b

@[simp] theorem foldl_par {β : Type} (f : State → β → State) (h : ∀ s b, (f s b).par = s.par) (l : List β) (s : State) :
    (l.foldl f s).par = s.par := by
  induction l generalizing s with
  | nil => rfl
  | cons x l ih => simp [ih, h]

@[simp] theorem ite_fus (c : Prop) [Decidable c] (a b : State) : (if c then a else b).fus = if c then a.fus else b.fus :=
    apply_ite State.fus c a b

@[simp] theorem dite_fus (c : Prop) [Decidable c] (a : c → State) (b : ¬c → State) : (dite c a b).fus = dite c (fun h => (a
    h).fus) (fun h => (b h).fus) := apply_dite State.fus c a b

@[simp] theorem foldl_fus {β : Type} (f : State → β → State) (h : ∀ s b, (f s b).fus = s.fus) (l : List β) (s : State) :
    (l.foldl f s).fus = s.fus := by
  induction l generalizing s with
  | nil => rfl
  | cons x l ih => simp [ih, h]

@[simp] theorem ite_role (c : Prop) [Decidable c] (a b : State) : (if c then a else b).role = if c then a.role else b.role :=
    apply_ite State.role c a b

@[simp] theorem dite_role (c : Prop) [Decidable c] (a : c → State) (b : ¬c → State) : (dite c a b).role = dite c (fun h => (a
    h).role) (fun h => (b h).role) := apply_dite State.role c a b

@[simp] theorem foldl_role {β : Type} (f : State → β → State) (h : ∀ s b, (f s b).role = s.role) (l : List β) (s : State) :
    (l.foldl f s).role = s.role := by
  induction l generalizing s with
  | nil => rfl
  | cons x l ih => simp [ih, h]

@[simp] theorem ite_fw (c : Prop) [Decidable c] (a b : State) : (if c then a else b).fw = if c then a.fw else b.fw := apply_ite
    State.fw c a b

@[simp] theorem dite_fw (c : Prop) [Decidable c] (a : c → State) (b : ¬c → State) : (dite c a b).fw = dite c (fun h => (a
    h).fw) (fun h => (b h).fw) := apply_dite State.fw c a b

@[simp] theorem foldl_fw {β : Type} (f : State → β → State) (h : ∀ s b, (f s b).fw = s.fw) (l : List β) (s : State) :
    (l.foldl f s).fw = s.fw := by
  induction l generalizing s with
  | nil => rfl
  | cons x l ih => simp [ih, h]

@[simp] theorem ite_nvs (c : Prop) [Decidable c] (a b : State) : (if c then a else b).nvs = if c then a.nvs else b.nvs :=
    apply_ite State.nvs c a b

@[simp] theorem dite_nvs (c : Prop) [Decidable c] (a : c → State) (b : ¬c → State) : (dite c a b).nvs = dite c (fun h => (a
    h).nvs) (fun h => (b h).nvs) := apply_dite State.nvs c a b

@[simp] theorem foldl_nvs {β : Type} (f : State → β → State) (h : ∀ s b, (f s b).nvs = s.nvs) (l : List β) (s : State) :
    (l.foldl f s).nvs = s.nvs := by
  induction l generalizing s with
  | nil => rfl
  | cons x l ih => simp [ih, h]

@[simp] theorem ite_led (c : Prop) [Decidable c] (a b : State) : (if c then a else b).led = if c then a.led else b.led :=
    apply_ite State.led c a b

@[simp] theorem dite_led (c : Prop) [Decidable c] (a : c → State) (b : ¬c → State) : (dite c a b).led = dite c (fun h => (a
    h).led) (fun h => (b h).led) := apply_dite State.led c a b

@[simp] theorem foldl_led {β : Type} (f : State → β → State) (h : ∀ s b, (f s b).led = s.led) (l : List β) (s : State) :
    (l.foldl f s).led = s.led := by
  induction l generalizing s with
  | nil => rfl
  | cons x l ih => simp [ih, h]

@[simp] theorem ite_sea (c : Prop) [Decidable c] (a b : State) : (if c then a else b).sea = if c then a.sea else b.sea :=
    apply_ite State.sea c a b

@[simp] theorem dite_sea (c : Prop) [Decidable c] (a : c → State) (b : ¬c → State) : (dite c a b).sea = dite c (fun h => (a
    h).sea) (fun h => (b h).sea) := apply_dite State.sea c a b

@[simp] theorem foldl_sea {β : Type} (f : State → β → State) (h : ∀ s b, (f s b).sea = s.sea) (l : List β) (s : State) :
    (l.foldl f s).sea = s.sea := by
  induction l generalizing s with
  | nil => rfl
  | cons x l ih => simp [ih, h]

@[simp] theorem ite_view (c : Prop) [Decidable c] (a b : State) : (if c then a else b).view = if c then a.view else b.view :=
    apply_ite State.view c a b

@[simp] theorem dite_view (c : Prop) [Decidable c] (a : c → State) (b : ¬c → State) : (dite c a b).view = dite c (fun h => (a
    h).view) (fun h => (b h).view) := apply_dite State.view c a b

@[simp] theorem foldl_view {β : Type} (f : State → β → State) (h : ∀ s b, (f s b).view = s.view) (l : List β) (s : State) :
    (l.foldl f s).view = s.view := by
  induction l generalizing s with
  | nil => rfl
  | cons x l ih => simp [ih, h]

@[simp] theorem ite_pace (c : Prop) [Decidable c] (a b : State) : (if c then a else b).pace = if c then a.pace else b.pace :=
    apply_ite State.pace c a b

@[simp] theorem dite_pace (c : Prop) [Decidable c] (a : c → State) (b : ¬c → State) : (dite c a b).pace = dite c (fun h => (a
    h).pace) (fun h => (b h).pace) := apply_dite State.pace c a b

@[simp] theorem foldl_pace {β : Type} (f : State → β → State) (h : ∀ s b, (f s b).pace = s.pace) (l : List β) (s : State) :
    (l.foldl f s).pace = s.pace := by
  induction l generalizing s with
  | nil => rfl
  | cons x l ih => simp [ih, h]

@[simp] theorem ite_lnk (c : Prop) [Decidable c] (a b : State) : (if c then a else b).lnk = if c then a.lnk else b.lnk :=
    apply_ite State.lnk c a b

@[simp] theorem dite_lnk (c : Prop) [Decidable c] (a : c → State) (b : ¬c → State) : (dite c a b).lnk = dite c (fun h => (a
    h).lnk) (fun h => (b h).lnk) := apply_dite State.lnk c a b

@[simp] theorem foldl_lnk {β : Type} (f : State → β → State) (h : ∀ s b, (f s b).lnk = s.lnk) (l : List β) (s : State) :
    (l.foldl f s).lnk = s.lnk := by
  induction l generalizing s with
  | nil => rfl
  | cons x l ih => simp [ih, h]

@[simp] theorem ite_ets (c : Prop) [Decidable c] (a b : State) : (if c then a else b).ets = if c then a.ets else b.ets :=
    apply_ite State.ets c a b

@[simp] theorem dite_ets (c : Prop) [Decidable c] (a : c → State) (b : ¬c → State) : (dite c a b).ets = dite c (fun h => (a
    h).ets) (fun h => (b h).ets) := apply_dite State.ets c a b

@[simp] theorem foldl_ets {β : Type} (f : State → β → State) (h : ∀ s b, (f s b).ets = s.ets) (l : List β) (s : State) :
    (l.foldl f s).ets = s.ets := by
  induction l generalizing s with
  | nil => rfl
  | cons x l ih => simp [ih, h]

@[simp] theorem ite_pix (c : Prop) [Decidable c] (a b : State) : (if c then a else b).pix = if c then a.pix else b.pix :=
    apply_ite State.pix c a b

@[simp] theorem dite_pix (c : Prop) [Decidable c] (a : c → State) (b : ¬c → State) : (dite c a b).pix = dite c (fun h => (a
    h).pix) (fun h => (b h).pix) := apply_dite State.pix c a b

@[simp] theorem foldl_pix {β : Type} (f : State → β → State) (h : ∀ s b, (f s b).pix = s.pix) (l : List β) (s : State) :
    (l.foldl f s).pix = s.pix := by
  induction l generalizing s with
  | nil => rfl
  | cons x l ih => simp [ih, h]

@[simp] theorem ite_pdp (c : Prop) [Decidable c] (a b : State) : (if c then a else b).pdp = if c then a.pdp else b.pdp :=
    apply_ite State.pdp c a b

@[simp] theorem dite_pdp (c : Prop) [Decidable c] (a : c → State) (b : ¬c → State) : (dite c a b).pdp = dite c (fun h => (a
    h).pdp) (fun h => (b h).pdp) := apply_dite State.pdp c a b

@[simp] theorem foldl_pdp {β : Type} (f : State → β → State) (h : ∀ s b, (f s b).pdp = s.pdp) (l : List β) (s : State) :
    (l.foldl f s).pdp = s.pdp := by
  induction l generalizing s with
  | nil => rfl
  | cons x l ih => simp [ih, h]

@[simp] theorem ite_tab (c : Prop) [Decidable c] (a b : State) : (if c then a else b).tab = if c then a.tab else b.tab :=
    apply_ite State.tab c a b

@[simp] theorem dite_tab (c : Prop) [Decidable c] (a : c → State) (b : ¬c → State) : (dite c a b).tab = dite c (fun h => (a
    h).tab) (fun h => (b h).tab) := apply_dite State.tab c a b

@[simp] theorem foldl_tab {β : Type} (f : State → β → State) (h : ∀ s b, (f s b).tab = s.tab) (l : List β) (s : State) :
    (l.foldl f s).tab = s.tab := by
  induction l generalizing s with
  | nil => rfl
  | cons x l ih => simp [ih, h]

@[simp] theorem ite_pin (c : Prop) [Decidable c] (a b : State) : (if c then a else b).pin = if c then a.pin else b.pin :=
    apply_ite State.pin c a b

@[simp] theorem dite_pin (c : Prop) [Decidable c] (a : c → State) (b : ¬c → State) : (dite c a b).pin = dite c (fun h => (a
    h).pin) (fun h => (b h).pin) := apply_dite State.pin c a b

@[simp] theorem foldl_pin {β : Type} (f : State → β → State) (h : ∀ s b, (f s b).pin = s.pin) (l : List β) (s : State) :
    (l.foldl f s).pin = s.pin := by
  induction l generalizing s with
  | nil => rfl
  | cons x l ih => simp [ih, h]

@[simp] theorem ite_hkc (c : Prop) [Decidable c] (a b : State) : (if c then a else b).hkc = if c then a.hkc else b.hkc :=
    apply_ite State.hkc c a b

@[simp] theorem dite_hkc (c : Prop) [Decidable c] (a : c → State) (b : ¬c → State) : (dite c a b).hkc = dite c (fun h => (a
    h).hkc) (fun h => (b h).hkc) := apply_dite State.hkc c a b

@[simp] theorem foldl_hkc {β : Type} (f : State → β → State) (h : ∀ s b, (f s b).hkc = s.hkc) (l : List β) (s : State) :
    (l.foldl f s).hkc = s.hkc := by
  induction l generalizing s with
  | nil => rfl
  | cons x l ih => simp [ih, h]

@[simp] theorem ite_tap (c : Prop) [Decidable c] (a b : State) : (if c then a else b).tap = if c then a.tap else b.tap :=
    apply_ite State.tap c a b

@[simp] theorem dite_tap (c : Prop) [Decidable c] (a : c → State) (b : ¬c → State) : (dite c a b).tap = dite c (fun h => (a
    h).tap) (fun h => (b h).tap) := apply_dite State.tap c a b

@[simp] theorem foldl_tap {β : Type} (f : State → β → State) (h : ∀ s b, (f s b).tap = s.tap) (l : List β) (s : State) :
    (l.foldl f s).tap = s.tap := by
  induction l generalizing s with
  | nil => rfl
  | cons x l ih => simp [ih, h]

@[simp] theorem ite_pad (c : Prop) [Decidable c] (a b : State) : (if c then a else b).pad = if c then a.pad else b.pad :=
    apply_ite State.pad c a b

@[simp] theorem dite_pad (c : Prop) [Decidable c] (a : c → State) (b : ¬c → State) : (dite c a b).pad = dite c (fun h => (a
    h).pad) (fun h => (b h).pad) := apply_dite State.pad c a b

@[simp] theorem foldl_pad {β : Type} (f : State → β → State) (h : ∀ s b, (f s b).pad = s.pad) (l : List β) (s : State) :
    (l.foldl f s).pad = s.pad := by
  induction l generalizing s with
  | nil => rfl
  | cons x l ih => simp [ih, h]

@[simp] theorem ite_s (c : Prop) [Decidable c] (a b : Answer) : (if c then a else b).s = if c then a.s else b.s := apply_ite
    Answer.s c a b

@[simp] theorem foldl_mem {β : Type} (f : State → β → State) (h : ∀ s b, (f s b).nvs.mem = s.nvs.mem) (l : List β) (s : State) :
    (l.foldl f s).nvs.mem = s.nvs.mem := by
  induction l generalizing s with
  | nil => rfl
  | cons x l ih => simp [ih, h]

@[simp] theorem foldl_shade {β : Type} (f : State → β → State) (h : ∀ s b, (f s b).pin.shade = s.pin.shade) (l : List β) (s :
    State) :
    (l.foldl f s).pin.shade = s.pin.shade := by
  induction l generalizing s with
  | nil => rfl
  | cons x l ih => simp [ih, h]

@[simp] theorem refuse_s (s : State) (n : Nat) : (s.refuse n).s = s := rfl

@[simp] theorem accept_s (s : State) (b : Bytes) : (s.accept b).s = s := rfl

@[simp] theorem check_pending (s : State) (l : List (Bool × Nat)) (f : Unit → Answer) (h : (f ()).s.pending = s.pending) :
    (s.check l f).s.pending = s.pending := by
  unfold State.check
  dsimp only
  split <;> simp_all

@[simp] theorem check_free (s : State) (l : List (Bool × Nat)) (f : Unit → Answer) (h : (f ()).s.free = s.free) : (s.check l
    f).s.free = s.free := by
  unfold State.check
  dsimp only
  split <;> simp_all

@[simp] theorem check_clk (s : State) (l : List (Bool × Nat)) (f : Unit → Answer) (h : (f ()).s.clk = s.clk) : (s.check l
    f).s.clk = s.clk := by
  unfold State.check
  dsimp only
  split <;> simp_all

@[simp] theorem check_pwr (s : State) (l : List (Bool × Nat)) (f : Unit → Answer) (h : (f ()).s.pwr = s.pwr) : (s.check l
    f).s.pwr = s.pwr := by
  unfold State.check
  dsimp only
  split <;> simp_all

@[simp] theorem check_rst (s : State) (l : List (Bool × Nat)) (f : Unit → Answer) (h : (f ()).s.rst = s.rst) : (s.check l
    f).s.rst = s.rst := by
  unfold State.check
  dsimp only
  split <;> simp_all

@[simp] theorem check_wdg (s : State) (l : List (Bool × Nat)) (f : Unit → Answer) (h : (f ()).s.wdg = s.wdg) : (s.check l
    f).s.wdg = s.wdg := by
  unfold State.check
  dsimp only
  split <;> simp_all

@[simp] theorem check_reg (s : State) (l : List (Bool × Nat)) (f : Unit → Answer) (h : (f ()).s.reg = s.reg) : (s.check l
    f).s.reg = s.reg := by
  unfold State.check
  dsimp only
  split <;> simp_all

@[simp] theorem check_ctl (s : State) (l : List (Bool × Nat)) (f : Unit → Answer) (h : (f ()).s.ctl = s.ctl) : (s.check l
    f).s.ctl = s.ctl := by
  unfold State.check
  dsimp only
  split <;> simp_all

@[simp] theorem check_ev (s : State) (l : List (Bool × Nat)) (f : Unit → Answer) (h : (f ()).s.ev = s.ev) : (s.check l f).s.ev
    = s.ev := by
  unfold State.check
  dsimp only
  split <;> simp_all

@[simp] theorem check_par (s : State) (l : List (Bool × Nat)) (f : Unit → Answer) (h : (f ()).s.par = s.par) : (s.check l
    f).s.par = s.par := by
  unfold State.check
  dsimp only
  split <;> simp_all

@[simp] theorem check_fus (s : State) (l : List (Bool × Nat)) (f : Unit → Answer) (h : (f ()).s.fus = s.fus) : (s.check l
    f).s.fus = s.fus := by
  unfold State.check
  dsimp only
  split <;> simp_all

@[simp] theorem check_role (s : State) (l : List (Bool × Nat)) (f : Unit → Answer) (h : (f ()).s.role = s.role) : (s.check l
    f).s.role = s.role := by
  unfold State.check
  dsimp only
  split <;> simp_all

@[simp] theorem check_fw (s : State) (l : List (Bool × Nat)) (f : Unit → Answer) (h : (f ()).s.fw = s.fw) : (s.check l f).s.fw
    = s.fw := by
  unfold State.check
  dsimp only
  split <;> simp_all

@[simp] theorem check_nvs (s : State) (l : List (Bool × Nat)) (f : Unit → Answer) (h : (f ()).s.nvs = s.nvs) : (s.check l
    f).s.nvs = s.nvs := by
  unfold State.check
  dsimp only
  split <;> simp_all

@[simp] theorem check_led (s : State) (l : List (Bool × Nat)) (f : Unit → Answer) (h : (f ()).s.led = s.led) : (s.check l
    f).s.led = s.led := by
  unfold State.check
  dsimp only
  split <;> simp_all

@[simp] theorem check_sea (s : State) (l : List (Bool × Nat)) (f : Unit → Answer) (h : (f ()).s.sea = s.sea) : (s.check l
    f).s.sea = s.sea := by
  unfold State.check
  dsimp only
  split <;> simp_all

@[simp] theorem check_view (s : State) (l : List (Bool × Nat)) (f : Unit → Answer) (h : (f ()).s.view = s.view) : (s.check l
    f).s.view = s.view := by
  unfold State.check
  dsimp only
  split <;> simp_all

@[simp] theorem check_pace (s : State) (l : List (Bool × Nat)) (f : Unit → Answer) (h : (f ()).s.pace = s.pace) : (s.check l
    f).s.pace = s.pace := by
  unfold State.check
  dsimp only
  split <;> simp_all

@[simp] theorem check_lnk (s : State) (l : List (Bool × Nat)) (f : Unit → Answer) (h : (f ()).s.lnk = s.lnk) : (s.check l
    f).s.lnk = s.lnk := by
  unfold State.check
  dsimp only
  split <;> simp_all

@[simp] theorem check_ets (s : State) (l : List (Bool × Nat)) (f : Unit → Answer) (h : (f ()).s.ets = s.ets) : (s.check l
    f).s.ets = s.ets := by
  unfold State.check
  dsimp only
  split <;> simp_all

@[simp] theorem check_pix (s : State) (l : List (Bool × Nat)) (f : Unit → Answer) (h : (f ()).s.pix = s.pix) : (s.check l
    f).s.pix = s.pix := by
  unfold State.check
  dsimp only
  split <;> simp_all

@[simp] theorem check_pdp (s : State) (l : List (Bool × Nat)) (f : Unit → Answer) (h : (f ()).s.pdp = s.pdp) : (s.check l
    f).s.pdp = s.pdp := by
  unfold State.check
  dsimp only
  split <;> simp_all

@[simp] theorem check_tab (s : State) (l : List (Bool × Nat)) (f : Unit → Answer) (h : (f ()).s.tab = s.tab) : (s.check l
    f).s.tab = s.tab := by
  unfold State.check
  dsimp only
  split <;> simp_all

@[simp] theorem check_pin (s : State) (l : List (Bool × Nat)) (f : Unit → Answer) (h : (f ()).s.pin = s.pin) : (s.check l
    f).s.pin = s.pin := by
  unfold State.check
  dsimp only
  split <;> simp_all

@[simp] theorem check_hkc (s : State) (l : List (Bool × Nat)) (f : Unit → Answer) (h : (f ()).s.hkc = s.hkc) : (s.check l
    f).s.hkc = s.hkc := by
  unfold State.check
  dsimp only
  split <;> simp_all

@[simp] theorem check_tap (s : State) (l : List (Bool × Nat)) (f : Unit → Answer) (h : (f ()).s.tap = s.tap) : (s.check l
    f).s.tap = s.tap := by
  unfold State.check
  dsimp only
  split <;> simp_all

@[simp] theorem check_pad (s : State) (l : List (Bool × Nat)) (f : Unit → Answer) (h : (f ()).s.pad = s.pad) : (s.check l
    f).s.pad = s.pad := by
  unfold State.check
  dsimp only
  split <;> simp_all

@[simp] theorem check_nvs_mem (s : State) (l : List (Bool × Nat)) (f : Unit → Answer) (h : (f ()).s.nvs.mem = s.nvs.mem) :
    (s.check l f).s.nvs.mem = s.nvs.mem := by
  unfold State.check
  dsimp only
  split <;> simp_all

@[simp] theorem check_pin_shade (s : State) (l : List (Bool × Nat)) (f : Unit → Answer) (h : (f ()).s.pin.shade = s.pin.shade)
    : (s.check l f).s.pin.shade = s.pin.shade := by
  unfold State.check
  dsimp only
  split <;> simp_all

@[simp] theorem Nvs.retain_mem (n : Nvs) (f : NvsCounts → NvsCounts) : (n.retain f).mem = n.mem := rfl

@[simp] theorem Nvs.putTransition_mem (n : Nvs) (t : Option Transition) : (n.putTransition t).mem = n.mem := rfl

@[simp] theorem Nvs.putMark_mem (n : Nvs) (m : Option Word) : (n.putMark m).mem = n.mem := rfl

@[simp] theorem Nvs.putJournal_mem (n : Nvs) (j : JournalRecord) : (n.putJournal j).mem = n.mem := rfl

/-! ## What the shared updates leave unchanged -/

@[simp] theorem State.onRecord_frame (s : State) (f : {α : Type} → Copies α → Copies α) (y : RecordName) :
    (s.onRecord f y).pending = s.pending ∧ (s.onRecord f y).free = s.free ∧ (s.onRecord f y).wdg = s.wdg ∧
    (s.onRecord f y).reg = s.reg ∧ (s.onRecord f y).ev = s.ev ∧ (s.onRecord f y).fus = s.fus ∧ (s.onRecord f y).led = s.led ∧
    (s.onRecord f y).sea = s.sea ∧ (s.onRecord f y).view = s.view ∧ (s.onRecord f y).pace = s.pace ∧
    (s.onRecord f y).lnk = s.lnk ∧ (s.onRecord f y).ets = s.ets ∧ (s.onRecord f y).pix = s.pix ∧ (s.onRecord f y).pdp = s.pdp ∧
    (s.onRecord f y).pin = s.pin ∧ (s.onRecord f y).tap = s.tap ∧ (s.onRecord f y).pad = s.pad ∧
    (s.onRecord f y).nvs.mem = s.nvs.mem := by
  unfold State.onRecord; split <;> simp

@[simp] theorem State.setView_frame (s : State) (v : Nat) (x : View) :
    (s.setView v x).pending = s.pending ∧ (s.setView v x).free = s.free ∧ (s.setView v x).clk = s.clk ∧
    (s.setView v x).pwr = s.pwr ∧ (s.setView v x).rst = s.rst ∧ (s.setView v x).wdg = s.wdg ∧ (s.setView v x).reg = s.reg ∧
    (s.setView v x).ctl = s.ctl ∧ (s.setView v x).ev = s.ev ∧ (s.setView v x).par = s.par ∧ (s.setView v x).fus = s.fus ∧
    (s.setView v x).role = s.role ∧ (s.setView v x).fw = s.fw ∧ (s.setView v x).nvs = s.nvs ∧ (s.setView v x).led = s.led ∧
    (s.setView v x).sea = s.sea ∧ (s.setView v x).pace = s.pace ∧ (s.setView v x).lnk = s.lnk ∧ (s.setView v x).ets = s.ets ∧
    (s.setView v x).pix = s.pix ∧ (s.setView v x).pdp = s.pdp ∧ (s.setView v x).tab = s.tab ∧ (s.setView v x).pin = s.pin ∧
    (s.setView v x).hkc = s.hkc ∧ (s.setView v x).tap = s.tap ∧ (s.setView v x).pad = s.pad := by
  simp [State.setView]

@[simp] theorem State.onView_frame (s : State) (v : Nat) (f : View → View) :
    (s.onView v f).pending = s.pending ∧ (s.onView v f).free = s.free ∧ (s.onView v f).clk = s.clk ∧
    (s.onView v f).pwr = s.pwr ∧ (s.onView v f).rst = s.rst ∧ (s.onView v f).wdg = s.wdg ∧ (s.onView v f).reg = s.reg ∧
    (s.onView v f).ctl = s.ctl ∧ (s.onView v f).ev = s.ev ∧ (s.onView v f).par = s.par ∧ (s.onView v f).fus = s.fus ∧
    (s.onView v f).role = s.role ∧ (s.onView v f).fw = s.fw ∧ (s.onView v f).nvs = s.nvs ∧ (s.onView v f).led = s.led ∧
    (s.onView v f).sea = s.sea ∧ (s.onView v f).pace = s.pace ∧ (s.onView v f).lnk = s.lnk ∧ (s.onView v f).ets = s.ets ∧
    (s.onView v f).pix = s.pix ∧ (s.onView v f).pdp = s.pdp ∧ (s.onView v f).tab = s.tab ∧ (s.onView v f).pin = s.pin ∧
    (s.onView v f).hkc = s.hkc ∧ (s.onView v f).tap = s.tap ∧ (s.onView v f).pad = s.pad := by
  simp [State.onView]

@[simp] theorem State.setIrq_frame (s : State) (b : Nat) :
    (s.setIrq b).pending = s.pending ∧ (s.setIrq b).free = s.free ∧ (s.setIrq b).clk = s.clk ∧ (s.setIrq b).pwr = s.pwr ∧
    (s.setIrq b).rst = s.rst ∧ (s.setIrq b).wdg = s.wdg ∧ (s.setIrq b).ctl = s.ctl ∧ (s.setIrq b).ev = s.ev ∧
    (s.setIrq b).par = s.par ∧ (s.setIrq b).fus = s.fus ∧ (s.setIrq b).role = s.role ∧ (s.setIrq b).fw = s.fw ∧
    (s.setIrq b).nvs = s.nvs ∧ (s.setIrq b).led = s.led ∧ (s.setIrq b).sea = s.sea ∧ (s.setIrq b).view = s.view ∧
    (s.setIrq b).pace = s.pace ∧ (s.setIrq b).lnk = s.lnk ∧ (s.setIrq b).ets = s.ets ∧ (s.setIrq b).pix = s.pix ∧
    (s.setIrq b).pdp = s.pdp ∧ (s.setIrq b).tab = s.tab ∧ (s.setIrq b).pin = s.pin ∧ (s.setIrq b).hkc = s.hkc ∧
    (s.setIrq b).tap = s.tap ∧ (s.setIrq b).pad = s.pad := by
  simp [State.setIrq]

@[simp] theorem State.offerControl_frame (s : State) (p : Packet) :
    (s.offerControl p).2.pending = s.pending ∧ (s.offerControl p).2.free = s.free ∧ (s.offerControl p).2.clk = s.clk ∧
    (s.offerControl p).2.pwr = s.pwr ∧ (s.offerControl p).2.rst = s.rst ∧ (s.offerControl p).2.wdg = s.wdg ∧
    (s.offerControl p).2.reg = s.reg ∧ (s.offerControl p).2.ctl = s.ctl ∧ (s.offerControl p).2.ev = s.ev ∧
    (s.offerControl p).2.par = s.par ∧ (s.offerControl p).2.fus = s.fus ∧ (s.offerControl p).2.role = s.role ∧
    (s.offerControl p).2.fw = s.fw ∧ (s.offerControl p).2.nvs = s.nvs ∧ (s.offerControl p).2.led = s.led ∧
    (s.offerControl p).2.sea = s.sea ∧ (s.offerControl p).2.view = s.view ∧ (s.offerControl p).2.pace = s.pace ∧
    (s.offerControl p).2.ets = s.ets ∧ (s.offerControl p).2.pix = s.pix ∧ (s.offerControl p).2.pdp = s.pdp ∧
    (s.offerControl p).2.tab = s.tab ∧ (s.offerControl p).2.pin = s.pin ∧ (s.offerControl p).2.hkc = s.hkc ∧
    (s.offerControl p).2.tap = s.tap ∧ (s.offerControl p).2.pad = s.pad := by
  simp [State.offerControl]

@[simp] theorem State.pushSeal_frame (s : State) (p : Packet) :
    (s.pushSeal p).pending = s.pending ∧ (s.pushSeal p).free = s.free ∧ (s.pushSeal p).clk = s.clk ∧
    (s.pushSeal p).pwr = s.pwr ∧ (s.pushSeal p).rst = s.rst ∧ (s.pushSeal p).wdg = s.wdg ∧ (s.pushSeal p).reg = s.reg ∧
    (s.pushSeal p).ctl = s.ctl ∧ (s.pushSeal p).ev = s.ev ∧ (s.pushSeal p).par = s.par ∧ (s.pushSeal p).fus = s.fus ∧
    (s.pushSeal p).role = s.role ∧ (s.pushSeal p).fw = s.fw ∧ (s.pushSeal p).nvs = s.nvs ∧ (s.pushSeal p).led = s.led ∧
    (s.pushSeal p).sea = s.sea ∧ (s.pushSeal p).view = s.view ∧ (s.pushSeal p).pace = s.pace ∧ (s.pushSeal p).ets = s.ets ∧
    (s.pushSeal p).pix = s.pix ∧ (s.pushSeal p).pdp = s.pdp ∧ (s.pushSeal p).tab = s.tab ∧ (s.pushSeal p).pin = s.pin ∧
    (s.pushSeal p).hkc = s.hkc ∧ (s.pushSeal p).tap = s.tap ∧ (s.pushSeal p).pad = s.pad := by
  simp [State.pushSeal]

@[simp] theorem State.pushData_frame (s : State) (p : Packet) :
    (s.pushData p).pending = s.pending ∧ (s.pushData p).free = s.free ∧ (s.pushData p).clk = s.clk ∧
    (s.pushData p).pwr = s.pwr ∧ (s.pushData p).rst = s.rst ∧ (s.pushData p).wdg = s.wdg ∧ (s.pushData p).reg = s.reg ∧
    (s.pushData p).ctl = s.ctl ∧ (s.pushData p).ev = s.ev ∧ (s.pushData p).par = s.par ∧ (s.pushData p).fus = s.fus ∧
    (s.pushData p).role = s.role ∧ (s.pushData p).fw = s.fw ∧ (s.pushData p).nvs = s.nvs ∧ (s.pushData p).led = s.led ∧
    (s.pushData p).sea = s.sea ∧ (s.pushData p).view = s.view ∧ (s.pushData p).pace = s.pace ∧ (s.pushData p).ets = s.ets ∧
    (s.pushData p).pix = s.pix ∧ (s.pushData p).pdp = s.pdp ∧ (s.pushData p).tab = s.tab ∧ (s.pushData p).pin = s.pin ∧
    (s.pushData p).hkc = s.hkc ∧ (s.pushData p).tap = s.tap ∧ (s.pushData p).pad = s.pad := by
  simp [State.pushData]

@[simp] theorem State.holdRecord_frame (s : State) (r : Record) :
    (s.holdRecord r).pending = s.pending ∧ (s.holdRecord r).free = s.free ∧ (s.holdRecord r).clk = s.clk ∧
    (s.holdRecord r).pwr = s.pwr ∧ (s.holdRecord r).rst = s.rst ∧ (s.holdRecord r).wdg = s.wdg ∧ (s.holdRecord r).ctl = s.ctl ∧
    (s.holdRecord r).par = s.par ∧ (s.holdRecord r).fus = s.fus ∧ (s.holdRecord r).role = s.role ∧ (s.holdRecord r).fw = s.fw ∧
    (s.holdRecord r).nvs = s.nvs ∧ (s.holdRecord r).led = s.led ∧ (s.holdRecord r).sea = s.sea ∧
    (s.holdRecord r).view = s.view ∧ (s.holdRecord r).pace = s.pace ∧ (s.holdRecord r).lnk = s.lnk ∧
    (s.holdRecord r).ets = s.ets ∧ (s.holdRecord r).pix = s.pix ∧ (s.holdRecord r).pdp = s.pdp ∧ (s.holdRecord r).tab = s.tab ∧
    (s.holdRecord r).pin = s.pin ∧ (s.holdRecord r).hkc = s.hkc ∧ (s.holdRecord r).tap = s.tap ∧ (s.holdRecord r).pad = s.pad
        := by
  simp [State.holdRecord]

@[simp] theorem State.raise_frame (s : State) (code : Nat) (time : Word64) (args : Bytes) :
    (s.raise code time args).pending = s.pending ∧ (s.raise code time args).free = s.free ∧
    (s.raise code time args).clk = s.clk ∧ (s.raise code time args).pwr = s.pwr ∧ (s.raise code time args).rst = s.rst ∧
    (s.raise code time args).wdg = s.wdg ∧ (s.raise code time args).ctl = s.ctl ∧ (s.raise code time args).par = s.par ∧
    (s.raise code time args).fus = s.fus ∧ (s.raise code time args).role = s.role ∧ (s.raise code time args).fw = s.fw ∧
    (s.raise code time args).nvs = s.nvs ∧ (s.raise code time args).led = s.led ∧ (s.raise code time args).sea = s.sea ∧
    (s.raise code time args).view = s.view ∧ (s.raise code time args).pace = s.pace ∧ (s.raise code time args).ets = s.ets ∧
    (s.raise code time args).pix = s.pix ∧ (s.raise code time args).pdp = s.pdp ∧ (s.raise code time args).tab = s.tab ∧
    (s.raise code time args).pin = s.pin ∧ (s.raise code time args).hkc = s.hkc ∧ (s.raise code time args).tap = s.tap ∧
    (s.raise code time args).pad = s.pad := by
  simp [State.raise]

@[simp] theorem State.raiseLos_frame (s : State) (source : Nat) (on : Bool) :
    (s.raiseLos source on).pending = s.pending ∧ (s.raiseLos source on).free = s.free ∧ (s.raiseLos source on).clk = s.clk ∧
    (s.raiseLos source on).pwr = s.pwr ∧ (s.raiseLos source on).rst = s.rst ∧ (s.raiseLos source on).wdg = s.wdg ∧
    (s.raiseLos source on).ctl = s.ctl ∧ (s.raiseLos source on).par = s.par ∧ (s.raiseLos source on).fus = s.fus ∧
    (s.raiseLos source on).role = s.role ∧ (s.raiseLos source on).fw = s.fw ∧ (s.raiseLos source on).nvs = s.nvs ∧
    (s.raiseLos source on).led = s.led ∧ (s.raiseLos source on).sea = s.sea ∧ (s.raiseLos source on).view = s.view ∧
    (s.raiseLos source on).pace = s.pace ∧ (s.raiseLos source on).ets = s.ets ∧ (s.raiseLos source on).pix = s.pix ∧
    (s.raiseLos source on).pdp = s.pdp ∧ (s.raiseLos source on).tab = s.tab ∧ (s.raiseLos source on).pin = s.pin ∧
    (s.raiseLos source on).hkc = s.hkc ∧ (s.raiseLos source on).tap = s.tap ∧ (s.raiseLos source on).pad = s.pad := by
  simp [State.raiseLos]

@[simp] theorem State.raiseLol_frame (s : State) (source : Nat) (on : Bool) :
    (s.raiseLol source on).pending = s.pending ∧ (s.raiseLol source on).free = s.free ∧ (s.raiseLol source on).clk = s.clk ∧
    (s.raiseLol source on).pwr = s.pwr ∧ (s.raiseLol source on).rst = s.rst ∧ (s.raiseLol source on).wdg = s.wdg ∧
    (s.raiseLol source on).ctl = s.ctl ∧ (s.raiseLol source on).par = s.par ∧ (s.raiseLol source on).fus = s.fus ∧
    (s.raiseLol source on).role = s.role ∧ (s.raiseLol source on).fw = s.fw ∧ (s.raiseLol source on).nvs = s.nvs ∧
    (s.raiseLol source on).led = s.led ∧ (s.raiseLol source on).sea = s.sea ∧ (s.raiseLol source on).view = s.view ∧
    (s.raiseLol source on).pace = s.pace ∧ (s.raiseLol source on).ets = s.ets ∧ (s.raiseLol source on).pix = s.pix ∧
    (s.raiseLol source on).pdp = s.pdp ∧ (s.raiseLol source on).tab = s.tab ∧ (s.raiseLol source on).pin = s.pin ∧
    (s.raiseLol source on).hkc = s.hkc ∧ (s.raiseLol source on).tap = s.tap ∧ (s.raiseLol source on).pad = s.pad := by
  simp [State.raiseLol]

@[simp] theorem State.progress_frame (s : State) (l : List Nat) :
    (s.progress l).pending = s.pending ∧ (s.progress l).free = s.free ∧ (s.progress l).clk = s.clk ∧
    (s.progress l).pwr = s.pwr ∧ (s.progress l).rst = s.rst ∧ (s.progress l).reg = s.reg ∧ (s.progress l).ctl = s.ctl ∧
    (s.progress l).ev = s.ev ∧ (s.progress l).par = s.par ∧ (s.progress l).fus = s.fus ∧ (s.progress l).role = s.role ∧
    (s.progress l).fw = s.fw ∧ (s.progress l).nvs = s.nvs ∧ (s.progress l).led = s.led ∧ (s.progress l).sea = s.sea ∧
    (s.progress l).view = s.view ∧ (s.progress l).pace = s.pace ∧ (s.progress l).lnk = s.lnk ∧ (s.progress l).ets = s.ets ∧
    (s.progress l).pix = s.pix ∧ (s.progress l).pdp = s.pdp ∧ (s.progress l).tab = s.tab ∧ (s.progress l).pin = s.pin ∧
    (s.progress l).hkc = s.hkc ∧ (s.progress l).tap = s.tap ∧ (s.progress l).pad = s.pad := by
  simp [State.progress]

@[simp] theorem State.workDone_frame (s : State) (commit : Bool) :
    (s.workDone commit).pending = s.pending ∧ (s.workDone commit).free = s.free ∧ (s.workDone commit).clk = s.clk ∧
    (s.workDone commit).pwr = s.pwr ∧ (s.workDone commit).wdg = s.wdg ∧ (s.workDone commit).reg = s.reg ∧
    (s.workDone commit).ctl = s.ctl ∧ (s.workDone commit).ev = s.ev ∧ (s.workDone commit).par = s.par ∧
    (s.workDone commit).fus = s.fus ∧ (s.workDone commit).role = s.role ∧ (s.workDone commit).fw = s.fw ∧
    (s.workDone commit).nvs = s.nvs ∧ (s.workDone commit).led = s.led ∧ (s.workDone commit).sea = s.sea ∧
    (s.workDone commit).view = s.view ∧ (s.workDone commit).pace = s.pace ∧ (s.workDone commit).lnk = s.lnk ∧
    (s.workDone commit).ets = s.ets ∧ (s.workDone commit).pix = s.pix ∧ (s.workDone commit).pdp = s.pdp ∧
    (s.workDone commit).tab = s.tab ∧ (s.workDone commit).pin = s.pin ∧ (s.workDone commit).hkc = s.hkc ∧
    (s.workDone commit).tap = s.tap ∧ (s.workDone commit).pad = s.pad := by
  unfold State.workDone; split <;> simp

@[simp] theorem State.domainOn_frame (s : State) (i : Nat) :
    (s.domainOn i).pending = s.pending ∧ (s.domainOn i).free = s.free ∧ (s.domainOn i).clk = s.clk ∧
    (s.domainOn i).rst = s.rst ∧ (s.domainOn i).wdg = s.wdg ∧ (s.domainOn i).reg = s.reg ∧ (s.domainOn i).ctl = s.ctl ∧
    (s.domainOn i).ev = s.ev ∧ (s.domainOn i).par = s.par ∧ (s.domainOn i).fus = s.fus ∧ (s.domainOn i).role = s.role ∧
    (s.domainOn i).fw = s.fw ∧ (s.domainOn i).nvs = s.nvs ∧ (s.domainOn i).led = s.led ∧ (s.domainOn i).sea = s.sea ∧
    (s.domainOn i).view = s.view ∧ (s.domainOn i).pace = s.pace ∧ (s.domainOn i).lnk = s.lnk ∧ (s.domainOn i).ets = s.ets ∧
    (s.domainOn i).pix = s.pix ∧ (s.domainOn i).pdp = s.pdp ∧ (s.domainOn i).tab = s.tab ∧ (s.domainOn i).pin = s.pin ∧
    (s.domainOn i).hkc = s.hkc ∧ (s.domainOn i).tap = s.tap ∧ (s.domainOn i).pad = s.pad := by
  simp [State.domainOn]

@[simp] theorem State.domainOff_frame (s : State) (i : Nat) :
    (s.domainOff i).pending = s.pending ∧ (s.domainOff i).free = s.free ∧ (s.domainOff i).clk = s.clk ∧
    (s.domainOff i).rst = s.rst ∧ (s.domainOff i).wdg = s.wdg ∧ (s.domainOff i).reg = s.reg ∧ (s.domainOff i).ctl = s.ctl ∧
    (s.domainOff i).ev = s.ev ∧ (s.domainOff i).par = s.par ∧ (s.domainOff i).fus = s.fus ∧ (s.domainOff i).role = s.role ∧
    (s.domainOff i).fw = s.fw ∧ (s.domainOff i).nvs = s.nvs ∧ (s.domainOff i).led = s.led ∧ (s.domainOff i).sea = s.sea ∧
    (s.domainOff i).view = s.view ∧ (s.domainOff i).pace = s.pace ∧ (s.domainOff i).lnk = s.lnk ∧ (s.domainOff i).ets = s.ets ∧
    (s.domainOff i).pix = s.pix ∧ (s.domainOff i).pdp = s.pdp ∧ (s.domainOff i).tab = s.tab ∧ (s.domainOff i).pin = s.pin ∧
    (s.domainOff i).hkc = s.hkc ∧ (s.domainOff i).tap = s.tap ∧ (s.domainOff i).pad = s.pad := by
  simp [State.domainOff]

@[simp] theorem State.domainsOn_frame (s : State) (l : List Nat) :
    (s.domainsOn l).pending = s.pending ∧ (s.domainsOn l).free = s.free ∧ (s.domainsOn l).clk = s.clk ∧
    (s.domainsOn l).rst = s.rst ∧ (s.domainsOn l).wdg = s.wdg ∧ (s.domainsOn l).reg = s.reg ∧ (s.domainsOn l).ctl = s.ctl ∧
    (s.domainsOn l).ev = s.ev ∧ (s.domainsOn l).par = s.par ∧ (s.domainsOn l).fus = s.fus ∧ (s.domainsOn l).role = s.role ∧
    (s.domainsOn l).fw = s.fw ∧ (s.domainsOn l).nvs = s.nvs ∧ (s.domainsOn l).led = s.led ∧ (s.domainsOn l).sea = s.sea ∧
    (s.domainsOn l).view = s.view ∧ (s.domainsOn l).pace = s.pace ∧ (s.domainsOn l).lnk = s.lnk ∧ (s.domainsOn l).ets = s.ets ∧
    (s.domainsOn l).pix = s.pix ∧ (s.domainsOn l).pdp = s.pdp ∧ (s.domainsOn l).tab = s.tab ∧ (s.domainsOn l).pin = s.pin ∧
    (s.domainsOn l).hkc = s.hkc ∧ (s.domainsOn l).tap = s.tap ∧ (s.domainsOn l).pad = s.pad := by
  simp [State.domainsOn]

@[simp] theorem State.domainsOff_frame (s : State) (l : List Nat) :
    (s.domainsOff l).pending = s.pending ∧ (s.domainsOff l).free = s.free ∧ (s.domainsOff l).clk = s.clk ∧
    (s.domainsOff l).rst = s.rst ∧ (s.domainsOff l).wdg = s.wdg ∧ (s.domainsOff l).reg = s.reg ∧ (s.domainsOff l).ctl = s.ctl ∧
    (s.domainsOff l).ev = s.ev ∧ (s.domainsOff l).par = s.par ∧ (s.domainsOff l).fus = s.fus ∧ (s.domainsOff l).role = s.role ∧
    (s.domainsOff l).fw = s.fw ∧ (s.domainsOff l).nvs = s.nvs ∧ (s.domainsOff l).led = s.led ∧ (s.domainsOff l).sea = s.sea ∧
    (s.domainsOff l).view = s.view ∧ (s.domainsOff l).pace = s.pace ∧ (s.domainsOff l).lnk = s.lnk ∧
    (s.domainsOff l).ets = s.ets ∧ (s.domainsOff l).pix = s.pix ∧ (s.domainsOff l).pdp = s.pdp ∧ (s.domainsOff l).tab = s.tab ∧
    (s.domainsOff l).pin = s.pin ∧ (s.domainsOff l).hkc = s.hkc ∧ (s.domainsOff l).tap = s.tap ∧ (s.domainsOff l).pad = s.pad
        := by
  simp [State.domainsOff]

@[simp] theorem State.pushJob_frame (s : State) (j : SignJob) :
    (s.pushJob j).pending = s.pending ∧ (s.pushJob j).free = s.free ∧ (s.pushJob j).clk = s.clk ∧ (s.pushJob j).rst = s.rst ∧
    (s.pushJob j).wdg = s.wdg ∧ (s.pushJob j).reg = s.reg ∧ (s.pushJob j).ctl = s.ctl ∧ (s.pushJob j).ev = s.ev ∧
    (s.pushJob j).par = s.par ∧ (s.pushJob j).fus = s.fus ∧ (s.pushJob j).role = s.role ∧ (s.pushJob j).fw = s.fw ∧
    (s.pushJob j).nvs = s.nvs ∧ (s.pushJob j).led = s.led ∧ (s.pushJob j).view = s.view ∧ (s.pushJob j).pace = s.pace ∧
    (s.pushJob j).lnk = s.lnk ∧ (s.pushJob j).ets = s.ets ∧ (s.pushJob j).pix = s.pix ∧ (s.pushJob j).pdp = s.pdp ∧
    (s.pushJob j).tab = s.tab ∧ (s.pushJob j).pin = s.pin ∧ (s.pushJob j).hkc = s.hkc ∧ (s.pushJob j).tap = s.tap ∧
    (s.pushJob j).pad = s.pad := by
  simp [State.pushJob]

@[simp] theorem State.publish_frame (s : State) (c : Commit) (q : Word) (epoch : Nat) (entry subject head : Bytes) :
    (s.publish c q epoch entry subject head).pending = s.pending ∧ (s.publish c q epoch entry subject head).free = s.free ∧
    (s.publish c q epoch entry subject head).clk = s.clk ∧ (s.publish c q epoch entry subject head).rst = s.rst ∧
    (s.publish c q epoch entry subject head).wdg = s.wdg ∧ (s.publish c q epoch entry subject head).reg = s.reg ∧
    (s.publish c q epoch entry subject head).ctl = s.ctl ∧ (s.publish c q epoch entry subject head).ev = s.ev ∧
    (s.publish c q epoch entry subject head).par = s.par ∧ (s.publish c q epoch entry subject head).fus = s.fus ∧
    (s.publish c q epoch entry subject head).role = s.role ∧ (s.publish c q epoch entry subject head).fw = s.fw ∧
    (s.publish c q epoch entry subject head).nvs = s.nvs ∧ (s.publish c q epoch entry subject head).led = s.led ∧
    (s.publish c q epoch entry subject head).pace = s.pace ∧ (s.publish c q epoch entry subject head).ets = s.ets ∧
    (s.publish c q epoch entry subject head).pix = s.pix ∧ (s.publish c q epoch entry subject head).pdp = s.pdp ∧
    (s.publish c q epoch entry subject head).tab = s.tab ∧ (s.publish c q epoch entry subject head).pin = s.pin ∧
    (s.publish c q epoch entry subject head).hkc = s.hkc ∧ (s.publish c q epoch entry subject head).tap = s.tap ∧
    (s.publish c q epoch entry subject head).pad = s.pad := by
  simp [State.publish]

@[simp] theorem State.writeStage_frame (s : State) (c : Commit) :
    (s.writeStage c).pending = s.pending ∧ (s.writeStage c).free = s.free ∧ (s.writeStage c).clk = s.clk ∧
    (s.writeStage c).pwr = s.pwr ∧ (s.writeStage c).rst = s.rst ∧ (s.writeStage c).wdg = s.wdg ∧ (s.writeStage c).reg = s.reg ∧
    (s.writeStage c).ctl = s.ctl ∧ (s.writeStage c).ev = s.ev ∧ (s.writeStage c).par = s.par ∧ (s.writeStage c).fus = s.fus ∧
    (s.writeStage c).role = s.role ∧ (s.writeStage c).fw = s.fw ∧ (s.writeStage c).led = s.led ∧ (s.writeStage c).sea = s.sea ∧
    (s.writeStage c).view = s.view ∧ (s.writeStage c).pace = s.pace ∧ (s.writeStage c).lnk = s.lnk ∧
    (s.writeStage c).ets = s.ets ∧ (s.writeStage c).pix = s.pix ∧ (s.writeStage c).pdp = s.pdp ∧ (s.writeStage c).tab = s.tab ∧
    (s.writeStage c).pin = s.pin ∧ (s.writeStage c).hkc = s.hkc ∧ (s.writeStage c).tap = s.tap ∧ (s.writeStage c).pad = s.pad
        := by
  simp [State.writeStage]

@[simp] theorem State.writeEntry_frame (s : State) (c : Commit) :
    (s.writeEntry c).pending = s.pending ∧ (s.writeEntry c).free = s.free ∧ (s.writeEntry c).clk = s.clk ∧
    (s.writeEntry c).pwr = s.pwr ∧ (s.writeEntry c).rst = s.rst ∧ (s.writeEntry c).wdg = s.wdg ∧ (s.writeEntry c).reg = s.reg ∧
    (s.writeEntry c).ctl = s.ctl ∧ (s.writeEntry c).ev = s.ev ∧ (s.writeEntry c).par = s.par ∧ (s.writeEntry c).fus = s.fus ∧
    (s.writeEntry c).role = s.role ∧ (s.writeEntry c).fw = s.fw ∧ (s.writeEntry c).led = s.led ∧ (s.writeEntry c).sea = s.sea ∧
    (s.writeEntry c).view = s.view ∧ (s.writeEntry c).pace = s.pace ∧ (s.writeEntry c).lnk = s.lnk ∧
    (s.writeEntry c).ets = s.ets ∧ (s.writeEntry c).pix = s.pix ∧ (s.writeEntry c).pdp = s.pdp ∧ (s.writeEntry c).tab = s.tab ∧
    (s.writeEntry c).pin = s.pin ∧ (s.writeEntry c).hkc = s.hkc ∧ (s.writeEntry c).tap = s.tap ∧ (s.writeEntry c).pad = s.pad
        := by
  simp [State.writeEntry]

@[simp] theorem State.commitEntry_frame (s : State) (c : Commit) :
    (s.commitEntry c).pending = s.pending ∧ (s.commitEntry c).free = s.free ∧ (s.commitEntry c).clk = s.clk ∧
    (s.commitEntry c).reg = s.reg ∧ (s.commitEntry c).ctl = s.ctl ∧ (s.commitEntry c).ev = s.ev ∧
    (s.commitEntry c).par = s.par ∧ (s.commitEntry c).fus = s.fus ∧ (s.commitEntry c).role = s.role ∧
    (s.commitEntry c).fw = s.fw ∧ (s.commitEntry c).pace = s.pace ∧ (s.commitEntry c).ets = s.ets ∧
    (s.commitEntry c).pix = s.pix ∧ (s.commitEntry c).pdp = s.pdp ∧ (s.commitEntry c).tab = s.tab ∧
    (s.commitEntry c).pin = s.pin ∧ (s.commitEntry c).hkc = s.hkc ∧ (s.commitEntry c).tap = s.tap ∧
    (s.commitEntry c).pad = s.pad := by
  simp [State.commitEntry]

@[simp] theorem State.request_frame (s : State) (c : Commit) :
    (s.request c).pending = s.pending ∧ (s.request c).free = s.free ∧ (s.request c).clk = s.clk ∧ (s.request c).pwr = s.pwr ∧
    (s.request c).rst = s.rst ∧ (s.request c).wdg = s.wdg ∧ (s.request c).reg = s.reg ∧ (s.request c).ctl = s.ctl ∧
    (s.request c).ev = s.ev ∧ (s.request c).par = s.par ∧ (s.request c).fus = s.fus ∧ (s.request c).role = s.role ∧
    (s.request c).fw = s.fw ∧ (s.request c).led = s.led ∧ (s.request c).sea = s.sea ∧ (s.request c).view = s.view ∧
    (s.request c).pace = s.pace ∧ (s.request c).lnk = s.lnk ∧ (s.request c).ets = s.ets ∧ (s.request c).pix = s.pix ∧
    (s.request c).pdp = s.pdp ∧ (s.request c).tab = s.tab ∧ (s.request c).pin = s.pin ∧ (s.request c).hkc = s.hkc ∧
    (s.request c).tap = s.tap ∧ (s.request c).pad = s.pad ∧ (s.request c).nvs.mem = s.nvs.mem := by
  unfold State.request; split <;> simp

@[simp] theorem State.flushCommits_frame (s : State) :
    s.flushCommits.pending = s.pending ∧ s.flushCommits.free = s.free ∧ s.flushCommits.clk = s.clk ∧
    s.flushCommits.reg = s.reg ∧ s.flushCommits.ctl = s.ctl ∧ s.flushCommits.ev = s.ev ∧ s.flushCommits.par = s.par ∧
    s.flushCommits.fus = s.fus ∧ s.flushCommits.role = s.role ∧ s.flushCommits.fw = s.fw ∧ s.flushCommits.pace = s.pace ∧
    s.flushCommits.ets = s.ets ∧ s.flushCommits.pix = s.pix ∧ s.flushCommits.pdp = s.pdp ∧ s.flushCommits.tab = s.tab ∧
    s.flushCommits.pin = s.pin ∧ s.flushCommits.hkc = s.hkc ∧ s.flushCommits.tap = s.tap ∧ s.flushCommits.pad = s.pad := by
  simp [State.flushCommits]

@[simp] theorem State.commitNow_frame (s : State) (c : Commit) :
    (s.commitNow c).pending = s.pending ∧ (s.commitNow c).free = s.free ∧ (s.commitNow c).clk = s.clk ∧
    (s.commitNow c).reg = s.reg ∧ (s.commitNow c).ctl = s.ctl ∧ (s.commitNow c).ev = s.ev ∧ (s.commitNow c).par = s.par ∧
    (s.commitNow c).fus = s.fus ∧ (s.commitNow c).role = s.role ∧ (s.commitNow c).fw = s.fw ∧ (s.commitNow c).pace = s.pace ∧
    (s.commitNow c).ets = s.ets ∧ (s.commitNow c).pix = s.pix ∧ (s.commitNow c).pdp = s.pdp ∧ (s.commitNow c).tab = s.tab ∧
    (s.commitNow c).pin = s.pin ∧ (s.commitNow c).hkc = s.hkc ∧ (s.commitNow c).tap = s.tap ∧ (s.commitNow c).pad = s.pad := by
  simp [State.commitNow]

@[simp] theorem State.takeSegment_frame (s : State) :
    s.takeSegment.2.pending = s.pending ∧ s.takeSegment.2.free = s.free ∧ s.takeSegment.2.clk = s.clk ∧
    s.takeSegment.2.pwr = s.pwr ∧ s.takeSegment.2.rst = s.rst ∧ s.takeSegment.2.wdg = s.wdg ∧ s.takeSegment.2.reg = s.reg ∧
    s.takeSegment.2.ctl = s.ctl ∧ s.takeSegment.2.ev = s.ev ∧ s.takeSegment.2.par = s.par ∧ s.takeSegment.2.fus = s.fus ∧
    s.takeSegment.2.role = s.role ∧ s.takeSegment.2.fw = s.fw ∧ s.takeSegment.2.led = s.led ∧ s.takeSegment.2.view = s.view ∧
    s.takeSegment.2.pace = s.pace ∧ s.takeSegment.2.lnk = s.lnk ∧ s.takeSegment.2.ets = s.ets ∧ s.takeSegment.2.pix = s.pix ∧
    s.takeSegment.2.pdp = s.pdp ∧ s.takeSegment.2.tab = s.tab ∧ s.takeSegment.2.pin = s.pin ∧ s.takeSegment.2.hkc = s.hkc ∧
    s.takeSegment.2.tap = s.tap ∧ s.takeSegment.2.pad = s.pad ∧ s.takeSegment.2.nvs.mem = s.nvs.mem := by
  unfold State.takeSegment; dsimp only; repeat' (first | (simp; done) | split)

@[simp] theorem State.program_frame (s : State) (l : List OtpTask) :
    (s.program l).pending = s.pending ∧ (s.program l).free = s.free ∧ (s.program l).clk = s.clk ∧ (s.program l).pwr = s.pwr ∧
    (s.program l).rst = s.rst ∧ (s.program l).wdg = s.wdg ∧ (s.program l).reg = s.reg ∧ (s.program l).ctl = s.ctl ∧
    (s.program l).ev = s.ev ∧ (s.program l).par = s.par ∧ (s.program l).role = s.role ∧ (s.program l).fw = s.fw ∧
    (s.program l).nvs = s.nvs ∧ (s.program l).led = s.led ∧ (s.program l).sea = s.sea ∧ (s.program l).view = s.view ∧
    (s.program l).pace = s.pace ∧ (s.program l).lnk = s.lnk ∧ (s.program l).ets = s.ets ∧ (s.program l).pix = s.pix ∧
    (s.program l).pdp = s.pdp ∧ (s.program l).tab = s.tab ∧ (s.program l).pin = s.pin ∧ (s.program l).hkc = s.hkc ∧
    (s.program l).tap = s.tap ∧ (s.program l).pad = s.pad := by
  simp [State.program]

@[simp] theorem State.sealSegment_frame (s : State) (v : Nat) (g : Segment) :
    (s.sealSegment v g).pending = s.pending ∧ (s.sealSegment v g).free = s.free ∧ (s.sealSegment v g).clk = s.clk ∧
    (s.sealSegment v g).rst = s.rst ∧ (s.sealSegment v g).wdg = s.wdg ∧ (s.sealSegment v g).reg = s.reg ∧
    (s.sealSegment v g).ctl = s.ctl ∧ (s.sealSegment v g).ev = s.ev ∧ (s.sealSegment v g).par = s.par ∧
    (s.sealSegment v g).fus = s.fus ∧ (s.sealSegment v g).role = s.role ∧ (s.sealSegment v g).fw = s.fw ∧
    (s.sealSegment v g).led = s.led ∧ (s.sealSegment v g).view = s.view ∧ (s.sealSegment v g).pace = s.pace ∧
    (s.sealSegment v g).lnk = s.lnk ∧ (s.sealSegment v g).ets = s.ets ∧ (s.sealSegment v g).pix = s.pix ∧
    (s.sealSegment v g).pdp = s.pdp ∧ (s.sealSegment v g).tab = s.tab ∧ (s.sealSegment v g).pin = s.pin ∧
    (s.sealSegment v g).hkc = s.hkc ∧ (s.sealSegment v g).tap = s.tap ∧ (s.sealSegment v g).pad = s.pad ∧
    (s.sealSegment v g).nvs.mem = s.nvs.mem := by
  unfold State.sealSegment; split <;> simp

@[simp] theorem State.settle_frame (s : State) (v : Nat) :
    (s.settle v).pending = s.pending ∧ (s.settle v).free = s.free ∧ (s.settle v).clk = s.clk ∧ (s.settle v).rst = s.rst ∧
    (s.settle v).wdg = s.wdg ∧ (s.settle v).reg = s.reg ∧ (s.settle v).ctl = s.ctl ∧ (s.settle v).ev = s.ev ∧
    (s.settle v).par = s.par ∧ (s.settle v).fus = s.fus ∧ (s.settle v).role = s.role ∧ (s.settle v).fw = s.fw ∧
    (s.settle v).led = s.led ∧ (s.settle v).pace = s.pace ∧ (s.settle v).lnk = s.lnk ∧ (s.settle v).ets = s.ets ∧
    (s.settle v).pix = s.pix ∧ (s.settle v).pdp = s.pdp ∧ (s.settle v).tab = s.tab ∧ (s.settle v).pin = s.pin ∧
    (s.settle v).hkc = s.hkc ∧ (s.settle v).tap = s.tap ∧ (s.settle v).pad = s.pad ∧ (s.settle v).nvs.mem = s.nvs.mem := by
  simp [State.settle]

@[simp] theorem State.joinValue_frame (s : State) (v : Nat) (x : SegValue) :
    (s.joinValue v x).pending = s.pending ∧ (s.joinValue v x).free = s.free ∧ (s.joinValue v x).clk = s.clk ∧
    (s.joinValue v x).pwr = s.pwr ∧ (s.joinValue v x).rst = s.rst ∧ (s.joinValue v x).wdg = s.wdg ∧
    (s.joinValue v x).reg = s.reg ∧ (s.joinValue v x).ctl = s.ctl ∧ (s.joinValue v x).ev = s.ev ∧
    (s.joinValue v x).par = s.par ∧ (s.joinValue v x).fus = s.fus ∧ (s.joinValue v x).role = s.role ∧
    (s.joinValue v x).fw = s.fw ∧ (s.joinValue v x).led = s.led ∧ (s.joinValue v x).pace = s.pace ∧
    (s.joinValue v x).lnk = s.lnk ∧ (s.joinValue v x).ets = s.ets ∧ (s.joinValue v x).pix = s.pix ∧
    (s.joinValue v x).pdp = s.pdp ∧ (s.joinValue v x).tab = s.tab ∧ (s.joinValue v x).pin = s.pin ∧
    (s.joinValue v x).hkc = s.hkc ∧ (s.joinValue v x).tap = s.tap ∧ (s.joinValue v x).pad = s.pad ∧
    (s.joinValue v x).nvs.mem = s.nvs.mem := by
  unfold State.joinValue; dsimp only; repeat' (first | (simp; done) | split)

@[simp] theorem State.takeValue_frame (s : State) (v : Nat) (x : SegValue) :
    (s.takeValue v x).pending = s.pending ∧ (s.takeValue v x).free = s.free ∧ (s.takeValue v x).clk = s.clk ∧
    (s.takeValue v x).pwr = s.pwr ∧ (s.takeValue v x).rst = s.rst ∧ (s.takeValue v x).wdg = s.wdg ∧
    (s.takeValue v x).reg = s.reg ∧ (s.takeValue v x).ctl = s.ctl ∧ (s.takeValue v x).ev = s.ev ∧
    (s.takeValue v x).par = s.par ∧ (s.takeValue v x).fus = s.fus ∧ (s.takeValue v x).role = s.role ∧
    (s.takeValue v x).fw = s.fw ∧ (s.takeValue v x).led = s.led ∧ (s.takeValue v x).pace = s.pace ∧
    (s.takeValue v x).lnk = s.lnk ∧ (s.takeValue v x).ets = s.ets ∧ (s.takeValue v x).pix = s.pix ∧
    (s.takeValue v x).pdp = s.pdp ∧ (s.takeValue v x).tab = s.tab ∧ (s.takeValue v x).pin = s.pin ∧
    (s.takeValue v x).hkc = s.hkc ∧ (s.takeValue v x).tap = s.tap ∧ (s.takeValue v x).pad = s.pad ∧
    (s.takeValue v x).nvs.mem = s.nvs.mem := by
  simp [State.takeValue]

@[simp] theorem State.recordGap_frame (s : State) (v : Nat) (c : Word64) (time : Word64) (cause : GapCause) :
    (s.recordGap v c time cause).pending = s.pending ∧ (s.recordGap v c time cause).free = s.free ∧
    (s.recordGap v c time cause).clk = s.clk ∧ (s.recordGap v c time cause).rst = s.rst ∧
    (s.recordGap v c time cause).wdg = s.wdg ∧ (s.recordGap v c time cause).reg = s.reg ∧
    (s.recordGap v c time cause).ctl = s.ctl ∧ (s.recordGap v c time cause).ev = s.ev ∧
    (s.recordGap v c time cause).par = s.par ∧ (s.recordGap v c time cause).fus = s.fus ∧
    (s.recordGap v c time cause).role = s.role ∧ (s.recordGap v c time cause).fw = s.fw ∧
    (s.recordGap v c time cause).led = s.led ∧ (s.recordGap v c time cause).pace = s.pace ∧
    (s.recordGap v c time cause).lnk = s.lnk ∧ (s.recordGap v c time cause).ets = s.ets ∧
    (s.recordGap v c time cause).pix = s.pix ∧ (s.recordGap v c time cause).pdp = s.pdp ∧
    (s.recordGap v c time cause).tab = s.tab ∧ (s.recordGap v c time cause).pin = s.pin ∧
    (s.recordGap v c time cause).hkc = s.hkc ∧ (s.recordGap v c time cause).tap = s.tap ∧
    (s.recordGap v c time cause).pad = s.pad ∧ (s.recordGap v c time cause).nvs.mem = s.nvs.mem := by
  simp [State.recordGap]

@[simp] theorem State.timeValue_frame (s : State) (v : Nat) (c : Word64) (t : Word64) :
    (s.timeValue v c t).pending = s.pending ∧ (s.timeValue v c t).free = s.free ∧ (s.timeValue v c t).clk = s.clk ∧
    (s.timeValue v c t).rst = s.rst ∧ (s.timeValue v c t).wdg = s.wdg ∧ (s.timeValue v c t).reg = s.reg ∧
    (s.timeValue v c t).ctl = s.ctl ∧ (s.timeValue v c t).ev = s.ev ∧ (s.timeValue v c t).par = s.par ∧
    (s.timeValue v c t).fus = s.fus ∧ (s.timeValue v c t).role = s.role ∧ (s.timeValue v c t).fw = s.fw ∧
    (s.timeValue v c t).led = s.led ∧ (s.timeValue v c t).pace = s.pace ∧ (s.timeValue v c t).lnk = s.lnk ∧
    (s.timeValue v c t).ets = s.ets ∧ (s.timeValue v c t).pix = s.pix ∧ (s.timeValue v c t).pdp = s.pdp ∧
    (s.timeValue v c t).tab = s.tab ∧ (s.timeValue v c t).pin = s.pin ∧ (s.timeValue v c t).hkc = s.hkc ∧
    (s.timeValue v c t).tap = s.tap ∧ (s.timeValue v c t).pad = s.pad ∧ (s.timeValue v c t).nvs.mem = s.nvs.mem := by
  simp [State.timeValue]

@[simp] theorem State.closeSegment_frame (s : State) (v : Nat) (f : Segment → Segment) :
    (s.closeSegment v f).pending = s.pending ∧ (s.closeSegment v f).free = s.free ∧ (s.closeSegment v f).clk = s.clk ∧
    (s.closeSegment v f).rst = s.rst ∧ (s.closeSegment v f).wdg = s.wdg ∧ (s.closeSegment v f).reg = s.reg ∧
    (s.closeSegment v f).ctl = s.ctl ∧ (s.closeSegment v f).ev = s.ev ∧ (s.closeSegment v f).par = s.par ∧
    (s.closeSegment v f).fus = s.fus ∧ (s.closeSegment v f).role = s.role ∧ (s.closeSegment v f).fw = s.fw ∧
    (s.closeSegment v f).led = s.led ∧ (s.closeSegment v f).pace = s.pace ∧ (s.closeSegment v f).lnk = s.lnk ∧
    (s.closeSegment v f).ets = s.ets ∧ (s.closeSegment v f).pix = s.pix ∧ (s.closeSegment v f).pdp = s.pdp ∧
    (s.closeSegment v f).tab = s.tab ∧ (s.closeSegment v f).pin = s.pin ∧ (s.closeSegment v f).hkc = s.hkc ∧
    (s.closeSegment v f).tap = s.tap ∧ (s.closeSegment v f).pad = s.pad ∧ (s.closeSegment v f).nvs.mem = s.nvs.mem := by
  simp [State.closeSegment]

@[simp] theorem State.closeAll_frame (s : State) (f : Segment → Segment) :
    (s.closeAll f).pending = s.pending ∧ (s.closeAll f).free = s.free ∧ (s.closeAll f).clk = s.clk ∧
    (s.closeAll f).rst = s.rst ∧ (s.closeAll f).wdg = s.wdg ∧ (s.closeAll f).reg = s.reg ∧ (s.closeAll f).ctl = s.ctl ∧
    (s.closeAll f).ev = s.ev ∧ (s.closeAll f).par = s.par ∧ (s.closeAll f).fus = s.fus ∧ (s.closeAll f).role = s.role ∧
    (s.closeAll f).fw = s.fw ∧ (s.closeAll f).led = s.led ∧ (s.closeAll f).pace = s.pace ∧ (s.closeAll f).lnk = s.lnk ∧
    (s.closeAll f).ets = s.ets ∧ (s.closeAll f).pix = s.pix ∧ (s.closeAll f).pdp = s.pdp ∧ (s.closeAll f).tab = s.tab ∧
    (s.closeAll f).pin = s.pin ∧ (s.closeAll f).hkc = s.hkc ∧ (s.closeAll f).tap = s.tap ∧ (s.closeAll f).pad = s.pad ∧
    (s.closeAll f).nvs.mem = s.nvs.mem := by
  simp [State.closeAll]

@[simp] theorem State.enterVermilion_frame (s : State) (bit : Nat) :
    (s.enterVermilion bit).pending = s.pending ∧ (s.enterVermilion bit).free = s.free ∧ (s.enterVermilion bit).clk = s.clk ∧
    (s.enterVermilion bit).rst = s.rst ∧ (s.enterVermilion bit).wdg = s.wdg ∧ (s.enterVermilion bit).ctl = s.ctl ∧
    (s.enterVermilion bit).par = s.par ∧ (s.enterVermilion bit).fus = s.fus ∧ (s.enterVermilion bit).role = s.role ∧
    (s.enterVermilion bit).fw = s.fw ∧ (s.enterVermilion bit).led = s.led ∧ (s.enterVermilion bit).pace = s.pace ∧
    (s.enterVermilion bit).ets = s.ets ∧ (s.enterVermilion bit).pix = s.pix ∧ (s.enterVermilion bit).pdp = s.pdp ∧
    (s.enterVermilion bit).tab = s.tab ∧ (s.enterVermilion bit).pin = s.pin ∧ (s.enterVermilion bit).hkc = s.hkc ∧
    (s.enterVermilion bit).tap = s.tap ∧ (s.enterVermilion bit).pad = s.pad ∧ (s.enterVermilion bit).nvs.mem = s.nvs.mem := by
  unfold State.enterVermilion; dsimp only; repeat' (first | (simp; done) | split)

@[simp] theorem State.markStep_frame (s : State) :
    s.markStep.pending = s.pending ∧ s.markStep.free = s.free ∧ s.markStep.clk = s.clk ∧ s.markStep.pwr = s.pwr ∧
    s.markStep.rst = s.rst ∧ s.markStep.wdg = s.wdg ∧ s.markStep.reg = s.reg ∧ s.markStep.ctl = s.ctl ∧ s.markStep.ev = s.ev ∧
    s.markStep.par = s.par ∧ s.markStep.fus = s.fus ∧ s.markStep.role = s.role ∧ s.markStep.fw = s.fw ∧
    s.markStep.nvs = s.nvs ∧ s.markStep.led = s.led ∧ s.markStep.sea = s.sea ∧ s.markStep.pace = s.pace ∧
    s.markStep.lnk = s.lnk ∧ s.markStep.ets = s.ets ∧ s.markStep.pix = s.pix ∧ s.markStep.pdp = s.pdp ∧
    s.markStep.tab = s.tab ∧ s.markStep.pin = s.pin ∧ s.markStep.hkc = s.hkc ∧ s.markStep.tap = s.tap ∧ s.markStep.pad = s.pad
        := by
  simp [State.markStep]

@[simp] theorem State.stepTime_frame (s : State) (source : Nat) (step : Int) :
    (s.stepTime source step).pending = s.pending ∧ (s.stepTime source step).free = s.free ∧
    (s.stepTime source step).pwr = s.pwr ∧ (s.stepTime source step).rst = s.rst ∧ (s.stepTime source step).wdg = s.wdg ∧
    (s.stepTime source step).ctl = s.ctl ∧ (s.stepTime source step).par = s.par ∧ (s.stepTime source step).fus = s.fus ∧
    (s.stepTime source step).role = s.role ∧ (s.stepTime source step).fw = s.fw ∧ (s.stepTime source step).led = s.led ∧
    (s.stepTime source step).sea = s.sea ∧ (s.stepTime source step).pace = s.pace ∧ (s.stepTime source step).ets = s.ets ∧
    (s.stepTime source step).pix = s.pix ∧ (s.stepTime source step).pdp = s.pdp ∧ (s.stepTime source step).tab = s.tab ∧
    (s.stepTime source step).pin = s.pin ∧ (s.stepTime source step).hkc = s.hkc ∧ (s.stepTime source step).tap = s.tap ∧
    (s.stepTime source step).pad = s.pad ∧ (s.stepTime source step).nvs.mem = s.nvs.mem := by
  simp [State.stepTime]

@[simp] theorem State.setPar_frame (s : State) (id v : Nat) :
    (s.setPar id v).pending = s.pending ∧ (s.setPar id v).free = s.free ∧ (s.setPar id v).clk = s.clk ∧
    (s.setPar id v).pwr = s.pwr ∧ (s.setPar id v).rst = s.rst ∧ (s.setPar id v).wdg = s.wdg ∧ (s.setPar id v).reg = s.reg ∧
    (s.setPar id v).ctl = s.ctl ∧ (s.setPar id v).ev = s.ev ∧ (s.setPar id v).fus = s.fus ∧ (s.setPar id v).role = s.role ∧
    (s.setPar id v).fw = s.fw ∧ (s.setPar id v).nvs = s.nvs ∧ (s.setPar id v).led = s.led ∧ (s.setPar id v).sea = s.sea ∧
    (s.setPar id v).view = s.view ∧ (s.setPar id v).pace = s.pace ∧ (s.setPar id v).lnk = s.lnk ∧ (s.setPar id v).ets = s.ets ∧
    (s.setPar id v).pix = s.pix ∧ (s.setPar id v).pdp = s.pdp ∧ (s.setPar id v).tab = s.tab ∧ (s.setPar id v).pin = s.pin ∧
    (s.setPar id v).hkc = s.hkc ∧ (s.setPar id v).tap = s.tap ∧ (s.setPar id v).pad = s.pad := by
  simp [State.setPar]

@[simp] theorem State.storePar_frame (s : State) (id v : Nat) :
    (s.storePar id v).pending = s.pending ∧ (s.storePar id v).free = s.free ∧ (s.storePar id v).clk = s.clk ∧
    (s.storePar id v).pwr = s.pwr ∧ (s.storePar id v).rst = s.rst ∧ (s.storePar id v).wdg = s.wdg ∧
    (s.storePar id v).reg = s.reg ∧ (s.storePar id v).ctl = s.ctl ∧ (s.storePar id v).ev = s.ev ∧
    (s.storePar id v).fus = s.fus ∧ (s.storePar id v).role = s.role ∧ (s.storePar id v).fw = s.fw ∧
    (s.storePar id v).nvs = s.nvs ∧ (s.storePar id v).led = s.led ∧ (s.storePar id v).sea = s.sea ∧
    (s.storePar id v).view = s.view ∧ (s.storePar id v).pace = s.pace ∧ (s.storePar id v).lnk = s.lnk ∧
    (s.storePar id v).ets = s.ets ∧ (s.storePar id v).pix = s.pix ∧ (s.storePar id v).pdp = s.pdp ∧
    (s.storePar id v).tab = s.tab ∧ (s.storePar id v).pin = s.pin ∧ (s.storePar id v).hkc = s.hkc ∧
    (s.storePar id v).tap = s.tap ∧ (s.storePar id v).pad = s.pad := by
  simp [State.storePar]

@[simp] theorem State.linkTo_frame (s : State) (x : LinkState) :
    (s.linkTo x).pending = s.pending ∧ (s.linkTo x).free = s.free ∧ (s.linkTo x).clk = s.clk ∧ (s.linkTo x).pwr = s.pwr ∧
    (s.linkTo x).rst = s.rst ∧ (s.linkTo x).wdg = s.wdg ∧ (s.linkTo x).reg = s.reg ∧ (s.linkTo x).ctl = s.ctl ∧
    (s.linkTo x).ev = s.ev ∧ (s.linkTo x).par = s.par ∧ (s.linkTo x).fus = s.fus ∧ (s.linkTo x).role = s.role ∧
    (s.linkTo x).fw = s.fw ∧ (s.linkTo x).nvs = s.nvs ∧ (s.linkTo x).led = s.led ∧ (s.linkTo x).sea = s.sea ∧
    (s.linkTo x).view = s.view ∧ (s.linkTo x).pace = s.pace ∧ (s.linkTo x).ets = s.ets ∧ (s.linkTo x).pix = s.pix ∧
    (s.linkTo x).pdp = s.pdp ∧ (s.linkTo x).tab = s.tab ∧ (s.linkTo x).pin = s.pin ∧ (s.linkTo x).hkc = s.hkc ∧
    (s.linkTo x).tap = s.tap ∧ (s.linkTo x).pad = s.pad := by
  simp [State.linkTo]

@[simp] theorem State.linkDown_frame (s : State) (reason : Nat) :
    (s.linkDown reason).pending = s.pending ∧ (s.linkDown reason).free = s.free ∧ (s.linkDown reason).clk = s.clk ∧
    (s.linkDown reason).pwr = s.pwr ∧ (s.linkDown reason).rst = s.rst ∧ (s.linkDown reason).wdg = s.wdg ∧
    (s.linkDown reason).ctl = s.ctl ∧ (s.linkDown reason).par = s.par ∧ (s.linkDown reason).fus = s.fus ∧
    (s.linkDown reason).role = s.role ∧ (s.linkDown reason).fw = s.fw ∧ (s.linkDown reason).nvs = s.nvs ∧
    (s.linkDown reason).led = s.led ∧ (s.linkDown reason).sea = s.sea ∧ (s.linkDown reason).view = s.view ∧
    (s.linkDown reason).pace = s.pace ∧ (s.linkDown reason).ets = s.ets ∧ (s.linkDown reason).pix = s.pix ∧
    (s.linkDown reason).pdp = s.pdp ∧ (s.linkDown reason).tab = s.tab ∧ (s.linkDown reason).pin = s.pin ∧
    (s.linkDown reason).hkc = s.hkc ∧ (s.linkDown reason).tap = s.tap ∧ (s.linkDown reason).pad = s.pad := by
  simp [State.linkDown]

@[simp] theorem State.leaveUp_frame (s : State) :
    s.leaveUp.pending = s.pending ∧ s.leaveUp.free = s.free ∧ s.leaveUp.clk = s.clk ∧ s.leaveUp.pwr = s.pwr ∧
    s.leaveUp.rst = s.rst ∧ s.leaveUp.wdg = s.wdg ∧ s.leaveUp.ctl = s.ctl ∧ s.leaveUp.ev = s.ev ∧ s.leaveUp.par = s.par ∧
    s.leaveUp.fus = s.fus ∧ s.leaveUp.role = s.role ∧ s.leaveUp.fw = s.fw ∧ s.leaveUp.nvs = s.nvs ∧ s.leaveUp.led = s.led ∧
    s.leaveUp.sea = s.sea ∧ s.leaveUp.view = s.view ∧ s.leaveUp.pace = s.pace ∧ s.leaveUp.ets = s.ets ∧ s.leaveUp.pix = s.pix ∧
    s.leaveUp.pdp = s.pdp ∧ s.leaveUp.tab = s.tab ∧ s.leaveUp.pin = s.pin ∧ s.leaveUp.hkc = s.hkc ∧ s.leaveUp.tap = s.tap ∧
    s.leaveUp.pad = s.pad := by
  simp [State.leaveUp]

@[simp] theorem State.lanesOff_frame (s : State) :
    s.lanesOff.pending = s.pending ∧ s.lanesOff.free = s.free ∧ s.lanesOff.clk = s.clk ∧ s.lanesOff.rst = s.rst ∧
    s.lanesOff.wdg = s.wdg ∧ s.lanesOff.reg = s.reg ∧ s.lanesOff.ctl = s.ctl ∧ s.lanesOff.ev = s.ev ∧ s.lanesOff.par = s.par ∧
    s.lanesOff.fus = s.fus ∧ s.lanesOff.role = s.role ∧ s.lanesOff.fw = s.fw ∧ s.lanesOff.nvs = s.nvs ∧
    s.lanesOff.led = s.led ∧ s.lanesOff.sea = s.sea ∧ s.lanesOff.view = s.view ∧ s.lanesOff.pace = s.pace ∧
    s.lanesOff.ets = s.ets ∧ s.lanesOff.pix = s.pix ∧ s.lanesOff.pdp = s.pdp ∧ s.lanesOff.tab = s.tab ∧
    s.lanesOff.pin = s.pin ∧ s.lanesOff.hkc = s.hkc ∧ s.lanesOff.tap = s.tap ∧ s.lanesOff.pad = s.pad := by
  simp [State.lanesOff]

@[simp] theorem State.frameLanes_frame (s : State) (lanes : List Nat) (own : Bool) (rate : Nat) :
    (s.frameLanes lanes own rate).pending = s.pending ∧ (s.frameLanes lanes own rate).clk = s.clk ∧
    (s.frameLanes lanes own rate).pwr = s.pwr ∧ (s.frameLanes lanes own rate).rst = s.rst ∧
    (s.frameLanes lanes own rate).wdg = s.wdg ∧ (s.frameLanes lanes own rate).reg = s.reg ∧
    (s.frameLanes lanes own rate).ctl = s.ctl ∧ (s.frameLanes lanes own rate).ev = s.ev ∧
    (s.frameLanes lanes own rate).par = s.par ∧ (s.frameLanes lanes own rate).fus = s.fus ∧
    (s.frameLanes lanes own rate).role = s.role ∧ (s.frameLanes lanes own rate).fw = s.fw ∧
    (s.frameLanes lanes own rate).nvs = s.nvs ∧ (s.frameLanes lanes own rate).led = s.led ∧
    (s.frameLanes lanes own rate).sea = s.sea ∧ (s.frameLanes lanes own rate).view = s.view ∧
    (s.frameLanes lanes own rate).pace = s.pace ∧ (s.frameLanes lanes own rate).ets = s.ets ∧
    (s.frameLanes lanes own rate).pix = s.pix ∧ (s.frameLanes lanes own rate).pdp = s.pdp ∧
    (s.frameLanes lanes own rate).tab = s.tab ∧ (s.frameLanes lanes own rate).pin = s.pin ∧
    (s.frameLanes lanes own rate).hkc = s.hkc ∧ (s.frameLanes lanes own rate).tap = s.tap ∧
    (s.frameLanes lanes own rate).pad = s.pad := by
  simp [State.frameLanes]

@[simp] theorem State.lanesOn_frame (s : State) (l : List Nat) :
    (s.lanesOn l).pending = s.pending ∧ (s.lanesOn l).free = s.free ∧ (s.lanesOn l).clk = s.clk ∧ (s.lanesOn l).rst = s.rst ∧
    (s.lanesOn l).wdg = s.wdg ∧ (s.lanesOn l).reg = s.reg ∧ (s.lanesOn l).ctl = s.ctl ∧ (s.lanesOn l).ev = s.ev ∧
    (s.lanesOn l).par = s.par ∧ (s.lanesOn l).fus = s.fus ∧ (s.lanesOn l).role = s.role ∧ (s.lanesOn l).fw = s.fw ∧
    (s.lanesOn l).nvs = s.nvs ∧ (s.lanesOn l).led = s.led ∧ (s.lanesOn l).sea = s.sea ∧ (s.lanesOn l).view = s.view ∧
    (s.lanesOn l).pace = s.pace ∧ (s.lanesOn l).lnk = s.lnk ∧ (s.lanesOn l).ets = s.ets ∧ (s.lanesOn l).pix = s.pix ∧
    (s.lanesOn l).pdp = s.pdp ∧ (s.lanesOn l).tab = s.tab ∧ (s.lanesOn l).pin = s.pin ∧ (s.lanesOn l).hkc = s.hkc ∧
    (s.lanesOn l).tap = s.tap ∧ (s.lanesOn l).pad = s.pad := by
  simp [State.lanesOn]

@[simp] theorem State.enterHop_frame (s : State) (rate : Nat) :
    (s.enterHop rate).pending = s.pending ∧ (s.enterHop rate).rst = s.rst ∧ (s.enterHop rate).wdg = s.wdg ∧
    (s.enterHop rate).reg = s.reg ∧ (s.enterHop rate).ctl = s.ctl ∧ (s.enterHop rate).ev = s.ev ∧
    (s.enterHop rate).par = s.par ∧ (s.enterHop rate).fus = s.fus ∧ (s.enterHop rate).role = s.role ∧
    (s.enterHop rate).fw = s.fw ∧ (s.enterHop rate).nvs = s.nvs ∧ (s.enterHop rate).led = s.led ∧
    (s.enterHop rate).sea = s.sea ∧ (s.enterHop rate).view = s.view ∧ (s.enterHop rate).pace = s.pace ∧
    (s.enterHop rate).ets = s.ets ∧ (s.enterHop rate).pix = s.pix ∧ (s.enterHop rate).pdp = s.pdp ∧
    (s.enterHop rate).tab = s.tab ∧ (s.enterHop rate).pin = s.pin ∧ (s.enterHop rate).hkc = s.hkc ∧
    (s.enterHop rate).tap = s.tap ∧ (s.enterHop rate).pad = s.pad := by
  simp [State.enterHop]

@[simp] theorem State.takeLinkValues_frame (s : State) :
    s.takeLinkValues.pending = s.pending ∧ s.takeLinkValues.free = s.free ∧ s.takeLinkValues.clk = s.clk ∧
    s.takeLinkValues.pwr = s.pwr ∧ s.takeLinkValues.rst = s.rst ∧ s.takeLinkValues.wdg = s.wdg ∧ s.takeLinkValues.reg = s.reg ∧
    s.takeLinkValues.ctl = s.ctl ∧ s.takeLinkValues.ev = s.ev ∧ s.takeLinkValues.par = s.par ∧ s.takeLinkValues.fus = s.fus ∧
    s.takeLinkValues.role = s.role ∧ s.takeLinkValues.fw = s.fw ∧ s.takeLinkValues.nvs = s.nvs ∧ s.takeLinkValues.led = s.led ∧
    s.takeLinkValues.sea = s.sea ∧ s.takeLinkValues.view = s.view ∧ s.takeLinkValues.pace = s.pace ∧
    s.takeLinkValues.ets = s.ets ∧ s.takeLinkValues.pix = s.pix ∧ s.takeLinkValues.pdp = s.pdp ∧ s.takeLinkValues.tab = s.tab ∧
    s.takeLinkValues.pin = s.pin ∧ s.takeLinkValues.hkc = s.hkc ∧ s.takeLinkValues.tap = s.tap ∧ s.takeLinkValues.pad = s.pad
        := by
  simp [State.takeLinkValues]

@[simp] theorem State.enterAcquire_frame (s : State) :
    s.enterAcquire.pending = s.pending ∧ s.enterAcquire.free = s.free ∧ s.enterAcquire.rst = s.rst ∧
    s.enterAcquire.wdg = s.wdg ∧ s.enterAcquire.reg = s.reg ∧ s.enterAcquire.ctl = s.ctl ∧ s.enterAcquire.ev = s.ev ∧
    s.enterAcquire.par = s.par ∧ s.enterAcquire.fus = s.fus ∧ s.enterAcquire.role = s.role ∧ s.enterAcquire.fw = s.fw ∧
    s.enterAcquire.nvs = s.nvs ∧ s.enterAcquire.led = s.led ∧ s.enterAcquire.sea = s.sea ∧ s.enterAcquire.view = s.view ∧
    s.enterAcquire.pace = s.pace ∧ s.enterAcquire.ets = s.ets ∧ s.enterAcquire.pix = s.pix ∧ s.enterAcquire.pdp = s.pdp ∧
    s.enterAcquire.tab = s.tab ∧ s.enterAcquire.pin = s.pin ∧ s.enterAcquire.hkc = s.hkc ∧ s.enterAcquire.tap = s.tap ∧
    s.enterAcquire.pad = s.pad := by
  simp [State.enterAcquire]

@[simp] theorem State.failBringUp_frame (s : State) :
    s.failBringUp.pending = s.pending ∧ s.failBringUp.free = s.free ∧ s.failBringUp.clk = s.clk ∧ s.failBringUp.rst = s.rst ∧
    s.failBringUp.wdg = s.wdg ∧ s.failBringUp.ctl = s.ctl ∧ s.failBringUp.par = s.par ∧ s.failBringUp.fus = s.fus ∧
    s.failBringUp.role = s.role ∧ s.failBringUp.fw = s.fw ∧ s.failBringUp.nvs = s.nvs ∧ s.failBringUp.led = s.led ∧
    s.failBringUp.sea = s.sea ∧ s.failBringUp.view = s.view ∧ s.failBringUp.pace = s.pace ∧ s.failBringUp.ets = s.ets ∧
    s.failBringUp.pix = s.pix ∧ s.failBringUp.pdp = s.pdp ∧ s.failBringUp.tab = s.tab ∧ s.failBringUp.pin = s.pin ∧
    s.failBringUp.hkc = s.hkc ∧ s.failBringUp.tap = s.tap ∧ s.failBringUp.pad = s.pad := by
  simp [State.failBringUp]

@[simp] theorem State.retrain_frame (s : State) (reason : Nat) :
    (s.retrain reason).pending = s.pending ∧ (s.retrain reason).rst = s.rst ∧ (s.retrain reason).wdg = s.wdg ∧
    (s.retrain reason).ctl = s.ctl ∧ (s.retrain reason).par = s.par ∧ (s.retrain reason).fus = s.fus ∧
    (s.retrain reason).role = s.role ∧ (s.retrain reason).fw = s.fw ∧ (s.retrain reason).nvs = s.nvs ∧
    (s.retrain reason).led = s.led ∧ (s.retrain reason).sea = s.sea ∧ (s.retrain reason).view = s.view ∧
    (s.retrain reason).pace = s.pace ∧ (s.retrain reason).ets = s.ets ∧ (s.retrain reason).pix = s.pix ∧
    (s.retrain reason).pdp = s.pdp ∧ (s.retrain reason).tab = s.tab ∧ (s.retrain reason).pin = s.pin ∧
    (s.retrain reason).hkc = s.hkc ∧ (s.retrain reason).tap = s.tap ∧ (s.retrain reason).pad = s.pad := by
  simp [State.retrain]

@[simp] theorem State.linkOff_frame (s : State) (reason : Nat) :
    (s.linkOff reason).pending = s.pending ∧ (s.linkOff reason).free = s.free ∧ (s.linkOff reason).rst = s.rst ∧
    (s.linkOff reason).wdg = s.wdg ∧ (s.linkOff reason).ctl = s.ctl ∧ (s.linkOff reason).par = s.par ∧
    (s.linkOff reason).fus = s.fus ∧ (s.linkOff reason).role = s.role ∧ (s.linkOff reason).fw = s.fw ∧
    (s.linkOff reason).nvs = s.nvs ∧ (s.linkOff reason).led = s.led ∧ (s.linkOff reason).sea = s.sea ∧
    (s.linkOff reason).view = s.view ∧ (s.linkOff reason).pace = s.pace ∧ (s.linkOff reason).ets = s.ets ∧
    (s.linkOff reason).pix = s.pix ∧ (s.linkOff reason).pdp = s.pdp ∧ (s.linkOff reason).tab = s.tab ∧
    (s.linkOff reason).pin = s.pin ∧ (s.linkOff reason).hkc = s.hkc ∧ (s.linkOff reason).tap = s.tap ∧
    (s.linkOff reason).pad = s.pad := by
  simp [State.linkOff]

@[simp] theorem State.enterAdapt_frame (s : State) :
    s.enterAdapt.pending = s.pending ∧ s.enterAdapt.free = s.free ∧ s.enterAdapt.clk = s.clk ∧ s.enterAdapt.pwr = s.pwr ∧
    s.enterAdapt.rst = s.rst ∧ s.enterAdapt.wdg = s.wdg ∧ s.enterAdapt.reg = s.reg ∧ s.enterAdapt.ctl = s.ctl ∧
    s.enterAdapt.ev = s.ev ∧ s.enterAdapt.par = s.par ∧ s.enterAdapt.fus = s.fus ∧ s.enterAdapt.role = s.role ∧
    s.enterAdapt.fw = s.fw ∧ s.enterAdapt.nvs = s.nvs ∧ s.enterAdapt.led = s.led ∧ s.enterAdapt.sea = s.sea ∧
    s.enterAdapt.view = s.view ∧ s.enterAdapt.pace = s.pace ∧ s.enterAdapt.ets = s.ets ∧ s.enterAdapt.pix = s.pix ∧
    s.enterAdapt.pdp = s.pdp ∧ s.enterAdapt.tab = s.tab ∧ s.enterAdapt.pin = s.pin ∧ s.enterAdapt.hkc = s.hkc ∧
    s.enterAdapt.tap = s.tap ∧ s.enterAdapt.pad = s.pad := by
  simp [State.enterAdapt]

@[simp] theorem State.enterAlign_frame (s : State) (rate n : Nat) :
    (s.enterAlign rate n).pending = s.pending ∧ (s.enterAlign rate n).clk = s.clk ∧ (s.enterAlign rate n).rst = s.rst ∧
    (s.enterAlign rate n).wdg = s.wdg ∧ (s.enterAlign rate n).reg = s.reg ∧ (s.enterAlign rate n).ctl = s.ctl ∧
    (s.enterAlign rate n).ev = s.ev ∧ (s.enterAlign rate n).par = s.par ∧ (s.enterAlign rate n).fus = s.fus ∧
    (s.enterAlign rate n).role = s.role ∧ (s.enterAlign rate n).fw = s.fw ∧ (s.enterAlign rate n).nvs = s.nvs ∧
    (s.enterAlign rate n).led = s.led ∧ (s.enterAlign rate n).sea = s.sea ∧ (s.enterAlign rate n).view = s.view ∧
    (s.enterAlign rate n).pace = s.pace ∧ (s.enterAlign rate n).ets = s.ets ∧ (s.enterAlign rate n).pix = s.pix ∧
    (s.enterAlign rate n).pdp = s.pdp ∧ (s.enterAlign rate n).tab = s.tab ∧ (s.enterAlign rate n).pin = s.pin ∧
    (s.enterAlign rate n).hkc = s.hkc ∧ (s.enterAlign rate n).tap = s.tap ∧ (s.enterAlign rate n).pad = s.pad := by
  simp [State.enterAlign]

@[simp] theorem State.afterHop_frame (s : State) :
    s.afterHop.pending = s.pending ∧ s.afterHop.clk = s.clk ∧ s.afterHop.rst = s.rst ∧ s.afterHop.wdg = s.wdg ∧
    s.afterHop.reg = s.reg ∧ s.afterHop.ctl = s.ctl ∧ s.afterHop.ev = s.ev ∧ s.afterHop.par = s.par ∧ s.afterHop.fus = s.fus ∧
    s.afterHop.role = s.role ∧ s.afterHop.fw = s.fw ∧ s.afterHop.nvs = s.nvs ∧ s.afterHop.led = s.led ∧
    s.afterHop.sea = s.sea ∧ s.afterHop.view = s.view ∧ s.afterHop.pace = s.pace ∧ s.afterHop.ets = s.ets ∧
    s.afterHop.pix = s.pix ∧ s.afterHop.pdp = s.pdp ∧ s.afterHop.tab = s.tab ∧ s.afterHop.pin = s.pin ∧
    s.afterHop.hkc = s.hkc ∧ s.afterHop.tap = s.tap ∧ s.afterHop.pad = s.pad := by
  simp [State.afterHop]

@[simp] theorem State.enterIdent_frame (s : State) :
    s.enterIdent.pending = s.pending ∧ s.enterIdent.free = s.free ∧ s.enterIdent.clk = s.clk ∧ s.enterIdent.rst = s.rst ∧
    s.enterIdent.wdg = s.wdg ∧ s.enterIdent.reg = s.reg ∧ s.enterIdent.ctl = s.ctl ∧ s.enterIdent.ev = s.ev ∧
    s.enterIdent.par = s.par ∧ s.enterIdent.fus = s.fus ∧ s.enterIdent.role = s.role ∧ s.enterIdent.fw = s.fw ∧
    s.enterIdent.nvs = s.nvs ∧ s.enterIdent.led = s.led ∧ s.enterIdent.sea = s.sea ∧ s.enterIdent.view = s.view ∧
    s.enterIdent.pace = s.pace ∧ s.enterIdent.ets = s.ets ∧ s.enterIdent.pix = s.pix ∧ s.enterIdent.pdp = s.pdp ∧
    s.enterIdent.tab = s.tab ∧ s.enterIdent.pin = s.pin ∧ s.enterIdent.hkc = s.hkc ∧ s.enterIdent.tap = s.tap ∧
    s.enterIdent.pad = s.pad := by
  simp [State.enterIdent]

@[simp] theorem State.wakeRetrain_frame (s : State) :
    s.wakeRetrain.pending = s.pending ∧ s.wakeRetrain.free = s.free ∧ s.wakeRetrain.clk = s.clk ∧ s.wakeRetrain.pwr = s.pwr ∧
    s.wakeRetrain.rst = s.rst ∧ s.wakeRetrain.wdg = s.wdg ∧ s.wakeRetrain.reg = s.reg ∧ s.wakeRetrain.ctl = s.ctl ∧
    s.wakeRetrain.ev = s.ev ∧ s.wakeRetrain.par = s.par ∧ s.wakeRetrain.fus = s.fus ∧ s.wakeRetrain.role = s.role ∧
    s.wakeRetrain.fw = s.fw ∧ s.wakeRetrain.nvs = s.nvs ∧ s.wakeRetrain.led = s.led ∧ s.wakeRetrain.sea = s.sea ∧
    s.wakeRetrain.view = s.view ∧ s.wakeRetrain.pace = s.pace ∧ s.wakeRetrain.ets = s.ets ∧ s.wakeRetrain.pix = s.pix ∧
    s.wakeRetrain.pdp = s.pdp ∧ s.wakeRetrain.tab = s.tab ∧ s.wakeRetrain.pin = s.pin ∧ s.wakeRetrain.hkc = s.hkc ∧
    s.wakeRetrain.tap = s.tap ∧ s.wakeRetrain.pad = s.pad := by
  simp [State.wakeRetrain]

@[simp] theorem State.hopFromAcquire_frame (s : State) :
    s.hopFromAcquire.pending = s.pending ∧ s.hopFromAcquire.rst = s.rst ∧ s.hopFromAcquire.wdg = s.wdg ∧
    s.hopFromAcquire.reg = s.reg ∧ s.hopFromAcquire.ctl = s.ctl ∧ s.hopFromAcquire.ev = s.ev ∧ s.hopFromAcquire.par = s.par ∧
    s.hopFromAcquire.fus = s.fus ∧ s.hopFromAcquire.role = s.role ∧ s.hopFromAcquire.fw = s.fw ∧ s.hopFromAcquire.nvs = s.nvs ∧
    s.hopFromAcquire.led = s.led ∧ s.hopFromAcquire.sea = s.sea ∧ s.hopFromAcquire.view = s.view ∧
    s.hopFromAcquire.pace = s.pace ∧ s.hopFromAcquire.ets = s.ets ∧ s.hopFromAcquire.pix = s.pix ∧
    s.hopFromAcquire.pdp = s.pdp ∧ s.hopFromAcquire.tab = s.tab ∧ s.hopFromAcquire.pin = s.pin ∧ s.hopFromAcquire.hkc = s.hkc ∧
    s.hopFromAcquire.tap = s.tap ∧ s.hopFromAcquire.pad = s.pad := by
  simp [State.hopFromAcquire]

@[simp] theorem State.afterAcquire_frame (s : State) :
    s.afterAcquire.pending = s.pending ∧ s.afterAcquire.rst = s.rst ∧ s.afterAcquire.wdg = s.wdg ∧ s.afterAcquire.reg = s.reg ∧
    s.afterAcquire.ctl = s.ctl ∧ s.afterAcquire.ev = s.ev ∧ s.afterAcquire.par = s.par ∧ s.afterAcquire.fus = s.fus ∧
    s.afterAcquire.role = s.role ∧ s.afterAcquire.fw = s.fw ∧ s.afterAcquire.nvs = s.nvs ∧ s.afterAcquire.led = s.led ∧
    s.afterAcquire.sea = s.sea ∧ s.afterAcquire.view = s.view ∧ s.afterAcquire.pace = s.pace ∧ s.afterAcquire.ets = s.ets ∧
    s.afterAcquire.pix = s.pix ∧ s.afterAcquire.pdp = s.pdp ∧ s.afterAcquire.tab = s.tab ∧ s.afterAcquire.pin = s.pin ∧
    s.afterAcquire.hkc = s.hkc ∧ s.afterAcquire.tap = s.tap ∧ s.afterAcquire.pad = s.pad := by
  simp [State.afterAcquire]

@[simp] theorem State.startBringUp_frame (s : State) :
    s.startBringUp.pending = s.pending ∧ s.startBringUp.rst = s.rst ∧ s.startBringUp.wdg = s.wdg ∧ s.startBringUp.reg = s.reg ∧
    s.startBringUp.ctl = s.ctl ∧ s.startBringUp.ev = s.ev ∧ s.startBringUp.par = s.par ∧ s.startBringUp.fus = s.fus ∧
    s.startBringUp.role = s.role ∧ s.startBringUp.fw = s.fw ∧ s.startBringUp.nvs = s.nvs ∧ s.startBringUp.led = s.led ∧
    s.startBringUp.sea = s.sea ∧ s.startBringUp.view = s.view ∧ s.startBringUp.pace = s.pace ∧ s.startBringUp.ets = s.ets ∧
    s.startBringUp.pix = s.pix ∧ s.startBringUp.pdp = s.pdp ∧ s.startBringUp.tab = s.tab ∧ s.startBringUp.pin = s.pin ∧
    s.startBringUp.hkc = s.hkc ∧ s.startBringUp.tap = s.tap ∧ s.startBringUp.pad = s.pad := by
  simp [State.startBringUp]

@[simp] theorem State.backToAcquire_frame (s : State) (reason : Nat) :
    (s.backToAcquire reason).pending = s.pending ∧ (s.backToAcquire reason).rst = s.rst ∧
    (s.backToAcquire reason).wdg = s.wdg ∧ (s.backToAcquire reason).ctl = s.ctl ∧ (s.backToAcquire reason).par = s.par ∧
    (s.backToAcquire reason).fus = s.fus ∧ (s.backToAcquire reason).role = s.role ∧ (s.backToAcquire reason).fw = s.fw ∧
    (s.backToAcquire reason).nvs = s.nvs ∧ (s.backToAcquire reason).led = s.led ∧ (s.backToAcquire reason).sea = s.sea ∧
    (s.backToAcquire reason).view = s.view ∧ (s.backToAcquire reason).pace = s.pace ∧ (s.backToAcquire reason).ets = s.ets ∧
    (s.backToAcquire reason).pix = s.pix ∧ (s.backToAcquire reason).pdp = s.pdp ∧ (s.backToAcquire reason).tab = s.tab ∧
    (s.backToAcquire reason).pin = s.pin ∧ (s.backToAcquire reason).hkc = s.hkc ∧ (s.backToAcquire reason).tap = s.tap ∧
    (s.backToAcquire reason).pad = s.pad := by
  unfold State.backToAcquire; split <;> simp

@[simp] theorem State.resumeBringUp_frame (s : State) :
    s.resumeBringUp.pending = s.pending ∧ s.resumeBringUp.rst = s.rst ∧ s.resumeBringUp.wdg = s.wdg ∧
    s.resumeBringUp.reg = s.reg ∧ s.resumeBringUp.ctl = s.ctl ∧ s.resumeBringUp.ev = s.ev ∧ s.resumeBringUp.par = s.par ∧
    s.resumeBringUp.fus = s.fus ∧ s.resumeBringUp.role = s.role ∧ s.resumeBringUp.fw = s.fw ∧ s.resumeBringUp.nvs = s.nvs ∧
    s.resumeBringUp.led = s.led ∧ s.resumeBringUp.sea = s.sea ∧ s.resumeBringUp.view = s.view ∧ s.resumeBringUp.pace = s.pace ∧
    s.resumeBringUp.ets = s.ets ∧ s.resumeBringUp.pix = s.pix ∧ s.resumeBringUp.pdp = s.pdp ∧ s.resumeBringUp.tab = s.tab ∧
    s.resumeBringUp.pin = s.pin ∧ s.resumeBringUp.hkc = s.hkc ∧ s.resumeBringUp.tap = s.tap ∧ s.resumeBringUp.pad = s.pad := by
  simp [State.resumeBringUp]

@[simp] theorem State.enterUp_frame (s : State) :
    s.enterUp.pending = s.pending ∧ s.enterUp.free = s.free ∧ s.enterUp.clk = s.clk ∧ s.enterUp.pwr = s.pwr ∧
    s.enterUp.rst = s.rst ∧ s.enterUp.wdg = s.wdg ∧ s.enterUp.ctl = s.ctl ∧ s.enterUp.ev = s.ev ∧ s.enterUp.par = s.par ∧
    s.enterUp.fus = s.fus ∧ s.enterUp.role = s.role ∧ s.enterUp.fw = s.fw ∧ s.enterUp.nvs = s.nvs ∧ s.enterUp.led = s.led ∧
    s.enterUp.sea = s.sea ∧ s.enterUp.view = s.view ∧ s.enterUp.pace = s.pace ∧ s.enterUp.ets = s.ets ∧ s.enterUp.pix = s.pix ∧
    s.enterUp.pdp = s.pdp ∧ s.enterUp.tab = s.tab ∧ s.enterUp.pin = s.pin ∧ s.enterUp.hkc = s.hkc ∧ s.enterUp.tap = s.tap ∧
    s.enterUp.pad = s.pad := by
  simp [State.enterUp]

@[simp] theorem State.followRetrain_frame (s : State) :
    s.followRetrain.pending = s.pending ∧ s.followRetrain.rst = s.rst ∧ s.followRetrain.wdg = s.wdg ∧
    s.followRetrain.ctl = s.ctl ∧ s.followRetrain.par = s.par ∧ s.followRetrain.fus = s.fus ∧ s.followRetrain.role = s.role ∧
    s.followRetrain.fw = s.fw ∧ s.followRetrain.nvs = s.nvs ∧ s.followRetrain.led = s.led ∧ s.followRetrain.sea = s.sea ∧
    s.followRetrain.view = s.view ∧ s.followRetrain.pace = s.pace ∧ s.followRetrain.ets = s.ets ∧ s.followRetrain.pix = s.pix ∧
    s.followRetrain.pdp = s.pdp ∧ s.followRetrain.tab = s.tab ∧ s.followRetrain.pin = s.pin ∧ s.followRetrain.hkc = s.hkc ∧
    s.followRetrain.tap = s.tap ∧ s.followRetrain.pad = s.pad := by
  unfold State.followRetrain; split <;> simp

@[simp] theorem State.askRetrain_frame (s : State) (reason : Nat) :
    (s.askRetrain reason).pending = s.pending ∧ (s.askRetrain reason).rst = s.rst ∧ (s.askRetrain reason).wdg = s.wdg ∧
    (s.askRetrain reason).ctl = s.ctl ∧ (s.askRetrain reason).par = s.par ∧ (s.askRetrain reason).fus = s.fus ∧
    (s.askRetrain reason).role = s.role ∧ (s.askRetrain reason).fw = s.fw ∧ (s.askRetrain reason).nvs = s.nvs ∧
    (s.askRetrain reason).led = s.led ∧ (s.askRetrain reason).sea = s.sea ∧ (s.askRetrain reason).view = s.view ∧
    (s.askRetrain reason).pace = s.pace ∧ (s.askRetrain reason).ets = s.ets ∧ (s.askRetrain reason).pix = s.pix ∧
    (s.askRetrain reason).pdp = s.pdp ∧ (s.askRetrain reason).tab = s.tab ∧ (s.askRetrain reason).pin = s.pin ∧
    (s.askRetrain reason).hkc = s.hkc ∧ (s.askRetrain reason).tap = s.tap ∧ (s.askRetrain reason).pad = s.pad := by
  simp [State.askRetrain]

@[simp] theorem State.endAdapt_frame (s : State) (a : Adapt) :
    (s.endAdapt a).pending = s.pending ∧ (s.endAdapt a).rst = s.rst ∧ (s.endAdapt a).wdg = s.wdg ∧ (s.endAdapt a).ctl = s.ctl ∧
    (s.endAdapt a).fus = s.fus ∧ (s.endAdapt a).role = s.role ∧ (s.endAdapt a).fw = s.fw ∧ (s.endAdapt a).nvs = s.nvs ∧
    (s.endAdapt a).led = s.led ∧ (s.endAdapt a).sea = s.sea ∧ (s.endAdapt a).view = s.view ∧ (s.endAdapt a).pace = s.pace ∧
    (s.endAdapt a).ets = s.ets ∧ (s.endAdapt a).pix = s.pix ∧ (s.endAdapt a).pdp = s.pdp ∧ (s.endAdapt a).tab = s.tab ∧
    (s.endAdapt a).pin = s.pin ∧ (s.endAdapt a).hkc = s.hkc ∧ (s.endAdapt a).tap = s.tap ∧ (s.endAdapt a).pad = s.pad := by
  simp [State.endAdapt]

@[simp] theorem State.setTint_frame (s : State) (e : Nat) (t : Tint) :
    (s.setTint e t).pending = s.pending ∧ (s.setTint e t).free = s.free ∧ (s.setTint e t).clk = s.clk ∧
    (s.setTint e t).pwr = s.pwr ∧ (s.setTint e t).rst = s.rst ∧ (s.setTint e t).wdg = s.wdg ∧ (s.setTint e t).reg = s.reg ∧
    (s.setTint e t).ctl = s.ctl ∧ (s.setTint e t).ev = s.ev ∧ (s.setTint e t).par = s.par ∧ (s.setTint e t).fus = s.fus ∧
    (s.setTint e t).role = s.role ∧ (s.setTint e t).fw = s.fw ∧ (s.setTint e t).nvs = s.nvs ∧ (s.setTint e t).led = s.led ∧
    (s.setTint e t).sea = s.sea ∧ (s.setTint e t).view = s.view ∧ (s.setTint e t).pace = s.pace ∧ (s.setTint e t).lnk = s.lnk ∧
    (s.setTint e t).ets = s.ets ∧ (s.setTint e t).pix = s.pix ∧ (s.setTint e t).pdp = s.pdp ∧ (s.setTint e t).tab = s.tab ∧
    (s.setTint e t).hkc = s.hkc ∧ (s.setTint e t).tap = s.tap ∧ (s.setTint e t).pad = s.pad ∧
    (s.setTint e t).pin.shade = s.pin.shade := by
  unfold State.setTint; split <;> simp

@[simp] theorem State.setShade_frame (s : State) (q : Nat) (x : Shade) :
    (s.setShade q x).pending = s.pending ∧ (s.setShade q x).free = s.free ∧ (s.setShade q x).clk = s.clk ∧
    (s.setShade q x).pwr = s.pwr ∧ (s.setShade q x).rst = s.rst ∧ (s.setShade q x).wdg = s.wdg ∧ (s.setShade q x).reg = s.reg ∧
    (s.setShade q x).ctl = s.ctl ∧ (s.setShade q x).ev = s.ev ∧ (s.setShade q x).par = s.par ∧ (s.setShade q x).fus = s.fus ∧
    (s.setShade q x).role = s.role ∧ (s.setShade q x).fw = s.fw ∧ (s.setShade q x).nvs = s.nvs ∧ (s.setShade q x).led = s.led ∧
    (s.setShade q x).sea = s.sea ∧ (s.setShade q x).view = s.view ∧ (s.setShade q x).pace = s.pace ∧
    (s.setShade q x).lnk = s.lnk ∧ (s.setShade q x).ets = s.ets ∧ (s.setShade q x).pix = s.pix ∧ (s.setShade q x).pdp = s.pdp ∧
    (s.setShade q x).tab = s.tab ∧ (s.setShade q x).hkc = s.hkc ∧ (s.setShade q x).tap = s.tap ∧ (s.setShade q x).pad = s.pad
        := by
  simp [State.setShade]

@[simp] theorem State.latchPad_frame (s : State) (n : Nat) (d : Latch) :
    (s.latchPad n d).pending = s.pending ∧ (s.latchPad n d).free = s.free ∧ (s.latchPad n d).clk = s.clk ∧
    (s.latchPad n d).pwr = s.pwr ∧ (s.latchPad n d).rst = s.rst ∧ (s.latchPad n d).wdg = s.wdg ∧ (s.latchPad n d).reg = s.reg ∧
    (s.latchPad n d).ctl = s.ctl ∧ (s.latchPad n d).ev = s.ev ∧ (s.latchPad n d).par = s.par ∧ (s.latchPad n d).fus = s.fus ∧
    (s.latchPad n d).role = s.role ∧ (s.latchPad n d).fw = s.fw ∧ (s.latchPad n d).nvs = s.nvs ∧ (s.latchPad n d).led = s.led ∧
    (s.latchPad n d).sea = s.sea ∧ (s.latchPad n d).view = s.view ∧ (s.latchPad n d).pace = s.pace ∧
    (s.latchPad n d).lnk = s.lnk ∧ (s.latchPad n d).ets = s.ets ∧ (s.latchPad n d).pix = s.pix ∧ (s.latchPad n d).pdp = s.pdp ∧
    (s.latchPad n d).tab = s.tab ∧ (s.latchPad n d).hkc = s.hkc ∧ (s.latchPad n d).tap = s.tap ∧ (s.latchPad n d).pad = s.pad ∧
    (s.latchPad n d).pin.shade = s.pin.shade := by
  simp [State.latchPad]

@[simp] theorem State.toSafe_frame (s : State) (l : List Nat) :
    (s.toSafe l).pending = s.pending ∧ (s.toSafe l).free = s.free ∧ (s.toSafe l).clk = s.clk ∧ (s.toSafe l).pwr = s.pwr ∧
    (s.toSafe l).rst = s.rst ∧ (s.toSafe l).wdg = s.wdg ∧ (s.toSafe l).reg = s.reg ∧ (s.toSafe l).ctl = s.ctl ∧
    (s.toSafe l).ev = s.ev ∧ (s.toSafe l).par = s.par ∧ (s.toSafe l).fus = s.fus ∧ (s.toSafe l).role = s.role ∧
    (s.toSafe l).fw = s.fw ∧ (s.toSafe l).nvs = s.nvs ∧ (s.toSafe l).led = s.led ∧ (s.toSafe l).sea = s.sea ∧
    (s.toSafe l).view = s.view ∧ (s.toSafe l).pace = s.pace ∧ (s.toSafe l).lnk = s.lnk ∧ (s.toSafe l).ets = s.ets ∧
    (s.toSafe l).pix = s.pix ∧ (s.toSafe l).pdp = s.pdp ∧ (s.toSafe l).tab = s.tab ∧ (s.toSafe l).hkc = s.hkc ∧
    (s.toSafe l).tap = s.tap ∧ (s.toSafe l).pad = s.pad ∧ (s.toSafe l).pin.shade = s.pin.shade := by
  simp [State.toSafe]

@[simp] theorem State.drivePin_frame (s : State) (q n : Nat) (d : Latch) :
    (s.drivePin q n d).pending = s.pending ∧ (s.drivePin q n d).free = s.free ∧ (s.drivePin q n d).clk = s.clk ∧
    (s.drivePin q n d).pwr = s.pwr ∧ (s.drivePin q n d).rst = s.rst ∧ (s.drivePin q n d).wdg = s.wdg ∧
    (s.drivePin q n d).reg = s.reg ∧ (s.drivePin q n d).ctl = s.ctl ∧ (s.drivePin q n d).ev = s.ev ∧
    (s.drivePin q n d).par = s.par ∧ (s.drivePin q n d).fus = s.fus ∧ (s.drivePin q n d).role = s.role ∧
    (s.drivePin q n d).fw = s.fw ∧ (s.drivePin q n d).nvs = s.nvs ∧ (s.drivePin q n d).led = s.led ∧
    (s.drivePin q n d).sea = s.sea ∧ (s.drivePin q n d).view = s.view ∧ (s.drivePin q n d).pace = s.pace ∧
    (s.drivePin q n d).lnk = s.lnk ∧ (s.drivePin q n d).ets = s.ets ∧ (s.drivePin q n d).pix = s.pix ∧
    (s.drivePin q n d).pdp = s.pdp ∧ (s.drivePin q n d).tab = s.tab ∧ (s.drivePin q n d).hkc = s.hkc ∧
    (s.drivePin q n d).tap = s.tap ∧ (s.drivePin q n d).pad = s.pad ∧ (s.drivePin q n d).pin.shade = s.pin.shade := by
  unfold State.drivePin; split <;> simp

@[simp] theorem State.startTint_frame (s : State) (e : Nat) :
    (s.startTint e).pending = s.pending ∧ (s.startTint e).free = s.free ∧ (s.startTint e).clk = s.clk ∧
    (s.startTint e).pwr = s.pwr ∧ (s.startTint e).rst = s.rst ∧ (s.startTint e).wdg = s.wdg ∧ (s.startTint e).reg = s.reg ∧
    (s.startTint e).ctl = s.ctl ∧ (s.startTint e).ev = s.ev ∧ (s.startTint e).par = s.par ∧ (s.startTint e).fus = s.fus ∧
    (s.startTint e).role = s.role ∧ (s.startTint e).fw = s.fw ∧ (s.startTint e).nvs = s.nvs ∧ (s.startTint e).led = s.led ∧
    (s.startTint e).sea = s.sea ∧ (s.startTint e).view = s.view ∧ (s.startTint e).pace = s.pace ∧ (s.startTint e).lnk = s.lnk ∧
    (s.startTint e).ets = s.ets ∧ (s.startTint e).pix = s.pix ∧ (s.startTint e).pdp = s.pdp ∧ (s.startTint e).tab = s.tab ∧
    (s.startTint e).hkc = s.hkc ∧ (s.startTint e).tap = s.tap ∧ (s.startTint e).pad = s.pad ∧
    (s.startTint e).pin.shade = s.pin.shade := by
  simp [State.startTint]

@[simp] theorem State.stopTint_frame (s : State) (e : Nat) :
    (s.stopTint e).pending = s.pending ∧ (s.stopTint e).free = s.free ∧ (s.stopTint e).clk = s.clk ∧
    (s.stopTint e).pwr = s.pwr ∧ (s.stopTint e).rst = s.rst ∧ (s.stopTint e).wdg = s.wdg ∧ (s.stopTint e).reg = s.reg ∧
    (s.stopTint e).ctl = s.ctl ∧ (s.stopTint e).ev = s.ev ∧ (s.stopTint e).par = s.par ∧ (s.stopTint e).fus = s.fus ∧
    (s.stopTint e).role = s.role ∧ (s.stopTint e).fw = s.fw ∧ (s.stopTint e).nvs = s.nvs ∧ (s.stopTint e).led = s.led ∧
    (s.stopTint e).sea = s.sea ∧ (s.stopTint e).view = s.view ∧ (s.stopTint e).pace = s.pace ∧ (s.stopTint e).lnk = s.lnk ∧
    (s.stopTint e).ets = s.ets ∧ (s.stopTint e).pix = s.pix ∧ (s.stopTint e).pdp = s.pdp ∧ (s.stopTint e).tab = s.tab ∧
    (s.stopTint e).hkc = s.hkc ∧ (s.stopTint e).tap = s.tap ∧ (s.stopTint e).pad = s.pad ∧
    (s.stopTint e).pin.shade = s.pin.shade := by
  unfold State.stopTint; split <;> simp

@[simp] theorem State.runTints_frame (s : State) (mask : Nat) :
    (s.runTints mask).pending = s.pending ∧ (s.runTints mask).free = s.free ∧ (s.runTints mask).clk = s.clk ∧
    (s.runTints mask).pwr = s.pwr ∧ (s.runTints mask).rst = s.rst ∧ (s.runTints mask).wdg = s.wdg ∧
    (s.runTints mask).reg = s.reg ∧ (s.runTints mask).ctl = s.ctl ∧ (s.runTints mask).ev = s.ev ∧
    (s.runTints mask).par = s.par ∧ (s.runTints mask).fus = s.fus ∧ (s.runTints mask).role = s.role ∧
    (s.runTints mask).fw = s.fw ∧ (s.runTints mask).nvs = s.nvs ∧ (s.runTints mask).led = s.led ∧
    (s.runTints mask).sea = s.sea ∧ (s.runTints mask).view = s.view ∧ (s.runTints mask).pace = s.pace ∧
    (s.runTints mask).lnk = s.lnk ∧ (s.runTints mask).ets = s.ets ∧ (s.runTints mask).pix = s.pix ∧
    (s.runTints mask).pdp = s.pdp ∧ (s.runTints mask).tab = s.tab ∧ (s.runTints mask).hkc = s.hkc ∧
    (s.runTints mask).tap = s.tap ∧ (s.runTints mask).pad = s.pad ∧ (s.runTints mask).pin.shade = s.pin.shade := by
  unfold State.runTints
  repeat' apply And.intro
  all_goals first
    | apply foldl_pending | apply foldl_free | apply foldl_clk | apply foldl_pwr | apply foldl_rst | apply foldl_wdg
    | apply foldl_reg | apply foldl_ctl | apply foldl_ev | apply foldl_par | apply foldl_fus | apply foldl_role
    | apply foldl_fw | apply foldl_nvs | apply foldl_led | apply foldl_sea | apply foldl_view | apply foldl_pace
    | apply foldl_lnk | apply foldl_ets | apply foldl_pix | apply foldl_pdp | apply foldl_tab | apply foldl_hkc
    | apply foldl_tap | apply foldl_pad
    | apply foldl_shade
  all_goals (intro s e; repeat' (first | (simp; done) | split))

@[simp] theorem State.stopShade_frame (s : State) (q : Nat) :
    (s.stopShade q).pending = s.pending ∧ (s.stopShade q).free = s.free ∧ (s.stopShade q).clk = s.clk ∧
    (s.stopShade q).pwr = s.pwr ∧ (s.stopShade q).rst = s.rst ∧ (s.stopShade q).wdg = s.wdg ∧ (s.stopShade q).reg = s.reg ∧
    (s.stopShade q).ctl = s.ctl ∧ (s.stopShade q).ev = s.ev ∧ (s.stopShade q).par = s.par ∧ (s.stopShade q).fus = s.fus ∧
    (s.stopShade q).role = s.role ∧ (s.stopShade q).fw = s.fw ∧ (s.stopShade q).nvs = s.nvs ∧ (s.stopShade q).led = s.led ∧
    (s.stopShade q).sea = s.sea ∧ (s.stopShade q).view = s.view ∧ (s.stopShade q).pace = s.pace ∧ (s.stopShade q).lnk = s.lnk ∧
    (s.stopShade q).ets = s.ets ∧ (s.stopShade q).pix = s.pix ∧ (s.stopShade q).pdp = s.pdp ∧ (s.stopShade q).tab = s.tab ∧
    (s.stopShade q).hkc = s.hkc ∧ (s.stopShade q).tap = s.tap ∧ (s.stopShade q).pad = s.pad := by
  simp [State.stopShade]

@[simp] theorem State.resetArm_frame (s : State) :
    s.resetArm.pending = s.pending ∧ s.resetArm.free = s.free ∧ s.resetArm.clk = s.clk ∧ s.resetArm.pwr = s.pwr ∧
    s.resetArm.rst = s.rst ∧ s.resetArm.wdg = s.wdg ∧ s.resetArm.reg = s.reg ∧ s.resetArm.ctl = s.ctl ∧ s.resetArm.ev = s.ev ∧
    s.resetArm.par = s.par ∧ s.resetArm.fus = s.fus ∧ s.resetArm.role = s.role ∧ s.resetArm.fw = s.fw ∧
    s.resetArm.nvs = s.nvs ∧ s.resetArm.led = s.led ∧ s.resetArm.sea = s.sea ∧ s.resetArm.view = s.view ∧
    s.resetArm.pace = s.pace ∧ s.resetArm.lnk = s.lnk ∧ s.resetArm.ets = s.ets ∧ s.resetArm.pix = s.pix ∧
    s.resetArm.pdp = s.pdp ∧ s.resetArm.tab = s.tab ∧ s.resetArm.hkc = s.hkc ∧ s.resetArm.tap = s.tap ∧
    s.resetArm.pad = s.pad ∧ s.resetArm.pin.shade = s.pin.shade := by
  simp [State.resetArm]

@[simp] theorem State.dropPins_frame (s : State) :
    s.dropPins.pending = s.pending ∧ s.dropPins.free = s.free ∧ s.dropPins.clk = s.clk ∧ s.dropPins.rst = s.rst ∧
    s.dropPins.wdg = s.wdg ∧ s.dropPins.reg = s.reg ∧ s.dropPins.ctl = s.ctl ∧ s.dropPins.ev = s.ev ∧ s.dropPins.par = s.par ∧
    s.dropPins.fus = s.fus ∧ s.dropPins.role = s.role ∧ s.dropPins.fw = s.fw ∧ s.dropPins.nvs = s.nvs ∧
    s.dropPins.led = s.led ∧ s.dropPins.sea = s.sea ∧ s.dropPins.view = s.view ∧ s.dropPins.pace = s.pace ∧
    s.dropPins.lnk = s.lnk ∧ s.dropPins.ets = s.ets ∧ s.dropPins.pix = s.pix ∧ s.dropPins.pdp = s.pdp ∧
    s.dropPins.tab = s.tab ∧ s.dropPins.hkc = s.hkc ∧ s.dropPins.tap = s.tap ∧ s.dropPins.pad = s.pad := by
  simp [State.dropPins]

@[simp] theorem State.powerPins_frame (s : State) :
    s.powerPins.pending = s.pending ∧ s.powerPins.free = s.free ∧ s.powerPins.clk = s.clk ∧ s.powerPins.rst = s.rst ∧
    s.powerPins.wdg = s.wdg ∧ s.powerPins.reg = s.reg ∧ s.powerPins.ctl = s.ctl ∧ s.powerPins.ev = s.ev ∧
    s.powerPins.par = s.par ∧ s.powerPins.fus = s.fus ∧ s.powerPins.role = s.role ∧ s.powerPins.fw = s.fw ∧
    s.powerPins.nvs = s.nvs ∧ s.powerPins.led = s.led ∧ s.powerPins.sea = s.sea ∧ s.powerPins.view = s.view ∧
    s.powerPins.pace = s.pace ∧ s.powerPins.lnk = s.lnk ∧ s.powerPins.ets = s.ets ∧ s.powerPins.pix = s.pix ∧
    s.powerPins.pdp = s.pdp ∧ s.powerPins.tab = s.tab ∧ s.powerPins.hkc = s.hkc ∧ s.powerPins.tap = s.tap ∧
    s.powerPins.pad = s.pad ∧ s.powerPins.pin.shade = s.pin.shade := by
  simp [State.powerPins]

@[simp] theorem State.checkTables_frame (s : State) :
    s.checkTables.pending = s.pending ∧ s.checkTables.free = s.free ∧ s.checkTables.clk = s.clk ∧ s.checkTables.pwr = s.pwr ∧
    s.checkTables.rst = s.rst ∧ s.checkTables.wdg = s.wdg ∧ s.checkTables.reg = s.reg ∧ s.checkTables.ctl = s.ctl ∧
    s.checkTables.ev = s.ev ∧ s.checkTables.par = s.par ∧ s.checkTables.fus = s.fus ∧ s.checkTables.role = s.role ∧
    s.checkTables.fw = s.fw ∧ s.checkTables.nvs = s.nvs ∧ s.checkTables.led = s.led ∧ s.checkTables.sea = s.sea ∧
    s.checkTables.view = s.view ∧ s.checkTables.pace = s.pace ∧ s.checkTables.lnk = s.lnk ∧ s.checkTables.ets = s.ets ∧
    s.checkTables.pix = s.pix ∧ s.checkTables.pdp = s.pdp ∧ s.checkTables.pin = s.pin ∧ s.checkTables.hkc = s.hkc ∧
    s.checkTables.tap = s.tap ∧ s.checkTables.pad = s.pad := by
  simp [State.checkTables]

@[simp] theorem Nvs.wrote_mem (n : Nvs) (a : NvsArea) : (n.wrote a).mem = n.mem := by
  unfold Nvs.wrote
  repeat' split
  all_goals rfl

@[simp] theorem State.tableInForce_frame (s : State) (table : Nat) (digest : Bytes) (length : Nat) :
    (s.tableInForce table digest length).pending = s.pending ∧ (s.tableInForce table digest length).free = s.free ∧
    (s.tableInForce table digest length).clk = s.clk ∧ (s.tableInForce table digest length).pwr = s.pwr ∧
    (s.tableInForce table digest length).rst = s.rst ∧ (s.tableInForce table digest length).wdg = s.wdg ∧
    (s.tableInForce table digest length).reg = s.reg ∧ (s.tableInForce table digest length).ctl = s.ctl ∧
    (s.tableInForce table digest length).ev = s.ev ∧ (s.tableInForce table digest length).fus = s.fus ∧
    (s.tableInForce table digest length).role = s.role ∧ (s.tableInForce table digest length).fw = s.fw ∧
    (s.tableInForce table digest length).led = s.led ∧ (s.tableInForce table digest length).sea = s.sea ∧
    (s.tableInForce table digest length).view = s.view ∧ (s.tableInForce table digest length).pace = s.pace ∧
    (s.tableInForce table digest length).lnk = s.lnk ∧ (s.tableInForce table digest length).ets = s.ets ∧
    (s.tableInForce table digest length).pix = s.pix ∧ (s.tableInForce table digest length).pdp = s.pdp ∧
    (s.tableInForce table digest length).pin = s.pin ∧ (s.tableInForce table digest length).hkc = s.hkc ∧
    (s.tableInForce table digest length).tap = s.tap ∧ (s.tableInForce table digest length).pad = s.pad ∧
    (s.tableInForce table digest length).nvs.mem = s.nvs.mem := by
  simp [State.tableInForce]

@[simp] theorem State.noteReconfig_frame (s : State) (c : Word64) (time : Option Word64) :
    (s.noteReconfig c time).pending = s.pending ∧ (s.noteReconfig c time).free = s.free ∧ (s.noteReconfig c time).clk = s.clk ∧
    (s.noteReconfig c time).pwr = s.pwr ∧ (s.noteReconfig c time).rst = s.rst ∧ (s.noteReconfig c time).wdg = s.wdg ∧
    (s.noteReconfig c time).reg = s.reg ∧ (s.noteReconfig c time).ctl = s.ctl ∧ (s.noteReconfig c time).ev = s.ev ∧
    (s.noteReconfig c time).par = s.par ∧ (s.noteReconfig c time).fus = s.fus ∧ (s.noteReconfig c time).role = s.role ∧
    (s.noteReconfig c time).fw = s.fw ∧ (s.noteReconfig c time).nvs = s.nvs ∧ (s.noteReconfig c time).led = s.led ∧
    (s.noteReconfig c time).sea = s.sea ∧ (s.noteReconfig c time).pace = s.pace ∧ (s.noteReconfig c time).lnk = s.lnk ∧
    (s.noteReconfig c time).ets = s.ets ∧ (s.noteReconfig c time).pix = s.pix ∧ (s.noteReconfig c time).pdp = s.pdp ∧
    (s.noteReconfig c time).tab = s.tab ∧ (s.noteReconfig c time).pin = s.pin ∧ (s.noteReconfig c time).hkc = s.hkc ∧
    (s.noteReconfig c time).tap = s.tap ∧ (s.noteReconfig c time).pad = s.pad := by
  simp [State.noteReconfig]

@[simp] theorem State.refclkLost_frame (s : State) :
    s.refclkLost.pending = s.pending ∧ s.refclkLost.rst = s.rst ∧ s.refclkLost.wdg = s.wdg ∧ s.refclkLost.ctl = s.ctl ∧
    s.refclkLost.par = s.par ∧ s.refclkLost.fus = s.fus ∧ s.refclkLost.role = s.role ∧ s.refclkLost.fw = s.fw ∧
    s.refclkLost.nvs = s.nvs ∧ s.refclkLost.led = s.led ∧ s.refclkLost.sea = s.sea ∧ s.refclkLost.view = s.view ∧
    s.refclkLost.pace = s.pace ∧ s.refclkLost.ets = s.ets ∧ s.refclkLost.pix = s.pix ∧ s.refclkLost.pdp = s.pdp ∧
    s.refclkLost.tab = s.tab ∧ s.refclkLost.pin = s.pin ∧ s.refclkLost.hkc = s.hkc ∧ s.refclkLost.tap = s.tap ∧
    s.refclkLost.pad = s.pad := by
  simp [State.refclkLost]

@[simp] theorem State.refclkBack_frame (s : State) :
    s.refclkBack.pending = s.pending ∧ s.refclkBack.rst = s.rst ∧ s.refclkBack.wdg = s.wdg ∧ s.refclkBack.ctl = s.ctl ∧
    s.refclkBack.par = s.par ∧ s.refclkBack.fus = s.fus ∧ s.refclkBack.role = s.role ∧ s.refclkBack.fw = s.fw ∧
    s.refclkBack.nvs = s.nvs ∧ s.refclkBack.led = s.led ∧ s.refclkBack.sea = s.sea ∧ s.refclkBack.view = s.view ∧
    s.refclkBack.pace = s.pace ∧ s.refclkBack.ets = s.ets ∧ s.refclkBack.pix = s.pix ∧ s.refclkBack.pdp = s.pdp ∧
    s.refclkBack.tab = s.tab ∧ s.refclkBack.pin = s.pin ∧ s.refclkBack.hkc = s.hkc ∧ s.refclkBack.tap = s.tap ∧
    s.refclkBack.pad = s.pad := by
  simp [State.refclkBack]

@[simp] theorem State.timePllLost_frame (s : State) :
    s.timePllLost.pending = s.pending ∧ s.timePllLost.free = s.free ∧ s.timePllLost.pwr = s.pwr ∧ s.timePllLost.rst = s.rst ∧
    s.timePllLost.wdg = s.wdg ∧ s.timePllLost.ctl = s.ctl ∧ s.timePllLost.par = s.par ∧ s.timePllLost.fus = s.fus ∧
    s.timePllLost.role = s.role ∧ s.timePllLost.fw = s.fw ∧ s.timePllLost.nvs = s.nvs ∧ s.timePllLost.led = s.led ∧
    s.timePllLost.sea = s.sea ∧ s.timePllLost.view = s.view ∧ s.timePllLost.pace = s.pace ∧ s.timePllLost.ets = s.ets ∧
    s.timePllLost.pix = s.pix ∧ s.timePllLost.pdp = s.pdp ∧ s.timePllLost.tab = s.tab ∧ s.timePllLost.pin = s.pin ∧
    s.timePllLost.hkc = s.hkc ∧ s.timePllLost.tap = s.tap ∧ s.timePllLost.pad = s.pad := by
  simp [State.timePllLost]

@[simp] theorem State.timePllBack_frame (s : State) :
    s.timePllBack.pending = s.pending ∧ s.timePllBack.free = s.free ∧ s.timePllBack.pwr = s.pwr ∧ s.timePllBack.rst = s.rst ∧
    s.timePllBack.wdg = s.wdg ∧ s.timePllBack.ctl = s.ctl ∧ s.timePllBack.par = s.par ∧ s.timePllBack.fus = s.fus ∧
    s.timePllBack.role = s.role ∧ s.timePllBack.fw = s.fw ∧ s.timePllBack.nvs = s.nvs ∧ s.timePllBack.led = s.led ∧
    s.timePllBack.sea = s.sea ∧ s.timePllBack.view = s.view ∧ s.timePllBack.pace = s.pace ∧ s.timePllBack.ets = s.ets ∧
    s.timePllBack.pix = s.pix ∧ s.timePllBack.pdp = s.pdp ∧ s.timePllBack.tab = s.tab ∧ s.timePllBack.pin = s.pin ∧
    s.timePllBack.hkc = s.hkc ∧ s.timePllBack.tap = s.tap ∧ s.timePllBack.pad = s.pad := by
  simp [State.timePllBack]

@[simp] theorem State.disciplined_frame (s : State) (e : Int) :
    (s.disciplined e).pending = s.pending ∧ (s.disciplined e).free = s.free ∧ (s.disciplined e).pwr = s.pwr ∧
    (s.disciplined e).rst = s.rst ∧ (s.disciplined e).wdg = s.wdg ∧ (s.disciplined e).reg = s.reg ∧
    (s.disciplined e).ctl = s.ctl ∧ (s.disciplined e).ev = s.ev ∧ (s.disciplined e).par = s.par ∧
    (s.disciplined e).fus = s.fus ∧ (s.disciplined e).role = s.role ∧ (s.disciplined e).fw = s.fw ∧
    (s.disciplined e).nvs = s.nvs ∧ (s.disciplined e).led = s.led ∧ (s.disciplined e).sea = s.sea ∧
    (s.disciplined e).view = s.view ∧ (s.disciplined e).pace = s.pace ∧ (s.disciplined e).lnk = s.lnk ∧
    (s.disciplined e).ets = s.ets ∧ (s.disciplined e).pix = s.pix ∧ (s.disciplined e).pdp = s.pdp ∧
    (s.disciplined e).tab = s.tab ∧ (s.disciplined e).pin = s.pin ∧ (s.disciplined e).hkc = s.hkc ∧
    (s.disciplined e).tap = s.tap ∧ (s.disciplined e).pad = s.pad := by
  simp [State.disciplined]

@[simp] theorem State.noteEdge_frame (s : State) (m : Word64) :
    (s.noteEdge m).pending = s.pending ∧ (s.noteEdge m).free = s.free ∧ (s.noteEdge m).pwr = s.pwr ∧
    (s.noteEdge m).rst = s.rst ∧ (s.noteEdge m).wdg = s.wdg ∧ (s.noteEdge m).ctl = s.ctl ∧ (s.noteEdge m).par = s.par ∧
    (s.noteEdge m).fus = s.fus ∧ (s.noteEdge m).role = s.role ∧ (s.noteEdge m).fw = s.fw ∧ (s.noteEdge m).nvs = s.nvs ∧
    (s.noteEdge m).led = s.led ∧ (s.noteEdge m).sea = s.sea ∧ (s.noteEdge m).view = s.view ∧ (s.noteEdge m).pace = s.pace ∧
    (s.noteEdge m).ets = s.ets ∧ (s.noteEdge m).pix = s.pix ∧ (s.noteEdge m).pdp = s.pdp ∧ (s.noteEdge m).tab = s.tab ∧
    (s.noteEdge m).hkc = s.hkc ∧ (s.noteEdge m).tap = s.tap ∧ (s.noteEdge m).pad = s.pad ∧
    (s.noteEdge m).pin.shade = s.pin.shade := by
  simp [State.noteEdge]

@[simp] theorem State.ppsAccepted_frame (s : State) (m : Word64) :
    (s.ppsAccepted m).pending = s.pending ∧ (s.ppsAccepted m).free = s.free ∧ (s.ppsAccepted m).pwr = s.pwr ∧
    (s.ppsAccepted m).rst = s.rst ∧ (s.ppsAccepted m).wdg = s.wdg ∧ (s.ppsAccepted m).ctl = s.ctl ∧
    (s.ppsAccepted m).par = s.par ∧ (s.ppsAccepted m).fus = s.fus ∧ (s.ppsAccepted m).role = s.role ∧
    (s.ppsAccepted m).fw = s.fw ∧ (s.ppsAccepted m).led = s.led ∧ (s.ppsAccepted m).sea = s.sea ∧
    (s.ppsAccepted m).pace = s.pace ∧ (s.ppsAccepted m).ets = s.ets ∧ (s.ppsAccepted m).pix = s.pix ∧
    (s.ppsAccepted m).pdp = s.pdp ∧ (s.ppsAccepted m).tab = s.tab ∧ (s.ppsAccepted m).hkc = s.hkc ∧
    (s.ppsAccepted m).tap = s.tap ∧ (s.ppsAccepted m).pad = s.pad ∧ (s.ppsAccepted m).nvs.mem = s.nvs.mem ∧
    (s.ppsAccepted m).pin.shade = s.pin.shade := by
  unfold State.ppsAccepted; dsimp only; repeat' (first | (simp; done) | split)

@[simp] theorem State.ppsHoldover_frame (s : State) :
    s.ppsHoldover.pending = s.pending ∧ s.ppsHoldover.free = s.free ∧ s.ppsHoldover.pwr = s.pwr ∧ s.ppsHoldover.rst = s.rst ∧
    s.ppsHoldover.wdg = s.wdg ∧ s.ppsHoldover.ctl = s.ctl ∧ s.ppsHoldover.par = s.par ∧ s.ppsHoldover.fus = s.fus ∧
    s.ppsHoldover.role = s.role ∧ s.ppsHoldover.fw = s.fw ∧ s.ppsHoldover.nvs = s.nvs ∧ s.ppsHoldover.led = s.led ∧
    s.ppsHoldover.sea = s.sea ∧ s.ppsHoldover.view = s.view ∧ s.ppsHoldover.pace = s.pace ∧ s.ppsHoldover.ets = s.ets ∧
    s.ppsHoldover.pix = s.pix ∧ s.ppsHoldover.pdp = s.pdp ∧ s.ppsHoldover.tab = s.tab ∧ s.ppsHoldover.pin = s.pin ∧
    s.ppsHoldover.hkc = s.hkc ∧ s.ppsHoldover.tap = s.tap ∧ s.ppsHoldover.pad = s.pad := by
  simp [State.ppsHoldover]

@[simp] theorem State.dropPendingSet_frame (s : State) :
    s.dropPendingSet.pending = s.pending ∧ s.dropPendingSet.free = s.free ∧ s.dropPendingSet.pwr = s.pwr ∧
    s.dropPendingSet.rst = s.rst ∧ s.dropPendingSet.wdg = s.wdg ∧ s.dropPendingSet.reg = s.reg ∧ s.dropPendingSet.ctl = s.ctl ∧
    s.dropPendingSet.ev = s.ev ∧ s.dropPendingSet.par = s.par ∧ s.dropPendingSet.fus = s.fus ∧ s.dropPendingSet.role = s.role ∧
    s.dropPendingSet.fw = s.fw ∧ s.dropPendingSet.led = s.led ∧ s.dropPendingSet.sea = s.sea ∧ s.dropPendingSet.view = s.view ∧
    s.dropPendingSet.pace = s.pace ∧ s.dropPendingSet.lnk = s.lnk ∧ s.dropPendingSet.ets = s.ets ∧
    s.dropPendingSet.pix = s.pix ∧ s.dropPendingSet.pdp = s.pdp ∧ s.dropPendingSet.tab = s.tab ∧ s.dropPendingSet.pin = s.pin ∧
    s.dropPendingSet.hkc = s.hkc ∧ s.dropPendingSet.tap = s.tap ∧ s.dropPendingSet.pad = s.pad ∧
    s.dropPendingSet.nvs.mem = s.nvs.mem := by
  unfold State.dropPendingSet; split <;> simp

@[simp] theorem State.arrive_frame (s : State) (i : Inbound) (m : Msg) :
    (s.arrive i m).pending = s.pending ∧ (s.arrive i m).free = s.free ∧ (s.arrive i m).clk = s.clk ∧
    (s.arrive i m).pwr = s.pwr ∧ (s.arrive i m).rst = s.rst ∧ (s.arrive i m).wdg = s.wdg ∧ (s.arrive i m).reg = s.reg ∧
    (s.arrive i m).ev = s.ev ∧ (s.arrive i m).par = s.par ∧ (s.arrive i m).fus = s.fus ∧ (s.arrive i m).role = s.role ∧
    (s.arrive i m).fw = s.fw ∧ (s.arrive i m).nvs = s.nvs ∧ (s.arrive i m).led = s.led ∧ (s.arrive i m).sea = s.sea ∧
    (s.arrive i m).view = s.view ∧ (s.arrive i m).pace = s.pace ∧ (s.arrive i m).lnk = s.lnk ∧ (s.arrive i m).ets = s.ets ∧
    (s.arrive i m).pix = s.pix ∧ (s.arrive i m).pdp = s.pdp ∧ (s.arrive i m).tab = s.tab ∧ (s.arrive i m).pin = s.pin ∧
    (s.arrive i m).hkc = s.hkc ∧ (s.arrive i m).tap = s.tap ∧ (s.arrive i m).pad = s.pad := by
  simp [State.arrive]

/-! ## What the named updates leave in the field they change -/

@[simp] theorem State.onReg_reg (s : State) (f : Reg → Reg) : (s.onReg f).reg = f s.reg := rfl
@[simp] theorem State.setIrq_reg (s : State) (b : Nat) :
    (s.setIrq b).reg = { s.reg with irqStatus := s.reg.irqStatus ||| BitVec.ofNat 32 (2 ^ b) } := rfl
@[simp] theorem State.setPar_par (s : State) (id v : Nat) :
    (s.setPar id v).par = { s.par with values := spPut id v s.par.values } := rfl
@[simp] theorem State.storePar_par (s : State) (id v : Nat) :
    (s.storePar id v).par = { values := spPut id v s.par.values, persist := recordPut id v s.par.persist } := rfl
theorem State.pushData_lnk {s : State} {p : Packet} (h : s.closing = false) :
    (s.pushData p).lnk = { s.lnk with data := s.lnk.data ++ [s.numbered p], seq := s.lnk.seq + 1 } := by simp [State.pushData, h]
@[simp] theorem State.linkTo_lnk (s : State) (x : LinkState) :
    (s.linkTo x).lnk = { s.lnk with state := x, entered := s.clk.ticks, ident := if x = .ident then s.lnk.ident else [] } := rfl
@[simp] theorem State.reply_ctl (s : State) (r : Reply) : (s.reply r).ctl = { s.ctl with replies := s.ctl.replies ++ [r] } := rfl
@[simp] theorem State.onCapture_ets (s : State) (c : Word64) (f : Capture → Capture) :
    (s.onCapture c f).ets = { s.ets with captures := s.ets.captures.map fun x => if x.counter = c then f x else x } := rfl

/-- A stored parameter reads back, and the others stay. -/
@[simp] theorem State.stored_setPar_same (s : State) (id v : Nat) : (s.setPar id v).stored id = v := by simp [State.stored]
theorem State.stored_setPar_other (s : State) {id j : Nat} (v : Nat) (h : j ≠ id) : (s.setPar id v).stored j = s.stored j := by
  simp [State.stored, spFind_spPut_other h]
@[simp] theorem State.stored_storePar_same (s : State) (id v : Nat) : (s.storePar id v).stored id = v := by simp [State.stored]
theorem State.stored_storePar_other (s : State) {id j : Nat} (v : Nat) (h : j ≠ id) :
    (s.storePar id v).stored j = s.stored j := by simp [State.stored, spFind_spPut_other h]

/-- The sequence numbers of two writes in a row (R182). -/
theorem newer_next (x : Word) : decide ((x + 1 - x).toNat < 2 ^ 31) = true := by
  have h : x + 1 - x = 1 := by bv_omega
  rw [h]; rfl
theorem older_next (x : Word) : decide ((x - (x + 1)).toNat < 2 ^ 31) = false := by
  have h : x - (x + 1) = 0xFFFFFFFF#32 := by bv_omega
  rw [h]; rfl

/-- Records under R182: a write is in force at once, and one cut short leaves in force what was there, if anything was. -/
@[simp] theorem Copies.now_put {α : Type} (v : α) (c : Copies α) : (c.put v).now = some v := by
  rcases c with ⟨_ | ⟨x, u⟩, _ | ⟨y, w⟩, r⟩
  · rfl
  · simp only [Copies.put, Copies.toA, Copies.onB, Copies.nextSeq, Copies.force, Copies.now, Option.isNone, Bool.or_true, if_true,
      Option.elim, older_next, Bool.false_eq_true, if_false, Option.map]
  · simp only [Copies.put, Copies.toA, Copies.onB, Copies.nextSeq, Copies.force, Copies.now, Option.isNone, Bool.or_false,
      if_true,
      Option.elim, newer_next, Bool.false_eq_true, if_false, Option.map]
  · cases h : decide ((y - x).toNat < 2 ^ 31) <;>
      simp only [Copies.put, Copies.toA, Copies.onB, Copies.nextSeq, Copies.force, Copies.now, Option.isNone, Bool.or_false,
        Option.elim, newer_next, older_next, h, Bool.false_eq_true, if_false, if_true, Option.map]
@[simp] theorem Copies.get_put {α : Type} (v d : α) (c : Copies α) : (c.put v).get d = v := by simp [Copies.get]
theorem Copies.now_torn {α : Type} {c : Copies α} (h : c.a.isSome = true ∨ c.b.isSome = true) : c.torn.now = c.now := by
  rcases c with ⟨_ | ⟨x, u⟩, _ | ⟨y, w⟩, r⟩
  · simp at h
  · rfl
  · rfl
  · cases h : decide ((y - x).toNat < 2 ^ 31) <;>
      simp only [Copies.torn, Copies.toA, Copies.onB, Copies.force, Copies.now, Option.isNone, Bool.or_false, h,
        Bool.false_eq_true, if_false, if_true, Option.map]
@[simp] theorem recordAt_recordPut {α : Type} (k : Nat) (v : α) (l : Sparse (Copies α)) : recordAt k (recordPut k v l) = some v
    := by
  simp [recordAt, recordPut]
theorem recordAt_recordPut_other {α : Type} {k j : Nat} (h : j ≠ k) (v : α) (l : Sparse (Copies α)) :
    recordAt j (recordPut k v l) = recordAt j l := by simp [recordAt, recordPut, spFind_spPut_other h]

/-- What was retained is what is read back, by owner. -/
@[simp] theorem Pwr.retained_retain (p : Pwr) (f : PwrTally → PwrTally) : (p.retain f).retained = f p.retained := by
  simp [Pwr.retained, Pwr.retain]
@[simp] theorem Ctl.retained_retain (c : Ctl) (f : CtlTally → CtlTally) : (c.retain f).retained = f c.retained := by
  simp [Ctl.retained, Ctl.retain]
@[simp] theorem Rst.retained_retain (r : Rst) (f : RstTally → RstTally) : (r.retain f).retained = f r.retained := by
  simp [Rst.retained, Rst.retain]
@[simp] theorem Nvs.retained_retain (n : Nvs) (f : NvsCounts → NvsCounts) : (n.retain f).retained = f n.retained := by
  simp [Nvs.retained, Nvs.retain]
@[simp] theorem Nvs.transition_put (n : Nvs) (t : Option Transition) : (n.putTransition t).transition = t := by
  simp [Nvs.transition, Nvs.putTransition]
@[simp] theorem Nvs.journal_put (n : Nvs) (j : JournalRecord) : (n.putJournal j).journal = j := by
  simp [Nvs.journal, Nvs.putJournal]
@[simp] theorem Nvs.mark_put (n : Nvs) (m : Option Word) : (n.putMark m).mark = m := by simp [Nvs.mark, Nvs.putMark]
@[simp] theorem Fw.retained_putStatus (f : Fw) (x : FwStatus) : (f.putStatus x).retained = x := by
  simp [Fw.retained, Fw.putStatus]

/-- View `v` reads back as it was set, and the other views stay. -/
theorem State.viewAt_setView_same (s : State) {v : Nat} (x : View) (h : v < 32) : (s.setView v x).viewAt v = x := by
  simp [State.setView, State.viewAt, h]
theorem State.viewAt_setView_other (s : State) {v w : Nat} (x : View) (h : w ≠ v) : (s.setView v x).viewAt w = s.viewAt w := by
  unfold State.setView State.viewAt
  split
  · simp [List.getElem?_set, Ne.symm h, List.getD_eq_getElem?_getD]
  · rfl
theorem State.viewAt_onView_same (s : State) {v : Nat} (f : View → View) (h : v < 32) :
    (s.onView v f).viewAt v = f (s.viewAt v) := s.viewAt_setView_same _ h
theorem State.viewAt_onView_other (s : State) {v w : Nat} (f : View → View) (h : w ≠ v) :
    (s.onView v f).viewAt w = s.viewAt w := s.viewAt_setView_other _ h

/-- A domain switched on or off, and the others. -/
theorem testBit_pow {i j : Nat} (hj : j < 56) : (BitVec.ofNat 56 (2 ^ i)).getLsbD j = decide (i = j) := by
  rw [BitVec.getLsbD_ofNat, Nat.testBit_two_pow]; simp [hj]
theorem State.powered_domainOn (s : State) {i j : Nat} (hj : j < 56) :
    (s.domainOn i).powered j = (s.powered j || decide (i = j)) := by
  unfold State.domainOn
  split
  · next h =>
    by_cases e : i = j
    · subst e; simp [h]
    · simp [e]
  · simp only [State.powered, BitVec.getLsbD_or, testBit_pow hj]
theorem State.powered_domainOff (s : State) {i j : Nat} (hj : j < 56) :
    (s.domainOff i).powered j = (s.powered j && !decide (i = j)) := by
  simp only [State.domainOff, State.powered, BitVec.getLsbD_and, BitVec.getLsbD_not, testBit_pow hj, hj, decide_true,
      Bool.true_and]

/-- An event that is raised takes the next event sequence. -/
@[simp] theorem State.raise_ev_seq (s : State) (code : Nat) (time : Word64) (args : Bytes) :
    (s.raise code time args).ev.seq = s.ev.seq + 1 := by
  simp only [State.raise, State.offerControl_frame, State.holdRecord]
  repeat' split
  all_goals simp

end Sys2Proof.Machine
end

