-- ==== Sys2Proof/Laws/Commits.lean ====
section
/-! SUPPORT. What commits do to the byte memory of NVS: they keep its canonical form, and change only the entry's slot and one copy of
the anchor. -/

namespace Sys2Proof.Machine

/-- The first 40 bytes of an entry (R166). -/
@[simp] theorem entryFields_length (s : State) (c : Commit) : (s.entryFields c).length = 40 := by
  simp [State.entryFields]

/-- The anchor fills a copy's 256 bytes (R173). -/
@[simp] theorem anchorBytes_length (last : Word) (epoch present : Nat) (head floor : Bytes) :
    (anchorBytes last epoch present head floor).length = 256 := by simp [anchorBytes]

/-- A buffer's bytes: 76 and the subject. -/
@[simp] theorem Staging.bytes_length (x : Staging) : x.bytes.length = 76 + x.subject.length := by simp [Staging.bytes]; omega

/-- An entry's 128 bytes. -/
@[simp] theorem entryHead_length (s : State) (c : Commit) : (s.entryHead c).length = 64 := by simp [State.entryHead]
@[simp] theorem entryBytes_length (s : State) (c : Commit) : (s.entryBytes c).length = 128 := by simp [State.entryBytes]

@[simp] theorem Led.anchor_length (l : Led) : l.anchor.length = 256 := by simp [Led.anchor]

/-- The counts of entries leave the bytes. -/
@[simp] theorem counted_mem (n : Nvs) (k : Kind) : (n.counted k).mem = n.mem := by cases k <;> rfl

@[simp] theorem overwritten_mem (s : State) : s.overwritten.mem = s.nvs.mem := by
  unfold State.overwritten; dsimp only; repeat' (first | rfl | split)

/-- The bytes a commit stores: the staging buffer, the entry in its slot, and one copy of the anchor (R172). -/
theorem commitEntry_mem (s : State) (c : Commit) : ∃ stage entry anchor : Bytes,
    stage.length = 76 + (s.fillSubject c).length ∧ entry.length = 128 ∧ anchor.length = 256 ∧
    (s.commitEntry c).nvs.mem = nvWrite (nvWrite (nvWrite s.nvs.mem (stageAddr s.led.nextSeq) stage) (slotAddr s.led.nextSeq) entry)
      (anchorAddr s.led.nextSeq) anchor := by
  let t := (s.progress [44, 46]).workDone true
  refine ⟨(t.staging c).bytes, t.entryBytes c, (t.ledWith (t.entryHead c) ((t.staging c).displaced.getD t.led.floorHead)).anchor,
    ?_, by simp, by simp, ?_⟩
  · simp [State.staging, t, State.fillSubject]
  · simp [State.commitEntry, State.writeEntry, State.writeStage, Nvs.setStage, t]

/-- A commit leaves every byte outside its staging buffer, its slot and its anchor copy. -/
theorem commitEntry_other (s : State) (c : Commit) (a : Nat)
    (h0 : a < stageAddr s.led.nextSeq ∨ stageAddr s.led.nextSeq + (76 + (s.fillSubject c).length) ≤ a)
    (h1 : a < slotAddr s.led.nextSeq ∨ slotAddr s.led.nextSeq + 128 ≤ a)
    (h2 : a < anchorAddr s.led.nextSeq ∨ anchorAddr s.led.nextSeq + 256 ≤ a) :
    nvRead (s.commitEntry c).nvs.mem a = nvRead s.nvs.mem a := by
  obtain ⟨b, e, x, hb, he, hx, hm⟩ := commitEntry_mem s c
  rw [hm, nvWrite_other _ _ _ _ (by omega), nvWrite_other _ _ _ _ (by omega), nvWrite_other _ _ _ _ (by omega)]

/-- A commit keeps the canonical form. -/
theorem commitEntry_wf (s : State) (c : Commit) (h : Memory.wf s.nvs.mem = true) : Memory.wf (s.commitEntry c).nvs.mem = true := by
  obtain ⟨_, _, _, _, _, _, hm⟩ := commitEntry_mem s c
  rw [hm]
  exact nvWrite_wf _ _ _ (nvWrite_wf _ _ _ (nvWrite_wf _ _ _ h))

theorem foldl_commit_wf (l : List Commit) (s : State) (h : Memory.wf s.nvs.mem = true) :
    Memory.wf (l.foldl State.commitEntry s).nvs.mem = true := by
  induction l generalizing s with
  | nil => exact h
  | cons c l ih => exact ih _ (commitEntry_wf s c h)

theorem flushCommits_wf (s : State) (h : Memory.wf s.nvs.mem = true) : Memory.wf s.flushCommits.nvs.mem = true :=
  foldl_commit_wf _ _ h

theorem commitNow_wf (s : State) (c : Commit) (h : Memory.wf s.nvs.mem = true) : Memory.wf (s.commitNow c).nvs.mem = true := by
  unfold State.commitNow
  split
  · exact commitEntry_wf _ _ (flushCommits_wf s h)
  · exact h

/-- A commit takes the next sequence. -/
@[simp] theorem commitEntry_nextSeq (s : State) (c : Commit) : (s.commitEntry c).led.nextSeq = s.led.nextSeq + 1 := by
  simp [State.commitEntry, State.ledWith]

/-- The memory of State.reset has the canonical form. -/
theorem reset_mem_wf : Memory.wf State.reset.nvs.mem = true := rfl

end Sys2Proof.Machine
end

