-- ==== Sys2Proof/Laws/FrameCapture.lean ====
section
/-! SUPPORT. What the operations of captures, power supply to the array, the Umber sequence and the link leave unchanged. -/

set_option linter.unusedSimpArgs false
set_option Elab.async false

namespace Sys2Proof.Machine

@[simp] theorem State.judge_frame (s : State) (raw : List Nat) :
    (s.judge raw).pending = s.pending ∧ (s.judge raw).free = s.free ∧ (s.judge raw).clk = s.clk ∧ (s.judge raw).pwr = s.pwr ∧
    (s.judge raw).rst = s.rst ∧ (s.judge raw).reg = s.reg ∧ (s.judge raw).ctl = s.ctl ∧ (s.judge raw).ev = s.ev ∧
    (s.judge raw).par = s.par ∧ (s.judge raw).fus = s.fus ∧ (s.judge raw).role = s.role ∧ (s.judge raw).fw = s.fw ∧
    (s.judge raw).nvs = s.nvs ∧ (s.judge raw).led = s.led ∧ (s.judge raw).sea = s.sea ∧ (s.judge raw).view = s.view ∧
    (s.judge raw).lnk = s.lnk ∧ (s.judge raw).ets = s.ets ∧ (s.judge raw).pix = s.pix ∧ (s.judge raw).pdp = s.pdp ∧
    (s.judge raw).tab = s.tab ∧ (s.judge raw).pin = s.pin ∧ (s.judge raw).hkc = s.hkc ∧ (s.judge raw).tap = s.tap ∧
    (s.judge raw).pad = s.pad := by
  simp [State.judge]

@[simp] theorem State.consume_frame (s : State) :
    s.consume.2.pending = s.pending ∧ s.consume.2.free = s.free ∧ s.consume.2.clk = s.clk ∧ s.consume.2.pwr = s.pwr ∧
    s.consume.2.rst = s.rst ∧ s.consume.2.wdg = s.wdg ∧ s.consume.2.reg = s.reg ∧ s.consume.2.ctl = s.ctl ∧
    s.consume.2.ev = s.ev ∧ s.consume.2.par = s.par ∧ s.consume.2.fus = s.fus ∧ s.consume.2.role = s.role ∧
    s.consume.2.fw = s.fw ∧ s.consume.2.led = s.led ∧ s.consume.2.sea = s.sea ∧ s.consume.2.view = s.view ∧
    s.consume.2.pace = s.pace ∧ s.consume.2.lnk = s.lnk ∧ s.consume.2.pix = s.pix ∧ s.consume.2.pdp = s.pdp ∧
    s.consume.2.tab = s.tab ∧ s.consume.2.pin = s.pin ∧ s.consume.2.hkc = s.hkc ∧ s.consume.2.tap = s.tap ∧
    s.consume.2.pad = s.pad ∧ s.consume.2.nvs.mem = s.nvs.mem := by
  unfold State.consume; dsimp only; repeat' (first | (simp; done) | split)

@[simp] theorem State.noteValue_frame (s : State) (c : Word64) (time : Option Word64) :
    (s.noteValue c time).pending = s.pending ∧ (s.noteValue c time).free = s.free ∧ (s.noteValue c time).clk = s.clk ∧
    (s.noteValue c time).pwr = s.pwr ∧ (s.noteValue c time).rst = s.rst ∧ (s.noteValue c time).wdg = s.wdg ∧
    (s.noteValue c time).reg = s.reg ∧ (s.noteValue c time).ctl = s.ctl ∧ (s.noteValue c time).ev = s.ev ∧
    (s.noteValue c time).par = s.par ∧ (s.noteValue c time).fus = s.fus ∧ (s.noteValue c time).role = s.role ∧
    (s.noteValue c time).fw = s.fw ∧ (s.noteValue c time).nvs = s.nvs ∧ (s.noteValue c time).led = s.led ∧
    (s.noteValue c time).sea = s.sea ∧ (s.noteValue c time).pace = s.pace ∧ (s.noteValue c time).lnk = s.lnk ∧
    (s.noteValue c time).pix = s.pix ∧ (s.noteValue c time).pdp = s.pdp ∧ (s.noteValue c time).tab = s.tab ∧
    (s.noteValue c time).pin = s.pin ∧ (s.noteValue c time).hkc = s.hkc ∧ (s.noteValue c time).tap = s.tap ∧
    (s.noteValue c time).pad = s.pad := by
  simp [State.noteValue]

@[simp] theorem State.raisePaceSkip_frame (s : State) (c time : Word64) (views : List Nat) (monitor reason : Nat) :
    (s.raisePaceSkip c time views monitor reason).pending = s.pending ∧
    (s.raisePaceSkip c time views monitor reason).free = s.free ∧ (s.raisePaceSkip c time views monitor reason).clk = s.clk ∧
    (s.raisePaceSkip c time views monitor reason).pwr = s.pwr ∧ (s.raisePaceSkip c time views monitor reason).rst = s.rst ∧
    (s.raisePaceSkip c time views monitor reason).wdg = s.wdg ∧ (s.raisePaceSkip c time views monitor reason).ctl = s.ctl ∧
    (s.raisePaceSkip c time views monitor reason).par = s.par ∧ (s.raisePaceSkip c time views monitor reason).fus = s.fus ∧
    (s.raisePaceSkip c time views monitor reason).role = s.role ∧ (s.raisePaceSkip c time views monitor reason).fw = s.fw ∧
    (s.raisePaceSkip c time views monitor reason).nvs = s.nvs ∧ (s.raisePaceSkip c time views monitor reason).led = s.led ∧
    (s.raisePaceSkip c time views monitor reason).sea = s.sea ∧ (s.raisePaceSkip c time views monitor reason).view = s.view ∧
    (s.raisePaceSkip c time views monitor reason).pace = s.pace ∧ (s.raisePaceSkip c time views monitor reason).ets = s.ets ∧
    (s.raisePaceSkip c time views monitor reason).pix = s.pix ∧ (s.raisePaceSkip c time views monitor reason).pdp = s.pdp ∧
    (s.raisePaceSkip c time views monitor reason).tab = s.tab ∧ (s.raisePaceSkip c time views monitor reason).pin = s.pin ∧
    (s.raisePaceSkip c time views monitor reason).hkc = s.hkc ∧ (s.raisePaceSkip c time views monitor reason).tap = s.tap ∧
    (s.raisePaceSkip c time views monitor reason).pad = s.pad := by
  simp [State.raisePaceSkip]

@[simp] theorem State.withholdPace_frame (s : State) (time : Word64) (monitor reason : Nat) :
    (s.withholdPace time monitor reason).pending = s.pending ∧ (s.withholdPace time monitor reason).free = s.free ∧
    (s.withholdPace time monitor reason).clk = s.clk ∧ (s.withholdPace time monitor reason).rst = s.rst ∧
    (s.withholdPace time monitor reason).wdg = s.wdg ∧ (s.withholdPace time monitor reason).ctl = s.ctl ∧
    (s.withholdPace time monitor reason).par = s.par ∧ (s.withholdPace time monitor reason).fus = s.fus ∧
    (s.withholdPace time monitor reason).role = s.role ∧ (s.withholdPace time monitor reason).fw = s.fw ∧
    (s.withholdPace time monitor reason).led = s.led ∧ (s.withholdPace time monitor reason).pace = s.pace ∧
    (s.withholdPace time monitor reason).pix = s.pix ∧ (s.withholdPace time monitor reason).pdp = s.pdp ∧
    (s.withholdPace time monitor reason).tab = s.tab ∧ (s.withholdPace time monitor reason).pin = s.pin ∧
    (s.withholdPace time monitor reason).hkc = s.hkc ∧ (s.withholdPace time monitor reason).tap = s.tap ∧
    (s.withholdPace time monitor reason).pad = s.pad ∧ (s.withholdPace time monitor reason).nvs.mem = s.nvs.mem := by
  simp [State.withholdPace]

@[simp] theorem State.withholdLink_frame (s : State) (time : Word64) :
    (s.withholdLink time).pending = s.pending ∧ (s.withholdLink time).free = s.free ∧ (s.withholdLink time).clk = s.clk ∧
    (s.withholdLink time).rst = s.rst ∧ (s.withholdLink time).wdg = s.wdg ∧ (s.withholdLink time).reg = s.reg ∧
    (s.withholdLink time).ctl = s.ctl ∧ (s.withholdLink time).ev = s.ev ∧ (s.withholdLink time).par = s.par ∧
    (s.withholdLink time).fus = s.fus ∧ (s.withholdLink time).role = s.role ∧ (s.withholdLink time).fw = s.fw ∧
    (s.withholdLink time).led = s.led ∧ (s.withholdLink time).pace = s.pace ∧ (s.withholdLink time).pix = s.pix ∧
    (s.withholdLink time).pdp = s.pdp ∧ (s.withholdLink time).tab = s.tab ∧ (s.withholdLink time).pin = s.pin ∧
    (s.withholdLink time).hkc = s.hkc ∧ (s.withholdLink time).tap = s.tap ∧ (s.withholdLink time).pad = s.pad ∧
    (s.withholdLink time).nvs.mem = s.nvs.mem := by
  simp [State.withholdLink]

@[simp] theorem State.refreshLeads_frame (s : State) :
    s.refreshLeads.pending = s.pending ∧ s.refreshLeads.free = s.free ∧ s.refreshLeads.clk = s.clk ∧
    s.refreshLeads.pwr = s.pwr ∧ s.refreshLeads.rst = s.rst ∧ s.refreshLeads.wdg = s.wdg ∧ s.refreshLeads.reg = s.reg ∧
    s.refreshLeads.ctl = s.ctl ∧ s.refreshLeads.ev = s.ev ∧ s.refreshLeads.par = s.par ∧ s.refreshLeads.fus = s.fus ∧
    s.refreshLeads.role = s.role ∧ s.refreshLeads.fw = s.fw ∧ s.refreshLeads.nvs = s.nvs ∧ s.refreshLeads.led = s.led ∧
    s.refreshLeads.sea = s.sea ∧ s.refreshLeads.view = s.view ∧ s.refreshLeads.pace = s.pace ∧ s.refreshLeads.lnk = s.lnk ∧
    s.refreshLeads.pix = s.pix ∧ s.refreshLeads.pdp = s.pdp ∧ s.refreshLeads.tab = s.tab ∧ s.refreshLeads.pin = s.pin ∧
    s.refreshLeads.hkc = s.hkc ∧ s.refreshLeads.tap = s.tap ∧ s.refreshLeads.pad = s.pad := by
  simp [State.refreshLeads]

@[simp] theorem State.applyAe_frame (s : State) :
    s.applyAe.pending = s.pending ∧ s.applyAe.free = s.free ∧ s.applyAe.clk = s.clk ∧ s.applyAe.pwr = s.pwr ∧
    s.applyAe.rst = s.rst ∧ s.applyAe.wdg = s.wdg ∧ s.applyAe.reg = s.reg ∧ s.applyAe.ctl = s.ctl ∧ s.applyAe.ev = s.ev ∧
    s.applyAe.fus = s.fus ∧ s.applyAe.role = s.role ∧ s.applyAe.fw = s.fw ∧ s.applyAe.nvs = s.nvs ∧ s.applyAe.led = s.led ∧
    s.applyAe.sea = s.sea ∧ s.applyAe.view = s.view ∧ s.applyAe.pace = s.pace ∧ s.applyAe.lnk = s.lnk ∧ s.applyAe.pix = s.pix ∧
    s.applyAe.pdp = s.pdp ∧ s.applyAe.tab = s.tab ∧ s.applyAe.pin = s.pin ∧ s.applyAe.hkc = s.hkc ∧ s.applyAe.tap = s.tap ∧
    s.applyAe.pad = s.pad := by
  simp [State.applyAe]

@[simp] theorem State.commitCapture_frame (s : State) (t0 : Nat) (us : List ProfileUse) (quads : Nat) (detect : Option Word64) :
    (s.commitCapture t0 us quads detect).pending = s.pending ∧ (s.commitCapture t0 us quads detect).free = s.free ∧
    (s.commitCapture t0 us quads detect).clk = s.clk ∧ (s.commitCapture t0 us quads detect).rst = s.rst ∧
    (s.commitCapture t0 us quads detect).reg = s.reg ∧ (s.commitCapture t0 us quads detect).ctl = s.ctl ∧
    (s.commitCapture t0 us quads detect).ev = s.ev ∧ (s.commitCapture t0 us quads detect).par = s.par ∧
    (s.commitCapture t0 us quads detect).fus = s.fus ∧ (s.commitCapture t0 us quads detect).role = s.role ∧
    (s.commitCapture t0 us quads detect).fw = s.fw ∧ (s.commitCapture t0 us quads detect).led = s.led ∧
    (s.commitCapture t0 us quads detect).pace = s.pace ∧ (s.commitCapture t0 us quads detect).lnk = s.lnk ∧
    (s.commitCapture t0 us quads detect).pix = s.pix ∧ (s.commitCapture t0 us quads detect).pdp = s.pdp ∧
    (s.commitCapture t0 us quads detect).tab = s.tab ∧ (s.commitCapture t0 us quads detect).pin = s.pin ∧
    (s.commitCapture t0 us quads detect).hkc = s.hkc ∧ (s.commitCapture t0 us quads detect).tap = s.tap ∧
    (s.commitCapture t0 us quads detect).pad = s.pad ∧ (s.commitCapture t0 us quads detect).nvs.mem = s.nvs.mem := by
  simp [State.commitCapture]

@[simp] theorem State.scheduled_frame (s : State) (tx : Nat) :
    (s.scheduled tx).pending = s.pending ∧ (s.scheduled tx).free = s.free ∧ (s.scheduled tx).clk = s.clk ∧
    (s.scheduled tx).rst = s.rst ∧ (s.scheduled tx).ctl = s.ctl ∧ (s.scheduled tx).par = s.par ∧ (s.scheduled tx).fus = s.fus ∧
    (s.scheduled tx).role = s.role ∧ (s.scheduled tx).fw = s.fw ∧ (s.scheduled tx).led = s.led ∧
    (s.scheduled tx).pace = s.pace ∧ (s.scheduled tx).pix = s.pix ∧ (s.scheduled tx).pdp = s.pdp ∧
    (s.scheduled tx).tab = s.tab ∧ (s.scheduled tx).pin = s.pin ∧ (s.scheduled tx).hkc = s.hkc ∧ (s.scheduled tx).tap = s.tap ∧
    (s.scheduled tx).pad = s.pad ∧ (s.scheduled tx).nvs.mem = s.nvs.mem := by
  unfold State.scheduled; dsimp only; repeat' (first | (simp; done) | split)

@[simp] theorem State.raiseTrig_frame (s : State) (detect counter t0 : Word64) :
    (s.raiseTrig detect counter t0).pending = s.pending ∧ (s.raiseTrig detect counter t0).free = s.free ∧
    (s.raiseTrig detect counter t0).clk = s.clk ∧ (s.raiseTrig detect counter t0).pwr = s.pwr ∧
    (s.raiseTrig detect counter t0).rst = s.rst ∧ (s.raiseTrig detect counter t0).wdg = s.wdg ∧
    (s.raiseTrig detect counter t0).ctl = s.ctl ∧ (s.raiseTrig detect counter t0).par = s.par ∧
    (s.raiseTrig detect counter t0).fus = s.fus ∧ (s.raiseTrig detect counter t0).role = s.role ∧
    (s.raiseTrig detect counter t0).fw = s.fw ∧ (s.raiseTrig detect counter t0).nvs = s.nvs ∧
    (s.raiseTrig detect counter t0).led = s.led ∧ (s.raiseTrig detect counter t0).sea = s.sea ∧
    (s.raiseTrig detect counter t0).view = s.view ∧ (s.raiseTrig detect counter t0).pace = s.pace ∧
    (s.raiseTrig detect counter t0).ets = s.ets ∧ (s.raiseTrig detect counter t0).pix = s.pix ∧
    (s.raiseTrig detect counter t0).pdp = s.pdp ∧ (s.raiseTrig detect counter t0).tab = s.tab ∧
    (s.raiseTrig detect counter t0).pin = s.pin ∧ (s.raiseTrig detect counter t0).hkc = s.hkc ∧
    (s.raiseTrig detect counter t0).tap = s.tap ∧ (s.raiseTrig detect counter t0).pad = s.pad := by
  simp [State.raiseTrig]

@[simp] theorem State.coalesce_frame (s : State) :
    s.coalesce.pending = s.pending ∧ s.coalesce.free = s.free ∧ s.coalesce.clk = s.clk ∧ s.coalesce.pwr = s.pwr ∧
    s.coalesce.rst = s.rst ∧ s.coalesce.wdg = s.wdg ∧ s.coalesce.ctl = s.ctl ∧ s.coalesce.par = s.par ∧
    s.coalesce.fus = s.fus ∧ s.coalesce.role = s.role ∧ s.coalesce.fw = s.fw ∧ s.coalesce.nvs = s.nvs ∧
    s.coalesce.led = s.led ∧ s.coalesce.sea = s.sea ∧ s.coalesce.view = s.view ∧ s.coalesce.pace = s.pace ∧
    s.coalesce.pix = s.pix ∧ s.coalesce.pdp = s.pdp ∧ s.coalesce.tab = s.tab ∧ s.coalesce.pin = s.pin ∧
    s.coalesce.hkc = s.hkc ∧ s.coalesce.tap = s.tap ∧ s.coalesce.pad = s.pad := by
  simp [State.coalesce]

@[simp] theorem State.acceptTrigger_frame (s : State) (quads : Nat) (us : List ProfileUse) :
    (s.acceptTrigger quads us).pending = s.pending ∧ (s.acceptTrigger quads us).free = s.free ∧
    (s.acceptTrigger quads us).clk = s.clk ∧ (s.acceptTrigger quads us).rst = s.rst ∧ (s.acceptTrigger quads us).ctl = s.ctl ∧
    (s.acceptTrigger quads us).par = s.par ∧ (s.acceptTrigger quads us).fus = s.fus ∧
    (s.acceptTrigger quads us).role = s.role ∧ (s.acceptTrigger quads us).fw = s.fw ∧ (s.acceptTrigger quads us).led = s.led ∧
    (s.acceptTrigger quads us).pace = s.pace ∧ (s.acceptTrigger quads us).pix = s.pix ∧
    (s.acceptTrigger quads us).pdp = s.pdp ∧ (s.acceptTrigger quads us).tab = s.tab ∧ (s.acceptTrigger quads us).pin = s.pin ∧
    (s.acceptTrigger quads us).hkc = s.hkc ∧ (s.acceptTrigger quads us).tap = s.tap ∧ (s.acceptTrigger quads us).pad = s.pad ∧
    (s.acceptTrigger quads us).nvs.mem = s.nvs.mem := by
  unfold State.acceptTrigger; dsimp only; repeat' (first | (simp; done) | split)

@[simp] theorem State.takeTrigger_frame (s : State) :
    s.takeTrigger.pending = s.pending ∧ s.takeTrigger.free = s.free ∧ s.takeTrigger.clk = s.clk ∧ s.takeTrigger.rst = s.rst ∧
    s.takeTrigger.ctl = s.ctl ∧ s.takeTrigger.fus = s.fus ∧ s.takeTrigger.role = s.role ∧ s.takeTrigger.fw = s.fw ∧
    s.takeTrigger.led = s.led ∧ s.takeTrigger.pace = s.pace ∧ s.takeTrigger.pix = s.pix ∧ s.takeTrigger.pdp = s.pdp ∧
    s.takeTrigger.tab = s.tab ∧ s.takeTrigger.pin = s.pin ∧ s.takeTrigger.hkc = s.hkc ∧ s.takeTrigger.tap = s.tap ∧
    s.takeTrigger.pad = s.pad ∧ s.takeTrigger.nvs.mem = s.nvs.mem := by
  unfold State.takeTrigger; dsimp only; repeat' (first | (simp; done) | split)

@[simp] theorem State.onCapture_frame (s : State) (c : Word64) (f : Capture → Capture) :
    (s.onCapture c f).pending = s.pending ∧ (s.onCapture c f).free = s.free ∧ (s.onCapture c f).clk = s.clk ∧
    (s.onCapture c f).pwr = s.pwr ∧ (s.onCapture c f).rst = s.rst ∧ (s.onCapture c f).wdg = s.wdg ∧
    (s.onCapture c f).reg = s.reg ∧ (s.onCapture c f).ctl = s.ctl ∧ (s.onCapture c f).ev = s.ev ∧
    (s.onCapture c f).par = s.par ∧ (s.onCapture c f).fus = s.fus ∧ (s.onCapture c f).role = s.role ∧
    (s.onCapture c f).fw = s.fw ∧ (s.onCapture c f).nvs = s.nvs ∧ (s.onCapture c f).led = s.led ∧
    (s.onCapture c f).sea = s.sea ∧ (s.onCapture c f).view = s.view ∧ (s.onCapture c f).pace = s.pace ∧
    (s.onCapture c f).lnk = s.lnk ∧ (s.onCapture c f).pix = s.pix ∧ (s.onCapture c f).pdp = s.pdp ∧
    (s.onCapture c f).tab = s.tab ∧ (s.onCapture c f).pin = s.pin ∧ (s.onCapture c f).hkc = s.hkc ∧
    (s.onCapture c f).tap = s.tap ∧ (s.onCapture c f).pad = s.pad := by
  simp [State.onCapture]

@[simp] theorem State.launchT0_frame (s : State) (c : Capture) (m : Word64) :
    (s.launchT0 c m).pending = s.pending ∧ (s.launchT0 c m).free = s.free ∧ (s.launchT0 c m).clk = s.clk ∧
    (s.launchT0 c m).rst = s.rst ∧ (s.launchT0 c m).ctl = s.ctl ∧ (s.launchT0 c m).par = s.par ∧ (s.launchT0 c m).fus = s.fus ∧
    (s.launchT0 c m).role = s.role ∧ (s.launchT0 c m).fw = s.fw ∧ (s.launchT0 c m).led = s.led ∧
    (s.launchT0 c m).pace = s.pace ∧ (s.launchT0 c m).pix = s.pix ∧ (s.launchT0 c m).pdp = s.pdp ∧
    (s.launchT0 c m).tab = s.tab ∧ (s.launchT0 c m).pin = s.pin ∧ (s.launchT0 c m).hkc = s.hkc ∧ (s.launchT0 c m).tap = s.tap ∧
    (s.launchT0 c m).pad = s.pad ∧ (s.launchT0 c m).nvs.mem = s.nvs.mem := by
  simp [State.launchT0]

@[simp] theorem State.suppress_frame (s : State) (c : Capture) (p k : Nat) (n : Node) :
    (s.suppress c p k n).pending = s.pending ∧ (s.suppress c p k n).free = s.free ∧ (s.suppress c p k n).clk = s.clk ∧
    (s.suppress c p k n).pwr = s.pwr ∧ (s.suppress c p k n).rst = s.rst ∧ (s.suppress c p k n).wdg = s.wdg ∧
    (s.suppress c p k n).reg = s.reg ∧ (s.suppress c p k n).ctl = s.ctl ∧ (s.suppress c p k n).ev = s.ev ∧
    (s.suppress c p k n).par = s.par ∧ (s.suppress c p k n).fus = s.fus ∧ (s.suppress c p k n).role = s.role ∧
    (s.suppress c p k n).fw = s.fw ∧ (s.suppress c p k n).nvs = s.nvs ∧ (s.suppress c p k n).led = s.led ∧
    (s.suppress c p k n).sea = s.sea ∧ (s.suppress c p k n).view = s.view ∧ (s.suppress c p k n).pace = s.pace ∧
    (s.suppress c p k n).lnk = s.lnk ∧ (s.suppress c p k n).pix = s.pix ∧ (s.suppress c p k n).pdp = s.pdp ∧
    (s.suppress c p k n).tab = s.tab ∧ (s.suppress c p k n).pin = s.pin ∧ (s.suppress c p k n).hkc = s.hkc ∧
    (s.suppress c p k n).tap = s.tap ∧ (s.suppress c p k n).pad = s.pad := by
  simp [State.suppress]

@[simp] theorem State.edgeEffect_frame (s : State) (c : Capture) (y : Edge) :
    (s.edgeEffect c y).pending = s.pending ∧ (s.edgeEffect c y).clk = s.clk ∧ (s.edgeEffect c y).rst = s.rst ∧
    (s.edgeEffect c y).ctl = s.ctl ∧ (s.edgeEffect c y).par = s.par ∧ (s.edgeEffect c y).fus = s.fus ∧
    (s.edgeEffect c y).role = s.role ∧ (s.edgeEffect c y).fw = s.fw ∧ (s.edgeEffect c y).led = s.led ∧
    (s.edgeEffect c y).pace = s.pace ∧ (s.edgeEffect c y).pix = s.pix ∧ (s.edgeEffect c y).pdp = s.pdp ∧
    (s.edgeEffect c y).tab = s.tab ∧ (s.edgeEffect c y).pin = s.pin ∧ (s.edgeEffect c y).hkc = s.hkc ∧
    (s.edgeEffect c y).tap = s.tap ∧ (s.edgeEffect c y).pad = s.pad ∧ (s.edgeEffect c y).nvs.mem = s.nvs.mem := by
  cases y <;> simp [State.edgeEffect] <;> split <;> simp

@[simp] theorem State.launchEdge_frame (s : State) (c : Capture) (e : Edge) :
    (s.launchEdge c e).pending = s.pending ∧ (s.launchEdge c e).clk = s.clk ∧ (s.launchEdge c e).rst = s.rst ∧
    (s.launchEdge c e).ctl = s.ctl ∧ (s.launchEdge c e).par = s.par ∧ (s.launchEdge c e).fus = s.fus ∧
    (s.launchEdge c e).role = s.role ∧ (s.launchEdge c e).fw = s.fw ∧ (s.launchEdge c e).led = s.led ∧
    (s.launchEdge c e).pace = s.pace ∧ (s.launchEdge c e).pix = s.pix ∧ (s.launchEdge c e).pdp = s.pdp ∧
    (s.launchEdge c e).tab = s.tab ∧ (s.launchEdge c e).pin = s.pin ∧ (s.launchEdge c e).hkc = s.hkc ∧
    (s.launchEdge c e).tap = s.tap ∧ (s.launchEdge c e).pad = s.pad ∧ (s.launchEdge c e).nvs.mem = s.nvs.mem := by
  simp [State.launchEdge]

@[simp] theorem State.openFrame_frame (s : State) (c : Capture) (v : Nat) :
    (s.openFrame c v).pending = s.pending ∧ (s.openFrame c v).free = s.free ∧ (s.openFrame c v).clk = s.clk ∧
    (s.openFrame c v).pwr = s.pwr ∧ (s.openFrame c v).rst = s.rst ∧ (s.openFrame c v).wdg = s.wdg ∧
    (s.openFrame c v).reg = s.reg ∧ (s.openFrame c v).ctl = s.ctl ∧ (s.openFrame c v).ev = s.ev ∧
    (s.openFrame c v).par = s.par ∧ (s.openFrame c v).fus = s.fus ∧ (s.openFrame c v).role = s.role ∧
    (s.openFrame c v).fw = s.fw ∧ (s.openFrame c v).nvs = s.nvs ∧ (s.openFrame c v).led = s.led ∧
    (s.openFrame c v).sea = s.sea ∧ (s.openFrame c v).pace = s.pace ∧ (s.openFrame c v).lnk = s.lnk ∧
    (s.openFrame c v).ets = s.ets ∧ (s.openFrame c v).pix = s.pix ∧ (s.openFrame c v).pdp = s.pdp ∧
    (s.openFrame c v).tab = s.tab ∧ (s.openFrame c v).pin = s.pin ∧ (s.openFrame c v).hkc = s.hkc ∧
    (s.openFrame c v).tap = s.tap ∧ (s.openFrame c v).pad = s.pad := by
  simp [State.openFrame]

@[simp] theorem State.beginReadout_frame (s : State) (c : Capture) :
    (s.beginReadout c).pending = s.pending ∧ (s.beginReadout c).free = s.free ∧ (s.beginReadout c).clk = s.clk ∧
    (s.beginReadout c).pwr = s.pwr ∧ (s.beginReadout c).rst = s.rst ∧ (s.beginReadout c).wdg = s.wdg ∧
    (s.beginReadout c).reg = s.reg ∧ (s.beginReadout c).ctl = s.ctl ∧ (s.beginReadout c).ev = s.ev ∧
    (s.beginReadout c).par = s.par ∧ (s.beginReadout c).fus = s.fus ∧ (s.beginReadout c).role = s.role ∧
    (s.beginReadout c).fw = s.fw ∧ (s.beginReadout c).nvs = s.nvs ∧ (s.beginReadout c).led = s.led ∧
    (s.beginReadout c).sea = s.sea ∧ (s.beginReadout c).pace = s.pace ∧ (s.beginReadout c).lnk = s.lnk ∧
    (s.beginReadout c).ets = s.ets ∧ (s.beginReadout c).pix = s.pix ∧ (s.beginReadout c).tab = s.tab ∧
    (s.beginReadout c).pin = s.pin ∧ (s.beginReadout c).hkc = s.hkc ∧ (s.beginReadout c).tap = s.tap ∧
    (s.beginReadout c).pad = s.pad := by
  simp [State.beginReadout]

@[simp] theorem State.releaseQuad_frame (s : State) (c : Capture) :
    (s.releaseQuad c).pending = s.pending ∧ (s.releaseQuad c).free = s.free ∧ (s.releaseQuad c).clk = s.clk ∧
    (s.releaseQuad c).pwr = s.pwr ∧ (s.releaseQuad c).rst = s.rst ∧ (s.releaseQuad c).wdg = s.wdg ∧
    (s.releaseQuad c).reg = s.reg ∧ (s.releaseQuad c).ctl = s.ctl ∧ (s.releaseQuad c).ev = s.ev ∧
    (s.releaseQuad c).par = s.par ∧ (s.releaseQuad c).fus = s.fus ∧ (s.releaseQuad c).role = s.role ∧
    (s.releaseQuad c).fw = s.fw ∧ (s.releaseQuad c).nvs = s.nvs ∧ (s.releaseQuad c).led = s.led ∧
    (s.releaseQuad c).sea = s.sea ∧ (s.releaseQuad c).pace = s.pace ∧ (s.releaseQuad c).lnk = s.lnk ∧
    (s.releaseQuad c).pix = s.pix ∧ (s.releaseQuad c).tab = s.tab ∧ (s.releaseQuad c).pin = s.pin ∧
    (s.releaseQuad c).hkc = s.hkc ∧ (s.releaseQuad c).tap = s.tap ∧ (s.releaseQuad c).pad = s.pad := by
  simp [State.releaseQuad]

@[simp] theorem State.aeAdjust_frame (s : State) (p : Nat) (x : StatsSet) :
    (s.aeAdjust p x).pending = s.pending ∧ (s.aeAdjust p x).free = s.free ∧ (s.aeAdjust p x).clk = s.clk ∧
    (s.aeAdjust p x).pwr = s.pwr ∧ (s.aeAdjust p x).rst = s.rst ∧ (s.aeAdjust p x).reg = s.reg ∧ (s.aeAdjust p x).ctl = s.ctl ∧
    (s.aeAdjust p x).ev = s.ev ∧ (s.aeAdjust p x).par = s.par ∧ (s.aeAdjust p x).fus = s.fus ∧ (s.aeAdjust p x).role = s.role ∧
    (s.aeAdjust p x).fw = s.fw ∧ (s.aeAdjust p x).nvs = s.nvs ∧ (s.aeAdjust p x).led = s.led ∧ (s.aeAdjust p x).sea = s.sea ∧
    (s.aeAdjust p x).view = s.view ∧ (s.aeAdjust p x).pace = s.pace ∧ (s.aeAdjust p x).lnk = s.lnk ∧
    (s.aeAdjust p x).pix = s.pix ∧ (s.aeAdjust p x).pdp = s.pdp ∧ (s.aeAdjust p x).tab = s.tab ∧ (s.aeAdjust p x).pin = s.pin ∧
    (s.aeAdjust p x).hkc = s.hkc ∧ (s.aeAdjust p x).tap = s.tap ∧ (s.aeAdjust p x).pad = s.pad := by
  simp [State.aeAdjust]

@[simp] theorem State.switch_frame (s : State) (l : List Nat) (on : Nat → Bool) :
    (s.switch l on).pending = s.pending ∧ (s.switch l on).free = s.free ∧ (s.switch l on).clk = s.clk ∧
    (s.switch l on).rst = s.rst ∧ (s.switch l on).wdg = s.wdg ∧ (s.switch l on).reg = s.reg ∧ (s.switch l on).ctl = s.ctl ∧
    (s.switch l on).ev = s.ev ∧ (s.switch l on).par = s.par ∧ (s.switch l on).fus = s.fus ∧ (s.switch l on).role = s.role ∧
    (s.switch l on).fw = s.fw ∧ (s.switch l on).nvs = s.nvs ∧ (s.switch l on).led = s.led ∧ (s.switch l on).sea = s.sea ∧
    (s.switch l on).view = s.view ∧ (s.switch l on).pace = s.pace ∧ (s.switch l on).lnk = s.lnk ∧ (s.switch l on).ets = s.ets ∧
    (s.switch l on).pix = s.pix ∧ (s.switch l on).pdp = s.pdp ∧ (s.switch l on).tab = s.tab ∧ (s.switch l on).pin = s.pin ∧
    (s.switch l on).hkc = s.hkc ∧ (s.switch l on).tap = s.tap ∧ (s.switch l on).pad = s.pad := by
  simp [State.switch]

@[simp] theorem State.switchQuads_frame (s : State) (need : Nat) :
    (s.switchQuads need).pending = s.pending ∧ (s.switchQuads need).free = s.free ∧ (s.switchQuads need).clk = s.clk ∧
    (s.switchQuads need).rst = s.rst ∧ (s.switchQuads need).wdg = s.wdg ∧ (s.switchQuads need).reg = s.reg ∧
    (s.switchQuads need).ctl = s.ctl ∧ (s.switchQuads need).ev = s.ev ∧ (s.switchQuads need).par = s.par ∧
    (s.switchQuads need).fus = s.fus ∧ (s.switchQuads need).role = s.role ∧ (s.switchQuads need).fw = s.fw ∧
    (s.switchQuads need).nvs = s.nvs ∧ (s.switchQuads need).led = s.led ∧ (s.switchQuads need).sea = s.sea ∧
    (s.switchQuads need).view = s.view ∧ (s.switchQuads need).pace = s.pace ∧ (s.switchQuads need).lnk = s.lnk ∧
    (s.switchQuads need).ets = s.ets ∧ (s.switchQuads need).pdp = s.pdp ∧ (s.switchQuads need).tab = s.tab ∧
    (s.switchQuads need).pin = s.pin ∧ (s.switchQuads need).hkc = s.hkc ∧ (s.switchQuads need).tap = s.tap ∧
    (s.switchQuads need).pad = s.pad := by
  simp [State.switchQuads]

@[simp] theorem State.switchSegs_frame (s : State) (need : Nat) :
    (s.switchSegs need).pending = s.pending ∧ (s.switchSegs need).free = s.free ∧ (s.switchSegs need).clk = s.clk ∧
    (s.switchSegs need).rst = s.rst ∧ (s.switchSegs need).wdg = s.wdg ∧ (s.switchSegs need).reg = s.reg ∧
    (s.switchSegs need).ctl = s.ctl ∧ (s.switchSegs need).ev = s.ev ∧ (s.switchSegs need).par = s.par ∧
    (s.switchSegs need).fus = s.fus ∧ (s.switchSegs need).role = s.role ∧ (s.switchSegs need).fw = s.fw ∧
    (s.switchSegs need).nvs = s.nvs ∧ (s.switchSegs need).led = s.led ∧ (s.switchSegs need).sea = s.sea ∧
    (s.switchSegs need).view = s.view ∧ (s.switchSegs need).pace = s.pace ∧ (s.switchSegs need).lnk = s.lnk ∧
    (s.switchSegs need).ets = s.ets ∧ (s.switchSegs need).pdp = s.pdp ∧ (s.switchSegs need).tab = s.tab ∧
    (s.switchSegs need).pin = s.pin ∧ (s.switchSegs need).hkc = s.hkc ∧ (s.switchSegs need).tap = s.tap ∧
    (s.switchSegs need).pad = s.pad := by
  simp [State.switchSegs]

@[simp] theorem State.switchViews_frame (s : State) :
    s.switchViews.pending = s.pending ∧ s.switchViews.free = s.free ∧ s.switchViews.clk = s.clk ∧ s.switchViews.rst = s.rst ∧
    s.switchViews.wdg = s.wdg ∧ s.switchViews.reg = s.reg ∧ s.switchViews.ctl = s.ctl ∧ s.switchViews.ev = s.ev ∧
    s.switchViews.par = s.par ∧ s.switchViews.fus = s.fus ∧ s.switchViews.role = s.role ∧ s.switchViews.fw = s.fw ∧
    s.switchViews.nvs = s.nvs ∧ s.switchViews.led = s.led ∧ s.switchViews.sea = s.sea ∧ s.switchViews.view = s.view ∧
    s.switchViews.pace = s.pace ∧ s.switchViews.lnk = s.lnk ∧ s.switchViews.ets = s.ets ∧ s.switchViews.pix = s.pix ∧
    s.switchViews.tab = s.tab ∧ s.switchViews.pin = s.pin ∧ s.switchViews.hkc = s.hkc ∧ s.switchViews.tap = s.tap ∧
    s.switchViews.pad = s.pad := by
  simp [State.switchViews]

@[simp] theorem State.supply_frame (s : State) :
    s.supply.pending = s.pending ∧ s.supply.free = s.free ∧ s.supply.clk = s.clk ∧ s.supply.rst = s.rst ∧
    s.supply.wdg = s.wdg ∧ s.supply.reg = s.reg ∧ s.supply.ctl = s.ctl ∧ s.supply.ev = s.ev ∧ s.supply.par = s.par ∧
    s.supply.fus = s.fus ∧ s.supply.role = s.role ∧ s.supply.fw = s.fw ∧ s.supply.nvs = s.nvs ∧ s.supply.led = s.led ∧
    s.supply.sea = s.sea ∧ s.supply.view = s.view ∧ s.supply.pace = s.pace ∧ s.supply.lnk = s.lnk ∧ s.supply.ets = s.ets ∧
    s.supply.tab = s.tab ∧ s.supply.pin = s.pin ∧ s.supply.hkc = s.hkc ∧ s.supply.tap = s.tap ∧ s.supply.pad = s.pad := by
  simp [State.supply]

@[simp] theorem State.seedExposures_frame (s : State) :
    s.seedExposures.pending = s.pending ∧ s.seedExposures.free = s.free ∧ s.seedExposures.clk = s.clk ∧
    s.seedExposures.pwr = s.pwr ∧ s.seedExposures.rst = s.rst ∧ s.seedExposures.wdg = s.wdg ∧ s.seedExposures.reg = s.reg ∧
    s.seedExposures.ctl = s.ctl ∧ s.seedExposures.ev = s.ev ∧ s.seedExposures.par = s.par ∧ s.seedExposures.fus = s.fus ∧
    s.seedExposures.role = s.role ∧ s.seedExposures.fw = s.fw ∧ s.seedExposures.nvs = s.nvs ∧ s.seedExposures.led = s.led ∧
    s.seedExposures.sea = s.sea ∧ s.seedExposures.view = s.view ∧ s.seedExposures.pace = s.pace ∧ s.seedExposures.lnk = s.lnk ∧
    s.seedExposures.pix = s.pix ∧ s.seedExposures.pdp = s.pdp ∧ s.seedExposures.tab = s.tab ∧ s.seedExposures.pin = s.pin ∧
    s.seedExposures.hkc = s.hkc ∧ s.seedExposures.tap = s.tap ∧ s.seedExposures.pad = s.pad := by
  unfold State.seedExposures; split <;> simp

@[simp] theorem State.freshBlack_frame (s : State) :
    s.freshBlack.pending = s.pending ∧ s.freshBlack.free = s.free ∧ s.freshBlack.clk = s.clk ∧ s.freshBlack.pwr = s.pwr ∧
    s.freshBlack.rst = s.rst ∧ s.freshBlack.wdg = s.wdg ∧ s.freshBlack.reg = s.reg ∧ s.freshBlack.ctl = s.ctl ∧
    s.freshBlack.ev = s.ev ∧ s.freshBlack.par = s.par ∧ s.freshBlack.fus = s.fus ∧ s.freshBlack.role = s.role ∧
    s.freshBlack.fw = s.fw ∧ s.freshBlack.nvs = s.nvs ∧ s.freshBlack.led = s.led ∧ s.freshBlack.sea = s.sea ∧
    s.freshBlack.view = s.view ∧ s.freshBlack.pace = s.pace ∧ s.freshBlack.lnk = s.lnk ∧ s.freshBlack.ets = s.ets ∧
    s.freshBlack.pix = s.pix ∧ s.freshBlack.tab = s.tab ∧ s.freshBlack.pin = s.pin ∧ s.freshBlack.hkc = s.hkc ∧
    s.freshBlack.tap = s.tap ∧ s.freshBlack.pad = s.pad := by
  simp [State.freshBlack]

@[simp] theorem State.adoptTables_frame (s : State) :
    s.adoptTables.pending = s.pending ∧ s.adoptTables.free = s.free ∧ s.adoptTables.clk = s.clk ∧ s.adoptTables.pwr = s.pwr ∧
    s.adoptTables.rst = s.rst ∧ s.adoptTables.wdg = s.wdg ∧ s.adoptTables.reg = s.reg ∧ s.adoptTables.ctl = s.ctl ∧
    s.adoptTables.ev = s.ev ∧ s.adoptTables.par = s.par ∧ s.adoptTables.fus = s.fus ∧ s.adoptTables.role = s.role ∧
    s.adoptTables.fw = s.fw ∧ s.adoptTables.nvs = s.nvs ∧ s.adoptTables.led = s.led ∧ s.adoptTables.sea = s.sea ∧
    s.adoptTables.view = s.view ∧ s.adoptTables.pace = s.pace ∧ s.adoptTables.lnk = s.lnk ∧ s.adoptTables.ets = s.ets ∧
    s.adoptTables.pix = s.pix ∧ s.adoptTables.pin = s.pin ∧ s.adoptTables.hkc = s.hkc ∧ s.adoptTables.tap = s.tap ∧
    s.adoptTables.pad = s.pad := by
  simp [State.adoptTables]

@[simp] theorem State.useInterval_frame (s : State) (interval : Nat) :
    (s.useInterval interval).pending = s.pending ∧ (s.useInterval interval).free = s.free ∧
    (s.useInterval interval).clk = s.clk ∧ (s.useInterval interval).pwr = s.pwr ∧ (s.useInterval interval).rst = s.rst ∧
    (s.useInterval interval).wdg = s.wdg ∧ (s.useInterval interval).reg = s.reg ∧ (s.useInterval interval).ctl = s.ctl ∧
    (s.useInterval interval).ev = s.ev ∧ (s.useInterval interval).par = s.par ∧ (s.useInterval interval).fus = s.fus ∧
    (s.useInterval interval).role = s.role ∧ (s.useInterval interval).fw = s.fw ∧ (s.useInterval interval).nvs = s.nvs ∧
    (s.useInterval interval).led = s.led ∧ (s.useInterval interval).sea = s.sea ∧ (s.useInterval interval).pace = s.pace ∧
    (s.useInterval interval).lnk = s.lnk ∧ (s.useInterval interval).pix = s.pix ∧ (s.useInterval interval).pdp = s.pdp ∧
    (s.useInterval interval).tab = s.tab ∧ (s.useInterval interval).pin = s.pin ∧ (s.useInterval interval).hkc = s.hkc ∧
    (s.useInterval interval).tap = s.tap ∧ (s.useInterval interval).pad = s.pad := by
  simp [State.useInterval]

@[simp] theorem State.completeView_frame (s : State) (v : Nat) :
    (s.completeView v).pending = s.pending ∧ (s.completeView v).free = s.free ∧ (s.completeView v).clk = s.clk ∧
    (s.completeView v).pwr = s.pwr ∧ (s.completeView v).rst = s.rst ∧ (s.completeView v).wdg = s.wdg ∧
    (s.completeView v).reg = s.reg ∧ (s.completeView v).ctl = s.ctl ∧ (s.completeView v).ev = s.ev ∧
    (s.completeView v).par = s.par ∧ (s.completeView v).fus = s.fus ∧ (s.completeView v).role = s.role ∧
    (s.completeView v).fw = s.fw ∧ (s.completeView v).nvs = s.nvs ∧ (s.completeView v).led = s.led ∧
    (s.completeView v).sea = s.sea ∧ (s.completeView v).pace = s.pace ∧ (s.completeView v).lnk = s.lnk ∧
    (s.completeView v).pix = s.pix ∧ (s.completeView v).pin = s.pin ∧ (s.completeView v).hkc = s.hkc ∧
    (s.completeView v).tap = s.tap ∧ (s.completeView v).pad = s.pad := by
  simp [State.completeView]

@[simp] theorem State.completeStarts_frame (s : State) :
    s.completeStarts.pending = s.pending ∧ s.completeStarts.free = s.free ∧ s.completeStarts.clk = s.clk ∧
    s.completeStarts.pwr = s.pwr ∧ s.completeStarts.rst = s.rst ∧ s.completeStarts.wdg = s.wdg ∧ s.completeStarts.reg = s.reg ∧
    s.completeStarts.ctl = s.ctl ∧ s.completeStarts.ev = s.ev ∧ s.completeStarts.par = s.par ∧ s.completeStarts.fus = s.fus ∧
    s.completeStarts.role = s.role ∧ s.completeStarts.fw = s.fw ∧ s.completeStarts.nvs = s.nvs ∧ s.completeStarts.led = s.led ∧
    s.completeStarts.sea = s.sea ∧ s.completeStarts.pace = s.pace ∧ s.completeStarts.lnk = s.lnk ∧
    s.completeStarts.pix = s.pix ∧ s.completeStarts.pin = s.pin ∧ s.completeStarts.hkc = s.hkc ∧ s.completeStarts.tap = s.tap ∧
    s.completeStarts.pad = s.pad := by
  simp [State.completeStarts]

@[simp] theorem State.endStop_frame (s : State) (v : Nat) :
    (s.endStop v).pending = s.pending ∧ (s.endStop v).free = s.free ∧ (s.endStop v).clk = s.clk ∧ (s.endStop v).rst = s.rst ∧
    (s.endStop v).wdg = s.wdg ∧ (s.endStop v).reg = s.reg ∧ (s.endStop v).ctl = s.ctl ∧ (s.endStop v).ev = s.ev ∧
    (s.endStop v).par = s.par ∧ (s.endStop v).fus = s.fus ∧ (s.endStop v).role = s.role ∧ (s.endStop v).fw = s.fw ∧
    (s.endStop v).nvs = s.nvs ∧ (s.endStop v).led = s.led ∧ (s.endStop v).sea = s.sea ∧ (s.endStop v).pace = s.pace ∧
    (s.endStop v).lnk = s.lnk ∧ (s.endStop v).ets = s.ets ∧ (s.endStop v).tab = s.tab ∧ (s.endStop v).pin = s.pin ∧
    (s.endStop v).hkc = s.hkc ∧ (s.endStop v).tap = s.tap ∧ (s.endStop v).pad = s.pad := by
  simp [State.endStop]

@[simp] theorem State.endStops_frame (s : State) :
    s.endStops.pending = s.pending ∧ s.endStops.free = s.free ∧ s.endStops.clk = s.clk ∧ s.endStops.rst = s.rst ∧
    s.endStops.wdg = s.wdg ∧ s.endStops.reg = s.reg ∧ s.endStops.ctl = s.ctl ∧ s.endStops.ev = s.ev ∧ s.endStops.par = s.par ∧
    s.endStops.fus = s.fus ∧ s.endStops.role = s.role ∧ s.endStops.fw = s.fw ∧ s.endStops.nvs = s.nvs ∧
    s.endStops.led = s.led ∧ s.endStops.sea = s.sea ∧ s.endStops.pace = s.pace ∧ s.endStops.lnk = s.lnk ∧
    s.endStops.ets = s.ets ∧ s.endStops.tab = s.tab ∧ s.endStops.pin = s.pin ∧ s.endStops.hkc = s.hkc ∧
    s.endStops.tap = s.tap ∧ s.endStops.pad = s.pad := by
  simp [State.endStops]

@[simp] theorem State.upDone_frame (s : State) (l : List Nat) :
    (s.upDone l).pending = s.pending ∧ (s.upDone l).free = s.free ∧ (s.upDone l).clk = s.clk ∧ (s.upDone l).rst = s.rst ∧
    (s.upDone l).reg = s.reg ∧ (s.upDone l).ctl = s.ctl ∧ (s.upDone l).ev = s.ev ∧ (s.upDone l).par = s.par ∧
    (s.upDone l).fus = s.fus ∧ (s.upDone l).role = s.role ∧ (s.upDone l).fw = s.fw ∧ (s.upDone l).nvs = s.nvs ∧
    (s.upDone l).led = s.led ∧ (s.upDone l).sea = s.sea ∧ (s.upDone l).view = s.view ∧ (s.upDone l).pace = s.pace ∧
    (s.upDone l).lnk = s.lnk ∧ (s.upDone l).ets = s.ets ∧ (s.upDone l).pix = s.pix ∧ (s.upDone l).pdp = s.pdp ∧
    (s.upDone l).tab = s.tab ∧ (s.upDone l).pin = s.pin ∧ (s.upDone l).hkc = s.hkc ∧ (s.upDone l).tap = s.tap ∧
    (s.upDone l).pad = s.pad := by
  simp [State.upDone]

@[simp] theorem State.flushDone_frame (s : State) (q : Nat) :
    (s.flushDone q).pending = s.pending ∧ (s.flushDone q).free = s.free ∧ (s.flushDone q).clk = s.clk ∧
    (s.flushDone q).rst = s.rst ∧ (s.flushDone q).reg = s.reg ∧ (s.flushDone q).ctl = s.ctl ∧ (s.flushDone q).ev = s.ev ∧
    (s.flushDone q).par = s.par ∧ (s.flushDone q).fus = s.fus ∧ (s.flushDone q).role = s.role ∧ (s.flushDone q).fw = s.fw ∧
    (s.flushDone q).nvs = s.nvs ∧ (s.flushDone q).led = s.led ∧ (s.flushDone q).sea = s.sea ∧ (s.flushDone q).pace = s.pace ∧
    (s.flushDone q).lnk = s.lnk ∧ (s.flushDone q).pin = s.pin ∧ (s.flushDone q).hkc = s.hkc ∧ (s.flushDone q).tap = s.tap ∧
    (s.flushDone q).pad = s.pad := by
  simp [State.flushDone]

@[simp] theorem State.segmentUp_frame (s : State) (g : Nat) :
    (s.segmentUp g).pending = s.pending ∧ (s.segmentUp g).free = s.free ∧ (s.segmentUp g).clk = s.clk ∧
    (s.segmentUp g).rst = s.rst ∧ (s.segmentUp g).reg = s.reg ∧ (s.segmentUp g).ctl = s.ctl ∧ (s.segmentUp g).ev = s.ev ∧
    (s.segmentUp g).par = s.par ∧ (s.segmentUp g).fus = s.fus ∧ (s.segmentUp g).role = s.role ∧ (s.segmentUp g).fw = s.fw ∧
    (s.segmentUp g).nvs = s.nvs ∧ (s.segmentUp g).led = s.led ∧ (s.segmentUp g).sea = s.sea ∧ (s.segmentUp g).pace = s.pace ∧
    (s.segmentUp g).lnk = s.lnk ∧ (s.segmentUp g).pin = s.pin ∧ (s.segmentUp g).hkc = s.hkc ∧ (s.segmentUp g).tap = s.tap ∧
    (s.segmentUp g).pad = s.pad := by
  simp [State.segmentUp]

@[simp] theorem State.onRun_frame (s : State) (f : Run → Run) :
    (s.onRun f).pending = s.pending ∧ (s.onRun f).free = s.free ∧ (s.onRun f).clk = s.clk ∧ (s.onRun f).rst = s.rst ∧
    (s.onRun f).wdg = s.wdg ∧ (s.onRun f).reg = s.reg ∧ (s.onRun f).ctl = s.ctl ∧ (s.onRun f).ev = s.ev ∧
    (s.onRun f).par = s.par ∧ (s.onRun f).fus = s.fus ∧ (s.onRun f).role = s.role ∧ (s.onRun f).fw = s.fw ∧
    (s.onRun f).nvs = s.nvs ∧ (s.onRun f).led = s.led ∧ (s.onRun f).sea = s.sea ∧ (s.onRun f).view = s.view ∧
    (s.onRun f).pace = s.pace ∧ (s.onRun f).lnk = s.lnk ∧ (s.onRun f).ets = s.ets ∧ (s.onRun f).pix = s.pix ∧
    (s.onRun f).pdp = s.pdp ∧ (s.onRun f).tab = s.tab ∧ (s.onRun f).pin = s.pin ∧ (s.onRun f).hkc = s.hkc ∧
    (s.onRun f).tap = s.tap ∧ (s.onRun f).pad = s.pad := by
  simp [State.onRun]

@[simp] theorem State.umberGap_frame (s : State) (c : Capture) (v : Nat) :
    (s.umberGap c v).pending = s.pending ∧ (s.umberGap c v).free = s.free ∧ (s.umberGap c v).clk = s.clk ∧
    (s.umberGap c v).pwr = s.pwr ∧ (s.umberGap c v).rst = s.rst ∧ (s.umberGap c v).wdg = s.wdg ∧ (s.umberGap c v).reg = s.reg ∧
    (s.umberGap c v).ctl = s.ctl ∧ (s.umberGap c v).ev = s.ev ∧ (s.umberGap c v).par = s.par ∧ (s.umberGap c v).fus = s.fus ∧
    (s.umberGap c v).role = s.role ∧ (s.umberGap c v).fw = s.fw ∧ (s.umberGap c v).nvs = s.nvs ∧ (s.umberGap c v).led = s.led ∧
    (s.umberGap c v).sea = s.sea ∧ (s.umberGap c v).pace = s.pace ∧ (s.umberGap c v).lnk = s.lnk ∧
    (s.umberGap c v).ets = s.ets ∧ (s.umberGap c v).pix = s.pix ∧ (s.umberGap c v).pdp = s.pdp ∧ (s.umberGap c v).tab = s.tab ∧
    (s.umberGap c v).pin = s.pin ∧ (s.umberGap c v).hkc = s.hkc ∧ (s.umberGap c v).tap = s.tap ∧ (s.umberGap c v).pad = s.pad
        := by
  simp [State.umberGap]

@[simp] theorem State.flushReconfig_frame (s : State) (v : Nat) :
    (s.flushReconfig v).pending = s.pending ∧ (s.flushReconfig v).free = s.free ∧ (s.flushReconfig v).clk = s.clk ∧
    (s.flushReconfig v).pwr = s.pwr ∧ (s.flushReconfig v).rst = s.rst ∧ (s.flushReconfig v).wdg = s.wdg ∧
    (s.flushReconfig v).reg = s.reg ∧ (s.flushReconfig v).ctl = s.ctl ∧ (s.flushReconfig v).ev = s.ev ∧
    (s.flushReconfig v).par = s.par ∧ (s.flushReconfig v).fus = s.fus ∧ (s.flushReconfig v).role = s.role ∧
    (s.flushReconfig v).fw = s.fw ∧ (s.flushReconfig v).led = s.led ∧ (s.flushReconfig v).pace = s.pace ∧
    (s.flushReconfig v).lnk = s.lnk ∧ (s.flushReconfig v).ets = s.ets ∧ (s.flushReconfig v).pix = s.pix ∧
    (s.flushReconfig v).pdp = s.pdp ∧ (s.flushReconfig v).tab = s.tab ∧ (s.flushReconfig v).pin = s.pin ∧
    (s.flushReconfig v).hkc = s.hkc ∧ (s.flushReconfig v).tap = s.tap ∧ (s.flushReconfig v).pad = s.pad ∧
    (s.flushReconfig v).nvs.mem = s.nvs.mem := by
  simp [State.flushReconfig]

@[simp] theorem State.stopCaptures_frame (s : State) :
    s.stopCaptures.pending = s.pending ∧ s.stopCaptures.free = s.free ∧ s.stopCaptures.clk = s.clk ∧
    s.stopCaptures.rst = s.rst ∧ s.stopCaptures.wdg = s.wdg ∧ s.stopCaptures.reg = s.reg ∧ s.stopCaptures.ctl = s.ctl ∧
    s.stopCaptures.ev = s.ev ∧ s.stopCaptures.par = s.par ∧ s.stopCaptures.fus = s.fus ∧ s.stopCaptures.role = s.role ∧
    s.stopCaptures.fw = s.fw ∧ s.stopCaptures.led = s.led ∧ s.stopCaptures.pace = s.pace ∧ s.stopCaptures.lnk = s.lnk ∧
    s.stopCaptures.pix = s.pix ∧ s.stopCaptures.pdp = s.pdp ∧ s.stopCaptures.tab = s.tab ∧ s.stopCaptures.pin = s.pin ∧
    s.stopCaptures.hkc = s.hkc ∧ s.stopCaptures.tap = s.tap ∧ s.stopCaptures.pad = s.pad ∧ s.stopCaptures.nvs.mem = s.nvs.mem
        := by
  simp [State.stopCaptures]

@[simp] theorem State.discardJobs_frame (s : State) :
    s.discardJobs.pending = s.pending ∧ s.discardJobs.free = s.free ∧ s.discardJobs.clk = s.clk ∧ s.discardJobs.rst = s.rst ∧
    s.discardJobs.wdg = s.wdg ∧ s.discardJobs.reg = s.reg ∧ s.discardJobs.ctl = s.ctl ∧ s.discardJobs.ev = s.ev ∧
    s.discardJobs.par = s.par ∧ s.discardJobs.fus = s.fus ∧ s.discardJobs.role = s.role ∧ s.discardJobs.fw = s.fw ∧
    s.discardJobs.nvs = s.nvs ∧ s.discardJobs.led = s.led ∧ s.discardJobs.view = s.view ∧ s.discardJobs.pace = s.pace ∧
    s.discardJobs.lnk = s.lnk ∧ s.discardJobs.ets = s.ets ∧ s.discardJobs.pix = s.pix ∧ s.discardJobs.pdp = s.pdp ∧
    s.discardJobs.tab = s.tab ∧ s.discardJobs.pin = s.pin ∧ s.discardJobs.hkc = s.hkc ∧ s.discardJobs.tap = s.tap ∧
    s.discardJobs.pad = s.pad := by
  simp [State.discardJobs]

@[simp] theorem State.judgeReadout_frame (s : State) :
    s.judgeReadout.pending = s.pending ∧ s.judgeReadout.free = s.free ∧ s.judgeReadout.clk = s.clk ∧
    s.judgeReadout.rst = s.rst ∧ s.judgeReadout.wdg = s.wdg ∧ s.judgeReadout.reg = s.reg ∧ s.judgeReadout.ctl = s.ctl ∧
    s.judgeReadout.ev = s.ev ∧ s.judgeReadout.par = s.par ∧ s.judgeReadout.fus = s.fus ∧ s.judgeReadout.role = s.role ∧
    s.judgeReadout.fw = s.fw ∧ s.judgeReadout.nvs = s.nvs ∧ s.judgeReadout.led = s.led ∧ s.judgeReadout.sea = s.sea ∧
    s.judgeReadout.view = s.view ∧ s.judgeReadout.pace = s.pace ∧ s.judgeReadout.lnk = s.lnk ∧ s.judgeReadout.ets = s.ets ∧
    s.judgeReadout.pix = s.pix ∧ s.judgeReadout.pdp = s.pdp ∧ s.judgeReadout.tab = s.tab ∧ s.judgeReadout.pin = s.pin ∧
    s.judgeReadout.hkc = s.hkc ∧ s.judgeReadout.tap = s.tap ∧ s.judgeReadout.pad = s.pad := by
  simp [State.judgeReadout]

@[simp] theorem State.openRun_frame (s : State) (trigger : Nat) :
    (s.openRun trigger).pending = s.pending ∧ (s.openRun trigger).free = s.free ∧ (s.openRun trigger).clk = s.clk ∧
    (s.openRun trigger).wdg = s.wdg ∧ (s.openRun trigger).reg = s.reg ∧ (s.openRun trigger).ctl = s.ctl ∧
    (s.openRun trigger).ev = s.ev ∧ (s.openRun trigger).par = s.par ∧ (s.openRun trigger).fus = s.fus ∧
    (s.openRun trigger).role = s.role ∧ (s.openRun trigger).fw = s.fw ∧ (s.openRun trigger).nvs = s.nvs ∧
    (s.openRun trigger).led = s.led ∧ (s.openRun trigger).sea = s.sea ∧ (s.openRun trigger).view = s.view ∧
    (s.openRun trigger).pace = s.pace ∧ (s.openRun trigger).lnk = s.lnk ∧ (s.openRun trigger).ets = s.ets ∧
    (s.openRun trigger).pix = s.pix ∧ (s.openRun trigger).pdp = s.pdp ∧ (s.openRun trigger).tab = s.tab ∧
    (s.openRun trigger).pin = s.pin ∧ (s.openRun trigger).hkc = s.hkc ∧ (s.openRun trigger).tap = s.tap ∧
    (s.openRun trigger).pad = s.pad := by
  simp [State.openRun]

@[simp] theorem State.dropControl_frame (s : State) :
    s.dropControl.pending = s.pending ∧ s.dropControl.free = s.free ∧ s.dropControl.clk = s.clk ∧ s.dropControl.wdg = s.wdg ∧
    s.dropControl.reg = s.reg ∧ s.dropControl.ev = s.ev ∧ s.dropControl.par = s.par ∧ s.dropControl.role = s.role ∧
    s.dropControl.fw = s.fw ∧ s.dropControl.led = s.led ∧ s.dropControl.sea = s.sea ∧ s.dropControl.view = s.view ∧
    s.dropControl.pace = s.pace ∧ s.dropControl.ets = s.ets ∧ s.dropControl.pix = s.pix ∧ s.dropControl.pdp = s.pdp ∧
    s.dropControl.tab = s.tab ∧ s.dropControl.tap = s.tap ∧ s.dropControl.pad = s.pad ∧ s.dropControl.nvs.mem = s.nvs.mem := by
  simp [State.dropControl]

@[simp] theorem State.raisePfail_frame (s : State) (trigger : Nat) :
    (s.raisePfail trigger).pending = s.pending ∧ (s.raisePfail trigger).free = s.free ∧ (s.raisePfail trigger).clk = s.clk ∧
    (s.raisePfail trigger).pwr = s.pwr ∧ (s.raisePfail trigger).rst = s.rst ∧ (s.raisePfail trigger).wdg = s.wdg ∧
    (s.raisePfail trigger).ctl = s.ctl ∧ (s.raisePfail trigger).par = s.par ∧ (s.raisePfail trigger).fus = s.fus ∧
    (s.raisePfail trigger).role = s.role ∧ (s.raisePfail trigger).fw = s.fw ∧ (s.raisePfail trigger).nvs = s.nvs ∧
    (s.raisePfail trigger).led = s.led ∧ (s.raisePfail trigger).sea = s.sea ∧ (s.raisePfail trigger).view = s.view ∧
    (s.raisePfail trigger).pace = s.pace ∧ (s.raisePfail trigger).ets = s.ets ∧ (s.raisePfail trigger).pix = s.pix ∧
    (s.raisePfail trigger).pdp = s.pdp ∧ (s.raisePfail trigger).tab = s.tab ∧ (s.raisePfail trigger).pin = s.pin ∧
    (s.raisePfail trigger).hkc = s.hkc ∧ (s.raisePfail trigger).tap = s.tap ∧ (s.raisePfail trigger).pad = s.pad := by
  simp [State.raisePfail]

@[simp] theorem State.dropImaging_frame (s : State) :
    s.dropImaging.pending = s.pending ∧ s.dropImaging.free = s.free ∧ s.dropImaging.clk = s.clk ∧ s.dropImaging.rst = s.rst ∧
    s.dropImaging.wdg = s.wdg ∧ s.dropImaging.reg = s.reg ∧ s.dropImaging.ctl = s.ctl ∧ s.dropImaging.ev = s.ev ∧
    s.dropImaging.par = s.par ∧ s.dropImaging.fus = s.fus ∧ s.dropImaging.role = s.role ∧ s.dropImaging.fw = s.fw ∧
    s.dropImaging.nvs = s.nvs ∧ s.dropImaging.led = s.led ∧ s.dropImaging.sea = s.sea ∧ s.dropImaging.view = s.view ∧
    s.dropImaging.pace = s.pace ∧ s.dropImaging.lnk = s.lnk ∧ s.dropImaging.ets = s.ets ∧ s.dropImaging.pdp = s.pdp ∧
    s.dropImaging.tab = s.tab ∧ s.dropImaging.pin = s.pin ∧ s.dropImaging.hkc = s.hkc ∧ s.dropImaging.tap = s.tap ∧
    s.dropImaging.pad = s.pad := by
  simp [State.dropImaging]

@[simp] theorem State.cutJobs_frame (s : State) :
    s.cutJobs.pending = s.pending ∧ s.cutJobs.free = s.free ∧ s.cutJobs.clk = s.clk ∧ s.cutJobs.pwr = s.pwr ∧
    s.cutJobs.rst = s.rst ∧ s.cutJobs.wdg = s.wdg ∧ s.cutJobs.reg = s.reg ∧ s.cutJobs.ctl = s.ctl ∧ s.cutJobs.ev = s.ev ∧
    s.cutJobs.par = s.par ∧ s.cutJobs.fus = s.fus ∧ s.cutJobs.role = s.role ∧ s.cutJobs.fw = s.fw ∧ s.cutJobs.nvs = s.nvs ∧
    s.cutJobs.led = s.led ∧ s.cutJobs.sea = s.sea ∧ s.cutJobs.pace = s.pace ∧ s.cutJobs.lnk = s.lnk ∧ s.cutJobs.ets = s.ets ∧
    s.cutJobs.pix = s.pix ∧ s.cutJobs.tab = s.tab ∧ s.cutJobs.pin = s.pin ∧ s.cutJobs.hkc = s.hkc ∧ s.cutJobs.tap = s.tap ∧
    s.cutJobs.pad = s.pad := by
  simp [State.cutJobs]

@[simp] theorem State.wedgeRun_frame (s : State) :
    s.wedgeRun.pending = s.pending ∧ s.wedgeRun.free = s.free ∧ s.wedgeRun.clk = s.clk ∧ s.wedgeRun.rst = s.rst ∧
    s.wedgeRun.wdg = s.wdg ∧ s.wedgeRun.reg = s.reg ∧ s.wedgeRun.ctl = s.ctl ∧ s.wedgeRun.ev = s.ev ∧ s.wedgeRun.par = s.par ∧
    s.wedgeRun.fus = s.fus ∧ s.wedgeRun.role = s.role ∧ s.wedgeRun.fw = s.fw ∧ s.wedgeRun.led = s.led ∧
    s.wedgeRun.sea = s.sea ∧ s.wedgeRun.view = s.view ∧ s.wedgeRun.pace = s.pace ∧ s.wedgeRun.lnk = s.lnk ∧
    s.wedgeRun.ets = s.ets ∧ s.wedgeRun.pix = s.pix ∧ s.wedgeRun.pdp = s.pdp ∧ s.wedgeRun.tab = s.tab ∧
    s.wedgeRun.pin = s.pin ∧ s.wedgeRun.hkc = s.hkc ∧ s.wedgeRun.tap = s.tap ∧ s.wedgeRun.pad = s.pad ∧
    s.wedgeRun.nvs.mem = s.nvs.mem := by
  unfold State.wedgeRun; split <;> simp

@[simp] theorem State.goQuiet_frame (s : State) :
    s.goQuiet.pending = s.pending ∧ s.goQuiet.free = s.free ∧ s.goQuiet.clk = s.clk ∧ s.goQuiet.rst = s.rst ∧
    s.goQuiet.wdg = s.wdg ∧ s.goQuiet.reg = s.reg ∧ s.goQuiet.ctl = s.ctl ∧ s.goQuiet.ev = s.ev ∧ s.goQuiet.par = s.par ∧
    s.goQuiet.fus = s.fus ∧ s.goQuiet.role = s.role ∧ s.goQuiet.fw = s.fw ∧ s.goQuiet.led = s.led ∧ s.goQuiet.pace = s.pace ∧
    s.goQuiet.lnk = s.lnk ∧ s.goQuiet.ets = s.ets ∧ s.goQuiet.pix = s.pix ∧ s.goQuiet.pdp = s.pdp ∧ s.goQuiet.tab = s.tab ∧
    s.goQuiet.pin = s.pin ∧ s.goQuiet.tap = s.tap ∧ s.goQuiet.pad = s.pad ∧ s.goQuiet.nvs.mem = s.nvs.mem := by
  unfold State.goQuiet; dsimp only; repeat' (first | (simp; done) | split)

@[simp] theorem State.queueClose_frame (s : State) (r : Run) :
    (s.queueClose r).pending = s.pending ∧ (s.queueClose r).free = s.free ∧ (s.queueClose r).clk = s.clk ∧
    (s.queueClose r).rst = s.rst ∧ (s.queueClose r).wdg = s.wdg ∧ (s.queueClose r).reg = s.reg ∧ (s.queueClose r).ctl = s.ctl ∧
    (s.queueClose r).ev = s.ev ∧ (s.queueClose r).par = s.par ∧ (s.queueClose r).fus = s.fus ∧ (s.queueClose r).role = s.role ∧
    (s.queueClose r).fw = s.fw ∧ (s.queueClose r).led = s.led ∧ (s.queueClose r).sea = s.sea ∧ (s.queueClose r).view = s.view ∧
    (s.queueClose r).pace = s.pace ∧ (s.queueClose r).lnk = s.lnk ∧ (s.queueClose r).ets = s.ets ∧
    (s.queueClose r).pix = s.pix ∧ (s.queueClose r).pdp = s.pdp ∧ (s.queueClose r).tab = s.tab ∧ (s.queueClose r).pin = s.pin ∧
    (s.queueClose r).hkc = s.hkc ∧ (s.queueClose r).tap = s.tap ∧ (s.queueClose r).pad = s.pad ∧
    (s.queueClose r).nvs.mem = s.nvs.mem := by
  simp [State.queueClose]

@[simp] theorem State.commitsEnd_frame (s : State) :
    s.commitsEnd.pending = s.pending ∧ s.commitsEnd.free = s.free ∧ s.commitsEnd.clk = s.clk ∧ s.commitsEnd.rst = s.rst ∧
    s.commitsEnd.wdg = s.wdg ∧ s.commitsEnd.reg = s.reg ∧ s.commitsEnd.ctl = s.ctl ∧ s.commitsEnd.ev = s.ev ∧
    s.commitsEnd.par = s.par ∧ s.commitsEnd.fus = s.fus ∧ s.commitsEnd.role = s.role ∧ s.commitsEnd.fw = s.fw ∧
    s.commitsEnd.nvs = s.nvs ∧ s.commitsEnd.led = s.led ∧ s.commitsEnd.sea = s.sea ∧ s.commitsEnd.view = s.view ∧
    s.commitsEnd.pace = s.pace ∧ s.commitsEnd.lnk = s.lnk ∧ s.commitsEnd.ets = s.ets ∧ s.commitsEnd.pix = s.pix ∧
    s.commitsEnd.pdp = s.pdp ∧ s.commitsEnd.tab = s.tab ∧ s.commitsEnd.pin = s.pin ∧ s.commitsEnd.hkc = s.hkc ∧
    s.commitsEnd.tap = s.tap ∧ s.commitsEnd.pad = s.pad := by
  simp [State.commitsEnd]

@[simp] theorem State.umberStep_frame (s : State) :
    s.umberStep.pending = s.pending ∧ s.umberStep.free = s.free ∧ s.umberStep.clk = s.clk ∧ s.umberStep.rst = s.rst ∧
    s.umberStep.wdg = s.wdg ∧ s.umberStep.reg = s.reg ∧ s.umberStep.ctl = s.ctl ∧ s.umberStep.ev = s.ev ∧
    s.umberStep.par = s.par ∧ s.umberStep.fus = s.fus ∧ s.umberStep.role = s.role ∧ s.umberStep.fw = s.fw ∧
    s.umberStep.led = s.led ∧ s.umberStep.pace = s.pace ∧ s.umberStep.lnk = s.lnk ∧ s.umberStep.ets = s.ets ∧
    s.umberStep.tab = s.tab ∧ s.umberStep.pin = s.pin ∧ s.umberStep.tap = s.tap ∧ s.umberStep.pad = s.pad ∧
    s.umberStep.nvs.mem = s.nvs.mem := by
  unfold State.umberStep; dsimp only; repeat' (first | (simp; done) | split)

@[simp] theorem State.umberAdvance_frame (s : State) :
    s.umberAdvance.pending = s.pending ∧ s.umberAdvance.free = s.free ∧ s.umberAdvance.clk = s.clk ∧
    s.umberAdvance.rst = s.rst ∧ s.umberAdvance.wdg = s.wdg ∧ s.umberAdvance.reg = s.reg ∧ s.umberAdvance.ctl = s.ctl ∧
    s.umberAdvance.ev = s.ev ∧ s.umberAdvance.par = s.par ∧ s.umberAdvance.fus = s.fus ∧ s.umberAdvance.role = s.role ∧
    s.umberAdvance.fw = s.fw ∧ s.umberAdvance.led = s.led ∧ s.umberAdvance.pace = s.pace ∧ s.umberAdvance.lnk = s.lnk ∧
    s.umberAdvance.ets = s.ets ∧ s.umberAdvance.tab = s.tab ∧ s.umberAdvance.pin = s.pin ∧ s.umberAdvance.tap = s.tap ∧
    s.umberAdvance.pad = s.pad ∧ s.umberAdvance.nvs.mem = s.nvs.mem := by
  simp [State.umberAdvance]

@[simp] theorem State.startRun_frame (s : State) (trigger : Nat) :
    (s.startRun trigger).pending = s.pending ∧ (s.startRun trigger).free = s.free ∧ (s.startRun trigger).clk = s.clk ∧
    (s.startRun trigger).wdg = s.wdg ∧ (s.startRun trigger).par = s.par ∧ (s.startRun trigger).role = s.role ∧
    (s.startRun trigger).fw = s.fw ∧ (s.startRun trigger).led = s.led ∧ (s.startRun trigger).pace = s.pace ∧
    (s.startRun trigger).tab = s.tab ∧ (s.startRun trigger).tap = s.tap ∧ (s.startRun trigger).pad = s.pad ∧
    (s.startRun trigger).nvs.mem = s.nvs.mem := by
  simp [State.startRun]

@[simp] theorem State.afterWork_frame (s : State) :
    s.afterWork.pending = s.pending ∧ s.afterWork.free = s.free ∧ s.afterWork.clk = s.clk ∧ s.afterWork.rst = s.rst ∧
    s.afterWork.wdg = s.wdg ∧ s.afterWork.reg = s.reg ∧ s.afterWork.ctl = s.ctl ∧ s.afterWork.ev = s.ev ∧
    s.afterWork.par = s.par ∧ s.afterWork.fus = s.fus ∧ s.afterWork.role = s.role ∧ s.afterWork.fw = s.fw ∧
    s.afterWork.led = s.led ∧ s.afterWork.pace = s.pace ∧ s.afterWork.lnk = s.lnk ∧ s.afterWork.ets = s.ets ∧
    s.afterWork.tab = s.tab ∧ s.afterWork.pin = s.pin ∧ s.afterWork.tap = s.tap ∧ s.afterWork.pad = s.pad ∧
    s.afterWork.nvs.mem = s.nvs.mem := by
  unfold State.afterWork; split <;> simp

@[simp] theorem State.lockSynth_frame (s : State) (y : Synth) :
    (s.lockSynth y).pending = s.pending ∧ (s.lockSynth y).free = s.free ∧ (s.lockSynth y).pwr = s.pwr ∧
    (s.lockSynth y).rst = s.rst ∧ (s.lockSynth y).wdg = s.wdg ∧ (s.lockSynth y).reg = s.reg ∧ (s.lockSynth y).ctl = s.ctl ∧
    (s.lockSynth y).ev = s.ev ∧ (s.lockSynth y).par = s.par ∧ (s.lockSynth y).fus = s.fus ∧ (s.lockSynth y).role = s.role ∧
    (s.lockSynth y).fw = s.fw ∧ (s.lockSynth y).nvs = s.nvs ∧ (s.lockSynth y).led = s.led ∧ (s.lockSynth y).sea = s.sea ∧
    (s.lockSynth y).view = s.view ∧ (s.lockSynth y).pace = s.pace ∧ (s.lockSynth y).lnk = s.lnk ∧ (s.lockSynth y).ets = s.ets ∧
    (s.lockSynth y).pix = s.pix ∧ (s.lockSynth y).pdp = s.pdp ∧ (s.lockSynth y).tab = s.tab ∧ (s.lockSynth y).pin = s.pin ∧
    (s.lockSynth y).hkc = s.hkc ∧ (s.lockSynth y).tap = s.tap ∧ (s.lockSynth y).pad = s.pad := by
  unfold State.lockSynth; split <;> simp

@[simp] theorem State.afterLock_frame (s : State) (synth : Synth) :
    (s.afterLock synth).pending = s.pending ∧ (s.afterLock synth).rst = s.rst ∧ (s.afterLock synth).wdg = s.wdg ∧
    (s.afterLock synth).reg = s.reg ∧ (s.afterLock synth).ctl = s.ctl ∧ (s.afterLock synth).ev = s.ev ∧
    (s.afterLock synth).par = s.par ∧ (s.afterLock synth).fus = s.fus ∧ (s.afterLock synth).role = s.role ∧
    (s.afterLock synth).fw = s.fw ∧ (s.afterLock synth).nvs = s.nvs ∧ (s.afterLock synth).led = s.led ∧
    (s.afterLock synth).sea = s.sea ∧ (s.afterLock synth).view = s.view ∧ (s.afterLock synth).pace = s.pace ∧
    (s.afterLock synth).ets = s.ets ∧ (s.afterLock synth).pix = s.pix ∧ (s.afterLock synth).pdp = s.pdp ∧
    (s.afterLock synth).tab = s.tab ∧ (s.afterLock synth).pin = s.pin ∧ (s.afterLock synth).hkc = s.hkc ∧
    (s.afterLock synth).tap = s.tap ∧ (s.afterLock synth).pad = s.pad := by
  simp [State.afterLock]

@[simp] theorem State.synthLock_frame (s : State) (synth : Synth) (band fine : Nat) (t : Int) :
    (s.synthLock synth band fine t).pending = s.pending ∧ (s.synthLock synth band fine t).rst = s.rst ∧
    (s.synthLock synth band fine t).wdg = s.wdg ∧ (s.synthLock synth band fine t).ctl = s.ctl ∧
    (s.synthLock synth band fine t).par = s.par ∧ (s.synthLock synth band fine t).fus = s.fus ∧
    (s.synthLock synth band fine t).role = s.role ∧ (s.synthLock synth band fine t).fw = s.fw ∧
    (s.synthLock synth band fine t).nvs = s.nvs ∧ (s.synthLock synth band fine t).led = s.led ∧
    (s.synthLock synth band fine t).sea = s.sea ∧ (s.synthLock synth band fine t).view = s.view ∧
    (s.synthLock synth band fine t).pace = s.pace ∧ (s.synthLock synth band fine t).ets = s.ets ∧
    (s.synthLock synth band fine t).pix = s.pix ∧ (s.synthLock synth band fine t).pdp = s.pdp ∧
    (s.synthLock synth band fine t).tab = s.tab ∧ (s.synthLock synth band fine t).pin = s.pin ∧
    (s.synthLock synth band fine t).hkc = s.hkc ∧ (s.synthLock synth band fine t).tap = s.tap ∧
    (s.synthLock synth band fine t).pad = s.pad := by
  simp [State.synthLock]

@[simp] theorem State.searchSynth_frame (s : State) (y : Synth) :
    (s.searchSynth y).pending = s.pending ∧ (s.searchSynth y).free = s.free ∧ (s.searchSynth y).pwr = s.pwr ∧
    (s.searchSynth y).rst = s.rst ∧ (s.searchSynth y).wdg = s.wdg ∧ (s.searchSynth y).reg = s.reg ∧
    (s.searchSynth y).ctl = s.ctl ∧ (s.searchSynth y).ev = s.ev ∧ (s.searchSynth y).par = s.par ∧
    (s.searchSynth y).fus = s.fus ∧ (s.searchSynth y).role = s.role ∧ (s.searchSynth y).fw = s.fw ∧
    (s.searchSynth y).nvs = s.nvs ∧ (s.searchSynth y).led = s.led ∧ (s.searchSynth y).sea = s.sea ∧
    (s.searchSynth y).view = s.view ∧ (s.searchSynth y).pace = s.pace ∧ (s.searchSynth y).lnk = s.lnk ∧
    (s.searchSynth y).ets = s.ets ∧ (s.searchSynth y).pix = s.pix ∧ (s.searchSynth y).pdp = s.pdp ∧
    (s.searchSynth y).tab = s.tab ∧ (s.searchSynth y).pin = s.pin ∧ (s.searchSynth y).hkc = s.hkc ∧
    (s.searchSynth y).tap = s.tap ∧ (s.searchSynth y).pad = s.pad := by
  unfold State.searchSynth; split <;> simp

@[simp] theorem State.unlockSynth_frame (s : State) (y : Synth) :
    (s.unlockSynth y).pending = s.pending ∧ (s.unlockSynth y).free = s.free ∧ (s.unlockSynth y).pwr = s.pwr ∧
    (s.unlockSynth y).rst = s.rst ∧ (s.unlockSynth y).wdg = s.wdg ∧ (s.unlockSynth y).reg = s.reg ∧
    (s.unlockSynth y).ctl = s.ctl ∧ (s.unlockSynth y).ev = s.ev ∧ (s.unlockSynth y).par = s.par ∧
    (s.unlockSynth y).fus = s.fus ∧ (s.unlockSynth y).role = s.role ∧ (s.unlockSynth y).fw = s.fw ∧
    (s.unlockSynth y).nvs = s.nvs ∧ (s.unlockSynth y).led = s.led ∧ (s.unlockSynth y).sea = s.sea ∧
    (s.unlockSynth y).view = s.view ∧ (s.unlockSynth y).pace = s.pace ∧ (s.unlockSynth y).lnk = s.lnk ∧
    (s.unlockSynth y).ets = s.ets ∧ (s.unlockSynth y).pix = s.pix ∧ (s.unlockSynth y).pdp = s.pdp ∧
    (s.unlockSynth y).tab = s.tab ∧ (s.unlockSynth y).pin = s.pin ∧ (s.unlockSynth y).hkc = s.hkc ∧
    (s.unlockSynth y).tap = s.tap ∧ (s.unlockSynth y).pad = s.pad := by
  unfold State.unlockSynth; split <;> simp

@[simp] theorem State.lanePllLost_frame (s : State) (synth : Synth) :
    (s.lanePllLost synth).pending = s.pending ∧ (s.lanePllLost synth).rst = s.rst ∧ (s.lanePllLost synth).wdg = s.wdg ∧
    (s.lanePllLost synth).ctl = s.ctl ∧ (s.lanePllLost synth).par = s.par ∧ (s.lanePllLost synth).fus = s.fus ∧
    (s.lanePllLost synth).role = s.role ∧ (s.lanePllLost synth).fw = s.fw ∧ (s.lanePllLost synth).nvs = s.nvs ∧
    (s.lanePllLost synth).led = s.led ∧ (s.lanePllLost synth).sea = s.sea ∧ (s.lanePllLost synth).view = s.view ∧
    (s.lanePllLost synth).pace = s.pace ∧ (s.lanePllLost synth).ets = s.ets ∧ (s.lanePllLost synth).pix = s.pix ∧
    (s.lanePllLost synth).pdp = s.pdp ∧ (s.lanePllLost synth).tab = s.tab ∧ (s.lanePllLost synth).pin = s.pin ∧
    (s.lanePllLost synth).hkc = s.hkc ∧ (s.lanePllLost synth).tap = s.tap ∧ (s.lanePllLost synth).pad = s.pad := by
  simp [State.lanePllLost]

@[simp] theorem State.cdrLocked_frame (s : State) :
    s.cdrLocked.pending = s.pending ∧ s.cdrLocked.rst = s.rst ∧ s.cdrLocked.wdg = s.wdg ∧ s.cdrLocked.ctl = s.ctl ∧
    s.cdrLocked.par = s.par ∧ s.cdrLocked.fus = s.fus ∧ s.cdrLocked.role = s.role ∧ s.cdrLocked.fw = s.fw ∧
    s.cdrLocked.nvs = s.nvs ∧ s.cdrLocked.led = s.led ∧ s.cdrLocked.sea = s.sea ∧ s.cdrLocked.view = s.view ∧
    s.cdrLocked.pace = s.pace ∧ s.cdrLocked.ets = s.ets ∧ s.cdrLocked.pix = s.pix ∧ s.cdrLocked.pdp = s.pdp ∧
    s.cdrLocked.tab = s.tab ∧ s.cdrLocked.pin = s.pin ∧ s.cdrLocked.hkc = s.hkc ∧ s.cdrLocked.tap = s.tap ∧
    s.cdrLocked.pad = s.pad := by
  simp [State.cdrLocked]

@[simp] theorem State.cdrLost_frame (s : State) :
    s.cdrLost.pending = s.pending ∧ s.cdrLost.free = s.free ∧ s.cdrLost.clk = s.clk ∧ s.cdrLost.pwr = s.pwr ∧
    s.cdrLost.rst = s.rst ∧ s.cdrLost.wdg = s.wdg ∧ s.cdrLost.ctl = s.ctl ∧ s.cdrLost.par = s.par ∧ s.cdrLost.fus = s.fus ∧
    s.cdrLost.role = s.role ∧ s.cdrLost.fw = s.fw ∧ s.cdrLost.nvs = s.nvs ∧ s.cdrLost.led = s.led ∧ s.cdrLost.sea = s.sea ∧
    s.cdrLost.view = s.view ∧ s.cdrLost.pace = s.pace ∧ s.cdrLost.ets = s.ets ∧ s.cdrLost.pix = s.pix ∧ s.cdrLost.pdp = s.pdp ∧
    s.cdrLost.tab = s.tab ∧ s.cdrLost.pin = s.pin ∧ s.cdrLost.hkc = s.hkc ∧ s.cdrLost.tap = s.tap ∧ s.cdrLost.pad = s.pad := by
  simp [State.cdrLost]

@[simp] theorem State.blockLockLost_frame (s : State) :
    s.blockLockLost.pending = s.pending ∧ s.blockLockLost.free = s.free ∧ s.blockLockLost.clk = s.clk ∧
    s.blockLockLost.pwr = s.pwr ∧ s.blockLockLost.rst = s.rst ∧ s.blockLockLost.wdg = s.wdg ∧ s.blockLockLost.reg = s.reg ∧
    s.blockLockLost.ctl = s.ctl ∧ s.blockLockLost.ev = s.ev ∧ s.blockLockLost.par = s.par ∧ s.blockLockLost.fus = s.fus ∧
    s.blockLockLost.role = s.role ∧ s.blockLockLost.fw = s.fw ∧ s.blockLockLost.nvs = s.nvs ∧ s.blockLockLost.led = s.led ∧
    s.blockLockLost.sea = s.sea ∧ s.blockLockLost.view = s.view ∧ s.blockLockLost.pace = s.pace ∧ s.blockLockLost.ets = s.ets ∧
    s.blockLockLost.pix = s.pix ∧ s.blockLockLost.pdp = s.pdp ∧ s.blockLockLost.tab = s.tab ∧ s.blockLockLost.pin = s.pin ∧
    s.blockLockLost.hkc = s.hkc ∧ s.blockLockLost.tap = s.tap ∧ s.blockLockLost.pad = s.pad := by
  simp [State.blockLockLost]

@[simp] theorem State.applyLaneReport_frame (s : State) (receivers : List Byte) :
    (s.applyLaneReport receivers).pending = s.pending ∧ (s.applyLaneReport receivers).rst = s.rst ∧
    (s.applyLaneReport receivers).wdg = s.wdg ∧ (s.applyLaneReport receivers).reg = s.reg ∧
    (s.applyLaneReport receivers).ctl = s.ctl ∧ (s.applyLaneReport receivers).ev = s.ev ∧
    (s.applyLaneReport receivers).fus = s.fus ∧ (s.applyLaneReport receivers).role = s.role ∧
    (s.applyLaneReport receivers).fw = s.fw ∧ (s.applyLaneReport receivers).nvs = s.nvs ∧
    (s.applyLaneReport receivers).led = s.led ∧ (s.applyLaneReport receivers).sea = s.sea ∧
    (s.applyLaneReport receivers).view = s.view ∧ (s.applyLaneReport receivers).pace = s.pace ∧
    (s.applyLaneReport receivers).ets = s.ets ∧ (s.applyLaneReport receivers).pix = s.pix ∧
    (s.applyLaneReport receivers).pdp = s.pdp ∧ (s.applyLaneReport receivers).tab = s.tab ∧
    (s.applyLaneReport receivers).pin = s.pin ∧ (s.applyLaneReport receivers).hkc = s.hkc ∧
    (s.applyLaneReport receivers).tap = s.tap ∧ (s.applyLaneReport receivers).pad = s.pad := by
  simp [State.applyLaneReport]

@[simp] theorem State.onLaneReport_frame (s : State) (receivers : List Byte) :
    (s.onLaneReport receivers).pending = s.pending ∧ (s.onLaneReport receivers).rst = s.rst ∧
    (s.onLaneReport receivers).wdg = s.wdg ∧ (s.onLaneReport receivers).reg = s.reg ∧ (s.onLaneReport receivers).ctl = s.ctl ∧
    (s.onLaneReport receivers).ev = s.ev ∧ (s.onLaneReport receivers).fus = s.fus ∧ (s.onLaneReport receivers).role = s.role ∧
    (s.onLaneReport receivers).fw = s.fw ∧ (s.onLaneReport receivers).nvs = s.nvs ∧ (s.onLaneReport receivers).led = s.led ∧
    (s.onLaneReport receivers).sea = s.sea ∧ (s.onLaneReport receivers).view = s.view ∧
    (s.onLaneReport receivers).pace = s.pace ∧ (s.onLaneReport receivers).ets = s.ets ∧
    (s.onLaneReport receivers).pix = s.pix ∧ (s.onLaneReport receivers).pdp = s.pdp ∧ (s.onLaneReport receivers).tab = s.tab ∧
    (s.onLaneReport receivers).pin = s.pin ∧ (s.onLaneReport receivers).hkc = s.hkc ∧ (s.onLaneReport receivers).tap = s.tap ∧
    (s.onLaneReport receivers).pad = s.pad := by
  simp [State.onLaneReport]

@[simp] theorem State.identAgain_frame (s : State) :
    s.identAgain.pending = s.pending ∧ s.identAgain.free = s.free ∧ s.identAgain.clk = s.clk ∧ s.identAgain.rst = s.rst ∧
    s.identAgain.wdg = s.wdg ∧ s.identAgain.ctl = s.ctl ∧ s.identAgain.par = s.par ∧ s.identAgain.fus = s.fus ∧
    s.identAgain.role = s.role ∧ s.identAgain.fw = s.fw ∧ s.identAgain.nvs = s.nvs ∧ s.identAgain.led = s.led ∧
    s.identAgain.sea = s.sea ∧ s.identAgain.view = s.view ∧ s.identAgain.pace = s.pace ∧ s.identAgain.ets = s.ets ∧
    s.identAgain.pix = s.pix ∧ s.identAgain.pdp = s.pdp ∧ s.identAgain.tab = s.tab ∧ s.identAgain.pin = s.pin ∧
    s.identAgain.hkc = s.hkc ∧ s.identAgain.tap = s.tap ∧ s.identAgain.pad = s.pad := by
  simp [State.identAgain]

@[simp] theorem State.askFom_frame (s : State) (a : Adapt) :
    (s.askFom a).pending = s.pending ∧ (s.askFom a).free = s.free ∧ (s.askFom a).clk = s.clk ∧ (s.askFom a).pwr = s.pwr ∧
    (s.askFom a).rst = s.rst ∧ (s.askFom a).wdg = s.wdg ∧ (s.askFom a).reg = s.reg ∧ (s.askFom a).ctl = s.ctl ∧
    (s.askFom a).ev = s.ev ∧ (s.askFom a).par = s.par ∧ (s.askFom a).fus = s.fus ∧ (s.askFom a).role = s.role ∧
    (s.askFom a).fw = s.fw ∧ (s.askFom a).nvs = s.nvs ∧ (s.askFom a).led = s.led ∧ (s.askFom a).sea = s.sea ∧
    (s.askFom a).view = s.view ∧ (s.askFom a).pace = s.pace ∧ (s.askFom a).ets = s.ets ∧ (s.askFom a).pix = s.pix ∧
    (s.askFom a).pdp = s.pdp ∧ (s.askFom a).tab = s.tab ∧ (s.askFom a).pin = s.pin ∧ (s.askFom a).hkc = s.hkc ∧
    (s.askFom a).tap = s.tap ∧ (s.askFom a).pad = s.pad := by
  simp [State.askFom]

@[simp] theorem State.askMonitor_frame (s : State) :
    s.askMonitor.pending = s.pending ∧ s.askMonitor.free = s.free ∧ s.askMonitor.clk = s.clk ∧ s.askMonitor.pwr = s.pwr ∧
    s.askMonitor.rst = s.rst ∧ s.askMonitor.wdg = s.wdg ∧ s.askMonitor.reg = s.reg ∧ s.askMonitor.ctl = s.ctl ∧
    s.askMonitor.ev = s.ev ∧ s.askMonitor.par = s.par ∧ s.askMonitor.fus = s.fus ∧ s.askMonitor.role = s.role ∧
    s.askMonitor.fw = s.fw ∧ s.askMonitor.nvs = s.nvs ∧ s.askMonitor.led = s.led ∧ s.askMonitor.sea = s.sea ∧
    s.askMonitor.view = s.view ∧ s.askMonitor.pace = s.pace ∧ s.askMonitor.ets = s.ets ∧ s.askMonitor.pix = s.pix ∧
    s.askMonitor.pdp = s.pdp ∧ s.askMonitor.tab = s.tab ∧ s.askMonitor.pin = s.pin ∧ s.askMonitor.hkc = s.hkc ∧
    s.askMonitor.tap = s.tap ∧ s.askMonitor.pad = s.pad := by
  simp [State.askMonitor]

@[simp] theorem State.adaptAnswer_frame (s : State) (a : Adapt) (foms : List Nat) :
    (s.adaptAnswer a foms).pending = s.pending ∧ (s.adaptAnswer a foms).rst = s.rst ∧ (s.adaptAnswer a foms).wdg = s.wdg ∧
    (s.adaptAnswer a foms).ctl = s.ctl ∧ (s.adaptAnswer a foms).fus = s.fus ∧ (s.adaptAnswer a foms).role = s.role ∧
    (s.adaptAnswer a foms).fw = s.fw ∧ (s.adaptAnswer a foms).nvs = s.nvs ∧ (s.adaptAnswer a foms).led = s.led ∧
    (s.adaptAnswer a foms).sea = s.sea ∧ (s.adaptAnswer a foms).view = s.view ∧ (s.adaptAnswer a foms).pace = s.pace ∧
    (s.adaptAnswer a foms).ets = s.ets ∧ (s.adaptAnswer a foms).pix = s.pix ∧ (s.adaptAnswer a foms).pdp = s.pdp ∧
    (s.adaptAnswer a foms).tab = s.tab ∧ (s.adaptAnswer a foms).pin = s.pin ∧ (s.adaptAnswer a foms).hkc = s.hkc ∧
    (s.adaptAnswer a foms).tap = s.tap ∧ (s.adaptAnswer a foms).pad = s.pad := by
  simp [State.adaptAnswer]

@[simp] theorem State.monitorAnswer_frame (s : State) (foms : List Nat) :
    (s.monitorAnswer foms).pending = s.pending ∧ (s.monitorAnswer foms).rst = s.rst ∧ (s.monitorAnswer foms).wdg = s.wdg ∧
    (s.monitorAnswer foms).ctl = s.ctl ∧ (s.monitorAnswer foms).par = s.par ∧ (s.monitorAnswer foms).fus = s.fus ∧
    (s.monitorAnswer foms).role = s.role ∧ (s.monitorAnswer foms).fw = s.fw ∧ (s.monitorAnswer foms).nvs = s.nvs ∧
    (s.monitorAnswer foms).led = s.led ∧ (s.monitorAnswer foms).sea = s.sea ∧ (s.monitorAnswer foms).view = s.view ∧
    (s.monitorAnswer foms).pace = s.pace ∧ (s.monitorAnswer foms).ets = s.ets ∧ (s.monitorAnswer foms).pix = s.pix ∧
    (s.monitorAnswer foms).pdp = s.pdp ∧ (s.monitorAnswer foms).tab = s.tab ∧ (s.monitorAnswer foms).pin = s.pin ∧
    (s.monitorAnswer foms).hkc = s.hkc ∧ (s.monitorAnswer foms).tap = s.tap ∧ (s.monitorAnswer foms).pad = s.pad := by
  simp [State.monitorAnswer]

@[simp] theorem State.onFomReport_frame (s : State) (round : Byte) (foms : List Byte) (lock : BitVec 4) :
    (s.onFomReport round foms lock).pending = s.pending ∧ (s.onFomReport round foms lock).rst = s.rst ∧
    (s.onFomReport round foms lock).wdg = s.wdg ∧ (s.onFomReport round foms lock).ctl = s.ctl ∧
    (s.onFomReport round foms lock).fus = s.fus ∧ (s.onFomReport round foms lock).role = s.role ∧
    (s.onFomReport round foms lock).fw = s.fw ∧ (s.onFomReport round foms lock).nvs = s.nvs ∧
    (s.onFomReport round foms lock).led = s.led ∧ (s.onFomReport round foms lock).sea = s.sea ∧
    (s.onFomReport round foms lock).view = s.view ∧ (s.onFomReport round foms lock).pace = s.pace ∧
    (s.onFomReport round foms lock).ets = s.ets ∧ (s.onFomReport round foms lock).pix = s.pix ∧
    (s.onFomReport round foms lock).pdp = s.pdp ∧ (s.onFomReport round foms lock).tab = s.tab ∧
    (s.onFomReport round foms lock).pin = s.pin ∧ (s.onFomReport round foms lock).hkc = s.hkc ∧
    (s.onFomReport round foms lock).tap = s.tap ∧ (s.onFomReport round foms lock).pad = s.pad := by
  simp [State.onFomReport]; repeat' (first | (simp; done) | split)

@[simp] theorem State.fomMissing_frame (s : State) (q : FomAsk) :
    (s.fomMissing q).pending = s.pending ∧ (s.fomMissing q).free = s.free ∧ (s.fomMissing q).clk = s.clk ∧
    (s.fomMissing q).rst = s.rst ∧ (s.fomMissing q).wdg = s.wdg ∧ (s.fomMissing q).ctl = s.ctl ∧ (s.fomMissing q).par = s.par ∧
    (s.fomMissing q).fus = s.fus ∧ (s.fomMissing q).role = s.role ∧ (s.fomMissing q).fw = s.fw ∧ (s.fomMissing q).nvs = s.nvs ∧
    (s.fomMissing q).led = s.led ∧ (s.fomMissing q).sea = s.sea ∧ (s.fomMissing q).view = s.view ∧
    (s.fomMissing q).pace = s.pace ∧ (s.fomMissing q).ets = s.ets ∧ (s.fomMissing q).pix = s.pix ∧
    (s.fomMissing q).pdp = s.pdp ∧ (s.fomMissing q).tab = s.tab ∧ (s.fomMissing q).pin = s.pin ∧ (s.fomMissing q).hkc = s.hkc ∧
    (s.fomMissing q).tap = s.tap ∧ (s.fomMissing q).pad = s.pad := by
  unfold State.fomMissing; dsimp only; repeat' (first | (simp; done) | split)

@[simp] theorem State.onAligned_frame (s : State) :
    s.onAligned.pending = s.pending ∧ s.onAligned.free = s.free ∧ s.onAligned.clk = s.clk ∧ s.onAligned.pwr = s.pwr ∧
    s.onAligned.rst = s.rst ∧ s.onAligned.wdg = s.wdg ∧ s.onAligned.ctl = s.ctl ∧ s.onAligned.ev = s.ev ∧
    s.onAligned.par = s.par ∧ s.onAligned.fus = s.fus ∧ s.onAligned.role = s.role ∧ s.onAligned.fw = s.fw ∧
    s.onAligned.nvs = s.nvs ∧ s.onAligned.led = s.led ∧ s.onAligned.sea = s.sea ∧ s.onAligned.view = s.view ∧
    s.onAligned.pace = s.pace ∧ s.onAligned.ets = s.ets ∧ s.onAligned.pix = s.pix ∧ s.onAligned.pdp = s.pdp ∧
    s.onAligned.tab = s.tab ∧ s.onAligned.pin = s.pin ∧ s.onAligned.hkc = s.hkc ∧ s.onAligned.tap = s.tap ∧
    s.onAligned.pad = s.pad := by
  simp [State.onAligned]

@[simp] theorem State.onRetrain_frame (s : State) :
    s.onRetrain.pending = s.pending ∧ s.onRetrain.rst = s.rst ∧ s.onRetrain.wdg = s.wdg ∧ s.onRetrain.ctl = s.ctl ∧
    s.onRetrain.par = s.par ∧ s.onRetrain.fus = s.fus ∧ s.onRetrain.role = s.role ∧ s.onRetrain.fw = s.fw ∧
    s.onRetrain.nvs = s.nvs ∧ s.onRetrain.led = s.led ∧ s.onRetrain.sea = s.sea ∧ s.onRetrain.view = s.view ∧
    s.onRetrain.pace = s.pace ∧ s.onRetrain.ets = s.ets ∧ s.onRetrain.pix = s.pix ∧ s.onRetrain.pdp = s.pdp ∧
    s.onRetrain.tab = s.tab ∧ s.onRetrain.pin = s.pin ∧ s.onRetrain.hkc = s.hkc ∧ s.onRetrain.tap = s.tap ∧
    s.onRetrain.pad = s.pad := by
  simp [State.onRetrain]

end Sys2Proof.Machine
end

