-- ==== Sys2Proof/Laws/FrameStore.lean ====
section
/-! SUPPORT. What the operations of the store, firmware, housekeeping, the datapath and sealing leave unchanged. -/

set_option linter.unusedSimpArgs false
set_option Elab.async false

namespace Sys2Proof.Machine

@[simp] theorem State.epochClosed_frame (s : State) (q : Word) :
    (s.epochClosed q).pending = s.pending ∧ (s.epochClosed q).free = s.free ∧ (s.epochClosed q).clk = s.clk ∧
    (s.epochClosed q).pwr = s.pwr ∧ (s.epochClosed q).rst = s.rst ∧ (s.epochClosed q).wdg = s.wdg ∧
    (s.epochClosed q).reg = s.reg ∧ (s.epochClosed q).ctl = s.ctl ∧ (s.epochClosed q).ev = s.ev ∧
    (s.epochClosed q).par = s.par ∧ (s.epochClosed q).role = s.role ∧ (s.epochClosed q).fw = s.fw ∧
    (s.epochClosed q).led = s.led ∧ (s.epochClosed q).sea = s.sea ∧ (s.epochClosed q).view = s.view ∧
    (s.epochClosed q).pace = s.pace ∧ (s.epochClosed q).lnk = s.lnk ∧ (s.epochClosed q).ets = s.ets ∧
    (s.epochClosed q).pix = s.pix ∧ (s.epochClosed q).pdp = s.pdp ∧ (s.epochClosed q).tab = s.tab ∧
    (s.epochClosed q).pin = s.pin ∧ (s.epochClosed q).hkc = s.hkc ∧ (s.epochClosed q).tap = s.tap ∧
    (s.epochClosed q).pad = s.pad ∧ (s.epochClosed q).nvs.mem = s.nvs.mem := by
  simp [State.epochClosed]

@[simp] theorem State.openLedger_frame (s : State) (t : Transition) :
    (s.openLedger t).pending = s.pending ∧ (s.openLedger t).free = s.free ∧ (s.openLedger t).clk = s.clk ∧
    (s.openLedger t).pwr = s.pwr ∧ (s.openLedger t).rst = s.rst ∧ (s.openLedger t).wdg = s.wdg ∧ (s.openLedger t).reg = s.reg ∧
    (s.openLedger t).ctl = s.ctl ∧ (s.openLedger t).ev = s.ev ∧ (s.openLedger t).par = s.par ∧ (s.openLedger t).fus = s.fus ∧
    (s.openLedger t).role = s.role ∧ (s.openLedger t).fw = s.fw ∧ (s.openLedger t).sea = s.sea ∧
    (s.openLedger t).view = s.view ∧ (s.openLedger t).pace = s.pace ∧ (s.openLedger t).lnk = s.lnk ∧
    (s.openLedger t).ets = s.ets ∧ (s.openLedger t).pix = s.pix ∧ (s.openLedger t).pdp = s.pdp ∧ (s.openLedger t).tab = s.tab ∧
    (s.openLedger t).pin = s.pin ∧ (s.openLedger t).hkc = s.hkc ∧ (s.openLedger t).tap = s.tap ∧ (s.openLedger t).pad = s.pad
        := by
  simp [State.openLedger]

@[simp] theorem State.epochOpened_frame (s : State) (t : Transition) :
    (s.epochOpened t).pending = s.pending ∧ (s.epochOpened t).free = s.free ∧ (s.epochOpened t).clk = s.clk ∧
    (s.epochOpened t).pwr = s.pwr ∧ (s.epochOpened t).rst = s.rst ∧ (s.epochOpened t).wdg = s.wdg ∧
    (s.epochOpened t).reg = s.reg ∧ (s.epochOpened t).ctl = s.ctl ∧ (s.epochOpened t).ev = s.ev ∧
    (s.epochOpened t).par = s.par ∧ (s.epochOpened t).fus = s.fus ∧ (s.epochOpened t).role = s.role ∧
    (s.epochOpened t).fw = s.fw ∧ (s.epochOpened t).sea = s.sea ∧ (s.epochOpened t).view = s.view ∧
    (s.epochOpened t).pace = s.pace ∧ (s.epochOpened t).lnk = s.lnk ∧ (s.epochOpened t).ets = s.ets ∧
    (s.epochOpened t).pix = s.pix ∧ (s.epochOpened t).pdp = s.pdp ∧ (s.epochOpened t).tab = s.tab ∧
    (s.epochOpened t).pin = s.pin ∧ (s.epochOpened t).hkc = s.hkc ∧ (s.epochOpened t).tap = s.tap ∧
    (s.epochOpened t).pad = s.pad ∧ (s.epochOpened t).nvs.mem = s.nvs.mem := by
  simp [State.epochOpened]

@[simp] theorem State.epochOpening_frame (s : State) (t : Transition) :
    (s.epochOpening t).pending = s.pending ∧ (s.epochOpening t).free = s.free ∧ (s.epochOpening t).clk = s.clk ∧
    (s.epochOpening t).pwr = s.pwr ∧ (s.epochOpening t).rst = s.rst ∧ (s.epochOpening t).wdg = s.wdg ∧
    (s.epochOpening t).reg = s.reg ∧ (s.epochOpening t).ctl = s.ctl ∧ (s.epochOpening t).ev = s.ev ∧
    (s.epochOpening t).par = s.par ∧ (s.epochOpening t).fus = s.fus ∧ (s.epochOpening t).role = s.role ∧
    (s.epochOpening t).fw = s.fw ∧ (s.epochOpening t).sea = s.sea ∧ (s.epochOpening t).view = s.view ∧
    (s.epochOpening t).pace = s.pace ∧ (s.epochOpening t).lnk = s.lnk ∧ (s.epochOpening t).ets = s.ets ∧
    (s.epochOpening t).pix = s.pix ∧ (s.epochOpening t).pdp = s.pdp ∧ (s.epochOpening t).tab = s.tab ∧
    (s.epochOpening t).pin = s.pin ∧ (s.epochOpening t).hkc = s.hkc ∧ (s.epochOpening t).tap = s.tap ∧
    (s.epochOpening t).pad = s.pad := by
  simp [State.epochOpening]

@[simp] theorem State.afterCommit_frame (s : State) (c : Commit) (q : Word) :
    (s.afterCommit c q).pending = s.pending ∧ (s.afterCommit c q).free = s.free ∧ (s.afterCommit c q).clk = s.clk ∧
    (s.afterCommit c q).rst = s.rst ∧ (s.afterCommit c q).wdg = s.wdg ∧ (s.afterCommit c q).reg = s.reg ∧
    (s.afterCommit c q).ctl = s.ctl ∧ (s.afterCommit c q).ev = s.ev ∧ (s.afterCommit c q).par = s.par ∧
    (s.afterCommit c q).role = s.role ∧ (s.afterCommit c q).fw = s.fw ∧ (s.afterCommit c q).sea = s.sea ∧
    (s.afterCommit c q).view = s.view ∧ (s.afterCommit c q).pace = s.pace ∧ (s.afterCommit c q).lnk = s.lnk ∧
    (s.afterCommit c q).ets = s.ets ∧ (s.afterCommit c q).pix = s.pix ∧ (s.afterCommit c q).pdp = s.pdp ∧
    (s.afterCommit c q).tab = s.tab ∧ (s.afterCommit c q).pin = s.pin ∧ (s.afterCommit c q).hkc = s.hkc ∧
    (s.afterCommit c q).tap = s.tap ∧ (s.afterCommit c q).pad = s.pad ∧ (s.afterCommit c q).nvs.mem = s.nvs.mem := by
  simp [State.afterCommit]; repeat' (first | (simp; done) | split)

@[simp] theorem State.commitHead_frame (s : State) (c : Commit) (rest : List Commit) :
    (s.commitHead c rest).pending = s.pending ∧ (s.commitHead c rest).free = s.free ∧ (s.commitHead c rest).clk = s.clk ∧
    (s.commitHead c rest).reg = s.reg ∧ (s.commitHead c rest).ctl = s.ctl ∧ (s.commitHead c rest).ev = s.ev ∧
    (s.commitHead c rest).par = s.par ∧ (s.commitHead c rest).role = s.role ∧ (s.commitHead c rest).fw = s.fw ∧
    (s.commitHead c rest).pace = s.pace ∧ (s.commitHead c rest).ets = s.ets ∧ (s.commitHead c rest).tab = s.tab ∧
    (s.commitHead c rest).pin = s.pin ∧ (s.commitHead c rest).tap = s.tap ∧ (s.commitHead c rest).pad = s.pad := by
  simp [State.commitHead]

@[simp] theorem State.leaveBytes_frame (s : State) (a : Nat) (b : Bytes) :
    (s.leaveBytes a b).pending = s.pending ∧ (s.leaveBytes a b).free = s.free ∧ (s.leaveBytes a b).clk = s.clk ∧
    (s.leaveBytes a b).pwr = s.pwr ∧ (s.leaveBytes a b).rst = s.rst ∧ (s.leaveBytes a b).wdg = s.wdg ∧
    (s.leaveBytes a b).reg = s.reg ∧ (s.leaveBytes a b).ctl = s.ctl ∧ (s.leaveBytes a b).ev = s.ev ∧
    (s.leaveBytes a b).par = s.par ∧ (s.leaveBytes a b).fus = s.fus ∧ (s.leaveBytes a b).role = s.role ∧
    (s.leaveBytes a b).fw = s.fw ∧ (s.leaveBytes a b).led = s.led ∧ (s.leaveBytes a b).sea = s.sea ∧
    (s.leaveBytes a b).view = s.view ∧ (s.leaveBytes a b).pace = s.pace ∧ (s.leaveBytes a b).lnk = s.lnk ∧
    (s.leaveBytes a b).ets = s.ets ∧ (s.leaveBytes a b).pix = s.pix ∧ (s.leaveBytes a b).pdp = s.pdp ∧
    (s.leaveBytes a b).tab = s.tab ∧ (s.leaveBytes a b).pin = s.pin ∧ (s.leaveBytes a b).hkc = s.hkc ∧
    (s.leaveBytes a b).tap = s.tap ∧ (s.leaveBytes a b).pad = s.pad := by
  simp [State.leaveBytes]

@[simp] theorem State.cutNvs_frame (s : State) (cut : NvsCut) :
    (s.cutNvs cut).pending = s.pending ∧ (s.cutNvs cut).free = s.free ∧ (s.cutNvs cut).wdg = s.wdg ∧
    (s.cutNvs cut).reg = s.reg ∧ (s.cutNvs cut).ev = s.ev ∧ (s.cutNvs cut).fus = s.fus ∧ (s.cutNvs cut).led = s.led ∧
    (s.cutNvs cut).sea = s.sea ∧ (s.cutNvs cut).view = s.view ∧ (s.cutNvs cut).pace = s.pace ∧ (s.cutNvs cut).lnk = s.lnk ∧
    (s.cutNvs cut).ets = s.ets ∧ (s.cutNvs cut).pix = s.pix ∧ (s.cutNvs cut).pdp = s.pdp ∧ (s.cutNvs cut).pin = s.pin ∧
    (s.cutNvs cut).tap = s.tap ∧ (s.cutNvs cut).pad = s.pad := by
  unfold State.cutNvs; split <;> first | (simp; done) | (generalize State.cutEntry s _ = e; cases e <;> simp)

@[simp] theorem State.imageLoaded_frame (s : State) :
    s.imageLoaded.pending = s.pending ∧ s.imageLoaded.free = s.free ∧ s.imageLoaded.clk = s.clk ∧ s.imageLoaded.pwr = s.pwr ∧
    s.imageLoaded.rst = s.rst ∧ s.imageLoaded.wdg = s.wdg ∧ s.imageLoaded.reg = s.reg ∧ s.imageLoaded.ctl = s.ctl ∧
    s.imageLoaded.ev = s.ev ∧ s.imageLoaded.par = s.par ∧ s.imageLoaded.fus = s.fus ∧ s.imageLoaded.role = s.role ∧
    s.imageLoaded.nvs = s.nvs ∧ s.imageLoaded.led = s.led ∧ s.imageLoaded.sea = s.sea ∧ s.imageLoaded.view = s.view ∧
    s.imageLoaded.pace = s.pace ∧ s.imageLoaded.lnk = s.lnk ∧ s.imageLoaded.ets = s.ets ∧ s.imageLoaded.pix = s.pix ∧
    s.imageLoaded.pdp = s.pdp ∧ s.imageLoaded.tab = s.tab ∧ s.imageLoaded.pin = s.pin ∧ s.imageLoaded.hkc = s.hkc ∧
    s.imageLoaded.tap = s.tap ∧ s.imageLoaded.pad = s.pad := by
  simp [State.imageLoaded]

@[simp] theorem State.writeBlock_frame (s : State) (j : BlockJob) :
    (s.writeBlock j).pending = s.pending ∧ (s.writeBlock j).free = s.free ∧ (s.writeBlock j).clk = s.clk ∧
    (s.writeBlock j).pwr = s.pwr ∧ (s.writeBlock j).rst = s.rst ∧ (s.writeBlock j).wdg = s.wdg ∧ (s.writeBlock j).reg = s.reg ∧
    (s.writeBlock j).ctl = s.ctl ∧ (s.writeBlock j).ev = s.ev ∧ (s.writeBlock j).par = s.par ∧ (s.writeBlock j).fus = s.fus ∧
    (s.writeBlock j).role = s.role ∧ (s.writeBlock j).fw = s.fw ∧ (s.writeBlock j).led = s.led ∧ (s.writeBlock j).sea = s.sea ∧
    (s.writeBlock j).view = s.view ∧ (s.writeBlock j).pace = s.pace ∧ (s.writeBlock j).lnk = s.lnk ∧
    (s.writeBlock j).ets = s.ets ∧ (s.writeBlock j).pix = s.pix ∧ (s.writeBlock j).pdp = s.pdp ∧ (s.writeBlock j).tab = s.tab ∧
    (s.writeBlock j).pin = s.pin ∧ (s.writeBlock j).hkc = s.hkc ∧ (s.writeBlock j).tap = s.tap ∧ (s.writeBlock j).pad = s.pad
        := by
  unfold State.writeBlock; dsimp only; cases j.bytes <;> (repeat' (first | (simp; done) | split))

@[simp] theorem State.blockEnds_frame (s : State) (y : BlockEnd) :
    (s.blockEnds y).pending = s.pending ∧ (s.blockEnds y).free = s.free ∧ (s.blockEnds y).clk = s.clk ∧
    (s.blockEnds y).pwr = s.pwr ∧ (s.blockEnds y).rst = s.rst ∧ (s.blockEnds y).wdg = s.wdg ∧ (s.blockEnds y).reg = s.reg ∧
    (s.blockEnds y).ctl = s.ctl ∧ (s.blockEnds y).ev = s.ev ∧ (s.blockEnds y).fus = s.fus ∧ (s.blockEnds y).role = s.role ∧
    (s.blockEnds y).sea = s.sea ∧ (s.blockEnds y).view = s.view ∧ (s.blockEnds y).pace = s.pace ∧ (s.blockEnds y).lnk = s.lnk ∧
    (s.blockEnds y).ets = s.ets ∧ (s.blockEnds y).pix = s.pix ∧ (s.blockEnds y).pdp = s.pdp ∧ (s.blockEnds y).pin = s.pin ∧
    (s.blockEnds y).hkc = s.hkc ∧ (s.blockEnds y).tap = s.tap ∧ (s.blockEnds y).pad = s.pad := by
  simp [State.blockEnds]; repeat' (first | (simp; done) | split)

@[simp] theorem State.startBlock_frame (s : State) :
    s.startBlock.pending = s.pending ∧ s.startBlock.free = s.free ∧ s.startBlock.clk = s.clk ∧ s.startBlock.pwr = s.pwr ∧
    s.startBlock.rst = s.rst ∧ s.startBlock.wdg = s.wdg ∧ s.startBlock.reg = s.reg ∧ s.startBlock.ctl = s.ctl ∧
    s.startBlock.ev = s.ev ∧ s.startBlock.par = s.par ∧ s.startBlock.fus = s.fus ∧ s.startBlock.role = s.role ∧
    s.startBlock.fw = s.fw ∧ s.startBlock.led = s.led ∧ s.startBlock.sea = s.sea ∧ s.startBlock.view = s.view ∧
    s.startBlock.pace = s.pace ∧ s.startBlock.lnk = s.lnk ∧ s.startBlock.ets = s.ets ∧ s.startBlock.pix = s.pix ∧
    s.startBlock.pdp = s.pdp ∧ s.startBlock.tab = s.tab ∧ s.startBlock.pin = s.pin ∧ s.startBlock.hkc = s.hkc ∧
    s.startBlock.tap = s.tap ∧ s.startBlock.pad = s.pad ∧ s.startBlock.nvs.mem = s.nvs.mem := by
  unfold State.startBlock; split <;> simp

@[simp] theorem State.shadowBlock_frame (s : State) (j : BlockJob) :
    (s.shadowBlock j).pending = s.pending ∧ (s.shadowBlock j).free = s.free ∧ (s.shadowBlock j).clk = s.clk ∧
    (s.shadowBlock j).pwr = s.pwr ∧ (s.shadowBlock j).rst = s.rst ∧ (s.shadowBlock j).wdg = s.wdg ∧
    (s.shadowBlock j).reg = s.reg ∧ (s.shadowBlock j).ctl = s.ctl ∧ (s.shadowBlock j).ev = s.ev ∧
    (s.shadowBlock j).par = s.par ∧ (s.shadowBlock j).fus = s.fus ∧ (s.shadowBlock j).role = s.role ∧
    (s.shadowBlock j).fw = s.fw ∧ (s.shadowBlock j).led = s.led ∧ (s.shadowBlock j).sea = s.sea ∧
    (s.shadowBlock j).view = s.view ∧ (s.shadowBlock j).pace = s.pace ∧ (s.shadowBlock j).lnk = s.lnk ∧
    (s.shadowBlock j).ets = s.ets ∧ (s.shadowBlock j).pix = s.pix ∧ (s.shadowBlock j).pdp = s.pdp ∧
    (s.shadowBlock j).tab = s.tab ∧ (s.shadowBlock j).pin = s.pin ∧ (s.shadowBlock j).hkc = s.hkc ∧
    (s.shadowBlock j).tap = s.tap ∧ (s.shadowBlock j).pad = s.pad := by
  simp [State.shadowBlock]

@[simp] theorem State.applyBlock_frame (s : State) (j : BlockJob) :
    (s.applyBlock j).pending = s.pending ∧ (s.applyBlock j).free = s.free ∧ (s.applyBlock j).clk = s.clk ∧
    (s.applyBlock j).pwr = s.pwr ∧ (s.applyBlock j).rst = s.rst ∧ (s.applyBlock j).wdg = s.wdg ∧ (s.applyBlock j).reg = s.reg ∧
    (s.applyBlock j).ctl = s.ctl ∧ (s.applyBlock j).ev = s.ev ∧ (s.applyBlock j).par = s.par ∧ (s.applyBlock j).fus = s.fus ∧
    (s.applyBlock j).role = s.role ∧ (s.applyBlock j).fw = s.fw ∧ (s.applyBlock j).led = s.led ∧ (s.applyBlock j).sea = s.sea ∧
    (s.applyBlock j).view = s.view ∧ (s.applyBlock j).pace = s.pace ∧ (s.applyBlock j).lnk = s.lnk ∧
    (s.applyBlock j).ets = s.ets ∧ (s.applyBlock j).pix = s.pix ∧ (s.applyBlock j).pdp = s.pdp ∧ (s.applyBlock j).tab = s.tab ∧
    (s.applyBlock j).pin = s.pin ∧ (s.applyBlock j).hkc = s.hkc ∧ (s.applyBlock j).tap = s.tap ∧ (s.applyBlock j).pad = s.pad
        := by
  simp [State.applyBlock]

@[simp] theorem State.releaseReplies_frame (s : State) :
    s.releaseReplies.pending = s.pending ∧ s.releaseReplies.free = s.free ∧ s.releaseReplies.clk = s.clk ∧
    s.releaseReplies.pwr = s.pwr ∧ s.releaseReplies.rst = s.rst ∧ s.releaseReplies.wdg = s.wdg ∧ s.releaseReplies.reg = s.reg ∧
    s.releaseReplies.ev = s.ev ∧ s.releaseReplies.par = s.par ∧ s.releaseReplies.fus = s.fus ∧ s.releaseReplies.role = s.role ∧
    s.releaseReplies.fw = s.fw ∧ s.releaseReplies.nvs = s.nvs ∧ s.releaseReplies.led = s.led ∧ s.releaseReplies.sea = s.sea ∧
    s.releaseReplies.view = s.view ∧ s.releaseReplies.pace = s.pace ∧ s.releaseReplies.lnk = s.lnk ∧
    s.releaseReplies.ets = s.ets ∧ s.releaseReplies.pix = s.pix ∧ s.releaseReplies.pdp = s.pdp ∧ s.releaseReplies.tab = s.tab ∧
    s.releaseReplies.pin = s.pin ∧ s.releaseReplies.hkc = s.hkc ∧ s.releaseReplies.tap = s.tap ∧ s.releaseReplies.pad = s.pad
        := by
  simp [State.releaseReplies]

@[simp] theorem State.addBlocks_frame (s : State) (l : List BlockJob) :
    (s.addBlocks l).pending = s.pending ∧ (s.addBlocks l).free = s.free ∧ (s.addBlocks l).clk = s.clk ∧
    (s.addBlocks l).pwr = s.pwr ∧ (s.addBlocks l).rst = s.rst ∧ (s.addBlocks l).wdg = s.wdg ∧ (s.addBlocks l).reg = s.reg ∧
    (s.addBlocks l).ctl = s.ctl ∧ (s.addBlocks l).ev = s.ev ∧ (s.addBlocks l).par = s.par ∧ (s.addBlocks l).fus = s.fus ∧
    (s.addBlocks l).role = s.role ∧ (s.addBlocks l).fw = s.fw ∧ (s.addBlocks l).led = s.led ∧ (s.addBlocks l).sea = s.sea ∧
    (s.addBlocks l).view = s.view ∧ (s.addBlocks l).pace = s.pace ∧ (s.addBlocks l).lnk = s.lnk ∧ (s.addBlocks l).ets = s.ets ∧
    (s.addBlocks l).pix = s.pix ∧ (s.addBlocks l).pdp = s.pdp ∧ (s.addBlocks l).tab = s.tab ∧ (s.addBlocks l).pin = s.pin ∧
    (s.addBlocks l).hkc = s.hkc ∧ (s.addBlocks l).tap = s.tap ∧ (s.addBlocks l).pad = s.pad ∧
    (s.addBlocks l).nvs.mem = s.nvs.mem := by
  unfold State.addBlocks; dsimp only; repeat' (first | (simp; done) | split)

@[simp] theorem State.blockDone_frame (s : State) (j : BlockJob) (rest : List BlockJob) :
    (s.blockDone j rest).pending = s.pending ∧ (s.blockDone j rest).free = s.free ∧ (s.blockDone j rest).clk = s.clk ∧
    (s.blockDone j rest).reg = s.reg ∧ (s.blockDone j rest).ev = s.ev ∧ (s.blockDone j rest).fus = s.fus ∧
    (s.blockDone j rest).role = s.role ∧ (s.blockDone j rest).pace = s.pace ∧ (s.blockDone j rest).lnk = s.lnk ∧
    (s.blockDone j rest).ets = s.ets ∧ (s.blockDone j rest).pin = s.pin ∧ (s.blockDone j rest).tap = s.tap ∧
    (s.blockDone j rest).pad = s.pad := by
  simp [State.blockDone]

@[simp] theorem State.tickBlocks_frame (s : State) :
    s.tickBlocks.pending = s.pending ∧ s.tickBlocks.free = s.free ∧ s.tickBlocks.clk = s.clk ∧ s.tickBlocks.pwr = s.pwr ∧
    s.tickBlocks.rst = s.rst ∧ s.tickBlocks.wdg = s.wdg ∧ s.tickBlocks.reg = s.reg ∧ s.tickBlocks.ctl = s.ctl ∧
    s.tickBlocks.ev = s.ev ∧ s.tickBlocks.par = s.par ∧ s.tickBlocks.fus = s.fus ∧ s.tickBlocks.role = s.role ∧
    s.tickBlocks.fw = s.fw ∧ s.tickBlocks.led = s.led ∧ s.tickBlocks.sea = s.sea ∧ s.tickBlocks.view = s.view ∧
    s.tickBlocks.pace = s.pace ∧ s.tickBlocks.lnk = s.lnk ∧ s.tickBlocks.ets = s.ets ∧ s.tickBlocks.pix = s.pix ∧
    s.tickBlocks.pdp = s.pdp ∧ s.tickBlocks.tab = s.tab ∧ s.tickBlocks.pin = s.pin ∧ s.tickBlocks.hkc = s.hkc ∧
    s.tickBlocks.tap = s.tap ∧ s.tickBlocks.pad = s.pad := by
  unfold State.tickBlocks; split <;> simp

@[simp] theorem State.updateRate_frame (s : State) :
    s.updateRate.pending = s.pending ∧ s.updateRate.free = s.free ∧ s.updateRate.clk = s.clk ∧ s.updateRate.pwr = s.pwr ∧
    s.updateRate.rst = s.rst ∧ s.updateRate.wdg = s.wdg ∧ s.updateRate.reg = s.reg ∧ s.updateRate.ctl = s.ctl ∧
    s.updateRate.ev = s.ev ∧ s.updateRate.par = s.par ∧ s.updateRate.fus = s.fus ∧ s.updateRate.role = s.role ∧
    s.updateRate.fw = s.fw ∧ s.updateRate.led = s.led ∧ s.updateRate.sea = s.sea ∧ s.updateRate.view = s.view ∧
    s.updateRate.pace = s.pace ∧ s.updateRate.lnk = s.lnk ∧ s.updateRate.ets = s.ets ∧ s.updateRate.pix = s.pix ∧
    s.updateRate.pdp = s.pdp ∧ s.updateRate.tab = s.tab ∧ s.updateRate.pin = s.pin ∧ s.updateRate.hkc = s.hkc ∧
    s.updateRate.tap = s.tap ∧ s.updateRate.pad = s.pad ∧ s.updateRate.nvs.mem = s.nvs.mem := by
  simp [State.updateRate]

@[simp] theorem State.updateRetention_frame (s : State) (t : Int) :
    (s.updateRetention t).pending = s.pending ∧ (s.updateRetention t).free = s.free ∧ (s.updateRetention t).clk = s.clk ∧
    (s.updateRetention t).pwr = s.pwr ∧ (s.updateRetention t).rst = s.rst ∧ (s.updateRetention t).wdg = s.wdg ∧
    (s.updateRetention t).reg = s.reg ∧ (s.updateRetention t).ctl = s.ctl ∧ (s.updateRetention t).ev = s.ev ∧
    (s.updateRetention t).par = s.par ∧ (s.updateRetention t).fus = s.fus ∧ (s.updateRetention t).role = s.role ∧
    (s.updateRetention t).fw = s.fw ∧ (s.updateRetention t).led = s.led ∧ (s.updateRetention t).sea = s.sea ∧
    (s.updateRetention t).view = s.view ∧ (s.updateRetention t).pace = s.pace ∧ (s.updateRetention t).lnk = s.lnk ∧
    (s.updateRetention t).ets = s.ets ∧ (s.updateRetention t).pix = s.pix ∧ (s.updateRetention t).pdp = s.pdp ∧
    (s.updateRetention t).tab = s.tab ∧ (s.updateRetention t).pin = s.pin ∧ (s.updateRetention t).hkc = s.hkc ∧
    (s.updateRetention t).tap = s.tap ∧ (s.updateRetention t).pad = s.pad ∧ (s.updateRetention t).nvs.mem = s.nvs.mem := by
  simp [State.updateRetention]

@[simp] theorem State.runSlot_frame (s : State) (k : Nat) :
    (s.runSlot k).pending = s.pending ∧ (s.runSlot k).free = s.free ∧ (s.runSlot k).clk = s.clk ∧ (s.runSlot k).pwr = s.pwr ∧
    (s.runSlot k).rst = s.rst ∧ (s.runSlot k).wdg = s.wdg ∧ (s.runSlot k).reg = s.reg ∧ (s.runSlot k).ctl = s.ctl ∧
    (s.runSlot k).ev = s.ev ∧ (s.runSlot k).par = s.par ∧ (s.runSlot k).fus = s.fus ∧ (s.runSlot k).role = s.role ∧
    (s.runSlot k).nvs = s.nvs ∧ (s.runSlot k).led = s.led ∧ (s.runSlot k).sea = s.sea ∧ (s.runSlot k).view = s.view ∧
    (s.runSlot k).pace = s.pace ∧ (s.runSlot k).lnk = s.lnk ∧ (s.runSlot k).ets = s.ets ∧ (s.runSlot k).pix = s.pix ∧
    (s.runSlot k).pdp = s.pdp ∧ (s.runSlot k).tab = s.tab ∧ (s.runSlot k).pin = s.pin ∧ (s.runSlot k).hkc = s.hkc ∧
    (s.runSlot k).tap = s.tap ∧ (s.runSlot k).pad = s.pad := by
  simp [State.runSlot]

@[simp] theorem State.selectSlot_frame (s : State) :
    s.selectSlot.pending = s.pending ∧ s.selectSlot.free = s.free ∧ s.selectSlot.clk = s.clk ∧ s.selectSlot.rst = s.rst ∧
    s.selectSlot.wdg = s.wdg ∧ s.selectSlot.reg = s.reg ∧ s.selectSlot.ctl = s.ctl ∧ s.selectSlot.ev = s.ev ∧
    s.selectSlot.par = s.par ∧ s.selectSlot.fus = s.fus ∧ s.selectSlot.role = s.role ∧ s.selectSlot.nvs = s.nvs ∧
    s.selectSlot.led = s.led ∧ s.selectSlot.sea = s.sea ∧ s.selectSlot.view = s.view ∧ s.selectSlot.pace = s.pace ∧
    s.selectSlot.lnk = s.lnk ∧ s.selectSlot.ets = s.ets ∧ s.selectSlot.pix = s.pix ∧ s.selectSlot.pdp = s.pdp ∧
    s.selectSlot.tab = s.tab ∧ s.selectSlot.pin = s.pin ∧ s.selectSlot.hkc = s.hkc ∧ s.selectSlot.tap = s.tap ∧
    s.selectSlot.pad = s.pad := by
  unfold State.selectSlot; dsimp only; repeat' (first | (simp; done) | split)

@[simp] theorem State.confirmTrial_frame (s : State) :
    s.confirmTrial.pending = s.pending ∧ s.confirmTrial.free = s.free ∧ s.confirmTrial.clk = s.clk ∧
    s.confirmTrial.pwr = s.pwr ∧ s.confirmTrial.rst = s.rst ∧ s.confirmTrial.wdg = s.wdg ∧ s.confirmTrial.reg = s.reg ∧
    s.confirmTrial.ctl = s.ctl ∧ s.confirmTrial.ev = s.ev ∧ s.confirmTrial.par = s.par ∧ s.confirmTrial.fus = s.fus ∧
    s.confirmTrial.role = s.role ∧ s.confirmTrial.nvs = s.nvs ∧ s.confirmTrial.led = s.led ∧ s.confirmTrial.sea = s.sea ∧
    s.confirmTrial.view = s.view ∧ s.confirmTrial.pace = s.pace ∧ s.confirmTrial.lnk = s.lnk ∧ s.confirmTrial.ets = s.ets ∧
    s.confirmTrial.pix = s.pix ∧ s.confirmTrial.pdp = s.pdp ∧ s.confirmTrial.tab = s.tab ∧ s.confirmTrial.pin = s.pin ∧
    s.confirmTrial.hkc = s.hkc ∧ s.confirmTrial.tap = s.tap ∧ s.confirmTrial.pad = s.pad := by
  simp [State.confirmTrial]

@[simp] theorem State.advanceFwar_frame (s : State) :
    s.advanceFwar.pending = s.pending ∧ s.advanceFwar.free = s.free ∧ s.advanceFwar.clk = s.clk ∧ s.advanceFwar.pwr = s.pwr ∧
    s.advanceFwar.rst = s.rst ∧ s.advanceFwar.wdg = s.wdg ∧ s.advanceFwar.reg = s.reg ∧ s.advanceFwar.ctl = s.ctl ∧
    s.advanceFwar.ev = s.ev ∧ s.advanceFwar.par = s.par ∧ s.advanceFwar.role = s.role ∧ s.advanceFwar.fw = s.fw ∧
    s.advanceFwar.nvs = s.nvs ∧ s.advanceFwar.led = s.led ∧ s.advanceFwar.sea = s.sea ∧ s.advanceFwar.view = s.view ∧
    s.advanceFwar.pace = s.pace ∧ s.advanceFwar.lnk = s.lnk ∧ s.advanceFwar.ets = s.ets ∧ s.advanceFwar.pix = s.pix ∧
    s.advanceFwar.pdp = s.pdp ∧ s.advanceFwar.tab = s.tab ∧ s.advanceFwar.pin = s.pin ∧ s.advanceFwar.hkc = s.hkc ∧
    s.advanceFwar.tap = s.tap ∧ s.advanceFwar.pad = s.pad := by
  simp [State.advanceFwar]

@[simp] theorem State.convert_frame (s : State) (work : HkcWork) (channel timing : Nat) :
    (s.convert work channel timing).pending = s.pending ∧ (s.convert work channel timing).free = s.free ∧
    (s.convert work channel timing).clk = s.clk ∧ (s.convert work channel timing).pwr = s.pwr ∧
    (s.convert work channel timing).rst = s.rst ∧ (s.convert work channel timing).wdg = s.wdg ∧
    (s.convert work channel timing).reg = s.reg ∧ (s.convert work channel timing).ctl = s.ctl ∧
    (s.convert work channel timing).ev = s.ev ∧ (s.convert work channel timing).par = s.par ∧
    (s.convert work channel timing).fus = s.fus ∧ (s.convert work channel timing).role = s.role ∧
    (s.convert work channel timing).fw = s.fw ∧ (s.convert work channel timing).nvs = s.nvs ∧
    (s.convert work channel timing).led = s.led ∧ (s.convert work channel timing).sea = s.sea ∧
    (s.convert work channel timing).view = s.view ∧ (s.convert work channel timing).pace = s.pace ∧
    (s.convert work channel timing).lnk = s.lnk ∧ (s.convert work channel timing).ets = s.ets ∧
    (s.convert work channel timing).pix = s.pix ∧ (s.convert work channel timing).pdp = s.pdp ∧
    (s.convert work channel timing).tab = s.tab ∧ (s.convert work channel timing).pin = s.pin ∧
    (s.convert work channel timing).tap = s.tap ∧ (s.convert work channel timing).pad = s.pad := by
  simp [State.convert]

@[simp] theorem State.convertCal_frame (s : State) (c : HkcCal) :
    (s.convertCal c).pending = s.pending ∧ (s.convertCal c).free = s.free ∧ (s.convertCal c).clk = s.clk ∧
    (s.convertCal c).pwr = s.pwr ∧ (s.convertCal c).rst = s.rst ∧ (s.convertCal c).wdg = s.wdg ∧ (s.convertCal c).reg = s.reg ∧
    (s.convertCal c).ctl = s.ctl ∧ (s.convertCal c).ev = s.ev ∧ (s.convertCal c).par = s.par ∧ (s.convertCal c).fus = s.fus ∧
    (s.convertCal c).role = s.role ∧ (s.convertCal c).fw = s.fw ∧ (s.convertCal c).nvs = s.nvs ∧ (s.convertCal c).led = s.led ∧
    (s.convertCal c).sea = s.sea ∧ (s.convertCal c).view = s.view ∧ (s.convertCal c).pace = s.pace ∧
    (s.convertCal c).lnk = s.lnk ∧ (s.convertCal c).ets = s.ets ∧ (s.convertCal c).pix = s.pix ∧ (s.convertCal c).pdp = s.pdp ∧
    (s.convertCal c).tab = s.tab ∧ (s.convertCal c).pin = s.pin ∧ (s.convertCal c).tap = s.tap ∧ (s.convertCal c).pad = s.pad
        := by
  simp [State.convertCal]

@[simp] theorem State.kickHkc_frame (s : State) :
    s.kickHkc.pending = s.pending ∧ s.kickHkc.free = s.free ∧ s.kickHkc.clk = s.clk ∧ s.kickHkc.pwr = s.pwr ∧
    s.kickHkc.rst = s.rst ∧ s.kickHkc.wdg = s.wdg ∧ s.kickHkc.reg = s.reg ∧ s.kickHkc.ctl = s.ctl ∧ s.kickHkc.ev = s.ev ∧
    s.kickHkc.par = s.par ∧ s.kickHkc.fus = s.fus ∧ s.kickHkc.role = s.role ∧ s.kickHkc.fw = s.fw ∧ s.kickHkc.nvs = s.nvs ∧
    s.kickHkc.led = s.led ∧ s.kickHkc.sea = s.sea ∧ s.kickHkc.view = s.view ∧ s.kickHkc.pace = s.pace ∧ s.kickHkc.lnk = s.lnk ∧
    s.kickHkc.ets = s.ets ∧ s.kickHkc.pix = s.pix ∧ s.kickHkc.pdp = s.pdp ∧ s.kickHkc.tab = s.tab ∧ s.kickHkc.pin = s.pin ∧
    s.kickHkc.tap = s.tap ∧ s.kickHkc.pad = s.pad := by
  unfold State.kickHkc; dsimp only; repeat' (first | (simp; done) | split)

@[simp] theorem State.planPass_frame (s : State) :
    s.planPass.pending = s.pending ∧ s.planPass.free = s.free ∧ s.planPass.clk = s.clk ∧ s.planPass.pwr = s.pwr ∧
    s.planPass.rst = s.rst ∧ s.planPass.wdg = s.wdg ∧ s.planPass.reg = s.reg ∧ s.planPass.ctl = s.ctl ∧ s.planPass.ev = s.ev ∧
    s.planPass.par = s.par ∧ s.planPass.fus = s.fus ∧ s.planPass.role = s.role ∧ s.planPass.fw = s.fw ∧
    s.planPass.nvs = s.nvs ∧ s.planPass.led = s.led ∧ s.planPass.sea = s.sea ∧ s.planPass.view = s.view ∧
    s.planPass.pace = s.pace ∧ s.planPass.lnk = s.lnk ∧ s.planPass.ets = s.ets ∧ s.planPass.pix = s.pix ∧
    s.planPass.pdp = s.pdp ∧ s.planPass.tab = s.tab ∧ s.planPass.pin = s.pin ∧ s.planPass.tap = s.tap ∧ s.planPass.pad = s.pad
        := by
  simp [State.planPass]

@[simp] theorem State.continueScan_frame (s : State) :
    s.continueScan.pending = s.pending ∧ s.continueScan.free = s.free ∧ s.continueScan.clk = s.clk ∧
    s.continueScan.pwr = s.pwr ∧ s.continueScan.rst = s.rst ∧ s.continueScan.wdg = s.wdg ∧ s.continueScan.reg = s.reg ∧
    s.continueScan.ctl = s.ctl ∧ s.continueScan.ev = s.ev ∧ s.continueScan.par = s.par ∧ s.continueScan.fus = s.fus ∧
    s.continueScan.role = s.role ∧ s.continueScan.fw = s.fw ∧ s.continueScan.nvs = s.nvs ∧ s.continueScan.led = s.led ∧
    s.continueScan.sea = s.sea ∧ s.continueScan.view = s.view ∧ s.continueScan.pace = s.pace ∧ s.continueScan.lnk = s.lnk ∧
    s.continueScan.ets = s.ets ∧ s.continueScan.pix = s.pix ∧ s.continueScan.pdp = s.pdp ∧ s.continueScan.tab = s.tab ∧
    s.continueScan.pin = s.pin ∧ s.continueScan.tap = s.tap ∧ s.continueScan.pad = s.pad := by
  simp [State.continueScan]

@[simp] theorem State.startScan_frame (s : State) :
    s.startScan.pending = s.pending ∧ s.startScan.free = s.free ∧ s.startScan.clk = s.clk ∧ s.startScan.pwr = s.pwr ∧
    s.startScan.rst = s.rst ∧ s.startScan.wdg = s.wdg ∧ s.startScan.reg = s.reg ∧ s.startScan.ctl = s.ctl ∧
    s.startScan.ev = s.ev ∧ s.startScan.par = s.par ∧ s.startScan.fus = s.fus ∧ s.startScan.role = s.role ∧
    s.startScan.fw = s.fw ∧ s.startScan.nvs = s.nvs ∧ s.startScan.led = s.led ∧ s.startScan.sea = s.sea ∧
    s.startScan.view = s.view ∧ s.startScan.pace = s.pace ∧ s.startScan.lnk = s.lnk ∧ s.startScan.ets = s.ets ∧
    s.startScan.pix = s.pix ∧ s.startScan.pdp = s.pdp ∧ s.startScan.tab = s.tab ∧ s.startScan.pin = s.pin ∧
    s.startScan.tap = s.tap ∧ s.startScan.pad = s.pad := by
  simp [State.startScan]

@[simp] theorem State.beginPass_frame (s : State) :
    s.beginPass.pending = s.pending ∧ s.beginPass.free = s.free ∧ s.beginPass.clk = s.clk ∧ s.beginPass.pwr = s.pwr ∧
    s.beginPass.rst = s.rst ∧ s.beginPass.wdg = s.wdg ∧ s.beginPass.reg = s.reg ∧ s.beginPass.ctl = s.ctl ∧
    s.beginPass.ev = s.ev ∧ s.beginPass.par = s.par ∧ s.beginPass.fus = s.fus ∧ s.beginPass.role = s.role ∧
    s.beginPass.fw = s.fw ∧ s.beginPass.nvs = s.nvs ∧ s.beginPass.led = s.led ∧ s.beginPass.sea = s.sea ∧
    s.beginPass.view = s.view ∧ s.beginPass.pace = s.pace ∧ s.beginPass.lnk = s.lnk ∧ s.beginPass.ets = s.ets ∧
    s.beginPass.pix = s.pix ∧ s.beginPass.pdp = s.pdp ∧ s.beginPass.tab = s.tab ∧ s.beginPass.pin = s.pin ∧
    s.beginPass.tap = s.tap ∧ s.beginPass.pad = s.pad := by
  simp [State.beginPass]

@[simp] theorem State.prioTrigger_frame (s : State) (b : Nat) :
    (s.prioTrigger b).pending = s.pending ∧ (s.prioTrigger b).free = s.free ∧ (s.prioTrigger b).clk = s.clk ∧
    (s.prioTrigger b).pwr = s.pwr ∧ (s.prioTrigger b).rst = s.rst ∧ (s.prioTrigger b).wdg = s.wdg ∧
    (s.prioTrigger b).reg = s.reg ∧ (s.prioTrigger b).ctl = s.ctl ∧ (s.prioTrigger b).ev = s.ev ∧
    (s.prioTrigger b).par = s.par ∧ (s.prioTrigger b).fus = s.fus ∧ (s.prioTrigger b).role = s.role ∧
    (s.prioTrigger b).fw = s.fw ∧ (s.prioTrigger b).nvs = s.nvs ∧ (s.prioTrigger b).led = s.led ∧
    (s.prioTrigger b).sea = s.sea ∧ (s.prioTrigger b).view = s.view ∧ (s.prioTrigger b).pace = s.pace ∧
    (s.prioTrigger b).lnk = s.lnk ∧ (s.prioTrigger b).ets = s.ets ∧ (s.prioTrigger b).pix = s.pix ∧
    (s.prioTrigger b).pdp = s.pdp ∧ (s.prioTrigger b).tab = s.tab ∧ (s.prioTrigger b).pin = s.pin ∧
    (s.prioTrigger b).tap = s.tap ∧ (s.prioTrigger b).pad = s.pad := by
  simp [State.prioTrigger]

@[simp] theorem State.abandonCal_frame (s : State) (c : HkcCal) :
    (s.abandonCal c).pending = s.pending ∧ (s.abandonCal c).free = s.free ∧ (s.abandonCal c).clk = s.clk ∧
    (s.abandonCal c).pwr = s.pwr ∧ (s.abandonCal c).rst = s.rst ∧ (s.abandonCal c).wdg = s.wdg ∧ (s.abandonCal c).ctl = s.ctl ∧
    (s.abandonCal c).par = s.par ∧ (s.abandonCal c).fus = s.fus ∧ (s.abandonCal c).role = s.role ∧ (s.abandonCal c).fw = s.fw ∧
    (s.abandonCal c).nvs = s.nvs ∧ (s.abandonCal c).led = s.led ∧ (s.abandonCal c).sea = s.sea ∧
    (s.abandonCal c).view = s.view ∧ (s.abandonCal c).pace = s.pace ∧ (s.abandonCal c).ets = s.ets ∧
    (s.abandonCal c).pix = s.pix ∧ (s.abandonCal c).pdp = s.pdp ∧ (s.abandonCal c).tab = s.tab ∧ (s.abandonCal c).pin = s.pin ∧
    (s.abandonCal c).tap = s.tap ∧ (s.abandonCal c).pad = s.pad := by
  simp [State.abandonCal]

@[simp] theorem State.preempt_frame (s : State) :
    s.preempt.pending = s.pending ∧ s.preempt.free = s.free ∧ s.preempt.clk = s.clk ∧ s.preempt.pwr = s.pwr ∧
    s.preempt.rst = s.rst ∧ s.preempt.wdg = s.wdg ∧ s.preempt.ctl = s.ctl ∧ s.preempt.par = s.par ∧ s.preempt.fus = s.fus ∧
    s.preempt.role = s.role ∧ s.preempt.fw = s.fw ∧ s.preempt.nvs = s.nvs ∧ s.preempt.led = s.led ∧ s.preempt.sea = s.sea ∧
    s.preempt.view = s.view ∧ s.preempt.pace = s.pace ∧ s.preempt.ets = s.ets ∧ s.preempt.pix = s.pix ∧ s.preempt.pdp = s.pdp ∧
    s.preempt.tab = s.tab ∧ s.preempt.pin = s.pin ∧ s.preempt.tap = s.tap ∧ s.preempt.pad = s.pad := by
  unfold State.preempt; dsimp only; repeat' (first | (simp; done) | split)

@[simp] theorem State.beginPriority_frame (s : State) :
    s.beginPriority.pending = s.pending ∧ s.beginPriority.free = s.free ∧ s.beginPriority.clk = s.clk ∧
    s.beginPriority.pwr = s.pwr ∧ s.beginPriority.rst = s.rst ∧ s.beginPriority.wdg = s.wdg ∧ s.beginPriority.ctl = s.ctl ∧
    s.beginPriority.par = s.par ∧ s.beginPriority.fus = s.fus ∧ s.beginPriority.role = s.role ∧ s.beginPriority.fw = s.fw ∧
    s.beginPriority.nvs = s.nvs ∧ s.beginPriority.led = s.led ∧ s.beginPriority.sea = s.sea ∧ s.beginPriority.view = s.view ∧
    s.beginPriority.pace = s.pace ∧ s.beginPriority.ets = s.ets ∧ s.beginPriority.pix = s.pix ∧ s.beginPriority.pdp = s.pdp ∧
    s.beginPriority.tab = s.tab ∧ s.beginPriority.pin = s.pin ∧ s.beginPriority.tap = s.tap ∧ s.beginPriority.pad = s.pad := by
  simp [State.beginPriority]

@[simp] theorem State.syncPulse_frame (s : State) :
    s.syncPulse.pending = s.pending ∧ s.syncPulse.free = s.free ∧ s.syncPulse.clk = s.clk ∧ s.syncPulse.pwr = s.pwr ∧
    s.syncPulse.rst = s.rst ∧ s.syncPulse.wdg = s.wdg ∧ s.syncPulse.reg = s.reg ∧ s.syncPulse.ctl = s.ctl ∧
    s.syncPulse.ev = s.ev ∧ s.syncPulse.par = s.par ∧ s.syncPulse.fus = s.fus ∧ s.syncPulse.role = s.role ∧
    s.syncPulse.fw = s.fw ∧ s.syncPulse.nvs = s.nvs ∧ s.syncPulse.led = s.led ∧ s.syncPulse.sea = s.sea ∧
    s.syncPulse.view = s.view ∧ s.syncPulse.pace = s.pace ∧ s.syncPulse.lnk = s.lnk ∧ s.syncPulse.ets = s.ets ∧
    s.syncPulse.pix = s.pix ∧ s.syncPulse.pdp = s.pdp ∧ s.syncPulse.tab = s.tab ∧ s.syncPulse.pin = s.pin ∧
    s.syncPulse.tap = s.tap ∧ s.syncPulse.pad = s.pad := by
  simp [State.syncPulse]

@[simp] theorem State.watchPulse_frame (s : State) :
    s.watchPulse.pending = s.pending ∧ s.watchPulse.free = s.free ∧ s.watchPulse.clk = s.clk ∧ s.watchPulse.pwr = s.pwr ∧
    s.watchPulse.rst = s.rst ∧ s.watchPulse.wdg = s.wdg ∧ s.watchPulse.reg = s.reg ∧ s.watchPulse.ctl = s.ctl ∧
    s.watchPulse.ev = s.ev ∧ s.watchPulse.par = s.par ∧ s.watchPulse.fus = s.fus ∧ s.watchPulse.role = s.role ∧
    s.watchPulse.fw = s.fw ∧ s.watchPulse.nvs = s.nvs ∧ s.watchPulse.led = s.led ∧ s.watchPulse.sea = s.sea ∧
    s.watchPulse.view = s.view ∧ s.watchPulse.pace = s.pace ∧ s.watchPulse.lnk = s.lnk ∧ s.watchPulse.ets = s.ets ∧
    s.watchPulse.pix = s.pix ∧ s.watchPulse.pdp = s.pdp ∧ s.watchPulse.tab = s.tab ∧ s.watchPulse.pin = s.pin ∧
    s.watchPulse.tap = s.tap ∧ s.watchPulse.pad = s.pad := by
  simp [State.watchPulse]

@[simp] theorem State.pulseEvent_frame (s : State) :
    s.pulseEvent.pending = s.pending ∧ s.pulseEvent.free = s.free ∧ s.pulseEvent.clk = s.clk ∧ s.pulseEvent.pwr = s.pwr ∧
    s.pulseEvent.rst = s.rst ∧ s.pulseEvent.wdg = s.wdg ∧ s.pulseEvent.reg = s.reg ∧ s.pulseEvent.ctl = s.ctl ∧
    s.pulseEvent.ev = s.ev ∧ s.pulseEvent.par = s.par ∧ s.pulseEvent.fus = s.fus ∧ s.pulseEvent.role = s.role ∧
    s.pulseEvent.fw = s.fw ∧ s.pulseEvent.nvs = s.nvs ∧ s.pulseEvent.led = s.led ∧ s.pulseEvent.sea = s.sea ∧
    s.pulseEvent.view = s.view ∧ s.pulseEvent.pace = s.pace ∧ s.pulseEvent.lnk = s.lnk ∧ s.pulseEvent.ets = s.ets ∧
    s.pulseEvent.pix = s.pix ∧ s.pulseEvent.pdp = s.pdp ∧ s.pulseEvent.tab = s.tab ∧ s.pulseEvent.pin = s.pin ∧
    s.pulseEvent.tap = s.tap ∧ s.pulseEvent.pad = s.pad := by
  simp [State.pulseEvent]

@[simp] theorem State.goodResult_frame (s : State) (ch ref code : Nat) :
    (s.goodResult ch ref code).pending = s.pending ∧ (s.goodResult ch ref code).free = s.free ∧
    (s.goodResult ch ref code).clk = s.clk ∧ (s.goodResult ch ref code).rst = s.rst ∧ (s.goodResult ch ref code).wdg = s.wdg ∧
    (s.goodResult ch ref code).reg = s.reg ∧ (s.goodResult ch ref code).ctl = s.ctl ∧ (s.goodResult ch ref code).ev = s.ev ∧
    (s.goodResult ch ref code).par = s.par ∧ (s.goodResult ch ref code).fus = s.fus ∧
    (s.goodResult ch ref code).role = s.role ∧ (s.goodResult ch ref code).fw = s.fw ∧ (s.goodResult ch ref code).nvs = s.nvs ∧
    (s.goodResult ch ref code).led = s.led ∧ (s.goodResult ch ref code).sea = s.sea ∧
    (s.goodResult ch ref code).view = s.view ∧ (s.goodResult ch ref code).pace = s.pace ∧
    (s.goodResult ch ref code).lnk = s.lnk ∧ (s.goodResult ch ref code).ets = s.ets ∧ (s.goodResult ch ref code).pix = s.pix ∧
    (s.goodResult ch ref code).pdp = s.pdp ∧ (s.goodResult ch ref code).tab = s.tab ∧ (s.goodResult ch ref code).pin = s.pin ∧
    (s.goodResult ch ref code).tap = s.tap ∧ (s.goodResult ch ref code).pad = s.pad := by
  unfold State.goodResult; split <;> simp

@[simp] theorem State.hkcResult_frame (s : State) (c : HkcConv) (slot : Nat) (raw : Int) :
    (s.hkcResult c slot raw).pending = s.pending ∧ (s.hkcResult c slot raw).free = s.free ∧
    (s.hkcResult c slot raw).clk = s.clk ∧ (s.hkcResult c slot raw).rst = s.rst ∧ (s.hkcResult c slot raw).wdg = s.wdg ∧
    (s.hkcResult c slot raw).ctl = s.ctl ∧ (s.hkcResult c slot raw).par = s.par ∧ (s.hkcResult c slot raw).fus = s.fus ∧
    (s.hkcResult c slot raw).role = s.role ∧ (s.hkcResult c slot raw).fw = s.fw ∧ (s.hkcResult c slot raw).nvs = s.nvs ∧
    (s.hkcResult c slot raw).led = s.led ∧ (s.hkcResult c slot raw).sea = s.sea ∧ (s.hkcResult c slot raw).view = s.view ∧
    (s.hkcResult c slot raw).pace = s.pace ∧ (s.hkcResult c slot raw).ets = s.ets ∧ (s.hkcResult c slot raw).pix = s.pix ∧
    (s.hkcResult c slot raw).pdp = s.pdp ∧ (s.hkcResult c slot raw).tab = s.tab ∧ (s.hkcResult c slot raw).pin = s.pin ∧
    (s.hkcResult c slot raw).tap = s.tap ∧ (s.hkcResult c slot raw).pad = s.pad := by
  simp [State.hkcResult]

@[simp] theorem State.slotEnded_frame (s : State) (work : HkcWork) :
    (s.slotEnded work).pending = s.pending ∧ (s.slotEnded work).free = s.free ∧ (s.slotEnded work).clk = s.clk ∧
    (s.slotEnded work).pwr = s.pwr ∧ (s.slotEnded work).rst = s.rst ∧ (s.slotEnded work).wdg = s.wdg ∧
    (s.slotEnded work).reg = s.reg ∧ (s.slotEnded work).ctl = s.ctl ∧ (s.slotEnded work).ev = s.ev ∧
    (s.slotEnded work).par = s.par ∧ (s.slotEnded work).fus = s.fus ∧ (s.slotEnded work).role = s.role ∧
    (s.slotEnded work).fw = s.fw ∧ (s.slotEnded work).nvs = s.nvs ∧ (s.slotEnded work).led = s.led ∧
    (s.slotEnded work).sea = s.sea ∧ (s.slotEnded work).view = s.view ∧ (s.slotEnded work).pace = s.pace ∧
    (s.slotEnded work).lnk = s.lnk ∧ (s.slotEnded work).ets = s.ets ∧ (s.slotEnded work).pix = s.pix ∧
    (s.slotEnded work).pdp = s.pdp ∧ (s.slotEnded work).tab = s.tab ∧ (s.slotEnded work).pin = s.pin ∧
    (s.slotEnded work).tap = s.tap ∧ (s.slotEnded work).pad = s.pad := by
  unfold State.slotEnded; split <;> simp

@[simp] theorem State.periodEnd_frame (s : State) (c : HkcConv) (input : Int) (saturated : Bool) :
    (s.periodEnd c input saturated).pending = s.pending ∧ (s.periodEnd c input saturated).free = s.free ∧
    (s.periodEnd c input saturated).clk = s.clk ∧ (s.periodEnd c input saturated).rst = s.rst ∧
    (s.periodEnd c input saturated).ctl = s.ctl ∧ (s.periodEnd c input saturated).par = s.par ∧
    (s.periodEnd c input saturated).fus = s.fus ∧ (s.periodEnd c input saturated).role = s.role ∧
    (s.periodEnd c input saturated).fw = s.fw ∧ (s.periodEnd c input saturated).nvs = s.nvs ∧
    (s.periodEnd c input saturated).led = s.led ∧ (s.periodEnd c input saturated).sea = s.sea ∧
    (s.periodEnd c input saturated).view = s.view ∧ (s.periodEnd c input saturated).pace = s.pace ∧
    (s.periodEnd c input saturated).ets = s.ets ∧ (s.periodEnd c input saturated).pix = s.pix ∧
    (s.periodEnd c input saturated).pdp = s.pdp ∧ (s.periodEnd c input saturated).tab = s.tab ∧
    (s.periodEnd c input saturated).pin = s.pin ∧ (s.periodEnd c input saturated).tap = s.tap ∧
    (s.periodEnd c input saturated).pad = s.pad := by
  simp [State.periodEnd]

@[simp] theorem State.unsettle_frame (s : State) :
    s.unsettle.pending = s.pending ∧ s.unsettle.free = s.free ∧ s.unsettle.clk = s.clk ∧ s.unsettle.pwr = s.pwr ∧
    s.unsettle.rst = s.rst ∧ s.unsettle.wdg = s.wdg ∧ s.unsettle.reg = s.reg ∧ s.unsettle.ctl = s.ctl ∧ s.unsettle.ev = s.ev ∧
    s.unsettle.par = s.par ∧ s.unsettle.fus = s.fus ∧ s.unsettle.role = s.role ∧ s.unsettle.fw = s.fw ∧
    s.unsettle.nvs = s.nvs ∧ s.unsettle.led = s.led ∧ s.unsettle.sea = s.sea ∧ s.unsettle.view = s.view ∧
    s.unsettle.pace = s.pace ∧ s.unsettle.lnk = s.lnk ∧ s.unsettle.ets = s.ets ∧ s.unsettle.pix = s.pix ∧
    s.unsettle.pdp = s.pdp ∧ s.unsettle.tab = s.tab ∧ s.unsettle.pin = s.pin ∧ s.unsettle.tap = s.tap ∧ s.unsettle.pad = s.pad
        := by
  simp [State.unsettle]

@[simp] theorem State.writeHkcRef_frame (s : State) :
    s.writeHkcRef.pending = s.pending ∧ s.writeHkcRef.free = s.free ∧ s.writeHkcRef.clk = s.clk ∧ s.writeHkcRef.pwr = s.pwr ∧
    s.writeHkcRef.rst = s.rst ∧ s.writeHkcRef.wdg = s.wdg ∧ s.writeHkcRef.reg = s.reg ∧ s.writeHkcRef.ctl = s.ctl ∧
    s.writeHkcRef.ev = s.ev ∧ s.writeHkcRef.par = s.par ∧ s.writeHkcRef.fus = s.fus ∧ s.writeHkcRef.role = s.role ∧
    s.writeHkcRef.fw = s.fw ∧ s.writeHkcRef.nvs = s.nvs ∧ s.writeHkcRef.led = s.led ∧ s.writeHkcRef.sea = s.sea ∧
    s.writeHkcRef.view = s.view ∧ s.writeHkcRef.pace = s.pace ∧ s.writeHkcRef.lnk = s.lnk ∧ s.writeHkcRef.ets = s.ets ∧
    s.writeHkcRef.pix = s.pix ∧ s.writeHkcRef.pdp = s.pdp ∧ s.writeHkcRef.tab = s.tab ∧ s.writeHkcRef.pin = s.pin ∧
    s.writeHkcRef.tap = s.tap ∧ s.writeHkcRef.pad = s.pad := by
  unfold State.writeHkcRef; dsimp only; repeat' (first | (simp; done) | split)

@[simp] theorem State.powerHkc_frame (s : State) (boot : Bool) :
    (s.powerHkc boot).pending = s.pending ∧ (s.powerHkc boot).free = s.free ∧ (s.powerHkc boot).clk = s.clk ∧
    (s.powerHkc boot).rst = s.rst ∧ (s.powerHkc boot).wdg = s.wdg ∧ (s.powerHkc boot).reg = s.reg ∧
    (s.powerHkc boot).ctl = s.ctl ∧ (s.powerHkc boot).ev = s.ev ∧ (s.powerHkc boot).par = s.par ∧
    (s.powerHkc boot).fus = s.fus ∧ (s.powerHkc boot).role = s.role ∧ (s.powerHkc boot).fw = s.fw ∧
    (s.powerHkc boot).nvs = s.nvs ∧ (s.powerHkc boot).led = s.led ∧ (s.powerHkc boot).sea = s.sea ∧
    (s.powerHkc boot).view = s.view ∧ (s.powerHkc boot).pace = s.pace ∧ (s.powerHkc boot).lnk = s.lnk ∧
    (s.powerHkc boot).ets = s.ets ∧ (s.powerHkc boot).pix = s.pix ∧ (s.powerHkc boot).pdp = s.pdp ∧
    (s.powerHkc boot).tab = s.tab ∧ (s.powerHkc boot).pin = s.pin ∧ (s.powerHkc boot).tap = s.tap ∧
    (s.powerHkc boot).pad = s.pad := by
  simp [State.powerHkc]

@[simp] theorem State.dropHkc_frame (s : State) :
    s.dropHkc.pending = s.pending ∧ s.dropHkc.free = s.free ∧ s.dropHkc.clk = s.clk ∧ s.dropHkc.rst = s.rst ∧
    s.dropHkc.wdg = s.wdg ∧ s.dropHkc.reg = s.reg ∧ s.dropHkc.ctl = s.ctl ∧ s.dropHkc.ev = s.ev ∧ s.dropHkc.par = s.par ∧
    s.dropHkc.fus = s.fus ∧ s.dropHkc.role = s.role ∧ s.dropHkc.fw = s.fw ∧ s.dropHkc.nvs = s.nvs ∧ s.dropHkc.led = s.led ∧
    s.dropHkc.sea = s.sea ∧ s.dropHkc.view = s.view ∧ s.dropHkc.pace = s.pace ∧ s.dropHkc.lnk = s.lnk ∧ s.dropHkc.ets = s.ets ∧
    s.dropHkc.pix = s.pix ∧ s.dropHkc.pdp = s.pdp ∧ s.dropHkc.tab = s.tab ∧ s.dropHkc.pin = s.pin ∧ s.dropHkc.tap = s.tap ∧
    s.dropHkc.pad = s.pad := by
  simp [State.dropHkc]

@[simp] theorem State.calEnded_frame (s : State) (state : Nat) :
    (s.calEnded state).pending = s.pending ∧ (s.calEnded state).free = s.free ∧ (s.calEnded state).clk = s.clk ∧
    (s.calEnded state).pwr = s.pwr ∧ (s.calEnded state).rst = s.rst ∧ (s.calEnded state).reg = s.reg ∧
    (s.calEnded state).ctl = s.ctl ∧ (s.calEnded state).ev = s.ev ∧ (s.calEnded state).par = s.par ∧
    (s.calEnded state).fus = s.fus ∧ (s.calEnded state).role = s.role ∧ (s.calEnded state).fw = s.fw ∧
    (s.calEnded state).nvs = s.nvs ∧ (s.calEnded state).led = s.led ∧ (s.calEnded state).sea = s.sea ∧
    (s.calEnded state).view = s.view ∧ (s.calEnded state).pace = s.pace ∧ (s.calEnded state).lnk = s.lnk ∧
    (s.calEnded state).ets = s.ets ∧ (s.calEnded state).pix = s.pix ∧ (s.calEnded state).pdp = s.pdp ∧
    (s.calEnded state).tab = s.tab ∧ (s.calEnded state).pin = s.pin ∧ (s.calEnded state).tap = s.tap ∧
    (s.calEnded state).pad = s.pad := by
  simp [State.calEnded]

@[simp] theorem State.raiseCalDone_frame (s : State) (ch : Nat) (offset : Int) (gain : Nat) :
    (s.raiseCalDone ch offset gain).pending = s.pending ∧ (s.raiseCalDone ch offset gain).free = s.free ∧
    (s.raiseCalDone ch offset gain).clk = s.clk ∧ (s.raiseCalDone ch offset gain).pwr = s.pwr ∧
    (s.raiseCalDone ch offset gain).rst = s.rst ∧ (s.raiseCalDone ch offset gain).wdg = s.wdg ∧
    (s.raiseCalDone ch offset gain).ctl = s.ctl ∧ (s.raiseCalDone ch offset gain).par = s.par ∧
    (s.raiseCalDone ch offset gain).fus = s.fus ∧ (s.raiseCalDone ch offset gain).role = s.role ∧
    (s.raiseCalDone ch offset gain).fw = s.fw ∧ (s.raiseCalDone ch offset gain).nvs = s.nvs ∧
    (s.raiseCalDone ch offset gain).led = s.led ∧ (s.raiseCalDone ch offset gain).sea = s.sea ∧
    (s.raiseCalDone ch offset gain).view = s.view ∧ (s.raiseCalDone ch offset gain).pace = s.pace ∧
    (s.raiseCalDone ch offset gain).ets = s.ets ∧ (s.raiseCalDone ch offset gain).pix = s.pix ∧
    (s.raiseCalDone ch offset gain).pdp = s.pdp ∧ (s.raiseCalDone ch offset gain).tab = s.tab ∧
    (s.raiseCalDone ch offset gain).pin = s.pin ∧ (s.raiseCalDone ch offset gain).hkc = s.hkc ∧
    (s.raiseCalDone ch offset gain).tap = s.tap ∧ (s.raiseCalDone ch offset gain).pad = s.pad := by
  simp [State.raiseCalDone]

@[simp] theorem State.fullDone_frame (s : State) (c : HkcCal) (raw : Int) :
    (s.fullDone c raw).pending = s.pending ∧ (s.fullDone c raw).free = s.free ∧ (s.fullDone c raw).clk = s.clk ∧
    (s.fullDone c raw).pwr = s.pwr ∧ (s.fullDone c raw).rst = s.rst ∧ (s.fullDone c raw).ctl = s.ctl ∧
    (s.fullDone c raw).par = s.par ∧ (s.fullDone c raw).fus = s.fus ∧ (s.fullDone c raw).role = s.role ∧
    (s.fullDone c raw).fw = s.fw ∧ (s.fullDone c raw).nvs = s.nvs ∧ (s.fullDone c raw).led = s.led ∧
    (s.fullDone c raw).sea = s.sea ∧ (s.fullDone c raw).view = s.view ∧ (s.fullDone c raw).pace = s.pace ∧
    (s.fullDone c raw).ets = s.ets ∧ (s.fullDone c raw).pix = s.pix ∧ (s.fullDone c raw).pdp = s.pdp ∧
    (s.fullDone c raw).tab = s.tab ∧ (s.fullDone c raw).pin = s.pin ∧ (s.fullDone c raw).tap = s.tap ∧
    (s.fullDone c raw).pad = s.pad := by
  unfold State.fullDone; dsimp only; repeat' (first | (simp; done) | split)

@[simp] theorem State.zeroDone_frame (s : State) (c : HkcCal) (raw : Int) :
    (s.zeroDone c raw).pending = s.pending ∧ (s.zeroDone c raw).free = s.free ∧ (s.zeroDone c raw).clk = s.clk ∧
    (s.zeroDone c raw).pwr = s.pwr ∧ (s.zeroDone c raw).rst = s.rst ∧ (s.zeroDone c raw).reg = s.reg ∧
    (s.zeroDone c raw).ctl = s.ctl ∧ (s.zeroDone c raw).ev = s.ev ∧ (s.zeroDone c raw).par = s.par ∧
    (s.zeroDone c raw).fus = s.fus ∧ (s.zeroDone c raw).role = s.role ∧ (s.zeroDone c raw).fw = s.fw ∧
    (s.zeroDone c raw).nvs = s.nvs ∧ (s.zeroDone c raw).led = s.led ∧ (s.zeroDone c raw).sea = s.sea ∧
    (s.zeroDone c raw).view = s.view ∧ (s.zeroDone c raw).pace = s.pace ∧ (s.zeroDone c raw).lnk = s.lnk ∧
    (s.zeroDone c raw).ets = s.ets ∧ (s.zeroDone c raw).pix = s.pix ∧ (s.zeroDone c raw).pdp = s.pdp ∧
    (s.zeroDone c raw).tab = s.tab ∧ (s.zeroDone c raw).pin = s.pin ∧ (s.zeroDone c raw).tap = s.tap ∧
    (s.zeroDone c raw).pad = s.pad := by
  simp [State.zeroDone]

@[simp] theorem State.setJob_frame (s : State) (p : PdpJob) :
    (s.setJob p).pending = s.pending ∧ (s.setJob p).free = s.free ∧ (s.setJob p).clk = s.clk ∧ (s.setJob p).pwr = s.pwr ∧
    (s.setJob p).rst = s.rst ∧ (s.setJob p).wdg = s.wdg ∧ (s.setJob p).reg = s.reg ∧ (s.setJob p).ctl = s.ctl ∧
    (s.setJob p).ev = s.ev ∧ (s.setJob p).par = s.par ∧ (s.setJob p).fus = s.fus ∧ (s.setJob p).role = s.role ∧
    (s.setJob p).fw = s.fw ∧ (s.setJob p).nvs = s.nvs ∧ (s.setJob p).led = s.led ∧ (s.setJob p).sea = s.sea ∧
    (s.setJob p).view = s.view ∧ (s.setJob p).pace = s.pace ∧ (s.setJob p).lnk = s.lnk ∧ (s.setJob p).ets = s.ets ∧
    (s.setJob p).pix = s.pix ∧ (s.setJob p).tab = s.tab ∧ (s.setJob p).pin = s.pin ∧ (s.setJob p).hkc = s.hkc ∧
    (s.setJob p).tap = s.tap ∧ (s.setJob p).pad = s.pad := by
  simp [State.setJob]

@[simp] theorem State.endReadouts_frame (s : State) :
    s.endReadouts.pending = s.pending ∧ s.endReadouts.free = s.free ∧ s.endReadouts.clk = s.clk ∧ s.endReadouts.pwr = s.pwr ∧
    s.endReadouts.rst = s.rst ∧ s.endReadouts.wdg = s.wdg ∧ s.endReadouts.reg = s.reg ∧ s.endReadouts.ctl = s.ctl ∧
    s.endReadouts.ev = s.ev ∧ s.endReadouts.par = s.par ∧ s.endReadouts.fus = s.fus ∧ s.endReadouts.role = s.role ∧
    s.endReadouts.fw = s.fw ∧ s.endReadouts.nvs = s.nvs ∧ s.endReadouts.led = s.led ∧ s.endReadouts.sea = s.sea ∧
    s.endReadouts.view = s.view ∧ s.endReadouts.pace = s.pace ∧ s.endReadouts.lnk = s.lnk ∧ s.endReadouts.pix = s.pix ∧
    s.endReadouts.pdp = s.pdp ∧ s.endReadouts.tab = s.tab ∧ s.endReadouts.pin = s.pin ∧ s.endReadouts.hkc = s.hkc ∧
    s.endReadouts.tap = s.tap ∧ s.endReadouts.pad = s.pad := by
  simp [State.endReadouts]

@[simp] theorem State.deliver_frame (s : State) (b : Nat) (w : WaitingQuad) (samples : List RawSample) :
    (s.deliver b w samples).pending = s.pending ∧ (s.deliver b w samples).free = s.free ∧ (s.deliver b w samples).clk = s.clk ∧
    (s.deliver b w samples).rst = s.rst ∧ (s.deliver b w samples).reg = s.reg ∧ (s.deliver b w samples).ctl = s.ctl ∧
    (s.deliver b w samples).ev = s.ev ∧ (s.deliver b w samples).par = s.par ∧ (s.deliver b w samples).fus = s.fus ∧
    (s.deliver b w samples).role = s.role ∧ (s.deliver b w samples).fw = s.fw ∧ (s.deliver b w samples).led = s.led ∧
    (s.deliver b w samples).pace = s.pace ∧ (s.deliver b w samples).lnk = s.lnk ∧ (s.deliver b w samples).tab = s.tab ∧
    (s.deliver b w samples).pin = s.pin ∧ (s.deliver b w samples).tap = s.tap ∧ (s.deliver b w samples).pad = s.pad ∧
    (s.deliver b w samples).nvs.mem = s.nvs.mem := by
  simp [State.deliver]

@[simp] theorem State.measureBlack_frame (s : State) (p : PdpJob) (lo : Nat) :
    (s.measureBlack p lo).pending = s.pending ∧ (s.measureBlack p lo).clk = s.clk ∧ (s.measureBlack p lo).pwr = s.pwr ∧
    (s.measureBlack p lo).rst = s.rst ∧ (s.measureBlack p lo).wdg = s.wdg ∧ (s.measureBlack p lo).reg = s.reg ∧
    (s.measureBlack p lo).ctl = s.ctl ∧ (s.measureBlack p lo).ev = s.ev ∧ (s.measureBlack p lo).par = s.par ∧
    (s.measureBlack p lo).fus = s.fus ∧ (s.measureBlack p lo).role = s.role ∧ (s.measureBlack p lo).fw = s.fw ∧
    (s.measureBlack p lo).nvs = s.nvs ∧ (s.measureBlack p lo).led = s.led ∧ (s.measureBlack p lo).sea = s.sea ∧
    (s.measureBlack p lo).view = s.view ∧ (s.measureBlack p lo).pace = s.pace ∧ (s.measureBlack p lo).lnk = s.lnk ∧
    (s.measureBlack p lo).ets = s.ets ∧ (s.measureBlack p lo).pix = s.pix ∧ (s.measureBlack p lo).tab = s.tab ∧
    (s.measureBlack p lo).pin = s.pin ∧ (s.measureBlack p lo).hkc = s.hkc ∧ (s.measureBlack p lo).tap = s.tap ∧
    (s.measureBlack p lo).pad = s.pad := by
  simp [State.measureBlack]

@[simp] theorem State.dropJobs_frame (s : State) :
    s.dropJobs.pending = s.pending ∧ s.dropJobs.free = s.free ∧ s.dropJobs.clk = s.clk ∧ s.dropJobs.pwr = s.pwr ∧
    s.dropJobs.rst = s.rst ∧ s.dropJobs.wdg = s.wdg ∧ s.dropJobs.reg = s.reg ∧ s.dropJobs.ctl = s.ctl ∧ s.dropJobs.ev = s.ev ∧
    s.dropJobs.par = s.par ∧ s.dropJobs.fus = s.fus ∧ s.dropJobs.role = s.role ∧ s.dropJobs.fw = s.fw ∧
    s.dropJobs.nvs = s.nvs ∧ s.dropJobs.led = s.led ∧ s.dropJobs.sea = s.sea ∧ s.dropJobs.view = s.view ∧
    s.dropJobs.pace = s.pace ∧ s.dropJobs.lnk = s.lnk ∧ s.dropJobs.ets = s.ets ∧ s.dropJobs.pix = s.pix ∧
    s.dropJobs.tab = s.tab ∧ s.dropJobs.pin = s.pin ∧ s.dropJobs.hkc = s.hkc ∧ s.dropJobs.tap = s.tap ∧ s.dropJobs.pad = s.pad
        := by
  simp [State.dropJobs]

@[simp] theorem State.finishJob_frame (s : State) (p : PdpJob) :
    (s.finishJob p).pending = s.pending ∧ (s.finishJob p).clk = s.clk ∧ (s.finishJob p).pwr = s.pwr ∧
    (s.finishJob p).rst = s.rst ∧ (s.finishJob p).wdg = s.wdg ∧ (s.finishJob p).reg = s.reg ∧ (s.finishJob p).ctl = s.ctl ∧
    (s.finishJob p).ev = s.ev ∧ (s.finishJob p).par = s.par ∧ (s.finishJob p).fus = s.fus ∧ (s.finishJob p).role = s.role ∧
    (s.finishJob p).fw = s.fw ∧ (s.finishJob p).nvs = s.nvs ∧ (s.finishJob p).led = s.led ∧ (s.finishJob p).sea = s.sea ∧
    (s.finishJob p).view = s.view ∧ (s.finishJob p).pace = s.pace ∧ (s.finishJob p).lnk = s.lnk ∧ (s.finishJob p).ets = s.ets ∧
    (s.finishJob p).pix = s.pix ∧ (s.finishJob p).tab = s.tab ∧ (s.finishJob p).pin = s.pin ∧ (s.finishJob p).hkc = s.hkc ∧
    (s.finishJob p).tap = s.tap ∧ (s.finishJob p).pad = s.pad := by
  simp [State.finishJob]

@[simp] theorem State.align_frame (s : State) (w : WaitingQuad) (p : PdpJob) :
    (s.align w p).pending = s.pending ∧ (s.align w p).clk = s.clk ∧ (s.align w p).rst = s.rst ∧ (s.align w p).reg = s.reg ∧
    (s.align w p).ctl = s.ctl ∧ (s.align w p).ev = s.ev ∧ (s.align w p).par = s.par ∧ (s.align w p).fus = s.fus ∧
    (s.align w p).role = s.role ∧ (s.align w p).fw = s.fw ∧ (s.align w p).led = s.led ∧ (s.align w p).pace = s.pace ∧
    (s.align w p).lnk = s.lnk ∧ (s.align w p).tab = s.tab ∧ (s.align w p).pin = s.pin ∧ (s.align w p).tap = s.tap ∧
    (s.align w p).pad = s.pad ∧ (s.align w p).nvs.mem = s.nvs.mem := by
  simp [State.align]

@[simp] theorem State.onFrame_frame (s : State) (v : Nat) (c : Word64) (g : Frame → Frame) :
    (s.onFrame v c g).pending = s.pending ∧ (s.onFrame v c g).free = s.free ∧ (s.onFrame v c g).clk = s.clk ∧
    (s.onFrame v c g).pwr = s.pwr ∧ (s.onFrame v c g).rst = s.rst ∧ (s.onFrame v c g).wdg = s.wdg ∧
    (s.onFrame v c g).reg = s.reg ∧ (s.onFrame v c g).ctl = s.ctl ∧ (s.onFrame v c g).ev = s.ev ∧
    (s.onFrame v c g).par = s.par ∧ (s.onFrame v c g).fus = s.fus ∧ (s.onFrame v c g).role = s.role ∧
    (s.onFrame v c g).fw = s.fw ∧ (s.onFrame v c g).nvs = s.nvs ∧ (s.onFrame v c g).led = s.led ∧
    (s.onFrame v c g).sea = s.sea ∧ (s.onFrame v c g).pace = s.pace ∧ (s.onFrame v c g).lnk = s.lnk ∧
    (s.onFrame v c g).ets = s.ets ∧ (s.onFrame v c g).pix = s.pix ∧ (s.onFrame v c g).pdp = s.pdp ∧
    (s.onFrame v c g).tab = s.tab ∧ (s.onFrame v c g).pin = s.pin ∧ (s.onFrame v c g).hkc = s.hkc ∧
    (s.onFrame v c g).tap = s.tap ∧ (s.onFrame v c g).pad = s.pad := by
  simp [State.onFrame]

@[simp] theorem State.dealStrip_frame (s : State) (v : Nat) (f : Frame) (e : Nat) :
    (s.dealStrip v f e).pending = s.pending ∧ (s.dealStrip v f e).free = s.free ∧ (s.dealStrip v f e).clk = s.clk ∧
    (s.dealStrip v f e).pwr = s.pwr ∧ (s.dealStrip v f e).rst = s.rst ∧ (s.dealStrip v f e).wdg = s.wdg ∧
    (s.dealStrip v f e).reg = s.reg ∧ (s.dealStrip v f e).ctl = s.ctl ∧ (s.dealStrip v f e).ev = s.ev ∧
    (s.dealStrip v f e).par = s.par ∧ (s.dealStrip v f e).fus = s.fus ∧ (s.dealStrip v f e).role = s.role ∧
    (s.dealStrip v f e).fw = s.fw ∧ (s.dealStrip v f e).nvs = s.nvs ∧ (s.dealStrip v f e).led = s.led ∧
    (s.dealStrip v f e).pace = s.pace ∧ (s.dealStrip v f e).lnk = s.lnk ∧ (s.dealStrip v f e).ets = s.ets ∧
    (s.dealStrip v f e).pix = s.pix ∧ (s.dealStrip v f e).pdp = s.pdp ∧ (s.dealStrip v f e).tab = s.tab ∧
    (s.dealStrip v f e).pin = s.pin ∧ (s.dealStrip v f e).hkc = s.hkc ∧ (s.dealStrip v f e).tap = s.tap ∧
    (s.dealStrip v f e).pad = s.pad := by
  simp [State.dealStrip]

@[simp] theorem State.pushStart_frame (s : State) (v : Nat) (f : Frame) (t0 : Word64) :
    (s.pushStart v f t0).pending = s.pending ∧ (s.pushStart v f t0).free = s.free ∧ (s.pushStart v f t0).clk = s.clk ∧
    (s.pushStart v f t0).pwr = s.pwr ∧ (s.pushStart v f t0).rst = s.rst ∧ (s.pushStart v f t0).wdg = s.wdg ∧
    (s.pushStart v f t0).reg = s.reg ∧ (s.pushStart v f t0).ctl = s.ctl ∧ (s.pushStart v f t0).ev = s.ev ∧
    (s.pushStart v f t0).par = s.par ∧ (s.pushStart v f t0).fus = s.fus ∧ (s.pushStart v f t0).role = s.role ∧
    (s.pushStart v f t0).fw = s.fw ∧ (s.pushStart v f t0).nvs = s.nvs ∧ (s.pushStart v f t0).led = s.led ∧
    (s.pushStart v f t0).sea = s.sea ∧ (s.pushStart v f t0).pace = s.pace ∧ (s.pushStart v f t0).ets = s.ets ∧
    (s.pushStart v f t0).pix = s.pix ∧ (s.pushStart v f t0).pdp = s.pdp ∧ (s.pushStart v f t0).tab = s.tab ∧
    (s.pushStart v f t0).pin = s.pin ∧ (s.pushStart v f t0).hkc = s.hkc ∧ (s.pushStart v f t0).tap = s.tap ∧
    (s.pushStart v f t0).pad = s.pad := by
  simp [State.pushStart]

@[simp] theorem State.packLine_frame (s : State) (v : Nat) (f : Frame) (p : PdpJob) :
    (s.packLine v f p).pending = s.pending ∧ (s.packLine v f p).free = s.free ∧ (s.packLine v f p).clk = s.clk ∧
    (s.packLine v f p).pwr = s.pwr ∧ (s.packLine v f p).rst = s.rst ∧ (s.packLine v f p).reg = s.reg ∧
    (s.packLine v f p).ctl = s.ctl ∧ (s.packLine v f p).ev = s.ev ∧ (s.packLine v f p).par = s.par ∧
    (s.packLine v f p).fus = s.fus ∧ (s.packLine v f p).role = s.role ∧ (s.packLine v f p).fw = s.fw ∧
    (s.packLine v f p).nvs = s.nvs ∧ (s.packLine v f p).led = s.led ∧ (s.packLine v f p).pace = s.pace ∧
    (s.packLine v f p).ets = s.ets ∧ (s.packLine v f p).pix = s.pix ∧ (s.packLine v f p).pdp = s.pdp ∧
    (s.packLine v f p).tab = s.tab ∧ (s.packLine v f p).pin = s.pin ∧ (s.packLine v f p).hkc = s.hkc ∧
    (s.packLine v f p).tap = s.tap ∧ (s.packLine v f p).pad = s.pad := by
  simp [State.packLine]

@[simp] theorem State.packNext_frame (s : State) (v : Nat) (f : Frame) (p : PdpJob) :
    (s.packNext v f p).pending = s.pending ∧ (s.packNext v f p).free = s.free ∧ (s.packNext v f p).clk = s.clk ∧
    (s.packNext v f p).pwr = s.pwr ∧ (s.packNext v f p).rst = s.rst ∧ (s.packNext v f p).reg = s.reg ∧
    (s.packNext v f p).ctl = s.ctl ∧ (s.packNext v f p).ev = s.ev ∧ (s.packNext v f p).par = s.par ∧
    (s.packNext v f p).fus = s.fus ∧ (s.packNext v f p).role = s.role ∧ (s.packNext v f p).fw = s.fw ∧
    (s.packNext v f p).nvs = s.nvs ∧ (s.packNext v f p).led = s.led ∧ (s.packNext v f p).pace = s.pace ∧
    (s.packNext v f p).ets = s.ets ∧ (s.packNext v f p).pix = s.pix ∧ (s.packNext v f p).pdp = s.pdp ∧
    (s.packNext v f p).tab = s.tab ∧ (s.packNext v f p).pin = s.pin ∧ (s.packNext v f p).hkc = s.hkc ∧
    (s.packNext v f p).tap = s.tap ∧ (s.packNext v f p).pad = s.pad := by
  simp [State.packNext]; repeat' (first | (simp; done) | split)

@[simp] theorem State.lineTaken_frame (s : State) (v : Nat) (f : Frame) :
    (s.lineTaken v f).pending = s.pending ∧ (s.lineTaken v f).free = s.free ∧ (s.lineTaken v f).clk = s.clk ∧
    (s.lineTaken v f).pwr = s.pwr ∧ (s.lineTaken v f).rst = s.rst ∧ (s.lineTaken v f).reg = s.reg ∧
    (s.lineTaken v f).ctl = s.ctl ∧ (s.lineTaken v f).ev = s.ev ∧ (s.lineTaken v f).par = s.par ∧
    (s.lineTaken v f).fus = s.fus ∧ (s.lineTaken v f).role = s.role ∧ (s.lineTaken v f).fw = s.fw ∧
    (s.lineTaken v f).nvs = s.nvs ∧ (s.lineTaken v f).led = s.led ∧ (s.lineTaken v f).pace = s.pace ∧
    (s.lineTaken v f).lnk = s.lnk ∧ (s.lineTaken v f).ets = s.ets ∧ (s.lineTaken v f).pix = s.pix ∧
    (s.lineTaken v f).pdp = s.pdp ∧ (s.lineTaken v f).tab = s.tab ∧ (s.lineTaken v f).pin = s.pin ∧
    (s.lineTaken v f).hkc = s.hkc ∧ (s.lineTaken v f).tap = s.tap ∧ (s.lineTaken v f).pad = s.pad := by
  simp [State.lineTaken]

@[simp] theorem State.pushIfRoom_frame (s : State) (p : Packet) :
    (s.pushIfRoom p).pending = s.pending ∧ (s.pushIfRoom p).free = s.free ∧ (s.pushIfRoom p).clk = s.clk ∧
    (s.pushIfRoom p).pwr = s.pwr ∧ (s.pushIfRoom p).rst = s.rst ∧ (s.pushIfRoom p).wdg = s.wdg ∧ (s.pushIfRoom p).reg = s.reg ∧
    (s.pushIfRoom p).ctl = s.ctl ∧ (s.pushIfRoom p).ev = s.ev ∧ (s.pushIfRoom p).par = s.par ∧ (s.pushIfRoom p).fus = s.fus ∧
    (s.pushIfRoom p).role = s.role ∧ (s.pushIfRoom p).fw = s.fw ∧ (s.pushIfRoom p).nvs = s.nvs ∧ (s.pushIfRoom p).led = s.led ∧
    (s.pushIfRoom p).sea = s.sea ∧ (s.pushIfRoom p).view = s.view ∧ (s.pushIfRoom p).pace = s.pace ∧
    (s.pushIfRoom p).ets = s.ets ∧ (s.pushIfRoom p).pix = s.pix ∧ (s.pushIfRoom p).pdp = s.pdp ∧ (s.pushIfRoom p).tab = s.tab ∧
    (s.pushIfRoom p).pin = s.pin ∧ (s.pushIfRoom p).hkc = s.hkc ∧ (s.pushIfRoom p).tap = s.tap ∧ (s.pushIfRoom p).pad = s.pad
        := by
  simp [State.pushIfRoom]

theorem takeLine_frame {s t : State} (h : s.takeLine = some t) :
    t.pending = s.pending ∧ t.free = s.free ∧ t.clk = s.clk ∧ t.pwr = s.pwr ∧ t.rst = s.rst ∧ t.reg = s.reg ∧ t.ctl = s.ctl ∧
        t.ev = s.ev ∧ t.par = s.par ∧ t.fus = s.fus ∧ t.role = s.role ∧ t.fw = s.fw ∧ t.nvs = s.nvs ∧ t.led = s.led ∧ t.pace =
            s.pace ∧ t.ets = s.ets ∧ t.pix = s.pix ∧ t.pdp = s.pdp ∧ t.tab = s.tab ∧ t.pin = s.pin ∧ t.hkc = s.hkc ∧ t.tap =
                s.tap ∧ t.pad = s.pad := by
  unfold State.takeLine at h
  repeat' (first | (split at h) | contradiction)
  all_goals (first | contradiction | (dsimp only at h; repeat' (first | contradiction | split at h)))
  all_goals (first | contradiction | (injection h with h; subst h; simp))
theorem takeUpTo_frame (n : Nat) (s : State) :
    (State.takeUpTo n s).pending = s.pending ∧ (State.takeUpTo n s).free = s.free ∧ (State.takeUpTo n s).clk = s.clk ∧
        (State.takeUpTo n s).pwr = s.pwr ∧ (State.takeUpTo n s).rst = s.rst ∧ (State.takeUpTo n s).reg = s.reg ∧
            (State.takeUpTo n s).ctl = s.ctl ∧ (State.takeUpTo n s).ev = s.ev ∧ (State.takeUpTo n s).par = s.par ∧
                (State.takeUpTo n s).fus = s.fus ∧ (State.takeUpTo n s).role = s.role ∧ (State.takeUpTo n s).fw = s.fw ∧
                    (State.takeUpTo n s).nvs = s.nvs ∧ (State.takeUpTo n s).led = s.led ∧ (State.takeUpTo n s).pace = s.pace ∧
                        (State.takeUpTo n s).ets = s.ets ∧ (State.takeUpTo n s).pix = s.pix ∧ (State.takeUpTo n s).pdp = s.pdp
                            ∧ (State.takeUpTo n s).tab = s.tab ∧ (State.takeUpTo n s).pin = s.pin ∧ (State.takeUpTo n s).hkc =
                                s.hkc ∧ (State.takeUpTo n s).tap = s.tap ∧ (State.takeUpTo n s).pad = s.pad := by
  induction n generalizing s with
  | zero => simp [State.takeUpTo]
  | succ n ih =>
    unfold State.takeUpTo
    split
    · next h => have := ih ‹State›; have := takeLine_frame h; simp_all
    · simp
@[simp] theorem State.takeLines_frame (s : State) :
    s.takeLines.pending = s.pending ∧ s.takeLines.free = s.free ∧ s.takeLines.clk = s.clk ∧ s.takeLines.pwr = s.pwr ∧
    s.takeLines.rst = s.rst ∧ s.takeLines.reg = s.reg ∧ s.takeLines.ctl = s.ctl ∧ s.takeLines.ev = s.ev ∧
    s.takeLines.par = s.par ∧ s.takeLines.fus = s.fus ∧ s.takeLines.role = s.role ∧ s.takeLines.fw = s.fw ∧
    s.takeLines.nvs = s.nvs ∧ s.takeLines.led = s.led ∧ s.takeLines.pace = s.pace ∧ s.takeLines.ets = s.ets ∧
    s.takeLines.pix = s.pix ∧ s.takeLines.pdp = s.pdp ∧ s.takeLines.tab = s.tab ∧ s.takeLines.pin = s.pin ∧
    s.takeLines.hkc = s.hkc ∧ s.takeLines.tap = s.tap ∧ s.takeLines.pad = s.pad := by
  exact takeUpTo_frame _ s

@[simp] theorem State.beginRun_frame (s : State) (trigger : Nat) :
    (s.beginRun trigger).pending = s.pending ∧ (s.beginRun trigger).free = s.free ∧ (s.beginRun trigger).clk = s.clk ∧
    (s.beginRun trigger).par = s.par ∧ (s.beginRun trigger).role = s.role ∧ (s.beginRun trigger).fw = s.fw ∧
    (s.beginRun trigger).led = s.led ∧ (s.beginRun trigger).pace = s.pace ∧ (s.beginRun trigger).tab = s.tab ∧
    (s.beginRun trigger).tap = s.tap ∧ (s.beginRun trigger).pad = s.pad ∧ (s.beginRun trigger).nvs.mem = s.nvs.mem := by
  simp [State.beginRun]

@[simp] theorem State.lessOutstanding_frame (s : State) (e n : Nat) :
    (s.lessOutstanding e n).pending = s.pending ∧ (s.lessOutstanding e n).free = s.free ∧ (s.lessOutstanding e n).clk = s.clk ∧
    (s.lessOutstanding e n).pwr = s.pwr ∧ (s.lessOutstanding e n).rst = s.rst ∧ (s.lessOutstanding e n).wdg = s.wdg ∧
    (s.lessOutstanding e n).reg = s.reg ∧ (s.lessOutstanding e n).ctl = s.ctl ∧ (s.lessOutstanding e n).ev = s.ev ∧
    (s.lessOutstanding e n).par = s.par ∧ (s.lessOutstanding e n).fus = s.fus ∧ (s.lessOutstanding e n).role = s.role ∧
    (s.lessOutstanding e n).fw = s.fw ∧ (s.lessOutstanding e n).nvs = s.nvs ∧ (s.lessOutstanding e n).led = s.led ∧
    (s.lessOutstanding e n).view = s.view ∧ (s.lessOutstanding e n).pace = s.pace ∧ (s.lessOutstanding e n).lnk = s.lnk ∧
    (s.lessOutstanding e n).ets = s.ets ∧ (s.lessOutstanding e n).pix = s.pix ∧ (s.lessOutstanding e n).pdp = s.pdp ∧
    (s.lessOutstanding e n).tab = s.tab ∧ (s.lessOutstanding e n).pin = s.pin ∧ (s.lessOutstanding e n).hkc = s.hkc ∧
    (s.lessOutstanding e n).tap = s.tap ∧ (s.lessOutstanding e n).pad = s.pad := by
  simp [State.lessOutstanding]

@[simp] theorem State.countBytes_frame (s : State) (e n : Nat) :
    (s.countBytes e n).pending = s.pending ∧ (s.countBytes e n).free = s.free ∧ (s.countBytes e n).clk = s.clk ∧
    (s.countBytes e n).pwr = s.pwr ∧ (s.countBytes e n).rst = s.rst ∧ (s.countBytes e n).wdg = s.wdg ∧
    (s.countBytes e n).reg = s.reg ∧ (s.countBytes e n).ctl = s.ctl ∧ (s.countBytes e n).ev = s.ev ∧
    (s.countBytes e n).par = s.par ∧ (s.countBytes e n).fus = s.fus ∧ (s.countBytes e n).role = s.role ∧
    (s.countBytes e n).fw = s.fw ∧ (s.countBytes e n).nvs = s.nvs ∧ (s.countBytes e n).led = s.led ∧
    (s.countBytes e n).view = s.view ∧ (s.countBytes e n).pace = s.pace ∧ (s.countBytes e n).lnk = s.lnk ∧
    (s.countBytes e n).ets = s.ets ∧ (s.countBytes e n).pix = s.pix ∧ (s.countBytes e n).pdp = s.pdp ∧
    (s.countBytes e n).tab = s.tab ∧ (s.countBytes e n).pin = s.pin ∧ (s.countBytes e n).hkc = s.hkc ∧
    (s.countBytes e n).tap = s.tap ∧ (s.countBytes e n).pad = s.pad := by
  simp [State.countBytes]

@[simp] theorem State.absorb_frame (s : State) (v i : Nat) (f : Frame) (x : Strip) :
    (s.absorb v i f x).pending = s.pending ∧ (s.absorb v i f x).free = s.free ∧ (s.absorb v i f x).clk = s.clk ∧
    (s.absorb v i f x).rst = s.rst ∧ (s.absorb v i f x).reg = s.reg ∧ (s.absorb v i f x).ctl = s.ctl ∧
    (s.absorb v i f x).ev = s.ev ∧ (s.absorb v i f x).par = s.par ∧ (s.absorb v i f x).fus = s.fus ∧
    (s.absorb v i f x).role = s.role ∧ (s.absorb v i f x).fw = s.fw ∧ (s.absorb v i f x).led = s.led ∧
    (s.absorb v i f x).pace = s.pace ∧ (s.absorb v i f x).ets = s.ets ∧ (s.absorb v i f x).tab = s.tab ∧
    (s.absorb v i f x).pin = s.pin ∧ (s.absorb v i f x).tap = s.tap ∧ (s.absorb v i f x).pad = s.pad ∧
    (s.absorb v i f x).nvs.mem = s.nvs.mem := by
  simp [State.absorb]

@[simp] theorem State.releaseStrip_frame (s : State) (f : Frame) :
    (s.releaseStrip f).pending = s.pending ∧ (s.releaseStrip f).free = s.free ∧ (s.releaseStrip f).clk = s.clk ∧
    (s.releaseStrip f).pwr = s.pwr ∧ (s.releaseStrip f).rst = s.rst ∧ (s.releaseStrip f).wdg = s.wdg ∧
    (s.releaseStrip f).reg = s.reg ∧ (s.releaseStrip f).ctl = s.ctl ∧ (s.releaseStrip f).ev = s.ev ∧
    (s.releaseStrip f).par = s.par ∧ (s.releaseStrip f).fus = s.fus ∧ (s.releaseStrip f).role = s.role ∧
    (s.releaseStrip f).fw = s.fw ∧ (s.releaseStrip f).nvs = s.nvs ∧ (s.releaseStrip f).led = s.led ∧
    (s.releaseStrip f).view = s.view ∧ (s.releaseStrip f).pace = s.pace ∧ (s.releaseStrip f).lnk = s.lnk ∧
    (s.releaseStrip f).ets = s.ets ∧ (s.releaseStrip f).pix = s.pix ∧ (s.releaseStrip f).pdp = s.pdp ∧
    (s.releaseStrip f).tab = s.tab ∧ (s.releaseStrip f).pin = s.pin ∧ (s.releaseStrip f).hkc = s.hkc ∧
    (s.releaseStrip f).tap = s.tap ∧ (s.releaseStrip f).pad = s.pad := by
  unfold State.releaseStrip; split <;> simp

@[simp] theorem State.countCut_frame (s : State) (f : Frame) :
    (s.countCut f).pending = s.pending ∧ (s.countCut f).free = s.free ∧ (s.countCut f).clk = s.clk ∧
    (s.countCut f).rst = s.rst ∧ (s.countCut f).wdg = s.wdg ∧ (s.countCut f).reg = s.reg ∧ (s.countCut f).ctl = s.ctl ∧
    (s.countCut f).ev = s.ev ∧ (s.countCut f).par = s.par ∧ (s.countCut f).fus = s.fus ∧ (s.countCut f).role = s.role ∧
    (s.countCut f).fw = s.fw ∧ (s.countCut f).led = s.led ∧ (s.countCut f).sea = s.sea ∧ (s.countCut f).view = s.view ∧
    (s.countCut f).pace = s.pace ∧ (s.countCut f).lnk = s.lnk ∧ (s.countCut f).ets = s.ets ∧ (s.countCut f).pix = s.pix ∧
    (s.countCut f).pdp = s.pdp ∧ (s.countCut f).tab = s.tab ∧ (s.countCut f).pin = s.pin ∧ (s.countCut f).hkc = s.hkc ∧
    (s.countCut f).tap = s.tap ∧ (s.countCut f).pad = s.pad ∧ (s.countCut f).nvs.mem = s.nvs.mem := by
  unfold State.countCut; split <;> simp

@[simp] theorem State.pushEnd_frame (s : State) (v : Nat) (f : Frame) (header root : Bytes) :
    (s.pushEnd v f header root).pending = s.pending ∧ (s.pushEnd v f header root).free = s.free ∧
    (s.pushEnd v f header root).clk = s.clk ∧ (s.pushEnd v f header root).pwr = s.pwr ∧
    (s.pushEnd v f header root).rst = s.rst ∧ (s.pushEnd v f header root).wdg = s.wdg ∧
    (s.pushEnd v f header root).reg = s.reg ∧ (s.pushEnd v f header root).ctl = s.ctl ∧ (s.pushEnd v f header root).ev = s.ev ∧
    (s.pushEnd v f header root).par = s.par ∧ (s.pushEnd v f header root).fus = s.fus ∧
    (s.pushEnd v f header root).role = s.role ∧ (s.pushEnd v f header root).fw = s.fw ∧
    (s.pushEnd v f header root).nvs = s.nvs ∧ (s.pushEnd v f header root).led = s.led ∧
    (s.pushEnd v f header root).sea = s.sea ∧ (s.pushEnd v f header root).pace = s.pace ∧
    (s.pushEnd v f header root).ets = s.ets ∧ (s.pushEnd v f header root).pix = s.pix ∧
    (s.pushEnd v f header root).pdp = s.pdp ∧ (s.pushEnd v f header root).tab = s.tab ∧
    (s.pushEnd v f header root).pin = s.pin ∧ (s.pushEnd v f header root).hkc = s.hkc ∧
    (s.pushEnd v f header root).tap = s.tap ∧ (s.pushEnd v f header root).pad = s.pad := by
  simp [State.pushEnd]

@[simp] theorem State.recordRoot_frame (s : State) (v : Nat) (f : Frame) (root : Bytes) (endSeq : Option Word) :
    (s.recordRoot v f root endSeq).pending = s.pending ∧ (s.recordRoot v f root endSeq).free = s.free ∧
    (s.recordRoot v f root endSeq).clk = s.clk ∧ (s.recordRoot v f root endSeq).pwr = s.pwr ∧
    (s.recordRoot v f root endSeq).rst = s.rst ∧ (s.recordRoot v f root endSeq).wdg = s.wdg ∧
    (s.recordRoot v f root endSeq).reg = s.reg ∧ (s.recordRoot v f root endSeq).ctl = s.ctl ∧
    (s.recordRoot v f root endSeq).ev = s.ev ∧ (s.recordRoot v f root endSeq).par = s.par ∧
    (s.recordRoot v f root endSeq).fus = s.fus ∧ (s.recordRoot v f root endSeq).role = s.role ∧
    (s.recordRoot v f root endSeq).fw = s.fw ∧ (s.recordRoot v f root endSeq).nvs = s.nvs ∧
    (s.recordRoot v f root endSeq).led = s.led ∧ (s.recordRoot v f root endSeq).sea = s.sea ∧
    (s.recordRoot v f root endSeq).pace = s.pace ∧ (s.recordRoot v f root endSeq).lnk = s.lnk ∧
    (s.recordRoot v f root endSeq).ets = s.ets ∧ (s.recordRoot v f root endSeq).pix = s.pix ∧
    (s.recordRoot v f root endSeq).pdp = s.pdp ∧ (s.recordRoot v f root endSeq).tab = s.tab ∧
    (s.recordRoot v f root endSeq).pin = s.pin ∧ (s.recordRoot v f root endSeq).hkc = s.hkc ∧
    (s.recordRoot v f root endSeq).tap = s.tap ∧ (s.recordRoot v f root endSeq).pad = s.pad := by
  simp [State.recordRoot]

@[simp] theorem State.endFrame_frame (s : State) (v : Nat) (f : Frame) (p : PdpJob) :
    (s.endFrame v f p).pending = s.pending ∧ (s.endFrame v f p).free = s.free ∧ (s.endFrame v f p).clk = s.clk ∧
    (s.endFrame v f p).rst = s.rst ∧ (s.endFrame v f p).reg = s.reg ∧ (s.endFrame v f p).ctl = s.ctl ∧
    (s.endFrame v f p).ev = s.ev ∧ (s.endFrame v f p).par = s.par ∧ (s.endFrame v f p).fus = s.fus ∧
    (s.endFrame v f p).role = s.role ∧ (s.endFrame v f p).fw = s.fw ∧ (s.endFrame v f p).led = s.led ∧
    (s.endFrame v f p).pace = s.pace ∧ (s.endFrame v f p).ets = s.ets ∧ (s.endFrame v f p).tab = s.tab ∧
    (s.endFrame v f p).pin = s.pin ∧ (s.endFrame v f p).tap = s.tap ∧ (s.endFrame v f p).pad = s.pad ∧
    (s.endFrame v f p).nvs.mem = s.nvs.mem := by
  simp [State.endFrame]

@[simp] theorem State.signed_frame (s : State) (j : SignJob) (rest : Sea) (ns : Nat) :
    (s.signed j rest ns).pending = s.pending ∧ (s.signed j rest ns).free = s.free ∧ (s.signed j rest ns).clk = s.clk ∧
    (s.signed j rest ns).rst = s.rst ∧ (s.signed j rest ns).reg = s.reg ∧ (s.signed j rest ns).ctl = s.ctl ∧
    (s.signed j rest ns).ev = s.ev ∧ (s.signed j rest ns).par = s.par ∧ (s.signed j rest ns).fus = s.fus ∧
    (s.signed j rest ns).role = s.role ∧ (s.signed j rest ns).fw = s.fw ∧ (s.signed j rest ns).nvs = s.nvs ∧
    (s.signed j rest ns).led = s.led ∧ (s.signed j rest ns).pace = s.pace ∧ (s.signed j rest ns).ets = s.ets ∧
    (s.signed j rest ns).tab = s.tab ∧ (s.signed j rest ns).pin = s.pin ∧ (s.signed j rest ns).hkc = s.hkc ∧
    (s.signed j rest ns).tap = s.tap ∧ (s.signed j rest ns).pad = s.pad := by
  simp [State.signed]

@[simp] theorem State.repeatVermilion_frame (s : State) (entry : Nat) :
    (s.repeatVermilion entry).pending = s.pending ∧ (s.repeatVermilion entry).free = s.free ∧
    (s.repeatVermilion entry).clk = s.clk ∧ (s.repeatVermilion entry).pwr = s.pwr ∧ (s.repeatVermilion entry).rst = s.rst ∧
    (s.repeatVermilion entry).wdg = s.wdg ∧ (s.repeatVermilion entry).ctl = s.ctl ∧ (s.repeatVermilion entry).par = s.par ∧
    (s.repeatVermilion entry).fus = s.fus ∧ (s.repeatVermilion entry).role = s.role ∧ (s.repeatVermilion entry).fw = s.fw ∧
    (s.repeatVermilion entry).nvs = s.nvs ∧ (s.repeatVermilion entry).led = s.led ∧ (s.repeatVermilion entry).sea = s.sea ∧
    (s.repeatVermilion entry).view = s.view ∧ (s.repeatVermilion entry).pace = s.pace ∧ (s.repeatVermilion entry).ets = s.ets ∧
    (s.repeatVermilion entry).pix = s.pix ∧ (s.repeatVermilion entry).pdp = s.pdp ∧ (s.repeatVermilion entry).tab = s.tab ∧
    (s.repeatVermilion entry).pin = s.pin ∧ (s.repeatVermilion entry).hkc = s.hkc ∧ (s.repeatVermilion entry).tap = s.tap ∧
    (s.repeatVermilion entry).pad = s.pad := by
  simp [State.repeatVermilion]

end Sys2Proof.Machine
end

