-- ==== Sys2Proof/Laws/FramePower.lean ====
section
/-! SUPPORT. What the operations of resets, power, boot and the control port leave unchanged. -/

set_option linter.unusedSimpArgs false
set_option Elab.async false

namespace Sys2Proof.Machine

@[simp] theorem State.wiped_frame (s : State) (por : Bool) :
    (s.wiped por).nvs.mem = s.nvs.mem := by
  simp [State.wiped, Nvs.kept]

@[simp] theorem State.holdDomains_frame (s : State) :
    s.holdDomains.pending = s.pending ∧ s.holdDomains.free = s.free ∧ s.holdDomains.clk = s.clk ∧ s.holdDomains.rst = s.rst ∧
    s.holdDomains.wdg = s.wdg ∧ s.holdDomains.reg = s.reg ∧ s.holdDomains.ctl = s.ctl ∧ s.holdDomains.ev = s.ev ∧
    s.holdDomains.par = s.par ∧ s.holdDomains.fus = s.fus ∧ s.holdDomains.role = s.role ∧ s.holdDomains.fw = s.fw ∧
    s.holdDomains.nvs = s.nvs ∧ s.holdDomains.led = s.led ∧ s.holdDomains.sea = s.sea ∧ s.holdDomains.view = s.view ∧
    s.holdDomains.pace = s.pace ∧ s.holdDomains.lnk = s.lnk ∧ s.holdDomains.ets = s.ets ∧ s.holdDomains.pix = s.pix ∧
    s.holdDomains.pdp = s.pdp ∧ s.holdDomains.tab = s.tab ∧ s.holdDomains.pin = s.pin ∧ s.holdDomains.hkc = s.hkc ∧
    s.holdDomains.tap = s.tap ∧ s.holdDomains.pad = s.pad := by
  simp [State.holdDomains]

@[simp] theorem State.releaseBoot_frame (s : State) :
    s.releaseBoot.pending = s.pending ∧ s.releaseBoot.free = s.free ∧ s.releaseBoot.clk = s.clk ∧ s.releaseBoot.rst = s.rst ∧
    s.releaseBoot.wdg = s.wdg ∧ s.releaseBoot.reg = s.reg ∧ s.releaseBoot.ctl = s.ctl ∧ s.releaseBoot.ev = s.ev ∧
    s.releaseBoot.par = s.par ∧ s.releaseBoot.fus = s.fus ∧ s.releaseBoot.role = s.role ∧ s.releaseBoot.fw = s.fw ∧
    s.releaseBoot.nvs = s.nvs ∧ s.releaseBoot.led = s.led ∧ s.releaseBoot.sea = s.sea ∧ s.releaseBoot.view = s.view ∧
    s.releaseBoot.pace = s.pace ∧ s.releaseBoot.lnk = s.lnk ∧ s.releaseBoot.ets = s.ets ∧ s.releaseBoot.pix = s.pix ∧
    s.releaseBoot.pdp = s.pdp ∧ s.releaseBoot.tab = s.tab ∧ s.releaseBoot.pin = s.pin ∧ s.releaseBoot.hkc = s.hkc ∧
    s.releaseBoot.tap = s.tap ∧ s.releaseBoot.pad = s.pad := by
  simp [State.releaseBoot]

@[simp] theorem State.countFailure_frame (s : State) (cause : Cause) :
    (s.countFailure cause).pending = s.pending ∧ (s.countFailure cause).free = s.free ∧ (s.countFailure cause).clk = s.clk ∧
    (s.countFailure cause).pwr = s.pwr ∧ (s.countFailure cause).rst = s.rst ∧ (s.countFailure cause).wdg = s.wdg ∧
    (s.countFailure cause).reg = s.reg ∧ (s.countFailure cause).ctl = s.ctl ∧ (s.countFailure cause).ev = s.ev ∧
    (s.countFailure cause).par = s.par ∧ (s.countFailure cause).fus = s.fus ∧ (s.countFailure cause).role = s.role ∧
    (s.countFailure cause).nvs = s.nvs ∧ (s.countFailure cause).led = s.led ∧ (s.countFailure cause).sea = s.sea ∧
    (s.countFailure cause).view = s.view ∧ (s.countFailure cause).pace = s.pace ∧ (s.countFailure cause).lnk = s.lnk ∧
    (s.countFailure cause).ets = s.ets ∧ (s.countFailure cause).pix = s.pix ∧ (s.countFailure cause).pdp = s.pdp ∧
    (s.countFailure cause).tab = s.tab ∧ (s.countFailure cause).pin = s.pin ∧ (s.countFailure cause).hkc = s.hkc ∧
    (s.countFailure cause).tap = s.tap ∧ (s.countFailure cause).pad = s.pad := by
  simp [State.countFailure]

@[simp] theorem State.resetDevice_frame (s : State) (cause : Cause) (missing : BitVec 16) (record : Bool) :
    (s.resetDevice cause missing record).nvs.mem = s.nvs.mem := by
  simp [State.resetDevice]

@[simp] theorem State.decideNew_frame (s : State) (cause : Cause) (detail : Nat) (mask strict : BitVec 16) :
    (s.decideNew cause detail mask strict).pending = s.pending ∧ (s.decideNew cause detail mask strict).clk = s.clk ∧
    (s.decideNew cause detail mask strict).pwr = s.pwr ∧ (s.decideNew cause detail mask strict).wdg = s.wdg ∧
    (s.decideNew cause detail mask strict).reg = s.reg ∧ (s.decideNew cause detail mask strict).ctl = s.ctl ∧
    (s.decideNew cause detail mask strict).ev = s.ev ∧ (s.decideNew cause detail mask strict).par = s.par ∧
    (s.decideNew cause detail mask strict).role = s.role ∧ (s.decideNew cause detail mask strict).fw = s.fw ∧
    (s.decideNew cause detail mask strict).led = s.led ∧ (s.decideNew cause detail mask strict).sea = s.sea ∧
    (s.decideNew cause detail mask strict).view = s.view ∧ (s.decideNew cause detail mask strict).pace = s.pace ∧
    (s.decideNew cause detail mask strict).lnk = s.lnk ∧ (s.decideNew cause detail mask strict).ets = s.ets ∧
    (s.decideNew cause detail mask strict).pix = s.pix ∧ (s.decideNew cause detail mask strict).pdp = s.pdp ∧
    (s.decideNew cause detail mask strict).tab = s.tab ∧ (s.decideNew cause detail mask strict).pin = s.pin ∧
    (s.decideNew cause detail mask strict).hkc = s.hkc ∧ (s.decideNew cause detail mask strict).tap = s.tap ∧
    (s.decideNew cause detail mask strict).pad = s.pad ∧ (s.decideNew cause detail mask strict).nvs.mem = s.nvs.mem := by
  simp [State.decideNew]

@[simp] theorem State.decideWith_frame (s : State) (cause : Cause) (detail : Nat) (mask strict : BitVec 16) :
    (s.decideWith cause detail mask strict).pending = s.pending ∧ (s.decideWith cause detail mask strict).clk = s.clk ∧
    (s.decideWith cause detail mask strict).pwr = s.pwr ∧ (s.decideWith cause detail mask strict).wdg = s.wdg ∧
    (s.decideWith cause detail mask strict).reg = s.reg ∧ (s.decideWith cause detail mask strict).ctl = s.ctl ∧
    (s.decideWith cause detail mask strict).ev = s.ev ∧ (s.decideWith cause detail mask strict).par = s.par ∧
    (s.decideWith cause detail mask strict).role = s.role ∧ (s.decideWith cause detail mask strict).fw = s.fw ∧
    (s.decideWith cause detail mask strict).led = s.led ∧ (s.decideWith cause detail mask strict).sea = s.sea ∧
    (s.decideWith cause detail mask strict).view = s.view ∧ (s.decideWith cause detail mask strict).pace = s.pace ∧
    (s.decideWith cause detail mask strict).lnk = s.lnk ∧ (s.decideWith cause detail mask strict).ets = s.ets ∧
    (s.decideWith cause detail mask strict).pix = s.pix ∧ (s.decideWith cause detail mask strict).pdp = s.pdp ∧
    (s.decideWith cause detail mask strict).tab = s.tab ∧ (s.decideWith cause detail mask strict).pin = s.pin ∧
    (s.decideWith cause detail mask strict).hkc = s.hkc ∧ (s.decideWith cause detail mask strict).tap = s.tap ∧
    (s.decideWith cause detail mask strict).pad = s.pad ∧ (s.decideWith cause detail mask strict).nvs.mem = s.nvs.mem := by
  unfold State.decideWith; dsimp only; repeat' (first | (simp; done) | split)

@[simp] theorem State.decideReset_frame (s : State) (cause : Cause) :
    (s.decideReset cause).pending = s.pending ∧ (s.decideReset cause).clk = s.clk ∧ (s.decideReset cause).pwr = s.pwr ∧
    (s.decideReset cause).wdg = s.wdg ∧ (s.decideReset cause).reg = s.reg ∧ (s.decideReset cause).ctl = s.ctl ∧
    (s.decideReset cause).ev = s.ev ∧ (s.decideReset cause).par = s.par ∧ (s.decideReset cause).role = s.role ∧
    (s.decideReset cause).fw = s.fw ∧ (s.decideReset cause).led = s.led ∧ (s.decideReset cause).sea = s.sea ∧
    (s.decideReset cause).view = s.view ∧ (s.decideReset cause).pace = s.pace ∧ (s.decideReset cause).lnk = s.lnk ∧
    (s.decideReset cause).ets = s.ets ∧ (s.decideReset cause).pix = s.pix ∧ (s.decideReset cause).pdp = s.pdp ∧
    (s.decideReset cause).tab = s.tab ∧ (s.decideReset cause).pin = s.pin ∧ (s.decideReset cause).hkc = s.hkc ∧
    (s.decideReset cause).tap = s.tap ∧ (s.decideReset cause).pad = s.pad ∧ (s.decideReset cause).nvs.mem = s.nvs.mem := by
  simp [State.decideReset]

@[simp] theorem State.writeRecord_frame (s : State) (h : RecordHead) :
    (s.writeRecord h).pending = s.pending ∧ (s.writeRecord h).free = s.free ∧ (s.writeRecord h).clk = s.clk ∧
    (s.writeRecord h).pwr = s.pwr ∧ (s.writeRecord h).wdg = s.wdg ∧ (s.writeRecord h).reg = s.reg ∧
    (s.writeRecord h).ctl = s.ctl ∧ (s.writeRecord h).ev = s.ev ∧ (s.writeRecord h).par = s.par ∧
    (s.writeRecord h).fus = s.fus ∧ (s.writeRecord h).role = s.role ∧ (s.writeRecord h).fw = s.fw ∧
    (s.writeRecord h).led = s.led ∧ (s.writeRecord h).sea = s.sea ∧ (s.writeRecord h).view = s.view ∧
    (s.writeRecord h).pace = s.pace ∧ (s.writeRecord h).lnk = s.lnk ∧ (s.writeRecord h).ets = s.ets ∧
    (s.writeRecord h).pix = s.pix ∧ (s.writeRecord h).pdp = s.pdp ∧ (s.writeRecord h).tab = s.tab ∧
    (s.writeRecord h).pin = s.pin ∧ (s.writeRecord h).hkc = s.hkc ∧ (s.writeRecord h).tap = s.tap ∧
    (s.writeRecord h).pad = s.pad := by
  simp [State.writeRecord]

@[simp] theorem State.ignoreWdg_frame (s : State) :
    s.ignoreWdg.pending = s.pending ∧ s.ignoreWdg.free = s.free ∧ s.ignoreWdg.clk = s.clk ∧ s.ignoreWdg.pwr = s.pwr ∧
    s.ignoreWdg.rst = s.rst ∧ s.ignoreWdg.reg = s.reg ∧ s.ignoreWdg.ctl = s.ctl ∧ s.ignoreWdg.ev = s.ev ∧
    s.ignoreWdg.par = s.par ∧ s.ignoreWdg.fus = s.fus ∧ s.ignoreWdg.role = s.role ∧ s.ignoreWdg.fw = s.fw ∧
    s.ignoreWdg.nvs = s.nvs ∧ s.ignoreWdg.led = s.led ∧ s.ignoreWdg.sea = s.sea ∧ s.ignoreWdg.view = s.view ∧
    s.ignoreWdg.pace = s.pace ∧ s.ignoreWdg.lnk = s.lnk ∧ s.ignoreWdg.ets = s.ets ∧ s.ignoreWdg.pix = s.pix ∧
    s.ignoreWdg.pdp = s.pdp ∧ s.ignoreWdg.tab = s.tab ∧ s.ignoreWdg.pin = s.pin ∧ s.ignoreWdg.hkc = s.hkc ∧
    s.ignoreWdg.tap = s.tap ∧ s.ignoreWdg.pad = s.pad := by
  simp [State.ignoreWdg]

@[simp] theorem State.register_frame (s : State) (slot : Nat) (strict : Bool) (us : Nat) :
    (s.register slot strict us).pending = s.pending ∧ (s.register slot strict us).free = s.free ∧
    (s.register slot strict us).clk = s.clk ∧ (s.register slot strict us).pwr = s.pwr ∧
    (s.register slot strict us).rst = s.rst ∧ (s.register slot strict us).reg = s.reg ∧
    (s.register slot strict us).ctl = s.ctl ∧ (s.register slot strict us).ev = s.ev ∧ (s.register slot strict us).par = s.par ∧
    (s.register slot strict us).fus = s.fus ∧ (s.register slot strict us).role = s.role ∧
    (s.register slot strict us).fw = s.fw ∧ (s.register slot strict us).nvs = s.nvs ∧ (s.register slot strict us).led = s.led ∧
    (s.register slot strict us).sea = s.sea ∧ (s.register slot strict us).view = s.view ∧
    (s.register slot strict us).pace = s.pace ∧ (s.register slot strict us).lnk = s.lnk ∧
    (s.register slot strict us).ets = s.ets ∧ (s.register slot strict us).pix = s.pix ∧
    (s.register slot strict us).pdp = s.pdp ∧ (s.register slot strict us).tab = s.tab ∧
    (s.register slot strict us).pin = s.pin ∧ (s.register slot strict us).hkc = s.hkc ∧
    (s.register slot strict us).tap = s.tap ∧ (s.register slot strict us).pad = s.pad := by
  simp [State.register]

@[simp] theorem State.writeWdgRegister_frame (s : State) (v : Nat) :
    (s.writeWdgRegister v).pending = s.pending ∧ (s.writeWdgRegister v).free = s.free ∧ (s.writeWdgRegister v).clk = s.clk ∧
    (s.writeWdgRegister v).pwr = s.pwr ∧ (s.writeWdgRegister v).rst = s.rst ∧ (s.writeWdgRegister v).reg = s.reg ∧
    (s.writeWdgRegister v).ctl = s.ctl ∧ (s.writeWdgRegister v).ev = s.ev ∧ (s.writeWdgRegister v).par = s.par ∧
    (s.writeWdgRegister v).fus = s.fus ∧ (s.writeWdgRegister v).role = s.role ∧ (s.writeWdgRegister v).fw = s.fw ∧
    (s.writeWdgRegister v).nvs = s.nvs ∧ (s.writeWdgRegister v).led = s.led ∧ (s.writeWdgRegister v).sea = s.sea ∧
    (s.writeWdgRegister v).view = s.view ∧ (s.writeWdgRegister v).pace = s.pace ∧ (s.writeWdgRegister v).lnk = s.lnk ∧
    (s.writeWdgRegister v).ets = s.ets ∧ (s.writeWdgRegister v).pix = s.pix ∧ (s.writeWdgRegister v).pdp = s.pdp ∧
    (s.writeWdgRegister v).tab = s.tab ∧ (s.writeWdgRegister v).pin = s.pin ∧ (s.writeWdgRegister v).hkc = s.hkc ∧
    (s.writeWdgRegister v).tap = s.tap ∧ (s.writeWdgRegister v).pad = s.pad := by
  simp [State.writeWdgRegister]

@[simp] theorem State.checkIn_frame (s : State) (slot : Nat) (w : WdgSlot) :
    (s.checkIn slot w).pending = s.pending ∧ (s.checkIn slot w).clk = s.clk ∧ (s.checkIn slot w).pwr = s.pwr ∧
    (s.checkIn slot w).ctl = s.ctl ∧ (s.checkIn slot w).par = s.par ∧ (s.checkIn slot w).role = s.role ∧
    (s.checkIn slot w).fw = s.fw ∧ (s.checkIn slot w).led = s.led ∧ (s.checkIn slot w).sea = s.sea ∧
    (s.checkIn slot w).view = s.view ∧ (s.checkIn slot w).pace = s.pace ∧ (s.checkIn slot w).ets = s.ets ∧
    (s.checkIn slot w).pix = s.pix ∧ (s.checkIn slot w).pdp = s.pdp ∧ (s.checkIn slot w).tab = s.tab ∧
    (s.checkIn slot w).pin = s.pin ∧ (s.checkIn slot w).hkc = s.hkc ∧ (s.checkIn slot w).tap = s.tap ∧
    (s.checkIn slot w).pad = s.pad ∧ (s.checkIn slot w).nvs.mem = s.nvs.mem := by
  unfold State.checkIn; dsimp only; repeat' (first | (simp; done) | split)

@[simp] theorem State.writeWdgCheckin_frame (s : State) (v : Nat) :
    (s.writeWdgCheckin v).pending = s.pending ∧ (s.writeWdgCheckin v).clk = s.clk ∧ (s.writeWdgCheckin v).pwr = s.pwr ∧
    (s.writeWdgCheckin v).ctl = s.ctl ∧ (s.writeWdgCheckin v).par = s.par ∧ (s.writeWdgCheckin v).role = s.role ∧
    (s.writeWdgCheckin v).fw = s.fw ∧ (s.writeWdgCheckin v).led = s.led ∧ (s.writeWdgCheckin v).sea = s.sea ∧
    (s.writeWdgCheckin v).view = s.view ∧ (s.writeWdgCheckin v).pace = s.pace ∧ (s.writeWdgCheckin v).ets = s.ets ∧
    (s.writeWdgCheckin v).pix = s.pix ∧ (s.writeWdgCheckin v).pdp = s.pdp ∧ (s.writeWdgCheckin v).tab = s.tab ∧
    (s.writeWdgCheckin v).pin = s.pin ∧ (s.writeWdgCheckin v).hkc = s.hkc ∧ (s.writeWdgCheckin v).tap = s.tap ∧
    (s.writeWdgCheckin v).pad = s.pad ∧ (s.writeWdgCheckin v).nvs.mem = s.nvs.mem := by
  unfold State.writeWdgCheckin; split <;> simp

@[simp] theorem State.windowExpired_frame (s : State) (slot : Nat) (w : WdgSlot) :
    (s.windowExpired slot w).pending = s.pending ∧ (s.windowExpired slot w).clk = s.clk ∧
    (s.windowExpired slot w).pwr = s.pwr ∧ (s.windowExpired slot w).reg = s.reg ∧ (s.windowExpired slot w).ctl = s.ctl ∧
    (s.windowExpired slot w).ev = s.ev ∧ (s.windowExpired slot w).par = s.par ∧ (s.windowExpired slot w).role = s.role ∧
    (s.windowExpired slot w).fw = s.fw ∧ (s.windowExpired slot w).led = s.led ∧ (s.windowExpired slot w).sea = s.sea ∧
    (s.windowExpired slot w).view = s.view ∧ (s.windowExpired slot w).pace = s.pace ∧ (s.windowExpired slot w).lnk = s.lnk ∧
    (s.windowExpired slot w).ets = s.ets ∧ (s.windowExpired slot w).pix = s.pix ∧ (s.windowExpired slot w).pdp = s.pdp ∧
    (s.windowExpired slot w).tab = s.tab ∧ (s.windowExpired slot w).pin = s.pin ∧ (s.windowExpired slot w).hkc = s.hkc ∧
    (s.windowExpired slot w).tap = s.tap ∧ (s.windowExpired slot w).pad = s.pad ∧ (s.windowExpired slot w).nvs.mem = s.nvs.mem
        := by
  simp [State.windowExpired]

@[simp] theorem State.stopEngines_frame (s : State) (l : List Nat) :
    (s.stopEngines l).pending = s.pending ∧ (s.stopEngines l).free = s.free ∧ (s.stopEngines l).clk = s.clk ∧
    (s.stopEngines l).pwr = s.pwr ∧ (s.stopEngines l).rst = s.rst ∧ (s.stopEngines l).wdg = s.wdg ∧
    (s.stopEngines l).reg = s.reg ∧ (s.stopEngines l).ctl = s.ctl ∧ (s.stopEngines l).ev = s.ev ∧
    (s.stopEngines l).par = s.par ∧ (s.stopEngines l).fus = s.fus ∧ (s.stopEngines l).role = s.role ∧
    (s.stopEngines l).fw = s.fw ∧ (s.stopEngines l).nvs = s.nvs ∧ (s.stopEngines l).led = s.led ∧
    (s.stopEngines l).view = s.view ∧ (s.stopEngines l).pace = s.pace ∧ (s.stopEngines l).lnk = s.lnk ∧
    (s.stopEngines l).ets = s.ets ∧ (s.stopEngines l).pix = s.pix ∧ (s.stopEngines l).pdp = s.pdp ∧
    (s.stopEngines l).tab = s.tab ∧ (s.stopEngines l).pin = s.pin ∧ (s.stopEngines l).hkc = s.hkc ∧
    (s.stopEngines l).tap = s.tap ∧ (s.stopEngines l).pad = s.pad := by
  simp [State.stopEngines]

@[simp] theorem State.sealFault_frame (s : State) (m : Nat) :
    (s.sealFault m).pending = s.pending ∧ (s.sealFault m).free = s.free ∧ (s.sealFault m).clk = s.clk ∧
    (s.sealFault m).wdg = s.wdg ∧ (s.sealFault m).ctl = s.ctl ∧ (s.sealFault m).par = s.par ∧ (s.sealFault m).fus = s.fus ∧
    (s.sealFault m).role = s.role ∧ (s.sealFault m).fw = s.fw ∧ (s.sealFault m).led = s.led ∧ (s.sealFault m).view = s.view ∧
    (s.sealFault m).pace = s.pace ∧ (s.sealFault m).ets = s.ets ∧ (s.sealFault m).pix = s.pix ∧ (s.sealFault m).pdp = s.pdp ∧
    (s.sealFault m).tab = s.tab ∧ (s.sealFault m).pin = s.pin ∧ (s.sealFault m).hkc = s.hkc ∧ (s.sealFault m).tap = s.tap ∧
    (s.sealFault m).pad = s.pad ∧ (s.sealFault m).nvs.mem = s.nvs.mem := by
  unfold State.sealFault; split <;> simp

@[simp] theorem State.endCommits_frame (s : State) :
    s.endCommits.pending = s.pending ∧ s.endCommits.free = s.free ∧ s.endCommits.clk = s.clk ∧ s.endCommits.rst = s.rst ∧
    s.endCommits.reg = s.reg ∧ s.endCommits.ctl = s.ctl ∧ s.endCommits.ev = s.ev ∧ s.endCommits.par = s.par ∧
    s.endCommits.fus = s.fus ∧ s.endCommits.role = s.role ∧ s.endCommits.fw = s.fw ∧ s.endCommits.led = s.led ∧
    s.endCommits.sea = s.sea ∧ s.endCommits.view = s.view ∧ s.endCommits.pace = s.pace ∧ s.endCommits.lnk = s.lnk ∧
    s.endCommits.ets = s.ets ∧ s.endCommits.pix = s.pix ∧ s.endCommits.pdp = s.pdp ∧ s.endCommits.tab = s.tab ∧
    s.endCommits.pin = s.pin ∧ s.endCommits.hkc = s.hkc ∧ s.endCommits.tap = s.tap ∧ s.endCommits.pad = s.pad ∧
    s.endCommits.nvs.mem = s.nvs.mem := by
  unfold State.endCommits; dsimp only; repeat' (first | (simp; done) | split)

@[simp] theorem State.trip_frame (s : State) (m : Nat) :
    (s.trip m).pending = s.pending ∧ (s.trip m).clk = s.clk ∧ (s.trip m).ctl = s.ctl ∧ (s.trip m).par = s.par ∧
    (s.trip m).role = s.role ∧ (s.trip m).fw = s.fw ∧ (s.trip m).led = s.led ∧ (s.trip m).view = s.view ∧
    (s.trip m).pace = s.pace ∧ (s.trip m).ets = s.ets ∧ (s.trip m).pix = s.pix ∧ (s.trip m).pdp = s.pdp ∧
    (s.trip m).tab = s.tab ∧ (s.trip m).pin = s.pin ∧ (s.trip m).hkc = s.hkc ∧ (s.trip m).tap = s.tap ∧
    (s.trip m).pad = s.pad ∧ (s.trip m).nvs.mem = s.nvs.mem := by
  unfold State.trip; dsimp only; repeat' (first | (simp; done) | split)

@[simp] theorem State.tearOtp_frame (s : State) (torn : OtpReads) :
    (s.tearOtp torn).pending = s.pending ∧ (s.tearOtp torn).free = s.free ∧ (s.tearOtp torn).clk = s.clk ∧
    (s.tearOtp torn).pwr = s.pwr ∧ (s.tearOtp torn).rst = s.rst ∧ (s.tearOtp torn).wdg = s.wdg ∧ (s.tearOtp torn).reg = s.reg ∧
    (s.tearOtp torn).ctl = s.ctl ∧ (s.tearOtp torn).ev = s.ev ∧ (s.tearOtp torn).par = s.par ∧ (s.tearOtp torn).role = s.role ∧
    (s.tearOtp torn).fw = s.fw ∧ (s.tearOtp torn).nvs = s.nvs ∧ (s.tearOtp torn).led = s.led ∧ (s.tearOtp torn).sea = s.sea ∧
    (s.tearOtp torn).view = s.view ∧ (s.tearOtp torn).pace = s.pace ∧ (s.tearOtp torn).lnk = s.lnk ∧
    (s.tearOtp torn).ets = s.ets ∧ (s.tearOtp torn).pix = s.pix ∧ (s.tearOtp torn).pdp = s.pdp ∧ (s.tearOtp torn).tab = s.tab ∧
    (s.tearOtp torn).pin = s.pin ∧ (s.tearOtp torn).hkc = s.hkc ∧ (s.tearOtp torn).tap = s.tap ∧ (s.tearOtp torn).pad = s.pad
        := by
  unfold State.tearOtp; split <;> simp

@[simp] theorem State.releasePor_frame (s : State) :
    s.releasePor.pending = s.pending ∧ s.releasePor.free = s.free ∧ s.releasePor.rst = s.rst ∧ s.releasePor.wdg = s.wdg ∧
    s.releasePor.reg = s.reg ∧ s.releasePor.ctl = s.ctl ∧ s.releasePor.ev = s.ev ∧ s.releasePor.par = s.par ∧
    s.releasePor.fus = s.fus ∧ s.releasePor.role = s.role ∧ s.releasePor.fw = s.fw ∧ s.releasePor.nvs = s.nvs ∧
    s.releasePor.led = s.led ∧ s.releasePor.sea = s.sea ∧ s.releasePor.view = s.view ∧ s.releasePor.pace = s.pace ∧
    s.releasePor.lnk = s.lnk ∧ s.releasePor.ets = s.ets ∧ s.releasePor.pix = s.pix ∧ s.releasePor.pdp = s.pdp ∧
    s.releasePor.tab = s.tab ∧ s.releasePor.pin = s.pin ∧ s.releasePor.hkc = s.hkc ∧ s.releasePor.tap = s.tap ∧
    s.releasePor.pad = s.pad := by
  simp [State.releasePor]

@[simp] theorem State.trigger_frame (s : State) (t : Nat) :
    (s.trigger t).pending = s.pending ∧ (s.trigger t).free = s.free ∧ (s.trigger t).clk = s.clk ∧ (s.trigger t).par = s.par ∧
    (s.trigger t).role = s.role ∧ (s.trigger t).fw = s.fw ∧ (s.trigger t).led = s.led ∧ (s.trigger t).pace = s.pace ∧
    (s.trigger t).tab = s.tab ∧ (s.trigger t).tap = s.tap ∧ (s.trigger t).pad = s.pad ∧ (s.trigger t).nvs.mem = s.nvs.mem := by
  unfold State.trigger; split <;> simp

@[simp] theorem State.pfailDown_frame (s : State) :
    s.pfailDown.pending = s.pending ∧ s.pfailDown.free = s.free ∧ s.pfailDown.clk = s.clk ∧ s.pfailDown.rst = s.rst ∧
    s.pfailDown.wdg = s.wdg ∧ s.pfailDown.reg = s.reg ∧ s.pfailDown.ctl = s.ctl ∧ s.pfailDown.ev = s.ev ∧
    s.pfailDown.par = s.par ∧ s.pfailDown.fus = s.fus ∧ s.pfailDown.role = s.role ∧ s.pfailDown.fw = s.fw ∧
    s.pfailDown.nvs = s.nvs ∧ s.pfailDown.led = s.led ∧ s.pfailDown.sea = s.sea ∧ s.pfailDown.view = s.view ∧
    s.pfailDown.pace = s.pace ∧ s.pfailDown.lnk = s.lnk ∧ s.pfailDown.ets = s.ets ∧ s.pfailDown.pix = s.pix ∧
    s.pfailDown.pdp = s.pdp ∧ s.pfailDown.tab = s.tab ∧ s.pfailDown.pin = s.pin ∧ s.pfailDown.tap = s.tap ∧
    s.pfailDown.pad = s.pad := by
  simp [State.pfailDown]

@[simp] theorem State.pfailUp_frame (s : State) :
    s.pfailUp.pending = s.pending ∧ s.pfailUp.free = s.free ∧ s.pfailUp.clk = s.clk ∧ s.pfailUp.rst = s.rst ∧
    s.pfailUp.wdg = s.wdg ∧ s.pfailUp.reg = s.reg ∧ s.pfailUp.ctl = s.ctl ∧ s.pfailUp.ev = s.ev ∧ s.pfailUp.par = s.par ∧
    s.pfailUp.fus = s.fus ∧ s.pfailUp.role = s.role ∧ s.pfailUp.fw = s.fw ∧ s.pfailUp.nvs = s.nvs ∧ s.pfailUp.led = s.led ∧
    s.pfailUp.sea = s.sea ∧ s.pfailUp.view = s.view ∧ s.pfailUp.pace = s.pace ∧ s.pfailUp.lnk = s.lnk ∧ s.pfailUp.ets = s.ets ∧
    s.pfailUp.pix = s.pix ∧ s.pfailUp.pdp = s.pdp ∧ s.pfailUp.tab = s.tab ∧ s.pfailUp.pin = s.pin ∧ s.pfailUp.hkc = s.hkc ∧
    s.pfailUp.tap = s.tap ∧ s.pfailUp.pad = s.pad := by
  simp [State.pfailUp]

@[simp] theorem State.droop_frame (s : State) (rails : BitVec 4) :
    (s.droop rails).pending = s.pending ∧ (s.droop rails).free = s.free ∧ (s.droop rails).clk = s.clk ∧
    (s.droop rails).par = s.par ∧ (s.droop rails).role = s.role ∧ (s.droop rails).fw = s.fw ∧ (s.droop rails).led = s.led ∧
    (s.droop rails).pace = s.pace ∧ (s.droop rails).tab = s.tab ∧ (s.droop rails).tap = s.tap ∧ (s.droop rails).pad = s.pad ∧
    (s.droop rails).nvs.mem = s.nvs.mem := by
  simp [State.droop]

@[simp] theorem State.thermal_frame (s : State) :
    s.thermal.pending = s.pending ∧ s.thermal.free = s.free ∧ s.thermal.clk = s.clk ∧ s.thermal.par = s.par ∧
    s.thermal.role = s.role ∧ s.thermal.fw = s.fw ∧ s.thermal.led = s.led ∧ s.thermal.pace = s.pace ∧ s.thermal.tab = s.tab ∧
    s.thermal.tap = s.tap ∧ s.thermal.pad = s.pad ∧ s.thermal.nvs.mem = s.nvs.mem := by
  unfold State.thermal; dsimp only; repeat' (first | (simp; done) | split)

@[simp] theorem State.leaveHold_frame (s : State) (h : Hold) :
    (s.leaveHold h).nvs.mem = s.nvs.mem := by
  simp [State.leaveHold]

@[simp] theorem State.cooled_frame (s : State) :
    s.cooled.nvs.mem = s.nvs.mem := by
  unfold State.cooled; dsimp only; repeat' (first | (simp; done) | split)

@[simp] theorem State.askReset_frame (s : State) (cause : Cause) :
    (s.askReset cause).nvs.mem = s.nvs.mem := by
  unfold State.askReset; dsimp only; repeat' (first | (simp; done) | split)

@[simp] theorem State.rstNUp_frame (s : State) :
    s.rstNUp.pending = s.pending ∧ s.rstNUp.free = s.free ∧ s.rstNUp.clk = s.clk ∧ s.rstNUp.rst = s.rst ∧
    s.rstNUp.wdg = s.wdg ∧ s.rstNUp.reg = s.reg ∧ s.rstNUp.ctl = s.ctl ∧ s.rstNUp.ev = s.ev ∧ s.rstNUp.par = s.par ∧
    s.rstNUp.fus = s.fus ∧ s.rstNUp.role = s.role ∧ s.rstNUp.fw = s.fw ∧ s.rstNUp.nvs = s.nvs ∧ s.rstNUp.led = s.led ∧
    s.rstNUp.sea = s.sea ∧ s.rstNUp.view = s.view ∧ s.rstNUp.pace = s.pace ∧ s.rstNUp.lnk = s.lnk ∧ s.rstNUp.ets = s.ets ∧
    s.rstNUp.pix = s.pix ∧ s.rstNUp.pdp = s.pdp ∧ s.rstNUp.tab = s.tab ∧ s.rstNUp.pin = s.pin ∧ s.rstNUp.hkc = s.hkc := by
  simp [State.rstNUp]

@[simp] theorem State.enterStandby_frame (s : State) :
    s.enterStandby.pending = s.pending ∧ s.enterStandby.free = s.free ∧ s.enterStandby.rst = s.rst ∧
    s.enterStandby.wdg = s.wdg ∧ s.enterStandby.par = s.par ∧ s.enterStandby.fus = s.fus ∧ s.enterStandby.role = s.role ∧
    s.enterStandby.fw = s.fw ∧ s.enterStandby.nvs = s.nvs ∧ s.enterStandby.led = s.led ∧ s.enterStandby.sea = s.sea ∧
    s.enterStandby.view = s.view ∧ s.enterStandby.pace = s.pace ∧ s.enterStandby.ets = s.ets ∧ s.enterStandby.pdp = s.pdp ∧
    s.enterStandby.tab = s.tab ∧ s.enterStandby.tap = s.tap ∧ s.enterStandby.pad = s.pad := by
  simp [State.enterStandby]

@[simp] theorem State.wakeUp_frame (s : State) :
    s.wakeUp.pending = s.pending ∧ s.wakeUp.rst = s.rst ∧ s.wakeUp.wdg = s.wdg ∧ s.wakeUp.reg = s.reg ∧ s.wakeUp.ctl = s.ctl ∧
    s.wakeUp.ev = s.ev ∧ s.wakeUp.par = s.par ∧ s.wakeUp.fus = s.fus ∧ s.wakeUp.role = s.role ∧ s.wakeUp.fw = s.fw ∧
    s.wakeUp.nvs = s.nvs ∧ s.wakeUp.led = s.led ∧ s.wakeUp.sea = s.sea ∧ s.wakeUp.view = s.view ∧ s.wakeUp.pace = s.pace ∧
    s.wakeUp.ets = s.ets ∧ s.wakeUp.tab = s.tab ∧ s.wakeUp.tap = s.tap ∧ s.wakeUp.pad = s.pad ∧
    s.wakeUp.pin.shade = s.pin.shade := by
  simp [State.wakeUp]

@[simp] theorem State.ctlBack_frame (s : State) :
    s.ctlBack.pending = s.pending ∧ s.ctlBack.free = s.free ∧ s.ctlBack.clk = s.clk ∧ s.ctlBack.pwr = s.pwr ∧
    s.ctlBack.rst = s.rst ∧ s.ctlBack.wdg = s.wdg ∧ s.ctlBack.ev = s.ev ∧ s.ctlBack.par = s.par ∧ s.ctlBack.fus = s.fus ∧
    s.ctlBack.role = s.role ∧ s.ctlBack.fw = s.fw ∧ s.ctlBack.nvs = s.nvs ∧ s.ctlBack.led = s.led ∧ s.ctlBack.sea = s.sea ∧
    s.ctlBack.view = s.view ∧ s.ctlBack.pace = s.pace ∧ s.ctlBack.lnk = s.lnk ∧ s.ctlBack.ets = s.ets ∧ s.ctlBack.pix = s.pix ∧
    s.ctlBack.pdp = s.pdp ∧ s.ctlBack.tab = s.tab ∧ s.ctlBack.pin = s.pin ∧ s.ctlBack.hkc = s.hkc ∧ s.ctlBack.tap = s.tap ∧
    s.ctlBack.pad = s.pad := by
  simp [State.ctlBack]

@[simp] theorem State.domainUp_frame (s : State) (i : Nat) :
    (s.domainUp i).pending = s.pending ∧ (s.domainUp i).rst = s.rst ∧ (s.domainUp i).ev = s.ev ∧ (s.domainUp i).par = s.par ∧
    (s.domainUp i).fus = s.fus ∧ (s.domainUp i).role = s.role ∧ (s.domainUp i).fw = s.fw ∧ (s.domainUp i).nvs = s.nvs ∧
    (s.domainUp i).led = s.led ∧ (s.domainUp i).sea = s.sea ∧ (s.domainUp i).pace = s.pace ∧ (s.domainUp i).pix = s.pix ∧
    (s.domainUp i).pin = s.pin ∧ (s.domainUp i).hkc = s.hkc ∧ (s.domainUp i).tap = s.tap ∧ (s.domainUp i).pad = s.pad := by
  simp [State.domainUp]

@[simp] theorem State.removeLanes_frame (s : State) :
    s.removeLanes.pending = s.pending ∧ s.removeLanes.free = s.free ∧ s.removeLanes.rst = s.rst ∧ s.removeLanes.wdg = s.wdg ∧
    s.removeLanes.ctl = s.ctl ∧ s.removeLanes.par = s.par ∧ s.removeLanes.fus = s.fus ∧ s.removeLanes.role = s.role ∧
    s.removeLanes.fw = s.fw ∧ s.removeLanes.nvs = s.nvs ∧ s.removeLanes.led = s.led ∧ s.removeLanes.sea = s.sea ∧
    s.removeLanes.view = s.view ∧ s.removeLanes.pace = s.pace ∧ s.removeLanes.ets = s.ets ∧ s.removeLanes.pix = s.pix ∧
    s.removeLanes.pdp = s.pdp ∧ s.removeLanes.tab = s.tab ∧ s.removeLanes.pin = s.pin ∧ s.removeLanes.hkc = s.hkc ∧
    s.removeLanes.tap = s.tap ∧ s.removeLanes.pad = s.pad := by
  simp [State.removeLanes]

@[simp] theorem State.wedge_frame (s : State) :
    s.wedge.pending = s.pending ∧ s.wedge.free = s.free ∧ s.wedge.clk = s.clk ∧ s.wedge.rst = s.rst ∧ s.wedge.wdg = s.wdg ∧
    s.wedge.reg = s.reg ∧ s.wedge.ctl = s.ctl ∧ s.wedge.ev = s.ev ∧ s.wedge.par = s.par ∧ s.wedge.fus = s.fus ∧
    s.wedge.role = s.role ∧ s.wedge.fw = s.fw ∧ s.wedge.led = s.led ∧ s.wedge.pace = s.pace ∧ s.wedge.lnk = s.lnk ∧
    s.wedge.tab = s.tab ∧ s.wedge.pin = s.pin ∧ s.wedge.tap = s.tap ∧ s.wedge.pad = s.pad ∧ s.wedge.nvs.mem = s.nvs.mem := by
  simp [State.wedge]

@[simp] theorem State.runRecord_frame (s : State) (r : Run) :
    (s.runRecord r).pending = s.pending ∧ (s.runRecord r).free = s.free ∧ (s.runRecord r).clk = s.clk ∧
    (s.runRecord r).par = s.par ∧ (s.runRecord r).role = s.role ∧ (s.runRecord r).fw = s.fw ∧ (s.runRecord r).led = s.led ∧
    (s.runRecord r).pace = s.pace ∧ (s.runRecord r).tab = s.tab ∧ (s.runRecord r).tap = s.tap ∧ (s.runRecord r).pad = s.pad := by
  simp [State.runRecord]

@[simp] theorem State.enterHold_frame (s : State) (h : Hold) :
    (s.enterHold h).pending = s.pending ∧ (s.enterHold h).free = s.free ∧ (s.enterHold h).clk = s.clk ∧
    (s.enterHold h).wdg = s.wdg ∧ (s.enterHold h).reg = s.reg ∧ (s.enterHold h).ctl = s.ctl ∧ (s.enterHold h).ev = s.ev ∧
    (s.enterHold h).par = s.par ∧ (s.enterHold h).fus = s.fus ∧ (s.enterHold h).role = s.role ∧ (s.enterHold h).fw = s.fw ∧
    (s.enterHold h).led = s.led ∧ (s.enterHold h).sea = s.sea ∧ (s.enterHold h).view = s.view ∧ (s.enterHold h).pace = s.pace ∧
    (s.enterHold h).ets = s.ets ∧ (s.enterHold h).pix = s.pix ∧ (s.enterHold h).pdp = s.pdp ∧ (s.enterHold h).tab = s.tab ∧
    (s.enterHold h).pin = s.pin ∧ (s.enterHold h).tap = s.tap ∧ (s.enterHold h).pad = s.pad ∧
    (s.enterHold h).nvs.mem = s.nvs.mem := by
  simp [State.enterHold]

@[simp] theorem State.railLow_frame (s : State) (rail : Rail) (cut : NvsCut) (padsOff : Bool) :
    (s.railLow rail cut padsOff).pending = s.pending ∧ (s.railLow rail cut padsOff).free = s.free ∧
    (s.railLow rail cut padsOff).wdg = s.wdg ∧ (s.railLow rail cut padsOff).reg = s.reg ∧
    (s.railLow rail cut padsOff).ev = s.ev ∧ (s.railLow rail cut padsOff).fus = s.fus ∧
    (s.railLow rail cut padsOff).led = s.led ∧ (s.railLow rail cut padsOff).sea = s.sea ∧
    (s.railLow rail cut padsOff).view = s.view ∧ (s.railLow rail cut padsOff).pace = s.pace ∧
    (s.railLow rail cut padsOff).lnk = s.lnk ∧ (s.railLow rail cut padsOff).ets = s.ets ∧
    (s.railLow rail cut padsOff).pix = s.pix ∧ (s.railLow rail cut padsOff).pdp = s.pdp ∧
    (s.railLow rail cut padsOff).pin = s.pin ∧ (s.railLow rail cut padsOff).tap = s.tap ∧
    (s.railLow rail cut padsOff).pad = s.pad := by
  unfold State.railLow; dsimp only; repeat' (first | (simp; done) | split)

@[simp] theorem State.decayed_frame (s : State) (env : BootEnv) :
    (s.decayed env).pending = s.pending ∧ (s.decayed env).free = s.free ∧ (s.decayed env).wdg = s.wdg ∧
    (s.decayed env).reg = s.reg ∧ (s.decayed env).ev = s.ev ∧ (s.decayed env).fus = s.fus ∧ (s.decayed env).led = s.led ∧
    (s.decayed env).sea = s.sea ∧ (s.decayed env).view = s.view ∧ (s.decayed env).pace = s.pace ∧ (s.decayed env).lnk = s.lnk ∧
    (s.decayed env).ets = s.ets ∧ (s.decayed env).pix = s.pix ∧ (s.decayed env).pdp = s.pdp ∧ (s.decayed env).pin = s.pin ∧
    (s.decayed env).tap = s.tap ∧ (s.decayed env).pad = s.pad := by
  simp [State.decayed]

@[simp] theorem State.resolveJournal_frame (s : State) :
    s.resolveJournal.pending = s.pending ∧ s.resolveJournal.free = s.free ∧ s.resolveJournal.clk = s.clk ∧
    s.resolveJournal.rst = s.rst ∧ s.resolveJournal.wdg = s.wdg ∧ s.resolveJournal.reg = s.reg ∧ s.resolveJournal.ctl = s.ctl ∧
    s.resolveJournal.ev = s.ev ∧ s.resolveJournal.par = s.par ∧ s.resolveJournal.fus = s.fus ∧ s.resolveJournal.role = s.role ∧
    s.resolveJournal.fw = s.fw ∧ s.resolveJournal.led = s.led ∧ s.resolveJournal.sea = s.sea ∧ s.resolveJournal.view = s.view ∧
    s.resolveJournal.pace = s.pace ∧ s.resolveJournal.lnk = s.lnk ∧ s.resolveJournal.ets = s.ets ∧
    s.resolveJournal.pix = s.pix ∧ s.resolveJournal.pdp = s.pdp ∧ s.resolveJournal.tab = s.tab ∧ s.resolveJournal.pin = s.pin ∧
    s.resolveJournal.hkc = s.hkc ∧ s.resolveJournal.tap = s.tap ∧ s.resolveJournal.pad = s.pad := by
  simp [State.resolveJournal]

@[simp] theorem State.adopt_frame (s : State) :
    s.adopt.pending = s.pending ∧ s.adopt.free = s.free ∧ s.adopt.clk = s.clk ∧ s.adopt.rst = s.rst ∧ s.adopt.wdg = s.wdg ∧
    s.adopt.reg = s.reg ∧ s.adopt.ctl = s.ctl ∧ s.adopt.ev = s.ev ∧ s.adopt.par = s.par ∧ s.adopt.fus = s.fus ∧
    s.adopt.role = s.role ∧ s.adopt.fw = s.fw ∧ s.adopt.sea = s.sea ∧ s.adopt.view = s.view ∧ s.adopt.pace = s.pace ∧
    s.adopt.lnk = s.lnk ∧ s.adopt.ets = s.ets ∧ s.adopt.pix = s.pix ∧ s.adopt.pdp = s.pdp ∧ s.adopt.tab = s.tab ∧
    s.adopt.pin = s.pin ∧ s.adopt.hkc = s.hkc ∧ s.adopt.tap = s.tap ∧ s.adopt.pad = s.pad := by
  simp [State.adopt]

@[simp] theorem State.countCrc_frame (s : State) (n : Nat) :
    (s.countCrc n).pending = s.pending ∧ (s.countCrc n).free = s.free ∧ (s.countCrc n).clk = s.clk ∧
    (s.countCrc n).pwr = s.pwr ∧ (s.countCrc n).rst = s.rst ∧ (s.countCrc n).wdg = s.wdg ∧ (s.countCrc n).reg = s.reg ∧
    (s.countCrc n).ctl = s.ctl ∧ (s.countCrc n).ev = s.ev ∧ (s.countCrc n).par = s.par ∧ (s.countCrc n).fus = s.fus ∧
    (s.countCrc n).role = s.role ∧ (s.countCrc n).fw = s.fw ∧ (s.countCrc n).led = s.led ∧ (s.countCrc n).sea = s.sea ∧
    (s.countCrc n).view = s.view ∧ (s.countCrc n).pace = s.pace ∧ (s.countCrc n).lnk = s.lnk ∧ (s.countCrc n).ets = s.ets ∧
    (s.countCrc n).pix = s.pix ∧ (s.countCrc n).pdp = s.pdp ∧ (s.countCrc n).tab = s.tab ∧ (s.countCrc n).pin = s.pin ∧
    (s.countCrc n).hkc = s.hkc ∧ (s.countCrc n).tap = s.tap ∧ (s.countCrc n).pad = s.pad ∧ (s.countCrc n).nvs.mem = s.nvs.mem
        := by
  unfold State.countCrc; split <;> simp

@[simp] theorem State.recoverAnchored_frame (s : State) :
    s.recoverAnchored.pending = s.pending ∧ s.recoverAnchored.free = s.free ∧ s.recoverAnchored.clk = s.clk ∧
    s.recoverAnchored.rst = s.rst ∧ s.recoverAnchored.wdg = s.wdg ∧ s.recoverAnchored.reg = s.reg ∧
    s.recoverAnchored.ctl = s.ctl ∧ s.recoverAnchored.ev = s.ev ∧ s.recoverAnchored.par = s.par ∧
    s.recoverAnchored.fus = s.fus ∧ s.recoverAnchored.role = s.role ∧ s.recoverAnchored.fw = s.fw ∧
    s.recoverAnchored.sea = s.sea ∧ s.recoverAnchored.view = s.view ∧ s.recoverAnchored.pace = s.pace ∧
    s.recoverAnchored.lnk = s.lnk ∧ s.recoverAnchored.ets = s.ets ∧ s.recoverAnchored.pix = s.pix ∧
    s.recoverAnchored.pdp = s.pdp ∧ s.recoverAnchored.tab = s.tab ∧ s.recoverAnchored.pin = s.pin ∧
    s.recoverAnchored.hkc = s.hkc ∧ s.recoverAnchored.tap = s.tap ∧ s.recoverAnchored.pad = s.pad := by
  simp [State.recoverAnchored]

@[simp] theorem State.recoverLedger_frame (s : State) :
    s.recoverLedger.pending = s.pending ∧ s.recoverLedger.free = s.free ∧ s.recoverLedger.clk = s.clk ∧
    s.recoverLedger.rst = s.rst ∧ s.recoverLedger.wdg = s.wdg ∧ s.recoverLedger.reg = s.reg ∧ s.recoverLedger.ctl = s.ctl ∧
    s.recoverLedger.ev = s.ev ∧ s.recoverLedger.par = s.par ∧ s.recoverLedger.fus = s.fus ∧ s.recoverLedger.role = s.role ∧
    s.recoverLedger.fw = s.fw ∧ s.recoverLedger.sea = s.sea ∧ s.recoverLedger.view = s.view ∧ s.recoverLedger.pace = s.pace ∧
    s.recoverLedger.lnk = s.lnk ∧ s.recoverLedger.ets = s.ets ∧ s.recoverLedger.pix = s.pix ∧ s.recoverLedger.pdp = s.pdp ∧
    s.recoverLedger.tab = s.tab ∧ s.recoverLedger.pin = s.pin ∧ s.recoverLedger.hkc = s.hkc ∧ s.recoverLedger.tap = s.tap ∧
    s.recoverLedger.pad = s.pad := by
  unfold State.recoverLedger; dsimp only; repeat' (first | (simp; done) | split)

@[simp] theorem State.latchFuses_frame (s : State) :
    s.latchFuses.pending = s.pending ∧ s.latchFuses.free = s.free ∧ s.latchFuses.clk = s.clk ∧ s.latchFuses.pwr = s.pwr ∧
    s.latchFuses.rst = s.rst ∧ s.latchFuses.reg = s.reg ∧ s.latchFuses.ctl = s.ctl ∧ s.latchFuses.ev = s.ev ∧
    s.latchFuses.par = s.par ∧ s.latchFuses.role = s.role ∧ s.latchFuses.fw = s.fw ∧ s.latchFuses.nvs = s.nvs ∧
    s.latchFuses.led = s.led ∧ s.latchFuses.sea = s.sea ∧ s.latchFuses.view = s.view ∧ s.latchFuses.pace = s.pace ∧
    s.latchFuses.lnk = s.lnk ∧ s.latchFuses.ets = s.ets ∧ s.latchFuses.pix = s.pix ∧ s.latchFuses.pdp = s.pdp ∧
    s.latchFuses.tab = s.tab ∧ s.latchFuses.pin = s.pin ∧ s.latchFuses.hkc = s.hkc ∧ s.latchFuses.tap = s.tap ∧
    s.latchFuses.pad = s.pad := by
  simp [State.latchFuses]

@[simp] theorem State.retireUnits_frame (s : State) :
    s.retireUnits.pending = s.pending ∧ s.retireUnits.free = s.free ∧ s.retireUnits.clk = s.clk ∧ s.retireUnits.pwr = s.pwr ∧
    s.retireUnits.rst = s.rst ∧ s.retireUnits.wdg = s.wdg ∧ s.retireUnits.reg = s.reg ∧ s.retireUnits.ctl = s.ctl ∧
    s.retireUnits.ev = s.ev ∧ s.retireUnits.par = s.par ∧ s.retireUnits.role = s.role ∧ s.retireUnits.fw = s.fw ∧
    s.retireUnits.nvs = s.nvs ∧ s.retireUnits.led = s.led ∧ s.retireUnits.sea = s.sea ∧ s.retireUnits.view = s.view ∧
    s.retireUnits.pace = s.pace ∧ s.retireUnits.lnk = s.lnk ∧ s.retireUnits.ets = s.ets ∧ s.retireUnits.pix = s.pix ∧
    s.retireUnits.pdp = s.pdp ∧ s.retireUnits.tab = s.tab ∧ s.retireUnits.pin = s.pin ∧ s.retireUnits.hkc = s.hkc ∧
    s.retireUnits.tap = s.tap ∧ s.retireUnits.pad = s.pad := by
  simp [State.retireUnits]

@[simp] theorem State.reportWeak_frame (s : State) :
    s.reportWeak.pending = s.pending ∧ s.reportWeak.free = s.free ∧ s.reportWeak.clk = s.clk ∧ s.reportWeak.pwr = s.pwr ∧
    s.reportWeak.rst = s.rst ∧ s.reportWeak.wdg = s.wdg ∧ s.reportWeak.ctl = s.ctl ∧ s.reportWeak.par = s.par ∧
    s.reportWeak.fus = s.fus ∧ s.reportWeak.role = s.role ∧ s.reportWeak.fw = s.fw ∧ s.reportWeak.nvs = s.nvs ∧
    s.reportWeak.led = s.led ∧ s.reportWeak.sea = s.sea ∧ s.reportWeak.view = s.view ∧ s.reportWeak.pace = s.pace ∧
    s.reportWeak.ets = s.ets ∧ s.reportWeak.pix = s.pix ∧ s.reportWeak.pdp = s.pdp ∧ s.reportWeak.tab = s.tab ∧
    s.reportWeak.pin = s.pin ∧ s.reportWeak.hkc = s.hkc ∧ s.reportWeak.tap = s.tap ∧ s.reportWeak.pad = s.pad := by
  simp [State.reportWeak]

@[simp] theorem State.selfTests_frame (s : State) (env : BootEnv) :
    (s.selfTests env).pending = s.pending ∧ (s.selfTests env).free = s.free ∧ (s.selfTests env).clk = s.clk ∧
    (s.selfTests env).rst = s.rst ∧ (s.selfTests env).wdg = s.wdg ∧ (s.selfTests env).ctl = s.ctl ∧
    (s.selfTests env).par = s.par ∧ (s.selfTests env).fus = s.fus ∧ (s.selfTests env).role = s.role ∧
    (s.selfTests env).fw = s.fw ∧ (s.selfTests env).led = s.led ∧ (s.selfTests env).pace = s.pace ∧
    (s.selfTests env).ets = s.ets ∧ (s.selfTests env).pix = s.pix ∧ (s.selfTests env).pdp = s.pdp ∧
    (s.selfTests env).tab = s.tab ∧ (s.selfTests env).pin = s.pin ∧ (s.selfTests env).hkc = s.hkc ∧
    (s.selfTests env).tap = s.tap ∧ (s.selfTests env).pad = s.pad ∧ (s.selfTests env).nvs.mem = s.nvs.mem := by
  unfold State.selfTests; dsimp only; repeat' (first | (simp; done) | split)

@[simp] theorem State.restoreRoles_frame (s : State) :
    s.restoreRoles.pending = s.pending ∧ s.restoreRoles.free = s.free ∧ s.restoreRoles.clk = s.clk ∧
    s.restoreRoles.pwr = s.pwr ∧ s.restoreRoles.rst = s.rst ∧ s.restoreRoles.wdg = s.wdg ∧ s.restoreRoles.reg = s.reg ∧
    s.restoreRoles.ctl = s.ctl ∧ s.restoreRoles.ev = s.ev ∧ s.restoreRoles.par = s.par ∧ s.restoreRoles.fus = s.fus ∧
    s.restoreRoles.fw = s.fw ∧ s.restoreRoles.nvs = s.nvs ∧ s.restoreRoles.led = s.led ∧ s.restoreRoles.sea = s.sea ∧
    s.restoreRoles.view = s.view ∧ s.restoreRoles.pace = s.pace ∧ s.restoreRoles.lnk = s.lnk ∧ s.restoreRoles.ets = s.ets ∧
    s.restoreRoles.pix = s.pix ∧ s.restoreRoles.pdp = s.pdp ∧ s.restoreRoles.tab = s.tab ∧ s.restoreRoles.pin = s.pin ∧
    s.restoreRoles.hkc = s.hkc ∧ s.restoreRoles.tap = s.tap ∧ s.restoreRoles.pad = s.pad := by
  simp [State.restoreRoles]

@[simp] theorem State.restoreParams_frame (s : State) :
    s.restoreParams.pending = s.pending ∧ s.restoreParams.free = s.free ∧ s.restoreParams.clk = s.clk ∧
    s.restoreParams.pwr = s.pwr ∧ s.restoreParams.rst = s.rst ∧ s.restoreParams.wdg = s.wdg ∧ s.restoreParams.reg = s.reg ∧
    s.restoreParams.ev = s.ev ∧ s.restoreParams.fus = s.fus ∧ s.restoreParams.role = s.role ∧ s.restoreParams.fw = s.fw ∧
    s.restoreParams.nvs = s.nvs ∧ s.restoreParams.led = s.led ∧ s.restoreParams.sea = s.sea ∧ s.restoreParams.view = s.view ∧
    s.restoreParams.lnk = s.lnk ∧ s.restoreParams.ets = s.ets ∧ s.restoreParams.pix = s.pix ∧ s.restoreParams.pdp = s.pdp ∧
    s.restoreParams.tab = s.tab ∧ s.restoreParams.pin = s.pin ∧ s.restoreParams.hkc = s.hkc ∧ s.restoreParams.tap = s.tap ∧
    s.restoreParams.pad = s.pad := by
  simp [State.restoreParams]

@[simp] theorem State.checkUpdate_frame (s : State) :
    s.checkUpdate.pending = s.pending ∧ s.checkUpdate.free = s.free ∧ s.checkUpdate.clk = s.clk ∧ s.checkUpdate.rst = s.rst ∧
    s.checkUpdate.wdg = s.wdg ∧ s.checkUpdate.reg = s.reg ∧ s.checkUpdate.ctl = s.ctl ∧ s.checkUpdate.ev = s.ev ∧
    s.checkUpdate.par = s.par ∧ s.checkUpdate.fus = s.fus ∧ s.checkUpdate.role = s.role ∧ s.checkUpdate.nvs = s.nvs ∧
    s.checkUpdate.led = s.led ∧ s.checkUpdate.sea = s.sea ∧ s.checkUpdate.view = s.view ∧ s.checkUpdate.pace = s.pace ∧
    s.checkUpdate.lnk = s.lnk ∧ s.checkUpdate.ets = s.ets ∧ s.checkUpdate.pix = s.pix ∧ s.checkUpdate.pdp = s.pdp ∧
    s.checkUpdate.tab = s.tab ∧ s.checkUpdate.pin = s.pin ∧ s.checkUpdate.hkc = s.hkc ∧ s.checkUpdate.tap = s.tap ∧
    s.checkUpdate.pad = s.pad := by
  simp [State.checkUpdate]

@[simp] theorem State.resolveTransition_frame (s : State) :
    s.resolveTransition.1.pending = s.pending ∧ s.resolveTransition.1.free = s.free ∧ s.resolveTransition.1.clk = s.clk ∧
    s.resolveTransition.1.reg = s.reg ∧ s.resolveTransition.1.ctl = s.ctl ∧ s.resolveTransition.1.ev = s.ev ∧
    s.resolveTransition.1.par = s.par ∧ s.resolveTransition.1.fus = s.fus ∧ s.resolveTransition.1.role = s.role ∧
    s.resolveTransition.1.fw = s.fw ∧ s.resolveTransition.1.pace = s.pace ∧ s.resolveTransition.1.ets = s.ets ∧
    s.resolveTransition.1.pix = s.pix ∧ s.resolveTransition.1.pdp = s.pdp ∧ s.resolveTransition.1.tab = s.tab ∧
    s.resolveTransition.1.pin = s.pin ∧ s.resolveTransition.1.hkc = s.hkc ∧ s.resolveTransition.1.tap = s.tap ∧
    s.resolveTransition.1.pad = s.pad := by
  unfold State.resolveTransition; repeat' (first | (simp [State.reopened]; done) | split)

@[simp] theorem State.reportRun_frame (s : State) :
    s.reportRun.pending = s.pending ∧ s.reportRun.free = s.free ∧ s.reportRun.clk = s.clk ∧ s.reportRun.rst = s.rst ∧
    s.reportRun.wdg = s.wdg ∧ s.reportRun.ctl = s.ctl ∧ s.reportRun.par = s.par ∧ s.reportRun.fus = s.fus ∧
    s.reportRun.role = s.role ∧ s.reportRun.fw = s.fw ∧ s.reportRun.nvs = s.nvs ∧ s.reportRun.led = s.led ∧
    s.reportRun.sea = s.sea ∧ s.reportRun.view = s.view ∧ s.reportRun.pace = s.pace ∧ s.reportRun.ets = s.ets ∧
    s.reportRun.pix = s.pix ∧ s.reportRun.pdp = s.pdp ∧ s.reportRun.tab = s.tab ∧ s.reportRun.pin = s.pin ∧
    s.reportRun.hkc = s.hkc ∧ s.reportRun.tap = s.tap ∧ s.reportRun.pad = s.pad := by
  unfold State.reportRun; split <;> simp

@[simp] theorem State.sendAdopted_frame (s : State) (q : Word) :
    (s.sendAdopted q).pending = s.pending ∧ (s.sendAdopted q).free = s.free ∧ (s.sendAdopted q).clk = s.clk ∧
    (s.sendAdopted q).rst = s.rst ∧ (s.sendAdopted q).wdg = s.wdg ∧ (s.sendAdopted q).reg = s.reg ∧
    (s.sendAdopted q).ctl = s.ctl ∧ (s.sendAdopted q).ev = s.ev ∧ (s.sendAdopted q).par = s.par ∧
    (s.sendAdopted q).fus = s.fus ∧ (s.sendAdopted q).role = s.role ∧ (s.sendAdopted q).fw = s.fw ∧
    (s.sendAdopted q).nvs = s.nvs ∧ (s.sendAdopted q).led = s.led ∧ (s.sendAdopted q).pace = s.pace ∧
    (s.sendAdopted q).ets = s.ets ∧ (s.sendAdopted q).pix = s.pix ∧ (s.sendAdopted q).pdp = s.pdp ∧
    (s.sendAdopted q).tab = s.tab ∧ (s.sendAdopted q).pin = s.pin ∧ (s.sendAdopted q).hkc = s.hkc ∧
    (s.sendAdopted q).tap = s.tap ∧ (s.sendAdopted q).pad = s.pad := by
  simp [State.sendAdopted]

@[simp] theorem State.openEntries_frame (s : State) (flags : Nat) :
    (s.openEntries flags).pending = s.pending ∧ (s.openEntries flags).free = s.free ∧ (s.openEntries flags).clk = s.clk ∧
    (s.openEntries flags).ctl = s.ctl ∧ (s.openEntries flags).par = s.par ∧ (s.openEntries flags).fus = s.fus ∧
    (s.openEntries flags).role = s.role ∧ (s.openEntries flags).fw = s.fw ∧ (s.openEntries flags).pace = s.pace ∧
    (s.openEntries flags).ets = s.ets ∧ (s.openEntries flags).pix = s.pix ∧ (s.openEntries flags).pdp = s.pdp ∧
    (s.openEntries flags).tab = s.tab ∧ (s.openEntries flags).pin = s.pin ∧ (s.openEntries flags).hkc = s.hkc ∧
    (s.openEntries flags).tap = s.tap ∧ (s.openEntries flags).pad = s.pad := by
  simp [State.openEntries]

@[simp] theorem State.bootPower_frame (s : State) :
    s.bootPower.pending = s.pending ∧ s.bootPower.free = s.free ∧ s.bootPower.clk = s.clk ∧ s.bootPower.reg = s.reg ∧
    s.bootPower.ctl = s.ctl ∧ s.bootPower.ev = s.ev ∧ s.bootPower.par = s.par ∧ s.bootPower.fus = s.fus ∧
    s.bootPower.role = s.role ∧ s.bootPower.fw = s.fw ∧ s.bootPower.nvs = s.nvs ∧ s.bootPower.led = s.led ∧
    s.bootPower.view = s.view ∧ s.bootPower.pace = s.pace ∧ s.bootPower.lnk = s.lnk ∧ s.bootPower.pix = s.pix ∧
    s.bootPower.pdp = s.pdp ∧ s.bootPower.tab = s.tab ∧ s.bootPower.pin = s.pin ∧ s.bootPower.hkc = s.hkc ∧
    s.bootPower.tap = s.tap ∧ s.bootPower.pad = s.pad := by
  simp [State.bootPower]

@[simp] theorem State.bootRestore_frame (s : State) :
    s.bootRestore.pending = s.pending ∧ s.bootRestore.free = s.free ∧ s.bootRestore.clk = s.clk ∧ s.bootRestore.rst = s.rst ∧
    s.bootRestore.wdg = s.wdg ∧ s.bootRestore.reg = s.reg ∧ s.bootRestore.ev = s.ev ∧ s.bootRestore.fus = s.fus ∧
    s.bootRestore.nvs = s.nvs ∧ s.bootRestore.led = s.led ∧ s.bootRestore.sea = s.sea ∧ s.bootRestore.view = s.view ∧
    s.bootRestore.lnk = s.lnk ∧ s.bootRestore.ets = s.ets ∧ s.bootRestore.pix = s.pix ∧ s.bootRestore.pdp = s.pdp ∧
    s.bootRestore.pin = s.pin ∧ s.bootRestore.hkc = s.hkc ∧ s.bootRestore.tap = s.tap ∧ s.bootRestore.pad = s.pad := by
  simp [State.bootRestore]

@[simp] theorem State.bootLedger_frame (s : State) :
    s.bootLedger.pending = s.pending ∧ s.bootLedger.free = s.free ∧ s.bootLedger.clk = s.clk ∧ s.bootLedger.ctl = s.ctl ∧
    s.bootLedger.par = s.par ∧ s.bootLedger.fus = s.fus ∧ s.bootLedger.role = s.role ∧ s.bootLedger.fw = s.fw ∧
    s.bootLedger.pace = s.pace ∧ s.bootLedger.ets = s.ets ∧ s.bootLedger.pix = s.pix ∧ s.bootLedger.pdp = s.pdp ∧
    s.bootLedger.tab = s.tab ∧ s.bootLedger.pin = s.pin ∧ s.bootLedger.hkc = s.hkc ∧ s.bootLedger.tap = s.tap ∧
    s.bootLedger.pad = s.pad := by
  unfold State.bootLedger; dsimp only; cases s.pwr.adopted <;> simp

@[simp] theorem State.bootEnd_frame (s : State) :
    s.bootEnd.pending = s.pending ∧ s.bootEnd.rst = s.rst ∧ s.bootEnd.wdg = s.wdg ∧ s.bootEnd.ev = s.ev ∧
    s.bootEnd.par = s.par ∧ s.bootEnd.role = s.role ∧ s.bootEnd.nvs = s.nvs ∧ s.bootEnd.led = s.led ∧ s.bootEnd.sea = s.sea ∧
    s.bootEnd.view = s.view ∧ s.bootEnd.pace = s.pace ∧ s.bootEnd.tab = s.tab ∧ s.bootEnd.tap = s.tap ∧ s.bootEnd.pad = s.pad ∧
    s.bootEnd.pin.shade = s.pin.shade := by
  simp [State.bootEnd]

@[simp] theorem State.genesis_frame (s : State) :
    s.genesis.pending = s.pending ∧ s.genesis.free = s.free ∧ s.genesis.clk = s.clk ∧ s.genesis.pwr = s.pwr ∧
    s.genesis.rst = s.rst ∧ s.genesis.wdg = s.wdg ∧ s.genesis.reg = s.reg ∧ s.genesis.ctl = s.ctl ∧ s.genesis.ev = s.ev ∧
    s.genesis.par = s.par ∧ s.genesis.fus = s.fus ∧ s.genesis.role = s.role ∧ s.genesis.fw = s.fw ∧ s.genesis.nvs = s.nvs ∧
    s.genesis.sea = s.sea ∧ s.genesis.view = s.view ∧ s.genesis.pace = s.pace ∧ s.genesis.lnk = s.lnk ∧ s.genesis.ets = s.ets ∧
    s.genesis.pix = s.pix ∧ s.genesis.pdp = s.pdp ∧ s.genesis.tab = s.tab ∧ s.genesis.pin = s.pin ∧ s.genesis.hkc = s.hkc ∧
    s.genesis.tap = s.tap ∧ s.genesis.pad = s.pad := by
  simp [State.genesis]

@[simp] theorem State.stageWork_frame (s : State) (env : BootEnv) (y : Nat) :
    (s.stageWork env y).pending = s.pending ∧ (s.stageWork env y).free = s.free ∧ (s.stageWork env y).pix = s.pix ∧
    (s.stageWork env y).pdp = s.pdp ∧ (s.stageWork env y).pin = s.pin ∧ (s.stageWork env y).tap = s.tap ∧
    (s.stageWork env y).pad = s.pad := by
  unfold State.stageWork; split <;> simp

@[simp] theorem State.romWatchdog_frame (s : State) :
    s.romWatchdog.pending = s.pending ∧ s.romWatchdog.free = s.free ∧ s.romWatchdog.clk = s.clk ∧ s.romWatchdog.pwr = s.pwr ∧
    s.romWatchdog.rst = s.rst ∧ s.romWatchdog.reg = s.reg ∧ s.romWatchdog.ctl = s.ctl ∧ s.romWatchdog.ev = s.ev ∧
    s.romWatchdog.par = s.par ∧ s.romWatchdog.fus = s.fus ∧ s.romWatchdog.role = s.role ∧ s.romWatchdog.fw = s.fw ∧
    s.romWatchdog.nvs = s.nvs ∧ s.romWatchdog.led = s.led ∧ s.romWatchdog.sea = s.sea ∧ s.romWatchdog.view = s.view ∧
    s.romWatchdog.pace = s.pace ∧ s.romWatchdog.lnk = s.lnk ∧ s.romWatchdog.ets = s.ets ∧ s.romWatchdog.pix = s.pix ∧
    s.romWatchdog.pdp = s.pdp ∧ s.romWatchdog.tab = s.tab ∧ s.romWatchdog.pin = s.pin ∧ s.romWatchdog.hkc = s.hkc ∧
    s.romWatchdog.tap = s.tap ∧ s.romWatchdog.pad = s.pad := by
  simp [State.romWatchdog]

@[simp] theorem State.bootStageDone_frame (s : State) (env : BootEnv) :
    (s.bootStageDone env).pending = s.pending ∧ (s.bootStageDone env).tap = s.tap ∧ (s.bootStageDone env).pad = s.pad ∧
    (s.bootStageDone env).pin.shade = s.pin.shade := by
  unfold State.bootStageDone; dsimp only; repeat' (first | (simp; done) | split)

@[simp] theorem State.bootStages_frame (s : State) (env : BootEnv) (y : Nat) :
    (s.bootStages env y).pending = s.pending ∧ (s.bootStages env y).tap = s.tap ∧ (s.bootStages env y).pad = s.pad ∧
    (s.bootStages env y).pin.shade = s.pin.shade := by
  induction y generalizing s with
  | zero => simp [State.bootStages]
  | succ n ih => unfold State.bootStages; repeat' (first | (simp [ih]; done) | split)

@[simp] theorem State.testLevel_frame (s : State) (high : Bool) :
    (s.testLevel high).pending = s.pending ∧ (s.testLevel high).free = s.free ∧ (s.testLevel high).clk = s.clk ∧
    (s.testLevel high).rst = s.rst ∧ (s.testLevel high).wdg = s.wdg ∧ (s.testLevel high).reg = s.reg ∧
    (s.testLevel high).ctl = s.ctl ∧ (s.testLevel high).ev = s.ev ∧ (s.testLevel high).par = s.par ∧
    (s.testLevel high).fus = s.fus ∧ (s.testLevel high).role = s.role ∧ (s.testLevel high).fw = s.fw ∧
    (s.testLevel high).nvs = s.nvs ∧ (s.testLevel high).led = s.led ∧ (s.testLevel high).sea = s.sea ∧
    (s.testLevel high).view = s.view ∧ (s.testLevel high).pace = s.pace ∧ (s.testLevel high).lnk = s.lnk ∧
    (s.testLevel high).ets = s.ets ∧ (s.testLevel high).pix = s.pix ∧ (s.testLevel high).pdp = s.pdp ∧
    (s.testLevel high).tab = s.tab ∧ (s.testLevel high).pin = s.pin ∧ (s.testLevel high).hkc = s.hkc ∧
    (s.testLevel high).tap = s.tap := by
  simp [State.testLevel]

@[simp] theorem State.onReg_frame (s : State) (f : Reg → Reg) :
    (s.onReg f).pending = s.pending ∧ (s.onReg f).free = s.free ∧ (s.onReg f).clk = s.clk ∧ (s.onReg f).pwr = s.pwr ∧
    (s.onReg f).rst = s.rst ∧ (s.onReg f).wdg = s.wdg ∧ (s.onReg f).ctl = s.ctl ∧ (s.onReg f).ev = s.ev ∧
    (s.onReg f).par = s.par ∧ (s.onReg f).fus = s.fus ∧ (s.onReg f).role = s.role ∧ (s.onReg f).fw = s.fw ∧
    (s.onReg f).nvs = s.nvs ∧ (s.onReg f).led = s.led ∧ (s.onReg f).sea = s.sea ∧ (s.onReg f).view = s.view ∧
    (s.onReg f).pace = s.pace ∧ (s.onReg f).lnk = s.lnk ∧ (s.onReg f).ets = s.ets ∧ (s.onReg f).pix = s.pix ∧
    (s.onReg f).pdp = s.pdp ∧ (s.onReg f).tab = s.tab ∧ (s.onReg f).pin = s.pin ∧ (s.onReg f).hkc = s.hkc ∧
    (s.onReg f).tap = s.tap ∧ (s.onReg f).pad = s.pad := by
  simp [State.onReg]

@[simp] theorem State.countIgnored_frame (s : State) :
    s.countIgnored.pending = s.pending ∧ s.countIgnored.free = s.free ∧ s.countIgnored.clk = s.clk ∧
    s.countIgnored.pwr = s.pwr ∧ s.countIgnored.rst = s.rst ∧ s.countIgnored.wdg = s.wdg ∧ s.countIgnored.ctl = s.ctl ∧
    s.countIgnored.ev = s.ev ∧ s.countIgnored.par = s.par ∧ s.countIgnored.fus = s.fus ∧ s.countIgnored.role = s.role ∧
    s.countIgnored.fw = s.fw ∧ s.countIgnored.nvs = s.nvs ∧ s.countIgnored.led = s.led ∧ s.countIgnored.sea = s.sea ∧
    s.countIgnored.view = s.view ∧ s.countIgnored.pace = s.pace ∧ s.countIgnored.lnk = s.lnk ∧ s.countIgnored.ets = s.ets ∧
    s.countIgnored.pix = s.pix ∧ s.countIgnored.pdp = s.pdp ∧ s.countIgnored.tab = s.tab ∧ s.countIgnored.pin = s.pin ∧
    s.countIgnored.hkc = s.hkc ∧ s.countIgnored.tap = s.tap ∧ s.countIgnored.pad = s.pad := by
  simp [State.countIgnored]

@[simp] theorem State.drive_frame (s : State) (v : Word) :
    (s.drive v).pending = s.pending ∧ (s.drive v).free = s.free ∧ (s.drive v).clk = s.clk ∧ (s.drive v).pwr = s.pwr ∧
    (s.drive v).rst = s.rst ∧ (s.drive v).wdg = s.wdg ∧ (s.drive v).ctl = s.ctl ∧ (s.drive v).ev = s.ev ∧
    (s.drive v).par = s.par ∧ (s.drive v).fus = s.fus ∧ (s.drive v).role = s.role ∧ (s.drive v).fw = s.fw ∧
    (s.drive v).nvs = s.nvs ∧ (s.drive v).led = s.led ∧ (s.drive v).sea = s.sea ∧ (s.drive v).view = s.view ∧
    (s.drive v).pace = s.pace ∧ (s.drive v).lnk = s.lnk ∧ (s.drive v).ets = s.ets ∧ (s.drive v).pix = s.pix ∧
    (s.drive v).pdp = s.pdp ∧ (s.drive v).tab = s.tab ∧ (s.drive v).pin = s.pin ∧ (s.drive v).hkc = s.hkc ∧
    (s.drive v).tap = s.tap ∧ (s.drive v).pad = s.pad := by
  simp [State.drive]

@[simp] theorem State.refuseFrame_frame (s : State) :
    s.refuseFrame.pending = s.pending ∧ s.refuseFrame.free = s.free ∧ s.refuseFrame.clk = s.clk ∧ s.refuseFrame.pwr = s.pwr ∧
    s.refuseFrame.rst = s.rst ∧ s.refuseFrame.wdg = s.wdg ∧ s.refuseFrame.ctl = s.ctl ∧ s.refuseFrame.ev = s.ev ∧
    s.refuseFrame.par = s.par ∧ s.refuseFrame.fus = s.fus ∧ s.refuseFrame.role = s.role ∧ s.refuseFrame.fw = s.fw ∧
    s.refuseFrame.nvs = s.nvs ∧ s.refuseFrame.led = s.led ∧ s.refuseFrame.sea = s.sea ∧ s.refuseFrame.view = s.view ∧
    s.refuseFrame.pace = s.pace ∧ s.refuseFrame.lnk = s.lnk ∧ s.refuseFrame.ets = s.ets ∧ s.refuseFrame.pix = s.pix ∧
    s.refuseFrame.pdp = s.pdp ∧ s.refuseFrame.tab = s.tab ∧ s.refuseFrame.pin = s.pin ∧ s.refuseFrame.hkc = s.hkc ∧
    s.refuseFrame.tap = s.tap ∧ s.refuseFrame.pad = s.pad := by
  simp [State.refuseFrame]

@[simp] theorem State.ignoreMail_frame (s : State) :
    s.ignoreMail.pending = s.pending ∧ s.ignoreMail.free = s.free ∧ s.ignoreMail.clk = s.clk ∧ s.ignoreMail.pwr = s.pwr ∧
    s.ignoreMail.rst = s.rst ∧ s.ignoreMail.wdg = s.wdg ∧ s.ignoreMail.ctl = s.ctl ∧ s.ignoreMail.ev = s.ev ∧
    s.ignoreMail.par = s.par ∧ s.ignoreMail.fus = s.fus ∧ s.ignoreMail.role = s.role ∧ s.ignoreMail.fw = s.fw ∧
    s.ignoreMail.nvs = s.nvs ∧ s.ignoreMail.led = s.led ∧ s.ignoreMail.sea = s.sea ∧ s.ignoreMail.view = s.view ∧
    s.ignoreMail.pace = s.pace ∧ s.ignoreMail.lnk = s.lnk ∧ s.ignoreMail.ets = s.ets ∧ s.ignoreMail.pix = s.pix ∧
    s.ignoreMail.pdp = s.pdp ∧ s.ignoreMail.tab = s.tab ∧ s.ignoreMail.pin = s.pin ∧ s.ignoreMail.hkc = s.hkc ∧
    s.ignoreMail.tap = s.tap ∧ s.ignoreMail.pad = s.pad := by
  simp [State.ignoreMail]

@[simp] theorem State.writeMail_frame (s : State) (a : Nat) (v : Word) :
    (s.writeMail a v).pending = s.pending ∧ (s.writeMail a v).free = s.free ∧ (s.writeMail a v).clk = s.clk ∧
    (s.writeMail a v).pwr = s.pwr ∧ (s.writeMail a v).rst = s.rst ∧ (s.writeMail a v).wdg = s.wdg ∧
    (s.writeMail a v).ev = s.ev ∧ (s.writeMail a v).par = s.par ∧ (s.writeMail a v).fus = s.fus ∧
    (s.writeMail a v).role = s.role ∧ (s.writeMail a v).fw = s.fw ∧ (s.writeMail a v).nvs = s.nvs ∧
    (s.writeMail a v).led = s.led ∧ (s.writeMail a v).sea = s.sea ∧ (s.writeMail a v).view = s.view ∧
    (s.writeMail a v).pace = s.pace ∧ (s.writeMail a v).lnk = s.lnk ∧ (s.writeMail a v).ets = s.ets ∧
    (s.writeMail a v).pix = s.pix ∧ (s.writeMail a v).pdp = s.pdp ∧ (s.writeMail a v).tab = s.tab ∧
    (s.writeMail a v).pin = s.pin ∧ (s.writeMail a v).hkc = s.hkc ∧ (s.writeMail a v).tap = s.tap ∧
    (s.writeMail a v).pad = s.pad := by
  simp [State.writeMail]

@[simp] theorem State.writeBulk_frame (s : State) (a : Nat) (v : Word) :
    (s.writeBulk a v).pending = s.pending ∧ (s.writeBulk a v).free = s.free ∧ (s.writeBulk a v).clk = s.clk ∧
    (s.writeBulk a v).pwr = s.pwr ∧ (s.writeBulk a v).rst = s.rst ∧ (s.writeBulk a v).wdg = s.wdg ∧
    (s.writeBulk a v).ev = s.ev ∧ (s.writeBulk a v).par = s.par ∧ (s.writeBulk a v).fus = s.fus ∧
    (s.writeBulk a v).role = s.role ∧ (s.writeBulk a v).fw = s.fw ∧ (s.writeBulk a v).nvs = s.nvs ∧
    (s.writeBulk a v).led = s.led ∧ (s.writeBulk a v).sea = s.sea ∧ (s.writeBulk a v).view = s.view ∧
    (s.writeBulk a v).pace = s.pace ∧ (s.writeBulk a v).lnk = s.lnk ∧ (s.writeBulk a v).ets = s.ets ∧
    (s.writeBulk a v).pix = s.pix ∧ (s.writeBulk a v).pdp = s.pdp ∧ (s.writeBulk a v).tab = s.tab ∧
    (s.writeBulk a v).pin = s.pin ∧ (s.writeBulk a v).hkc = s.hkc ∧ (s.writeBulk a v).tap = s.tap ∧
    (s.writeBulk a v).pad = s.pad := by
  simp [State.writeBulk]

@[simp] theorem State.writeReg_frame (s : State) (a : Nat) (v : Word) :
    (s.writeReg a v).pending = s.pending ∧ (s.writeReg a v).free = s.free ∧ (s.writeReg a v).clk = s.clk ∧
    (s.writeReg a v).pwr = s.pwr ∧ (s.writeReg a v).rst = s.rst ∧ (s.writeReg a v).wdg = s.wdg ∧ (s.writeReg a v).ctl = s.ctl ∧
    (s.writeReg a v).ev = s.ev ∧ (s.writeReg a v).par = s.par ∧ (s.writeReg a v).fus = s.fus ∧ (s.writeReg a v).role = s.role ∧
    (s.writeReg a v).fw = s.fw ∧ (s.writeReg a v).nvs = s.nvs ∧ (s.writeReg a v).led = s.led ∧ (s.writeReg a v).sea = s.sea ∧
    (s.writeReg a v).view = s.view ∧ (s.writeReg a v).pace = s.pace ∧ (s.writeReg a v).lnk = s.lnk ∧
    (s.writeReg a v).ets = s.ets ∧ (s.writeReg a v).pix = s.pix ∧ (s.writeReg a v).pdp = s.pdp ∧ (s.writeReg a v).tab = s.tab ∧
    (s.writeReg a v).pin = s.pin ∧ (s.writeReg a v).hkc = s.hkc ∧ (s.writeReg a v).tap = s.tap ∧ (s.writeReg a v).pad = s.pad
        := by
  simp [State.writeReg]

@[simp] theorem State.snapHkc_frame (s : State) :
    s.snapHkc.pending = s.pending ∧ s.snapHkc.free = s.free ∧ s.snapHkc.clk = s.clk ∧ s.snapHkc.pwr = s.pwr ∧
    s.snapHkc.rst = s.rst ∧ s.snapHkc.wdg = s.wdg ∧ s.snapHkc.ctl = s.ctl ∧ s.snapHkc.ev = s.ev ∧ s.snapHkc.par = s.par ∧
    s.snapHkc.fus = s.fus ∧ s.snapHkc.role = s.role ∧ s.snapHkc.fw = s.fw ∧ s.snapHkc.nvs = s.nvs ∧ s.snapHkc.led = s.led ∧
    s.snapHkc.sea = s.sea ∧ s.snapHkc.view = s.view ∧ s.snapHkc.pace = s.pace ∧ s.snapHkc.lnk = s.lnk ∧ s.snapHkc.ets = s.ets ∧
    s.snapHkc.pix = s.pix ∧ s.snapHkc.pdp = s.pdp ∧ s.snapHkc.tab = s.tab ∧ s.snapHkc.pin = s.pin ∧ s.snapHkc.tap = s.tap ∧
    s.snapHkc.pad = s.pad := by
  simp [State.snapHkc]

@[simp] theorem State.post_frame (s : State) :
    s.post.pending = s.pending ∧ s.post.free = s.free ∧ s.post.clk = s.clk ∧ s.post.pwr = s.pwr ∧ s.post.rst = s.rst ∧
    s.post.wdg = s.wdg ∧ s.post.ev = s.ev ∧ s.post.par = s.par ∧ s.post.fus = s.fus ∧ s.post.role = s.role ∧ s.post.fw = s.fw ∧
    s.post.nvs = s.nvs ∧ s.post.led = s.led ∧ s.post.sea = s.sea ∧ s.post.view = s.view ∧ s.post.pace = s.pace ∧
    s.post.lnk = s.lnk ∧ s.post.ets = s.ets ∧ s.post.pix = s.pix ∧ s.post.pdp = s.pdp ∧ s.post.tab = s.tab ∧
    s.post.pin = s.pin ∧ s.post.hkc = s.hkc ∧ s.post.tap = s.tap ∧ s.post.pad = s.pad := by
  simp [State.post]

@[simp] theorem State.placeMail_frame (s : State) (bytes : Bytes) (redirected : Bool) :
    (s.placeMail bytes redirected).pending = s.pending ∧ (s.placeMail bytes redirected).free = s.free ∧
    (s.placeMail bytes redirected).clk = s.clk ∧ (s.placeMail bytes redirected).pwr = s.pwr ∧
    (s.placeMail bytes redirected).rst = s.rst ∧ (s.placeMail bytes redirected).wdg = s.wdg ∧
    (s.placeMail bytes redirected).ev = s.ev ∧ (s.placeMail bytes redirected).par = s.par ∧
    (s.placeMail bytes redirected).fus = s.fus ∧ (s.placeMail bytes redirected).role = s.role ∧
    (s.placeMail bytes redirected).fw = s.fw ∧ (s.placeMail bytes redirected).nvs = s.nvs ∧
    (s.placeMail bytes redirected).led = s.led ∧ (s.placeMail bytes redirected).sea = s.sea ∧
    (s.placeMail bytes redirected).view = s.view ∧ (s.placeMail bytes redirected).pace = s.pace ∧
    (s.placeMail bytes redirected).lnk = s.lnk ∧ (s.placeMail bytes redirected).ets = s.ets ∧
    (s.placeMail bytes redirected).pix = s.pix ∧ (s.placeMail bytes redirected).pdp = s.pdp ∧
    (s.placeMail bytes redirected).tab = s.tab ∧ (s.placeMail bytes redirected).pin = s.pin ∧
    (s.placeMail bytes redirected).hkc = s.hkc ∧ (s.placeMail bytes redirected).tap = s.tap ∧
    (s.placeMail bytes redirected).pad = s.pad := by
  simp [State.placeMail]

@[simp] theorem State.followUp_frame (s : State) (follow : Nat) :
    (s.followUp follow).pending = s.pending ∧ (s.followUp follow).clk = s.clk ∧ (s.followUp follow).wdg = s.wdg ∧
    (s.followUp follow).reg = s.reg ∧ (s.followUp follow).ctl = s.ctl ∧ (s.followUp follow).ev = s.ev ∧
    (s.followUp follow).par = s.par ∧ (s.followUp follow).role = s.role ∧ (s.followUp follow).fw = s.fw ∧
    (s.followUp follow).led = s.led ∧ (s.followUp follow).sea = s.sea ∧ (s.followUp follow).view = s.view ∧
    (s.followUp follow).pace = s.pace ∧ (s.followUp follow).lnk = s.lnk ∧ (s.followUp follow).ets = s.ets ∧
    (s.followUp follow).pix = s.pix ∧ (s.followUp follow).pdp = s.pdp ∧ (s.followUp follow).tab = s.tab ∧
    (s.followUp follow).pin = s.pin ∧ (s.followUp follow).hkc = s.hkc ∧ (s.followUp follow).tap = s.tap ∧
    (s.followUp follow).pad = s.pad ∧ (s.followUp follow).nvs.mem = s.nvs.mem := by
  unfold State.followUp; dsimp only; repeat' (first | (simp; done) | split)

@[simp] theorem State.finishActivation_frame (s : State) :
    s.finishActivation.pending = s.pending ∧ s.finishActivation.free = s.free ∧ s.finishActivation.clk = s.clk ∧
    s.finishActivation.pwr = s.pwr ∧ s.finishActivation.rst = s.rst ∧ s.finishActivation.wdg = s.wdg ∧
    s.finishActivation.reg = s.reg ∧ s.finishActivation.ctl = s.ctl ∧ s.finishActivation.ev = s.ev ∧
    s.finishActivation.par = s.par ∧ s.finishActivation.fus = s.fus ∧ s.finishActivation.role = s.role ∧
    s.finishActivation.nvs = s.nvs ∧ s.finishActivation.led = s.led ∧ s.finishActivation.sea = s.sea ∧
    s.finishActivation.view = s.view ∧ s.finishActivation.pace = s.pace ∧ s.finishActivation.lnk = s.lnk ∧
    s.finishActivation.ets = s.ets ∧ s.finishActivation.pix = s.pix ∧ s.finishActivation.pdp = s.pdp ∧
    s.finishActivation.tab = s.tab ∧ s.finishActivation.pin = s.pin ∧ s.finishActivation.hkc = s.hkc ∧
    s.finishActivation.tap = s.tap ∧ s.finishActivation.pad = s.pad := by
  unfold State.finishActivation; split <;> simp

@[simp] theorem State.ringWrite_frame (s : State) (r : Record) (rest : List Record) :
    (s.ringWrite r rest).pending = s.pending ∧ (s.ringWrite r rest).free = s.free ∧ (s.ringWrite r rest).clk = s.clk ∧
    (s.ringWrite r rest).pwr = s.pwr ∧ (s.ringWrite r rest).rst = s.rst ∧ (s.ringWrite r rest).wdg = s.wdg ∧
    (s.ringWrite r rest).par = s.par ∧ (s.ringWrite r rest).fus = s.fus ∧ (s.ringWrite r rest).role = s.role ∧
    (s.ringWrite r rest).fw = s.fw ∧ (s.ringWrite r rest).nvs = s.nvs ∧ (s.ringWrite r rest).led = s.led ∧
    (s.ringWrite r rest).sea = s.sea ∧ (s.ringWrite r rest).view = s.view ∧ (s.ringWrite r rest).pace = s.pace ∧
    (s.ringWrite r rest).lnk = s.lnk ∧ (s.ringWrite r rest).ets = s.ets ∧ (s.ringWrite r rest).pix = s.pix ∧
    (s.ringWrite r rest).pdp = s.pdp ∧ (s.ringWrite r rest).tab = s.tab ∧ (s.ringWrite r rest).pin = s.pin ∧
    (s.ringWrite r rest).hkc = s.hkc ∧ (s.ringWrite r rest).tap = s.tap ∧ (s.ringWrite r rest).pad = s.pad := by
  simp [State.ringWrite]

@[simp] theorem State.supEnd_frame (s : State) (code : Byte) (reason : Nat) (result : Bytes) :
    (s.supEnd code reason result).pending = s.pending ∧ (s.supEnd code reason result).free = s.free ∧
    (s.supEnd code reason result).clk = s.clk ∧ (s.supEnd code reason result).pwr = s.pwr ∧
    (s.supEnd code reason result).rst = s.rst ∧ (s.supEnd code reason result).wdg = s.wdg ∧
    (s.supEnd code reason result).ctl = s.ctl ∧ (s.supEnd code reason result).ev = s.ev ∧
    (s.supEnd code reason result).par = s.par ∧ (s.supEnd code reason result).fus = s.fus ∧
    (s.supEnd code reason result).role = s.role ∧ (s.supEnd code reason result).fw = s.fw ∧
    (s.supEnd code reason result).nvs = s.nvs ∧ (s.supEnd code reason result).led = s.led ∧
    (s.supEnd code reason result).sea = s.sea ∧ (s.supEnd code reason result).view = s.view ∧
    (s.supEnd code reason result).pace = s.pace ∧ (s.supEnd code reason result).lnk = s.lnk ∧
    (s.supEnd code reason result).ets = s.ets ∧ (s.supEnd code reason result).pix = s.pix ∧
    (s.supEnd code reason result).pdp = s.pdp ∧ (s.supEnd code reason result).tab = s.tab ∧
    (s.supEnd code reason result).pin = s.pin ∧ (s.supEnd code reason result).hkc = s.hkc ∧
    (s.supEnd code reason result).tap = s.tap ∧ (s.supEnd code reason result).pad = s.pad := by
  simp [State.supEnd]

end Sys2Proof.Machine
end

