-- ==== Sys2Proof/Laws/FrameMessages.lean ====
section
/-! SUPPORT. What the operations of messages, pins, the framer and fuses leave unchanged. -/

set_option linter.unusedSimpArgs false
set_option Elab.async false

namespace Sys2Proof.Machine

@[simp] theorem State.takeMsg_frame (s : State) (m : Msg) :
    (s.takeMsg m).pending = s.pending ∧ (s.takeMsg m).free = s.free ∧ (s.takeMsg m).clk = s.clk ∧ (s.takeMsg m).pwr = s.pwr ∧
    (s.takeMsg m).rst = s.rst ∧ (s.takeMsg m).ev = s.ev ∧ (s.takeMsg m).par = s.par ∧ (s.takeMsg m).fus = s.fus ∧
    (s.takeMsg m).role = s.role ∧ (s.takeMsg m).fw = s.fw ∧ (s.takeMsg m).nvs = s.nvs ∧ (s.takeMsg m).led = s.led ∧
    (s.takeMsg m).sea = s.sea ∧ (s.takeMsg m).view = s.view ∧ (s.takeMsg m).pace = s.pace ∧ (s.takeMsg m).lnk = s.lnk ∧
    (s.takeMsg m).ets = s.ets ∧ (s.takeMsg m).pix = s.pix ∧ (s.takeMsg m).pdp = s.pdp ∧ (s.takeMsg m).tab = s.tab ∧
    (s.takeMsg m).pin = s.pin ∧ (s.takeMsg m).hkc = s.hkc ∧ (s.takeMsg m).tap = s.tap ∧ (s.takeMsg m).pad = s.pad := by
  simp [State.takeMsg]

@[simp] theorem State.takeSequence_frame (s : State) (m : Msg) :
    (s.takeSequence m).pending = s.pending ∧ (s.takeSequence m).free = s.free ∧ (s.takeSequence m).clk = s.clk ∧
    (s.takeSequence m).pwr = s.pwr ∧ (s.takeSequence m).rst = s.rst ∧ (s.takeSequence m).wdg = s.wdg ∧
    (s.takeSequence m).reg = s.reg ∧ (s.takeSequence m).ev = s.ev ∧ (s.takeSequence m).par = s.par ∧
    (s.takeSequence m).fus = s.fus ∧ (s.takeSequence m).role = s.role ∧ (s.takeSequence m).fw = s.fw ∧
    (s.takeSequence m).nvs = s.nvs ∧ (s.takeSequence m).led = s.led ∧ (s.takeSequence m).sea = s.sea ∧
    (s.takeSequence m).view = s.view ∧ (s.takeSequence m).pace = s.pace ∧ (s.takeSequence m).lnk = s.lnk ∧
    (s.takeSequence m).ets = s.ets ∧ (s.takeSequence m).pix = s.pix ∧ (s.takeSequence m).pdp = s.pdp ∧
    (s.takeSequence m).tab = s.tab ∧ (s.takeSequence m).pin = s.pin ∧ (s.takeSequence m).hkc = s.hkc ∧
    (s.takeSequence m).tap = s.tap ∧ (s.takeSequence m).pad = s.pad := by
  simp [State.takeSequence]

@[simp] theorem State.countAnswer_frame (s : State) (status : Nat) :
    (s.countAnswer status).pending = s.pending ∧ (s.countAnswer status).free = s.free ∧ (s.countAnswer status).clk = s.clk ∧
    (s.countAnswer status).pwr = s.pwr ∧ (s.countAnswer status).rst = s.rst ∧ (s.countAnswer status).wdg = s.wdg ∧
    (s.countAnswer status).reg = s.reg ∧ (s.countAnswer status).ev = s.ev ∧ (s.countAnswer status).par = s.par ∧
    (s.countAnswer status).fus = s.fus ∧ (s.countAnswer status).role = s.role ∧ (s.countAnswer status).fw = s.fw ∧
    (s.countAnswer status).nvs = s.nvs ∧ (s.countAnswer status).led = s.led ∧ (s.countAnswer status).sea = s.sea ∧
    (s.countAnswer status).view = s.view ∧ (s.countAnswer status).pace = s.pace ∧ (s.countAnswer status).lnk = s.lnk ∧
    (s.countAnswer status).ets = s.ets ∧ (s.countAnswer status).pix = s.pix ∧ (s.countAnswer status).pdp = s.pdp ∧
    (s.countAnswer status).tab = s.tab ∧ (s.countAnswer status).pin = s.pin ∧ (s.countAnswer status).hkc = s.hkc ∧
    (s.countAnswer status).tap = s.tap ∧ (s.countAnswer status).pad = s.pad := by
  simp [State.countAnswer]

@[simp] theorem State.reply_frame (s : State) (r : Reply) :
    (s.reply r).pending = s.pending ∧ (s.reply r).free = s.free ∧ (s.reply r).clk = s.clk ∧ (s.reply r).pwr = s.pwr ∧
    (s.reply r).rst = s.rst ∧ (s.reply r).wdg = s.wdg ∧ (s.reply r).reg = s.reg ∧ (s.reply r).ev = s.ev ∧
    (s.reply r).par = s.par ∧ (s.reply r).fus = s.fus ∧ (s.reply r).role = s.role ∧ (s.reply r).fw = s.fw ∧
    (s.reply r).nvs = s.nvs ∧ (s.reply r).led = s.led ∧ (s.reply r).sea = s.sea ∧ (s.reply r).view = s.view ∧
    (s.reply r).pace = s.pace ∧ (s.reply r).lnk = s.lnk ∧ (s.reply r).ets = s.ets ∧ (s.reply r).pix = s.pix ∧
    (s.reply r).pdp = s.pdp ∧ (s.reply r).tab = s.tab ∧ (s.reply r).pin = s.pin ∧ (s.reply r).hkc = s.hkc ∧
    (s.reply r).tap = s.tap ∧ (s.reply r).pad = s.pad := by
  simp [State.reply]

@[simp] theorem Answer.send_frame (a : Answer) (m : Msg) (keep : Bool) :
    (Answer.send a m keep).pending = a.s.pending ∧ (Answer.send a m keep).free = a.s.free ∧
    (Answer.send a m keep).clk = a.s.clk ∧ (Answer.send a m keep).pwr = a.s.pwr ∧ (Answer.send a m keep).rst = a.s.rst ∧
    (Answer.send a m keep).wdg = a.s.wdg ∧ (Answer.send a m keep).reg = a.s.reg ∧ (Answer.send a m keep).ev = a.s.ev ∧
    (Answer.send a m keep).par = a.s.par ∧ (Answer.send a m keep).fus = a.s.fus ∧ (Answer.send a m keep).role = a.s.role ∧
    (Answer.send a m keep).fw = a.s.fw ∧ (Answer.send a m keep).nvs = a.s.nvs ∧ (Answer.send a m keep).led = a.s.led ∧
    (Answer.send a m keep).sea = a.s.sea ∧ (Answer.send a m keep).view = a.s.view ∧ (Answer.send a m keep).pace = a.s.pace ∧
    (Answer.send a m keep).lnk = a.s.lnk ∧ (Answer.send a m keep).ets = a.s.ets ∧ (Answer.send a m keep).pix = a.s.pix ∧
    (Answer.send a m keep).pdp = a.s.pdp ∧ (Answer.send a m keep).tab = a.s.tab ∧ (Answer.send a m keep).pin = a.s.pin ∧
    (Answer.send a m keep).hkc = a.s.hkc ∧ (Answer.send a m keep).tap = a.s.tap ∧ (Answer.send a m keep).pad = a.s.pad := by
  simp [Answer.send]

@[simp] theorem State.sendAgain_frame (s : State) (m : Msg) :
    (s.sendAgain m).pending = s.pending ∧ (s.sendAgain m).free = s.free ∧ (s.sendAgain m).clk = s.clk ∧
    (s.sendAgain m).pwr = s.pwr ∧ (s.sendAgain m).rst = s.rst ∧ (s.sendAgain m).wdg = s.wdg ∧ (s.sendAgain m).reg = s.reg ∧
    (s.sendAgain m).ev = s.ev ∧ (s.sendAgain m).par = s.par ∧ (s.sendAgain m).fus = s.fus ∧ (s.sendAgain m).role = s.role ∧
    (s.sendAgain m).fw = s.fw ∧ (s.sendAgain m).nvs = s.nvs ∧ (s.sendAgain m).led = s.led ∧ (s.sendAgain m).sea = s.sea ∧
    (s.sendAgain m).view = s.view ∧ (s.sendAgain m).pace = s.pace ∧ (s.sendAgain m).lnk = s.lnk ∧ (s.sendAgain m).ets = s.ets ∧
    (s.sendAgain m).pix = s.pix ∧ (s.sendAgain m).pdp = s.pdp ∧ (s.sendAgain m).tab = s.tab ∧ (s.sendAgain m).pin = s.pin ∧
    (s.sendAgain m).hkc = s.hkc ∧ (s.sendAgain m).tap = s.tap ∧ (s.sendAgain m).pad = s.pad := by
  simp [State.sendAgain]

@[simp] theorem State.applyFails_frame (s : State) (second : Nat → Commit) :
    (s.applyFails second).s.pending = s.pending ∧ (s.applyFails second).s.clk = s.clk ∧ (s.applyFails second).s.reg = s.reg ∧
    (s.applyFails second).s.ctl = s.ctl ∧ (s.applyFails second).s.ev = s.ev ∧ (s.applyFails second).s.par = s.par ∧
    (s.applyFails second).s.fus = s.fus ∧ (s.applyFails second).s.role = s.role ∧ (s.applyFails second).s.fw = s.fw ∧
    (s.applyFails second).s.pace = s.pace ∧ (s.applyFails second).s.ets = s.ets ∧ (s.applyFails second).s.pix = s.pix ∧
    (s.applyFails second).s.pdp = s.pdp ∧ (s.applyFails second).s.tab = s.tab ∧ (s.applyFails second).s.pin = s.pin ∧
    (s.applyFails second).s.hkc = s.hkc ∧ (s.applyFails second).s.tap = s.tap ∧ (s.applyFails second).s.pad = s.pad := by
  simp [State.applyFails]

@[simp] theorem State.configFails_frame (s : State) (m : Msg) :
    (s.configFails m).s.pending = s.pending ∧ (s.configFails m).s.clk = s.clk ∧ (s.configFails m).s.reg = s.reg ∧
    (s.configFails m).s.ctl = s.ctl ∧ (s.configFails m).s.ev = s.ev ∧ (s.configFails m).s.par = s.par ∧
    (s.configFails m).s.fus = s.fus ∧ (s.configFails m).s.role = s.role ∧ (s.configFails m).s.fw = s.fw ∧
    (s.configFails m).s.pace = s.pace ∧ (s.configFails m).s.ets = s.ets ∧ (s.configFails m).s.pix = s.pix ∧
    (s.configFails m).s.pdp = s.pdp ∧ (s.configFails m).s.tab = s.tab ∧ (s.configFails m).s.pin = s.pin ∧
    (s.configFails m).s.hkc = s.hkc ∧ (s.configFails m).s.tap = s.tap ∧ (s.configFails m).s.pad = s.pad := by
  simp [State.configFails]

@[simp] theorem State.commitConfig_frame (s : State) (m : Msg) (view gen : Nat) :
    (s.commitConfig m view gen).pending = s.pending ∧ (s.commitConfig m view gen).free = s.free ∧
    (s.commitConfig m view gen).clk = s.clk ∧ (s.commitConfig m view gen).reg = s.reg ∧
    (s.commitConfig m view gen).ctl = s.ctl ∧ (s.commitConfig m view gen).ev = s.ev ∧ (s.commitConfig m view gen).par = s.par ∧
    (s.commitConfig m view gen).fus = s.fus ∧ (s.commitConfig m view gen).role = s.role ∧
    (s.commitConfig m view gen).fw = s.fw ∧ (s.commitConfig m view gen).pace = s.pace ∧
    (s.commitConfig m view gen).ets = s.ets ∧ (s.commitConfig m view gen).pix = s.pix ∧
    (s.commitConfig m view gen).pdp = s.pdp ∧ (s.commitConfig m view gen).tab = s.tab ∧
    (s.commitConfig m view gen).pin = s.pin ∧ (s.commitConfig m view gen).hkc = s.hkc ∧
    (s.commitConfig m view gen).tap = s.tap ∧ (s.commitConfig m view gen).pad = s.pad := by
  simp [State.commitConfig]

@[simp] theorem State.openSession_frame (s : State) (entropy hostNonce : Bytes) :
    (s.openSession entropy hostNonce).pending = s.pending ∧ (s.openSession entropy hostNonce).free = s.free ∧
    (s.openSession entropy hostNonce).clk = s.clk ∧ (s.openSession entropy hostNonce).pwr = s.pwr ∧
    (s.openSession entropy hostNonce).rst = s.rst ∧ (s.openSession entropy hostNonce).wdg = s.wdg ∧
    (s.openSession entropy hostNonce).reg = s.reg ∧ (s.openSession entropy hostNonce).ev = s.ev ∧
    (s.openSession entropy hostNonce).par = s.par ∧ (s.openSession entropy hostNonce).fus = s.fus ∧
    (s.openSession entropy hostNonce).role = s.role ∧ (s.openSession entropy hostNonce).fw = s.fw ∧
    (s.openSession entropy hostNonce).nvs = s.nvs ∧ (s.openSession entropy hostNonce).led = s.led ∧
    (s.openSession entropy hostNonce).sea = s.sea ∧ (s.openSession entropy hostNonce).view = s.view ∧
    (s.openSession entropy hostNonce).pace = s.pace ∧ (s.openSession entropy hostNonce).lnk = s.lnk ∧
    (s.openSession entropy hostNonce).ets = s.ets ∧ (s.openSession entropy hostNonce).pix = s.pix ∧
    (s.openSession entropy hostNonce).pdp = s.pdp ∧ (s.openSession entropy hostNonce).pin = s.pin ∧
    (s.openSession entropy hostNonce).hkc = s.hkc ∧ (s.openSession entropy hostNonce).tap = s.tap ∧
    (s.openSession entropy hostNonce).pad = s.pad := by
  simp [State.openSession]

@[simp] theorem State.answerOpen_frame (s : State) (entropy : Bytes) (m : Msg) :
    (s.answerOpen entropy m).s.pending = s.pending ∧ (s.answerOpen entropy m).s.free = s.free ∧
    (s.answerOpen entropy m).s.clk = s.clk ∧ (s.answerOpen entropy m).s.pwr = s.pwr ∧ (s.answerOpen entropy m).s.rst = s.rst ∧
    (s.answerOpen entropy m).s.wdg = s.wdg ∧ (s.answerOpen entropy m).s.reg = s.reg ∧ (s.answerOpen entropy m).s.ev = s.ev ∧
    (s.answerOpen entropy m).s.par = s.par ∧ (s.answerOpen entropy m).s.fus = s.fus ∧
    (s.answerOpen entropy m).s.role = s.role ∧ (s.answerOpen entropy m).s.fw = s.fw ∧ (s.answerOpen entropy m).s.nvs = s.nvs ∧
    (s.answerOpen entropy m).s.led = s.led ∧ (s.answerOpen entropy m).s.sea = s.sea ∧
    (s.answerOpen entropy m).s.view = s.view ∧ (s.answerOpen entropy m).s.pace = s.pace ∧
    (s.answerOpen entropy m).s.lnk = s.lnk ∧ (s.answerOpen entropy m).s.ets = s.ets ∧ (s.answerOpen entropy m).s.pix = s.pix ∧
    (s.answerOpen entropy m).s.pdp = s.pdp ∧ (s.answerOpen entropy m).s.pin = s.pin ∧ (s.answerOpen entropy m).s.hkc = s.hkc ∧
    (s.answerOpen entropy m).s.tap = s.tap ∧ (s.answerOpen entropy m).s.pad = s.pad := by
  simp [State.answerOpen]

@[simp] theorem State.closeSession_frame (s : State) :
    s.closeSession.pending = s.pending ∧ s.closeSession.free = s.free ∧ s.closeSession.clk = s.clk ∧
    s.closeSession.pwr = s.pwr ∧ s.closeSession.rst = s.rst ∧ s.closeSession.wdg = s.wdg ∧ s.closeSession.reg = s.reg ∧
    s.closeSession.ev = s.ev ∧ s.closeSession.par = s.par ∧ s.closeSession.fus = s.fus ∧ s.closeSession.role = s.role ∧
    s.closeSession.fw = s.fw ∧ s.closeSession.nvs = s.nvs ∧ s.closeSession.led = s.led ∧ s.closeSession.sea = s.sea ∧
    s.closeSession.view = s.view ∧ s.closeSession.pace = s.pace ∧ s.closeSession.lnk = s.lnk ∧ s.closeSession.ets = s.ets ∧
    s.closeSession.pix = s.pix ∧ s.closeSession.pdp = s.pdp ∧ s.closeSession.pin = s.pin ∧ s.closeSession.hkc = s.hkc ∧
    s.closeSession.tap = s.tap ∧ s.closeSession.pad = s.pad := by
  simp [State.closeSession]

@[simp] theorem State.askStandby_frame (s : State) (m : Msg) :
    (s.askStandby m).s.pending = s.pending ∧ (s.askStandby m).s.free = s.free ∧ (s.askStandby m).s.clk = s.clk ∧
    (s.askStandby m).s.reg = s.reg ∧ (s.askStandby m).s.ctl = s.ctl ∧ (s.askStandby m).s.ev = s.ev ∧
    (s.askStandby m).s.par = s.par ∧ (s.askStandby m).s.fus = s.fus ∧ (s.askStandby m).s.role = s.role ∧
    (s.askStandby m).s.fw = s.fw ∧ (s.askStandby m).s.pace = s.pace ∧ (s.askStandby m).s.ets = s.ets ∧
    (s.askStandby m).s.pix = s.pix ∧ (s.askStandby m).s.pdp = s.pdp ∧ (s.askStandby m).s.tab = s.tab ∧
    (s.askStandby m).s.pin = s.pin ∧ (s.askStandby m).s.hkc = s.hkc ∧ (s.askStandby m).s.tap = s.tap ∧
    (s.askStandby m).s.pad = s.pad := by
  simp [State.askStandby]

@[simp] theorem State.syncArm_frame (s : State) :
    s.syncArm.pending = s.pending ∧ s.syncArm.free = s.free ∧ s.syncArm.clk = s.clk ∧ s.syncArm.pwr = s.pwr ∧
    s.syncArm.rst = s.rst ∧ s.syncArm.wdg = s.wdg ∧ s.syncArm.reg = s.reg ∧ s.syncArm.ctl = s.ctl ∧ s.syncArm.ev = s.ev ∧
    s.syncArm.par = s.par ∧ s.syncArm.fus = s.fus ∧ s.syncArm.role = s.role ∧ s.syncArm.fw = s.fw ∧ s.syncArm.nvs = s.nvs ∧
    s.syncArm.led = s.led ∧ s.syncArm.sea = s.sea ∧ s.syncArm.view = s.view ∧ s.syncArm.pace = s.pace ∧ s.syncArm.lnk = s.lnk ∧
    s.syncArm.ets = s.ets ∧ s.syncArm.pix = s.pix ∧ s.syncArm.pdp = s.pdp ∧ s.syncArm.tab = s.tab ∧ s.syncArm.hkc = s.hkc ∧
    s.syncArm.tap = s.tap ∧ s.syncArm.pad = s.pad ∧ s.syncArm.pin.shade = s.pin.shade := by
  unfold State.syncArm; split <;> simp

@[simp] theorem State.detectTrigger_frame (s : State) :
    s.detectTrigger.pending = s.pending ∧ s.detectTrigger.free = s.free ∧ s.detectTrigger.clk = s.clk ∧
    s.detectTrigger.rst = s.rst ∧ s.detectTrigger.ctl = s.ctl ∧ s.detectTrigger.fus = s.fus ∧ s.detectTrigger.role = s.role ∧
    s.detectTrigger.fw = s.fw ∧ s.detectTrigger.led = s.led ∧ s.detectTrigger.pace = s.pace ∧ s.detectTrigger.pix = s.pix ∧
    s.detectTrigger.pdp = s.pdp ∧ s.detectTrigger.tab = s.tab ∧ s.detectTrigger.tap = s.tap ∧ s.detectTrigger.pad = s.pad ∧
    s.detectTrigger.nvs.mem = s.nvs.mem ∧ s.detectTrigger.pin.shade = s.pin.shade := by
  simp [State.detectTrigger]

@[simp] theorem State.pinStuck_frame (s : State) :
    s.pinStuck.pending = s.pending ∧ s.pinStuck.free = s.free ∧ s.pinStuck.clk = s.clk ∧ s.pinStuck.pwr = s.pwr ∧
    s.pinStuck.rst = s.rst ∧ s.pinStuck.wdg = s.wdg ∧ s.pinStuck.ctl = s.ctl ∧ s.pinStuck.par = s.par ∧
    s.pinStuck.fus = s.fus ∧ s.pinStuck.role = s.role ∧ s.pinStuck.fw = s.fw ∧ s.pinStuck.nvs = s.nvs ∧
    s.pinStuck.led = s.led ∧ s.pinStuck.sea = s.sea ∧ s.pinStuck.view = s.view ∧ s.pinStuck.pace = s.pace ∧
    s.pinStuck.ets = s.ets ∧ s.pinStuck.pix = s.pix ∧ s.pinStuck.pdp = s.pdp ∧ s.pinStuck.tab = s.tab ∧
    s.pinStuck.hkc = s.hkc ∧ s.pinStuck.tap = s.tap ∧ s.pinStuck.pad = s.pad ∧ s.pinStuck.pin.shade = s.pin.shade := by
  simp [State.pinStuck]

@[simp] theorem State.noteWait_frame (s : State) (q n : Nat) (level : Bool) :
    (s.noteWait q n level).pending = s.pending ∧ (s.noteWait q n level).free = s.free ∧ (s.noteWait q n level).clk = s.clk ∧
    (s.noteWait q n level).pwr = s.pwr ∧ (s.noteWait q n level).rst = s.rst ∧ (s.noteWait q n level).wdg = s.wdg ∧
    (s.noteWait q n level).reg = s.reg ∧ (s.noteWait q n level).ctl = s.ctl ∧ (s.noteWait q n level).ev = s.ev ∧
    (s.noteWait q n level).par = s.par ∧ (s.noteWait q n level).fus = s.fus ∧ (s.noteWait q n level).role = s.role ∧
    (s.noteWait q n level).fw = s.fw ∧ (s.noteWait q n level).nvs = s.nvs ∧ (s.noteWait q n level).led = s.led ∧
    (s.noteWait q n level).sea = s.sea ∧ (s.noteWait q n level).view = s.view ∧ (s.noteWait q n level).pace = s.pace ∧
    (s.noteWait q n level).lnk = s.lnk ∧ (s.noteWait q n level).ets = s.ets ∧ (s.noteWait q n level).pix = s.pix ∧
    (s.noteWait q n level).pdp = s.pdp ∧ (s.noteWait q n level).tab = s.tab ∧ (s.noteWait q n level).hkc = s.hkc ∧
    (s.noteWait q n level).tap = s.tap ∧ (s.noteWait q n level).pad = s.pad := by
  unfold State.noteWait; dsimp only; repeat' (first | (simp; done) | split)

@[simp] theorem State.setLevel_frame (s : State) (n : Nat) (level : Bool) :
    (s.setLevel n level).pending = s.pending ∧ (s.setLevel n level).free = s.free ∧ (s.setLevel n level).clk = s.clk ∧
    (s.setLevel n level).pwr = s.pwr ∧ (s.setLevel n level).rst = s.rst ∧ (s.setLevel n level).wdg = s.wdg ∧
    (s.setLevel n level).reg = s.reg ∧ (s.setLevel n level).ctl = s.ctl ∧ (s.setLevel n level).ev = s.ev ∧
    (s.setLevel n level).par = s.par ∧ (s.setLevel n level).fus = s.fus ∧ (s.setLevel n level).role = s.role ∧
    (s.setLevel n level).fw = s.fw ∧ (s.setLevel n level).nvs = s.nvs ∧ (s.setLevel n level).led = s.led ∧
    (s.setLevel n level).sea = s.sea ∧ (s.setLevel n level).view = s.view ∧ (s.setLevel n level).pace = s.pace ∧
    (s.setLevel n level).lnk = s.lnk ∧ (s.setLevel n level).ets = s.ets ∧ (s.setLevel n level).pix = s.pix ∧
    (s.setLevel n level).pdp = s.pdp ∧ (s.setLevel n level).tab = s.tab ∧ (s.setLevel n level).tap = s.tap ∧
    (s.setLevel n level).pad = s.pad := by
  simp [State.setLevel]

@[simp] theorem State.outsideAt_frame (s : State) (n : Nat) (pad : Bool) :
    (s.outsideAt n pad).pending = s.pending ∧ (s.outsideAt n pad).free = s.free ∧ (s.outsideAt n pad).clk = s.clk ∧
    (s.outsideAt n pad).pwr = s.pwr ∧ (s.outsideAt n pad).rst = s.rst ∧ (s.outsideAt n pad).wdg = s.wdg ∧
    (s.outsideAt n pad).reg = s.reg ∧ (s.outsideAt n pad).ctl = s.ctl ∧ (s.outsideAt n pad).ev = s.ev ∧
    (s.outsideAt n pad).par = s.par ∧ (s.outsideAt n pad).fus = s.fus ∧ (s.outsideAt n pad).role = s.role ∧
    (s.outsideAt n pad).fw = s.fw ∧ (s.outsideAt n pad).nvs = s.nvs ∧ (s.outsideAt n pad).led = s.led ∧
    (s.outsideAt n pad).sea = s.sea ∧ (s.outsideAt n pad).view = s.view ∧ (s.outsideAt n pad).pace = s.pace ∧
    (s.outsideAt n pad).lnk = s.lnk ∧ (s.outsideAt n pad).ets = s.ets ∧ (s.outsideAt n pad).pix = s.pix ∧
    (s.outsideAt n pad).pdp = s.pdp ∧ (s.outsideAt n pad).tab = s.tab ∧ (s.outsideAt n pad).hkc = s.hkc ∧
    (s.outsideAt n pad).tap = s.tap ∧ (s.outsideAt n pad).pad = s.pad := by
  simp [State.outsideAt]

@[simp] theorem State.condition_frame (s : State) (n : Nat) (pad : Bool) :
    (s.condition n pad).pending = s.pending ∧ (s.condition n pad).free = s.free ∧ (s.condition n pad).clk = s.clk ∧
    (s.condition n pad).pwr = s.pwr ∧ (s.condition n pad).rst = s.rst ∧ (s.condition n pad).wdg = s.wdg ∧
    (s.condition n pad).reg = s.reg ∧ (s.condition n pad).ctl = s.ctl ∧ (s.condition n pad).ev = s.ev ∧
    (s.condition n pad).par = s.par ∧ (s.condition n pad).fus = s.fus ∧ (s.condition n pad).role = s.role ∧
    (s.condition n pad).fw = s.fw ∧ (s.condition n pad).nvs = s.nvs ∧ (s.condition n pad).led = s.led ∧
    (s.condition n pad).sea = s.sea ∧ (s.condition n pad).view = s.view ∧ (s.condition n pad).pace = s.pace ∧
    (s.condition n pad).lnk = s.lnk ∧ (s.condition n pad).ets = s.ets ∧ (s.condition n pad).pix = s.pix ∧
    (s.condition n pad).pdp = s.pdp ∧ (s.condition n pad).tab = s.tab ∧ (s.condition n pad).tap = s.tap ∧
    (s.condition n pad).pad = s.pad := by
  simp [State.condition]

@[simp] theorem State.samplePin_frame (s : State) (n : Nat) :
    (s.samplePin n).pending = s.pending ∧ (s.samplePin n).free = s.free ∧ (s.samplePin n).clk = s.clk ∧
    (s.samplePin n).pwr = s.pwr ∧ (s.samplePin n).rst = s.rst ∧ (s.samplePin n).wdg = s.wdg ∧ (s.samplePin n).reg = s.reg ∧
    (s.samplePin n).ctl = s.ctl ∧ (s.samplePin n).ev = s.ev ∧ (s.samplePin n).par = s.par ∧ (s.samplePin n).fus = s.fus ∧
    (s.samplePin n).role = s.role ∧ (s.samplePin n).fw = s.fw ∧ (s.samplePin n).nvs = s.nvs ∧ (s.samplePin n).led = s.led ∧
    (s.samplePin n).sea = s.sea ∧ (s.samplePin n).view = s.view ∧ (s.samplePin n).pace = s.pace ∧ (s.samplePin n).lnk = s.lnk ∧
    (s.samplePin n).ets = s.ets ∧ (s.samplePin n).pix = s.pix ∧ (s.samplePin n).pdp = s.pdp ∧ (s.samplePin n).tab = s.tab ∧
    (s.samplePin n).tap = s.tap ∧ (s.samplePin n).pad = s.pad := by
  simp [State.samplePin]

@[simp] theorem State.unsampled_frame (s : State) (n : Nat) :
    (s.unsampled n).pending = s.pending ∧ (s.unsampled n).free = s.free ∧ (s.unsampled n).clk = s.clk ∧
    (s.unsampled n).pwr = s.pwr ∧ (s.unsampled n).rst = s.rst ∧ (s.unsampled n).wdg = s.wdg ∧ (s.unsampled n).reg = s.reg ∧
    (s.unsampled n).ctl = s.ctl ∧ (s.unsampled n).ev = s.ev ∧ (s.unsampled n).par = s.par ∧ (s.unsampled n).fus = s.fus ∧
    (s.unsampled n).role = s.role ∧ (s.unsampled n).fw = s.fw ∧ (s.unsampled n).nvs = s.nvs ∧ (s.unsampled n).led = s.led ∧
    (s.unsampled n).sea = s.sea ∧ (s.unsampled n).view = s.view ∧ (s.unsampled n).pace = s.pace ∧ (s.unsampled n).lnk = s.lnk ∧
    (s.unsampled n).ets = s.ets ∧ (s.unsampled n).pix = s.pix ∧ (s.unsampled n).pdp = s.pdp ∧ (s.unsampled n).tab = s.tab ∧
    (s.unsampled n).tap = s.tap ∧ (s.unsampled n).pad = s.pad := by
  simp [State.unsampled]

@[simp] theorem State.applyPin_frame (s : State) (n : Nat) :
    (s.applyPin n).pending = s.pending ∧ (s.applyPin n).free = s.free ∧ (s.applyPin n).clk = s.clk ∧
    (s.applyPin n).pwr = s.pwr ∧ (s.applyPin n).rst = s.rst ∧ (s.applyPin n).wdg = s.wdg ∧ (s.applyPin n).reg = s.reg ∧
    (s.applyPin n).ctl = s.ctl ∧ (s.applyPin n).ev = s.ev ∧ (s.applyPin n).par = s.par ∧ (s.applyPin n).fus = s.fus ∧
    (s.applyPin n).role = s.role ∧ (s.applyPin n).fw = s.fw ∧ (s.applyPin n).nvs = s.nvs ∧ (s.applyPin n).led = s.led ∧
    (s.applyPin n).sea = s.sea ∧ (s.applyPin n).view = s.view ∧ (s.applyPin n).pace = s.pace ∧ (s.applyPin n).lnk = s.lnk ∧
    (s.applyPin n).ets = s.ets ∧ (s.applyPin n).pix = s.pix ∧ (s.applyPin n).pdp = s.pdp ∧ (s.applyPin n).tab = s.tab ∧
    (s.applyPin n).tap = s.tap ∧ (s.applyPin n).pad = s.pad := by
  simp [State.applyPin]

@[simp] theorem State.applyPins_frame (s : State) :
    s.applyPins.pending = s.pending ∧ s.applyPins.free = s.free ∧ s.applyPins.clk = s.clk ∧ s.applyPins.pwr = s.pwr ∧
    s.applyPins.rst = s.rst ∧ s.applyPins.wdg = s.wdg ∧ s.applyPins.reg = s.reg ∧ s.applyPins.ctl = s.ctl ∧
    s.applyPins.ev = s.ev ∧ s.applyPins.par = s.par ∧ s.applyPins.fus = s.fus ∧ s.applyPins.role = s.role ∧
    s.applyPins.fw = s.fw ∧ s.applyPins.nvs = s.nvs ∧ s.applyPins.led = s.led ∧ s.applyPins.sea = s.sea ∧
    s.applyPins.view = s.view ∧ s.applyPins.pace = s.pace ∧ s.applyPins.lnk = s.lnk ∧ s.applyPins.ets = s.ets ∧
    s.applyPins.pix = s.pix ∧ s.applyPins.pdp = s.pdp ∧ s.applyPins.tab = s.tab ∧ s.applyPins.tap = s.tap ∧
    s.applyPins.pad = s.pad := by
  simp [State.applyPins]

@[simp] theorem State.activityDetected_frame (s : State) (n : Nat) :
    (s.activityDetected n).pending = s.pending ∧ (s.activityDetected n).free = s.free ∧ (s.activityDetected n).clk = s.clk ∧
    (s.activityDetected n).pwr = s.pwr ∧ (s.activityDetected n).rst = s.rst ∧ (s.activityDetected n).wdg = s.wdg ∧
    (s.activityDetected n).ctl = s.ctl ∧ (s.activityDetected n).par = s.par ∧ (s.activityDetected n).fus = s.fus ∧
    (s.activityDetected n).role = s.role ∧ (s.activityDetected n).fw = s.fw ∧ (s.activityDetected n).nvs = s.nvs ∧
    (s.activityDetected n).led = s.led ∧ (s.activityDetected n).sea = s.sea ∧ (s.activityDetected n).view = s.view ∧
    (s.activityDetected n).pace = s.pace ∧ (s.activityDetected n).ets = s.ets ∧ (s.activityDetected n).pix = s.pix ∧
    (s.activityDetected n).pdp = s.pdp ∧ (s.activityDetected n).tab = s.tab ∧ (s.activityDetected n).hkc = s.hkc ∧
    (s.activityDetected n).tap = s.tap ∧ (s.activityDetected n).pad = s.pad ∧ (s.activityDetected n).pin.shade = s.pin.shade := by
  simp [State.activityDetected]

@[simp] theorem State.readParams_frame (s : State) (role fixed len : Nat) (m : Msg) :
    (s.readParams role fixed len m).s.pending = s.pending ∧ (s.readParams role fixed len m).s.free = s.free ∧
    (s.readParams role fixed len m).s.clk = s.clk ∧ (s.readParams role fixed len m).s.pwr = s.pwr ∧
    (s.readParams role fixed len m).s.rst = s.rst ∧ (s.readParams role fixed len m).s.wdg = s.wdg ∧
    (s.readParams role fixed len m).s.reg = s.reg ∧ (s.readParams role fixed len m).s.ctl = s.ctl ∧
    (s.readParams role fixed len m).s.ev = s.ev ∧ (s.readParams role fixed len m).s.par = s.par ∧
    (s.readParams role fixed len m).s.fus = s.fus ∧ (s.readParams role fixed len m).s.role = s.role ∧
    (s.readParams role fixed len m).s.fw = s.fw ∧ (s.readParams role fixed len m).s.nvs = s.nvs ∧
    (s.readParams role fixed len m).s.led = s.led ∧ (s.readParams role fixed len m).s.sea = s.sea ∧
    (s.readParams role fixed len m).s.view = s.view ∧ (s.readParams role fixed len m).s.pace = s.pace ∧
    (s.readParams role fixed len m).s.lnk = s.lnk ∧ (s.readParams role fixed len m).s.ets = s.ets ∧
    (s.readParams role fixed len m).s.pix = s.pix ∧ (s.readParams role fixed len m).s.pdp = s.pdp ∧
    (s.readParams role fixed len m).s.tab = s.tab ∧ (s.readParams role fixed len m).s.pin = s.pin ∧
    (s.readParams role fixed len m).s.hkc = s.hkc ∧ (s.readParams role fixed len m).s.tap = s.tap ∧
    (s.readParams role fixed len m).s.pad = s.pad := by
  unfold State.readParams; dsimp only; repeat' (first | (simp; done) | split)

@[simp] theorem State.put_frame (s : State) (id v : Nat) :
    (s.put id v).pending = s.pending ∧ (s.put id v).free = s.free ∧ (s.put id v).clk = s.clk ∧ (s.put id v).pwr = s.pwr ∧
    (s.put id v).rst = s.rst ∧ (s.put id v).wdg = s.wdg ∧ (s.put id v).reg = s.reg ∧ (s.put id v).ctl = s.ctl ∧
    (s.put id v).ev = s.ev ∧ (s.put id v).fus = s.fus ∧ (s.put id v).role = s.role ∧ (s.put id v).fw = s.fw ∧
    (s.put id v).led = s.led ∧ (s.put id v).sea = s.sea ∧ (s.put id v).view = s.view ∧ (s.put id v).pace = s.pace ∧
    (s.put id v).lnk = s.lnk ∧ (s.put id v).ets = s.ets ∧ (s.put id v).pix = s.pix ∧ (s.put id v).pdp = s.pdp ∧
    (s.put id v).tab = s.tab ∧ (s.put id v).pin = s.pin ∧ (s.put id v).hkc = s.hkc ∧ (s.put id v).tap = s.tap ∧
    (s.put id v).pad = s.pad ∧ (s.put id v).nvs.mem = s.nvs.mem := by
  simp [State.put]; repeat' (first | (simp; done) | split)

@[simp] theorem State.clampExposure_frame (s : State) (p : Nat) :
    (s.clampExposure p).pending = s.pending ∧ (s.clampExposure p).free = s.free ∧ (s.clampExposure p).clk = s.clk ∧
    (s.clampExposure p).pwr = s.pwr ∧ (s.clampExposure p).rst = s.rst ∧ (s.clampExposure p).wdg = s.wdg ∧
    (s.clampExposure p).reg = s.reg ∧ (s.clampExposure p).ctl = s.ctl ∧ (s.clampExposure p).ev = s.ev ∧
    (s.clampExposure p).fus = s.fus ∧ (s.clampExposure p).role = s.role ∧ (s.clampExposure p).fw = s.fw ∧
    (s.clampExposure p).nvs = s.nvs ∧ (s.clampExposure p).led = s.led ∧ (s.clampExposure p).sea = s.sea ∧
    (s.clampExposure p).view = s.view ∧ (s.clampExposure p).pace = s.pace ∧ (s.clampExposure p).lnk = s.lnk ∧
    (s.clampExposure p).ets = s.ets ∧ (s.clampExposure p).pix = s.pix ∧ (s.clampExposure p).pdp = s.pdp ∧
    (s.clampExposure p).tab = s.tab ∧ (s.clampExposure p).pin = s.pin ∧ (s.clampExposure p).hkc = s.hkc ∧
    (s.clampExposure p).tap = s.tap ∧ (s.clampExposure p).pad = s.pad := by
  simp [State.clampExposure]

@[simp] theorem State.putAll_frame (s : State) (l : List (Nat × Nat)) :
    (s.putAll l).pending = s.pending ∧ (s.putAll l).free = s.free ∧ (s.putAll l).clk = s.clk ∧ (s.putAll l).pwr = s.pwr ∧
    (s.putAll l).rst = s.rst ∧ (s.putAll l).wdg = s.wdg ∧ (s.putAll l).reg = s.reg ∧ (s.putAll l).ctl = s.ctl ∧
    (s.putAll l).ev = s.ev ∧ (s.putAll l).fus = s.fus ∧ (s.putAll l).role = s.role ∧ (s.putAll l).fw = s.fw ∧
    (s.putAll l).led = s.led ∧ (s.putAll l).sea = s.sea ∧ (s.putAll l).view = s.view ∧ (s.putAll l).pace = s.pace ∧
    (s.putAll l).lnk = s.lnk ∧ (s.putAll l).ets = s.ets ∧ (s.putAll l).pix = s.pix ∧ (s.putAll l).pdp = s.pdp ∧
    (s.putAll l).tab = s.tab ∧ (s.putAll l).pin = s.pin ∧ (s.putAll l).hkc = s.hkc ∧ (s.putAll l).tap = s.tap ∧
    (s.putAll l).pad = s.pad ∧ (s.putAll l).nvs.mem = s.nvs.mem := by
  simp [State.putAll]

@[simp] theorem State.writeTime_frame (s : State) (a : Auth) (v : Nat) :
    (s.writeTime a v).pending = s.pending ∧ (s.writeTime a v).free = s.free ∧ (s.writeTime a v).pwr = s.pwr ∧
    (s.writeTime a v).rst = s.rst ∧ (s.writeTime a v).wdg = s.wdg ∧ (s.writeTime a v).ctl = s.ctl ∧
    (s.writeTime a v).par = s.par ∧ (s.writeTime a v).fus = s.fus ∧ (s.writeTime a v).role = s.role ∧
    (s.writeTime a v).fw = s.fw ∧ (s.writeTime a v).led = s.led ∧ (s.writeTime a v).sea = s.sea ∧
    (s.writeTime a v).pace = s.pace ∧ (s.writeTime a v).ets = s.ets ∧ (s.writeTime a v).pix = s.pix ∧
    (s.writeTime a v).pdp = s.pdp ∧ (s.writeTime a v).tab = s.tab ∧ (s.writeTime a v).pin = s.pin ∧
    (s.writeTime a v).hkc = s.hkc ∧ (s.writeTime a v).tap = s.tap ∧ (s.writeTime a v).pad = s.pad ∧
    (s.writeTime a v).nvs.mem = s.nvs.mem := by
  unfold State.writeTime; split <;> simp

@[simp] theorem State.writePps_frame (s : State) (old v : Nat) :
    (s.writePps old v).pending = s.pending ∧ (s.writePps old v).free = s.free ∧ (s.writePps old v).pwr = s.pwr ∧
    (s.writePps old v).rst = s.rst ∧ (s.writePps old v).wdg = s.wdg ∧ (s.writePps old v).reg = s.reg ∧
    (s.writePps old v).ctl = s.ctl ∧ (s.writePps old v).ev = s.ev ∧ (s.writePps old v).par = s.par ∧
    (s.writePps old v).fus = s.fus ∧ (s.writePps old v).role = s.role ∧ (s.writePps old v).fw = s.fw ∧
    (s.writePps old v).led = s.led ∧ (s.writePps old v).sea = s.sea ∧ (s.writePps old v).view = s.view ∧
    (s.writePps old v).pace = s.pace ∧ (s.writePps old v).lnk = s.lnk ∧ (s.writePps old v).ets = s.ets ∧
    (s.writePps old v).pix = s.pix ∧ (s.writePps old v).pdp = s.pdp ∧ (s.writePps old v).tab = s.tab ∧
    (s.writePps old v).pin = s.pin ∧ (s.writePps old v).hkc = s.hkc ∧ (s.writePps old v).tap = s.tap ∧
    (s.writePps old v).pad = s.pad ∧ (s.writePps old v).nvs.mem = s.nvs.mem := by
  unfold State.writePps; dsimp only; repeat' (first | (simp; done) | split)

@[simp] theorem State.writeEnable_frame (s : State) (v : Nat) :
    (s.writeEnable v).pending = s.pending ∧ (s.writeEnable v).rst = s.rst ∧ (s.writeEnable v).wdg = s.wdg ∧
    (s.writeEnable v).ctl = s.ctl ∧ (s.writeEnable v).par = s.par ∧ (s.writeEnable v).fus = s.fus ∧
    (s.writeEnable v).role = s.role ∧ (s.writeEnable v).fw = s.fw ∧ (s.writeEnable v).nvs = s.nvs ∧
    (s.writeEnable v).led = s.led ∧ (s.writeEnable v).sea = s.sea ∧ (s.writeEnable v).view = s.view ∧
    (s.writeEnable v).pace = s.pace ∧ (s.writeEnable v).ets = s.ets ∧ (s.writeEnable v).pix = s.pix ∧
    (s.writeEnable v).pdp = s.pdp ∧ (s.writeEnable v).tab = s.tab ∧ (s.writeEnable v).pin = s.pin ∧
    (s.writeEnable v).hkc = s.hkc ∧ (s.writeEnable v).tap = s.tap ∧ (s.writeEnable v).pad = s.pad := by
  simp [State.writeEnable]

@[simp] theorem State.writeRate_frame (s : State) :
    s.writeRate.pending = s.pending ∧ s.writeRate.rst = s.rst ∧ s.writeRate.wdg = s.wdg ∧ s.writeRate.ctl = s.ctl ∧
    s.writeRate.par = s.par ∧ s.writeRate.fus = s.fus ∧ s.writeRate.role = s.role ∧ s.writeRate.fw = s.fw ∧
    s.writeRate.nvs = s.nvs ∧ s.writeRate.led = s.led ∧ s.writeRate.sea = s.sea ∧ s.writeRate.view = s.view ∧
    s.writeRate.pace = s.pace ∧ s.writeRate.ets = s.ets ∧ s.writeRate.pix = s.pix ∧ s.writeRate.pdp = s.pdp ∧
    s.writeRate.tab = s.tab ∧ s.writeRate.pin = s.pin ∧ s.writeRate.hkc = s.hkc ∧ s.writeRate.tap = s.tap ∧
    s.writeRate.pad = s.pad := by
  unfold State.writeRate; split <;> simp

@[simp] theorem State.writeScan_frame (s : State) :
    s.writeScan.pending = s.pending ∧ s.writeScan.free = s.free ∧ s.writeScan.clk = s.clk ∧ s.writeScan.pwr = s.pwr ∧
    s.writeScan.rst = s.rst ∧ s.writeScan.wdg = s.wdg ∧ s.writeScan.reg = s.reg ∧ s.writeScan.ctl = s.ctl ∧
    s.writeScan.ev = s.ev ∧ s.writeScan.par = s.par ∧ s.writeScan.fus = s.fus ∧ s.writeScan.role = s.role ∧
    s.writeScan.fw = s.fw ∧ s.writeScan.nvs = s.nvs ∧ s.writeScan.led = s.led ∧ s.writeScan.sea = s.sea ∧
    s.writeScan.view = s.view ∧ s.writeScan.pace = s.pace ∧ s.writeScan.lnk = s.lnk ∧ s.writeScan.ets = s.ets ∧
    s.writeScan.pix = s.pix ∧ s.writeScan.pdp = s.pdp ∧ s.writeScan.tab = s.tab ∧ s.writeScan.pin = s.pin ∧
    s.writeScan.tap = s.tap ∧ s.writeScan.pad = s.pad := by
  simp [State.writeScan]

@[simp] theorem State.paramEffect_frame (s : State) (a : Auth) (old id v : Nat) :
    (s.paramEffect a old id v).pending = s.pending ∧ (s.paramEffect a old id v).rst = s.rst ∧
    (s.paramEffect a old id v).wdg = s.wdg ∧ (s.paramEffect a old id v).ctl = s.ctl ∧ (s.paramEffect a old id v).par = s.par ∧
    (s.paramEffect a old id v).fus = s.fus ∧ (s.paramEffect a old id v).role = s.role ∧ (s.paramEffect a old id v).fw = s.fw ∧
    (s.paramEffect a old id v).led = s.led ∧ (s.paramEffect a old id v).sea = s.sea ∧
    (s.paramEffect a old id v).pace = s.pace ∧ (s.paramEffect a old id v).tab = s.tab ∧
    (s.paramEffect a old id v).tap = s.tap ∧ (s.paramEffect a old id v).pad = s.pad ∧
    (s.paramEffect a old id v).nvs.mem = s.nvs.mem := by
  unfold State.paramEffect; split <;> simp

@[simp] theorem State.applyWrites_frame (s : State) (a : Auth) (l : List (Nat × Nat)) :
    (s.applyWrites a l).pending = s.pending ∧ (s.applyWrites a l).rst = s.rst ∧ (s.applyWrites a l).wdg = s.wdg ∧
    (s.applyWrites a l).ctl = s.ctl ∧ (s.applyWrites a l).fus = s.fus ∧ (s.applyWrites a l).role = s.role ∧
    (s.applyWrites a l).fw = s.fw ∧ (s.applyWrites a l).led = s.led ∧ (s.applyWrites a l).sea = s.sea ∧
    (s.applyWrites a l).pace = s.pace ∧ (s.applyWrites a l).tab = s.tab ∧ (s.applyWrites a l).tap = s.tap ∧
    (s.applyWrites a l).pad = s.pad ∧ (s.applyWrites a l).nvs.mem = s.nvs.mem := by
  simp [State.applyWrites]

@[simp] theorem State.bumpSerial_frame (s : State) :
    s.bumpSerial.pending = s.pending ∧ s.bumpSerial.free = s.free ∧ s.bumpSerial.clk = s.clk ∧ s.bumpSerial.pwr = s.pwr ∧
    s.bumpSerial.rst = s.rst ∧ s.bumpSerial.wdg = s.wdg ∧ s.bumpSerial.reg = s.reg ∧ s.bumpSerial.ev = s.ev ∧
    s.bumpSerial.par = s.par ∧ s.bumpSerial.fus = s.fus ∧ s.bumpSerial.role = s.role ∧ s.bumpSerial.fw = s.fw ∧
    s.bumpSerial.nvs = s.nvs ∧ s.bumpSerial.led = s.led ∧ s.bumpSerial.sea = s.sea ∧ s.bumpSerial.view = s.view ∧
    s.bumpSerial.pace = s.pace ∧ s.bumpSerial.lnk = s.lnk ∧ s.bumpSerial.ets = s.ets ∧ s.bumpSerial.pix = s.pix ∧
    s.bumpSerial.pdp = s.pdp ∧ s.bumpSerial.tab = s.tab ∧ s.bumpSerial.pin = s.pin ∧ s.bumpSerial.hkc = s.hkc ∧
    s.bumpSerial.tap = s.tap ∧ s.bumpSerial.pad = s.pad := by
  simp [State.bumpSerial]

@[simp] theorem State.setParams_frame (s : State) (m : Msg) (l : List (Nat × Nat)) :
    (s.setParams m l).s.pending = s.pending ∧ (s.setParams m l).s.fus = s.fus ∧ (s.setParams m l).s.role = s.role ∧
    (s.setParams m l).s.fw = s.fw ∧ (s.setParams m l).s.pace = s.pace ∧ (s.setParams m l).s.tab = s.tab ∧
    (s.setParams m l).s.tap = s.tap ∧ (s.setParams m l).s.pad = s.pad := by
  simp [State.setParams]

@[simp] theorem State.paramSet_frame (s : State) (m : Msg) :
    (s.paramSet m).s.pending = s.pending ∧ (s.paramSet m).s.fus = s.fus ∧ (s.paramSet m).s.role = s.role ∧
    (s.paramSet m).s.fw = s.fw ∧ (s.paramSet m).s.pace = s.pace ∧ (s.paramSet m).s.tab = s.tab ∧ (s.paramSet m).s.tap = s.tap ∧
    (s.paramSet m).s.pad = s.pad := by
  simp [State.paramSet]; repeat' (first | (simp; done) | split)

@[simp] theorem State.fillBulk_frame (s : State) (b : Bytes) :
    (s.fillBulk b).pending = s.pending ∧ (s.fillBulk b).free = s.free ∧ (s.fillBulk b).clk = s.clk ∧
    (s.fillBulk b).pwr = s.pwr ∧ (s.fillBulk b).rst = s.rst ∧ (s.fillBulk b).wdg = s.wdg ∧ (s.fillBulk b).ev = s.ev ∧
    (s.fillBulk b).par = s.par ∧ (s.fillBulk b).fus = s.fus ∧ (s.fillBulk b).role = s.role ∧ (s.fillBulk b).fw = s.fw ∧
    (s.fillBulk b).nvs = s.nvs ∧ (s.fillBulk b).led = s.led ∧ (s.fillBulk b).sea = s.sea ∧ (s.fillBulk b).view = s.view ∧
    (s.fillBulk b).pace = s.pace ∧ (s.fillBulk b).lnk = s.lnk ∧ (s.fillBulk b).ets = s.ets ∧ (s.fillBulk b).pix = s.pix ∧
    (s.fillBulk b).pdp = s.pdp ∧ (s.fillBulk b).tab = s.tab ∧ (s.fillBulk b).pin = s.pin ∧ (s.fillBulk b).hkc = s.hkc ∧
    (s.fillBulk b).tap = s.tap ∧ (s.fillBulk b).pad = s.pad := by
  simp [State.fillBulk]

@[simp] theorem State.pinSet_frame (s : State) (o copied : Nat) :
    (s.pinSet o copied).pending = s.pending ∧ (s.pinSet o copied).free = s.free ∧ (s.pinSet o copied).clk = s.clk ∧
    (s.pinSet o copied).pwr = s.pwr ∧ (s.pinSet o copied).rst = s.rst ∧ (s.pinSet o copied).wdg = s.wdg ∧
    (s.pinSet o copied).reg = s.reg ∧ (s.pinSet o copied).ctl = s.ctl ∧ (s.pinSet o copied).ev = s.ev ∧
    (s.pinSet o copied).par = s.par ∧ (s.pinSet o copied).fus = s.fus ∧ (s.pinSet o copied).role = s.role ∧
    (s.pinSet o copied).fw = s.fw ∧ (s.pinSet o copied).nvs = s.nvs ∧ (s.pinSet o copied).led = s.led ∧
    (s.pinSet o copied).sea = s.sea ∧ (s.pinSet o copied).view = s.view ∧ (s.pinSet o copied).pace = s.pace ∧
    (s.pinSet o copied).lnk = s.lnk ∧ (s.pinSet o copied).ets = s.ets ∧ (s.pinSet o copied).pix = s.pix ∧
    (s.pinSet o copied).tab = s.tab ∧ (s.pinSet o copied).pin = s.pin ∧ (s.pinSet o copied).hkc = s.hkc ∧
    (s.pinSet o copied).tap = s.tap ∧ (s.pinSet o copied).pad = s.pad := by
  unfold State.pinSet; split <;> simp

@[simp] theorem State.copyPart_frame (s : State) (m : Msg) (table o serial : Nat) (data : Bytes) :
    (s.copyPart m table o serial data).s.pending = s.pending ∧ (s.copyPart m table o serial data).s.free = s.free ∧
    (s.copyPart m table o serial data).s.clk = s.clk ∧ (s.copyPart m table o serial data).s.pwr = s.pwr ∧
    (s.copyPart m table o serial data).s.rst = s.rst ∧ (s.copyPart m table o serial data).s.wdg = s.wdg ∧
    (s.copyPart m table o serial data).s.ev = s.ev ∧ (s.copyPart m table o serial data).s.par = s.par ∧
    (s.copyPart m table o serial data).s.fus = s.fus ∧ (s.copyPart m table o serial data).s.role = s.role ∧
    (s.copyPart m table o serial data).s.fw = s.fw ∧ (s.copyPart m table o serial data).s.nvs = s.nvs ∧
    (s.copyPart m table o serial data).s.led = s.led ∧ (s.copyPart m table o serial data).s.sea = s.sea ∧
    (s.copyPart m table o serial data).s.view = s.view ∧ (s.copyPart m table o serial data).s.pace = s.pace ∧
    (s.copyPart m table o serial data).s.lnk = s.lnk ∧ (s.copyPart m table o serial data).s.ets = s.ets ∧
    (s.copyPart m table o serial data).s.pix = s.pix ∧ (s.copyPart m table o serial data).s.tab = s.tab ∧
    (s.copyPart m table o serial data).s.pin = s.pin ∧ (s.copyPart m table o serial data).s.hkc = s.hkc ∧
    (s.copyPart m table o serial data).s.tap = s.tap ∧ (s.copyPart m table o serial data).s.pad = s.pad := by
  simp [State.copyPart]

@[simp] theorem State.tableRead_frame (s : State) (m : Msg) :
    (s.tableRead m).s.pending = s.pending ∧ (s.tableRead m).s.free = s.free ∧ (s.tableRead m).s.clk = s.clk ∧
    (s.tableRead m).s.pwr = s.pwr ∧ (s.tableRead m).s.rst = s.rst ∧ (s.tableRead m).s.wdg = s.wdg ∧
    (s.tableRead m).s.ev = s.ev ∧ (s.tableRead m).s.par = s.par ∧ (s.tableRead m).s.fus = s.fus ∧
    (s.tableRead m).s.role = s.role ∧ (s.tableRead m).s.fw = s.fw ∧ (s.tableRead m).s.nvs = s.nvs ∧
    (s.tableRead m).s.led = s.led ∧ (s.tableRead m).s.sea = s.sea ∧ (s.tableRead m).s.view = s.view ∧
    (s.tableRead m).s.pace = s.pace ∧ (s.tableRead m).s.lnk = s.lnk ∧ (s.tableRead m).s.ets = s.ets ∧
    (s.tableRead m).s.pix = s.pix ∧ (s.tableRead m).s.tab = s.tab ∧ (s.tableRead m).s.pin = s.pin ∧
    (s.tableRead m).s.hkc = s.hkc ∧ (s.tableRead m).s.tap = s.tap ∧ (s.tableRead m).s.pad = s.pad := by
  unfold State.tableRead State.check; dsimp only; repeat' (first | (simp; done) | split)

@[simp] theorem State.stage_frame (s : State) (t : Option TableStaging) :
    (s.stage t).pending = s.pending ∧ (s.stage t).free = s.free ∧ (s.stage t).clk = s.clk ∧ (s.stage t).pwr = s.pwr ∧
    (s.stage t).rst = s.rst ∧ (s.stage t).wdg = s.wdg ∧ (s.stage t).reg = s.reg ∧ (s.stage t).ctl = s.ctl ∧
    (s.stage t).ev = s.ev ∧ (s.stage t).par = s.par ∧ (s.stage t).fus = s.fus ∧ (s.stage t).role = s.role ∧
    (s.stage t).fw = s.fw ∧ (s.stage t).nvs = s.nvs ∧ (s.stage t).led = s.led ∧ (s.stage t).sea = s.sea ∧
    (s.stage t).view = s.view ∧ (s.stage t).pace = s.pace ∧ (s.stage t).lnk = s.lnk ∧ (s.stage t).ets = s.ets ∧
    (s.stage t).pix = s.pix ∧ (s.stage t).pdp = s.pdp ∧ (s.stage t).pin = s.pin ∧ (s.stage t).hkc = s.hkc ∧
    (s.stage t).tap = s.tap ∧ (s.stage t).pad = s.pad := by
  simp [State.stage]

@[simp] theorem State.setTilemap_frame (s : State) (b : Bytes) :
    (s.setTilemap b).pending = s.pending ∧ (s.setTilemap b).free = s.free ∧ (s.setTilemap b).clk = s.clk ∧
    (s.setTilemap b).pwr = s.pwr ∧ (s.setTilemap b).rst = s.rst ∧ (s.setTilemap b).wdg = s.wdg ∧ (s.setTilemap b).reg = s.reg ∧
    (s.setTilemap b).ctl = s.ctl ∧ (s.setTilemap b).ev = s.ev ∧ (s.setTilemap b).par = s.par ∧ (s.setTilemap b).fus = s.fus ∧
    (s.setTilemap b).role = s.role ∧ (s.setTilemap b).fw = s.fw ∧ (s.setTilemap b).nvs = s.nvs ∧ (s.setTilemap b).led = s.led ∧
    (s.setTilemap b).sea = s.sea ∧ (s.setTilemap b).view = s.view ∧ (s.setTilemap b).pace = s.pace ∧
    (s.setTilemap b).lnk = s.lnk ∧ (s.setTilemap b).pix = s.pix ∧ (s.setTilemap b).pdp = s.pdp ∧ (s.setTilemap b).pin = s.pin ∧
    (s.setTilemap b).hkc = s.hkc ∧ (s.setTilemap b).tap = s.tap ∧ (s.setTilemap b).pad = s.pad := by
  simp [State.setTilemap]

@[simp] theorem State.keepPart_frame (s : State) (t : TableStaging) (o n : Nat) :
    (s.keepPart t o n).s.pending = s.pending ∧ (s.keepPart t o n).s.free = s.free ∧ (s.keepPart t o n).s.clk = s.clk ∧
    (s.keepPart t o n).s.pwr = s.pwr ∧ (s.keepPart t o n).s.rst = s.rst ∧ (s.keepPart t o n).s.wdg = s.wdg ∧
    (s.keepPart t o n).s.reg = s.reg ∧ (s.keepPart t o n).s.ctl = s.ctl ∧ (s.keepPart t o n).s.ev = s.ev ∧
    (s.keepPart t o n).s.par = s.par ∧ (s.keepPart t o n).s.fus = s.fus ∧ (s.keepPart t o n).s.role = s.role ∧
    (s.keepPart t o n).s.fw = s.fw ∧ (s.keepPart t o n).s.led = s.led ∧ (s.keepPart t o n).s.sea = s.sea ∧
    (s.keepPart t o n).s.view = s.view ∧ (s.keepPart t o n).s.pace = s.pace ∧ (s.keepPart t o n).s.lnk = s.lnk ∧
    (s.keepPart t o n).s.ets = s.ets ∧ (s.keepPart t o n).s.pix = s.pix ∧ (s.keepPart t o n).s.pdp = s.pdp ∧
    (s.keepPart t o n).s.pin = s.pin ∧ (s.keepPart t o n).s.hkc = s.hkc ∧ (s.keepPart t o n).s.tap = s.tap ∧
    (s.keepPart t o n).s.pad = s.pad ∧ (s.keepPart t o n).s.nvs.mem = s.nvs.mem := by
  simp [State.keepPart]

@[simp] theorem State.completeTable_frame (s : State) (m : Msg) (t : TableStaging) (o n : Nat) :
    (s.completeTable m t o n).s.pending = s.pending ∧ (s.completeTable m t o n).s.clk = s.clk ∧
    (s.completeTable m t o n).s.reg = s.reg ∧ (s.completeTable m t o n).s.ev = s.ev ∧ (s.completeTable m t o n).s.fus = s.fus ∧
    (s.completeTable m t o n).s.role = s.role ∧ (s.completeTable m t o n).s.fw = s.fw ∧
    (s.completeTable m t o n).s.pace = s.pace ∧ (s.completeTable m t o n).s.pix = s.pix ∧
    (s.completeTable m t o n).s.pdp = s.pdp ∧ (s.completeTable m t o n).s.pin = s.pin ∧
    (s.completeTable m t o n).s.hkc = s.hkc ∧ (s.completeTable m t o n).s.tap = s.tap ∧ (s.completeTable m t o n).s.pad = s.pad
        := by
  simp [State.completeTable]

@[simp] theorem State.takePart_frame (s : State) (m : Msg) (old : TableStaging) :
    (s.takePart m old).s.pending = s.pending ∧ (s.takePart m old).s.clk = s.clk ∧ (s.takePart m old).s.reg = s.reg ∧
    (s.takePart m old).s.ev = s.ev ∧ (s.takePart m old).s.fus = s.fus ∧ (s.takePart m old).s.role = s.role ∧
    (s.takePart m old).s.fw = s.fw ∧ (s.takePart m old).s.pace = s.pace ∧ (s.takePart m old).s.pix = s.pix ∧
    (s.takePart m old).s.pdp = s.pdp ∧ (s.takePart m old).s.pin = s.pin ∧ (s.takePart m old).s.hkc = s.hkc ∧
    (s.takePart m old).s.tap = s.tap ∧ (s.takePart m old).s.pad = s.pad := by
  simp [State.takePart]

@[simp] theorem State.tableWrite_frame (s : State) (m : Msg) :
    (s.tableWrite m).s.pending = s.pending ∧ (s.tableWrite m).s.clk = s.clk ∧ (s.tableWrite m).s.reg = s.reg ∧
    (s.tableWrite m).s.ev = s.ev ∧ (s.tableWrite m).s.fus = s.fus ∧ (s.tableWrite m).s.role = s.role ∧
    (s.tableWrite m).s.fw = s.fw ∧ (s.tableWrite m).s.pace = s.pace ∧ (s.tableWrite m).s.pix = s.pix ∧
    (s.tableWrite m).s.pdp = s.pdp ∧ (s.tableWrite m).s.pin = s.pin ∧ (s.tableWrite m).s.hkc = s.hkc ∧
    (s.tableWrite m).s.tap = s.tap ∧ (s.tableWrite m).s.pad = s.pad := by
  unfold State.tableWrite State.check; dsimp only; repeat' (first | (simp; done) | split)

@[simp] theorem State.answerSealCert_frame (s : State) (m : Msg) :
    (s.answerSealCert m).s.pending = s.pending ∧ (s.answerSealCert m).s.free = s.free ∧ (s.answerSealCert m).s.clk = s.clk ∧
    (s.answerSealCert m).s.pwr = s.pwr ∧ (s.answerSealCert m).s.rst = s.rst ∧ (s.answerSealCert m).s.wdg = s.wdg ∧
    (s.answerSealCert m).s.reg = s.reg ∧ (s.answerSealCert m).s.ctl = s.ctl ∧ (s.answerSealCert m).s.ev = s.ev ∧
    (s.answerSealCert m).s.par = s.par ∧ (s.answerSealCert m).s.fus = s.fus ∧ (s.answerSealCert m).s.role = s.role ∧
    (s.answerSealCert m).s.fw = s.fw ∧ (s.answerSealCert m).s.nvs = s.nvs ∧ (s.answerSealCert m).s.led = s.led ∧
    (s.answerSealCert m).s.sea = s.sea ∧ (s.answerSealCert m).s.view = s.view ∧ (s.answerSealCert m).s.pace = s.pace ∧
    (s.answerSealCert m).s.lnk = s.lnk ∧ (s.answerSealCert m).s.ets = s.ets ∧ (s.answerSealCert m).s.pix = s.pix ∧
    (s.answerSealCert m).s.pdp = s.pdp ∧ (s.answerSealCert m).s.tab = s.tab ∧ (s.answerSealCert m).s.pin = s.pin ∧
    (s.answerSealCert m).s.hkc = s.hkc ∧ (s.answerSealCert m).s.tap = s.tap ∧ (s.answerSealCert m).s.pad = s.pad := by
  unfold State.answerSealCert State.check; dsimp only; repeat' (first | (simp; done) | split)

@[simp] theorem State.resign_frame (s : State) (m : Msg) (l : List Word) :
    (s.resign m l).s.pending = s.pending ∧ (s.resign m l).s.free = s.free ∧ (s.resign m l).s.clk = s.clk ∧
    (s.resign m l).s.reg = s.reg ∧ (s.resign m l).s.ctl = s.ctl ∧ (s.resign m l).s.ev = s.ev ∧ (s.resign m l).s.par = s.par ∧
    (s.resign m l).s.fus = s.fus ∧ (s.resign m l).s.role = s.role ∧ (s.resign m l).s.fw = s.fw ∧
    (s.resign m l).s.pace = s.pace ∧ (s.resign m l).s.ets = s.ets ∧ (s.resign m l).s.tab = s.tab ∧
    (s.resign m l).s.pin = s.pin ∧ (s.resign m l).s.hkc = s.hkc ∧ (s.resign m l).s.tap = s.tap ∧ (s.resign m l).s.pad = s.pad
        := by
  simp [State.resign]

@[simp] theorem State.sealResign_frame (s : State) (m : Msg) :
    (s.sealResign m).s.pending = s.pending ∧ (s.sealResign m).s.free = s.free ∧ (s.sealResign m).s.clk = s.clk ∧
    (s.sealResign m).s.reg = s.reg ∧ (s.sealResign m).s.ctl = s.ctl ∧ (s.sealResign m).s.ev = s.ev ∧
    (s.sealResign m).s.par = s.par ∧ (s.sealResign m).s.fus = s.fus ∧ (s.sealResign m).s.role = s.role ∧
    (s.sealResign m).s.fw = s.fw ∧ (s.sealResign m).s.pace = s.pace ∧ (s.sealResign m).s.ets = s.ets ∧
    (s.sealResign m).s.tab = s.tab ∧ (s.sealResign m).s.pin = s.pin ∧ (s.sealResign m).s.hkc = s.hkc ∧
    (s.sealResign m).s.tap = s.tap ∧ (s.sealResign m).s.pad = s.pad := by
  simp [State.sealResign]

@[simp] theorem State.copyEntries_frame (s : State) (m : Msg) (first : Word) (l : List Word) :
    (s.copyEntries m first l).s.pending = s.pending ∧ (s.copyEntries m first l).s.free = s.free ∧
    (s.copyEntries m first l).s.clk = s.clk ∧ (s.copyEntries m first l).s.pwr = s.pwr ∧
    (s.copyEntries m first l).s.rst = s.rst ∧ (s.copyEntries m first l).s.wdg = s.wdg ∧ (s.copyEntries m first l).s.ev = s.ev ∧
    (s.copyEntries m first l).s.par = s.par ∧ (s.copyEntries m first l).s.fus = s.fus ∧
    (s.copyEntries m first l).s.role = s.role ∧ (s.copyEntries m first l).s.fw = s.fw ∧
    (s.copyEntries m first l).s.led = s.led ∧ (s.copyEntries m first l).s.sea = s.sea ∧
    (s.copyEntries m first l).s.view = s.view ∧ (s.copyEntries m first l).s.pace = s.pace ∧
    (s.copyEntries m first l).s.lnk = s.lnk ∧ (s.copyEntries m first l).s.ets = s.ets ∧
    (s.copyEntries m first l).s.pix = s.pix ∧ (s.copyEntries m first l).s.pdp = s.pdp ∧
    (s.copyEntries m first l).s.tab = s.tab ∧ (s.copyEntries m first l).s.pin = s.pin ∧
    (s.copyEntries m first l).s.hkc = s.hkc ∧ (s.copyEntries m first l).s.tap = s.tap ∧
    (s.copyEntries m first l).s.pad = s.pad ∧ (s.copyEntries m first l).s.nvs.mem = s.nvs.mem := by
  simp [State.copyEntries]

@[simp] theorem State.ledgerRead_frame (s : State) (m : Msg) :
    (s.ledgerRead m).s.pending = s.pending ∧ (s.ledgerRead m).s.free = s.free ∧ (s.ledgerRead m).s.clk = s.clk ∧
    (s.ledgerRead m).s.pwr = s.pwr ∧ (s.ledgerRead m).s.rst = s.rst ∧ (s.ledgerRead m).s.wdg = s.wdg ∧
    (s.ledgerRead m).s.ev = s.ev ∧ (s.ledgerRead m).s.par = s.par ∧ (s.ledgerRead m).s.fus = s.fus ∧
    (s.ledgerRead m).s.role = s.role ∧ (s.ledgerRead m).s.fw = s.fw ∧ (s.ledgerRead m).s.led = s.led ∧
    (s.ledgerRead m).s.sea = s.sea ∧ (s.ledgerRead m).s.view = s.view ∧ (s.ledgerRead m).s.pace = s.pace ∧
    (s.ledgerRead m).s.lnk = s.lnk ∧ (s.ledgerRead m).s.ets = s.ets ∧ (s.ledgerRead m).s.pix = s.pix ∧
    (s.ledgerRead m).s.pdp = s.pdp ∧ (s.ledgerRead m).s.tab = s.tab ∧ (s.ledgerRead m).s.pin = s.pin ∧
    (s.ledgerRead m).s.hkc = s.hkc ∧ (s.ledgerRead m).s.tap = s.tap ∧ (s.ledgerRead m).s.pad = s.pad ∧
    (s.ledgerRead m).s.nvs.mem = s.nvs.mem := by
  simp [State.ledgerRead]

@[simp] theorem State.startEpoch_frame (s : State) (m : Msg) :
    (s.startEpoch m).s.pending = s.pending ∧ (s.startEpoch m).s.free = s.free ∧ (s.startEpoch m).s.clk = s.clk ∧
    (s.startEpoch m).s.pwr = s.pwr ∧ (s.startEpoch m).s.rst = s.rst ∧ (s.startEpoch m).s.wdg = s.wdg ∧
    (s.startEpoch m).s.reg = s.reg ∧ (s.startEpoch m).s.ctl = s.ctl ∧ (s.startEpoch m).s.ev = s.ev ∧
    (s.startEpoch m).s.par = s.par ∧ (s.startEpoch m).s.fus = s.fus ∧ (s.startEpoch m).s.role = s.role ∧
    (s.startEpoch m).s.fw = s.fw ∧ (s.startEpoch m).s.nvs = s.nvs ∧ (s.startEpoch m).s.sea = s.sea ∧
    (s.startEpoch m).s.view = s.view ∧ (s.startEpoch m).s.pace = s.pace ∧ (s.startEpoch m).s.lnk = s.lnk ∧
    (s.startEpoch m).s.ets = s.ets ∧ (s.startEpoch m).s.pix = s.pix ∧ (s.startEpoch m).s.pdp = s.pdp ∧
    (s.startEpoch m).s.tab = s.tab ∧ (s.startEpoch m).s.pin = s.pin ∧ (s.startEpoch m).s.hkc = s.hkc ∧
    (s.startEpoch m).s.tap = s.tap ∧ (s.startEpoch m).s.pad = s.pad := by
  simp [State.startEpoch]

@[simp] theorem State.ledgerEpoch_frame (s : State) (m : Msg) :
    (s.ledgerEpoch m).s.pending = s.pending ∧ (s.ledgerEpoch m).s.free = s.free ∧ (s.ledgerEpoch m).s.clk = s.clk ∧
    (s.ledgerEpoch m).s.pwr = s.pwr ∧ (s.ledgerEpoch m).s.rst = s.rst ∧ (s.ledgerEpoch m).s.wdg = s.wdg ∧
    (s.ledgerEpoch m).s.reg = s.reg ∧ (s.ledgerEpoch m).s.ctl = s.ctl ∧ (s.ledgerEpoch m).s.ev = s.ev ∧
    (s.ledgerEpoch m).s.par = s.par ∧ (s.ledgerEpoch m).s.fus = s.fus ∧ (s.ledgerEpoch m).s.role = s.role ∧
    (s.ledgerEpoch m).s.fw = s.fw ∧ (s.ledgerEpoch m).s.nvs = s.nvs ∧ (s.ledgerEpoch m).s.sea = s.sea ∧
    (s.ledgerEpoch m).s.view = s.view ∧ (s.ledgerEpoch m).s.pace = s.pace ∧ (s.ledgerEpoch m).s.lnk = s.lnk ∧
    (s.ledgerEpoch m).s.ets = s.ets ∧ (s.ledgerEpoch m).s.pix = s.pix ∧ (s.ledgerEpoch m).s.pdp = s.pdp ∧
    (s.ledgerEpoch m).s.tab = s.tab ∧ (s.ledgerEpoch m).s.pin = s.pin ∧ (s.ledgerEpoch m).s.hkc = s.hkc ∧
    (s.ledgerEpoch m).s.tap = s.tap ∧ (s.ledgerEpoch m).s.pad = s.pad := by
  simp [State.ledgerEpoch]

@[simp] theorem State.certGet_frame (s : State) (m : Msg) :
    (s.certGet m).s.pending = s.pending ∧ (s.certGet m).s.free = s.free ∧ (s.certGet m).s.clk = s.clk ∧
    (s.certGet m).s.pwr = s.pwr ∧ (s.certGet m).s.rst = s.rst ∧ (s.certGet m).s.wdg = s.wdg ∧ (s.certGet m).s.reg = s.reg ∧
    (s.certGet m).s.ctl = s.ctl ∧ (s.certGet m).s.ev = s.ev ∧ (s.certGet m).s.par = s.par ∧ (s.certGet m).s.fus = s.fus ∧
    (s.certGet m).s.role = s.role ∧ (s.certGet m).s.fw = s.fw ∧ (s.certGet m).s.nvs = s.nvs ∧ (s.certGet m).s.led = s.led ∧
    (s.certGet m).s.sea = s.sea ∧ (s.certGet m).s.view = s.view ∧ (s.certGet m).s.pace = s.pace ∧ (s.certGet m).s.lnk = s.lnk ∧
    (s.certGet m).s.ets = s.ets ∧ (s.certGet m).s.pix = s.pix ∧ (s.certGet m).s.pdp = s.pdp ∧ (s.certGet m).s.tab = s.tab ∧
    (s.certGet m).s.pin = s.pin ∧ (s.certGet m).s.hkc = s.hkc ∧ (s.certGet m).s.tap = s.tap ∧ (s.certGet m).s.pad = s.pad := by
  unfold State.certGet State.check; dsimp only; repeat' (first | (simp; done) | split)

@[simp] theorem State.certIdentity_frame (s : State) :
    s.certIdentity.s.pending = s.pending ∧ s.certIdentity.s.free = s.free ∧ s.certIdentity.s.clk = s.clk ∧
    s.certIdentity.s.pwr = s.pwr ∧ s.certIdentity.s.rst = s.rst ∧ s.certIdentity.s.wdg = s.wdg ∧ s.certIdentity.s.reg = s.reg ∧
    s.certIdentity.s.ctl = s.ctl ∧ s.certIdentity.s.ev = s.ev ∧ s.certIdentity.s.par = s.par ∧ s.certIdentity.s.fus = s.fus ∧
    s.certIdentity.s.role = s.role ∧ s.certIdentity.s.fw = s.fw ∧ s.certIdentity.s.nvs = s.nvs ∧ s.certIdentity.s.led = s.led ∧
    s.certIdentity.s.sea = s.sea ∧ s.certIdentity.s.view = s.view ∧ s.certIdentity.s.pace = s.pace ∧
    s.certIdentity.s.lnk = s.lnk ∧ s.certIdentity.s.ets = s.ets ∧ s.certIdentity.s.pix = s.pix ∧ s.certIdentity.s.pdp = s.pdp ∧
    s.certIdentity.s.tab = s.tab ∧ s.certIdentity.s.pin = s.pin ∧ s.certIdentity.s.hkc = s.hkc ∧ s.certIdentity.s.tap = s.tap ∧
    s.certIdentity.s.pad = s.pad := by
  unfold State.certIdentity State.check; dsimp only; repeat' (first | (simp; done) | split)

@[simp] theorem State.certStore_frame (s : State) (m : Msg) :
    (s.certStore m).s.pending = s.pending ∧ (s.certStore m).s.free = s.free ∧ (s.certStore m).s.clk = s.clk ∧
    (s.certStore m).s.pwr = s.pwr ∧ (s.certStore m).s.rst = s.rst ∧ (s.certStore m).s.wdg = s.wdg ∧
    (s.certStore m).s.reg = s.reg ∧ (s.certStore m).s.ctl = s.ctl ∧ (s.certStore m).s.ev = s.ev ∧
    (s.certStore m).s.fus = s.fus ∧ (s.certStore m).s.fw = s.fw ∧ (s.certStore m).s.led = s.led ∧
    (s.certStore m).s.sea = s.sea ∧ (s.certStore m).s.view = s.view ∧ (s.certStore m).s.pace = s.pace ∧
    (s.certStore m).s.lnk = s.lnk ∧ (s.certStore m).s.ets = s.ets ∧ (s.certStore m).s.pix = s.pix ∧
    (s.certStore m).s.pdp = s.pdp ∧ (s.certStore m).s.tab = s.tab ∧ (s.certStore m).s.pin = s.pin ∧
    (s.certStore m).s.hkc = s.hkc ∧ (s.certStore m).s.tap = s.tap ∧ (s.certStore m).s.pad = s.pad ∧
    (s.certStore m).s.nvs.mem = s.nvs.mem := by
  unfold State.certStore State.check; dsimp only; repeat' (first | (simp; done) | split)

@[simp] theorem State.sendPacket_frame (s : State) (p : Packet) :
    (s.sendPacket p).pending = s.pending ∧ (s.sendPacket p).free = s.free ∧ (s.sendPacket p).clk = s.clk ∧
    (s.sendPacket p).pwr = s.pwr ∧ (s.sendPacket p).rst = s.rst ∧ (s.sendPacket p).wdg = s.wdg ∧ (s.sendPacket p).reg = s.reg ∧
    (s.sendPacket p).ctl = s.ctl ∧ (s.sendPacket p).ev = s.ev ∧ (s.sendPacket p).par = s.par ∧ (s.sendPacket p).fus = s.fus ∧
    (s.sendPacket p).role = s.role ∧ (s.sendPacket p).fw = s.fw ∧ (s.sendPacket p).nvs = s.nvs ∧ (s.sendPacket p).led = s.led ∧
    (s.sendPacket p).sea = s.sea ∧ (s.sendPacket p).view = s.view ∧ (s.sendPacket p).pace = s.pace ∧
    (s.sendPacket p).ets = s.ets ∧ (s.sendPacket p).pix = s.pix ∧ (s.sendPacket p).pdp = s.pdp ∧ (s.sendPacket p).tab = s.tab ∧
    (s.sendPacket p).pin = s.pin ∧ (s.sendPacket p).hkc = s.hkc ∧ (s.sendPacket p).tap = s.tap ∧ (s.sendPacket p).pad = s.pad
        := by
  simp [State.sendPacket]

@[simp] theorem State.packetBoundary_frame (s : State) :
    s.packetBoundary.pending = s.pending ∧ s.packetBoundary.rst = s.rst ∧ s.packetBoundary.ctl = s.ctl ∧
    s.packetBoundary.par = s.par ∧ s.packetBoundary.fus = s.fus ∧ s.packetBoundary.role = s.role ∧ s.packetBoundary.fw = s.fw ∧
    s.packetBoundary.nvs = s.nvs ∧ s.packetBoundary.led = s.led ∧ s.packetBoundary.pace = s.pace ∧
    s.packetBoundary.ets = s.ets ∧ s.packetBoundary.pix = s.pix ∧ s.packetBoundary.pdp = s.pdp ∧ s.packetBoundary.tab = s.tab ∧
    s.packetBoundary.pin = s.pin ∧ s.packetBoundary.hkc = s.hkc ∧ s.packetBoundary.tap = s.tap ∧ s.packetBoundary.pad = s.pad
        := by
  unfold State.packetBoundary; split <;> simp

@[simp] theorem State.sendMarkers_frame (s : State) :
    s.sendMarkers.pending = s.pending ∧ s.sendMarkers.free = s.free ∧ s.sendMarkers.clk = s.clk ∧ s.sendMarkers.pwr = s.pwr ∧
    s.sendMarkers.rst = s.rst ∧ s.sendMarkers.wdg = s.wdg ∧ s.sendMarkers.reg = s.reg ∧ s.sendMarkers.ctl = s.ctl ∧
    s.sendMarkers.ev = s.ev ∧ s.sendMarkers.par = s.par ∧ s.sendMarkers.fus = s.fus ∧ s.sendMarkers.role = s.role ∧
    s.sendMarkers.fw = s.fw ∧ s.sendMarkers.nvs = s.nvs ∧ s.sendMarkers.led = s.led ∧ s.sendMarkers.sea = s.sea ∧
    s.sendMarkers.view = s.view ∧ s.sendMarkers.pace = s.pace ∧ s.sendMarkers.ets = s.ets ∧ s.sendMarkers.pix = s.pix ∧
    s.sendMarkers.pdp = s.pdp ∧ s.sendMarkers.tab = s.tab ∧ s.sendMarkers.pin = s.pin ∧ s.sendMarkers.hkc = s.hkc ∧
    s.sendMarkers.tap = s.tap ∧ s.sendMarkers.pad = s.pad := by
  simp [State.sendMarkers]

@[simp] theorem State.onMessage_frame (s : State) (bytes : Bytes) :
    (s.onMessage bytes).pending = s.pending ∧ (s.onMessage bytes).free = s.free ∧ (s.onMessage bytes).clk = s.clk ∧
    (s.onMessage bytes).pwr = s.pwr ∧ (s.onMessage bytes).rst = s.rst ∧ (s.onMessage bytes).wdg = s.wdg ∧
    (s.onMessage bytes).reg = s.reg ∧ (s.onMessage bytes).ev = s.ev ∧ (s.onMessage bytes).par = s.par ∧
    (s.onMessage bytes).fus = s.fus ∧ (s.onMessage bytes).role = s.role ∧ (s.onMessage bytes).fw = s.fw ∧
    (s.onMessage bytes).nvs = s.nvs ∧ (s.onMessage bytes).led = s.led ∧ (s.onMessage bytes).sea = s.sea ∧
    (s.onMessage bytes).view = s.view ∧ (s.onMessage bytes).pace = s.pace ∧ (s.onMessage bytes).lnk = s.lnk ∧
    (s.onMessage bytes).ets = s.ets ∧ (s.onMessage bytes).pix = s.pix ∧ (s.onMessage bytes).pdp = s.pdp ∧
    (s.onMessage bytes).tab = s.tab ∧ (s.onMessage bytes).pin = s.pin ∧ (s.onMessage bytes).hkc = s.hkc ∧
    (s.onMessage bytes).tap = s.tap ∧ (s.onMessage bytes).pad = s.pad := by
  simp [State.onMessage]

@[simp] theorem State.onTrain_frame (s : State) (body : Bytes) :
    (s.onTrain body).pending = s.pending ∧ (s.onTrain body).rst = s.rst ∧ (s.onTrain body).wdg = s.wdg ∧
    (s.onTrain body).ctl = s.ctl ∧ (s.onTrain body).fus = s.fus ∧ (s.onTrain body).role = s.role ∧ (s.onTrain body).fw = s.fw ∧
    (s.onTrain body).nvs = s.nvs ∧ (s.onTrain body).led = s.led ∧ (s.onTrain body).sea = s.sea ∧
    (s.onTrain body).view = s.view ∧ (s.onTrain body).pace = s.pace ∧ (s.onTrain body).ets = s.ets ∧
    (s.onTrain body).pix = s.pix ∧ (s.onTrain body).pdp = s.pdp ∧ (s.onTrain body).tab = s.tab ∧ (s.onTrain body).pin = s.pin ∧
    (s.onTrain body).hkc = s.hkc ∧ (s.onTrain body).tap = s.tap ∧ (s.onTrain body).pad = s.pad := by
  unfold State.onTrain; split <;> simp

@[simp] theorem State.onPacket_frame (s : State) (p : Bytes) :
    (s.onPacket p).pending = s.pending ∧ (s.onPacket p).rst = s.rst ∧ (s.onPacket p).wdg = s.wdg ∧ (s.onPacket p).fus = s.fus ∧
    (s.onPacket p).role = s.role ∧ (s.onPacket p).fw = s.fw ∧ (s.onPacket p).nvs = s.nvs ∧ (s.onPacket p).led = s.led ∧
    (s.onPacket p).sea = s.sea ∧ (s.onPacket p).view = s.view ∧ (s.onPacket p).pace = s.pace ∧ (s.onPacket p).ets = s.ets ∧
    (s.onPacket p).pix = s.pix ∧ (s.onPacket p).pdp = s.pdp ∧ (s.onPacket p).tab = s.tab ∧ (s.onPacket p).pin = s.pin ∧
    (s.onPacket p).hkc = s.hkc ∧ (s.onPacket p).tap = s.tap ∧ (s.onPacket p).pad = s.pad := by
  unfold State.onPacket; dsimp only; repeat' (first | (simp; done) | split)

@[simp] theorem State.receiveBlock_frame (s : State) (b : BitVec 257) :
    (s.receiveBlock b).pending = s.pending ∧ (s.receiveBlock b).rst = s.rst ∧ (s.receiveBlock b).wdg = s.wdg ∧
    (s.receiveBlock b).fus = s.fus ∧ (s.receiveBlock b).role = s.role ∧ (s.receiveBlock b).fw = s.fw ∧
    (s.receiveBlock b).nvs = s.nvs ∧ (s.receiveBlock b).led = s.led ∧ (s.receiveBlock b).sea = s.sea ∧
    (s.receiveBlock b).view = s.view ∧ (s.receiveBlock b).pace = s.pace ∧ (s.receiveBlock b).ets = s.ets ∧
    (s.receiveBlock b).pix = s.pix ∧ (s.receiveBlock b).pdp = s.pdp ∧ (s.receiveBlock b).tab = s.tab ∧
    (s.receiveBlock b).pin = s.pin ∧ (s.receiveBlock b).hkc = s.hkc ∧ (s.receiveBlock b).tap = s.tap ∧
    (s.receiveBlock b).pad = s.pad := by
  simp [State.receiveBlock]

@[simp] theorem State.takeCodeword_frame (s : State) (symbols : List (BitVec 10)) :
    (s.takeCodeword symbols).pending = s.pending ∧ (s.takeCodeword symbols).rst = s.rst ∧
    (s.takeCodeword symbols).wdg = s.wdg ∧ (s.takeCodeword symbols).fus = s.fus ∧ (s.takeCodeword symbols).role = s.role ∧
    (s.takeCodeword symbols).fw = s.fw ∧ (s.takeCodeword symbols).nvs = s.nvs ∧ (s.takeCodeword symbols).led = s.led ∧
    (s.takeCodeword symbols).sea = s.sea ∧ (s.takeCodeword symbols).view = s.view ∧ (s.takeCodeword symbols).pace = s.pace ∧
    (s.takeCodeword symbols).ets = s.ets ∧ (s.takeCodeword symbols).pix = s.pix ∧ (s.takeCodeword symbols).pdp = s.pdp ∧
    (s.takeCodeword symbols).tab = s.tab ∧ (s.takeCodeword symbols).pin = s.pin ∧ (s.takeCodeword symbols).hkc = s.hkc ∧
    (s.takeCodeword symbols).tap = s.tap ∧ (s.takeCodeword symbols).pad = s.pad := by
  unfold State.takeCodeword; split <;> simp

@[simp] theorem State.receiveCodeword_frame (s : State) (symbols : List (BitVec 10)) :
    (s.receiveCodeword symbols).pending = s.pending ∧ (s.receiveCodeword symbols).rst = s.rst ∧
    (s.receiveCodeword symbols).wdg = s.wdg ∧ (s.receiveCodeword symbols).fus = s.fus ∧
    (s.receiveCodeword symbols).role = s.role ∧ (s.receiveCodeword symbols).fw = s.fw ∧
    (s.receiveCodeword symbols).nvs = s.nvs ∧ (s.receiveCodeword symbols).led = s.led ∧
    (s.receiveCodeword symbols).sea = s.sea ∧ (s.receiveCodeword symbols).view = s.view ∧
    (s.receiveCodeword symbols).pace = s.pace ∧ (s.receiveCodeword symbols).ets = s.ets ∧
    (s.receiveCodeword symbols).pix = s.pix ∧ (s.receiveCodeword symbols).pdp = s.pdp ∧
    (s.receiveCodeword symbols).tab = s.tab ∧ (s.receiveCodeword symbols).pin = s.pin ∧
    (s.receiveCodeword symbols).hkc = s.hkc ∧ (s.receiveCodeword symbols).tap = s.tap ∧ (s.receiveCodeword symbols).pad = s.pad
        := by
  unfold State.receiveCodeword; split <;> simp

@[simp] theorem State.overrunShade_frame (s : State) (q : Nat) :
    (s.overrunShade q).pending = s.pending ∧ (s.overrunShade q).free = s.free ∧ (s.overrunShade q).clk = s.clk ∧
    (s.overrunShade q).pwr = s.pwr ∧ (s.overrunShade q).rst = s.rst ∧ (s.overrunShade q).wdg = s.wdg ∧
    (s.overrunShade q).reg = s.reg ∧ (s.overrunShade q).ctl = s.ctl ∧ (s.overrunShade q).ev = s.ev ∧
    (s.overrunShade q).par = s.par ∧ (s.overrunShade q).fus = s.fus ∧ (s.overrunShade q).role = s.role ∧
    (s.overrunShade q).fw = s.fw ∧ (s.overrunShade q).nvs = s.nvs ∧ (s.overrunShade q).led = s.led ∧
    (s.overrunShade q).sea = s.sea ∧ (s.overrunShade q).view = s.view ∧ (s.overrunShade q).pace = s.pace ∧
    (s.overrunShade q).lnk = s.lnk ∧ (s.overrunShade q).ets = s.ets ∧ (s.overrunShade q).pix = s.pix ∧
    (s.overrunShade q).pdp = s.pdp ∧ (s.overrunShade q).tab = s.tab ∧ (s.overrunShade q).hkc = s.hkc ∧
    (s.overrunShade q).tap = s.tap ∧ (s.overrunShade q).pad = s.pad := by
  simp [State.overrunShade]

@[simp] theorem State.goShade_frame (s : State) (q : Nat) (x : Shade) (pc next : Nat) :
    (s.goShade q x pc next).pending = s.pending ∧ (s.goShade q x pc next).free = s.free ∧ (s.goShade q x pc next).clk = s.clk ∧
    (s.goShade q x pc next).pwr = s.pwr ∧ (s.goShade q x pc next).rst = s.rst ∧ (s.goShade q x pc next).reg = s.reg ∧
    (s.goShade q x pc next).ctl = s.ctl ∧ (s.goShade q x pc next).ev = s.ev ∧ (s.goShade q x pc next).par = s.par ∧
    (s.goShade q x pc next).fus = s.fus ∧ (s.goShade q x pc next).role = s.role ∧ (s.goShade q x pc next).fw = s.fw ∧
    (s.goShade q x pc next).nvs = s.nvs ∧ (s.goShade q x pc next).led = s.led ∧ (s.goShade q x pc next).sea = s.sea ∧
    (s.goShade q x pc next).view = s.view ∧ (s.goShade q x pc next).pace = s.pace ∧ (s.goShade q x pc next).lnk = s.lnk ∧
    (s.goShade q x pc next).ets = s.ets ∧ (s.goShade q x pc next).pix = s.pix ∧ (s.goShade q x pc next).pdp = s.pdp ∧
    (s.goShade q x pc next).tab = s.tab ∧ (s.goShade q x pc next).hkc = s.hkc ∧ (s.goShade q x pc next).tap = s.tap ∧
    (s.goShade q x pc next).pad = s.pad := by
  simp [State.goShade]

@[simp] theorem State.cycleTo_frame (s : State) (q : Nat) (x : Shade) (b pc : Nat) :
    (s.cycleTo q x b pc).pending = s.pending ∧ (s.cycleTo q x b pc).free = s.free ∧ (s.cycleTo q x b pc).clk = s.clk ∧
    (s.cycleTo q x b pc).pwr = s.pwr ∧ (s.cycleTo q x b pc).rst = s.rst ∧ (s.cycleTo q x b pc).reg = s.reg ∧
    (s.cycleTo q x b pc).ctl = s.ctl ∧ (s.cycleTo q x b pc).ev = s.ev ∧ (s.cycleTo q x b pc).par = s.par ∧
    (s.cycleTo q x b pc).fus = s.fus ∧ (s.cycleTo q x b pc).role = s.role ∧ (s.cycleTo q x b pc).fw = s.fw ∧
    (s.cycleTo q x b pc).nvs = s.nvs ∧ (s.cycleTo q x b pc).led = s.led ∧ (s.cycleTo q x b pc).sea = s.sea ∧
    (s.cycleTo q x b pc).view = s.view ∧ (s.cycleTo q x b pc).pace = s.pace ∧ (s.cycleTo q x b pc).lnk = s.lnk ∧
    (s.cycleTo q x b pc).ets = s.ets ∧ (s.cycleTo q x b pc).pix = s.pix ∧ (s.cycleTo q x b pc).pdp = s.pdp ∧
    (s.cycleTo q x b pc).tab = s.tab ∧ (s.cycleTo q x b pc).hkc = s.hkc ∧ (s.cycleTo q x b pc).tap = s.tap ∧
    (s.cycleTo q x b pc).pad = s.pad := by
  simp [State.cycleTo]

@[simp] theorem State.oneCycle_frame (s : State) (q : Nat) (x : Shade) :
    (s.oneCycle q x).pending = s.pending ∧ (s.oneCycle q x).free = s.free ∧ (s.oneCycle q x).clk = s.clk ∧
    (s.oneCycle q x).pwr = s.pwr ∧ (s.oneCycle q x).rst = s.rst ∧ (s.oneCycle q x).reg = s.reg ∧ (s.oneCycle q x).ctl = s.ctl ∧
    (s.oneCycle q x).ev = s.ev ∧ (s.oneCycle q x).par = s.par ∧ (s.oneCycle q x).fus = s.fus ∧ (s.oneCycle q x).role = s.role ∧
    (s.oneCycle q x).fw = s.fw ∧ (s.oneCycle q x).nvs = s.nvs ∧ (s.oneCycle q x).led = s.led ∧ (s.oneCycle q x).sea = s.sea ∧
    (s.oneCycle q x).view = s.view ∧ (s.oneCycle q x).pace = s.pace ∧ (s.oneCycle q x).lnk = s.lnk ∧
    (s.oneCycle q x).ets = s.ets ∧ (s.oneCycle q x).pix = s.pix ∧ (s.oneCycle q x).pdp = s.pdp ∧ (s.oneCycle q x).tab = s.tab ∧
    (s.oneCycle q x).hkc = s.hkc ∧ (s.oneCycle q x).tap = s.tap ∧ (s.oneCycle q x).pad = s.pad := by
  simp [State.oneCycle]

@[simp] theorem State.shiftTo_frame (s : State) (q c : Nat) (d : Word) :
    (s.shiftTo q c d).pending = s.pending ∧ (s.shiftTo q c d).free = s.free ∧ (s.shiftTo q c d).clk = s.clk ∧
    (s.shiftTo q c d).pwr = s.pwr ∧ (s.shiftTo q c d).rst = s.rst ∧ (s.shiftTo q c d).reg = s.reg ∧
    (s.shiftTo q c d).ctl = s.ctl ∧ (s.shiftTo q c d).ev = s.ev ∧ (s.shiftTo q c d).par = s.par ∧
    (s.shiftTo q c d).fus = s.fus ∧ (s.shiftTo q c d).role = s.role ∧ (s.shiftTo q c d).fw = s.fw ∧
    (s.shiftTo q c d).nvs = s.nvs ∧ (s.shiftTo q c d).led = s.led ∧ (s.shiftTo q c d).sea = s.sea ∧
    (s.shiftTo q c d).view = s.view ∧ (s.shiftTo q c d).pace = s.pace ∧ (s.shiftTo q c d).lnk = s.lnk ∧
    (s.shiftTo q c d).ets = s.ets ∧ (s.shiftTo q c d).pix = s.pix ∧ (s.shiftTo q c d).pdp = s.pdp ∧
    (s.shiftTo q c d).tab = s.tab ∧ (s.shiftTo q c d).hkc = s.hkc ∧ (s.shiftTo q c d).tap = s.tap ∧
    (s.shiftTo q c d).pad = s.pad := by
  simp [State.shiftTo]

@[simp] theorem State.driveClock_frame (s : State) (q c : Nat) :
    (s.driveClock q c).pending = s.pending ∧ (s.driveClock q c).free = s.free ∧ (s.driveClock q c).clk = s.clk ∧
    (s.driveClock q c).pwr = s.pwr ∧ (s.driveClock q c).rst = s.rst ∧ (s.driveClock q c).wdg = s.wdg ∧
    (s.driveClock q c).reg = s.reg ∧ (s.driveClock q c).ctl = s.ctl ∧ (s.driveClock q c).ev = s.ev ∧
    (s.driveClock q c).par = s.par ∧ (s.driveClock q c).fus = s.fus ∧ (s.driveClock q c).role = s.role ∧
    (s.driveClock q c).fw = s.fw ∧ (s.driveClock q c).nvs = s.nvs ∧ (s.driveClock q c).led = s.led ∧
    (s.driveClock q c).sea = s.sea ∧ (s.driveClock q c).view = s.view ∧ (s.driveClock q c).pace = s.pace ∧
    (s.driveClock q c).lnk = s.lnk ∧ (s.driveClock q c).ets = s.ets ∧ (s.driveClock q c).pix = s.pix ∧
    (s.driveClock q c).pdp = s.pdp ∧ (s.driveClock q c).tab = s.tab ∧ (s.driveClock q c).hkc = s.hkc ∧
    (s.driveClock q c).tap = s.tap ∧ (s.driveClock q c).pad = s.pad ∧ (s.driveClock q c).pin.shade = s.pin.shade := by
  simp [State.driveClock]

@[simp] theorem State.driveData_frame (s : State) (q c : Nat) :
    (s.driveData q c).pending = s.pending ∧ (s.driveData q c).free = s.free ∧ (s.driveData q c).clk = s.clk ∧
    (s.driveData q c).pwr = s.pwr ∧ (s.driveData q c).rst = s.rst ∧ (s.driveData q c).wdg = s.wdg ∧
    (s.driveData q c).reg = s.reg ∧ (s.driveData q c).ctl = s.ctl ∧ (s.driveData q c).ev = s.ev ∧
    (s.driveData q c).par = s.par ∧ (s.driveData q c).fus = s.fus ∧ (s.driveData q c).role = s.role ∧
    (s.driveData q c).fw = s.fw ∧ (s.driveData q c).nvs = s.nvs ∧ (s.driveData q c).led = s.led ∧
    (s.driveData q c).sea = s.sea ∧ (s.driveData q c).view = s.view ∧ (s.driveData q c).pace = s.pace ∧
    (s.driveData q c).lnk = s.lnk ∧ (s.driveData q c).ets = s.ets ∧ (s.driveData q c).pix = s.pix ∧
    (s.driveData q c).pdp = s.pdp ∧ (s.driveData q c).tab = s.tab ∧ (s.driveData q c).hkc = s.hkc ∧
    (s.driveData q c).tap = s.tap ∧ (s.driveData q c).pad = s.pad ∧ (s.driveData q c).pin.shade = s.pin.shade := by
  simp [State.driveData]

@[simp] theorem State.beginWait_frame (s : State) (q : Nat) (w : ShadeWait) :
    (s.beginWait q w).pending = s.pending ∧ (s.beginWait q w).free = s.free ∧ (s.beginWait q w).clk = s.clk ∧
    (s.beginWait q w).pwr = s.pwr ∧ (s.beginWait q w).rst = s.rst ∧ (s.beginWait q w).reg = s.reg ∧
    (s.beginWait q w).ctl = s.ctl ∧ (s.beginWait q w).ev = s.ev ∧ (s.beginWait q w).par = s.par ∧
    (s.beginWait q w).fus = s.fus ∧ (s.beginWait q w).role = s.role ∧ (s.beginWait q w).fw = s.fw ∧
    (s.beginWait q w).nvs = s.nvs ∧ (s.beginWait q w).led = s.led ∧ (s.beginWait q w).sea = s.sea ∧
    (s.beginWait q w).view = s.view ∧ (s.beginWait q w).pace = s.pace ∧ (s.beginWait q w).lnk = s.lnk ∧
    (s.beginWait q w).ets = s.ets ∧ (s.beginWait q w).pix = s.pix ∧ (s.beginWait q w).pdp = s.pdp ∧
    (s.beginWait q w).tab = s.tab ∧ (s.beginWait q w).hkc = s.hkc ∧ (s.beginWait q w).tap = s.tap ∧
    (s.beginWait q w).pad = s.pad := by
  simp [State.beginWait]

@[simp] theorem State.haltShade_frame (s : State) (q : Nat) :
    (s.haltShade q).pending = s.pending ∧ (s.haltShade q).free = s.free ∧ (s.haltShade q).clk = s.clk ∧
    (s.haltShade q).pwr = s.pwr ∧ (s.haltShade q).rst = s.rst ∧ (s.haltShade q).wdg = s.wdg ∧ (s.haltShade q).reg = s.reg ∧
    (s.haltShade q).ctl = s.ctl ∧ (s.haltShade q).ev = s.ev ∧ (s.haltShade q).par = s.par ∧ (s.haltShade q).fus = s.fus ∧
    (s.haltShade q).role = s.role ∧ (s.haltShade q).fw = s.fw ∧ (s.haltShade q).nvs = s.nvs ∧ (s.haltShade q).led = s.led ∧
    (s.haltShade q).sea = s.sea ∧ (s.haltShade q).view = s.view ∧ (s.haltShade q).pace = s.pace ∧ (s.haltShade q).lnk = s.lnk ∧
    (s.haltShade q).ets = s.ets ∧ (s.haltShade q).pix = s.pix ∧ (s.haltShade q).pdp = s.pdp ∧ (s.haltShade q).tab = s.tab ∧
    (s.haltShade q).hkc = s.hkc ∧ (s.haltShade q).tap = s.tap ∧ (s.haltShade q).pad = s.pad := by
  simp [State.haltShade]

@[simp] theorem State.redrive_frame (s : State) (q : Nat) :
    (s.redrive q).pending = s.pending ∧ (s.redrive q).free = s.free ∧ (s.redrive q).clk = s.clk ∧ (s.redrive q).pwr = s.pwr ∧
    (s.redrive q).rst = s.rst ∧ (s.redrive q).wdg = s.wdg ∧ (s.redrive q).reg = s.reg ∧ (s.redrive q).ctl = s.ctl ∧
    (s.redrive q).ev = s.ev ∧ (s.redrive q).par = s.par ∧ (s.redrive q).fus = s.fus ∧ (s.redrive q).role = s.role ∧
    (s.redrive q).fw = s.fw ∧ (s.redrive q).nvs = s.nvs ∧ (s.redrive q).led = s.led ∧ (s.redrive q).sea = s.sea ∧
    (s.redrive q).view = s.view ∧ (s.redrive q).pace = s.pace ∧ (s.redrive q).lnk = s.lnk ∧ (s.redrive q).ets = s.ets ∧
    (s.redrive q).pix = s.pix ∧ (s.redrive q).pdp = s.pdp ∧ (s.redrive q).tab = s.tab ∧ (s.redrive q).hkc = s.hkc ∧
    (s.redrive q).tap = s.tap ∧ (s.redrive q).pad = s.pad := by
  unfold State.redrive; dsimp only; repeat' (first | (simp; done) | split)

@[simp] theorem State.startsNow_frame (s : State) (q : Nat) :
    (s.startsNow q).pending = s.pending ∧ (s.startsNow q).free = s.free ∧ (s.startsNow q).clk = s.clk ∧
    (s.startsNow q).pwr = s.pwr ∧ (s.startsNow q).rst = s.rst ∧ (s.startsNow q).wdg = s.wdg ∧ (s.startsNow q).reg = s.reg ∧
    (s.startsNow q).ctl = s.ctl ∧ (s.startsNow q).ev = s.ev ∧ (s.startsNow q).par = s.par ∧ (s.startsNow q).fus = s.fus ∧
    (s.startsNow q).role = s.role ∧ (s.startsNow q).fw = s.fw ∧ (s.startsNow q).nvs = s.nvs ∧ (s.startsNow q).led = s.led ∧
    (s.startsNow q).sea = s.sea ∧ (s.startsNow q).view = s.view ∧ (s.startsNow q).pace = s.pace ∧ (s.startsNow q).lnk = s.lnk ∧
    (s.startsNow q).ets = s.ets ∧ (s.startsNow q).pix = s.pix ∧ (s.startsNow q).pdp = s.pdp ∧ (s.startsNow q).tab = s.tab ∧
    (s.startsNow q).hkc = s.hkc ∧ (s.startsNow q).tap = s.tap ∧ (s.startsNow q).pad = s.pad := by
  simp [State.startsNow]

@[simp] theorem State.tickShade_frame (s : State) (q : Nat) :
    (s.tickShade q).pending = s.pending ∧ (s.tickShade q).free = s.free ∧ (s.tickShade q).clk = s.clk ∧
    (s.tickShade q).pwr = s.pwr ∧ (s.tickShade q).rst = s.rst ∧ (s.tickShade q).reg = s.reg ∧ (s.tickShade q).ctl = s.ctl ∧
    (s.tickShade q).ev = s.ev ∧ (s.tickShade q).par = s.par ∧ (s.tickShade q).fus = s.fus ∧ (s.tickShade q).role = s.role ∧
    (s.tickShade q).fw = s.fw ∧ (s.tickShade q).nvs = s.nvs ∧ (s.tickShade q).led = s.led ∧ (s.tickShade q).sea = s.sea ∧
    (s.tickShade q).view = s.view ∧ (s.tickShade q).pace = s.pace ∧ (s.tickShade q).lnk = s.lnk ∧ (s.tickShade q).ets = s.ets ∧
    (s.tickShade q).pix = s.pix ∧ (s.tickShade q).pdp = s.pdp ∧ (s.tickShade q).tab = s.tab ∧ (s.tickShade q).hkc = s.hkc ∧
    (s.tickShade q).tap = s.tap ∧ (s.tickShade q).pad = s.pad := by
  unfold State.tickShade; dsimp only; repeat' (first | (simp; done) | split)

@[simp] theorem State.tickPins_frame (s : State) :
    s.tickPins.pending = s.pending ∧ s.tickPins.free = s.free ∧ s.tickPins.clk = s.clk ∧ s.tickPins.pwr = s.pwr ∧
    s.tickPins.rst = s.rst ∧ s.tickPins.reg = s.reg ∧ s.tickPins.ctl = s.ctl ∧ s.tickPins.ev = s.ev ∧ s.tickPins.par = s.par ∧
    s.tickPins.fus = s.fus ∧ s.tickPins.role = s.role ∧ s.tickPins.fw = s.fw ∧ s.tickPins.nvs = s.nvs ∧
    s.tickPins.led = s.led ∧ s.tickPins.sea = s.sea ∧ s.tickPins.view = s.view ∧ s.tickPins.pace = s.pace ∧
    s.tickPins.lnk = s.lnk ∧ s.tickPins.ets = s.ets ∧ s.tickPins.pix = s.pix ∧ s.tickPins.pdp = s.pdp ∧
    s.tickPins.tab = s.tab ∧ s.tickPins.tap = s.tap ∧ s.tickPins.pad = s.pad := by
  simp [State.tickPins]

@[simp] theorem State.tickMonitors_frame (s : State) :
    s.tickMonitors.pending = s.pending ∧ s.tickMonitors.free = s.free ∧ s.tickMonitors.clk = s.clk ∧
    s.tickMonitors.pwr = s.pwr ∧ s.tickMonitors.rst = s.rst ∧ s.tickMonitors.reg = s.reg ∧ s.tickMonitors.ctl = s.ctl ∧
    s.tickMonitors.ev = s.ev ∧ s.tickMonitors.par = s.par ∧ s.tickMonitors.fus = s.fus ∧ s.tickMonitors.role = s.role ∧
    s.tickMonitors.fw = s.fw ∧ s.tickMonitors.nvs = s.nvs ∧ s.tickMonitors.led = s.led ∧ s.tickMonitors.sea = s.sea ∧
    s.tickMonitors.view = s.view ∧ s.tickMonitors.pace = s.pace ∧ s.tickMonitors.lnk = s.lnk ∧ s.tickMonitors.ets = s.ets ∧
    s.tickMonitors.pix = s.pix ∧ s.tickMonitors.pdp = s.pdp ∧ s.tickMonitors.tab = s.tab ∧ s.tickMonitors.pin = s.pin ∧
    s.tickMonitors.hkc = s.hkc ∧ s.tickMonitors.tap = s.tap ∧ s.tickMonitors.pad = s.pad := by
  simp [State.tickMonitors]

@[simp] theorem State.tickWindows_frame (s : State) :
    s.tickWindows.pending = s.pending ∧ s.tickWindows.free = s.free ∧ s.tickWindows.clk = s.clk ∧ s.tickWindows.pwr = s.pwr ∧
    s.tickWindows.rst = s.rst ∧ s.tickWindows.reg = s.reg ∧ s.tickWindows.ctl = s.ctl ∧ s.tickWindows.ev = s.ev ∧
    s.tickWindows.par = s.par ∧ s.tickWindows.fus = s.fus ∧ s.tickWindows.role = s.role ∧ s.tickWindows.fw = s.fw ∧
    s.tickWindows.nvs = s.nvs ∧ s.tickWindows.led = s.led ∧ s.tickWindows.sea = s.sea ∧ s.tickWindows.view = s.view ∧
    s.tickWindows.pace = s.pace ∧ s.tickWindows.lnk = s.lnk ∧ s.tickWindows.ets = s.ets ∧ s.tickWindows.pix = s.pix ∧
    s.tickWindows.pdp = s.pdp ∧ s.tickWindows.tab = s.tab ∧ s.tickWindows.pin = s.pin ∧ s.tickWindows.hkc = s.hkc ∧
    s.tickWindows.tap = s.tap ∧ s.tickWindows.pad = s.pad := by
  simp [State.tickWindows]

@[simp] theorem State.tick_frame (s : State) :
    s.tick.pending = s.pending ∧ s.tick.free = s.free ∧ s.tick.pwr = s.pwr ∧ s.tick.rst = s.rst ∧ s.tick.ctl = s.ctl ∧
    s.tick.ev = s.ev ∧ s.tick.par = s.par ∧ s.tick.fus = s.fus ∧ s.tick.role = s.role ∧ s.tick.fw = s.fw ∧ s.tick.led = s.led ∧
    s.tick.sea = s.sea ∧ s.tick.view = s.view ∧ s.tick.pace = s.pace ∧ s.tick.ets = s.ets ∧ s.tick.pix = s.pix ∧
    s.tick.pdp = s.pdp ∧ s.tick.tab = s.tab ∧ s.tick.tap = s.tap ∧ s.tick.pad = s.pad := by
  simp [State.tick]

@[simp] theorem State.putSlot_frame (s : State) (role slot : Nat) (k : Option KeySlot) :
    (s.putSlot role slot k).pending = s.pending ∧ (s.putSlot role slot k).free = s.free ∧ (s.putSlot role slot k).clk = s.clk ∧
    (s.putSlot role slot k).pwr = s.pwr ∧ (s.putSlot role slot k).rst = s.rst ∧ (s.putSlot role slot k).wdg = s.wdg ∧
    (s.putSlot role slot k).reg = s.reg ∧ (s.putSlot role slot k).ctl = s.ctl ∧ (s.putSlot role slot k).ev = s.ev ∧
    (s.putSlot role slot k).par = s.par ∧ (s.putSlot role slot k).fus = s.fus ∧ (s.putSlot role slot k).fw = s.fw ∧
    (s.putSlot role slot k).nvs = s.nvs ∧ (s.putSlot role slot k).led = s.led ∧ (s.putSlot role slot k).sea = s.sea ∧
    (s.putSlot role slot k).view = s.view ∧ (s.putSlot role slot k).pace = s.pace ∧ (s.putSlot role slot k).lnk = s.lnk ∧
    (s.putSlot role slot k).ets = s.ets ∧ (s.putSlot role slot k).pix = s.pix ∧ (s.putSlot role slot k).pdp = s.pdp ∧
    (s.putSlot role slot k).tab = s.tab ∧ (s.putSlot role slot k).pin = s.pin ∧ (s.putSlot role slot k).hkc = s.hkc ∧
    (s.putSlot role slot k).tap = s.tap ∧ (s.putSlot role slot k).pad = s.pad := by
  simp [State.putSlot]

@[simp] theorem State.enrol_frame (s : State) (m : Msg) :
    (s.enrol m).s.pending = s.pending ∧ (s.enrol m).s.clk = s.clk ∧ (s.enrol m).s.reg = s.reg ∧ (s.enrol m).s.ev = s.ev ∧
    (s.enrol m).s.par = s.par ∧ (s.enrol m).s.fus = s.fus ∧ (s.enrol m).s.fw = s.fw ∧ (s.enrol m).s.pace = s.pace ∧
    (s.enrol m).s.ets = s.ets ∧ (s.enrol m).s.pix = s.pix ∧ (s.enrol m).s.pdp = s.pdp ∧ (s.enrol m).s.tab = s.tab ∧
    (s.enrol m).s.pin = s.pin ∧ (s.enrol m).s.hkc = s.hkc ∧ (s.enrol m).s.tap = s.tap ∧ (s.enrol m).s.pad = s.pad := by
  simp [State.enrol]

@[simp] theorem State.roleEnrol_frame (s : State) (m : Msg) :
    (s.roleEnrol m).s.pending = s.pending ∧ (s.roleEnrol m).s.clk = s.clk ∧ (s.roleEnrol m).s.reg = s.reg ∧
    (s.roleEnrol m).s.ev = s.ev ∧ (s.roleEnrol m).s.par = s.par ∧ (s.roleEnrol m).s.fus = s.fus ∧ (s.roleEnrol m).s.fw = s.fw ∧
    (s.roleEnrol m).s.pace = s.pace ∧ (s.roleEnrol m).s.ets = s.ets ∧ (s.roleEnrol m).s.pix = s.pix ∧
    (s.roleEnrol m).s.pdp = s.pdp ∧ (s.roleEnrol m).s.tab = s.tab ∧ (s.roleEnrol m).s.pin = s.pin ∧
    (s.roleEnrol m).s.hkc = s.hkc ∧ (s.roleEnrol m).s.tap = s.tap ∧ (s.roleEnrol m).s.pad = s.pad := by
  simp [State.roleEnrol]

@[simp] theorem State.restamp_frame (s : State) (role slot n : Nat) :
    (s.restamp role slot n).pending = s.pending ∧ (s.restamp role slot n).free = s.free ∧ (s.restamp role slot n).clk = s.clk ∧
    (s.restamp role slot n).pwr = s.pwr ∧ (s.restamp role slot n).rst = s.rst ∧ (s.restamp role slot n).wdg = s.wdg ∧
    (s.restamp role slot n).reg = s.reg ∧ (s.restamp role slot n).ctl = s.ctl ∧ (s.restamp role slot n).ev = s.ev ∧
    (s.restamp role slot n).par = s.par ∧ (s.restamp role slot n).fus = s.fus ∧ (s.restamp role slot n).fw = s.fw ∧
    (s.restamp role slot n).nvs = s.nvs ∧ (s.restamp role slot n).led = s.led ∧ (s.restamp role slot n).sea = s.sea ∧
    (s.restamp role slot n).view = s.view ∧ (s.restamp role slot n).pace = s.pace ∧ (s.restamp role slot n).lnk = s.lnk ∧
    (s.restamp role slot n).ets = s.ets ∧ (s.restamp role slot n).pix = s.pix ∧ (s.restamp role slot n).pdp = s.pdp ∧
    (s.restamp role slot n).tab = s.tab ∧ (s.restamp role slot n).pin = s.pin ∧ (s.restamp role slot n).hkc = s.hkc ∧
    (s.restamp role slot n).tap = s.tap ∧ (s.restamp role slot n).pad = s.pad := by
  unfold State.restamp
  repeat' apply And.intro
  all_goals first
    | apply foldl_pending | apply foldl_free | apply foldl_clk | apply foldl_pwr | apply foldl_rst | apply foldl_wdg
    | apply foldl_reg | apply foldl_ctl | apply foldl_ev | apply foldl_par | apply foldl_fus | apply foldl_fw
    | apply foldl_nvs | apply foldl_led | apply foldl_sea | apply foldl_view | apply foldl_pace | apply foldl_lnk
    | apply foldl_ets | apply foldl_pix | apply foldl_pdp | apply foldl_tab | apply foldl_pin | apply foldl_hkc
    | apply foldl_tap | apply foldl_pad
    | apply foldl_nvs_mem | apply foldl_shade
  all_goals (intro s e; repeat' (first | (simp; done) | split))

@[simp] theorem State.revoke_frame (s : State) (m : Msg) :
    (s.revoke m).s.pending = s.pending ∧ (s.revoke m).s.clk = s.clk ∧ (s.revoke m).s.reg = s.reg ∧ (s.revoke m).s.ev = s.ev ∧
    (s.revoke m).s.par = s.par ∧ (s.revoke m).s.fw = s.fw ∧ (s.revoke m).s.pace = s.pace ∧ (s.revoke m).s.ets = s.ets ∧
    (s.revoke m).s.pix = s.pix ∧ (s.revoke m).s.pdp = s.pdp ∧ (s.revoke m).s.tab = s.tab ∧ (s.revoke m).s.pin = s.pin ∧
    (s.revoke m).s.hkc = s.hkc ∧ (s.revoke m).s.tap = s.tap ∧ (s.revoke m).s.pad = s.pad := by
  simp [State.revoke]

@[simp] theorem State.roleRevoke_frame (s : State) (m : Msg) :
    (s.roleRevoke m).s.pending = s.pending ∧ (s.roleRevoke m).s.clk = s.clk ∧ (s.roleRevoke m).s.reg = s.reg ∧
    (s.roleRevoke m).s.ev = s.ev ∧ (s.roleRevoke m).s.par = s.par ∧ (s.roleRevoke m).s.fw = s.fw ∧
    (s.roleRevoke m).s.pace = s.pace ∧ (s.roleRevoke m).s.ets = s.ets ∧ (s.roleRevoke m).s.pix = s.pix ∧
    (s.roleRevoke m).s.pdp = s.pdp ∧ (s.roleRevoke m).s.tab = s.tab ∧ (s.roleRevoke m).s.pin = s.pin ∧
    (s.roleRevoke m).s.hkc = s.hkc ∧ (s.roleRevoke m).s.tap = s.tap ∧ (s.roleRevoke m).s.pad = s.pad := by
  simp [State.roleRevoke]

@[simp] theorem State.stageImage_frame (s : State) (m : Msg) (b : Bytes) :
    (s.stageImage m b).pending = s.pending ∧ (s.stageImage m b).free = s.free ∧ (s.stageImage m b).clk = s.clk ∧
    (s.stageImage m b).pwr = s.pwr ∧ (s.stageImage m b).rst = s.rst ∧ (s.stageImage m b).wdg = s.wdg ∧
    (s.stageImage m b).reg = s.reg ∧ (s.stageImage m b).ctl = s.ctl ∧ (s.stageImage m b).ev = s.ev ∧
    (s.stageImage m b).par = s.par ∧ (s.stageImage m b).fus = s.fus ∧ (s.stageImage m b).role = s.role ∧
    (s.stageImage m b).nvs = s.nvs ∧ (s.stageImage m b).led = s.led ∧ (s.stageImage m b).sea = s.sea ∧
    (s.stageImage m b).view = s.view ∧ (s.stageImage m b).pace = s.pace ∧ (s.stageImage m b).lnk = s.lnk ∧
    (s.stageImage m b).ets = s.ets ∧ (s.stageImage m b).pix = s.pix ∧ (s.stageImage m b).pdp = s.pdp ∧
    (s.stageImage m b).tab = s.tab ∧ (s.stageImage m b).pin = s.pin ∧ (s.stageImage m b).hkc = s.hkc ∧
    (s.stageImage m b).tap = s.tap ∧ (s.stageImage m b).pad = s.pad := by
  simp [State.stageImage]

@[simp] theorem State.finishImage_frame (s : State) (m : Msg) (b : Bytes) (blocks : List BlockJob) :
    (s.finishImage m b blocks).s.pending = s.pending ∧ (s.finishImage m b blocks).s.clk = s.clk ∧
    (s.finishImage m b blocks).s.reg = s.reg ∧ (s.finishImage m b blocks).s.ctl = s.ctl ∧
    (s.finishImage m b blocks).s.ev = s.ev ∧ (s.finishImage m b blocks).s.par = s.par ∧
    (s.finishImage m b blocks).s.fus = s.fus ∧ (s.finishImage m b blocks).s.role = s.role ∧
    (s.finishImage m b blocks).s.pace = s.pace ∧ (s.finishImage m b blocks).s.ets = s.ets ∧
    (s.finishImage m b blocks).s.pix = s.pix ∧ (s.finishImage m b blocks).s.pdp = s.pdp ∧
    (s.finishImage m b blocks).s.tab = s.tab ∧ (s.finishImage m b blocks).s.pin = s.pin ∧
    (s.finishImage m b blocks).s.hkc = s.hkc ∧ (s.finishImage m b blocks).s.tap = s.tap ∧
    (s.finishImage m b blocks).s.pad = s.pad := by
  simp [State.finishImage]

@[simp] theorem State.loadPart_frame (s : State) (m : Msg) :
    (s.loadPart m).s.pending = s.pending ∧ (s.loadPart m).s.clk = s.clk ∧ (s.loadPart m).s.reg = s.reg ∧
    (s.loadPart m).s.ctl = s.ctl ∧ (s.loadPart m).s.ev = s.ev ∧ (s.loadPart m).s.par = s.par ∧ (s.loadPart m).s.fus = s.fus ∧
    (s.loadPart m).s.role = s.role ∧ (s.loadPart m).s.pace = s.pace ∧ (s.loadPart m).s.ets = s.ets ∧
    (s.loadPart m).s.pix = s.pix ∧ (s.loadPart m).s.pdp = s.pdp ∧ (s.loadPart m).s.tab = s.tab ∧ (s.loadPart m).s.pin = s.pin ∧
    (s.loadPart m).s.hkc = s.hkc ∧ (s.loadPart m).s.tap = s.tap ∧ (s.loadPart m).s.pad = s.pad := by
  simp [State.loadPart]

@[simp] theorem State.fwLoad_frame (s : State) (m : Msg) :
    (s.fwLoad m).s.pending = s.pending ∧ (s.fwLoad m).s.clk = s.clk ∧ (s.fwLoad m).s.reg = s.reg ∧ (s.fwLoad m).s.ctl = s.ctl ∧
    (s.fwLoad m).s.ev = s.ev ∧ (s.fwLoad m).s.par = s.par ∧ (s.fwLoad m).s.fus = s.fus ∧ (s.fwLoad m).s.role = s.role ∧
    (s.fwLoad m).s.pace = s.pace ∧ (s.fwLoad m).s.ets = s.ets ∧ (s.fwLoad m).s.pix = s.pix ∧ (s.fwLoad m).s.pdp = s.pdp ∧
    (s.fwLoad m).s.tab = s.tab ∧ (s.fwLoad m).s.pin = s.pin ∧ (s.fwLoad m).s.hkc = s.hkc ∧ (s.fwLoad m).s.tap = s.tap ∧
    (s.fwLoad m).s.pad = s.pad := by
  simp [State.fwLoad]

@[simp] theorem State.activateImage_frame (s : State) (m : Msg) (x : LoadedImage) :
    (s.activateImage m x).s.pending = s.pending ∧ (s.activateImage m x).s.free = s.free ∧ (s.activateImage m x).s.clk = s.clk ∧
    (s.activateImage m x).s.reg = s.reg ∧ (s.activateImage m x).s.ctl = s.ctl ∧ (s.activateImage m x).s.ev = s.ev ∧
    (s.activateImage m x).s.par = s.par ∧ (s.activateImage m x).s.fus = s.fus ∧ (s.activateImage m x).s.role = s.role ∧
    (s.activateImage m x).s.pace = s.pace ∧ (s.activateImage m x).s.ets = s.ets ∧ (s.activateImage m x).s.pix = s.pix ∧
    (s.activateImage m x).s.pdp = s.pdp ∧ (s.activateImage m x).s.tab = s.tab ∧ (s.activateImage m x).s.pin = s.pin ∧
    (s.activateImage m x).s.hkc = s.hkc ∧ (s.activateImage m x).s.tap = s.tap ∧ (s.activateImage m x).s.pad = s.pad := by
  simp [State.activateImage]

@[simp] theorem State.fwActivate_frame (s : State) (m : Msg) :
    (s.fwActivate m).s.pending = s.pending ∧ (s.fwActivate m).s.free = s.free ∧ (s.fwActivate m).s.clk = s.clk ∧
    (s.fwActivate m).s.reg = s.reg ∧ (s.fwActivate m).s.ctl = s.ctl ∧ (s.fwActivate m).s.ev = s.ev ∧
    (s.fwActivate m).s.par = s.par ∧ (s.fwActivate m).s.fus = s.fus ∧ (s.fwActivate m).s.role = s.role ∧
    (s.fwActivate m).s.pace = s.pace ∧ (s.fwActivate m).s.ets = s.ets ∧ (s.fwActivate m).s.pix = s.pix ∧
    (s.fwActivate m).s.pdp = s.pdp ∧ (s.fwActivate m).s.tab = s.tab ∧ (s.fwActivate m).s.pin = s.pin ∧
    (s.fwActivate m).s.hkc = s.hkc ∧ (s.fwActivate m).s.tap = s.tap ∧ (s.fwActivate m).s.pad = s.pad := by
  unfold State.fwActivate; split <;> simp

@[simp] theorem State.fusRead_frame (s : State) (m : Msg) :
    (s.fusRead m).s.pending = s.pending ∧ (s.fusRead m).s.free = s.free ∧ (s.fusRead m).s.clk = s.clk ∧
    (s.fusRead m).s.pwr = s.pwr ∧ (s.fusRead m).s.rst = s.rst ∧ (s.fusRead m).s.wdg = s.wdg ∧ (s.fusRead m).s.reg = s.reg ∧
    (s.fusRead m).s.ctl = s.ctl ∧ (s.fusRead m).s.ev = s.ev ∧ (s.fusRead m).s.par = s.par ∧ (s.fusRead m).s.fus = s.fus ∧
    (s.fusRead m).s.role = s.role ∧ (s.fusRead m).s.fw = s.fw ∧ (s.fusRead m).s.nvs = s.nvs ∧ (s.fusRead m).s.led = s.led ∧
    (s.fusRead m).s.sea = s.sea ∧ (s.fusRead m).s.view = s.view ∧ (s.fusRead m).s.pace = s.pace ∧ (s.fusRead m).s.lnk = s.lnk ∧
    (s.fusRead m).s.ets = s.ets ∧ (s.fusRead m).s.pix = s.pix ∧ (s.fusRead m).s.pdp = s.pdp ∧ (s.fusRead m).s.tab = s.tab ∧
    (s.fusRead m).s.pin = s.pin ∧ (s.fusRead m).s.hkc = s.hkc ∧ (s.fusRead m).s.tap = s.tap ∧ (s.fusRead m).s.pad = s.pad := by
  unfold State.fusRead State.check; dsimp only; repeat' (first | (simp; done) | split)

@[simp] theorem startFus_pending (s : State) (m : Msg) (l : List OtpTask) (f : State → Answer) (h : ∀ t, (f t).s.pending =
    t.pending) :
    (s.startFus m l f).s.pending = s.pending := by
  unfold State.startFus; dsimp only; split <;> simp [h]
@[simp] theorem startFus_clk (s : State) (m : Msg) (l : List OtpTask) (f : State → Answer) (h : ∀ t, (f t).s.clk = t.clk) :
    (s.startFus m l f).s.clk = s.clk := by
  unfold State.startFus; dsimp only; split <;> simp [h]
@[simp] theorem startFus_reg (s : State) (m : Msg) (l : List OtpTask) (f : State → Answer) (h : ∀ t, (f t).s.reg = t.reg) :
    (s.startFus m l f).s.reg = s.reg := by
  unfold State.startFus; dsimp only; split <;> simp [h]
@[simp] theorem startFus_ctl (s : State) (m : Msg) (l : List OtpTask) (f : State → Answer) (h : ∀ t, (f t).s.ctl = t.ctl) :
    (s.startFus m l f).s.ctl = s.ctl := by
  unfold State.startFus; dsimp only; split <;> simp [h]
@[simp] theorem startFus_ev (s : State) (m : Msg) (l : List OtpTask) (f : State → Answer) (h : ∀ t, (f t).s.ev = t.ev) :
    (s.startFus m l f).s.ev = s.ev := by
  unfold State.startFus; dsimp only; split <;> simp [h]
@[simp] theorem startFus_par (s : State) (m : Msg) (l : List OtpTask) (f : State → Answer) (h : ∀ t, (f t).s.par = t.par) :
    (s.startFus m l f).s.par = s.par := by
  unfold State.startFus; dsimp only; split <;> simp [h]
@[simp] theorem startFus_role (s : State) (m : Msg) (l : List OtpTask) (f : State → Answer) (h : ∀ t, (f t).s.role = t.role) :
    (s.startFus m l f).s.role = s.role := by
  unfold State.startFus; dsimp only; split <;> simp [h]
@[simp] theorem startFus_fw (s : State) (m : Msg) (l : List OtpTask) (f : State → Answer) (h : ∀ t, (f t).s.fw = t.fw) :
    (s.startFus m l f).s.fw = s.fw := by
  unfold State.startFus; dsimp only; split <;> simp [h]
@[simp] theorem startFus_pace (s : State) (m : Msg) (l : List OtpTask) (f : State → Answer) (h : ∀ t, (f t).s.pace = t.pace) :
    (s.startFus m l f).s.pace = s.pace := by
  unfold State.startFus; dsimp only; split <;> simp [h]
@[simp] theorem startFus_ets (s : State) (m : Msg) (l : List OtpTask) (f : State → Answer) (h : ∀ t, (f t).s.ets = t.ets) :
    (s.startFus m l f).s.ets = s.ets := by
  unfold State.startFus; dsimp only; split <;> simp [h]
@[simp] theorem startFus_pix (s : State) (m : Msg) (l : List OtpTask) (f : State → Answer) (h : ∀ t, (f t).s.pix = t.pix) :
    (s.startFus m l f).s.pix = s.pix := by
  unfold State.startFus; dsimp only; split <;> simp [h]
@[simp] theorem startFus_pdp (s : State) (m : Msg) (l : List OtpTask) (f : State → Answer) (h : ∀ t, (f t).s.pdp = t.pdp) :
    (s.startFus m l f).s.pdp = s.pdp := by
  unfold State.startFus; dsimp only; split <;> simp [h]
@[simp] theorem startFus_tab (s : State) (m : Msg) (l : List OtpTask) (f : State → Answer) (h : ∀ t, (f t).s.tab = t.tab) :
    (s.startFus m l f).s.tab = s.tab := by
  unfold State.startFus; dsimp only; split <;> simp [h]
@[simp] theorem startFus_pin (s : State) (m : Msg) (l : List OtpTask) (f : State → Answer) (h : ∀ t, (f t).s.pin = t.pin) :
    (s.startFus m l f).s.pin = s.pin := by
  unfold State.startFus; dsimp only; split <;> simp [h]
@[simp] theorem startFus_hkc (s : State) (m : Msg) (l : List OtpTask) (f : State → Answer) (h : ∀ t, (f t).s.hkc = t.hkc) :
    (s.startFus m l f).s.hkc = s.hkc := by
  unfold State.startFus; dsimp only; split <;> simp [h]
@[simp] theorem startFus_tap (s : State) (m : Msg) (l : List OtpTask) (f : State → Answer) (h : ∀ t, (f t).s.tap = t.tap) :
    (s.startFus m l f).s.tap = s.tap := by
  unfold State.startFus; dsimp only; split <;> simp [h]
@[simp] theorem startFus_pad (s : State) (m : Msg) (l : List OtpTask) (f : State → Answer) (h : ∀ t, (f t).s.pad = t.pad) :
    (s.startFus m l f).s.pad = s.pad := by
  unfold State.startFus; dsimp only; split <;> simp [h]
@[simp] theorem State.programWord_frame (s : State) (m : Msg) :
    (s.programWord m).s.pending = s.pending ∧ (s.programWord m).s.clk = s.clk ∧ (s.programWord m).s.reg = s.reg ∧
    (s.programWord m).s.ctl = s.ctl ∧ (s.programWord m).s.ev = s.ev ∧ (s.programWord m).s.par = s.par ∧
    (s.programWord m).s.role = s.role ∧ (s.programWord m).s.fw = s.fw ∧ (s.programWord m).s.pace = s.pace ∧
    (s.programWord m).s.ets = s.ets ∧ (s.programWord m).s.pix = s.pix ∧ (s.programWord m).s.pdp = s.pdp ∧
    (s.programWord m).s.tab = s.tab ∧ (s.programWord m).s.pin = s.pin ∧ (s.programWord m).s.hkc = s.hkc ∧
    (s.programWord m).s.tap = s.tap ∧ (s.programWord m).s.pad = s.pad := by
  simp [State.programWord]

@[simp] theorem State.completeGroup_frame (s : State) (m : Msg) :
    (s.completeGroup m).s.pending = s.pending ∧ (s.completeGroup m).s.clk = s.clk ∧ (s.completeGroup m).s.reg = s.reg ∧
    (s.completeGroup m).s.ctl = s.ctl ∧ (s.completeGroup m).s.ev = s.ev ∧ (s.completeGroup m).s.par = s.par ∧
    (s.completeGroup m).s.role = s.role ∧ (s.completeGroup m).s.fw = s.fw ∧ (s.completeGroup m).s.pace = s.pace ∧
    (s.completeGroup m).s.ets = s.ets ∧ (s.completeGroup m).s.pix = s.pix ∧ (s.completeGroup m).s.pdp = s.pdp ∧
    (s.completeGroup m).s.tab = s.tab ∧ (s.completeGroup m).s.pin = s.pin ∧ (s.completeGroup m).s.hkc = s.hkc ∧
    (s.completeGroup m).s.tap = s.tap ∧ (s.completeGroup m).s.pad = s.pad := by
  simp [State.completeGroup]

@[simp] theorem State.lockGroup_frame (s : State) (m : Msg) :
    (s.lockGroup m).s.pending = s.pending ∧ (s.lockGroup m).s.clk = s.clk ∧ (s.lockGroup m).s.reg = s.reg ∧
    (s.lockGroup m).s.ctl = s.ctl ∧ (s.lockGroup m).s.ev = s.ev ∧ (s.lockGroup m).s.par = s.par ∧
    (s.lockGroup m).s.role = s.role ∧ (s.lockGroup m).s.fw = s.fw ∧ (s.lockGroup m).s.pace = s.pace ∧
    (s.lockGroup m).s.ets = s.ets ∧ (s.lockGroup m).s.pix = s.pix ∧ (s.lockGroup m).s.pdp = s.pdp ∧
    (s.lockGroup m).s.tab = s.tab ∧ (s.lockGroup m).s.pin = s.pin ∧ (s.lockGroup m).s.hkc = s.hkc ∧
    (s.lockGroup m).s.tap = s.tap ∧ (s.lockGroup m).s.pad = s.pad := by
  simp [State.lockGroup]

@[simp] theorem State.generateIdentity_frame (s : State) (entropy : Bytes) (m : Msg) :
    (s.generateIdentity entropy m).s.pending = s.pending ∧ (s.generateIdentity entropy m).s.clk = s.clk ∧
    (s.generateIdentity entropy m).s.reg = s.reg ∧ (s.generateIdentity entropy m).s.ctl = s.ctl ∧
    (s.generateIdentity entropy m).s.ev = s.ev ∧ (s.generateIdentity entropy m).s.par = s.par ∧
    (s.generateIdentity entropy m).s.role = s.role ∧ (s.generateIdentity entropy m).s.fw = s.fw ∧
    (s.generateIdentity entropy m).s.pace = s.pace ∧ (s.generateIdentity entropy m).s.ets = s.ets ∧
    (s.generateIdentity entropy m).s.pix = s.pix ∧ (s.generateIdentity entropy m).s.pdp = s.pdp ∧
    (s.generateIdentity entropy m).s.tab = s.tab ∧ (s.generateIdentity entropy m).s.pin = s.pin ∧
    (s.generateIdentity entropy m).s.hkc = s.hkc ∧ (s.generateIdentity entropy m).s.tap = s.tap ∧
    (s.generateIdentity entropy m).s.pad = s.pad := by
  unfold State.generateIdentity State.check; dsimp only; repeat' (first | (simp [State.accept, State.refuse]; done) | split)

@[simp] theorem State.installMaker_frame (s : State) (m : Msg) :
    (s.installMaker m).s.pending = s.pending ∧ (s.installMaker m).s.free = s.free ∧ (s.installMaker m).s.clk = s.clk ∧
    (s.installMaker m).s.reg = s.reg ∧ (s.installMaker m).s.ctl = s.ctl ∧ (s.installMaker m).s.ev = s.ev ∧
    (s.installMaker m).s.fus = s.fus ∧ (s.installMaker m).s.fw = s.fw ∧ (s.installMaker m).s.pace = s.pace ∧
    (s.installMaker m).s.ets = s.ets ∧ (s.installMaker m).s.pix = s.pix ∧ (s.installMaker m).s.pdp = s.pdp ∧
    (s.installMaker m).s.tab = s.tab ∧ (s.installMaker m).s.pin = s.pin ∧ (s.installMaker m).s.hkc = s.hkc ∧
    (s.installMaker m).s.tap = s.tap ∧ (s.installMaker m).s.pad = s.pad := by
  unfold State.installMaker State.check; dsimp only; repeat' (first | (simp; done) | split)

@[simp] theorem State.reinforce_frame (s : State) (m : Msg) :
    (s.reinforce m).s.pending = s.pending ∧ (s.reinforce m).s.clk = s.clk ∧ (s.reinforce m).s.reg = s.reg ∧
    (s.reinforce m).s.ctl = s.ctl ∧ (s.reinforce m).s.ev = s.ev ∧ (s.reinforce m).s.par = s.par ∧
    (s.reinforce m).s.role = s.role ∧ (s.reinforce m).s.fw = s.fw ∧ (s.reinforce m).s.pace = s.pace ∧
    (s.reinforce m).s.ets = s.ets ∧ (s.reinforce m).s.pix = s.pix ∧ (s.reinforce m).s.pdp = s.pdp ∧
    (s.reinforce m).s.tab = s.tab ∧ (s.reinforce m).s.pin = s.pin ∧ (s.reinforce m).s.hkc = s.hkc ∧
    (s.reinforce m).s.tap = s.tap ∧ (s.reinforce m).s.pad = s.pad := by
  unfold State.reinforce State.check; dsimp only; split <;> simp [State.accept, State.refuse]

@[simp] theorem State.advance_frame (s : State) (m : Msg) :
    (s.advance m).s.pending = s.pending ∧ (s.advance m).s.clk = s.clk ∧ (s.advance m).s.reg = s.reg ∧
    (s.advance m).s.ctl = s.ctl ∧ (s.advance m).s.ev = s.ev ∧ (s.advance m).s.par = s.par ∧ (s.advance m).s.role = s.role ∧
    (s.advance m).s.fw = s.fw ∧ (s.advance m).s.pace = s.pace ∧ (s.advance m).s.ets = s.ets ∧ (s.advance m).s.pix = s.pix ∧
    (s.advance m).s.pdp = s.pdp ∧ (s.advance m).s.tab = s.tab ∧ (s.advance m).s.pin = s.pin ∧ (s.advance m).s.hkc = s.hkc ∧
    (s.advance m).s.tap = s.tap ∧ (s.advance m).s.pad = s.pad := by
  simp [State.advance]

@[simp] theorem State.lifecycleAdvance_frame (s : State) (m : Msg) :
    (s.lifecycleAdvance m).s.pending = s.pending ∧ (s.lifecycleAdvance m).s.clk = s.clk ∧
    (s.lifecycleAdvance m).s.reg = s.reg ∧ (s.lifecycleAdvance m).s.ctl = s.ctl ∧ (s.lifecycleAdvance m).s.ev = s.ev ∧
    (s.lifecycleAdvance m).s.par = s.par ∧ (s.lifecycleAdvance m).s.role = s.role ∧ (s.lifecycleAdvance m).s.fw = s.fw ∧
    (s.lifecycleAdvance m).s.pace = s.pace ∧ (s.lifecycleAdvance m).s.ets = s.ets ∧ (s.lifecycleAdvance m).s.pix = s.pix ∧
    (s.lifecycleAdvance m).s.pdp = s.pdp ∧ (s.lifecycleAdvance m).s.tab = s.tab ∧ (s.lifecycleAdvance m).s.pin = s.pin ∧
    (s.lifecycleAdvance m).s.hkc = s.hkc ∧ (s.lifecycleAdvance m).s.tap = s.tap ∧ (s.lifecycleAdvance m).s.pad = s.pad := by
  simp [State.lifecycleAdvance]

@[simp] theorem State.setDebug_frame (s : State) (on : Bool) :
    (s.setDebug on).pending = s.pending ∧ (s.setDebug on).free = s.free ∧ (s.setDebug on).clk = s.clk ∧
    (s.setDebug on).rst = s.rst ∧ (s.setDebug on).wdg = s.wdg ∧ (s.setDebug on).reg = s.reg ∧ (s.setDebug on).ctl = s.ctl ∧
    (s.setDebug on).ev = s.ev ∧ (s.setDebug on).par = s.par ∧ (s.setDebug on).role = s.role ∧ (s.setDebug on).fw = s.fw ∧
    (s.setDebug on).led = s.led ∧ (s.setDebug on).pace = s.pace ∧ (s.setDebug on).lnk = s.lnk ∧ (s.setDebug on).ets = s.ets ∧
    (s.setDebug on).pix = s.pix ∧ (s.setDebug on).pdp = s.pdp ∧ (s.setDebug on).tab = s.tab ∧ (s.setDebug on).pin = s.pin ∧
    (s.setDebug on).hkc = s.hkc ∧ (s.setDebug on).tap = s.tap ∧ (s.setDebug on).pad = s.pad ∧
    (s.setDebug on).nvs.mem = s.nvs.mem := by
  unfold State.setDebug; split <;> simp

@[simp] theorem State.countUnlock_frame (s : State) :
    s.countUnlock.pending = s.pending ∧ s.countUnlock.free = s.free ∧ s.countUnlock.clk = s.clk ∧ s.countUnlock.pwr = s.pwr ∧
    s.countUnlock.rst = s.rst ∧ s.countUnlock.wdg = s.wdg ∧ s.countUnlock.reg = s.reg ∧ s.countUnlock.ctl = s.ctl ∧
    s.countUnlock.ev = s.ev ∧ s.countUnlock.par = s.par ∧ s.countUnlock.fus = s.fus ∧ s.countUnlock.role = s.role ∧
    s.countUnlock.fw = s.fw ∧ s.countUnlock.led = s.led ∧ s.countUnlock.sea = s.sea ∧ s.countUnlock.view = s.view ∧
    s.countUnlock.pace = s.pace ∧ s.countUnlock.lnk = s.lnk ∧ s.countUnlock.ets = s.ets ∧ s.countUnlock.pix = s.pix ∧
    s.countUnlock.pdp = s.pdp ∧ s.countUnlock.tab = s.tab ∧ s.countUnlock.pin = s.pin ∧ s.countUnlock.hkc = s.hkc ∧
    s.countUnlock.tap = s.tap ∧ s.countUnlock.pad = s.pad ∧ s.countUnlock.nvs.mem = s.nvs.mem := by
  unfold State.countUnlock; split <;> simp

@[simp] theorem State.debugUnlock_frame (s : State) (m : Msg) :
    (s.debugUnlock m).s.pending = s.pending ∧ (s.debugUnlock m).s.free = s.free ∧ (s.debugUnlock m).s.clk = s.clk ∧
    (s.debugUnlock m).s.reg = s.reg ∧ (s.debugUnlock m).s.ctl = s.ctl ∧ (s.debugUnlock m).s.ev = s.ev ∧
    (s.debugUnlock m).s.par = s.par ∧ (s.debugUnlock m).s.role = s.role ∧ (s.debugUnlock m).s.fw = s.fw ∧
    (s.debugUnlock m).s.pace = s.pace ∧ (s.debugUnlock m).s.ets = s.ets ∧ (s.debugUnlock m).s.pix = s.pix ∧
    (s.debugUnlock m).s.pdp = s.pdp ∧ (s.debugUnlock m).s.tab = s.tab ∧ (s.debugUnlock m).s.pin = s.pin ∧
    (s.debugUnlock m).s.hkc = s.hkc ∧ (s.debugUnlock m).s.tap = s.tap ∧ (s.debugUnlock m).s.pad = s.pad := by
  simp [State.debugUnlock]

@[simp] theorem State.debugRelock_frame (s : State) (m : Msg) :
    (s.debugRelock m).s.pending = s.pending ∧ (s.debugRelock m).s.free = s.free ∧ (s.debugRelock m).s.clk = s.clk ∧
    (s.debugRelock m).s.reg = s.reg ∧ (s.debugRelock m).s.ctl = s.ctl ∧ (s.debugRelock m).s.ev = s.ev ∧
    (s.debugRelock m).s.par = s.par ∧ (s.debugRelock m).s.role = s.role ∧ (s.debugRelock m).s.fw = s.fw ∧
    (s.debugRelock m).s.pace = s.pace ∧ (s.debugRelock m).s.ets = s.ets ∧ (s.debugRelock m).s.pix = s.pix ∧
    (s.debugRelock m).s.pdp = s.pdp ∧ (s.debugRelock m).s.tab = s.tab ∧ (s.debugRelock m).s.pin = s.pin ∧
    (s.debugRelock m).s.hkc = s.hkc ∧ (s.debugRelock m).s.tap = s.tap ∧ (s.debugRelock m).s.pad = s.pad := by
  simp [State.debugRelock]

@[simp] theorem State.clearLedger_frame (s : State) :
    s.clearLedger.pending = s.pending ∧ s.clearLedger.free = s.free ∧ s.clearLedger.clk = s.clk ∧ s.clearLedger.pwr = s.pwr ∧
    s.clearLedger.rst = s.rst ∧ s.clearLedger.wdg = s.wdg ∧ s.clearLedger.reg = s.reg ∧ s.clearLedger.ctl = s.ctl ∧
    s.clearLedger.ev = s.ev ∧ s.clearLedger.par = s.par ∧ s.clearLedger.fus = s.fus ∧ s.clearLedger.role = s.role ∧
    s.clearLedger.fw = s.fw ∧ s.clearLedger.sea = s.sea ∧ s.clearLedger.view = s.view ∧ s.clearLedger.pace = s.pace ∧
    s.clearLedger.lnk = s.lnk ∧ s.clearLedger.ets = s.ets ∧ s.clearLedger.pix = s.pix ∧ s.clearLedger.pdp = s.pdp ∧
    s.clearLedger.tab = s.tab ∧ s.clearLedger.pin = s.pin ∧ s.clearLedger.hkc = s.hkc ∧ s.clearLedger.tap = s.tap ∧
    s.clearLedger.pad = s.pad ∧ s.clearLedger.nvs.mem = s.nvs.mem := by
  simp [State.clearLedger]

@[simp] theorem State.afterPulse_frame (s : State) (p : Purpose) :
    (s.afterPulse p).pending = s.pending ∧ (s.afterPulse p).free = s.free ∧ (s.afterPulse p).clk = s.clk ∧
    (s.afterPulse p).pwr = s.pwr ∧ (s.afterPulse p).rst = s.rst ∧ (s.afterPulse p).wdg = s.wdg ∧ (s.afterPulse p).reg = s.reg ∧
    (s.afterPulse p).ctl = s.ctl ∧ (s.afterPulse p).ev = s.ev ∧ (s.afterPulse p).par = s.par ∧ (s.afterPulse p).fus = s.fus ∧
    (s.afterPulse p).role = s.role ∧ (s.afterPulse p).fw = s.fw ∧ (s.afterPulse p).sea = s.sea ∧
    (s.afterPulse p).view = s.view ∧ (s.afterPulse p).pace = s.pace ∧ (s.afterPulse p).lnk = s.lnk ∧
    (s.afterPulse p).ets = s.ets ∧ (s.afterPulse p).pix = s.pix ∧ (s.afterPulse p).pdp = s.pdp ∧ (s.afterPulse p).tab = s.tab ∧
    (s.afterPulse p).pin = s.pin ∧ (s.afterPulse p).hkc = s.hkc ∧ (s.afterPulse p).tap = s.tap ∧ (s.afterPulse p).pad = s.pad ∧
    (s.afterPulse p).nvs.mem = s.nvs.mem := by
  unfold State.afterPulse; split <;> simp

@[simp] theorem State.pulseDone_frame (s : State) (t : OtpTask) (rest : List OtpTask) (r : OtpReads) :
    (s.pulseDone t rest r).pending = s.pending ∧ (s.pulseDone t rest r).free = s.free ∧ (s.pulseDone t rest r).clk = s.clk ∧
    (s.pulseDone t rest r).reg = s.reg ∧ (s.pulseDone t rest r).ev = s.ev ∧ (s.pulseDone t rest r).par = s.par ∧
    (s.pulseDone t rest r).role = s.role ∧ (s.pulseDone t rest r).fw = s.fw ∧ (s.pulseDone t rest r).pace = s.pace ∧
    (s.pulseDone t rest r).lnk = s.lnk ∧ (s.pulseDone t rest r).ets = s.ets ∧ (s.pulseDone t rest r).tab = s.tab ∧
    (s.pulseDone t rest r).pin = s.pin ∧ (s.pulseDone t rest r).tap = s.tap ∧ (s.pulseDone t rest r).pad = s.pad ∧
    (s.pulseDone t rest r).nvs.mem = s.nvs.mem := by
  simp [State.pulseDone]

@[simp] theorem State.driftWord_frame (s : State) (w : Nat) (r : OtpReads) :
    (s.driftWord w r).pending = s.pending ∧ (s.driftWord w r).free = s.free ∧ (s.driftWord w r).clk = s.clk ∧
    (s.driftWord w r).pwr = s.pwr ∧ (s.driftWord w r).rst = s.rst ∧ (s.driftWord w r).wdg = s.wdg ∧
    (s.driftWord w r).ctl = s.ctl ∧ (s.driftWord w r).par = s.par ∧ (s.driftWord w r).role = s.role ∧
    (s.driftWord w r).fw = s.fw ∧ (s.driftWord w r).nvs = s.nvs ∧ (s.driftWord w r).led = s.led ∧
    (s.driftWord w r).sea = s.sea ∧ (s.driftWord w r).view = s.view ∧ (s.driftWord w r).pace = s.pace ∧
    (s.driftWord w r).ets = s.ets ∧ (s.driftWord w r).pix = s.pix ∧ (s.driftWord w r).pdp = s.pdp ∧
    (s.driftWord w r).tab = s.tab ∧ (s.driftWord w r).pin = s.pin ∧ (s.driftWord w r).hkc = s.hkc ∧
    (s.driftWord w r).tap = s.tap ∧ (s.driftWord w r).pad = s.pad := by
  simp [State.driftWord]

@[simp] theorem State.driftUnit_frame (s : State) (u : Nat) (r : OtpReads) :
    (s.driftUnit u r).pending = s.pending ∧ (s.driftUnit u r).free = s.free ∧ (s.driftUnit u r).clk = s.clk ∧
    (s.driftUnit u r).rst = s.rst ∧ (s.driftUnit u r).wdg = s.wdg ∧ (s.driftUnit u r).ctl = s.ctl ∧
    (s.driftUnit u r).par = s.par ∧ (s.driftUnit u r).role = s.role ∧ (s.driftUnit u r).fw = s.fw ∧
    (s.driftUnit u r).led = s.led ∧ (s.driftUnit u r).pace = s.pace ∧ (s.driftUnit u r).ets = s.ets ∧
    (s.driftUnit u r).pix = s.pix ∧ (s.driftUnit u r).pdp = s.pdp ∧ (s.driftUnit u r).tab = s.tab ∧
    (s.driftUnit u r).pin = s.pin ∧ (s.driftUnit u r).hkc = s.hkc ∧ (s.driftUnit u r).tap = s.tap ∧
    (s.driftUnit u r).pad = s.pad ∧ (s.driftUnit u r).nvs.mem = s.nvs.mem := by
  unfold State.driftUnit; dsimp only; repeat' (first | (simp; done) | split)

@[simp] theorem State.reportDrift_frame (s : State) :
    s.reportDrift.pending = s.pending ∧ s.reportDrift.free = s.free ∧ s.reportDrift.clk = s.clk ∧ s.reportDrift.rst = s.rst ∧
    s.reportDrift.wdg = s.wdg ∧ s.reportDrift.ctl = s.ctl ∧ s.reportDrift.par = s.par ∧ s.reportDrift.role = s.role ∧
    s.reportDrift.fw = s.fw ∧ s.reportDrift.led = s.led ∧ s.reportDrift.pace = s.pace ∧ s.reportDrift.ets = s.ets ∧
    s.reportDrift.pix = s.pix ∧ s.reportDrift.pdp = s.pdp ∧ s.reportDrift.tab = s.tab ∧ s.reportDrift.pin = s.pin ∧
    s.reportDrift.hkc = s.hkc ∧ s.reportDrift.tap = s.tap ∧ s.reportDrift.pad = s.pad ∧ s.reportDrift.nvs.mem = s.nvs.mem := by
  simp [State.reportDrift]

@[simp] theorem State.loadTint_frame (s : State) (m : Msg) :
    (s.loadTint m).pending = s.pending ∧ (s.loadTint m).free = s.free ∧ (s.loadTint m).clk = s.clk ∧
    (s.loadTint m).pwr = s.pwr ∧ (s.loadTint m).rst = s.rst ∧ (s.loadTint m).wdg = s.wdg ∧ (s.loadTint m).reg = s.reg ∧
    (s.loadTint m).ctl = s.ctl ∧ (s.loadTint m).ev = s.ev ∧ (s.loadTint m).par = s.par ∧ (s.loadTint m).fus = s.fus ∧
    (s.loadTint m).role = s.role ∧ (s.loadTint m).fw = s.fw ∧ (s.loadTint m).nvs = s.nvs ∧ (s.loadTint m).led = s.led ∧
    (s.loadTint m).sea = s.sea ∧ (s.loadTint m).view = s.view ∧ (s.loadTint m).pace = s.pace ∧ (s.loadTint m).lnk = s.lnk ∧
    (s.loadTint m).ets = s.ets ∧ (s.loadTint m).pix = s.pix ∧ (s.loadTint m).pdp = s.pdp ∧ (s.loadTint m).tab = s.tab ∧
    (s.loadTint m).hkc = s.hkc ∧ (s.loadTint m).tap = s.tap ∧ (s.loadTint m).pad = s.pad ∧
    (s.loadTint m).pin.shade = s.pin.shade := by
  simp [State.loadTint]

@[simp] theorem State.loadStore_frame (s : State) (m : Msg) :
    (s.loadStore m).pending = s.pending ∧ (s.loadStore m).free = s.free ∧ (s.loadStore m).clk = s.clk ∧
    (s.loadStore m).pwr = s.pwr ∧ (s.loadStore m).rst = s.rst ∧ (s.loadStore m).wdg = s.wdg ∧ (s.loadStore m).reg = s.reg ∧
    (s.loadStore m).ctl = s.ctl ∧ (s.loadStore m).ev = s.ev ∧ (s.loadStore m).par = s.par ∧ (s.loadStore m).fus = s.fus ∧
    (s.loadStore m).role = s.role ∧ (s.loadStore m).fw = s.fw ∧ (s.loadStore m).nvs = s.nvs ∧ (s.loadStore m).led = s.led ∧
    (s.loadStore m).sea = s.sea ∧ (s.loadStore m).view = s.view ∧ (s.loadStore m).pace = s.pace ∧ (s.loadStore m).lnk = s.lnk ∧
    (s.loadStore m).ets = s.ets ∧ (s.loadStore m).pix = s.pix ∧ (s.loadStore m).pdp = s.pdp ∧ (s.loadStore m).tab = s.tab ∧
    (s.loadStore m).hkc = s.hkc ∧ (s.loadStore m).tap = s.tap ∧ (s.loadStore m).pad = s.pad := by
  simp [State.loadStore]

@[simp] theorem State.pinLoad_frame (s : State) (m : Msg) :
    (s.pinLoad m).s.pending = s.pending ∧ (s.pinLoad m).s.free = s.free ∧ (s.pinLoad m).s.clk = s.clk ∧
    (s.pinLoad m).s.reg = s.reg ∧ (s.pinLoad m).s.ctl = s.ctl ∧ (s.pinLoad m).s.ev = s.ev ∧ (s.pinLoad m).s.par = s.par ∧
    (s.pinLoad m).s.fus = s.fus ∧ (s.pinLoad m).s.role = s.role ∧ (s.pinLoad m).s.fw = s.fw ∧ (s.pinLoad m).s.pace = s.pace ∧
    (s.pinLoad m).s.ets = s.ets ∧ (s.pinLoad m).s.pix = s.pix ∧ (s.pinLoad m).s.pdp = s.pdp ∧ (s.pinLoad m).s.tab = s.tab ∧
    (s.pinLoad m).s.hkc = s.hkc ∧ (s.pinLoad m).s.tap = s.tap ∧ (s.pinLoad m).s.pad = s.pad := by
  simp [State.pinLoad]

@[simp] theorem State.shadeDone_frame (s : State) (m : Msg) (values : List Word) :
    (s.shadeDone m values).s.pending = s.pending ∧ (s.shadeDone m values).s.free = s.free ∧
    (s.shadeDone m values).s.clk = s.clk ∧ (s.shadeDone m values).s.reg = s.reg ∧ (s.shadeDone m values).s.ctl = s.ctl ∧
    (s.shadeDone m values).s.ev = s.ev ∧ (s.shadeDone m values).s.par = s.par ∧ (s.shadeDone m values).s.fus = s.fus ∧
    (s.shadeDone m values).s.role = s.role ∧ (s.shadeDone m values).s.fw = s.fw ∧ (s.shadeDone m values).s.pace = s.pace ∧
    (s.shadeDone m values).s.ets = s.ets ∧ (s.shadeDone m values).s.pix = s.pix ∧ (s.shadeDone m values).s.pdp = s.pdp ∧
    (s.shadeDone m values).s.tab = s.tab ∧ (s.shadeDone m values).s.pin = s.pin ∧ (s.shadeDone m values).s.hkc = s.hkc ∧
    (s.shadeDone m values).s.tap = s.tap ∧ (s.shadeDone m values).s.pad = s.pad := by
  simp [State.shadeDone]

@[simp] theorem State.haltDone_frame (s : State) (q : Nat) :
    (s.haltDone q).pending = s.pending ∧ (s.haltDone q).free = s.free ∧ (s.haltDone q).clk = s.clk ∧
    (s.haltDone q).pwr = s.pwr ∧ (s.haltDone q).rst = s.rst ∧ (s.haltDone q).wdg = s.wdg ∧ (s.haltDone q).reg = s.reg ∧
    (s.haltDone q).ctl = s.ctl ∧ (s.haltDone q).ev = s.ev ∧ (s.haltDone q).par = s.par ∧ (s.haltDone q).fus = s.fus ∧
    (s.haltDone q).role = s.role ∧ (s.haltDone q).fw = s.fw ∧ (s.haltDone q).nvs = s.nvs ∧ (s.haltDone q).led = s.led ∧
    (s.haltDone q).sea = s.sea ∧ (s.haltDone q).view = s.view ∧ (s.haltDone q).pace = s.pace ∧ (s.haltDone q).lnk = s.lnk ∧
    (s.haltDone q).ets = s.ets ∧ (s.haltDone q).pix = s.pix ∧ (s.haltDone q).pdp = s.pdp ∧ (s.haltDone q).tab = s.tab ∧
    (s.haltDone q).hkc = s.hkc ∧ (s.haltDone q).tap = s.tap ∧ (s.haltDone q).pad = s.pad := by
  simp [State.haltDone]

@[simp] theorem State.shadeBegin_frame (s : State) (from_ : ShadeState) (m : Msg) :
    (s.shadeBegin from_ m).s.pending = s.pending ∧ (s.shadeBegin from_ m).s.free = s.free ∧
    (s.shadeBegin from_ m).s.clk = s.clk ∧ (s.shadeBegin from_ m).s.reg = s.reg ∧ (s.shadeBegin from_ m).s.ctl = s.ctl ∧
    (s.shadeBegin from_ m).s.ev = s.ev ∧ (s.shadeBegin from_ m).s.par = s.par ∧ (s.shadeBegin from_ m).s.fus = s.fus ∧
    (s.shadeBegin from_ m).s.role = s.role ∧ (s.shadeBegin from_ m).s.fw = s.fw ∧ (s.shadeBegin from_ m).s.pace = s.pace ∧
    (s.shadeBegin from_ m).s.ets = s.ets ∧ (s.shadeBegin from_ m).s.pix = s.pix ∧ (s.shadeBegin from_ m).s.pdp = s.pdp ∧
    (s.shadeBegin from_ m).s.tab = s.tab ∧ (s.shadeBegin from_ m).s.hkc = s.hkc ∧ (s.shadeBegin from_ m).s.tap = s.tap ∧
    (s.shadeBegin from_ m).s.pad = s.pad := by
  simp [State.shadeBegin]

@[simp] theorem State.shadeStart_frame (s : State) (m : Msg) :
    (s.shadeStart m).s.pending = s.pending ∧ (s.shadeStart m).s.free = s.free ∧ (s.shadeStart m).s.clk = s.clk ∧
    (s.shadeStart m).s.reg = s.reg ∧ (s.shadeStart m).s.ctl = s.ctl ∧ (s.shadeStart m).s.ev = s.ev ∧
    (s.shadeStart m).s.par = s.par ∧ (s.shadeStart m).s.fus = s.fus ∧ (s.shadeStart m).s.role = s.role ∧
    (s.shadeStart m).s.fw = s.fw ∧ (s.shadeStart m).s.pace = s.pace ∧ (s.shadeStart m).s.ets = s.ets ∧
    (s.shadeStart m).s.pix = s.pix ∧ (s.shadeStart m).s.pdp = s.pdp ∧ (s.shadeStart m).s.tab = s.tab ∧
    (s.shadeStart m).s.hkc = s.hkc ∧ (s.shadeStart m).s.tap = s.tap ∧ (s.shadeStart m).s.pad = s.pad := by
  simp [State.shadeStart]

@[simp] theorem State.shadeHalt_frame (s : State) (m : Msg) :
    (s.shadeHalt m).s.pending = s.pending ∧ (s.shadeHalt m).s.free = s.free ∧ (s.shadeHalt m).s.clk = s.clk ∧
    (s.shadeHalt m).s.reg = s.reg ∧ (s.shadeHalt m).s.ctl = s.ctl ∧ (s.shadeHalt m).s.ev = s.ev ∧
    (s.shadeHalt m).s.par = s.par ∧ (s.shadeHalt m).s.fus = s.fus ∧ (s.shadeHalt m).s.role = s.role ∧
    (s.shadeHalt m).s.fw = s.fw ∧ (s.shadeHalt m).s.pace = s.pace ∧ (s.shadeHalt m).s.ets = s.ets ∧
    (s.shadeHalt m).s.pix = s.pix ∧ (s.shadeHalt m).s.pdp = s.pdp ∧ (s.shadeHalt m).s.tab = s.tab ∧
    (s.shadeHalt m).s.hkc = s.hkc ∧ (s.shadeHalt m).s.tap = s.tap ∧ (s.shadeHalt m).s.pad = s.pad := by
  simp [State.shadeHalt]

@[simp] theorem State.shadeResume_frame (s : State) (m : Msg) :
    (s.shadeResume m).s.pending = s.pending ∧ (s.shadeResume m).s.free = s.free ∧ (s.shadeResume m).s.clk = s.clk ∧
    (s.shadeResume m).s.reg = s.reg ∧ (s.shadeResume m).s.ctl = s.ctl ∧ (s.shadeResume m).s.ev = s.ev ∧
    (s.shadeResume m).s.par = s.par ∧ (s.shadeResume m).s.fus = s.fus ∧ (s.shadeResume m).s.role = s.role ∧
    (s.shadeResume m).s.fw = s.fw ∧ (s.shadeResume m).s.pace = s.pace ∧ (s.shadeResume m).s.ets = s.ets ∧
    (s.shadeResume m).s.pix = s.pix ∧ (s.shadeResume m).s.pdp = s.pdp ∧ (s.shadeResume m).s.tab = s.tab ∧
    (s.shadeResume m).s.hkc = s.hkc ∧ (s.shadeResume m).s.tap = s.tap ∧ (s.shadeResume m).s.pad = s.pad := by
  simp [State.shadeResume]

@[simp] theorem State.shadeStop_frame (s : State) (m : Msg) :
    (s.shadeStop m).s.pending = s.pending ∧ (s.shadeStop m).s.free = s.free ∧ (s.shadeStop m).s.clk = s.clk ∧
    (s.shadeStop m).s.reg = s.reg ∧ (s.shadeStop m).s.ctl = s.ctl ∧ (s.shadeStop m).s.ev = s.ev ∧
    (s.shadeStop m).s.par = s.par ∧ (s.shadeStop m).s.fus = s.fus ∧ (s.shadeStop m).s.role = s.role ∧
    (s.shadeStop m).s.fw = s.fw ∧ (s.shadeStop m).s.pace = s.pace ∧ (s.shadeStop m).s.ets = s.ets ∧
    (s.shadeStop m).s.pix = s.pix ∧ (s.shadeStop m).s.pdp = s.pdp ∧ (s.shadeStop m).s.tab = s.tab ∧
    (s.shadeStop m).s.hkc = s.hkc ∧ (s.shadeStop m).s.tap = s.tap ∧ (s.shadeStop m).s.pad = s.pad := by
  simp [State.shadeStop]

@[simp] theorem State.fifoWrite_frame (s : State) (m : Msg) :
    (s.fifoWrite m).s.pending = s.pending ∧ (s.fifoWrite m).s.free = s.free ∧ (s.fifoWrite m).s.clk = s.clk ∧
    (s.fifoWrite m).s.reg = s.reg ∧ (s.fifoWrite m).s.ctl = s.ctl ∧ (s.fifoWrite m).s.ev = s.ev ∧
    (s.fifoWrite m).s.par = s.par ∧ (s.fifoWrite m).s.fus = s.fus ∧ (s.fifoWrite m).s.role = s.role ∧
    (s.fifoWrite m).s.fw = s.fw ∧ (s.fifoWrite m).s.pace = s.pace ∧ (s.fifoWrite m).s.ets = s.ets ∧
    (s.fifoWrite m).s.pix = s.pix ∧ (s.fifoWrite m).s.pdp = s.pdp ∧ (s.fifoWrite m).s.tab = s.tab ∧
    (s.fifoWrite m).s.hkc = s.hkc ∧ (s.fifoWrite m).s.tap = s.tap ∧ (s.fifoWrite m).s.pad = s.pad := by
  simp [State.fifoWrite]

@[simp] theorem State.fifoRead_frame (s : State) (m : Msg) :
    (s.fifoRead m).s.pending = s.pending ∧ (s.fifoRead m).s.free = s.free ∧ (s.fifoRead m).s.clk = s.clk ∧
    (s.fifoRead m).s.reg = s.reg ∧ (s.fifoRead m).s.ctl = s.ctl ∧ (s.fifoRead m).s.ev = s.ev ∧ (s.fifoRead m).s.par = s.par ∧
    (s.fifoRead m).s.fus = s.fus ∧ (s.fifoRead m).s.role = s.role ∧ (s.fifoRead m).s.fw = s.fw ∧
    (s.fifoRead m).s.pace = s.pace ∧ (s.fifoRead m).s.ets = s.ets ∧ (s.fifoRead m).s.pix = s.pix ∧
    (s.fifoRead m).s.pdp = s.pdp ∧ (s.fifoRead m).s.tab = s.tab ∧ (s.fifoRead m).s.hkc = s.hkc ∧ (s.fifoRead m).s.tap = s.tap ∧
    (s.fifoRead m).s.pad = s.pad := by
  simp [State.fifoRead]

@[simp] theorem State.queueCal_frame (s : State) (m : Msg) :
    (s.queueCal m).pending = s.pending ∧ (s.queueCal m).free = s.free ∧ (s.queueCal m).clk = s.clk ∧
    (s.queueCal m).pwr = s.pwr ∧ (s.queueCal m).rst = s.rst ∧ (s.queueCal m).wdg = s.wdg ∧ (s.queueCal m).reg = s.reg ∧
    (s.queueCal m).ctl = s.ctl ∧ (s.queueCal m).ev = s.ev ∧ (s.queueCal m).par = s.par ∧ (s.queueCal m).fus = s.fus ∧
    (s.queueCal m).role = s.role ∧ (s.queueCal m).fw = s.fw ∧ (s.queueCal m).nvs = s.nvs ∧ (s.queueCal m).led = s.led ∧
    (s.queueCal m).sea = s.sea ∧ (s.queueCal m).view = s.view ∧ (s.queueCal m).pace = s.pace ∧ (s.queueCal m).lnk = s.lnk ∧
    (s.queueCal m).ets = s.ets ∧ (s.queueCal m).pix = s.pix ∧ (s.queueCal m).pdp = s.pdp ∧ (s.queueCal m).tab = s.tab ∧
    (s.queueCal m).pin = s.pin ∧ (s.queueCal m).tap = s.tap ∧ (s.queueCal m).pad = s.pad := by
  simp [State.queueCal]

@[simp] theorem State.acceptCal_frame (s : State) (m : Msg) :
    (s.acceptCal m).s.pending = s.pending ∧ (s.acceptCal m).s.free = s.free ∧ (s.acceptCal m).s.clk = s.clk ∧
    (s.acceptCal m).s.reg = s.reg ∧ (s.acceptCal m).s.ctl = s.ctl ∧ (s.acceptCal m).s.ev = s.ev ∧
    (s.acceptCal m).s.par = s.par ∧ (s.acceptCal m).s.fus = s.fus ∧ (s.acceptCal m).s.role = s.role ∧
    (s.acceptCal m).s.fw = s.fw ∧ (s.acceptCal m).s.pace = s.pace ∧ (s.acceptCal m).s.ets = s.ets ∧
    (s.acceptCal m).s.pix = s.pix ∧ (s.acceptCal m).s.pdp = s.pdp ∧ (s.acceptCal m).s.tab = s.tab ∧
    (s.acceptCal m).s.pin = s.pin ∧ (s.acceptCal m).s.tap = s.tap ∧ (s.acceptCal m).s.pad = s.pad := by
  simp [State.acceptCal]

@[simp] theorem State.calibrate_frame (s : State) (m : Msg) :
    (s.calibrate m).s.pending = s.pending ∧ (s.calibrate m).s.free = s.free ∧ (s.calibrate m).s.clk = s.clk ∧
    (s.calibrate m).s.reg = s.reg ∧ (s.calibrate m).s.ctl = s.ctl ∧ (s.calibrate m).s.ev = s.ev ∧
    (s.calibrate m).s.par = s.par ∧ (s.calibrate m).s.fus = s.fus ∧ (s.calibrate m).s.role = s.role ∧
    (s.calibrate m).s.fw = s.fw ∧ (s.calibrate m).s.pace = s.pace ∧ (s.calibrate m).s.ets = s.ets ∧
    (s.calibrate m).s.pix = s.pix ∧ (s.calibrate m).s.pdp = s.pdp ∧ (s.calibrate m).s.tab = s.tab ∧
    (s.calibrate m).s.pin = s.pin ∧ (s.calibrate m).s.tap = s.tap ∧ (s.calibrate m).s.pad = s.pad := by
  simp [State.calibrate]

@[simp] theorem State.calClear_frame (s : State) (m : Msg) :
    (s.calClear m).s.pending = s.pending ∧ (s.calClear m).s.free = s.free ∧ (s.calClear m).s.clk = s.clk ∧
    (s.calClear m).s.reg = s.reg ∧ (s.calClear m).s.ctl = s.ctl ∧ (s.calClear m).s.ev = s.ev ∧ (s.calClear m).s.par = s.par ∧
    (s.calClear m).s.fus = s.fus ∧ (s.calClear m).s.role = s.role ∧ (s.calClear m).s.fw = s.fw ∧
    (s.calClear m).s.pace = s.pace ∧ (s.calClear m).s.ets = s.ets ∧ (s.calClear m).s.pix = s.pix ∧
    (s.calClear m).s.pdp = s.pdp ∧ (s.calClear m).s.tab = s.tab ∧ (s.calClear m).s.pin = s.pin ∧ (s.calClear m).s.tap = s.tap ∧
    (s.calClear m).s.pad = s.pad := by
  unfold State.calClear State.check; dsimp only; repeat' (first | (simp; done) | split)

@[simp] theorem State.tapTo_frame (s : State) (ir : BitVec 5) :
    (s.tapTo ir).pending = s.pending ∧ (s.tapTo ir).free = s.free ∧ (s.tapTo ir).clk = s.clk ∧ (s.tapTo ir).pwr = s.pwr ∧
    (s.tapTo ir).rst = s.rst ∧ (s.tapTo ir).wdg = s.wdg ∧ (s.tapTo ir).reg = s.reg ∧ (s.tapTo ir).ctl = s.ctl ∧
    (s.tapTo ir).ev = s.ev ∧ (s.tapTo ir).par = s.par ∧ (s.tapTo ir).fus = s.fus ∧ (s.tapTo ir).role = s.role ∧
    (s.tapTo ir).fw = s.fw ∧ (s.tapTo ir).nvs = s.nvs ∧ (s.tapTo ir).led = s.led ∧ (s.tapTo ir).sea = s.sea ∧
    (s.tapTo ir).view = s.view ∧ (s.tapTo ir).pace = s.pace ∧ (s.tapTo ir).lnk = s.lnk ∧ (s.tapTo ir).ets = s.ets ∧
    (s.tapTo ir).pix = s.pix ∧ (s.tapTo ir).pdp = s.pdp ∧ (s.tapTo ir).tab = s.tab ∧ (s.tapTo ir).pin = s.pin ∧
    (s.tapTo ir).hkc = s.hkc := by
  simp [State.tapTo]

@[simp] theorem State.debugHalt_frame (s : State) :
    s.debugHalt.pending = s.pending ∧ s.debugHalt.free = s.free ∧ s.debugHalt.clk = s.clk ∧ s.debugHalt.pwr = s.pwr ∧
    s.debugHalt.rst = s.rst ∧ s.debugHalt.reg = s.reg ∧ s.debugHalt.ctl = s.ctl ∧ s.debugHalt.ev = s.ev ∧
    s.debugHalt.par = s.par ∧ s.debugHalt.fus = s.fus ∧ s.debugHalt.role = s.role ∧ s.debugHalt.fw = s.fw ∧
    s.debugHalt.nvs = s.nvs ∧ s.debugHalt.led = s.led ∧ s.debugHalt.sea = s.sea ∧ s.debugHalt.view = s.view ∧
    s.debugHalt.pace = s.pace ∧ s.debugHalt.lnk = s.lnk ∧ s.debugHalt.ets = s.ets ∧ s.debugHalt.pix = s.pix ∧
    s.debugHalt.pdp = s.pdp ∧ s.debugHalt.tab = s.tab ∧ s.debugHalt.pin = s.pin ∧ s.debugHalt.hkc = s.hkc ∧
    s.debugHalt.tap = s.tap ∧ s.debugHalt.pad = s.pad := by
  simp [State.debugHalt]

@[simp] theorem State.coreMoves_frame (s : State) (halted : Bool) :
    (s.coreMoves halted).pending = s.pending ∧ (s.coreMoves halted).free = s.free ∧ (s.coreMoves halted).clk = s.clk ∧
    (s.coreMoves halted).pwr = s.pwr ∧ (s.coreMoves halted).rst = s.rst ∧ (s.coreMoves halted).reg = s.reg ∧
    (s.coreMoves halted).ctl = s.ctl ∧ (s.coreMoves halted).ev = s.ev ∧ (s.coreMoves halted).par = s.par ∧
    (s.coreMoves halted).fus = s.fus ∧ (s.coreMoves halted).role = s.role ∧ (s.coreMoves halted).fw = s.fw ∧
    (s.coreMoves halted).nvs = s.nvs ∧ (s.coreMoves halted).led = s.led ∧ (s.coreMoves halted).sea = s.sea ∧
    (s.coreMoves halted).view = s.view ∧ (s.coreMoves halted).pace = s.pace ∧ (s.coreMoves halted).lnk = s.lnk ∧
    (s.coreMoves halted).ets = s.ets ∧ (s.coreMoves halted).pix = s.pix ∧ (s.coreMoves halted).pdp = s.pdp ∧
    (s.coreMoves halted).tab = s.tab ∧ (s.coreMoves halted).pin = s.pin ∧ (s.coreMoves halted).hkc = s.hkc ∧
    (s.coreMoves halted).tap = s.tap ∧ (s.coreMoves halted).pad = s.pad := by
  simp [State.coreMoves]

@[simp] theorem State.debugData_frame (s : State) (w : Word) :
    (s.debugData w).pending = s.pending ∧ (s.debugData w).free = s.free ∧ (s.debugData w).clk = s.clk ∧
    (s.debugData w).pwr = s.pwr ∧ (s.debugData w).rst = s.rst ∧ (s.debugData w).wdg = s.wdg ∧ (s.debugData w).reg = s.reg ∧
    (s.debugData w).ctl = s.ctl ∧ (s.debugData w).ev = s.ev ∧ (s.debugData w).par = s.par ∧ (s.debugData w).fus = s.fus ∧
    (s.debugData w).role = s.role ∧ (s.debugData w).fw = s.fw ∧ (s.debugData w).nvs = s.nvs ∧ (s.debugData w).led = s.led ∧
    (s.debugData w).sea = s.sea ∧ (s.debugData w).view = s.view ∧ (s.debugData w).pace = s.pace ∧ (s.debugData w).lnk = s.lnk ∧
    (s.debugData w).ets = s.ets ∧ (s.debugData w).pix = s.pix ∧ (s.debugData w).pdp = s.pdp ∧ (s.debugData w).tab = s.tab ∧
    (s.debugData w).pin = s.pin ∧ (s.debugData w).hkc = s.hkc ∧ (s.debugData w).pad = s.pad := by
  simp [State.debugData]

@[simp] theorem State.debugLook_frame (s : State) (m : List (Nat × Option Word)) (addr : Nat) :
    (s.debugLook m addr).pending = s.pending ∧ (s.debugLook m addr).clk = s.clk ∧ (s.debugLook m addr).pwr = s.pwr ∧
    (s.debugLook m addr).rst = s.rst ∧ (s.debugLook m addr).wdg = s.wdg ∧ (s.debugLook m addr).reg = s.reg ∧
    (s.debugLook m addr).ctl = s.ctl ∧ (s.debugLook m addr).ev = s.ev ∧ (s.debugLook m addr).par = s.par ∧
    (s.debugLook m addr).fus = s.fus ∧ (s.debugLook m addr).role = s.role ∧ (s.debugLook m addr).fw = s.fw ∧
    (s.debugLook m addr).nvs = s.nvs ∧ (s.debugLook m addr).led = s.led ∧ (s.debugLook m addr).sea = s.sea ∧
    (s.debugLook m addr).view = s.view ∧ (s.debugLook m addr).pace = s.pace ∧ (s.debugLook m addr).lnk = s.lnk ∧
    (s.debugLook m addr).ets = s.ets ∧ (s.debugLook m addr).pix = s.pix ∧ (s.debugLook m addr).pdp = s.pdp ∧
    (s.debugLook m addr).tab = s.tab ∧ (s.debugLook m addr).pin = s.pin ∧ (s.debugLook m addr).hkc = s.hkc ∧
    (s.debugLook m addr).pad = s.pad := by
  unfold State.debugLook; split <;> simp

@[simp] theorem State.debugRegRead_frame (s : State) (addr : Nat) :
    (s.debugRegRead addr).pending = s.pending ∧ (s.debugRegRead addr).clk = s.clk ∧ (s.debugRegRead addr).pwr = s.pwr ∧
    (s.debugRegRead addr).rst = s.rst ∧ (s.debugRegRead addr).wdg = s.wdg ∧ (s.debugRegRead addr).reg = s.reg ∧
    (s.debugRegRead addr).ctl = s.ctl ∧ (s.debugRegRead addr).ev = s.ev ∧ (s.debugRegRead addr).par = s.par ∧
    (s.debugRegRead addr).fus = s.fus ∧ (s.debugRegRead addr).role = s.role ∧ (s.debugRegRead addr).fw = s.fw ∧
    (s.debugRegRead addr).nvs = s.nvs ∧ (s.debugRegRead addr).led = s.led ∧ (s.debugRegRead addr).sea = s.sea ∧
    (s.debugRegRead addr).view = s.view ∧ (s.debugRegRead addr).pace = s.pace ∧ (s.debugRegRead addr).lnk = s.lnk ∧
    (s.debugRegRead addr).ets = s.ets ∧ (s.debugRegRead addr).pix = s.pix ∧ (s.debugRegRead addr).pdp = s.pdp ∧
    (s.debugRegRead addr).tab = s.tab ∧ (s.debugRegRead addr).pin = s.pin ∧ (s.debugRegRead addr).hkc = s.hkc ∧
    (s.debugRegRead addr).pad = s.pad := by
  simp [State.debugRegRead]

@[simp] theorem State.debugRegWrite_frame (s : State) (addr : Nat) (value : Word) :
    (s.debugRegWrite addr value).pending = s.pending ∧ (s.debugRegWrite addr value).clk = s.clk ∧
    (s.debugRegWrite addr value).pwr = s.pwr ∧ (s.debugRegWrite addr value).ctl = s.ctl ∧
    (s.debugRegWrite addr value).par = s.par ∧ (s.debugRegWrite addr value).role = s.role ∧
    (s.debugRegWrite addr value).fw = s.fw ∧ (s.debugRegWrite addr value).led = s.led ∧
    (s.debugRegWrite addr value).sea = s.sea ∧ (s.debugRegWrite addr value).view = s.view ∧
    (s.debugRegWrite addr value).pace = s.pace ∧ (s.debugRegWrite addr value).ets = s.ets ∧
    (s.debugRegWrite addr value).pix = s.pix ∧ (s.debugRegWrite addr value).pdp = s.pdp ∧
    (s.debugRegWrite addr value).tab = s.tab ∧ (s.debugRegWrite addr value).pin = s.pin ∧
    (s.debugRegWrite addr value).hkc = s.hkc ∧ (s.debugRegWrite addr value).tap = s.tap ∧
    (s.debugRegWrite addr value).pad = s.pad ∧ (s.debugRegWrite addr value).nvs.mem = s.nvs.mem := by
  unfold State.debugRegWrite; dsimp only; repeat' (first | (simp; done) | split)

@[simp] theorem State.debugAct_frame (s : State) (y : DebugAct) :
    (s.debugAct y).pending = s.pending ∧ (s.debugAct y).ctl = s.ctl ∧ (s.debugAct y).par = s.par ∧
    (s.debugAct y).role = s.role ∧ (s.debugAct y).fw = s.fw ∧ (s.debugAct y).led = s.led ∧ (s.debugAct y).sea = s.sea ∧
    (s.debugAct y).view = s.view ∧ (s.debugAct y).pace = s.pace ∧ (s.debugAct y).ets = s.ets ∧ (s.debugAct y).pix = s.pix ∧
    (s.debugAct y).pdp = s.pdp ∧ (s.debugAct y).tab = s.tab ∧ (s.debugAct y).pin = s.pin ∧ (s.debugAct y).hkc = s.hkc ∧
    (s.debugAct y).pad = s.pad ∧ (s.debugAct y).nvs.mem = s.nvs.mem := by
  unfold State.debugAct; dsimp only; repeat' (first | (simp; done) | split)

@[simp] theorem State.commitView_frame (s : State) (m : Msg) :
    (s.commitView m).pending = s.pending ∧ (s.commitView m).free = s.free ∧ (s.commitView m).clk = s.clk ∧
    (s.commitView m).reg = s.reg ∧ (s.commitView m).ctl = s.ctl ∧ (s.commitView m).ev = s.ev ∧ (s.commitView m).par = s.par ∧
    (s.commitView m).fus = s.fus ∧ (s.commitView m).role = s.role ∧ (s.commitView m).fw = s.fw ∧
    (s.commitView m).pace = s.pace ∧ (s.commitView m).ets = s.ets ∧ (s.commitView m).pix = s.pix ∧
    (s.commitView m).pdp = s.pdp ∧ (s.commitView m).tab = s.tab ∧ (s.commitView m).pin = s.pin ∧ (s.commitView m).hkc = s.hkc ∧
    (s.commitView m).tap = s.tap ∧ (s.commitView m).pad = s.pad := by
  simp [State.commitView]

@[simp] theorem State.noteInterval_frame (s : State) (v : Nat) (g : ViewGen) :
    (s.noteInterval v g).pending = s.pending ∧ (s.noteInterval v g).free = s.free ∧ (s.noteInterval v g).clk = s.clk ∧
    (s.noteInterval v g).pwr = s.pwr ∧ (s.noteInterval v g).rst = s.rst ∧ (s.noteInterval v g).wdg = s.wdg ∧
    (s.noteInterval v g).reg = s.reg ∧ (s.noteInterval v g).ctl = s.ctl ∧ (s.noteInterval v g).ev = s.ev ∧
    (s.noteInterval v g).par = s.par ∧ (s.noteInterval v g).fus = s.fus ∧ (s.noteInterval v g).role = s.role ∧
    (s.noteInterval v g).fw = s.fw ∧ (s.noteInterval v g).nvs = s.nvs ∧ (s.noteInterval v g).led = s.led ∧
    (s.noteInterval v g).sea = s.sea ∧ (s.noteInterval v g).pace = s.pace ∧ (s.noteInterval v g).lnk = s.lnk ∧
    (s.noteInterval v g).pix = s.pix ∧ (s.noteInterval v g).pdp = s.pdp ∧ (s.noteInterval v g).tab = s.tab ∧
    (s.noteInterval v g).pin = s.pin ∧ (s.noteInterval v g).hkc = s.hkc ∧ (s.noteInterval v g).tap = s.tap ∧
    (s.noteInterval v g).pad = s.pad := by
  simp [State.noteInterval]

@[simp] theorem State.leaveCaptures_frame (s : State) (v : Nat) :
    (s.leaveCaptures v).pending = s.pending ∧ (s.leaveCaptures v).free = s.free ∧ (s.leaveCaptures v).clk = s.clk ∧
    (s.leaveCaptures v).pwr = s.pwr ∧ (s.leaveCaptures v).rst = s.rst ∧ (s.leaveCaptures v).wdg = s.wdg ∧
    (s.leaveCaptures v).reg = s.reg ∧ (s.leaveCaptures v).ctl = s.ctl ∧ (s.leaveCaptures v).ev = s.ev ∧
    (s.leaveCaptures v).par = s.par ∧ (s.leaveCaptures v).fus = s.fus ∧ (s.leaveCaptures v).role = s.role ∧
    (s.leaveCaptures v).fw = s.fw ∧ (s.leaveCaptures v).nvs = s.nvs ∧ (s.leaveCaptures v).led = s.led ∧
    (s.leaveCaptures v).sea = s.sea ∧ (s.leaveCaptures v).view = s.view ∧ (s.leaveCaptures v).pace = s.pace ∧
    (s.leaveCaptures v).lnk = s.lnk ∧ (s.leaveCaptures v).pix = s.pix ∧ (s.leaveCaptures v).pdp = s.pdp ∧
    (s.leaveCaptures v).tab = s.tab ∧ (s.leaveCaptures v).pin = s.pin ∧ (s.leaveCaptures v).hkc = s.hkc ∧
    (s.leaveCaptures v).tap = s.tap ∧ (s.leaveCaptures v).pad = s.pad := by
  simp [State.leaveCaptures]

@[simp] theorem State.cutView_frame (s : State) (v : Nat) :
    (s.cutView v).pending = s.pending ∧ (s.cutView v).free = s.free ∧ (s.cutView v).clk = s.clk ∧ (s.cutView v).pwr = s.pwr ∧
    (s.cutView v).rst = s.rst ∧ (s.cutView v).wdg = s.wdg ∧ (s.cutView v).reg = s.reg ∧ (s.cutView v).ctl = s.ctl ∧
    (s.cutView v).ev = s.ev ∧ (s.cutView v).par = s.par ∧ (s.cutView v).fus = s.fus ∧ (s.cutView v).role = s.role ∧
    (s.cutView v).fw = s.fw ∧ (s.cutView v).led = s.led ∧ (s.cutView v).pace = s.pace ∧ (s.cutView v).lnk = s.lnk ∧
    (s.cutView v).pix = s.pix ∧ (s.cutView v).pdp = s.pdp ∧ (s.cutView v).tab = s.tab ∧ (s.cutView v).pin = s.pin ∧
    (s.cutView v).hkc = s.hkc ∧ (s.cutView v).tap = s.tap ∧ (s.cutView v).pad = s.pad ∧ (s.cutView v).nvs.mem = s.nvs.mem := by
  simp [State.cutView]

@[simp] theorem State.renewView_frame (s : State) (v : Nat) :
    (s.renewView v).pending = s.pending ∧ (s.renewView v).free = s.free ∧ (s.renewView v).clk = s.clk ∧
    (s.renewView v).pwr = s.pwr ∧ (s.renewView v).rst = s.rst ∧ (s.renewView v).wdg = s.wdg ∧ (s.renewView v).reg = s.reg ∧
    (s.renewView v).ctl = s.ctl ∧ (s.renewView v).ev = s.ev ∧ (s.renewView v).par = s.par ∧ (s.renewView v).fus = s.fus ∧
    (s.renewView v).role = s.role ∧ (s.renewView v).fw = s.fw ∧ (s.renewView v).led = s.led ∧ (s.renewView v).pace = s.pace ∧
    (s.renewView v).lnk = s.lnk ∧ (s.renewView v).pix = s.pix ∧ (s.renewView v).pdp = s.pdp ∧ (s.renewView v).tab = s.tab ∧
    (s.renewView v).pin = s.pin ∧ (s.renewView v).hkc = s.hkc ∧ (s.renewView v).tap = s.tap ∧ (s.renewView v).pad = s.pad ∧ (s.renewView v).nvs.mem = s.nvs.mem := by
  simp [State.renewView]

@[simp] theorem State.reactivate_frame (s : State) (v : Nat) (g : ViewGen) :
    (s.reactivate v g).pending = s.pending ∧ (s.reactivate v g).clk = s.clk ∧ (s.reactivate v g).rst = s.rst ∧
    (s.reactivate v g).wdg = s.wdg ∧ (s.reactivate v g).reg = s.reg ∧ (s.reactivate v g).ctl = s.ctl ∧
    (s.reactivate v g).ev = s.ev ∧ (s.reactivate v g).par = s.par ∧ (s.reactivate v g).fus = s.fus ∧
    (s.reactivate v g).role = s.role ∧ (s.reactivate v g).fw = s.fw ∧ (s.reactivate v g).led = s.led ∧
    (s.reactivate v g).pace = s.pace ∧ (s.reactivate v g).lnk = s.lnk ∧ (s.reactivate v g).pin = s.pin ∧
    (s.reactivate v g).hkc = s.hkc ∧ (s.reactivate v g).tap = s.tap ∧ (s.reactivate v g).pad = s.pad ∧
    (s.reactivate v g).nvs.mem = s.nvs.mem := by
  simp [State.reactivate]

@[simp] theorem State.activate_frame (s : State) (m : Msg) (g : ViewGen) :
    (s.activate m g).s.pending = s.pending ∧ (s.activate m g).s.clk = s.clk ∧ (s.activate m g).s.reg = s.reg ∧
    (s.activate m g).s.ctl = s.ctl ∧ (s.activate m g).s.ev = s.ev ∧ (s.activate m g).s.par = s.par ∧
    (s.activate m g).s.fus = s.fus ∧ (s.activate m g).s.role = s.role ∧ (s.activate m g).s.fw = s.fw ∧
    (s.activate m g).s.pace = s.pace ∧ (s.activate m g).s.pin = s.pin ∧ (s.activate m g).s.hkc = s.hkc ∧
    (s.activate m g).s.tap = s.tap ∧ (s.activate m g).s.pad = s.pad := by
  simp [State.activate]

@[simp] theorem State.viewActivate_frame (s : State) (m : Msg) :
    (s.viewActivate m).s.pending = s.pending ∧ (s.viewActivate m).s.clk = s.clk ∧ (s.viewActivate m).s.reg = s.reg ∧
    (s.viewActivate m).s.ctl = s.ctl ∧ (s.viewActivate m).s.ev = s.ev ∧ (s.viewActivate m).s.par = s.par ∧
    (s.viewActivate m).s.fus = s.fus ∧ (s.viewActivate m).s.role = s.role ∧ (s.viewActivate m).s.fw = s.fw ∧
    (s.viewActivate m).s.pace = s.pace ∧ (s.viewActivate m).s.pin = s.pin ∧ (s.viewActivate m).s.hkc = s.hkc ∧
    (s.viewActivate m).s.tap = s.tap ∧ (s.viewActivate m).s.pad = s.pad := by
  unfold State.viewActivate State.check State.checkNumbered; dsimp only; repeat' (first | (simp; done) | split)

@[simp] theorem State.startView_frame (s : State) (m : Msg) :
    (s.startView m).s.pending = s.pending ∧ (s.startView m).s.free = s.free ∧ (s.startView m).s.clk = s.clk ∧
    (s.startView m).s.reg = s.reg ∧ (s.startView m).s.ctl = s.ctl ∧ (s.startView m).s.ev = s.ev ∧
    (s.startView m).s.par = s.par ∧ (s.startView m).s.fus = s.fus ∧ (s.startView m).s.role = s.role ∧
    (s.startView m).s.fw = s.fw ∧ (s.startView m).s.pace = s.pace ∧ (s.startView m).s.pin = s.pin ∧
    (s.startView m).s.hkc = s.hkc ∧ (s.startView m).s.tap = s.tap ∧ (s.startView m).s.pad = s.pad := by
  simp [State.startView]

@[simp] theorem State.viewStart_frame (s : State) (m : Msg) :
    (s.viewStart m).s.pending = s.pending ∧ (s.viewStart m).s.free = s.free ∧ (s.viewStart m).s.clk = s.clk ∧
    (s.viewStart m).s.reg = s.reg ∧ (s.viewStart m).s.ctl = s.ctl ∧ (s.viewStart m).s.ev = s.ev ∧
    (s.viewStart m).s.par = s.par ∧ (s.viewStart m).s.fus = s.fus ∧ (s.viewStart m).s.role = s.role ∧
    (s.viewStart m).s.fw = s.fw ∧ (s.viewStart m).s.pace = s.pace ∧ (s.viewStart m).s.pin = s.pin ∧
    (s.viewStart m).s.hkc = s.hkc ∧ (s.viewStart m).s.tap = s.tap ∧ (s.viewStart m).s.pad = s.pad := by
  unfold State.viewStart State.check State.checkNumbered; dsimp only; repeat' (first | (simp; done) | split)

@[simp] theorem State.stopView_frame (s : State) (m : Msg) :
    (s.stopView m).s.pending = s.pending ∧ (s.stopView m).s.free = s.free ∧ (s.stopView m).s.clk = s.clk ∧
    (s.stopView m).s.reg = s.reg ∧ (s.stopView m).s.ctl = s.ctl ∧ (s.stopView m).s.ev = s.ev ∧ (s.stopView m).s.par = s.par ∧
    (s.stopView m).s.fus = s.fus ∧ (s.stopView m).s.role = s.role ∧ (s.stopView m).s.fw = s.fw ∧
    (s.stopView m).s.pace = s.pace ∧ (s.stopView m).s.tab = s.tab ∧ (s.stopView m).s.pin = s.pin ∧
    (s.stopView m).s.hkc = s.hkc ∧ (s.stopView m).s.tap = s.tap ∧ (s.stopView m).s.pad = s.pad := by
  simp [State.stopView]

@[simp] theorem State.viewStop_frame (s : State) (m : Msg) :
    (s.viewStop m).s.pending = s.pending ∧ (s.viewStop m).s.free = s.free ∧ (s.viewStop m).s.clk = s.clk ∧
    (s.viewStop m).s.reg = s.reg ∧ (s.viewStop m).s.ctl = s.ctl ∧ (s.viewStop m).s.ev = s.ev ∧ (s.viewStop m).s.par = s.par ∧
    (s.viewStop m).s.fus = s.fus ∧ (s.viewStop m).s.role = s.role ∧ (s.viewStop m).s.fw = s.fw ∧
    (s.viewStop m).s.pace = s.pace ∧ (s.viewStop m).s.tab = s.tab ∧ (s.viewStop m).s.pin = s.pin ∧
    (s.viewStop m).s.hkc = s.hkc ∧ (s.viewStop m).s.tap = s.tap ∧ (s.viewStop m).s.pad = s.pad := by
  simp [State.viewStop]

/-- A tick leaves NVS as it is but for a block operation whose journal is not yet in APPLY. -/
theorem State.tick_nvs (s : State) (h : s.nvs.blocks = [] ∨ s.nvs.journal.state = .apply) : s.tick.nvs = s.nvs := by
  cases h with
  | inl h => simp [State.tick, State.tickBlocks, h]
  | inr h =>
    simp only [State.tick, State.tickPins_frame, State.tickMonitors_frame, State.tickWindows_frame, State.tickBlocks]
    split
    · split <;> simp [State.shadowBlock, h]
    · rfl

end Sys2Proof.Machine
end

