-- ==== Sys2Proof/Laws/Messages.lean ====
section
/-! SUPPORT. How CTL answers a message: one lemma for an unsigned and one for a signed message that passes checks 1 to 8, and the order
of the checks a signed message fails (R294, R295). -/

namespace Sys2Proof.Machine

@[simp] theorem nextMsg_takeMsg_ctl (s : State) (m : Msg) :
    (s.takeMsg m).ctl = { s.ctl with inbox := s.ctl.inbox.tail, superseded := s.ctl.superseded - 1 } := by
  unfold State.takeMsg; dsimp only; split <;> rfl

/-- Taking a message changes the order, the core's progress, and the register block where it came over the side band; nothing else. -/
theorem takeMsg_eq (s : State) (m : Msg) :
    s.takeMsg m = { s with
      wdg := (s.takeMsg m).wdg, reg := (s.takeMsg m).reg, ctl := { s.ctl with inbox := s.ctl.inbox.tail, superseded := s.ctl.superseded - 1 } } := by
  unfold State.takeMsg; dsimp only; split <;> rfl

theorem inSession_takeMsg (s : State) (m n : Msg) : (s.takeMsg m).inSession n = s.inSession n := by
  simp [State.inSession]

theorem repeats_takeMsg (s : State) (m n : Msg) : (s.takeMsg m).repeats n = s.repeats n := by
  simp [State.repeats, inSession_takeMsg]

theorem trailerError_takeMsg (s : State) (m n : Msg) : (s.takeMsg m).trailerError n = s.trailerError n := by
  rw [takeMsg_eq]; rfl

theorem signedError_takeMsg (s : State) (row : MsgRow) (m n : Msg) : (s.takeMsg m).signedError row n = s.signedError row n := by
  simp [State.signedError, inSession_takeMsg, trailerError_takeMsg]

/-- Checks 1 to 3 pass. -/
theorem earlyError_zero {s : State} {row : MsgRow} {fits : Msg → Nat → Bool} {m : Msg} (hf : m.formed = true)
    (hl : (m.bodyLength (row.role != 0)).any (fits m) = true) (hr : s.pwr.recovery = true → row.recovery = true) :
    s.earlyError row fits m = 0 := by
  cases h1 : s.pwr.recovery <;> simp_all [State.earlyError, firstError]

/-- Checks 7 and 8 pass. -/
theorem late_eq {s : State} {row : MsgRow} {gen : State → Msg → Nat} {run : State → Msg → Answer} {m : Msg}
    (he : s.led.epochState = .idle ∨ row.publicRead = true) (hg : gen s m = 0) : s.late row gen run m = run s m := by
  rcases he with he | he <;> simp [State.late, State.check, firstError, State.epochBusy, he, hg]

/-- An unsigned message that passes checks 1 to 8 is answered by its row. -/
theorem serve_open {s : State} {mine : Msg → Bool} {row : MsgRow} {fits : Msg → Nat → Bool} {gen : State → Msg → Nat}
    {run : State → Msg → Answer} {m : Msg} (hn : s.nextMsg = some m) (hs : s.serves = true) (hm : mine m = true)
    (hf : m.formed = true) (h0 : row.role = 0) (hl : fits m (m.bytes.length - 16) = true)
    (hr : s.pwr.recovery = true → row.recovery = true) (he : s.led.epochState = .idle ∨ row.publicRead = true)
    (hg : gen (s.takeMsg m) m = 0) :
    s.serve mine row fits gen run = (run (s.takeMsg m) m).send m false := by
  have e : (s.takeMsg m).earlyError row fits m = 0 :=
    earlyError_zero hf (by simp [Msg.bodyLength, h0, hl]) (by rw [takeMsg_eq]; exact hr)
  have l : (s.takeMsg m).late row gen run m = run (s.takeMsg m) m := late_eq (by rw [takeMsg_eq]; exact he) hg
  simp [State.serve, hn, hs, hm, State.execute, e, h0, l]

/-- A signed message that no later `MSG_SESSION_OPEN` has overtaken and that passes checks 1 to 8 is answered by its row, its sequence
consumed. -/
theorem serve_signed {s : State} {mine : Msg → Bool} {row : MsgRow} {fits : Msg → Nat → Bool} {gen : State → Msg → Nat}
    {run : State → Msg → Answer} {m : Msg} (hn : s.nextMsg = some m) (hs : s.serves = true) (hm : mine m = true)
    (hf : m.formed = true) (h0 : row.role ≠ 0) (h80 : 80 ≤ m.bytes.length) (hl : fits m (m.bytes.length - 80) = true)
    (hr : s.pwr.recovery = false) (hi : s.inSession m = true) (hq : m.sequence = (s.ctl.seqLast + 1).toNat)
    (h1 : row.role ≤ m.role) (h3 : m.role ≤ 3) (ht : s.trailerError m = 0) (ho : s.ctl.superseded = 0)
    (he : s.led.epochState = .idle ∨ row.publicRead = true)
    (hg : gen ((s.takeMsg m).takeSequence m) m = 0) :
    s.serve mine row fits gen run = (run ((s.takeMsg m).takeSequence m) m).send m true := by
  have e : (s.takeMsg m).earlyError row fits m = 0 :=
    earlyError_zero hf (by simp [Msg.bodyLength, h0, h80, hl]) (by rw [takeMsg_eq]; simp [hr])
  have r : s.repeats m = false := by
    have : (s.ctl.seqLast + 1).toNat ≠ s.ctl.seqLast.toNat := by bv_omega
    rw [← hq] at this
    unfold State.repeats
    simp only [this, decide_false, Bool.and_false, Bool.false_and]
  have g : (s.takeMsg m).signedError row m = 0 := by
    rw [signedError_takeMsg]
    simp [State.signedError, hi, hq, ht, Nat.not_lt.mpr h1, Nat.not_lt.mpr h3]
  have l : ((s.takeMsg m).takeSequence m).late row gen run m = run ((s.takeMsg m).takeSequence m) m :=
    late_eq (by unfold State.takeSequence; rw [takeMsg_eq]; exact he) hg
  simp [State.serve, hn, hs, hm, State.execute, e, h0, ho, repeats_takeMsg, r, g, l]

/-- An accepted answer that did not touch what CTL holds, sent: the counter, the response, and what a repeat needs. -/
theorem send_accept (s : State) (m : Msg) (body : Bytes) :
    (s.accept body).send m false = { s with ctl := { s.ctl with
      msgExecuted := s.ctl.msgExecuted + 1
      replies := s.ctl.replies ++ [⟨m.inBand, m.response 0 0 body, false, 0⟩] } } := rfl

end Sys2Proof.Machine
end

