-- ==== Sys2Proof/WellFormed.lean ====
section
/-! DEFINITION. Which commands are well formed: operands name things the block has, and lists have the lengths the spec gives. -/

namespace Sys2Proof

/-- Three reads of an OTP item: a word has 39 cells, a unit 3 (R336, R339). -/
def OtpReads.wf (cells : Nat) (r : OtpReads) : Bool := r.normal < 2 ^ cells && r.low < 2 ^ cells && r.high < 2 ^ cells

/-- An item of the two OTP regions and its reads. -/
def OtpItem.wf (r : OtpReads) : OtpItem → Bool
  | .word w => w < 256 && r.wf 39
  | .unit u => u < 1365 && r.wf 3

/-- An edge names one of the 16 profiles, and a slice of at most 64 (R35, R58). -/
def Edge.wf : Edge → Bool
  | .t0 _ => true
  | .dgFall p k _ => p < 16 && k < 64
  | .transferRise p k _ => p < 16 && k < 64
  | .transferFall p k _ => p < 16 && k < 64
  | .mergeRise p => p < 16
  | .mergeFall p => p < 16
  | .close => true

/-- The bytes left lie in what was being written: a staging buffer, a slot, an anchor copy (R166, R172, R173). -/
def NvsCut.wf : NvsCut → Bool
  | .stage b => b.length ≤ 512
  | .slot b => b.length = 128
  | .anchor b => b.length = 256
  | .inHand e _ b => e.index < 3 && (e.entropy = [] || e.entropy.length = 64) && b.length ≤ 512
  | _ => true

/-- A command is well formed. Commands without operands, and those whose operands' types admit only what exists, always are. -/
def Instr.wf : Instr → Bool
  | .powerOnReset loss => loss.torn.wf 39 && loss.cut.wf
  | .boot env => env.stage < 7 && env.decay.all fun c => c.1 < 0x2000000
  | .railBelowClosingMinimum fall => fall.cut.wf
  | .domainPowerUpDone domain => domain < 56
  | .quadrantFlushDone quadrant => quadrant < 4
  | .segmentPowerUpDone segment => segment < 6
  | .lanePllLocked _ band _ _ => band < 64
  | .paceVerdictUpdate rings => rings.length = 10
  | .replicaRingStall monitor => monitor < 10
  | .comparatorEdge edge => edge.wf
  | .conversionDelivered bank _ => bank < 4
  | .viewLinePacked view => view < 32
  | .lineAbsorbed line => line.view < 32
  | .frameRootComplete view => view < 32
  | .aeStep profile => profile < 16
  | .wake source => (match source with | .wakePin pin _ => pin < 16 | _ => true)
  | .laneReport receivers => receivers.length = 4
  | .fomReport _ foms _ => foms.length = 4
  | .rlCodewordReceive symbols => symbols.length = 544
  | .mailboxWrite addr _ => addr.toNat % 4 = 0
  | .registerWrite addr _ => addr.toNat % 4 = 0
  | .bulkWindowWrite addr _ => addr.toNat % 4 = 0
  | .msgSessionOpen entropy => entropy.length = 32
  | .generateIdentity entropy => entropy.length = 64
  | .wdgWindowExpiry slot => slot < 16
  | .progressMonitorTrip monitor => monitor < 64
  | .otpProgramDone reads => reads.wf 39
  | .fusReread drift => drift.all fun x => x.1.wf x.2
  | .pinActivityDetect source => source < 32
  | .tintEvaluate engine => engine < 8
  | .shiftOut seq _ | .shiftIn seq _ _ | .set seq | .waitPin seq | .waitPinDone seq | .waitPinTimeout seq
  | .waitTicks seq | .waitTicksDone seq | .jump seq | .pull seq | .pullUnblock seq | .push seq
  | .pushUnblock seq | .move seq | .signal seq => seq < 4
  | .tapDebug code _ => 0x10 ≤ code.toNat && code.toNat ≤ 0x1E
  | .conditionedLevelChange pin _ => pin < 16
  | .resetRelease | .pfailFall | .pfailRise | .pfailRecognition | .droopDetect _ | .thermalTrip
  | .offHoldRelease | .thermalRelease | .rstNAssert | .standbyEntry | .scheduledStart | .triggerDetect
  | .rowquadRelease | .rowquadAligned | .nvsCommit | .signJobDone _ | .blockOperationDone
  | .storedLockTimeout _ | .lanePllUnlock | .rlCdrLock | .rlCdrUnlock | .rlBlockLock | .rlBlockLockLoss
  | .rlSignalLoss | .rlSignalRestore | .refclkLoss | .refclkRestore | .timePllUnlock | .timePllRelock
  | .identTimeout | .fomRequest | .fomMonitorRequest | .fomReportTimeout | .aligned | .alignTimeout
  | .fixedAlignExpiry | .retrain | .downWaitExpiry | .rlMsgPacket _ | .packetSend | .markerCodeword
  | .ppsEdge _ | .ppsTimeout | .pendingSetTimeout | .phaseRotationStep | .spiFrameRefused | .readStatus
  | .cmdDoorbell _ | .rspAck _ | .responsePlace | .irqStatusClear _ | .cmdStatusClear _ | .evtRdWrite _
  | .evtLostRead | .spiErrorsRead | .supBufRead | .timeLoRead _ | .capCntLoRead | .hkcAccLoRead | .supReset
  | .supClose | .supTail | .supRrecord | .supSnapshot | .supCmdUnknown _ | .eventRingWrite | .vermilionRepeat
  | .msgUnknown | .msgSessionClose | .msgNop | .deviceCertGet | .deviceCertIdentity | .deviceCertStore
  | .msgAttest | .msgParamGet | .msgParamGetSigned | .msgParamSet | .msgTableRead | .msgTableWrite
  | .msgViewActivate | .msgViewStart | .msgViewStop | .msgSealCert | .sealResign | .msgLedgerRead
  | .msgLedgerEpoch | .msgPowerStandby | .msgRoleEnrol | .msgRoleRevoke | .msgFwLoad | .msgFwActivate
  | .msgFusRead | .programWord | .completeGroup | .lockGroup | .installMakerKey | .msgFusReinforce
  | .msgLifecycleAdvance | .msgDebugUnlock | .msgDebugRelock | .msgPinLoad | .shadeStart | .shadeHalt
  | .shadeResume | .shadeRestart | .shadeStop | .fifoWrite | .fifoRead | .hkcCalZero | .hkcCalFull | .hkcCalClear
  | .wdgRegister _ | .wdgCheckin _ | .sealFaultResetDelay | .resetExecute | .statsPinExpiry | .ledgerRateUpdate
  | .retentionUpdate _ | .rlFomUpdate _ | .triggerArm | .pinHoldLimit | .hkcPeriodEnd _ _ | .scanTimer
  | .pulseWidthEvent _ | .scanPassStart | .prioritySequenceStart | .refSettled | .calConversionDone _ | .extest
  | .samplePreload _ | .idcode | .highz | .clamp | .bypass _ | .tapReset | .wordCutShort | .trstNAssert
  | .rstNRelease | .umberLaneRemoval | .datapathQuietBound | .closingRunEnd
  | .vddnvReturn => true

end Sys2Proof
end

