-- ==== Sys2Proof/Tests/Slice0.lean ====
section
/-! SUPPORT. Tests: an ill-formed command for each check of `Instr.wf`, published vectors and the spec's worked examples,
and for every hypothesis of a statement (`wit_<statement>_<clause>`) a concrete state and operands that meet it. -/

set_option Elab.async false

namespace Sys2Proof.Tests
open Sys2Proof Sys2Proof.Machine

/-! ## States the tests share -/

/-- The device up: every domain powered, booted, the mailbox open, one second since power-on. -/
def up : State := { State.reset with
  clk := { ticks := 125000000, time := 1000000000, refclk := true, pllLocked := true }
  pwr := { state := .active, released := true, domains := 0xFFFFFFFFFFFFFF, bootEntryDone := true, bootStage := 0xFF }
  ctl := { ready := true } }

/-- The device up with its register block, its mailbox processor, or its power changed. -/
def upReg (r : Reg) : State := { up with reg := r }
def upCtl (c : Ctl) : State := { up with ctl := { c with ready := true } }
def upPwr (f : Pwr → Pwr) : State := { up with pwr := f up.pwr }
def upLnk (l : Lnk) : State := { up with lnk := l }

/-- A closing run begun one second ago by PFAIL_N. -/
def run1 : Run := { trigger := 1, t0 := 0, t0Tick := 0, lastCapture := 0, segNext := 0 }

/-- The device in a closing run. -/
def inRun (r : Run) : State := { up with pwr := { up.pwr with state := .closing, run := some r, pfailLow := true } }

/-- The device in OFF_HOLD. -/
def held (h : Hold) : State := { up with pwr := { up.pwr with state := .offHold, hold := some h } }

/-- A boot in which every engine and self-test passes. -/
def env1 : BootEnv := { engines := 0xFFFFFFFF, tree := true, derivation := true, signing := true }

/-- View 0 runs with a 16 × 2 window, and the link admits captures. -/
def viewing : State := { up with
  view := up.view.set 0 { state := .running, gen := { width := 16, height := 2 }, genNo := 1 }
  lnk := { state := .up }
  pix := { quadReady := 1, segReady := 1 } }

/-- The same with ARRAY.ORIGIN such that a grid instant is 1 µs and one frame's span ahead. -/
def gridded : State := { viewing with par := { values := [(0x100A, 1001001000)] } }

/-- TRIGGERED mode, with the arming unit armed and its source's level, GP0, active from this tick on. -/
def triggered : State := { viewing with
  par := { values := [(0x1006, 1)] }
  pin := { levels := 1, armed := true, active := true, since := 125000000 } }

/-- A capture of one quadrant that starts `before` ticks before the present one. -/
def shot (before : Nat) : Capture := {
  counter := 5, index := 0, kind := 0, align := 0, triggered := false, chargeBin := false
  t0Tick := 125000000 - before, smax := 125000, interval := 448, quads := 1, segs := 1
  profiles := [{ profile := 0, slices := 1, ea := 125000, eb := 0, period := 125003, spacing := 0, gain := 0, span := 125000, offset := 0 }]
  tilemap := [], views := [0], t0 := some 999000000, closed := 125000 < before }

/-- What the datapath latched for it. -/
def latch0 : PdpLatch := {
  rawPedestal := 0, linPedestal := 0, filter := 0, rowCorr := false, defectOn := false, kneeH := 0, kneeL := 0
  shift20 := 0, greenOnly := false, dcg := 16384, variant := 0, segments := 0, colcal := [], defects := [] }

/-- Its job, with `n` rows processed. -/
def job0 (n : Nat) : PdpJob := {
  capture := shot 200000, latch := latch0, done := n ≠ 0
  rows := (List.range n).map fun y => ⟨y + 32, [⟨[], List.replicate 16 (some ⟨1000, false⟩)⟩]⟩ }

/-- Its job with the first `n` optical-black rows, and with the defects given. -/
def jobDark (n : Nat) : PdpJob := { job0 0 with
  dark := (List.range n).map fun y => ⟨y, [⟨List.replicate 64 ⟨4096, false⟩, List.replicate 4 (some ⟨4096, false⟩)⟩]⟩ }
def jobBad (l : List Defect) : PdpJob := { job0 8 with latch := { latch0 with defectOn := true, defects := l } }

/-- Its first row-quad, each bank having delivered `n` conversions. -/
def quad0 (n : Nat) : WaitingQuad := ⟨5, 0, 124990000, List.replicate 4 (List.replicate n (List.replicate 64 ⟨100, 200⟩))⟩

/-- The datapath with that job and row-quad. -/
def busy (n k : Nat) : State := { viewing with
  ets := { captures := [shot 200000] }
  pdp := { jobs := [job0 n], waiting := [quad0 k] } }

/-- A frame of view 0 for that capture. -/
def frame0 : Frame := { capture := 5, genNo := 1, gen := { width := 16, height := 2 }, digest := [] }

/-- View 0 with that frame. -/
def framed (f : Frame) : State := { busy 2 0 with
  view := up.view.set 0 { state := .running, gen := { width := 16, height := 2 }, genNo := 1, current := [f] }
  pdp := { jobs := [job0 2] } }

/-- One tile's statistics for profile 0, of capture 5. -/
def stats0 : StatsSet := ⟨5, 0, 999000000, 0, false, false, [(0, ⟨[], 1000, 10, 0, 0⟩)], [0]⟩

/-- A device in COBALT whose ledger of epoch 3 has ten entries. -/
def ledgered : State := { up with
  fus := { lifecycle := 2, bank := 1 }
  led := { ready := true, nextSeq := 10, present := 10, epoch := 3, lastHead := List.replicate 64 5 } }

/-- The same with a commit waiting. -/
def asked (c : Commit) : State := { ledgered with nvs := { queue := [c] } }

/-- A decided reset. -/
def decided0 : Decided := { cause := .wdogTask, detail := 1, mask := 8, time := 999000000, tick := 124900000, stage := 0, power := 1, held := 0, pc := 7 }

/-- The link in a state, with its return lane carrying packets. -/
def linked (x : Lnk) : State := upLnk { x with rx := { x.rx with locked := true, blockLock := true } }

/-- Step 5 with one lane at preset 0, asked 1 ms ago and more. -/
def adapt0 : Adapt := { rate := 2, lanes := [(0, ⟨.preset 0, ⟨0, 0, 0, 0⟩, 0, 0, ⟨0, 0, 0, 0⟩⟩)], passes := 2, target := 200, settle := 50, fallback := true, since := 0 }

/-- A request sent now. -/
def ask0 (monitoring : Bool) : FomAsk := ⟨0, 125000000, monitoring⟩

/-- A packet of a kind with an empty body. -/
def pk (kind : Nat) : Packet := { kind := kind }

/-- The link UP on one lane. -/
def sending (l : Lnk) : State := upLnk { l with state := .up, lanesUsed := 1, framer := { l.framer with lanes := [{}] } }

/-- Sequencer 1 at word 0 of its eight-word window, which holds `w`, with pin 3 its own. -/
def shading (w : Nat) (x : Shade) : State := { up with
  par := { values := [(0x2C03, 4 + 65536), (0x2C04, 1)] }
  pin := { cfg := [(3, 4 + 65536), (4, 1)], store := [(0, w)], shade := up.pin.shade.set 1 x } }

/-- A sequencer that runs, its window eight words, at a cycle boundary 64 ticks ago. -/
def shade0 : Shade := { state := .running, length := 8, next := 124999936, d := 0x55, k := 1 }

/-- The housekeeping converter in a state, with parameters. -/
def keeping (h : Hkc) (p : List (Nat × Nat)) : State := { up with hkc := h, par := { values := p } }

/-- A conversion of channel 0, under the internal reference, in its last period. -/
def conv0 (w : HkcWork) (settled : Bool) : HkcConv := ⟨w, 0, 0x20, 0, 2, false, settled, 0⟩

/-- A MSG packet of sequence 9 with a body of two bytes. -/
def msgPacket : Bytes :=
  let b := [7, 0] ++ leBytes 2 22 ++ leBytes 4 9 ++ zeros 8 ++ [1, 2]
  b ++ leBytes 4 (crc32 b).toNat

/-- An unsigned in-band message. -/
def openMsg (code : Nat) (body : Bytes) : Msg :=
  ⟨leBytes 2 1 ++ leBytes 2 code ++ leBytes 2 5 ++ leBytes 2 (16 + body.length) ++ zeros 8 ++ body, true⟩

/-- A signed in-band message of session 7, sequence 10. -/
def signedMsg (code role slot : Nat) (body trailer : Bytes) : Msg :=
  ⟨leBytes 2 1 ++ leBytes 2 code ++ leBytes 2 5 ++ leBytes 2 (84 + body.length) ++ leBytes 4 7 ++ leBytes 4 10 ++
    leBytes 1 role ++ leBytes 1 slot ++ zeros 2 ++ body ++ padTo 64 trailer, true⟩

/-- One signed by the CHALK authority. -/
def chalkMsg (code : Nat) (body : Bytes) : Msg := signedMsg code 3 0xFF body []

/-- The message at the head of CTL's order, in a session whose next sequence is 10. -/
def served (m : Msg) : State := upCtl { inbox := [.inBand m.bytes], sessionOpen := true, session := 7, seqLast := 9 }

/-- The same through the command mailbox. -/
def sideServed (m : Msg) : State :=
  upCtl { inbox := [.side], cmdBox := nvWrite [] 0 m.bytes, sessionOpen := true, session := 7, seqLast := 9 }

/-- Reads of words, each alike at every margin. -/
def reads (l : List (Nat × Nat)) : List (Nat × OtpReads) := l.map fun x => (x.1, ⟨x.2, x.2, x.2⟩)

/-- The cells of a MAKER group that holds the digest of `key0`, with its completion word. -/
def makerWords : List (Nat × Nat) := [
  (32, 488988366703), (33, 72149710668), (34, 524165842369), (35, 225545579361), (36, 313756226234), (37, 27785298423), (38, 66142410232),
  (39, 309117778849), (40, 369295267741), (41, 258025149852), (42, 275010227896), (43, 208237090885), (44, 276977605194), (45, 372783384702),
  (46, 256741708097), (47, 173337277357), (64, 208115889463)]

/-- The public key of the private key of 32 zeros. -/
def key0 : Bytes := leBytes 32 18930617471878267742194159801949745215346600387277955685031939302387136031291

/-- Fuses whose MAKER group is locked with the digest of `key0`. -/
def makerFuses (lifecycle : Nat) : Fus :=
  { lifecycle := lifecycle, bank := 1, latWords := reads makerWords, latUnits := [(1285, ⟨7, 7, 7⟩)] }

/-- What a step came to. -/
def after (o : Host.Outcome State Fault Refusal) : State :=
  match o with
  | .next t => t
  | _ => State.reset

/-- Signed messages of a device in IVORY or COBALT, their trailers signed with the private key of 32 zeros over a session nonce of
zeros: the EPOCH, a late signing of entry 9, an enrolment and a revocation of operator 3, an identity generation. -/
def epochMsg : Msg := signedMsg 0x41 3 0 [] (leBytes 64 612096241729062200388045523049878754673706708154086036297705862977835477471947442488148029019407716223181187998070946840086730527534337667744097792845102)
def resignMsg : Msg := signedMsg 0x31 1 0 (leBytes 4 9 ++ leBytes 2 1 ++ zeros 2) (leBytes 64 632291179688548129815203697371904625526778900321086814343165221380927004586652461910522416373125652684592684649180044463209330235838879417305845366287697)
def key1 : Bytes := leBytes 32 114357819437381932551506943292233391401526845028636896338274259687389550464206
def enrolMsg : Msg := signedMsg 0x60 2 0 ([1, 3, 0, 0] ++ key1) (leBytes 64 713884774132269943205816016045178805481790597927146269255415230309374988921748542114725196799537301041948504965269176816112104506285127849446012770017425)
def revokeMsg : Msg := signedMsg 0x61 2 0 [1, 3, 0, 0] (leBytes 64 766641856130490413703021085777936867304418018819914750968668447626814855549179623716071498359612171597605943606718974919998337038967424375973108424804984)
def identityMsg : Msg := signedMsg 0x81 3 0 ([4] ++ zeros 39) (leBytes 64 471254157165522309999068180661361380929833572378484224160317415100685903370589119590475764395820709088529999381615411200630796158212660844340048566554350)

/-- A record written once. -/
def rec1 {α : Type} (v : α) : Copies α := ({} : Copies α).put v

/-- A slot that holds a key. -/
def slot0 (k : Bytes) : KeySlot := { key := k, stamp := 0, byRole := 3, bySlot := 0, entry := 0 }

/-- A table write of one part: the whole tile map, all zeros. -/
def tileMsg (flags : Nat) (n : Nat) : Msg := chalkMsg 0x14 ([1] ++ leBytes 1 flags ++ zeros 2 ++ leBytes 4 0 ++ leBytes 4 n ++ leBytes 4 216 ++ zeros 4 ++
  sha512 (zeros n) ++ zeros n)

/-- A message to sequencer 1: its operation, window from word 0 at entry 0, cycle and values. -/
def pinMsg (op n cycle count : Nat) : Msg := chalkMsg 0x91 ([1, 3] ++ leBytes 1 op ++ [0, 0, 0] ++ leBytes 1 n ++ [0] ++ leBytes 2 cycle ++ zeros 2 ++
  leBytes 1 count ++ zeros 3 ++ padTo 20 ((List.range count).flatMap fun i => leBytes 4 (i + 7)))

/-- The device that is sent it, its sequencer 1 as given, word 0 a JUMP to itself. -/
def pinned (m : Msg) (x : Shade) : State := { served m with
  pin := { store := [(0, 0x600000)], shade := up.pin.shade.set 1 { x with gen := 3 } } }

/-- A certificate of the device of `makerFuses 1`, signed by the maker. -/
def certMsg (mono : Bool) : Msg := openMsg 0x04 ([3, 0, 0, 0] ++ ascii "CDK-DCRT" ++ leBytes 2 1 ++ leBytes 1 (boolNat mono) ++ zeros 1 ++ leBytes 4 (devRevLow + 65536 * boolNat mono) ++
  zeros 16 ++ leBytes 32 34775877406763266297293499270927986913390844184785709305949355260267408664361 ++ zeros 64 ++
  leBytes 64 (if mono then 295661320036816132402275288117999182034225505020139630330274468994083807324493658046858170607340658470305537328837792226919527223492135176408596029276792
    else 571657573946763398289187965257310641295077124162896536879410869429084289893621523548003074248719769630708418123247321668433301880276013588926484794725244))

/-- The state with view 31 as given. -/
def withView (s : State) (v : View) : State := { s with view := s.view.set 31 v }

/-- A firmware image with four bytes of code, signed with the private key of 32 zeros. -/
def image0 : Bytes := ascii "CDK-FWIM" ++ leBytes 2 1 ++ leBytes 2 256 ++ leBytes 4 5 ++ leBytes 2 0 ++ leBytes 2 113 ++ leBytes 2 0x4230 ++
  zeros 2 ++ leBytes 4 4 ++ zeros 4 ++ [1] ++ zeros 31 ++ key0 ++
  leBytes 64 7470846539748559911783709586965769103471642108456063577281119444611757386668127618182355643577347941599744223568581794333387797831532468426875745355614631 ++
  zeros 96 ++ [1, 2, 3, 4] ++
  leBytes 64 583567946045701127762944535903150443188504014894307750918619836056166252946911384335877435246006302330648354037769796641633225568220992470406414736501139

/-! ## An ill-formed command for each check of `Instr.wf` -/

def item39 : OtpReads := ⟨2 ^ 39, 0, 0⟩

/-- A command for every check that refuses one. -/
def illFormed : List Instr := [
  .powerOnReset { torn := item39 }, .powerOnReset ⟨⟨0, 0, 0⟩, .stage (zeros 513), true⟩,
  .powerOnReset ⟨⟨0, 0, 0⟩, .slot (zeros 129), false⟩, .railBelowClosingMinimum ⟨.vddnv, .anchor (zeros 255), false⟩,
  .powerOnReset ⟨⟨0, 0, 0⟩, .inHand { index := 3 } .slot [], false⟩,
  .boot { env1 with stage := 7 }, .boot { env1 with decay := [(0x2000000, 1)] },
  .lanePllLocked .forward 64 0 0, .domainPowerUpDone 56, .quadrantFlushDone 4, .segmentPowerUpDone 6,
  .paceVerdictUpdate (List.replicate 9 ⟨0, 0⟩), .replicaRingStall 10, .comparatorEdge (.dgFall 16 0 .a),
  .comparatorEdge (.dgFall 0 64 .a), .comparatorEdge (.transferRise 16 0 .b), .comparatorEdge (.transferRise 0 64 .b),
  .comparatorEdge (.transferFall 16 0 .a), .comparatorEdge (.transferFall 0 64 .a), .comparatorEdge (.mergeRise 16),
  .comparatorEdge (.mergeFall 16), .conversionDelivered 4 [], .viewLinePacked 32, .lineAbsorbed ⟨32, 0⟩, .wake (.wakePin 16 true),
  .frameRootComplete 32, .aeStep 16, .laneReport [], .fomReport 0 [1, 2, 3] 0,
  .rlCodewordReceive (List.replicate 543 0), .mailboxWrite 2 0, .registerWrite 1 0, .bulkWindowWrite 3 0,
  .msgSessionOpen (zeros 31), .generateIdentity (zeros 63), .wdgWindowExpiry 16, .progressMonitorTrip 64,
  .otpProgramDone ⟨0, 2 ^ 39, 0⟩, .fusReread [(.word 256, ⟨0, 0, 0⟩)], .fusReread [(.word 0, ⟨0, 0, 2 ^ 39⟩)],
  .fusReread [(.unit 1365, ⟨0, 0, 0⟩)], .fusReread [(.unit 0, ⟨8, 0, 0⟩)], .pinActivityDetect 32, .tintEvaluate 8]

/-- The same for the sequencers, the debug port and a conditioned pin. -/
def illFormed' : List Instr := [
  .shiftOut 4 0, .shiftIn 4 0 [], .set 4, .waitPin 4, .waitPinDone 4, .waitPinTimeout 4, .waitTicks 4, .waitTicksDone 4,
  .jump 4, .pull 4, .pullUnblock 4, .push 4, .pushUnblock 4, .move 4, .signal 4, .tapDebug 0x0F .halt, .tapDebug 0x1F .halt,
  .conditionedLevelChange 16 true]

theorem test_wf_refuses : illFormed.all (fun c => !c.wf) = true := by decide +kernel
theorem test_wf_refuses_more : illFormed'.all (fun c => !c.wf) = true := by decide +kernel

/-- And their neighbours inside the bounds pass. -/
theorem test_wf_admits : [Instr.domainPowerUpDone 55, .boot env1, .lanePllLocked .forward 63 0 0, .wake (.wakePin 15 false), .quadrantFlushDone 3, .segmentPowerUpDone 5,
    .paceVerdictUpdate (List.replicate 10 ⟨0, 0⟩), .comparatorEdge (.dgFall 15 63 .a), .conversionDelivered 3 [], .aeStep 15,
    .rlCodewordReceive (List.replicate 544 0), .mailboxWrite 4 0, .otpProgramDone ⟨2 ^ 39 - 1, 0, 0⟩,
    .fusReread [(.word 255, ⟨0, 0, 0⟩), (.unit 1364, ⟨7, 7, 7⟩)], .signal 3, .tapDebug 0x1E (.readRegister 0)].all Instr.wf = true := by
  decide +kernel

/-! ## Published vectors -/

/-- The check value of CRC-32 (ISO-HDLC) for "123456789". -/
theorem test_crc32 : crc32 (ascii "123456789") = 0xCBF43926 := by decide +kernel

/-- The first and last bytes of SHA-512("abc"), FIPS 180-4. -/
theorem test_sha512 : (sha512 (ascii "abc")).take 8 = [0xDD, 0xAF, 0x35, 0xA1, 0x93, 0x61, 0x7A, 0xBA] ∧
    (sha512 (ascii "abc")).drop 56 = [0x2A, 0x9A, 0xC9, 0x4F, 0xA5, 0x4C, 0xA4, 0x9F] := by decide +kernel

/-- Ed25519, RFC 8032, section 7.1, test 1: the first bytes of the public key and of the signature of the empty message. -/
def seed1 : Bytes := [
  0x9D, 0x61, 0xB1, 0x9D, 0xEF, 0xFD, 0x5A, 0x60, 0xBA, 0x84, 0x4A, 0xF4, 0x92, 0xEC, 0x2C, 0xC4,
  0x44, 0x49, 0xC5, 0x69, 0x7B, 0x32, 0x69, 0x19, 0x70, 0x3B, 0xAC, 0x03, 0x1C, 0xAE, 0x7F, 0x60]
theorem test_edPublic : (edPublic seed1).take 8 = [0xD7, 0x5A, 0x98, 0x01, 0x82, 0xB1, 0x0A, 0xB7] := by decide +kernel
theorem test_edSign : (edSign seed1 []).take 8 = [0xE5, 0x56, 0x43, 0x00, 0xC3, 0x60, 0xAC, 0x72] := by decide +kernel
theorem test_edVerify : edVerify (edPublic seed1) [] (edSign seed1 []) = true := by decide +kernel

/-! ## The spec's worked examples -/

/-- 03, HDR with a sliced window: profiles 0 and 3 of an HDR capture, their spans and slices. -/
def cabin : ProfileUse := profileUse 0 1 1 0 1000000 16 0 0 false
def window : ProfileUse := profileUse 3 1 8 1250000 125000 64 0 0 false
theorem test_hdr_spans : cabin.span = 1062503 ∧ window.span = 1109622 ∧ window.period = 156250 ∧ window.eb = 1953 ∧
    sliceTicks 1953 8 0 = 245 ∧ sliceTicks 1953 8 7 = 244 := by decide +kernel

/-- Their offsets in END alignment and the leads of their nodes. -/
theorem test_hdr_leads : (alignProfiles false [cabin, window]).map (fun u => (u.offset, u.leads 1 1109622)) =
    [(47119, [62508, 5]), (0, [1094002, 1093754])] := by decide +kernel

/-- The example's parameters and tile map: the HDR grid at 30 fps. -/
def tram : State := { up with
  par := { values := [(0x1007, 1), (0x1009, 4166666)] }
  tab := { tilemap := (List.range 432).flatMap fun t =>
    if 13 ≤ t % 24 && t % 24 ≤ 20 && 2 ≤ t / 24 && t / 24 ≤ 7 then [(t, 3)] else [] } }
theorem test_hdr_budgets : tram.interval 15 = 897 ∧ tram.profileBudget 15 0 = 2085126 ∧ tram.profileBudget 15 3 = 3240462 := by
  decide +kernel

/-- 04, three window pixels through the merge: a16, big, lin, HDR16C, HDR20L at a shift of 4. -/
def mergeLatch : PdpLatch := { latch0 with
  linPedestal := 64, shift20 := 4, kneeH := 12288 + 65536 * 14336, kneeL := 10240 + 65536 * 12288 }
def merged (h lo s : Sample) : Int × Int × Nat × Nat × Nat :=
  let m := mergeAll mergeLatch 4194572 h lo s
  (mergeLong mergeLatch h lo, m.v, linearOf mergeLatch m.v, codeOf mergeLatch 2 m, codeOf mergeLatch 3 m)
theorem test_merge_P : merged ⟨212992, false⟩ ⟨52640, false⟩ ⟨816, false⟩ = (52944, 52944, 3373, 3373, 210) := by decide +kernel
theorem test_merge_Q : merged ⟨262128, true⟩ ⟨180224, false⟩ ⟨2816, false⟩ = (180224, 180230, 11328, 11328, 708) := by decide +kernel
theorem test_merge_S : merged ⟨262128, true⟩ ⟨224000, false⟩ ⟨48000, false⟩ = (224000, 3072196, 192076, 44772, 12004) := by
  decide +kernel

/-- The delivered ratio of the example: 125,000 against 245 + 7 × 244 ticks. -/
theorem test_ratio : roundDiv (65536 * 125000) 1953 = 4194572 := by decide +kernel

/-- 05, four views from one front camera: frame bytes, first positions, row-quads. -/
def camera : List ViewGen := [
  { width := 12288, height := 9216, bin := 1, skip := 0x11, format := 0, rateDiv := 4 },
  { x0 := 1024, y0 := 4096, width := 2048, height := 2048, format := 1, rateDiv := 2 },
  { x0 := 8192, y0 := 4608, width := 4096, height := 2304, format := 0 },
  { x0 := 1536, y0 := 4608, width := 512, height := 512, format := 1 }]
theorem test_frame_bytes : camera.map ViewGen.frameBytes = [10616832, 7340032, 14155776, 458752] := by decide +kernel
theorem test_view_quads : camera.map (fun g => (g.firstQuad 15 false, g.quads false)) =
    [(8, 2304), (1032, 512), (1160, 576), (1160, 128)] := by decide +kernel

/-- At L56 the four lanes carry the demand, at L28 they do not, and at an interval of 468 they do again. -/
def cameraDemand (i : Nat) : Demand := ⟨i, 1, 6, peakBytes 15 false camera, 4⟩
theorem test_link_check : (cameraDemand 449).linkOk 4 2 = true ∧ (cameraDemand 449).linkOk 4 1 = false ∧
    (cameraDemand 468).linkOk 4 1 = true ∧ (cameraDemand 449).paceOk 3 = true := by decide +kernel

/-- 01, below the worst-corner voltage: the margins at an interval of 448, and where starts resume. -/
def slow : Demand := ⟨448, 1, 6, peakBytes 15 false [{ width := 12288, height := 9216, format := 1 }], 4⟩
theorem test_margins : marginOf slow 0 352000 = 23 ∧ marginOf slow 4 16100000000 = 14 ∧ marginOf slow 5 25900000000 = 5 ∧
    marginOf slow 8 6360000000 = 3 ∧ marginMet slow 8 6100000000 0 = false ∧ marginMet slow 8 6310000000 3 = true := by
  decide +kernel

/-- 05, view 3 covers exactly tile 219; 13, the tile of an entry. -/
theorem test_tile : tileOf (4608 + 32) 1536 = 219 ∧ tileOf (5119 + 32) 2047 = 219 := by decide +kernel

/-- 04, R105: two pixels of RAW12 fill three bytes. -/
theorem test_raw12 : leBytes 3 (packBits 12 [0xABC, 0x123]) = [0xBC, 0x3A, 0x12] := by decide +kernel

/-- 11, acquiring a PPS: f and r after the errors of the recorded run. -/
def ppsRun : List (Int × Int) :=
  ([12000, 17250, 18797, 18397, 17048].foldl (fun (x : State × List (Int × Int)) e =>
    let t := x.1.disciplined e
    (t, x.2 ++ [(t.clk.freq, t.clk.rate)])) (up, [])).2
theorem test_pps : ppsRun = [(-750, -6750), (-1828, -10453), (-3002, -12400), (-4151, -13349), (-5216, -13740)] := by
  decide +kernel

/-- 18, calibration between door events: the coefficients of R414 (the example's last line then rounds its code 1 too low). -/
theorem test_calibration : calCoef 1200 13388000 13421773 = some (1200, 4205262) := by decide +kernel

/-- 12, starting a view over the side-band port: the header of the response. -/
def startMsg : Msg := ⟨[1, 0, 0x21, 0, 0x42, 0, 0x58, 0, 0x17, 0, 0, 0, 5, 0, 0, 0, 1, 3, 0, 0, 3, 2, 0, 0] ++ zeros 64, false⟩
theorem test_response : startMsg.response 0 0 [] =
    [1, 0, 0x21, 0x80, 0x42, 0, 0x18, 0, 0x17, 0, 0, 0, 5, 0, 0, 0, 0, 0, 0, 0, 0, 0, 0, 0] := by decide +kernel

/-- 13, the IDs of two examples, and the reset value of `PIN.CFGn`. -/
theorem test_ids : viewId 3 2 = 0x1462 ∧ profileId 3 9 = 0x1839 ∧ paramDefault 0x2C00 = 0x000A138800002D00 := by decide +kernel

/-- 09, a reversed board: the taps of logical lanes 1 and 2, which adaptation reached, as `LINK.FFEp` reads them. -/
theorem test_taps : Taps.word ⟨1, -8, -13, 0⟩ = 0x00F3F801 ∧ Taps.word ⟨2, -9, -15, 0⟩ = 0x00F1F702 ∧ Taps.main ⟨1, -8, -13, 0⟩ = 42 := by
  decide +kernel

/-- The search of lane 1: its preset answers, then its trials, kept where at least 2 better. -/
def lane1 : LaneAdapt := ([80, 82, 84, 86, 90, 80, 70, 60, 88, 91, 87, 94, 97].foldl (fun a f => LaneAdapt.answer 2 96 f a)
  { phase := .preset 0, current := presetTaps 0, trial := presetTaps 0 })
theorem test_adapt : (lane1.phase, lane1.best, lane1.current) = (.done, 97, ⟨1, -8, -13, 0⟩) := by decide +kernel

/-- 17, a lens-motor driver: SHIFT_OUT sends 16 bits, the first from SR[15]; cycle 13 is the clock-high half of bit 6. -/
theorem test_shift_out : shiftBits 0x1A97C0 = 16 ∧ shiftPlace 0x1A97C0 0 = 15 ∧ shiftClock 0x1A97C0 13 = true ∧
    shiftClock 0x1A97C0 0 = false ∧ shiftBits 0x2B93C0 = 8 := by decide +kernel

/-- 17, a gated door trigger: engine 0 with entry 0x03 = 0x11, its inputs GP4 and GP5 high, at its next evaluation. -/
def door : State := { up with
  par := { values := [(0x2C10, 0xFEFE0504)] }
  pin := { levels := 0x30, tables := [(1, 1), (3, 0x11), (0x13, 1), (0x17, 1)], tint := up.pin.tint.set 0 { running := true } } }
theorem test_tint : (door.tintNext 0).next = some (1, 1) ∧ (after (execTintEvaluate 0 door)).tintOut 0 = 0 ∧
    (after (execTintEvaluate 0 door)).tick.tintOut 0 = 1 := by decide +kernel

/-- 12, R273 and R274: the levels of one mode 3 frame that writes 0x04030201 to 0x001C, each bit a fall and a rise of CTL_SCK. -/
def scratchFrame : List SpiPins := [⟨true, true, false⟩, ⟨false, true, false⟩] ++
  ([(0x02 : Byte), 0x1C, 0x00, 0x01, 0x02, 0x03, 0x04].flatMap msbBits).flatMap (fun b => [⟨false, false, b⟩, ⟨false, true, b⟩]) ++ [⟨true, true, false⟩]
theorem test_frame : (spiFrames scratchFrame).map (fun f => (f.mode, f.commands 0)) = [(.mode3, [.registerWrite 0x1C 0x04030201])] := by
  decide +kernel

/-- 12, R280: one step serves READ_STATUS at the front of the queue, and the queue's rest stays. -/
theorem test_step : (after (step { up with pending := [.readStatus, .msgNop] })).pending = [.msgNop] := by decide +kernel

/-- 12, R277 and R298: a message written to the command mailbox, the doorbell, and MSG_NOP's response in the response box. -/
def nop : Msg := ⟨[1, 0, 3, 0, 7, 0, 16, 0, 0, 0, 0, 0, 0, 0, 0, 0], false⟩
def nopRun : State := [Instr.mailboxWrite 0x1000 0x00030001, .mailboxWrite 0x1004 0x00100007, .mailboxWrite 0x1008 0, .mailboxWrite 0x100C 0,
  .cmdDoorbell 1, .msgNop, .responsePlace].foldl (fun s c => after (exec c s)) up
theorem test_mailbox : nopRun.ctl.rspBox = [(0, 1), (2, 3), (3, 0x80), (4, 7), (6, 0x18)] ∧ nopRun.ctl.inbox = [] := by decide +kernel

/-! ## Witnesses of the hypotheses of the statements -/

theorem wit_StepRunsFront : ∃ (c : Instr) (rest : List Instr) (s : State), (s.pending = c :: rest) :=
  ⟨.msgNop, [], { up with pending := [.msgNop] }, by decide +kernel⟩

theorem wit_EmptyQueueTicks : ∃ s : State, (s.pending = []) :=
  ⟨up, by decide +kernel⟩

theorem wit_execKeepsQueue : ∃ (c : Instr) (s : State) (t : State), (exec c s = .next t) :=
  ⟨.readStatus, up, { up with reg := { up.reg with sdo := up.supStatus } }, rfl⟩

theorem wit_ResetState_10_1 : ∃ (v : _), (v < 32) :=
  ⟨31, by decide +kernel⟩

theorem wit_ResetState_10_2 : ∃ (v : _), (v < 32) :=
  ⟨31, by decide +kernel⟩

theorem wit_ResetState_10_3 : ∃ (v : _), (v < 32) :=
  ⟨31, by decide +kernel⟩

theorem wit_sideBandReads_1 : ∃ s : State, (s.pwr.released = true) :=
  ⟨upReg { spiRefused := 255, spiCut := 3, spiIgnored := 2, evtLost := 5, supBuf := [1, 2, 3, 4, 5] }, by decide +kernel⟩

theorem wit_sideBandReads_2 : ∃ s : State, (s.pwr.released = true) :=
  ⟨upReg { spiRefused := 255, spiCut := 3, spiIgnored := 2, evtLost := 5, supBuf := [1, 2, 3, 4, 5] }, by decide +kernel⟩

theorem wit_sideBandReads_3 : ∃ s : State, (s.pwr.released = true) :=
  ⟨upReg { spiRefused := 255, spiCut := 3, spiIgnored := 2, evtLost := 5, supBuf := [1, 2, 3, 4, 5] }, by decide +kernel⟩

theorem wit_sideBandReads_4 : ∃ s : State, (s.pwr.released = true) :=
  ⟨upReg { spiRefused := 255, spiCut := 3, spiIgnored := 2, evtLost := 5, supBuf := [1, 2, 3, 4, 5] }, by decide +kernel⟩

theorem wit_sideBandReads_5 : ∃ s : State, (s.pwr.released = true) :=
  ⟨upReg { spiRefused := 255, spiCut := 3, spiIgnored := 2, evtLost := 5, supBuf := [1, 2, 3, 4, 5] }, by decide +kernel⟩

theorem wit_sideBandReads_6 : ∃ s : State, (s.pwr.released = true) :=
  ⟨upReg { spiRefused := 255, spiCut := 3, spiIgnored := 2, evtLost := 5, supBuf := [1, 2, 3, 4, 5] }, by decide +kernel⟩

theorem wit_sideBandReads_7 : ∃ s : State, (s.pwr.released = true) :=
  ⟨upReg { spiRefused := 255, spiCut := 3, spiIgnored := 2, evtLost := 5, supBuf := [1, 2, 3, 4, 5] }, by decide +kernel⟩

theorem wit_SnapshotReads_1 : ∃ s : State, (s.pwr.released = true) :=
  ⟨up, by decide +kernel⟩

theorem wit_SnapshotReads_2_1 : ∃ s : State, (s.pwr.released = true) :=
  ⟨{ up with ets := { consumed := some 0x500000007 } }, by decide +kernel⟩

theorem wit_SnapshotReads_2_2 : ∃ s : State, (s.pwr.released = true) :=
  ⟨{ up with hkc := { acc := [(0, ⟨0x500000007, 3⟩)] } }, by decide +kernel⟩

theorem wit_SnapshotReads_5 : ∃ s : State, (s.pwr.released = true) :=
  ⟨up, by decide +kernel⟩

theorem wit_SnapshotReads_4_1 : ∃ (a : BitVec 16) (rest : List Bool) (f : SpiFrame), (a ∈ [0x44#16, 0x4C#16, 0x58#16, 0x5C#16]) ∧
    (f.bits = ([(0x0B : Byte)] ++ leBytes 2 a.toNat ++ [0]).flatMap msbBits ++ rest) :=
  ⟨0x5C, List.replicate 32 false, ({ mode := .mode0, bits := ([(0x0B : Byte)] ++ leBytes 2 0x5C ++ [0]).flatMap msbBits ++ List.replicate 32 false } : SpiFrame), by decide +kernel⟩

theorem wit_SnapshotReads_4_2 : ∃ (a : BitVec 16) (rest : List Bool) (f : SpiFrame), (a ∈ [0x44#16, 0x4C#16, 0x58#16, 0x5C#16]) ∧
    (f.bits = ([(0x0B : Byte)] ++ leBytes 2 a.toNat ++ [0]).flatMap msbBits ++ rest) :=
  ⟨0x5C, List.replicate 32 false, ({ mode := .mode0, bits := ([(0x0B : Byte)] ++ leBytes 2 0x5C ++ [0]).flatMap msbBits ++ List.replicate 32 false } : SpiFrame), by decide +kernel⟩

theorem wit_registerWrites_1 : ∃ s : State, (s.pwr.released = true) :=
  ⟨up, by decide +kernel⟩

theorem wit_registerWrites_2 : ∃ s : State, (s.pwr.released = true) :=
  ⟨up, by decide +kernel⟩

theorem wit_registerWrites_3 : ∃ s : State, (s.pwr.released = true) :=
  ⟨up, by decide +kernel⟩

theorem wit_registerWrites_4 : ∃ (s : State) (a : BitVec 16), (s.pwr.released = true) ∧
    (a.toNat % 4 = 0) ∧
    (a.toNat < 0x1000) ∧
    (a.toNat ∉ [0x1C, 0x28, 0x2C, 0x38, 0x3C, 0x50, 0x90, 0x94, 0x9C, 0xA4]) :=
  ⟨up, 0x0FFC, by decide +kernel⟩

theorem wit_registerWrites_4_b : ∃ (s : State) (a : BitVec 16), (s.pwr.released = true) ∧
    (a.toNat % 4 = 0) ∧
    (a.toNat < 0x1000) ∧
    (a.toNat ∉ [0x1C, 0x28, 0x2C, 0x38, 0x3C, 0x50, 0x90, 0x94, 0x9C, 0xA4]) :=
  ⟨up, 0, by decide +kernel⟩

theorem wit_clearsAndAcks_1 : ∃ s : State, (s.pwr.released = true) :=
  ⟨upReg { irqStatus := 0xFC }, by decide +kernel⟩

theorem wit_clearsAndAcks_2 : ∃ (s : State) (v : Word), (s.pwr.released = true) ∧
    (v.getLsbD 2 = true) :=
  ⟨upReg { cmdIgnored := true }, 4, by decide +kernel⟩

theorem wit_clearsAndAcks_3 : ∃ (s : State) (v : Word), (s.pwr.released = true) ∧
    (v.getLsbD 0 = true) :=
  ⟨upReg { rspReady := true }, 1, by decide +kernel⟩

theorem wit_clearsAndAcks_4 : ∃ s : State, (s.pwr.released = true) :=
  ⟨upReg { evtWr := 300, evtRd := 44 }, by decide +kernel⟩

theorem wit_clearsAndAcks_4_b : ∃ s : State, (s.pwr.released = true) :=
  ⟨upReg { evtWr := 300, evtRd := 44 }, by decide +kernel⟩

theorem wit_mailboxWrites_1 : ∃ (s : State) (a : BitVec 16), (s.pwr.released = true) ∧
    (0x1000 ≤ a.toNat) ∧
    (a.toNat ≤ 0x1FFF) ∧
    (a.toNat % 4 = 0) ∧
    (s.ctl.ready = true) ∧
    (s.reg.cmdState = .idle) ∧
    (Memory.wf s.ctl.cmdBox = true) :=
  ⟨up, 0x1FFC, by decide +kernel⟩

theorem wit_mailboxWrites_2 : ∃ (s : State) (a : BitVec 16), (s.pwr.released = true) ∧
    (0x1000 ≤ a.toNat) ∧
    (a.toNat ≤ 0x1FFF) ∧
    (a.toNat % 4 = 0) ∧
    (s.reg.cmdState ≠ .idle) :=
  ⟨upReg { cmdState := .posted }, 0x1FFC, by decide +kernel⟩

theorem wit_mailboxWrites_3 : ∃ (s : State) (a : BitVec 16), (s.pwr.released = true) ∧
    (0x1000 ≤ a.toNat) ∧
    (a.toNat ≤ 0x1FFF) ∧
    (a.toNat % 4 = 0) ∧
    (s.ctl.ready = false) ∧
    (s.reg.cmdState = .idle) :=
  ⟨{ up with ctl := {} }, 0x1FFC, by decide +kernel⟩

theorem wit_bulkWrites_1 : ∃ (s : State) (a : BitVec 16), (s.pwr.released = true) ∧
    (0x8000 ≤ a.toNat) ∧
    (a.toNat % 4 = 0) ∧
    (s.ctl.ready = true) ∧
    (Memory.wf s.ctl.bulk = true) :=
  ⟨up, 0xFFFC, by decide +kernel⟩

theorem wit_bulkWrites_2 : ∃ (s : State) (a : BitVec 16), (s.pwr.released = true) ∧
    (0x8000 ≤ a.toNat) ∧
    (a.toNat % 4 = 0) ∧
    (s.ctl.ready = false) :=
  ⟨{ up with ctl := {} }, 0x8000, by decide +kernel⟩

theorem wit_doorbell_1 : ∃ (s : State) (v : Word), (s.pwr.released = true) ∧
    (v.getLsbD 0 = true) ∧
    (s.reg.cmdState = .idle) :=
  ⟨upCtl { cmdBox := nvWrite [] 0 [1, 0, 3, 0] }, 1, by decide +kernel⟩

theorem wit_doorbell_2 : ∃ (s : State) (v : Word), (s.pwr.released = true) ∧
    (v.getLsbD 0 = true) ∧
    (s.reg.cmdState ≠ .idle) :=
  ⟨upReg { cmdState := .executing }, 3, by decide +kernel⟩

theorem wit_responsePlaced : ∃ (s : State) (r : Reply) (rest : List Reply), (s.ctl.ready = true) ∧
    (s.pwr.state = .active) ∧
    (s.ctl.replies = r :: rest) ∧
    (r.inBand = false) ∧
    (r.waits = false) ∧
    (r.follow = 0) ∧
    (s.reg.rspReady = false) ∧
    (s.fw.activating = none) :=
  ⟨upCtl { replies := [⟨false, [1, 2, 0, 4], false, 0⟩] }, ⟨false, [1, 2, 0, 4], false, 0⟩, [], by decide +kernel⟩

theorem wit_eventRing_1 : ∃ (s : State) (r : Record) (rest : List Record), (s.ctl.ready = true) ∧
    (s.pwr.run = none) ∧
    (s.ev.waiting = r :: rest) ∧
    ((s.reg.evtWr - s.reg.evtRd).toNat < 256) ∧
    (r.length = 64) ∧
    (Memory.wf s.ctl.ring = true) :=
  ⟨{ up with ev := { waiting := [List.replicate 64 7] } }, List.replicate 64 7, [], by decide +kernel⟩

theorem wit_eventRing_2 : ∃ (s : State) (r : Record) (rest : List Record), (s.ctl.ready = true) ∧
    (s.pwr.run = none) ∧
    (s.ev.waiting = r :: rest) ∧
    (256 ≤ (s.reg.evtWr - s.reg.evtRd).toNat) :=
  ⟨{ upReg { evtWr := 256, evtLost := 0xFFFFFFFF } with ev := { waiting := [[]] } }, [], [], by decide +kernel⟩

theorem wit_supervisorReads_1 : ∃ s : State, (s.pwr.released = true) ∧
    (s.reg.supState ≠ .busy) :=
  ⟨upReg { supArg := 0xA55A0009 }, by decide +kernel⟩

theorem wit_supervisorReads_1_b : ∃ s : State, (s.pwr.released = true) ∧
    (s.reg.supState ≠ .busy) :=
  ⟨{ upReg { supArg := 8 } with led := { ready := true, nextSeq := 1, present := 1 } }, by decide +kernel⟩

theorem wit_supervisorReads_1_c : ∃ s : State, (s.pwr.released = true) ∧
    (s.reg.supState ≠ .busy) :=
  ⟨{ upReg { supArg := 8 } with led := { ready := true, epochState := .closing } }, by decide +kernel⟩

theorem wit_supervisorReads_2 : ∃ (s : State) (b : _), (s.pwr.released = true) ∧
    (s.reg.supState ≠ .busy) ∧
    (s.resetRecords[s.reg.supArg.toNat % 65536]? = some b) :=
  ⟨{ up with rst := { tally := rec1 { records := 1, recordSeq := 1 } }, nvs := { mem := nvWrite [] (recordAddr 0) (zeros 124 ++ leBytes 4 366415372) } }, zeros 124 ++ leBytes 4 366415372, by decide +kernel⟩

theorem wit_supervisorReads_3 : ∃ s : State, (s.pwr.released = true) ∧
    (s.reg.supState ≠ .busy) ∧
    (s.resetRecords[s.reg.supArg.toNat % 65536]? = none) :=
  ⟨up, by decide +kernel⟩

theorem wit_supervisorReads_4 : ∃ s : State, (s.pwr.released = true) ∧
    (s.reg.supState ≠ .busy) :=
  ⟨up, by decide +kernel⟩

theorem wit_supervisorReads_5 : ∃ (s : State) (code : Byte), (s.pwr.released = true) ∧
    (s.reg.supState ≠ .busy) ∧
    (code.toNat = 0 ∨ 5 < code.toNat) :=
  ⟨upReg { supArg := 0xA55A0009 }, 0xFF, by decide +kernel⟩

theorem wit_supervisorReads_5_b : ∃ (s : State) (code : Byte), (s.pwr.released = true) ∧
    (s.reg.supState ≠ .busy) ∧
    (code.toNat = 0 ∨ 5 < code.toNat) :=
  ⟨up, 0, by decide +kernel⟩

theorem wit_supReset_1 : ∃ s : State, (s.pwr.released = true) ∧
    (s.reg.supState ≠ .busy) ∧
    (s.reg.supArg.toNat / 65536 ≠ 0xA55A) :=
  ⟨up, by decide +kernel⟩

theorem wit_supReset_2 : ∃ s : State, (s.pwr.released = true) ∧
    (s.reg.supState ≠ .busy) ∧
    (s.reg.supArg.toNat / 65536 = 0xA55A) ∧
    (s.pwr.run = none) ∧
    (s.pwr.hold = none) ∧
    (s.pwr.state ≠ .offHold) ∧
    (s.rst.decided = none) :=
  ⟨upReg { supArg := 0xA55A0000 }, by decide +kernel⟩

theorem wit_supClose_1 : ∃ s : State, (s.pwr.released = true) ∧
    (s.reg.supState ≠ .busy) ∧
    (s.reg.supArg.toNat / 65536 ≠ 0xA55A) :=
  ⟨up, by decide +kernel⟩

theorem wit_supClose_2 : ∃ s : State, (s.pwr.released = true) ∧
    (s.reg.supState ≠ .busy) ∧
    (s.reg.supArg.toNat / 65536 = 0xA55A) ∧
    (s.pwr.bootEntryDone = false ∨ s.ledgerRuns = false ∨ s.pwr.run.isSome = true ∨
      s.pwr.state = .offHold) :=
  ⟨upReg { supArg := 0xA55A0000 }, by decide +kernel⟩

theorem wit_supClose_3 : ∃ s : State, (s.pwr.released = true) ∧
    (s.reg.supState ≠ .busy) ∧
    (s.reg.supArg.toNat / 65536 = 0xA55A) ∧
    (s.pwr.bootEntryDone = true) ∧
    (s.ledgerRuns = true) ∧
    (s.pwr.run = none) ∧
    (s.pwr.state ≠ .offHold) :=
  ⟨{ upReg { supArg := 0xA55A0000 } with fus := { lifecycle := 1, bank := 1 }, led := { ready := true } }, by decide +kernel⟩

theorem wit_powerOnReset : ∃ (s : State) (loss : PowerLoss), (s.tearFits loss.torn = true) ∧
    (s.cutFits loss.cut = true) :=
  ⟨up, ⟨⟨0, 0, 0⟩, .none, true⟩, by decide +kernel⟩

theorem wit_powerOnReset_b : ∃ (s : State) (loss : PowerLoss), (s.tearFits loss.torn = true) ∧
    (s.cutFits loss.cut = true) :=
  ⟨{ up with fus := { tasks := [⟨.word 3, 39, .single⟩] } }, ⟨⟨3, 1, 7⟩, .record .maker, false⟩, by decide +kernel⟩

theorem wit_resetPin_1 : ∃ s : State, (s.pad.rstN = true) ∧
    (s.pwr.hold = none) ∧
    (s.pwr.run = none) :=
  ⟨up, by decide +kernel⟩

theorem wit_resetPin_2 : ∃ (s : State) (r : Run), (s.pad.rstN = true) ∧
    (s.pwr.run = some r) :=
  ⟨inRun run1, run1, by decide +kernel⟩

theorem wit_resetPin_3 : ∃ s : State, (s.pad.rstN = false) :=
  ⟨{ up with pad := { rstN := false }, rst := { cause := .pin } }, by decide +kernel⟩

theorem wit_PfailEdges_1 : ∃ s : State, (s.pwr.pfailLow = false) :=
  ⟨up, by decide +kernel⟩

theorem wit_PfailEdges_2 : ∃ s : State, (s.pwr.pfailLow = true) :=
  ⟨upPwr fun p => { p with pfailLow := true, pfailSince := 125000000 - 249 }, by decide +kernel⟩

theorem wit_PfailEdges_2_b : ∃ s : State, (s.pwr.pfailLow = true) :=
  ⟨upPwr fun p => { p with pfailLow := true, pfailSince := 125000000 - 250 }, by decide +kernel⟩

theorem wit_closingRunStarts_1 : ∃ s : State, (s.pwr.released = true) ∧
    (s.pwr.run = none) ∧
    (s.pwr.state ≠ .offHold) ∧
    (s.pwr.hold = none) ∧
    (s.pwr.pfailLow = true) ∧
    (s.pwr.pfailRecognised = false) ∧
    (s.pwr.pfailSince + 250 ≤ s.clk.ticks) :=
  ⟨upPwr fun p => { p with pfailLow := true, pfailSince := 125000000 - 250 }, by decide +kernel⟩

theorem wit_closingRunStarts_2 : ∃ (s : State) (rails : BitVec 4), (s.pwr.released = true) ∧
    (s.pwr.run = none) ∧
    (s.pwr.state ≠ .offHold) ∧
    (s.pwr.hold = none) ∧
    (rails ≠ 0) :=
  ⟨up, 9, by decide +kernel⟩

theorem wit_closingRunStarts_3 : ∃ s : State, (s.pwr.released = true) ∧
    (s.pwr.run = none) ∧
    (s.pwr.state ≠ .offHold) ∧
    (s.pwr.hold = none) :=
  ⟨up, by decide +kernel⟩

theorem wit_runNotStopped_1 : ∃ (s : State) (r : Run), (s.pwr.run = some r) ∧
    (s.pwr.pfailLow = true) ∧
    (s.pwr.pfailRecognised = false) ∧
    (s.pwr.pfailSince + 250 ≤ s.clk.ticks) :=
  ⟨inRun run1, run1, by decide +kernel⟩

theorem wit_runNotStopped_2 : ∃ (s : State) (r : Run), (s.pwr.run = some r) :=
  ⟨inRun run1, run1, by decide +kernel⟩

theorem wit_closingRails_1 : ∃ s : State, (s.pwr.run.isSome = true) :=
  ⟨inRun run1, by decide +kernel⟩

theorem wit_closingRails_1_b : ∃ s : State, (s.pwr.run.isSome = true) :=
  ⟨inRun run1, by decide +kernel⟩

theorem wit_closingRails_5 : ∃ s : State, (s.nvs.held = true) :=
  ⟨{ inRun run1 with nvs := { held := true } }, by decide +kernel⟩

theorem wit_closingBounds_1 : ∃ (s : State) (r : Run), (s.pwr.run = some r) ∧
    (r.phase = .draining) ∧
    (r.t0Tick + (if r.kept then 137500 else 50000) ≤ s.clk.ticks) :=
  ⟨inRun { run1 with kept := true }, { run1 with kept := true }, by decide +kernel⟩

theorem wit_closingBounds_2 : ∃ (s : State) (r : Run), (s.pwr.run = some r) ∧
    (s.powered 50 = true) ∧
    (r.t0Tick + 181250 ≤ s.clk.ticks) :=
  ⟨inRun run1, run1, by decide +kernel⟩

theorem wit_closingRunEnds_2 : ∃ (s : State) (r : Run), (s.pwr.run = some r) ∧
    (r.phase = .sending) ∧
    (s.powered 50 = false) ∧
    (s.nvs.blocks = []) ∧
    (s.fus.tasks = []) ∧
    (r.cooling = false) ∧
    (r.resetAsked = false) ∧
    (r.trigger = 1 ∨ r.trigger = 2) ∧
    (s.pwr.drooped = false ∨ Config.railsBack s.free = true) ∧
    (s.pwr.pfailLow = false) ∧
    (s.pwr.goodSince + 125000 * s.stored 0x0802 ≤ s.clk.ticks) :=
  ⟨{ inRun { run1 with phase := .sending } with pwr := { up.pwr with state := .closing, run := some { run1 with phase := .sending }, domains := 0 } }, { run1 with phase := .sending }, by decide +kernel⟩

theorem wit_closingRunEnds_3 : ∃ (s : State) (r : Run), (s.pwr.run = some r) ∧
    (r.phase = .sending) ∧
    (s.powered 50 = false) ∧
    (s.nvs.blocks = []) ∧
    (s.fus.tasks = []) ∧
    (r.cooling = true ∨ r.trigger = 4 ∨ r.resetAsked = false ∧
        (r.trigger = 3 ∨ (s.pwr.drooped = true ∧ Config.railsBack s.free = false) ∨ s.pwr.pfailLow = true ∨
          s.clk.ticks < s.pwr.goodSince + 125000 * s.stored 0x0802)) :=
  ⟨{ inRun { run1 with phase := .sending, trigger := 4 } with pwr := { up.pwr with state := .closing, run := some { run1 with phase := .sending, trigger := 4 }, domains := 2 ^ 49 } }, { run1 with phase := .sending, trigger := 4 }, by decide +kernel⟩

theorem wit_closingRunEnds_3_b : ∃ (s : State) (r : Run), (s.pwr.run = some r) ∧
    (r.phase = .sending) ∧
    (s.powered 50 = false) ∧
    (s.nvs.blocks = []) ∧
    (s.fus.tasks = []) ∧
    (r.cooling = true ∨ r.trigger = 4 ∨ r.resetAsked = false ∧
        (r.trigger = 3 ∨ (s.pwr.drooped = true ∧ Config.railsBack s.free = false) ∨ s.pwr.pfailLow = true ∨
          s.clk.ticks < s.pwr.goodSince + 125000 * s.stored 0x0802)) :=
  ⟨{ inRun { run1 with phase := .sending } with pwr := { up.pwr with state := .closing, pfailLow := true, run := some { run1 with phase := .sending }, domains := 2 ^ 49 } }, { run1 with phase := .sending }, by decide +kernel⟩

theorem wit_offHoldEnds_1 : ∃ (s : State) (h : Hold), (s.pwr.hold = some h) ∧
    (h.trigger = 1 ∨ h.trigger = 2) ∧
    (h.cooling = false) ∧
    (s.pwr.pfailLow = false) ∧
    (s.pwr.goodSince + 125000 * s.stored 0x0802 ≤ s.clk.ticks) :=
  ⟨held ⟨2, false, false, false⟩, ⟨2, false, false, false⟩, by decide +kernel⟩

theorem wit_offHoldEnds_2 : ∃ (s : State) (h : Hold), (s.pwr.hold = some h) ∧
    (h.trigger = 4) :=
  ⟨held ⟨4, true, false, false⟩, ⟨4, true, false, false⟩, by decide +kernel⟩

theorem wit_offHoldEnds_3 : ∃ (s : State) (h : Hold), (s.pwr.hold = some h) ∧
    (h.trigger = 1 ∨ h.trigger = 2 ∨ h.trigger = 3) ∧
    (h.asked = false) :=
  ⟨held ⟨3, true, false, false⟩, ⟨3, true, false, false⟩, by decide +kernel⟩

theorem wit_offHoldEnds_3_b : ∃ (s : State) (h : Hold), (s.pwr.hold = some h) ∧
    (h.trigger = 1 ∨ h.trigger = 2 ∨ h.trigger = 3) ∧
    (h.asked = false) :=
  ⟨held ⟨1, false, false, false⟩, ⟨1, false, false, false⟩, by decide +kernel⟩

theorem wit_standby_1 : ∃ s : State, (s.pwr.standbyWanted = true) ∧
    (s.pwr.state = .active) ∧
    (s.ets.captures = []) ∧
    (s.pdp.jobs = []) ∧
    (s.sea.prompt = []) ∧
    (s.sea.resign = []) ∧
    (s.nvs.queue = []) ∧
    (s.nvs.blocks = []) ∧
    (s.fus.tasks = []) ∧
    (s.rst.decided = none) :=
  ⟨upPwr fun p => { p with standbyWanted := true }, by decide +kernel⟩

theorem wit_standby_2 : ∃ (s : State) (pin : Nat) (falling : Bool), (s.pwr.state = .standby) ∧
    (s.pwr.wakeSource.testBit 1 = false ∨ pin ≠ s.pwr.wakePin % 16 ∨ falling ≠ s.pwr.wakePin.testBit 4) :=
  ⟨upPwr fun p => { p with state := .standby, domains := 2 ^ 49 }, 3, true, by decide +kernel⟩

theorem wit_standby_3 : ∃ (s : State) (w : WakeSource), (s.pwr.state = .standby) ∧
    (w = .csFall ∨ (w = .wakePin (s.pwr.wakePin % 16) (s.pwr.wakePin.testBit 4) ∧ s.pwr.wakeSource.testBit 1 = true) ∨
      (w = .wakeTime ∧ s.pwr.wakeSource.testBit 2 = true ∧ s.pwr.wakeTime.toNat ≤ s.clk.time.toNat)) :=
  ⟨upPwr fun p => { p with state := .standby, domains := 2 ^ 49 }, .csFall, by decide +kernel⟩

theorem wit_standby_3_b : ∃ (s : State) (w : WakeSource), (s.pwr.state = .standby) ∧
    (w = .csFall ∨ (w = .wakePin (s.pwr.wakePin % 16) (s.pwr.wakePin.testBit 4) ∧ s.pwr.wakeSource.testBit 1 = true) ∨
      (w = .wakeTime ∧ s.pwr.wakeSource.testBit 2 = true ∧ s.pwr.wakeTime.toNat ≤ s.clk.time.toNat)) :=
  ⟨upPwr fun p => { p with state := .standby, domains := 2 ^ 49, wakeSource := 2, wakePin := 0x15 }, .wakePin 5 true, by decide +kernel⟩

theorem wit_powerUps_1 : ∃ (s : State) (i : Nat), (i < 56) ∧
    (s.powered i = true) ∧
    (i ∈ s.pwr.poweringUp) :=
  ⟨upPwr fun p => { p with poweringUp := [55, 35] }, 55, by decide +kernel⟩

theorem wit_powerUps_2 : ∃ (s : State) (q : Nat), (q < 4) ∧
    (s.powered q = true) ∧
    (s.pix.quadReady.getLsbD q = false) :=
  ⟨up, 3, by decide +kernel⟩

theorem wit_powerUps_3 : ∃ (s : State) (g : Nat), (g < 6) ∧
    (s.powered (6 + g) = true) ∧
    (s.powered (12 + g) = true) ∧
    (s.powered (18 + g) = true) ∧
    (s.powered (24 + g) = true) ∧
    (s.pix.segReady.getLsbD g = false) :=
  ⟨up, 5, by decide +kernel⟩

theorem wit_powerUps_2_b : ∃ (s : State) (q : Nat), (q < 4) ∧
    (s.powered q = true) ∧
    (s.pix.quadReady.getLsbD q = false) :=
  ⟨{ viewing with pix := { quadReady := 8 } }, 0, by decide +kernel⟩

theorem wit_powerUps_3_b : ∃ (s : State) (g : Nat), (g < 6) ∧
    (s.powered (6 + g) = true) ∧
    (s.powered (12 + g) = true) ∧
    (s.powered (18 + g) = true) ∧
    (s.powered (24 + g) = true) ∧
    (s.pix.segReady.getLsbD g = false) :=
  ⟨{ viewing with pix := {} }, 0, by decide +kernel⟩

theorem wit_ringStall : ∃ (s : State) (m : Nat), (s.powered 55 = true) ∧
    (m < 10) ∧
    (s.pwr.run = none) :=
  ⟨viewing, 0, by decide +kernel⟩

theorem wit_scheduledStart : ∃ (s : State) (u : State) (smax : Nat) (tx : Nat), (u = s.applyAe) ∧
    (smax = maxSpan (u.uses s.pix.quadReady.toNat)) ∧
    (tx = s.clk.ticks + 125 + smax) ∧
    (s.powered 55 = true) ∧
    (s.pwr.run = none) ∧
    (s.runningViews ≠ []) ∧
    (s.stored 0x1006 = 0) ∧
    (((s.clk.time.toNat : Int) + 1000 + 8 * smax - u.stored 0x100A) % (8 * u.stored 0x1009 : Nat) = 0) ∧
    (∀ g, s.ets.lastGrid = some g → g < tx) ∧
    (∀ c, s.ets.last = some c → c.close + 3 ≤ tx - smax) :=
  ⟨{ gridded with pace := { withhold := true } }, ({ gridded with pace := { withhold := true } }).applyAe, maxSpan ((({ gridded with pace := { withhold := true } }).applyAe).uses ({ gridded with pace := { withhold := true } }).pix.quadReady.toNat), ({ gridded with pace := { withhold := true } }).clk.ticks + 125 + (maxSpan ((({ gridded with pace := { withhold := true } }).applyAe).uses ({ gridded with pace := { withhold := true } }).pix.quadReady.toNat)), by and_intros <;> first | decide +kernel | rfl⟩

theorem wit_scheduledStart_b : ∃ (s : State) (u : State) (smax : Nat) (tx : Nat), (u = s.applyAe) ∧
    (smax = maxSpan (u.uses s.pix.quadReady.toNat)) ∧
    (tx = s.clk.ticks + 125 + smax) ∧
    (s.powered 55 = true) ∧
    (s.pwr.run = none) ∧
    (s.runningViews ≠ []) ∧
    (s.stored 0x1006 = 0) ∧
    (((s.clk.time.toNat : Int) + 1000 + 8 * smax - u.stored 0x100A) % (8 * u.stored 0x1009 : Nat) = 0) ∧
    (∀ g, s.ets.lastGrid = some g → g < tx) ∧
    (∀ c, s.ets.last = some c → c.close + 3 ≤ tx - smax) :=
  ⟨{ gridded with lnk := {} }, ({ gridded with lnk := {} }).applyAe, maxSpan ((({ gridded with lnk := {} }).applyAe).uses ({ gridded with lnk := {} }).pix.quadReady.toNat), ({ gridded with lnk := {} }).clk.ticks + 125 + (maxSpan ((({ gridded with lnk := {} }).applyAe).uses ({ gridded with lnk := {} }).pix.quadReady.toNat)), by and_intros <;> first | decide +kernel | rfl⟩

theorem wit_scheduledStart_c : ∃ (s : State) (u : State) (smax : Nat) (tx : Nat), (u = s.applyAe) ∧
    (smax = maxSpan (u.uses s.pix.quadReady.toNat)) ∧
    (tx = s.clk.ticks + 125 + smax) ∧
    (s.powered 55 = true) ∧
    (s.pwr.run = none) ∧
    (s.runningViews ≠ []) ∧
    (s.stored 0x1006 = 0) ∧
    (((s.clk.time.toNat : Int) + 1000 + 8 * smax - u.stored 0x100A) % (8 * u.stored 0x1009 : Nat) = 0) ∧
    (∀ g, s.ets.lastGrid = some g → g < tx) ∧
    (∀ c, s.ets.last = some c → c.close + 3 ≤ tx - smax) :=
  ⟨gridded, (gridded).applyAe, maxSpan (((gridded).applyAe).uses (gridded).pix.quadReady.toNat), (gridded).clk.ticks + 125 + (maxSpan (((gridded).applyAe).uses (gridded).pix.quadReady.toNat)), by and_intros <;> first | decide +kernel | rfl⟩

theorem wit_ComparatorEdges : ∃ (s : State) (e : Edge) (c : Capture) (l : List Capture) (r : List Capture), (s.powered 55 = true) ∧
    (s.pwr.run = none) ∧
    (s.ets.captures = l ++ c :: r) ∧
    (∀ d, d ∈ l → s.edgeDue d e = false ∧ d.counter ≠ c.counter) ∧
    (∀ d, d ∈ r → d.counter ≠ c.counter) ∧
    (c.edgeTick e = some s.clk.ticks) ∧
    (∀ d, d ∈ c.launched → edgeSame d e = false) ∧
    (∀ m, e = .t0 m → ((m.toNat : Int) - s.clk.time.toNat).natAbs ≤ 3) :=
  ⟨{ viewing with ets := { captures := [shot 0, { shot 7 with counter := 6 }] } }, .t0 1000000003, shot 0, [], [{ shot 7 with counter := 6 }], by and_intros <;> first | (intro m h; cases h <;> decide +kernel) | decide +kernel | rfl⟩

theorem wit_ComparatorEdges_b : ∃ (s : State) (e : Edge) (c : Capture) (l : List Capture) (r : List Capture), (s.powered 55 = true) ∧
    (s.pwr.run = none) ∧
    (s.ets.captures = l ++ c :: r) ∧
    (∀ d, d ∈ l → s.edgeDue d e = false ∧ d.counter ≠ c.counter) ∧
    (∀ d, d ∈ r → d.counter ≠ c.counter) ∧
    (c.edgeTick e = some s.clk.ticks) ∧
    (∀ d, d ∈ c.launched → edgeSame d e = false) ∧
    (∀ m, e = .t0 m → ((m.toNat : Int) - s.clk.time.toNat).natAbs ≤ 3) :=
  ⟨{ viewing with ets := { captures := [shot 125000, { shot 7 with counter := 6 }] } }, .close, shot 125000, [], [{ shot 7 with counter := 6 }], by and_intros <;> first | (intro m h; cases h <;> decide +kernel) | decide +kernel | rfl⟩

theorem wit_ComparatorEdges_c : ∃ (s : State) (e : Edge) (c : Capture) (l : List Capture) (r : List Capture), (s.powered 55 = true) ∧
    (s.pwr.run = none) ∧
    (s.ets.captures = l ++ c :: r) ∧
    (∀ d, d ∈ l → s.edgeDue d e = false ∧ d.counter ≠ c.counter) ∧
    (∀ d, d ∈ r → d.counter ≠ c.counter) ∧
    (c.edgeTick e = some s.clk.ticks) ∧
    (∀ d, d ∈ c.launched → edgeSame d e = false) ∧
    (∀ m, e = .t0 m → ((m.toNat : Int) - s.clk.time.toNat).natAbs ≤ 3) :=
  ⟨{ viewing with ets := { captures := [shot 124995, { shot 7 with counter := 6 }] } }, .transferRise 0 0 .a, shot 124995, [], [{ shot 7 with counter := 6 }], by and_intros <;> first | (intro m h; cases h <;> decide +kernel) | decide +kernel | rfl⟩

theorem wit_rowquadRelease : ∃ (s : State) (c : Capture) (r : List Capture), (s.powered 55 = true) ∧
    (s.pwr.run = none) ∧
    (s.pdp.waiting.length < 4) ∧
    (s.ets.captures = c :: r) ∧
    (∀ d, d ∈ r → d.counter ≠ c.counter) ∧
    (c.released < c.quadCount) ∧
    (c.closed = true) ∧
    (c.close + c.released * c.interval + c.lag ≤ s.clk.ticks) :=
  ⟨{ viewing with ets := { captures := [shot 200000] } }, shot 200000, [], by decide +kernel⟩

theorem wit_autoExposure_2 : ∃ (s : State) (p : Nat) (x : StatsSet), (p < 16) ∧
    (s.pdp.stats = some x) ∧
    (s.ctl.ready = true) ∧
    (s.wdg.halted = false) ∧
    (s.stored (profileId p 6) = 1) ∧
    (x.ofProfile p ≠ []) ∧
    (spFind p s.ets.aeDone ≠ some x.capture) ∧
    (p ∈ x.autos) :=
  ⟨{ up with par := { values := [(profileId 0 6, 1)] }, pdp := { stats := some stats0 } }, 0, stats0, by decide +kernel⟩

theorem wit_conversion : ∃ (s : State) (b : Nat) (l : List RawSample) (w : WaitingQuad) (u : List WaitingQuad) (r : List WaitingQuad), (b < 4) ∧
    (s.powered (30 + b) = true) ∧
    (s.pwr.run = none) ∧
    (s.pdp.waiting = u ++ w :: r) ∧
    (w.banks.length = 4) ∧
    (∀ y, y ∈ u → s.convOf y ≤ (y.banks.getD b []).length ∧ (y.capture ≠ w.capture ∨ y.position ≠ w.position)) ∧
    (∀ y, y ∈ r → y.capture ≠ w.capture ∨ y.position ≠ w.position) ∧
    ((w.banks.getD b []).length < s.convOf w) ∧
    (∀ p, s.job w.capture = some p → l.length = p.sampleCount) ∧
    (s.job w.capture = none → l = []) :=
  ⟨busy 0 0, 2, List.replicate 64 ⟨0, 0⟩, quad0 0, [], [], by decide +kernel⟩

theorem wit_aligned : ∃ (s : State) (w : WaitingQuad) (rest : List WaitingQuad) (p : PdpJob), (s.powered 34 = true) ∧
    (s.pdpRoom = true) ∧
    (s.pwr.run = none) ∧
    (s.pdp.waiting = w :: rest) ∧
    (s.job w.capture = some p) ∧
    (w.full p.capture.conv = true) :=
  ⟨busy 0 1, quad0 1, [], job0 0, by decide +kernel⟩

theorem wit_pinExpiry : ∃ (s : State) (x : StatsSet) (k : Nat), (s.pdp.pinned = some (x, k)) :=
  ⟨{ up with pdp := { pinned := some (stats0, 100000000) } }, stats0, 100000000, by decide +kernel⟩

theorem wit_lineAbsorbed : ∃ (s : State) (v : Nat) (i : Nat) (f : Frame) (x : Strip), (v < 32) ∧
    (s.pwr.run = none) ∧
    (s.absorbing v i = some (f, x)) ∧
    (s.powered (36 + x.engine / 8) = true) ∧
    ((s.engine x.engine).stopped = false) ∧
    (canonFrom {} 0 s.sea.engines = true) :=
  ⟨framed { frame0 with packed := 2, strips := [⟨3, [zeros 24, zeros 24], 1⟩] }, 0, 0, { frame0 with packed := 2, strips := [⟨3, [zeros 24, zeros 24], 1⟩] }, ⟨3, [zeros 24, zeros 24], 1⟩, by decide +kernel⟩

theorem wit_frameRoot : ∃ (s : State) (v : Nat) (f : Frame) (p : PdpJob) (leaves : List Bytes), (v < 32) ∧
    (s.powered 40 = true) ∧
    (s.endRoom = true) ∧
    (s.pwr.run = none) ∧
    (s.endedFrame v = some (f, p)) ∧
    (f.packed ≠ 0) ∧
    (leaves = f.strips.map (fun x => leafHash (x.lines.take x.absorbed).flatten)) :=
  ⟨framed { frame0 with packed := 2, strips := [⟨3, [zeros 24, zeros 24], 2⟩], sent := 2 }, 0, { frame0 with packed := 2, strips := [⟨3, [zeros 24, zeros 24], 2⟩], sent := 2 }, job0 2, (({ frame0 with packed := 2, strips := [⟨3, [zeros 24, zeros 24], 2⟩], sent := 2 }) : Frame).strips.map (fun x => leafHash (x.lines.take x.absorbed).flatten), by decide +kernel⟩

theorem wit_signatureSent : ∃ (s : State) (j : SignJob) (rest : List SignJob), (s.signs = true) ∧
    (s.derives = true) ∧
    (s.domainReady 40 = true) ∧
    (s.pwr.run = none) ∧
    (j.resigned = false) ∧
    (s.sea.prompt = j :: rest) ∧
    (queueSize s.lnk.sealQ + 100 ≤ sealCap) :=
  ⟨{ up with fus := { lifecycle := 1, bank := 1 }, sea := { prompt := [⟨7, 0, 1, 0, 1, 0, zeros 64, none, false⟩] } }, ⟨7, 0, 1, 0, 1, 0, zeros 64, none, false⟩, [], by decide +kernel⟩

theorem wit_vermilionAgain : ∃ (s : State) (entry : Nat), (s.ev.vermilionEntry = some entry) ∧
    (s.sea.vermilion ≠ 0) ∧
    (s.fus.lifecycle ≠ 3) ∧
    (s.ev.vermilionLast + 125000000 ≤ s.clk.ticks) :=
  ⟨{ up with fus := { lifecycle := 2 }, sea := { vermilion := 3 }, ev := { vermilionEntry := some 0, vermilionLast := 0 } }, 0, by decide +kernel⟩

theorem wit_linePacked_1 : ∃ (s : State) (v : Nat) (f : Frame) (p : PdpJob), (v < 32) ∧
    (s.powered 35 = true) ∧
    (s.packing v = some (f, p)) ∧
    (p.lineReady f.gen f.packed = true) ∧
    (s.lineRoom f = true) ∧
    (f.packed % 16 ≠ 0) :=
  ⟨framed { frame0 with packed := 1, strips := [⟨3, [zeros 24], 0⟩] }, 0, { frame0 with packed := 1, strips := [⟨3, [zeros 24], 0⟩] }, job0 2, by decide +kernel⟩

theorem wit_linePacked_2 : ∃ (s : State) (v : Nat) (f : Frame) (p : PdpJob), (v < 32) ∧
    (s.powered 35 = true) ∧
    (s.packing v = some (f, p)) ∧
    (p.lineReady f.gen f.packed = true) ∧
    (s.lineRoom f = true) ∧
    (f.packed % 16 = 0) ∧
    (s.dealTo (s.dealtNow f.capture) ≠ none) :=
  ⟨framed frame0, 0, frame0, job0 2, by decide +kernel⟩

theorem wit_EventRaised : ∃ s : State, (s.pwr.run = none) ∧
    (s.ctl.ready = true) :=
  ⟨up, by decide +kernel⟩

theorem wit_ledgerCommitted : ∃ (s : State) (c : Commit) (rest : List Commit), (s.commitDue = true) ∧
    (s.nvs.queue = c :: rest) ∧
    (Memory.wf s.nvs.mem = true) :=
  ⟨asked { kind := .seg, view := 3, subject := zeros 88 }, { kind := .seg, view := 3, subject := zeros 88 }, [], by decide +kernel⟩

theorem wit_commitTorn_1 : ∃ (s : State) (c : Commit) (rest : List Commit) (b : Bytes), (s.commitDue = true) ∧
    (s.nvs.queue = c :: rest) ∧
    (Memory.wf s.nvs.mem = true) ∧
    (s.fus.tasks = []) ∧
    (b.length = 128) :=
  ⟨asked { kind := .seg, view := 3, subject := zeros 88 }, { kind := .seg, view := 3, subject := zeros 88 }, [], List.replicate 128 9, by decide +kernel⟩

theorem wit_commitTorn_2 : ∃ (s : State) (c : Commit) (rest : List Commit) (b : Bytes), (s.commitDue = true) ∧
    (s.nvs.queue = c :: rest) ∧
    (Memory.wf s.nvs.mem = true) ∧
    (s.fus.tasks = []) ∧
    (b.length = 256) :=
  ⟨asked { kind := .seg, view := 3, subject := zeros 88 }, { kind := .seg, view := 3, subject := zeros 88 }, [], List.replicate 256 9, by decide +kernel⟩

theorem wit_twoCopies_4 : ∃ (s : State) (id : Nat) (v : Nat), (s.tearFits ⟨0, 0, 0⟩ = true) ∧
    (recordAt id s.par.persist = some v) :=
  ⟨{ up with par := { persist := [(0x0811, (rec1 3).put 7)] } }, 0x0811, 7, by decide +kernel⟩

theorem wit_epochEntries_1 : ∃ (s : State) (c : Commit) (rest : List Commit), (s.commitDue = true) ∧
    (s.nvs.queue = c :: rest) ∧
    (c.kind = .epoch) ∧
    (s.nvs.transition = none) :=
  ⟨asked { kind := .epoch }, { kind := .epoch }, [], by decide +kernel⟩

theorem wit_epochEntries_2 : ∃ (s : State) (c : Commit) (rest : List Commit) (r : _), (s.commitDue = true) ∧
    (s.nvs.queue = c :: rest) ∧
    (c.kind = .epoch) ∧
    (s.nvs.transition = some r) :=
  ⟨{ ledgered with nvs := { queue := [{ kind := .epoch }], transitions := rec1 (some (⟨3, 4, 9, List.replicate 64 5, zeros 64⟩ : Transition)) }, led := { ledgered.led with epochState := .opening } }, { kind := .epoch }, [], (⟨3, 4, 9, List.replicate 64 5, zeros 64⟩ : Transition), by decide +kernel⟩

theorem wit_ledgerRate : ∃ s : State, (s.pwr.released = true) :=
  ⟨{ up with nvs := { recent := [1, 2] } }, by decide +kernel⟩

theorem wit_retention_1 : ∃ s : State, (s.pwr.released = true) :=
  ⟨up, by decide +kernel⟩

theorem wit_retention_2 : ∃ t : Int, (t ≤ 680) :=
  ⟨680, by decide +kernel⟩

theorem wit_retention_3_1 : ∃ t : Int, (680 < t) ∧
    (t < 3240) :=
  ⟨681, by decide +kernel⟩

theorem wit_retention_3_1_b : ∃ t : Int, (680 < t) ∧
    (t < 3240) :=
  ⟨3239, by decide +kernel⟩

theorem wit_retention_3_2 : ∃ t : Int, (680 < t) ∧
    (t < 3240) :=
  ⟨681, by decide +kernel⟩

theorem wit_retention_3_2_b : ∃ t : Int, (680 < t) ∧
    (t < 3240) :=
  ⟨3239, by decide +kernel⟩

theorem wit_watchdogRegister_1 : ∃ (s : State) (v : Word), (s.coreRuns = true) ∧
    (spFind (v.toNat % 16) s.wdg.slots = none ∧ 1000 ≤ v.toNat / 256 ∧ v.toNat / 256 ≤ 10000000) :=
  ⟨up, 256013, by decide +kernel⟩

theorem wit_watchdogRegister_1_b : ∃ (s : State) (v : Word), (s.coreRuns = true) ∧
    (spFind (v.toNat % 16) s.wdg.slots = none ∧ 1000 ≤ v.toNat / 256 ∧ v.toNat / 256 ≤ 10000000) :=
  ⟨up, 2560000013, by decide +kernel⟩

theorem wit_watchdogRegister_2 : ∃ (s : State) (v : Word), (s.coreRuns = true) ∧
    (¬ (spFind (v.toNat % 16) s.wdg.slots = none ∧ 1000 ≤ v.toNat / 256 ∧ v.toNat / 256 ≤ 10000000)) :=
  ⟨up, 255757, by decide +kernel⟩

theorem wit_watchdogCheckin_1 : ∃ (s : State) (v : Word), (s.coreRuns = true) ∧
    (spFind (v.toNat % 16) s.wdg.slots = none) :=
  ⟨up, 3, by decide +kernel⟩

theorem wit_watchdogCheckin_2 : ∃ (s : State) (v : Word) (w : _), (s.coreRuns = true) ∧
    (spFind (v.toNat % 16) s.wdg.slots = some w) :=
  ⟨{ up with wdg := { slots := [(3, { strict := true, window := 125000, remaining := 5, checkins := 1 })] } }, 3, ({ strict := true, window := 125000, remaining := 5, checkins := 1 } : WdgSlot), by decide +kernel⟩

theorem wit_watchdogCheckin_2_b : ∃ (s : State) (v : Word) (w : _), (s.coreRuns = true) ∧
    (spFind (v.toNat % 16) s.wdg.slots = some w) :=
  ⟨{ up with wdg := { slots := [(3, { strict := false, window := 125000, remaining := 5, checkins := 0 })] } }, 3, ({ strict := false, window := 125000, remaining := 5, checkins := 0 } : WdgSlot), by decide +kernel⟩

theorem wit_sealFaultReset : ∃ (s : State) (at_ : Nat) (m : Nat), (s.rst.sealFaultAt = some (at_, m)) ∧
    (at_ ≤ s.clk.ticks) ∧
    (s.pwr.run = none) ∧
    (s.pwr.released = true) ∧
    (s.pwr.state ≠ .offHold) ∧
    (s.rst.decided = none) :=
  ⟨{ up with rst := { sealFaultAt := some (125000000, 6) } }, 125000000, 6, by decide +kernel⟩

theorem wit_fuseReread_1 : ∃ s : State, (s.pwr.released = false ∨ (s.pwr.state = .boot ∧ s.pwr.bootStage ≤ 2) ∨ s.clk.ticks < s.fus.readTick + 7500000000) :=
  ⟨up, by decide +kernel⟩

theorem wit_fuseReread_2_1 : ∃ s : State, (s.powered 53 = true) ∧
    (s.rereadDue = true) ∧
    (s.fus.latWords = []) ∧
    (s.fus.latUnits = []) ∧
    (s.fus.words = []) ∧
    (s.fus.units = []) :=
  ⟨{ up with clk := { up.clk with ticks := 7500000000 } }, by decide +kernel⟩

theorem wit_fuseReread_2_2 : ∃ (s : State) (w : _) (r : _), (s.powered 53 = true) ∧
    (s.rereadDue = true) ∧
    (s.fus.latWords = []) ∧
    (s.fus.latUnits = []) ∧
    (w < 256) ∧
    (readsFit (.word w) r = true) ∧
    (resolvedWord r ≠ (true, false, 0)) ∧
    (s.fus.words = []) ∧
    (s.fus.units = []) ∧
    (w ∉ s.fus.driftWords) :=
  ⟨{ up with clk := { up.clk with ticks := 7500000000 } }, 255, (⟨1, 0, 0⟩ : OtpReads), by decide +kernel⟩

theorem wit_lanePllLocks : ∃ (s : State) (x : Synth) (band : Nat), (s.powered 48 = true) ∧
    (s.clk.refclk = true) ∧
    (s.synthLocked x = false) ∧
    (band < 64) :=
  ⟨upLnk { state := .off, mode := 0 }, .forward, 3, by decide +kernel⟩

theorem wit_lanePllLocks_b : ∃ (s : State) (x : Synth) (band : Nat), (s.powered 48 = true) ∧
    (s.clk.refclk = true) ∧
    (s.synthLocked x = false) ∧
    (band < 64) :=
  ⟨upLnk { state := .hop, mode := 0 }, .forward, 3, by decide +kernel⟩

theorem wit_lanePllLocks_c : ∃ (s : State) (x : Synth) (band : Nat), (s.powered 48 = true) ∧
    (s.clk.refclk = true) ∧
    (s.synthLocked x = false) ∧
    (band < 64) :=
  ⟨upLnk { state := .hop, mode := 2 }, .forward, 3, by decide +kernel⟩

theorem wit_ReturnLane_1 : ∃ s : State, (s.powered 47 = true) ∧
    (s.lnk.rx.locked = false) ∧
    (s.lnk.los1 = false) :=
  ⟨upLnk { lol1 := true }, by decide +kernel⟩

theorem wit_ReturnLane_2 : ∃ s : State, (s.powered 47 = true) ∧
    (s.lnk.lol1 = false) :=
  ⟨up, by decide +kernel⟩

theorem wit_ReturnLane_3 : ∃ s : State, (s.powered 47 = true) ∧
    (s.lnk.rx.locked = true) ∧
    (s.lnk.rx.blockLock = false) ∧
    (4 ≤ s.lnk.rx.run ∨ s.lnk.rx.spaced = true) :=
  ⟨upLnk { rx := { locked := true, run := 4 } }, by decide +kernel⟩

theorem wit_ReturnLane_4 : ∃ s : State, (s.powered 47 = true) ∧
    (s.lnk.rx.blockLock = true) ∧
    (4 ≤ s.lnk.rx.missed ∨ s.lnk.rx.markTick + 69632 ≤ s.clk.ticks) :=
  ⟨linked {}, by decide +kernel⟩

theorem wit_ReturnLane_5 : ∃ s : State, (s.powered 47 = true) ∧
    (s.lnk.los1 = false) :=
  ⟨up, by decide +kernel⟩

theorem wit_ReturnLane_6 : ∃ s : State, (s.powered 47 = true) ∧
    (s.lnk.los1 = true) :=
  ⟨upLnk { los1 := true }, by decide +kernel⟩

theorem wit_ReturnLane_7 : ∃ s : State, (s.powered 47 = true) :=
  ⟨up, by decide +kernel⟩

theorem wit_ReferenceClock_1 : ∃ s : State, (s.pwr.released = true ∨ s.rst.cause ≠ .por) ∧
    (s.clk.refclk = true) ∧
    (s.pwr.run = none) :=
  ⟨upLnk { state := .up }, by decide +kernel⟩

theorem wit_ReferenceClock_2 : ∃ s : State, (s.pwr.released = true ∨ s.rst.cause ≠ .por) ∧
    (s.clk.refclk = false) :=
  ⟨{ upLnk { los2 := true } with clk := { up.clk with refclk := false, pllLocked := false } }, by decide +kernel⟩

theorem wit_ReferenceClock_3 : ∃ s : State, (s.pwr.released = true ∨ s.rst.cause ≠ .por) ∧
    (s.clk.refclk = true) ∧
    (s.clk.pllLocked = true) :=
  ⟨up, by decide +kernel⟩

theorem wit_ReferenceClock_4 : ∃ s : State, (s.pwr.released = true ∨ s.rst.cause ≠ .por) ∧
    (s.clk.refclk = true) ∧
    (s.clk.pllLocked = false) ∧
    (s.powered 49 = true) :=
  ⟨{ upLnk { lol3 := true } with clk := { up.clk with pllLocked := false } }, by decide +kernel⟩

theorem wit_identification_1 : ∃ (s : State) (l : List Byte), (s.lnk.state = .ident) ∧
    (s.returnLane = true) ∧
    (l.length = 4) ∧
    (laneReportOk s.lnk.mask l = true) :=
  ⟨linked { state := .ident, mask := 0x0F }, [0x82, 0x8B, 0, 0], by decide +kernel⟩

theorem wit_identification_2_1 : ∃ s : State, (s.lnk.state = .ident) ∧
    (s.lnk.entered + 125000 * s.lnk.identTimeout ≤ s.clk.ticks) ∧
    (s.lnk.restarts < s.lnk.retries) ∧
    (s.pwr.run = none) :=
  ⟨upLnk { state := .ident }, by decide +kernel⟩

theorem wit_identification_2_2 : ∃ s : State, (s.lnk.state = .ident) ∧
    (s.lnk.entered + 125000 * s.lnk.identTimeout ≤ s.clk.ticks) ∧
    (s.lnk.retries ≤ s.lnk.restarts) ∧
    (s.pwr.run = none) :=
  ⟨upLnk { state := .ident, restarts := 3 }, by decide +kernel⟩

theorem wit_alignment_1 : ∃ s : State, (s.pwr.run = none) ∧
    (s.lnk.state = .align) ∧
    (s.lnk.mode ≠ 2) ∧
    (s.returnLane = true) :=
  ⟨linked { state := .align, lanesUsed := 2 }, by decide +kernel⟩

theorem wit_alignment_2 : ∃ s : State, (s.pwr.run = none) ∧
    (s.lnk.state = .align) ∧
    (s.lnk.mode ≠ 2) ∧
    (s.lnk.entered + 125000 * s.lnk.alignTimeout ≤ s.clk.ticks) :=
  ⟨upLnk { state := .align }, by decide +kernel⟩

theorem wit_alignment_3 : ∃ s : State, (s.pwr.run = none) ∧
    (s.lnk.state = .align) ∧
    (s.lnk.mode = 2) ∧
    (s.lnk.entered + 125000 ≤ s.clk.ticks) :=
  ⟨upLnk { state := .align, mode := 2 }, by decide +kernel⟩

theorem wit_alignment_5 : ∃ s : State, (s.pwr.run = none) ∧
    (s.lnk.state = .up) ∧
    (s.returnLane = true) ∧
    (s.wdg.halted = false) :=
  ⟨linked { state := .up }, by decide +kernel⟩

theorem wit_alignment_4 : ∃ s : State, (s.pwr.run = none) ∧
    (s.lnk.state = .up) ∧
    (s.returnLane = true) ∧
    (s.wdg.halted = true) :=
  ⟨{ linked { state := .up } with wdg := { halted := true } }, by decide +kernel⟩

theorem wit_alignment_6 : ∃ s : State, (s.pwr.run = none) ∧
    (s.lnk.state = .downWait) ∧
    (s.lnk.entered + 125000000 ≤ s.clk.ticks) ∧
    (s.stored 0x1C00 ≠ 0) ∧
    (s.pwr.state = .active) ∧
    (s.wdg.halted = false) :=
  ⟨{ upLnk { state := .downWait } with par := { values := [(0x1C00, 1)] } }, by decide +kernel⟩

theorem wit_fomRounds_1 : ∃ (s : State) (a : Adapt), (s.lnk.adapt = some a) ∧
    (s.lnk.state = .adapt) ∧
    (s.lnk.outstanding = none) ∧
    (s.pwr.run = none) ∧
    (a.since + 125 * a.settle ≤ s.clk.ticks) :=
  ⟨upLnk { state := .adapt, adapt := some adapt0 }, adapt0, by decide +kernel⟩

theorem wit_fomRounds_3 : ∃ s : State, (s.lnk.state = .up) ∧
    (s.lnk.monTick + 12500000 ≤ s.clk.ticks) :=
  ⟨upLnk { state := .up, lanesUsed := 4 }, by decide +kernel⟩

theorem wit_fomRounds_4 : ∃ (s : State) (q : FomAsk) (foms : List Byte), (s.lnk.outstanding = some q) ∧
    (foms.length = 4) ∧
    (s.fomAnswered q.round q = true) ∧
    (s.lnk.state = .up) :=
  ⟨linked { state := .up, lanesUsed := 2, outstanding := some (ask0 true) }, ask0 true, [200, 100, 0, 0], by decide +kernel⟩

theorem wit_fomRounds_4_b : ∃ (s : State) (q : FomAsk) (foms : List Byte), (s.lnk.outstanding = some q) ∧
    (foms.length = 4) ∧
    (s.fomAnswered q.round q = true) ∧
    (s.lnk.state = .up) :=
  ⟨{ linked { state := .up, lanesUsed := 2, lowRun := 2, outstanding := some (ask0 true) } with par := { values := [(0x1C16, 1)] } }, ask0 true, [200, 0, 0, 0], by decide +kernel⟩

theorem wit_fomRounds_5 : ∃ (s : State) (q : FomAsk) (a : Adapt) (foms : List Byte) (lock : BitVec 4), (s.lnk.outstanding = some q) ∧
    (foms.length = 4) ∧
    (s.fomAnswered q.round q = true) ∧
    (s.lnk.state = .adapt) ∧
    (s.lnk.adapt = some a) ∧
    ((a.lanes.map fun x => x.2.answer a.passes a.target ((countedFoms foms lock).getD x.1 0)).any LaneAdapt.open_ = true) :=
  ⟨linked { state := .adapt, adapt := some adapt0, outstanding := some (ask0 false) }, ask0 false, adapt0, [200, 100, 0, 0], 3, by decide +kernel⟩

theorem wit_fomRounds_6_1 : ∃ (s : State) (q : FomAsk), (s.lnk.outstanding = some q) ∧
    (q.tick + 125000 ≤ s.clk.ticks) ∧
    (q.monitoring = true) :=
  ⟨upLnk { state := .up, outstanding := some (⟨0, 124875000, true⟩ : FomAsk) }, (⟨0, 124875000, true⟩ : FomAsk), by decide +kernel⟩

theorem wit_fomRounds_6_2 : ∃ (s : State) (q : FomAsk) (a : _), (s.lnk.outstanding = some q) ∧
    (q.tick + 125000 ≤ s.clk.ticks) ∧
    (q.monitoring = false) ∧
    (s.lnk.adapt = some a) ∧
    (a.missing < 2) ∧
    (s.pwr.run = none) :=
  ⟨upLnk { state := .adapt, adapt := some adapt0, outstanding := some (⟨0, 124875000, false⟩ : FomAsk) }, (⟨0, 124875000, false⟩ : FomAsk), adapt0, by decide +kernel⟩

theorem wit_fomRounds_6_3 : ∃ (s : State) (q : FomAsk) (a : _), (s.lnk.outstanding = some q) ∧
    (q.tick + 125000 ≤ s.clk.ticks) ∧
    (q.monitoring = false) ∧
    (s.lnk.adapt = some a) ∧
    (2 ≤ a.missing) ∧
    (s.pwr.run = none) :=
  ⟨upLnk { state := .adapt, adapt := some { adapt0 with missing := 2 }, outstanding := some (⟨0, 124875000, false⟩ : FomAsk) }, (⟨0, 124875000, false⟩ : FomAsk), { adapt0 with missing := 2 }, by decide +kernel⟩

theorem wit_transmitOrder_2_1 : ∃ (s : State) (p : _) (q : _), (s.carriesPackets = true) ∧
    (s.lnk.state = .up) ∧
    (s.markerDue = false) ∧
    (s.lnk.retrainDue = none) ∧
    (s.lnk.train = p :: q) :=
  ⟨sending { train := [pk 8], control := [pk 6] }, pk 8, ([] : List Packet), by decide +kernel⟩

theorem wit_transmitOrder_2_2 : ∃ (s : State) (p : _) (q : _), (s.carriesPackets = true) ∧
    (s.lnk.state = .up) ∧
    (s.markerDue = false) ∧
    (s.lnk.retrainDue = none) ∧
    (s.lnk.train = []) ∧
    (s.lnk.resend = p :: q) :=
  ⟨sending { resend := [pk 4], control := [pk 6] }, pk 4, ([] : List Packet), by decide +kernel⟩

theorem wit_transmitOrder_2_3 : ∃ (s : State) (p : _) (q : _), (s.carriesPackets = true) ∧
    (s.lnk.state = .up) ∧
    (s.markerDue = false) ∧
    (s.lnk.retrainDue = none) ∧
    (s.lnk.train = []) ∧
    (s.lnk.resend = []) ∧
    (s.lnk.control = p :: q) :=
  ⟨sending { control := [pk 6], sealQ := [pk 4] }, pk 6, ([] : List Packet), by decide +kernel⟩

theorem wit_transmitOrder_2_4 : ∃ (s : State) (p : _) (q : _), (s.carriesPackets = true) ∧
    (s.lnk.state = .up) ∧
    (s.markerDue = false) ∧
    (s.lnk.retrainDue = none) ∧
    (s.lnk.train = []) ∧
    (s.lnk.resend = []) ∧
    (s.lnk.control = []) ∧
    (s.lnk.sealQ = p :: q) ∧
    (s.lnk.mayLeave p = true) :=
  ⟨sending { sealQ := [pk 4], data := [pk 1] }, pk 4, ([] : List Packet), by decide +kernel⟩

theorem wit_transmitOrder_2_5 : ∃ (s : State) (p : _) (q : _), (s.carriesPackets = true) ∧
    (s.lnk.state = .up) ∧
    (s.markerDue = false) ∧
    (s.lnk.retrainDue = none) ∧
    (s.lnk.train = []) ∧
    (s.lnk.resend = []) ∧
    (s.lnk.control = []) ∧
    (∀ x y, s.lnk.sealQ = x :: y → s.lnk.mayLeave x = false) ∧
    (s.lnk.data = p :: q) :=
  ⟨sending { data := [pk 1] }, pk 1, ([] : List Packet), by and_intros <;> first | (intro x y h; cases h) | decide +kernel | rfl⟩

theorem wit_transmitOrder_2_5_b : ∃ (s : State) (p : _) (q : _), (s.carriesPackets = true) ∧
    (s.lnk.state = .up) ∧
    (s.markerDue = false) ∧
    (s.lnk.retrainDue = none) ∧
    (s.lnk.train = []) ∧
    (s.lnk.resend = []) ∧
    (s.lnk.control = []) ∧
    (∀ x y, s.lnk.sealQ = x :: y → s.lnk.mayLeave x = false) ∧
    (s.lnk.data = p :: q) :=
  ⟨sending { sealQ := [{ pk 4 with after := some 9 }], data := [{ pk 1 with seq := 9 }] }, { pk 1 with seq := 9 }, ([] : List Packet), by and_intros <;> first | (intro x y h; cases h; decide +kernel) | decide +kernel | rfl⟩

theorem wit_transmitOrder_2_6 : ∃ s : State, (s.carriesPackets = true) ∧
    (s.lnk.state = .up) ∧
    (s.markerDue = false) ∧
    (s.lnk.retrainDue = none) ∧
    (s.lnk.train = []) ∧
    (s.lnk.resend = []) ∧
    (s.lnk.control = []) ∧
    (s.lnk.sealQ = []) ∧
    (s.lnk.data = []) :=
  ⟨sending {}, by decide +kernel⟩

theorem wit_markersSent : ∃ s : State, (s.lnk.state = .hop ∨ (s.carriesPackets = true ∧ ∀ l, l ∈ s.lnk.framer.lanes → 255 ≤ l.count)) :=
  ⟨upLnk { state := .up, framer := { lanes := [{ count := 255 }] } }, by decide +kernel⟩

theorem wit_returnLaneReceives_1_1 : ∃ (s : State) (p : Bytes), (s.returnLane = true) ∧
    (leAt 0 1 p = 7) ∧
    (packetOk p = true) ∧
    (s.lnk.rx.lastSeq = some (BitVec.ofNat 32 (leAt 4 4 p))) :=
  ⟨linked { rx := { lastSeq := some 9 } }, msgPacket, by decide +kernel⟩

theorem wit_returnLaneReceives_1_2 : ∃ (s : State) (p : Bytes), (s.returnLane = true) ∧
    (leAt 0 1 p = 7) ∧
    (packetOk p = true) ∧
    (s.lnk.rx.lastSeq ≠ some (BitVec.ofNat 32 (leAt 4 4 p))) ∧
    (s.ctl.ready = true) ∧
    ((s.ctl.inbox.filter fun i => i != .side).length < 16) :=
  ⟨linked {}, msgPacket, by decide +kernel⟩

theorem wit_returnLaneReceives_2 : ∃ (s : State) (l : List (BitVec 10)), (s.powered 47 = true) ∧
    (s.lnk.rx.locked = true) ∧
    (l.length = 544) :=
  ⟨linked {}, List.replicate 544 0, by decide +kernel⟩

theorem wit_returnLaneReceives_2_b : ∃ (s : State) (l : List (BitVec 10)), (s.powered 47 = true) ∧
    (s.lnk.rx.locked = true) ∧
    (l.length = 544) :=
  ⟨linked {}, (List.range 544).map (BitVec.ofNat 10), by decide +kernel⟩

theorem wit_ppsEdges_2_1 : ∃ (s : State) (m : Word64) (falling : Bool) (active : Nat), (s.stored 0x0C04 ≠ 0) ∧
    (s.powered 49 = true) ∧
    (falling = decide (s.stored 0x0C05 = 1)) ∧
    (100 ≤ active) ∧
    (-2 ≤ (m - s.clk.time).toInt) ∧
    ((m - s.clk.time).toInt ≤ 9) ∧
    (s.edgeAccepted m = false) :=
  ⟨{ up with par := { values := [(0x0C04, 1)] }, clk := { up.clk with lastEdge := some 600000000 } }, 1000000000, false, 100, by decide +kernel⟩

theorem wit_ppsEdges_2_2 : ∃ (s : State) (m : Word64) (falling : Bool) (active : Nat), (s.stored 0x0C04 ≠ 0) ∧
    (s.powered 49 = true) ∧
    (falling = decide (s.stored 0x0C05 = 1)) ∧
    (100 ≤ active) ∧
    (-2 ≤ (m - s.clk.time).toInt) ∧
    ((m - s.clk.time).toInt ≤ 9) ∧
    (s.edgeAccepted m = true) ∧
    (s.clk.pendingSet = none) ∧
    (s.clk.mode = .unset) ∧
    (s.clk.ppsLost = false) :=
  ⟨{ up with par := { values := [(0x0C04, 1)] } }, 1000000000, false, 100, by decide +kernel⟩

theorem wit_ppsEdges_2_3 : ∃ (s : State) (m : Word64) (falling : Bool) (active : Nat), (s.stored 0x0C04 ≠ 0) ∧
    (s.powered 49 = true) ∧
    (falling = decide (s.stored 0x0C05 = 1)) ∧
    (100 ≤ active) ∧
    (-2 ≤ (m - s.clk.time).toInt) ∧
    ((m - s.clk.time).toInt ≤ 9) ∧
    (s.edgeAccepted m = true) ∧
    (s.clk.pendingSet = none) ∧
    (s.clk.mode ≠ .unset) ∧
    (s.clk.ppsLost = false) ∧
    ((s.phaseError m).natAbs ≤ s.stored 0x0C07) :=
  ⟨{ up with par := { values := [(0x0C04, 1)] }, clk := { up.clk with mode := .disciplined, freq := 100 } }, 1000000007, false, 100, by decide +kernel⟩

theorem wit_ppsEdges_2_5 : ∃ (s : State) (m : Word64) (falling : Bool) (active : Nat) (p : _), (s.stored 0x0C04 ≠ 0) ∧
    (s.powered 49 = true) ∧
    (falling = decide (s.stored 0x0C05 = 1)) ∧
    (100 ≤ active) ∧
    (-2 ≤ (m - s.clk.time).toInt) ∧
    ((m - s.clk.time).toInt ≤ 9) ∧
    (s.edgeAccepted m = true) ∧
    (s.clk.pendingSet = some p) ∧
    (s.stepsAllowed = true) :=
  ⟨{ up with par := { values := [(0x0C04, 1)] }, clk := { up.clk with pendingSet := some ⟨5000000000, 1, 7, {}, false⟩ } }, 1000000000, false, 100, (⟨5000000000, 1, 7, {}, false⟩ : PendingSet), by decide +kernel⟩

theorem wit_timeRuns_2_1 : ∃ s : State, (s.stored 0x0C04 ≠ 0) ∧
    (s.powered 49 = true) ∧
    (s.clk.ppsLost = false) ∧
    (s.clk.lastEdgeTick + 125000 * s.stored 0x0C0A ≤ s.clk.ticks) :=
  ⟨{ up with par := { values := [(0x0C04, 1)] }, clk := { up.clk with ticks := 12500000000, freq := 7, mode := .disciplined } }, by decide +kernel⟩

theorem wit_timeRuns_2_3 : ∃ (s : State) (p : _), (s.clk.pendingSet = some p) ∧
    (p.edge = false) ∧
    (p.acceptedTick + 125000 * s.stored 0x0C0A ≤ s.clk.ticks) :=
  ⟨{ up with par := { values := [(0x0C04, 1)] }, clk := { up.clk with ticks := 12500000000, pendingSet := some ⟨5, 0, 7, {}, false⟩ } }, (⟨5, 0, 7, {}, false⟩ : PendingSet), by decide +kernel⟩

theorem wit_timeRuns_2_4 : ∃ s : State, (s.clk.rate ≠ 0) ∧
    (1953125 ≤ s.clk.rotationDebt) :=
  ⟨{ up with clk := { up.clk with rate := -3, rotationDebt := 1953125 } }, by decide +kernel⟩

theorem wit_armingUnit_1 : ∃ s : State, (s.arming = true) ∧
    (s.pin.armed = false) ∧
    (s.pin.active = false) ∧
    (s.sourceActive = false) ∧
    (s.pin.since + s.inactiveTicks ≤ s.clk.ticks) :=
  ⟨{ up with par := { values := [(0x1006, 1)] } }, by decide +kernel⟩

theorem wit_armingUnit_2 : ∃ s : State, (s.arming = true) ∧
    (s.pin.active = true) ∧
    (s.sourceActive = true) ∧
    (s.pin.delivered = true) ∧
    (s.pin.holdPassed = false) ∧
    (s.holdMs ≠ 0) ∧
    (s.pin.since + 125000 * s.holdMs ≤ s.clk.ticks) :=
  ⟨{ triggered with par := { values := [(0x1006, 1), (0x2C00, 2 ^ 32 + 1)] }, pin := { cfg := [(0, 2 ^ 32 + 1)], levels := 1, active := true, delivered := true } }, by decide +kernel⟩

theorem wit_activityDetectors_1 : ∃ (s : State) (n : Nat) (a : _) (k : _), (n < 16) ∧
    (s.powered 52 = true) ∧
    (s.pinField n 13 1 = 1) ∧
    (spGet {} n s.pin.activity = a) ∧
    (a.eventTick = some k) ∧
    (s.clk.ticks < k + 125000) :=
  ⟨{ up with par := { values := [(0x2C0F, 2 ^ 13 + 1)] }, pin := { cfg := [(15, 2 ^ 13 + 1)], activity := [(15, ⟨some 124999999, 4⟩)] } }, 15, (⟨some 124999999, 4⟩ : Activity), 124999999, by decide +kernel⟩

theorem wit_activityDetectors_2 : ∃ (s : State) (n : Nat), (n < 16) ∧
    (s.powered 52 = true) ∧
    (s.pinField n 13 1 = 1) ∧
    (∀ k, (spGet {} n s.pin.activity).eventTick = some k → k + 125000 ≤ s.clk.ticks) :=
  ⟨{ up with par := { values := [(0x2C0F, 2 ^ 13 + 1)] }, pin := { cfg := [(15, 2 ^ 13 + 1)], activity := [(15, ⟨some 124875000, 4⟩)] } }, 15, by decide +kernel⟩

theorem wit_tintEngines : ∃ (s : State) (e : Nat) (v : Nat), (s.tintDue e = true) ∧
    (v = spGet 0 (256 * e + s.tintIndex e) s.pin.tables) :=
  ⟨{ up with pin := { tint := up.pin.tint.set 7 { running := true, state := 2 }, tables := [(256 * 7 + 32, 0x35)] } }, 7, 0x35, by decide +kernel⟩

theorem wit_oneCycleInstructions_1_set : ∃ (s : State) (q : Nat) (x : Shade) (w : Nat), (s.shadeAt q = x) ∧
    (s.shadeWord q = w) ∧
    (s.shadeDue q 3 = true) :=
  ⟨shading 0x338000 shade0, 1, shade0, 0x338000, by decide +kernel⟩

theorem wit_oneCycleInstructions_1_setb : ∃ (s : State) (q : Nat) (x : Shade) (w : Nat), (s.shadeAt q = x) ∧
    (s.shadeWord q = w) ∧
    (s.shadeDue q 3 = true) :=
  ⟨shading 0x320000 shade0, 1, shade0, 0x320000, by decide +kernel⟩

theorem wit_oneCycleInstructions_2_jump : ∃ (s : State) (q : Nat) (x : Shade) (w : Nat), (s.shadeAt q = x) ∧
    (s.shadeWord q = w) ∧
    (s.shadeDue q 6 = true) :=
  ⟨shading 0x600005 shade0, 1, shade0, 0x600005, by decide +kernel⟩

theorem wit_oneCycleInstructions_2_jumpb : ∃ (s : State) (q : Nat) (x : Shade) (w : Nat), (s.shadeAt q = x) ∧
    (s.shadeWord q = w) ∧
    (s.shadeDue q 6 = true) :=
  ⟨shading 0x620005 shade0, 1, shade0, 0x620005, by decide +kernel⟩

theorem wit_oneCycleInstructions_2_jumpout : ∃ (s : State) (q : Nat) (x : Shade) (w : Nat), (s.shadeAt q = x) ∧
    (s.shadeWord q = w) ∧
    (s.shadeDue q 6 = true) :=
  ⟨shading 0x600008 shade0, 1, shade0, 0x600008, by decide +kernel⟩

theorem wit_oneCycleInstructions_3_move : ∃ (s : State) (q : Nat) (x : Shade) (w : Nat), (s.shadeAt q = x) ∧
    (s.shadeWord q = w) ∧
    (s.shadeDue q 9 = true) :=
  ⟨shading 0x99FFFF shade0, 1, shade0, 0x99FFFF, by decide +kernel⟩

theorem wit_oneCycleInstructions_3_moveb : ∃ (s : State) (q : Nat) (x : Shade) (w : Nat), (s.shadeAt q = x) ∧
    (s.shadeWord q = w) ∧
    (s.shadeDue q 9 = true) :=
  ⟨shading 0x930001 shade0, 1, shade0, 0x930001, by decide +kernel⟩

theorem wit_oneCycleInstructions_4_sig : ∃ (s : State) (q : Nat) (x : Shade) (w : Nat), (s.shadeAt q = x) ∧
    (s.shadeWord q = w) ∧
    (s.shadeDue q 10 = true) :=
  ⟨shading 0xA00000 shade0, 1, shade0, 0xA00000, by decide +kernel⟩

theorem wit_oneCycleInstructions_4_sig1 : ∃ (s : State) (q : Nat) (x : Shade) (w : Nat), (s.shadeAt q = x) ∧
    (s.shadeWord q = w) ∧
    (s.shadeDue q 10 = true) :=
  ⟨shading 0xAA0000 shade0, 1, shade0, 0xAA0000, by decide +kernel⟩

theorem wit_oneCycleInstructions_4_sig2 : ∃ (s : State) (q : Nat) (x : Shade) (w : Nat), (s.shadeAt q = x) ∧
    (s.shadeWord q = w) ∧
    (s.shadeDue q 10 = true) :=
  ⟨shading 0xAC0000 shade0, 1, shade0, 0xAC0000, by decide +kernel⟩

theorem wit_oneCycleInstructions_4_sig3 : ∃ (s : State) (q : Nat) (x : Shade) (w : Nat), (s.shadeAt q = x) ∧
    (s.shadeWord q = w) ∧
    (s.shadeDue q 10 = true) :=
  ⟨shading 0xA20000 shade0, 1, shade0, 0xA20000, by decide +kernel⟩

theorem wit_oneCycleInstructions_4_sig4 : ∃ (s : State) (q : Nat) (x : Shade) (w : Nat), (s.shadeAt q = x) ∧
    (s.shadeWord q = w) ∧
    (s.shadeDue q 10 = true) :=
  ⟨shading 0xA40000 shade0, 1, shade0, 0xA40000, by decide +kernel⟩

theorem wit_oneCycleInstructions_4_sig5 : ∃ (s : State) (q : Nat) (x : Shade) (w : Nat), (s.shadeAt q = x) ∧
    (s.shadeWord q = w) ∧
    (s.shadeDue q 10 = true) :=
  ⟨shading 0xA80000 shade0, 1, shade0, 0xA80000, by decide +kernel⟩

theorem wit_shifts_1 : ∃ (s : State) (q : Nat) (c : Nat) (x : Shade) (w : Nat), (s.shadeAt q = x) ∧
    (s.shadeWord q = w) ∧
    (s.shiftDue q 1 c = true) :=
  ⟨shading 0x143383 shade0, 1, 5, shade0, 0x143383, by decide +kernel⟩

theorem wit_shifts_1_b : ∃ (s : State) (q : Nat) (c : Nat) (x : Shade) (w : Nat), (s.shadeAt q = x) ∧
    (s.shadeWord q = w) ∧
    (s.shiftDue q 1 c = true) :=
  ⟨shading 0x143383 { shade0 with next := 124999000 }, 1, 17, { shade0 with next := 124999000 }, 0x143383, by decide +kernel⟩

theorem wit_shifts_2 : ∃ (s : State) (q : Nat) (c : Nat) (x : Shade) (w : Nat) (l : List Bool), (s.shadeAt q = x) ∧
    (s.shadeWord q = w) ∧
    (s.shiftDue q 2 c = true) ∧
    (l.length = min (c / 2) (shiftBits w) - x.shifted / 2) ∧
    (∀ b, b ∈ l → s.sampleFits q (bitsOf w 16 4) b = true) :=
  ⟨shading 0x243383 shade0, 1, 5, shade0, 0x243383, [true, false], by decide +kernel⟩

theorem wit_shifts_2_b : ∃ (s : State) (q : Nat) (c : Nat) (x : Shade) (w : Nat) (l : List Bool), (s.shadeAt q = x) ∧
    (s.shadeWord q = w) ∧
    (s.shiftDue q 2 c = true) ∧
    (l.length = min (c / 2) (shiftBits w) - x.shifted / 2) ∧
    (∀ b, b ∈ l → s.sampleFits q (bitsOf w 16 4) b = true) :=
  ⟨shading 0x243383 { shade0 with next := 124999000, shifted := 4 }, 1, 17, { shade0 with next := 124999000, shifted := 4 }, 0x243383, List.replicate 6 true, by decide +kernel⟩

theorem wit_oneCycleInstructions_5 : ∃ (s : State) (q : Nat) (x : Shade) (w : Nat) (pc : _), (s.shadeAt q = x) ∧
    (s.shadeWord q = w) ∧
    (q < 4) ∧
    (x.target = some pc) ∧
    (x.state = .running) ∧
    (x.change = none) ∧
    (x.next ≤ s.clk.ticks) :=
  ⟨shading 0x600005 { shade0 with target := some 5 }, 1, { shade0 with target := some 5 }, 0x600005, 5, by decide +kernel⟩

theorem wit_oneCycleInstructions_5_b : ∃ (s : State) (q : Nat) (x : Shade) (w : Nat) (pc : _), (s.shadeAt q = x) ∧
    (s.shadeWord q = w) ∧
    (q < 4) ∧
    (x.target = some pc) ∧
    (x.state = .running) ∧
    (x.change = none) ∧
    (x.next ≤ s.clk.ticks) :=
  ⟨shading 0x600005 { shade0 with target := some 8 }, 1, { shade0 with target := some 8 }, 0x600005, 8, by decide +kernel⟩

theorem wit_waits_1 : ∃ (s : State) (q : Nat) (x : Shade) (w : Nat), (s.shadeAt q = x) ∧
    (s.shadeWord q = w) ∧
    (s.shadeDue q 4 = true) :=
  ⟨shading 0x430005 shade0, 1, shade0, 0x430005, by decide +kernel⟩

theorem wit_waits_1_b : ∃ (s : State) (q : Nat) (x : Shade) (w : Nat), (s.shadeAt q = x) ∧
    (s.shadeWord q = w) ∧
    (s.shadeDue q 4 = true) :=
  ⟨shading 0x438005 shade0, 1, shade0, 0x438005, by decide +kernel⟩

theorem wit_waits_2 : ∃ (s : State) (q : Nat) (x : Shade) (w : Nat), (s.shadeAt q = x) ∧
    (s.shadeWord q = w) ∧
    (s.shadeDue q 5 = true) :=
  ⟨shading 0x540005 shade0, 1, shade0, 0x540005, by decide +kernel⟩

theorem wit_waits_3_1 : ∃ (s : State) (q : Nat) (x : Shade) (w : Nat) (b : _) (m : _), (s.shadeAt q = x) ∧
    (s.shadeWord q = w) ∧
    (s.shadeRuns q = true) ∧
    (x.waiting = some (.pin b (some m))) ∧
    (bitsOf w 0 14 = 0 ∨ x.boundary m ≤ b + bitsOf w 0 14 * x.cycle) ∧
    (x.boundary m ≤ s.clk.ticks) :=
  ⟨shading 0x430005 { shade0 with waiting := some (.pin 124999936 (some 124999937)) }, 1, { shade0 with waiting := some (.pin 124999936 (some 124999937)) }, 0x430005, 124999936, 124999937, by decide +kernel⟩

theorem wit_waits_3_2 : ∃ (s : State) (q : Nat) (x : Shade) (w : Nat) (b : _) (met : _), (s.shadeAt q = x) ∧
    (s.shadeWord q = w) ∧
    (s.shadeRuns q = true) ∧
    (x.waiting = some (.pin b met)) ∧
    (bitsOf w 0 14 ≠ 0) ∧
    (∀ m, met = some m → b + bitsOf w 0 14 * x.cycle < x.boundary m) ∧
    (x.boundary (b + bitsOf w 0 14 * x.cycle) ≤ s.clk.ticks) :=
  ⟨shading 0x438005 { shade0 with waiting := some (.pin 124999936 none) }, 1, { shade0 with waiting := some (.pin 124999936 none) }, 0x438005, 124999936, (none : Option Nat), by decide +kernel⟩

theorem wit_waits_3_2_b : ∃ (s : State) (q : Nat) (x : Shade) (w : Nat) (b : _) (met : _), (s.shadeAt q = x) ∧
    (s.shadeWord q = w) ∧
    (s.shadeRuns q = true) ∧
    (x.waiting = some (.pin b met)) ∧
    (bitsOf w 0 14 ≠ 0) ∧
    (∀ m, met = some m → b + bitsOf w 0 14 * x.cycle < x.boundary m) ∧
    (x.boundary (b + bitsOf w 0 14 * x.cycle) ≤ s.clk.ticks) :=
  ⟨shading 0x438001 { shade0 with waiting := some (.pin 124999936 (some 124999941)) }, 1, { shade0 with waiting := some (.pin 124999936 (some 124999941)) }, 0x438001, 124999936, some 124999941, by decide +kernel⟩

theorem wit_waits_3_3 : ∃ (s : State) (q : Nat) (x : Shade) (w : Nat) (ends : _), (s.shadeAt q = x) ∧
    (s.shadeWord q = w) ∧
    (s.shadeRuns q = true) ∧
    (x.waiting = some (.ticks ends)) ∧
    (x.boundary ends ≤ s.clk.ticks) :=
  ⟨shading 0x500005 { shade0 with waiting := some (.ticks 124999941) }, 1, { shade0 with waiting := some (.ticks 124999941) }, 0x500005, 124999941, by decide +kernel⟩

theorem wit_ShadeFifoInstructions_1 : ∃ (s : State) (q : Nat) (x : Shade) (w : Nat) (v : _) (l : _), (s.shadeAt q = x) ∧
    (s.shadeWord q = w) ∧
    (s.shadeDue q 7 = true) ∧
    (x.inFifo = v :: l) :=
  ⟨shading 0x700000 { shade0 with inFifo := [7] }, 1, { shade0 with inFifo := [7] }, 0x700000, (7 : Word), ([] : List Word), by decide +kernel⟩

theorem wit_ShadeFifoInstructions_2 : ∃ (s : State) (q : Nat) (x : Shade) (w : Nat), (s.shadeAt q = x) ∧
    (s.shadeWord q = w) ∧
    (s.shadeDue q 7 = true) ∧
    (x.inFifo = []) ∧
    (w.testBit 19 = true) :=
  ⟨shading 0x780000 shade0, 1, shade0, 0x780000, by decide +kernel⟩

theorem wit_ShadeFifoInstructions_3 : ∃ (s : State) (q : Nat) (x : Shade) (w : Nat), (s.shadeAt q = x) ∧
    (s.shadeWord q = w) ∧
    (s.shadeDue q 7 = true) ∧
    (x.inFifo = []) ∧
    (w.testBit 19 = false) :=
  ⟨shading 0x740000 { shade0 with stale := 65535 }, 1, { shade0 with stale := 65535 }, 0x740000, by decide +kernel⟩

theorem wit_ShadeFifoInstructions_4 : ∃ (s : State) (q : Nat) (x : Shade) (w : Nat) (v : _) (l : _) (r : _), (s.shadeAt q = x) ∧
    (s.shadeWord q = w) ∧
    (s.shadeRuns q = true) ∧
    (x.waiting = some (.pull (some r))) ∧
    (x.inFifo = v :: l) ∧
    (x.boundary r ≤ s.clk.ticks) :=
  ⟨shading 0x780000 { shade0 with waiting := some (.pull (some 124999937)), inFifo := [7, 8] }, 1, { shade0 with waiting := some (.pull (some 124999937)), inFifo := [7, 8] }, 0x780000, (7 : Word), ([8] : List Word), 124999937, by decide +kernel⟩

theorem wit_ShadeFifoInstructions_5 : ∃ (s : State) (q : Nat) (x : Shade) (w : Nat), (s.shadeAt q = x) ∧
    (s.shadeWord q = w) ∧
    (s.shadeDue q 8 = true) ∧
    (x.outFifo.length < 4) :=
  ⟨shading 0x840000 { shade0 with outFifo := [1, 2, 3] }, 1, { shade0 with outFifo := [1, 2, 3] }, 0x840000, by decide +kernel⟩

theorem wit_ShadeFifoInstructions_6 : ∃ (s : State) (q : Nat) (x : Shade) (w : Nat), (s.shadeAt q = x) ∧
    (s.shadeWord q = w) ∧
    (s.shadeDue q 8 = true) ∧
    (4 ≤ x.outFifo.length) ∧
    (w.testBit 19 = true) :=
  ⟨shading 0x880000 { shade0 with outFifo := [1, 2, 3, 4] }, 1, { shade0 with outFifo := [1, 2, 3, 4] }, 0x880000, by decide +kernel⟩

theorem wit_ShadeFifoInstructions_7 : ∃ (s : State) (q : Nat) (x : Shade) (w : Nat), (s.shadeAt q = x) ∧
    (s.shadeWord q = w) ∧
    (s.shadeDue q 8 = true) ∧
    (4 ≤ x.outFifo.length) ∧
    (w.testBit 19 = false) :=
  ⟨shading 0x800000 { shade0 with outFifo := [1, 2, 3, 4] }, 1, { shade0 with outFifo := [1, 2, 3, 4] }, 0x800000, by decide +kernel⟩

theorem wit_ShadeFifoInstructions_8 : ∃ (s : State) (q : Nat) (x : Shade) (w : Nat) (r : _), (s.shadeAt q = x) ∧
    (s.shadeWord q = w) ∧
    (s.shadeRuns q = true) ∧
    (x.waiting = some (.push (some r))) ∧
    (x.outFifo.length < 4) ∧
    (x.boundary r ≤ s.clk.ticks) :=
  ⟨shading 0x880000 { shade0 with waiting := some (.push (some 124999937)), outFifo := [1, 2, 3] }, 1, { shade0 with waiting := some (.push (some 124999937)), outFifo := [1, 2, 3] }, 0x880000, 124999937, by decide +kernel⟩

theorem wit_scanSequence_1 : ∃ s : State, (s.powered 51 = true) ∧
    (s.stored 0x2806 = 1) ∧
    (s.hkc.gridUsed < s.gridIndex) :=
  ⟨keeping {} [(0x2806, 1), (0x2805, 2)], by decide +kernel⟩

theorem wit_scanSequence_1_b : ∃ s : State, (s.powered 51 = true) ∧
    (s.stored 0x2806 = 1) ∧
    (s.hkc.gridUsed < s.gridIndex) :=
  ⟨keeping { passDue := some 5 } [(0x2806, 1), (0x2805, 2)], by decide +kernel⟩

theorem wit_scanSequence_2_1 : ∃ (s : State) (on : Bool), (s.powered 51 = true) ∧
    (s.powered 52 = true) ∧
    (on = (s.sourceLevel (bitsOf (s.stored 0x280D) 0 5) != (s.stored 0x280D).testBit 7)) ∧
    (s.hkc.pwActive = false) ∧
    (on = true) :=
  ⟨{ up with pin := { levels := 4 }, par := { values := [(0x280D, 2)] } }, true, by decide +kernel⟩

theorem wit_scanSequence_2_2 : ∃ (s : State) (on : Bool) (b : _), (s.powered 51 = true) ∧
    (s.powered 52 = true) ∧
    (on = (s.sourceLevel (bitsOf (s.stored 0x280D) 0 5) != (s.stored 0x280D).testBit 7)) ∧
    (s.hkc.pwActive = true) ∧
    (on = false) ∧
    (s.hkc.pwSince = some b) :=
  ⟨{ up with pin := { levels := 4 }, hkc := { pwActive := true, pwSince := some 5 }, par := { values := [(0x280D, 0x82)] } }, false, 5, by decide +kernel⟩

theorem wit_scanSequence_3 : ∃ (s : State) (w : _), (s.powered 51 = true) ∧
    (s.powered 52 = true) ∧
    (s.hkc.pwEnded = some (s.clk.ticks, w)) ∧
    (125 * bitsOf (s.stored 0x280E) 0 16 ≤ w) ∧
    (w ≤ 125 * bitsOf (s.stored 0x280E) 16 16) :=
  ⟨keeping { pwEnded := some (125000000, 125) } [(0x280B, 8), (0x280A, 2), (0x280E, 0x00640001)], 125, by decide +kernel⟩

theorem wit_scanSequence_3_b : ∃ (s : State) (w : _), (s.powered 51 = true) ∧
    (s.powered 52 = true) ∧
    (s.hkc.pwEnded = some (s.clk.ticks, w)) ∧
    (125 * bitsOf (s.stored 0x280E) 0 16 ≤ w) ∧
    (w ≤ 125 * bitsOf (s.stored 0x280E) 16 16) :=
  ⟨keeping { pwEnded := some (125000000, 12500), pass := some ⟨[1], 0, 0⟩ } [(0x2806, 2), (0x280E, 0x00640001)], 12500, by decide +kernel⟩

theorem wit_scanSequence_4 : ∃ (s : State) (d : _), (s.powered 51 = true) ∧
    (s.hkc.passDue = some d) ∧
    (d ≤ s.clk.ticks) ∧
    (s.stored 0x2805 ≠ 0) :=
  ⟨keeping { passDue := some 5 } [(0x2805, 2), (0x2804, 0x21)], 5, by decide +kernel⟩

theorem wit_prioritySequence_1 : ∃ (s : State) (d : Nat), (s.powered 51 = true) ∧
    (s.hkc.prioDue = some d) ∧
    (d ≤ s.clk.ticks) ∧
    (s.hkc.conv.map HkcConv.work ≠ some .calibration) :=
  ⟨keeping { prioDue := some 5, prioNext := [3, 4] } [], 5, by decide +kernel⟩

theorem wit_prioritySequence_2 : ∃ (s : State) (d : Nat) (c : _), (s.powered 51 = true) ∧
    (s.hkc.prioDue = some d) ∧
    (d ≤ s.clk.ticks) ∧
    (s.hkc.conv.map HkcConv.work = some .calibration) ∧
    (s.hkc.cal = some c) ∧
    (c.restarts < 3) :=
  ⟨keeping { prioDue := some 5, prioNext := [3, 4], conv := some (conv0 .calibration true), cal := some ⟨0, 1, 0, 2, false, 7⟩ } [], 5, (⟨0, 1, 0, 2, false, 7⟩ : HkcCal), by decide +kernel⟩

theorem wit_prioritySequence_3 : ∃ (s : State) (d : Nat) (c : _), (s.powered 51 = true) ∧
    (s.hkc.prioDue = some d) ∧
    (d ≤ s.clk.ticks) ∧
    (s.hkc.conv.map HkcConv.work = some .calibration) ∧
    (s.hkc.cal = some c) ∧
    (3 ≤ c.restarts) :=
  ⟨keeping { prioDue := some 5, prioNext := [3, 4], conv := some (conv0 .calibration true), cal := some ⟨0, 1, 0, 3, false, 7⟩ } [], 5, (⟨0, 1, 0, 3, false, 7⟩ : HkcCal), by decide +kernel⟩

theorem wit_hkcResults_1 : ∃ (s : State) (input : Int) (raw : Int) (c : HkcConv), (s.powered 51 = true) ∧
    (s.hkc.conv = some c) ∧
    (c.periodOver s.clk.ticks = true) ∧
    (raw = hkcRaw c.channel c.ref s.clk.ticks input) ∧
    (c.work = .calibration ∨ c.periods + 1 < timingOrder c.timing) :=
  ⟨keeping { conv := some ⟨.scan, 0, 0x20, 0, 0, false, true, 0⟩ } [], 373, 5, (⟨.scan, 0, 0x20, 0, 0, false, true, 0⟩ : HkcConv), by decide +kernel⟩

theorem wit_hkcResults_2 : ∃ (s : State) (input : Int) (raw : Int) (sat : Bool) (c : HkcConv) (code : Nat), (s.powered 51 = true) ∧
    (s.hkc.conv = some c) ∧
    (c.periodOver s.clk.ticks = true) ∧
    (raw = hkcRaw c.channel c.ref s.clk.ticks input) ∧
    (c.work ≠ .calibration) ∧
    (timingOrder c.timing ≤ c.periods + 1) ∧
    (c.saturated = false) ∧
    (sat = false) ∧
    (s.pwr.run = none) ∧
    (hkcCode (s.hkcCoef c.channel) raw = (code : Int)) ∧
    (code ≤ 16777215) :=
  ⟨keeping { conv := some (conv0 .scan true) } [], 1249999925, 16777215, false, conv0 .scan true, 16777215, by decide +kernel⟩

theorem wit_hkcResults_2_b : ∃ (s : State) (input : Int) (raw : Int) (sat : Bool) (c : HkcConv) (code : Nat), (s.powered 51 = true) ∧
    (s.hkc.conv = some c) ∧
    (c.periodOver s.clk.ticks = true) ∧
    (raw = hkcRaw c.channel c.ref s.clk.ticks input) ∧
    (c.work ≠ .calibration) ∧
    (timingOrder c.timing ≤ c.periods + 1) ∧
    (c.saturated = false) ∧
    (sat = false) ∧
    (s.pwr.run = none) ∧
    (hkcCode (s.hkcCoef c.channel) raw = (code : Int)) ∧
    (code ≤ 16777215) :=
  ⟨keeping { conv := some (conv0 .priority false) } [], 0, 0, false, conv0 .priority false, 0, by decide +kernel⟩

theorem wit_hkcResults_3 : ∃ (s : State) (input : Int) (raw : Int) (sat : Bool) (c : HkcConv) (code : Int), (s.powered 51 = true) ∧
    (s.hkc.conv = some c) ∧
    (c.periodOver s.clk.ticks = true) ∧
    (raw = hkcRaw c.channel c.ref s.clk.ticks input) ∧
    (c.work ≠ .calibration) ∧
    (timingOrder c.timing ≤ c.periods + 1) ∧
    (s.pwr.run = none) ∧
    (hkcCode (s.hkcCoef c.channel) raw = code) ∧
    (c.saturated = true ∨ sat = true ∨ code < 0 ∨ 16777215 < code) :=
  ⟨keeping { conv := some (conv0 .scan true) } [], 373, 5, true, conv0 .scan true, hkcCode ((keeping { conv := some (conv0 .scan true) } []).hkcCoef 0) 5, by decide +kernel⟩

theorem wit_hkcCalibration_1 : ∃ s : State, (s.powered 51 = true) ∧
    (s.hkc.settled = false) ∧
    (s.hkc.refTick + refTicks (s.stored 0x2801) ≤ s.clk.ticks) :=
  ⟨up, by decide +kernel⟩

theorem wit_hkcCalibration_2_1 : ∃ (s : State) (input : _) (raw : _) (v : _) (c : _), (s.powered 51 = true) ∧
    (s.hkc.conv = some v) ∧
    (v.work = .calibration) ∧
    (s.hkc.cal = some c) ∧
    (v.over s.clk.ticks = true) ∧
    (raw = hkcRaw v.channel v.ref s.clk.ticks input) ∧
    (c.phase = 1) :=
  ⟨keeping { conv := some (conv0 .calibration true), cal := some ⟨0, 1, 0, 0, false, 7⟩ } [], -37253, -500, conv0 .calibration true, (⟨0, 1, 0, 0, false, 7⟩ : HkcCal), by decide +kernel⟩

theorem wit_hkcCalibration_2_2 : ∃ (s : State) (input : _) (raw : _) (v : _) (c : _), (s.powered 51 = true) ∧
    (s.hkc.conv = some v) ∧
    (v.work = .calibration) ∧
    (s.hkc.cal = some c) ∧
    (v.over s.clk.ticks = true) ∧
    (raw = hkcRaw v.channel v.ref s.clk.ticks input) ∧
    (c.phase ≠ 1) :=
  ⟨keeping { conv := some (conv0 .calibration true), cal := some ⟨0, 2, 8388608, 0, false, 7⟩, zeros := [(0, 500)] } [], 625037253, 8389108, conv0 .calibration true, (⟨0, 2, 8388608, 0, false, 7⟩ : HkcCal), by decide +kernel⟩

theorem wit_hkcCalibration_2_2_b : ∃ (s : State) (input : _) (raw : _) (v : _) (c : _), (s.powered 51 = true) ∧
    (s.hkc.conv = some v) ∧
    (v.work = .calibration) ∧
    (s.hkc.cal = some c) ∧
    (v.over s.clk.ticks = true) ∧
    (raw = hkcRaw v.channel v.ref s.clk.ticks input) ∧
    (c.phase ≠ 1) :=
  ⟨keeping { conv := some (conv0 .calibration true), cal := some ⟨0, 2, 8388608, 0, false, 7⟩, zeros := [(0, 500)] } [], 37253, 500, conv0 .calibration true, (⟨0, 2, 8388608, 0, false, 7⟩ : HkcCal), by decide +kernel⟩

theorem wit_TileMapBytes_1_1 : ∃ (m : List (Nat × Nat)) (t : Nat), (∀ i, i < 432 → spGet 0 i m < 16) ∧
    (t < 432) ∧
    (t % 2 = 0) :=
  ⟨[(61, 5), (62, 9)], 60, by decide +kernel⟩

theorem wit_TileMapBytes_1_1_b : ∃ (m : List (Nat × Nat)) (t : Nat), (∀ i, i < 432 → spGet 0 i m < 16) ∧
    (t < 432) ∧
    (t % 2 = 0) :=
  ⟨[(61, 5), (62, 9)], 430, by decide +kernel⟩

theorem wit_TileMapBytes_1_2 : ∃ (m : List (Nat × Nat)) (t : Nat), (∀ i, i < 432 → spGet 0 i m < 16) ∧
    (t < 432) ∧
    (t % 2 = 1) :=
  ⟨[(61, 5), (62, 9)], 431, by decide +kernel⟩

theorem wit_TileMapBytes_1_2_b : ∃ (m : List (Nat × Nat)) (t : Nat), (∀ i, i < 432 → spGet 0 i m < 16) ∧
    (t < 432) ∧
    (t % 2 = 1) :=
  ⟨[(61, 5), (62, 9)], 61, by decide +kernel⟩

theorem wit_TileMapBytes_2_1 : ∃ b : Bytes, (b.length = 216) :=
  ⟨List.replicate 216 0xA5, by decide +kernel⟩

theorem wit_TileMapBytes_2_2 : ∃ b : Bytes, (b.length = 216) :=
  ⟨List.replicate 216 0xA5, by decide +kernel⟩

theorem wit_TileMapBytes_3_1 : ∃ m : List (Nat × Nat), (∀ i, i < 432 → spGet 0 i m < 16) :=
  ⟨[(61, 5), (62, 9)], by decide +kernel⟩

theorem wit_TileMapBytes_3_2 : ∃ m : List (Nat × Nat), (∀ i, i < 432 → spGet 0 i m < 16) :=
  ⟨[(61, 5), (62, 9)], by decide +kernel⟩

theorem wit_ColumnCalibration_1_1 : ∃ (e : ColCal) (lcg : Bool) (r : RawSample) (d : Nat) (x : Int), (rawCode r = (d, false)) ∧
    (x = (16 * (d : Int) - (if lcg then e.lcgOffset else e.hcgOffset)) * ((if lcg then e.lcgGain else e.hcgGain : Nat) : Int)) :=
  ⟨(⟨-5, 7, 40000, 20000⟩ : ColCal), true, ⟨1100, 356⟩, 1000, 319860000, by decide +kernel⟩

theorem wit_ColumnCalibration_1_2 : ∃ (e : ColCal) (lcg : Bool) (r : RawSample) (d : Nat) (x : Int), (rawCode r = (d, false)) ∧
    (x = (16 * (d : Int) - (if lcg then e.lcgOffset else e.hcgOffset)) * ((if lcg then e.lcgGain else e.hcgGain : Nat) : Int)) :=
  ⟨(⟨-5, 7, 40000, 20000⟩ : ColCal), true, ⟨1100, 356⟩, 1000, 319860000, by decide +kernel⟩

theorem wit_ColumnCalibration_1_3 : ∃ (e : ColCal) (lcg : Bool) (r : RawSample) (d : Nat) (x : Int), (rawCode r = (d, false)) ∧
    (x = (16 * (d : Int) - (if lcg then e.lcgOffset else e.hcgOffset)) * ((if lcg then e.lcgGain else e.hcgGain : Nat) : Int)) :=
  ⟨(⟨-5, 7, 40000, 20000⟩ : ColCal), false, ⟨1100, 356⟩, 1000, 640200000, by decide +kernel⟩

theorem wit_ColumnCalibration_2 : ∃ (r : RawSample) (d : Nat), (rawCode r = (d, true)) :=
  ⟨⟨5, 0⟩, 16383, by decide +kernel⟩

theorem wit_ColumnCalibration_3 : ∃ (r : RawSample) (d : Nat), (rawCode r = (d, false)) :=
  ⟨⟨1100, 356⟩, 1000, by decide +kernel⟩

theorem wit_sessionMessages_1 : ∃ (s : State) (m : Msg) (n : _), (n ≤ 1024) ∧
    (arrives s m 0x03 (16 + n)) ∧
    (s.led.epochState = .idle) :=
  ⟨served (openMsg 0x03 [1, 2]), openMsg 0x03 [1, 2], 2, by and_intros <;> first | decide +kernel | rfl | (unfold arrives; decide +kernel)⟩

theorem wit_sessionMessages_1_b : ∃ (s : State) (m : Msg) (n : _), (n ≤ 1024) ∧
    (arrives s m 0x03 (16 + n)) ∧
    (s.led.epochState = .idle) :=
  ⟨served (openMsg 0x03 (zeros 1024)), openMsg 0x03 (zeros 1024), 1024, by and_intros <;> first | decide +kernel | rfl | (unfold arrives; decide +kernel)⟩

theorem wit_sessionMessages_2 : ∃ (s : State) (m : Msg) (entropy : Bytes), (entropy.length = 32) ∧
    (arrives s m 0x01 48) ∧
    (s.led.epochState = .idle) :=
  ⟨served (openMsg 0x01 (zeros 32)), openMsg 0x01 (zeros 32), List.replicate 32 7, by and_intros <;> first | decide +kernel | rfl | (unfold arrives; decide +kernel)⟩

theorem wit_sessionMessages_2_b : ∃ (s : State) (m : Msg) (entropy : Bytes), (entropy.length = 32) ∧
    (arrives s m 0x01 48) ∧
    (s.led.epochState = .idle) :=
  ⟨upCtl { inbox := [.inBand (openMsg 0x01 (zeros 32)).bytes], tally := rec1 { sessionCounter := 0xFFFFFFFF } }, openMsg 0x01 (zeros 32), List.replicate 32 7, by and_intros <;> first | decide +kernel | rfl | (unfold arrives; decide +kernel)⟩

theorem wit_sessionMessages_3 : ∃ (s : State) (m : Msg), (arrives s m 0x02 84) ∧
    (authorised s m 1) :=
  ⟨served (chalkMsg 0x02 []), chalkMsg 0x02 [], by and_intros <;> first | decide +kernel | rfl | (unfold arrives; decide +kernel) | (unfold authorised; decide +kernel)⟩

theorem wit_sessionMessages_4 : ∃ (s : State) (m : Msg), (arrives s m 0x50 84) ∧
    (authorised s m 1) ∧
    (s.viewsIdle = true) :=
  ⟨served (chalkMsg 0x50 []), chalkMsg 0x50 [], by and_intros <;> first | decide +kernel | rfl | (unfold arrives; decide +kernel) | (unfold authorised; decide +kernel)⟩

theorem wit_sessionMessages_5 : ∃ (s : State) (m : Msg), (s.nextMsg = some m) ∧
    (s.serves = true) ∧
    (m.formed = true) ∧
    (¬ m.code ∈ catalogue) :=
  ⟨served (openMsg 0x06 []), openMsg 0x06 [], by decide +kernel⟩

theorem wit_signedChecks_1 : ∃ (s : State) (m : Msg), (arrives s m 0x02 84) ∧
    (s.pwr.recovery = false) :=
  ⟨served (chalkMsg 0x02 []), chalkMsg 0x02 [], by and_intros <;> first | decide +kernel | rfl | (unfold arrives; decide +kernel)⟩

theorem wit_signedChecks_2_1_1 : ∃ (s : State) (m : Msg) (t : _), (arrives s m 0x02 84) ∧
    (s.pwr.recovery = false) ∧
    (exec .msgSessionClose s = .next t) ∧
    (s.ctl.superseded = 0) ∧
    (s.repeats m = true) :=
  ⟨upCtl { inbox := [.inBand (chalkMsg 0x02 []).bytes], sessionOpen := true, session := 7, seqLast := 10, lastDigest := some (sha512 (chalkMsg 0x02 []).bytes), lastResponse := zeros 24 }, chalkMsg 0x02 [], after (exec .msgSessionClose (upCtl { inbox := [.inBand (chalkMsg 0x02 []).bytes], sessionOpen := true, session := 7, seqLast := 10, lastDigest := some (sha512 (chalkMsg 0x02 []).bytes), lastResponse := zeros 24 })), by and_intros <;> first | decide +kernel | rfl | (unfold arrives; decide +kernel)⟩

theorem wit_signedChecks_2_1_2 : ∃ (s : State) (m : Msg) (t : _), (arrives s m 0x02 84) ∧
    (s.pwr.recovery = false) ∧
    (exec .msgSessionClose s = .next t) ∧
    (s.ctl.superseded = 0) ∧
    (s.repeats m = true) :=
  ⟨upCtl { inbox := [.inBand (chalkMsg 0x02 []).bytes], sessionOpen := true, session := 7, seqLast := 10, lastDigest := some (sha512 (chalkMsg 0x02 []).bytes), lastResponse := zeros 24 }, chalkMsg 0x02 [], after (exec .msgSessionClose (upCtl { inbox := [.inBand (chalkMsg 0x02 []).bytes], sessionOpen := true, session := 7, seqLast := 10, lastDigest := some (sha512 (chalkMsg 0x02 []).bytes), lastResponse := zeros 24 })), by and_intros <;> first | decide +kernel | rfl | (unfold arrives; decide +kernel)⟩

theorem wit_signedChecks_2_1_3 : ∃ (s : State) (m : Msg) (t : _), (arrives s m 0x02 84) ∧
    (s.pwr.recovery = false) ∧
    (exec .msgSessionClose s = .next t) ∧
    (s.ctl.superseded = 0) ∧
    (s.repeats m = true) :=
  ⟨upCtl { inbox := [.inBand (chalkMsg 0x02 []).bytes], sessionOpen := true, session := 7, seqLast := 10, lastDigest := some (sha512 (chalkMsg 0x02 []).bytes), lastResponse := zeros 24 }, chalkMsg 0x02 [], after (exec .msgSessionClose (upCtl { inbox := [.inBand (chalkMsg 0x02 []).bytes], sessionOpen := true, session := 7, seqLast := 10, lastDigest := some (sha512 (chalkMsg 0x02 []).bytes), lastResponse := zeros 24 })), by and_intros <;> first | decide +kernel | rfl | (unfold arrives; decide +kernel)⟩

theorem wit_signedChecks_2_1_4 : ∃ (s : State) (m : Msg) (t : _), (arrives s m 0x02 84) ∧
    (s.pwr.recovery = false) ∧
    (exec .msgSessionClose s = .next t) ∧
    (s.ctl.superseded = 0) ∧
    (s.repeats m = true) :=
  ⟨upCtl { inbox := [.inBand (chalkMsg 0x02 []).bytes], sessionOpen := true, session := 7, seqLast := 10, lastDigest := some (sha512 (chalkMsg 0x02 []).bytes), lastResponse := zeros 24 }, chalkMsg 0x02 [], after (exec .msgSessionClose (upCtl { inbox := [.inBand (chalkMsg 0x02 []).bytes], sessionOpen := true, session := 7, seqLast := 10, lastDigest := some (sha512 (chalkMsg 0x02 []).bytes), lastResponse := zeros 24 })), by and_intros <;> first | decide +kernel | rfl | (unfold arrives; decide +kernel)⟩

theorem wit_signedChecks_2_2_1 : ∃ (s : State) (m : Msg) (t : _) (e : _), (arrives s m 0x02 84) ∧
    (s.pwr.recovery = false) ∧
    (exec .msgSessionClose s = .next t) ∧
    (s.repeats m = false ∨ s.ctl.superseded ≠ 0) ∧
    (e = (if s.ctl.superseded ≠ 0 ∨ s.inSession m = false ∨ m.sequence ≠ (s.ctl.seqLast + 1).toNat then 4
          else if m.role < 1 ∨ 3 < m.role then 2 else s.trailerError m)) ∧
    (e ≠ 0) :=
  ⟨{ served (signedMsg 0x02 0 0 [] []) with ctl := { (served (signedMsg 0x02 0 0 [] [])).ctl with seqLast := 8 } }, signedMsg 0x02 0 0 [] [], after (exec .msgSessionClose ({ served (signedMsg 0x02 0 0 [] []) with ctl := { (served (signedMsg 0x02 0 0 [] [])).ctl with seqLast := 8 } })), 4, by and_intros <;> first | decide +kernel | rfl | (unfold arrives; decide +kernel)⟩

theorem wit_signedChecks_2_2_1_b : ∃ (s : State) (m : Msg) (t : _) (e : _), (arrives s m 0x02 84) ∧
    (s.pwr.recovery = false) ∧
    (exec .msgSessionClose s = .next t) ∧
    (s.repeats m = false ∨ s.ctl.superseded ≠ 0) ∧
    (e = (if s.ctl.superseded ≠ 0 ∨ s.inSession m = false ∨ m.sequence ≠ (s.ctl.seqLast + 1).toNat then 4
          else if m.role < 1 ∨ 3 < m.role then 2 else s.trailerError m)) ∧
    (e ≠ 0) :=
  ⟨served (signedMsg 0x02 4 0 [] []), signedMsg 0x02 4 0 [] [], after (exec .msgSessionClose (served (signedMsg 0x02 4 0 [] []))), 2, by and_intros <;> first | decide +kernel | rfl | (unfold arrives; decide +kernel)⟩

theorem wit_signedChecks_2_2_1_c : ∃ (s : State) (m : Msg) (t : _) (e : _), (arrives s m 0x02 84) ∧
    (s.pwr.recovery = false) ∧
    (exec .msgSessionClose s = .next t) ∧
    (s.repeats m = false ∨ s.ctl.superseded ≠ 0) ∧
    (e = (if s.ctl.superseded ≠ 0 ∨ s.inSession m = false ∨ m.sequence ≠ (s.ctl.seqLast + 1).toNat then 4
          else if m.role < 1 ∨ 3 < m.role then 2 else s.trailerError m)) ∧
    (e ≠ 0) :=
  ⟨served (signedMsg 0x02 1 0 [] []), signedMsg 0x02 1 0 [] [], after (exec .msgSessionClose (served (signedMsg 0x02 1 0 [] []))), 2, by and_intros <;> first | decide +kernel | rfl | (unfold arrives; decide +kernel)⟩

theorem wit_signedChecks_2_2_2 : ∃ (s : State) (m : Msg) (t : _) (e : _), (arrives s m 0x02 84) ∧
    (s.pwr.recovery = false) ∧
    (exec .msgSessionClose s = .next t) ∧
    (s.repeats m = false ∨ s.ctl.superseded ≠ 0) ∧
    (e = (if s.ctl.superseded ≠ 0 ∨ s.inSession m = false ∨ m.sequence ≠ (s.ctl.seqLast + 1).toNat then 4
          else if m.role < 1 ∨ 3 < m.role then 2 else s.trailerError m)) ∧
    (e ≠ 0) :=
  ⟨{ served (signedMsg 0x02 0 0 [] []) with ctl := { (served (signedMsg 0x02 0 0 [] [])).ctl with seqLast := 8 } }, signedMsg 0x02 0 0 [] [], after (exec .msgSessionClose ({ served (signedMsg 0x02 0 0 [] []) with ctl := { (served (signedMsg 0x02 0 0 [] [])).ctl with seqLast := 8 } })), 4, by and_intros <;> first | decide +kernel | rfl | (unfold arrives; decide +kernel)⟩

theorem wit_signedChecks_2_2_2_b : ∃ (s : State) (m : Msg) (t : _) (e : _), (arrives s m 0x02 84) ∧
    (s.pwr.recovery = false) ∧
    (exec .msgSessionClose s = .next t) ∧
    (s.repeats m = false ∨ s.ctl.superseded ≠ 0) ∧
    (e = (if s.ctl.superseded ≠ 0 ∨ s.inSession m = false ∨ m.sequence ≠ (s.ctl.seqLast + 1).toNat then 4
          else if m.role < 1 ∨ 3 < m.role then 2 else s.trailerError m)) ∧
    (e ≠ 0) :=
  ⟨served (signedMsg 0x02 4 0 [] []), signedMsg 0x02 4 0 [] [], after (exec .msgSessionClose (served (signedMsg 0x02 4 0 [] []))), 2, by and_intros <;> first | decide +kernel | rfl | (unfold arrives; decide +kernel)⟩

theorem wit_signedChecks_2_2_2_c : ∃ (s : State) (m : Msg) (t : _) (e : _), (arrives s m 0x02 84) ∧
    (s.pwr.recovery = false) ∧
    (exec .msgSessionClose s = .next t) ∧
    (s.repeats m = false ∨ s.ctl.superseded ≠ 0) ∧
    (e = (if s.ctl.superseded ≠ 0 ∨ s.inSession m = false ∨ m.sequence ≠ (s.ctl.seqLast + 1).toNat then 4
          else if m.role < 1 ∨ 3 < m.role then 2 else s.trailerError m)) ∧
    (e ≠ 0) :=
  ⟨served (signedMsg 0x02 1 0 [] []), signedMsg 0x02 1 0 [] [], after (exec .msgSessionClose (served (signedMsg 0x02 1 0 [] []))), 2, by and_intros <;> first | decide +kernel | rfl | (unfold arrives; decide +kernel)⟩

theorem wit_signedChecks_2_2_3 : ∃ (s : State) (m : Msg) (t : _) (e : _), (arrives s m 0x02 84) ∧
    (s.pwr.recovery = false) ∧
    (exec .msgSessionClose s = .next t) ∧
    (s.repeats m = false ∨ s.ctl.superseded ≠ 0) ∧
    (e = (if s.ctl.superseded ≠ 0 ∨ s.inSession m = false ∨ m.sequence ≠ (s.ctl.seqLast + 1).toNat then 4
          else if m.role < 1 ∨ 3 < m.role then 2 else s.trailerError m)) ∧
    (e ≠ 0) :=
  ⟨{ served (signedMsg 0x02 0 0 [] []) with ctl := { (served (signedMsg 0x02 0 0 [] [])).ctl with seqLast := 8 } }, signedMsg 0x02 0 0 [] [], after (exec .msgSessionClose ({ served (signedMsg 0x02 0 0 [] []) with ctl := { (served (signedMsg 0x02 0 0 [] [])).ctl with seqLast := 8 } })), 4, by and_intros <;> first | decide +kernel | rfl | (unfold arrives; decide +kernel)⟩

theorem wit_signedChecks_2_2_3_b : ∃ (s : State) (m : Msg) (t : _) (e : _), (arrives s m 0x02 84) ∧
    (s.pwr.recovery = false) ∧
    (exec .msgSessionClose s = .next t) ∧
    (s.repeats m = false ∨ s.ctl.superseded ≠ 0) ∧
    (e = (if s.ctl.superseded ≠ 0 ∨ s.inSession m = false ∨ m.sequence ≠ (s.ctl.seqLast + 1).toNat then 4
          else if m.role < 1 ∨ 3 < m.role then 2 else s.trailerError m)) ∧
    (e ≠ 0) :=
  ⟨served (signedMsg 0x02 4 0 [] []), signedMsg 0x02 4 0 [] [], after (exec .msgSessionClose (served (signedMsg 0x02 4 0 [] []))), 2, by and_intros <;> first | decide +kernel | rfl | (unfold arrives; decide +kernel)⟩

theorem wit_signedChecks_2_2_3_c : ∃ (s : State) (m : Msg) (t : _) (e : _), (arrives s m 0x02 84) ∧
    (s.pwr.recovery = false) ∧
    (exec .msgSessionClose s = .next t) ∧
    (s.repeats m = false ∨ s.ctl.superseded ≠ 0) ∧
    (e = (if s.ctl.superseded ≠ 0 ∨ s.inSession m = false ∨ m.sequence ≠ (s.ctl.seqLast + 1).toNat then 4
          else if m.role < 1 ∨ 3 < m.role then 2 else s.trailerError m)) ∧
    (e ≠ 0) :=
  ⟨served (signedMsg 0x02 1 0 [] []), signedMsg 0x02 1 0 [] [], after (exec .msgSessionClose (served (signedMsg 0x02 1 0 [] []))), 2, by and_intros <;> first | decide +kernel | rfl | (unfold arrives; decide +kernel)⟩

theorem wit_signedChecks_2_2_4 : ∃ (s : State) (m : Msg) (t : _) (e : _), (arrives s m 0x02 84) ∧
    (s.pwr.recovery = false) ∧
    (exec .msgSessionClose s = .next t) ∧
    (s.repeats m = false ∨ s.ctl.superseded ≠ 0) ∧
    (e = (if s.ctl.superseded ≠ 0 ∨ s.inSession m = false ∨ m.sequence ≠ (s.ctl.seqLast + 1).toNat then 4
          else if m.role < 1 ∨ 3 < m.role then 2 else s.trailerError m)) ∧
    (e ≠ 0) :=
  ⟨{ served (signedMsg 0x02 0 0 [] []) with ctl := { (served (signedMsg 0x02 0 0 [] [])).ctl with seqLast := 8 } }, signedMsg 0x02 0 0 [] [], after (exec .msgSessionClose ({ served (signedMsg 0x02 0 0 [] []) with ctl := { (served (signedMsg 0x02 0 0 [] [])).ctl with seqLast := 8 } })), 4, by and_intros <;> first | decide +kernel | rfl | (unfold arrives; decide +kernel)⟩

theorem wit_signedChecks_2_2_4_b : ∃ (s : State) (m : Msg) (t : _) (e : _), (arrives s m 0x02 84) ∧
    (s.pwr.recovery = false) ∧
    (exec .msgSessionClose s = .next t) ∧
    (s.repeats m = false ∨ s.ctl.superseded ≠ 0) ∧
    (e = (if s.ctl.superseded ≠ 0 ∨ s.inSession m = false ∨ m.sequence ≠ (s.ctl.seqLast + 1).toNat then 4
          else if m.role < 1 ∨ 3 < m.role then 2 else s.trailerError m)) ∧
    (e ≠ 0) :=
  ⟨served (signedMsg 0x02 4 0 [] []), signedMsg 0x02 4 0 [] [], after (exec .msgSessionClose (served (signedMsg 0x02 4 0 [] []))), 2, by and_intros <;> first | decide +kernel | rfl | (unfold arrives; decide +kernel)⟩

theorem wit_signedChecks_2_2_4_c : ∃ (s : State) (m : Msg) (t : _) (e : _), (arrives s m 0x02 84) ∧
    (s.pwr.recovery = false) ∧
    (exec .msgSessionClose s = .next t) ∧
    (s.repeats m = false ∨ s.ctl.superseded ≠ 0) ∧
    (e = (if s.ctl.superseded ≠ 0 ∨ s.inSession m = false ∨ m.sequence ≠ (s.ctl.seqLast + 1).toNat then 4
          else if m.role < 1 ∨ 3 < m.role then 2 else s.trailerError m)) ∧
    (e ≠ 0) :=
  ⟨served (signedMsg 0x02 1 0 [] []), signedMsg 0x02 1 0 [] [], after (exec .msgSessionClose (served (signedMsg 0x02 1 0 [] []))), 2, by and_intros <;> first | decide +kernel | rfl | (unfold arrives; decide +kernel)⟩

theorem wit_signedChecks_2_2_5 : ∃ (s : State) (m : Msg) (t : _) (e : _), (arrives s m 0x02 84) ∧
    (s.pwr.recovery = false) ∧
    (exec .msgSessionClose s = .next t) ∧
    (s.repeats m = false ∨ s.ctl.superseded ≠ 0) ∧
    (e = (if s.ctl.superseded ≠ 0 ∨ s.inSession m = false ∨ m.sequence ≠ (s.ctl.seqLast + 1).toNat then 4
          else if m.role < 1 ∨ 3 < m.role then 2 else s.trailerError m)) ∧
    (e ≠ 0) :=
  ⟨{ served (signedMsg 0x02 0 0 [] []) with ctl := { (served (signedMsg 0x02 0 0 [] [])).ctl with seqLast := 8 } }, signedMsg 0x02 0 0 [] [], after (exec .msgSessionClose ({ served (signedMsg 0x02 0 0 [] []) with ctl := { (served (signedMsg 0x02 0 0 [] [])).ctl with seqLast := 8 } })), 4, by and_intros <;> first | decide +kernel | rfl | (unfold arrives; decide +kernel)⟩

theorem wit_signedChecks_2_2_5_b : ∃ (s : State) (m : Msg) (t : _) (e : _), (arrives s m 0x02 84) ∧
    (s.pwr.recovery = false) ∧
    (exec .msgSessionClose s = .next t) ∧
    (s.repeats m = false ∨ s.ctl.superseded ≠ 0) ∧
    (e = (if s.ctl.superseded ≠ 0 ∨ s.inSession m = false ∨ m.sequence ≠ (s.ctl.seqLast + 1).toNat then 4
          else if m.role < 1 ∨ 3 < m.role then 2 else s.trailerError m)) ∧
    (e ≠ 0) :=
  ⟨served (signedMsg 0x02 4 0 [] []), signedMsg 0x02 4 0 [] [], after (exec .msgSessionClose (served (signedMsg 0x02 4 0 [] []))), 2, by and_intros <;> first | decide +kernel | rfl | (unfold arrives; decide +kernel)⟩

theorem wit_signedChecks_2_2_5_c : ∃ (s : State) (m : Msg) (t : _) (e : _), (arrives s m 0x02 84) ∧
    (s.pwr.recovery = false) ∧
    (exec .msgSessionClose s = .next t) ∧
    (s.repeats m = false ∨ s.ctl.superseded ≠ 0) ∧
    (e = (if s.ctl.superseded ≠ 0 ∨ s.inSession m = false ∨ m.sequence ≠ (s.ctl.seqLast + 1).toNat then 4
          else if m.role < 1 ∨ 3 < m.role then 2 else s.trailerError m)) ∧
    (e ≠ 0) :=
  ⟨served (signedMsg 0x02 1 0 [] []), signedMsg 0x02 1 0 [] [], after (exec .msgSessionClose (served (signedMsg 0x02 1 0 [] []))), 2, by and_intros <;> first | decide +kernel | rfl | (unfold arrives; decide +kernel)⟩

theorem wit_readMessages_1 : ∃ (s : State) (m : Msg), (s.pwr.recovery = false) ∧
    (arrives s m 0x30 20) ∧
    (s.derives = true) ∧
    (s.fus.retireIdentity = false) ∧
    (m.field 0 4 ≤ s.epochNow) :=
  ⟨{ served (openMsg 0x30 (leBytes 4 3)) with fus := { lifecycle := 2, bank := 1 }, led := ledgered.led }, openMsg 0x30 (leBytes 4 3), by and_intros <;> first | decide +kernel | rfl | (unfold arrives; decide +kernel)⟩

theorem wit_readMessages_2 : ∃ (s : State) (m : Msg), (s.pwr.recovery = false) ∧
    (arrives s m 0x05 48) :=
  ⟨served (openMsg 0x05 (zeros 32)), openMsg 0x05 (zeros 32), by and_intros <;> first | decide +kernel | rfl | (unfold arrives; decide +kernel)⟩

theorem wit_readMessages_3 : ∃ (s : State) (m : Msg) (c : _), (s.pwr.recovery = false) ∧
    (arrives s m 0x04 20) ∧
    (m.field 0 1 = 1) ∧
    (s.role.cert.now = some c) :=
  ⟨{ served (openMsg 0x04 [1, 0, 0, 0]) with role := { cert := rec1 (zeros 192) } }, openMsg 0x04 [1, 0, 0, 0], zeros 192, by and_intros <;> first | decide +kernel | rfl | (unfold arrives; decide +kernel)⟩

theorem wit_readMessages_4 : ∃ (s : State) (m : Msg) (b : _) (id : _) (pub : _), (s.pwr.recovery = false) ∧
    (arrives s m 0x04 20) ∧
    (m.field 0 1 = 2) ∧
    (b = s.fus.idBank) ∧
    (b = 1 ∨ b = 2) ∧
    (s.fus.lifecycle ≠ 3) ∧
    (s.sea.vermilion = 0) ∧
    (s.fus.retireIdentity = false) ∧
    (id = s.fus.wordBytes (if b = 1 then 88 else 104) 4) ∧
    (pub = edPublic (identityKey (s.fus.wordBytes (if b = 1 then 80 else 96) 8))) :=
  ⟨{ served (openMsg 0x04 [2, 0, 0, 0]) with fus := { lifecycle := 1, latWords := reads [(81, 274877906951), (95, 482994269687)], latUnits := [(1286, ⟨7, 7, 7⟩)] } }, openMsg 0x04 [2, 0, 0, 0], 1, ({ served (openMsg 0x04 [2, 0, 0, 0]) with fus := { lifecycle := 1, latWords := reads [(81, 274877906951), (95, 482994269687)], latUnits := [(1286, ⟨7, 7, 7⟩)] } }).fus.wordBytes (if (1) = 1 then 88 else 104) 4, edPublic (identityKey (({ served (openMsg 0x04 [2, 0, 0, 0]) with fus := { lifecycle := 1, latWords := reads [(81, 274877906951), (95, 482994269687)], latUnits := [(1286, ⟨7, 7, 7⟩)] } }).fus.wordBytes (if (1) = 1 then 80 else 96) 8)), by and_intros <;> first | decide +kernel | rfl | (unfold arrives; decide +kernel)⟩

theorem wit_readMessages_5 : ∃ (s : State) (m : Msg) (n : _), (s.pwr.recovery = false) ∧
    (arrives s m 0x80 22) ∧
    (m.field 0 1 = 0) ∧
    (m.field 4 2 = n) ∧
    (1 ≤ n) ∧
    (n ≤ 256) ∧
    (m.field 2 2 + n ≤ 256) :=
  ⟨served (openMsg 0x80 ([0, 0] ++ leBytes 2 80 ++ leBytes 2 176)), openMsg 0x80 ([0, 0] ++ leBytes 2 80 ++ leBytes 2 176), 176, by and_intros <;> first | decide +kernel | rfl | (unfold arrives; decide +kernel)⟩

theorem wit_readMessages_6 : ∃ (s : State) (m : Msg) (n : _), (s.pwr.recovery = false) ∧
    (arrives s m 0x40 24) ∧
    (m.inBand = true) ∧
    (1 ≤ m.field 4 2) ∧
    (m.field 4 2 ≤ 256) ∧
    (s.present (BitVec.ofNat 32 (m.field 0 4)) = true) ∧
    (n = min (min 31 (m.field 4 2)) (s.led.nextSeq - BitVec.ofNat 32 (m.field 0 4)).toNat) :=
  ⟨{ served (openMsg 0x40 (leBytes 4 3 ++ leBytes 2 256 ++ zeros 2)) with led := ledgered.led }, openMsg 0x40 (leBytes 4 3 ++ leBytes 2 256 ++ zeros 2), 7, by and_intros <;> first | decide +kernel | rfl | (unfold arrives; decide +kernel)⟩

theorem wit_readMessages_7 : ∃ (s : State) (m : Msg) (o : _) (n : _), (s.pwr.recovery = false) ∧
    (arrives s m 0x13 32) ∧
    (m.inBand = true) ∧
    (m.field 0 1 = 1) ∧
    (m.field 4 4 = o) ∧
    (o < 216) ∧
    (m.field 8 4 = n) ∧
    (1 ≤ n) ∧
    (n ≤ 32768) ∧
    (o = 0 ∨ m.field 12 4 = s.tab.tileSerial.toNat) :=
  ⟨served (openMsg 0x13 ([1, 0, 0, 0] ++ leBytes 4 215 ++ leBytes 4 32768 ++ leBytes 4 0)), openMsg 0x13 ([1, 0, 0, 0] ++ leBytes 4 215 ++ leBytes 4 32768 ++ leBytes 4 0), 215, 32768, by and_intros <;> first | decide +kernel | rfl | (unfold arrives; decide +kernel)⟩

theorem wit_parameterReads_1_1 : ∃ (s : State) (m : Msg) (n : Nat) (ids : _), (1 ≤ n) ∧
    (n ≤ 256) ∧
    (s.pwr.recovery = false) ∧
    (arrives s m 0x10 (20 + 2 * n)) ∧
    (m.field 0 2 = n) ∧
    (ids = m.ids 4 n) ∧
    (readError 0 0 ids = none) :=
  ⟨served (openMsg 0x10 (leBytes 2 2 ++ zeros 2 ++ leBytes 2 1024 ++ leBytes 2 1035)), openMsg 0x10 (leBytes 2 2 ++ zeros 2 ++ leBytes 2 1024 ++ leBytes 2 1035), 2, (openMsg 0x10 (leBytes 2 2 ++ zeros 2 ++ leBytes 2 1024 ++ leBytes 2 1035)).ids 4 2, by and_intros <;> first | decide +kernel | rfl | (unfold arrives; decide +kernel)⟩

theorem wit_parameterReads_1_2 : ∃ (s : State) (m : Msg) (n : Nat) (ids : _) (i : _) (e : _), (1 ≤ n) ∧
    (n ≤ 256) ∧
    (s.pwr.recovery = false) ∧
    (arrives s m 0x10 (20 + 2 * n)) ∧
    (m.field 0 2 = n) ∧
    (ids = m.ids 4 n) ∧
    (readError 0 0 ids = some (i, e)) :=
  ⟨served (openMsg 0x10 (leBytes 2 2 ++ zeros 2 ++ leBytes 2 1024 ++ leBytes 2 0xFFFF)), openMsg 0x10 (leBytes 2 2 ++ zeros 2 ++ leBytes 2 1024 ++ leBytes 2 0xFFFF), 2, (openMsg 0x10 (leBytes 2 2 ++ zeros 2 ++ leBytes 2 1024 ++ leBytes 2 0xFFFF)).ids 4 2, 1, 6, by and_intros <;> first | decide +kernel | rfl | (unfold arrives; decide +kernel)⟩

theorem wit_parameterReads_2 : ∃ (s : State) (m : Msg) (n : Nat) (ids : _), (1 ≤ n) ∧
    (n ≤ 256) ∧
    (s.pwr.recovery = false) ∧
    (arrives s m 0x11 (88 + 2 * n)) ∧
    (authorised s m 1) ∧
    (m.field 4 2 = n) ∧
    (ids = m.ids 8 n) ∧
    (readError m.role 0 ids = none) :=
  ⟨served (chalkMsg 0x11 (leBytes 2 2 ++ zeros 2 ++ leBytes 2 0x0C04 ++ leBytes 2 0x1009)), chalkMsg 0x11 (leBytes 2 2 ++ zeros 2 ++ leBytes 2 0x0C04 ++ leBytes 2 0x1009), 2, (chalkMsg 0x11 (leBytes 2 2 ++ zeros 2 ++ leBytes 2 0x0C04 ++ leBytes 2 0x1009)).ids 8 2, by and_intros <;> first | decide +kernel | rfl | (unfold arrives; decide +kernel) | (unfold authorised; decide +kernel)⟩

theorem wit_parameterWrites_2_1 : ∃ (s : State) (m : Msg) (n : Nat) (i : _) (e : _), (1 ≤ n) ∧
    (n ≤ 64) ∧
    (arrives s m 0x12 (88 + 12 * n)) ∧
    (authorised s m 1) ∧
    (m.field 4 2 = n) ∧
    ((∀ e ∈ m.entries, leAt 0 2 e ≠ 0x0C02) ∨ s.pin.ppsPulse ≠ some s.clk.ticks) ∧
    (stepsAll m.role 0 [] m.entries = some (i, e)) :=
  ⟨served (chalkMsg 0x12 (leBytes 2 1 ++ zeros 2 ++ leBytes 2 0xFFFF ++ zeros 10)), chalkMsg 0x12 (leBytes 2 1 ++ zeros 2 ++ leBytes 2 0xFFFF ++ zeros 10), 1, 0, 6, by and_intros <;> first | decide +kernel | rfl | (unfold arrives; decide +kernel) | (unfold authorised; decide +kernel)⟩

theorem wit_parameterWrites_2_2 : ∃ (s : State) (m : Msg) (n : Nat) (l : _), (1 ≤ n) ∧
    (n ≤ 64) ∧
    (arrives s m 0x12 (88 + 12 * n)) ∧
    (authorised s m 1) ∧
    (m.field 4 2 = n) ∧
    ((∀ e ∈ m.entries, leAt 0 2 e ≠ 0x0C02) ∨ s.pin.ppsPulse ≠ some s.clk.ticks) ∧
    (stepsAll m.role 0 [] m.entries = none) ∧
    (l = writesOf m.entries) ∧
    (((s.takeMsg m).takeSequence m).lateFailure l = none) :=
  ⟨served (chalkMsg 0x12 (leBytes 2 1 ++ zeros 2 ++ leBytes 2 (viewId 31 9) ++ leBytes 2 2 ++ leBytes 8 2)), chalkMsg 0x12 (leBytes 2 1 ++ zeros 2 ++ leBytes 2 (viewId 31 9) ++ leBytes 2 2 ++ leBytes 8 2), 1, writesOf (chalkMsg 0x12 (leBytes 2 1 ++ zeros 2 ++ leBytes 2 (viewId 31 9) ++ leBytes 2 2 ++ leBytes 8 2)).entries, by and_intros <;> first | decide +kernel | rfl | (unfold arrives; decide +kernel) | (unfold authorised; decide +kernel)⟩

theorem wit_tableWrites_1 : ∃ (s : State) (m : Msg) (t0 : TableStaging), (m.inBand = true) ∧
    (m.field 12 4 ≤ 3904) ∧
    (m.field 4 1 = 1) ∧
    (m.signedBody.length = 88 + m.field 12 4) ∧
    (arrives s m 0x14 (168 + m.field 12 4)) ∧
    (authorised s m 2) ∧
    (s.stagingFor m = some t0) ∧
    (m.field 8 4 = t0.bytes.length) ∧
    (t0.bytes.length + m.field 12 4 ≤ t0.total) ∧
    (t0.table = 1) ∧
    (bitOf (m.field 5 1) 0 = true → m.field 16 4 = 216) ∧
    (bitOf (m.field 5 1) 1 = false) :=
  ⟨served (tileMsg 1 100), tileMsg 1 100, (⟨1, 216, []⟩ : TableStaging), by and_intros <;> first | decide +kernel | rfl | (unfold arrives; decide +kernel) | (unfold authorised; decide +kernel)⟩

theorem wit_tableWrites_2 : ∃ (s : State) (m : Msg) (t0 : TableStaging) (b : _), (m.inBand = true) ∧
    (m.field 12 4 ≤ 3904) ∧
    (m.field 4 1 = 1) ∧
    (m.signedBody.length = 88 + m.field 12 4) ∧
    (arrives s m 0x14 (168 + m.field 12 4)) ∧
    (authorised s m 2) ∧
    (s.stagingFor m = some t0) ∧
    (m.field 8 4 = t0.bytes.length) ∧
    (t0.bytes.length + m.field 12 4 ≤ t0.total) ∧
    (t0.table = 1) ∧
    (bitOf (m.field 5 1) 0 = true → m.field 16 4 = 216) ∧
    (bitOf (m.field 5 1) 1 = true) ∧
    (b = t0.bytes ++ m.part 88 (m.field 12 4)) ∧
    (b.length = t0.total) ∧
    (m.part 24 64 = sha512 b) ∧
    (((s.takeMsg m).takeSequence m).tableChecks { t0 with bytes := b } = true) :=
  ⟨served (tileMsg 3 216), tileMsg 3 216, (⟨1, 216, []⟩ : TableStaging), zeros 216, by and_intros <;> first | decide +kernel | rfl | (unfold arrives; decide +kernel) | (unfold authorised; decide +kernel)⟩

theorem wit_viewMessages_1 : ∃ (s : State) (u : State) (m : Msg) (v : Nat) (x : View) (g : _), (m.bytes.length = 88) ∧
    (m.field 4 1 = v) ∧
    (v < 32) ∧
    (s.viewAt v = x) ∧
    (m.field 5 1 = x.genNo) ∧
    (u = (s.takeMsg m).takeSequence m) ∧
    (arrives s m 0x20 88) ∧
    (authorised s m 2) ∧
    (g = s.stagedView v) ∧
    (x.between = false) ∧
    (g.windowOk = true) ∧
    (∀ c ∈ u.viewChecks v g, c.1 = false) :=
  ⟨{ served (chalkMsg 0x20 [31, 0, 0, 0]) with par := { values := [(viewId 31 4, 16), (viewId 31 5, 16)] } }, (({ served (chalkMsg 0x20 [31, 0, 0, 0]) with par := { values := [(viewId 31 4, 16), (viewId 31 5, 16)] } }).takeMsg (chalkMsg 0x20 [31, 0, 0, 0])).takeSequence (chalkMsg 0x20 [31, 0, 0, 0]), chalkMsg 0x20 [31, 0, 0, 0], 31, ({} : View), ({ served (chalkMsg 0x20 [31, 0, 0, 0]) with par := { values := [(viewId 31 4, 16), (viewId 31 5, 16)] } }).stagedView (31), by and_intros <;> first | decide +kernel | rfl | (unfold arrives; decide +kernel) | (unfold authorised; decide +kernel)⟩

theorem wit_viewMessages_1_b : ∃ (s : State) (u : State) (m : Msg) (v : Nat) (x : View) (g : _), (m.bytes.length = 88) ∧
    (m.field 4 1 = v) ∧
    (v < 32) ∧
    (s.viewAt v = x) ∧
    (m.field 5 1 = x.genNo) ∧
    (u = (s.takeMsg m).takeSequence m) ∧
    (arrives s m 0x20 88) ∧
    (authorised s m 2) ∧
    (g = s.stagedView v) ∧
    (x.between = false) ∧
    (g.windowOk = true) ∧
    (∀ c ∈ u.viewChecks v g, c.1 = false) :=
  ⟨withView { served (chalkMsg 0x20 [31, 1, 0, 0]) with par := { values := [(viewId 31 4, 16), (viewId 31 5, 16)] } } { state := .running, genNo := 1, gen := { width := 16, height := 8 } }, ((withView { served (chalkMsg 0x20 [31, 1, 0, 0]) with par := { values := [(viewId 31 4, 16), (viewId 31 5, 16)] } } { state := .running, genNo := 1, gen := { width := 16, height := 8 } }).takeMsg (chalkMsg 0x20 [31, 1, 0, 0])).takeSequence (chalkMsg 0x20 [31, 1, 0, 0]), chalkMsg 0x20 [31, 1, 0, 0], 31, ({ state := .running, genNo := 1, gen := { width := 16, height := 8 } } : View), (withView { served (chalkMsg 0x20 [31, 1, 0, 0]) with par := { values := [(viewId 31 4, 16), (viewId 31 5, 16)] } } { state := .running, genNo := 1, gen := { width := 16, height := 8 } }).stagedView (31), by and_intros <;> first | decide +kernel | rfl | (unfold arrives; decide +kernel) | (unfold authorised; decide +kernel)⟩

theorem wit_viewMessages_2 : ∃ (s : State) (u : State) (m : Msg) (v : Nat) (x : View), (m.bytes.length = 88) ∧
    (m.field 4 1 = v) ∧
    (v < 32) ∧
    (s.viewAt v = x) ∧
    (m.field 5 1 = x.genNo) ∧
    (u = (s.takeMsg m).takeSequence m) ∧
    (arrives s m 0x21 88) ∧
    (authorised s m 1) ∧
    (x.state = .idle) ∧
    (x.genNo ≠ 0) ∧
    (∀ c ∈ u.viewChecks v x.gen, c.1 = false) :=
  ⟨withView (served (chalkMsg 0x21 [31, 1, 0, 0])) { genNo := 1, gen := { width := 16, height := 8 } }, ((withView (served (chalkMsg 0x21 [31, 1, 0, 0])) { genNo := 1, gen := { width := 16, height := 8 } }).takeMsg (chalkMsg 0x21 [31, 1, 0, 0])).takeSequence (chalkMsg 0x21 [31, 1, 0, 0]), chalkMsg 0x21 [31, 1, 0, 0], 31, ({ genNo := 1, gen := { width := 16, height := 8 } } : View), by and_intros <;> first | decide +kernel | rfl | (unfold arrives; decide +kernel) | (unfold authorised; decide +kernel)⟩

theorem wit_viewMessages_3 : ∃ (s : State) (u : State) (m : Msg) (v : Nat) (x : View), (m.bytes.length = 88) ∧
    (m.field 4 1 = v) ∧
    (v < 32) ∧
    (s.viewAt v = x) ∧
    (m.field 5 1 = x.genNo) ∧
    (u = (s.takeMsg m).takeSequence m) ∧
    (arrives s m 0x22 88) ∧
    (authorised s m 1) ∧
    (x.state = .running ∨ x.state = .starting) :=
  ⟨{ viewing with ctl := (served (chalkMsg 0x22 [0, 1, 0, 0])).ctl, ets := { captures := [shot 0] } }, (({ viewing with ctl := (served (chalkMsg 0x22 [0, 1, 0, 0])).ctl, ets := { captures := [shot 0] } }).takeMsg (chalkMsg 0x22 [0, 1, 0, 0])).takeSequence (chalkMsg 0x22 [0, 1, 0, 0]), chalkMsg 0x22 [0, 1, 0, 0], 0, viewing.viewAt 0, by and_intros <;> first | decide +kernel | rfl | (unfold arrives; decide +kernel) | (unfold authorised; decide +kernel)⟩

theorem wit_ledgerMessages_1 : ∃ (s : State) (m : Msg), (arrives s m 0x41 84) ∧
    (authorised s m 3) ∧
    (s.mayEndEpoch = true) ∧
    (s.fus.epochSteps ≠ 1024) :=
  ⟨{ served epochMsg with fus := makerFuses 2, role := { maker := rec1 key0 } }, epochMsg, by and_intros <;> first | decide +kernel | rfl | (unfold arrives; decide +kernel) | (unfold authorised; decide +kernel)⟩

theorem wit_ledgerMessages_2 : ∃ (s : State) (m : Msg), (arrives s m 0x41 84) ∧
    (authorised s m 3) ∧
    (s.mayEndEpoch = false) :=
  ⟨served (chalkMsg 0x41 []), chalkMsg 0x41 [], by and_intros <;> first | decide +kernel | rfl | (unfold arrives; decide +kernel) | (unfold authorised; decide +kernel)⟩

theorem wit_ledgerMessages_3 : ∃ (s : State) (m : Msg) (l : _) (n : _), (arrives s m 0x31 92) ∧
    (authorised s m 1) ∧
    (s.signs = true) ∧
    (m.field 8 2 = n) ∧
    (1 ≤ n) ∧
    (n ≤ 64) ∧
    (l = namedFrom (m.field 4 4) n) ∧
    (∀ q ∈ l, s.present q = true ∧ bitOf (leAt 3 1 (s.entryAt q)) 1 = false ∧
        entryValid (s.entryAt q) = true) ∧
    (s.sea.resign.length + n ≤ 64) :=
  ⟨{ served resignMsg with fus := ledgered.fus, role := { operators := [(0, rec1 (some (slot0 key0)))] }, led := ledgered.led, nvs := { mem := nvWrite [] (slotAddr 9 + 104) (leBytes 4 3609133615) } }, resignMsg, ([9] : List Word), 1, by and_intros <;> first | (intro q h; cases List.mem_singleton.mp h; decide +kernel) | decide +kernel | rfl | (unfold arrives; decide +kernel) | (unfold authorised; decide +kernel)⟩

theorem wit_keyMessages_1 : ∃ (s : State) (m : Msg) (q : _), (arrives s m 0x60 120) ∧
    (authorised s m 2) ∧
    (q = m.field 5 1) ∧
    (m.field 4 1 = 1 ∧ q < 16 ∨ m.field 4 1 = 2 ∧ q < 4) ∧
    (m.field 4 1 < m.role) ∧
    (s.fus.lifecycle = 1 ∨ s.fus.lifecycle = 2) ∧
    (s.keyOf (m.field 4 1) q = none) ∧
    ((edDecode (m.part 8 32)).isSome = true) ∧
    (¬ m.part 8 32 ∈ s.keysHeld) :=
  ⟨{ served enrolMsg with fus := ledgered.fus, role := { installers := [(0, rec1 (some (slot0 key0)))] } }, enrolMsg, 3, by and_intros <;> first | decide +kernel | rfl | (unfold arrives; decide +kernel) | (unfold authorised; decide +kernel)⟩

theorem wit_keyMessages_2 : ∃ (s : State) (m : Msg) (q : _) (n : _), (arrives s m 0x61 88) ∧
    (authorised s m 2) ∧
    (q = m.field 5 1) ∧
    (m.field 4 1 = 1 ∧ q < 16 ∨ m.field 4 1 = 2 ∧ q < 4) ∧
    (m.field 4 1 < m.role) ∧
    (s.fus.lifecycle = 1 ∨ s.fus.lifecycle = 2) ∧
    ((s.keyOf (m.field 4 1) q).isSome = true) ∧
    (n = s.revSteps (m.field 4 1)) ∧
    (s.rst.decided = none ∨ 64 ≤ n) :=
  ⟨{ served revokeMsg with fus := ledgered.fus, role := { installers := [(0, rec1 (some (slot0 key0)))], operators := [(3, rec1 (some (slot0 key1)))] } }, revokeMsg, 3, 0, by and_intros <;> first | decide +kernel | rfl | (unfold arrives; decide +kernel) | (unfold authorised; decide +kernel)⟩

theorem wit_keyMessages_4 : ∃ (s : State) (m : Msg) (key : _) (c : _), (arrives s m 0x04 212) ∧
    (s.led.epochState = .idle) ∧
    (m.field 0 1 = 3) ∧
    (c = m.part 4 192) ∧
    (s.makerKey = some key) ∧
    (s.fus.lifecycle = 1) ∧
    (s.identityInForce = true) ∧
    (s.fus.retireIdentity = false) ∧
    (s.certMine c = true) ∧
    (edVerify key (c.take 128) (c.drop 128) = true) := by
  cases h : Config.monochrome
  · exact ⟨{ served (certMsg false) with fus := makerFuses 1, role := { maker := rec1 key0 } }, certMsg false, key0, (certMsg false).part 4 192, by
      and_intros <;> first | decide +kernel | (unfold arrives; decide +kernel) | (unfold State.certMine devRev; rw [h]; decide +kernel) | rfl⟩
  · exact ⟨{ served (certMsg true) with fus := makerFuses 1, role := { maker := rec1 key0 } }, certMsg true, key0, (certMsg true).part 4 192, by
      and_intros <;> first | decide +kernel | (unfold arrives; decide +kernel) | (unfold State.certMine devRev; rw [h]; decide +kernel) | rfl⟩

theorem wit_keyMessages_5 : ∃ (s : State) (m : Msg), (arrives s m 0x81 124) ∧
    (authorised s m 3) ∧
    (m.field 4 1 = 5) ∧
    (s.fus.tasks = []) ∧
    (s.fus.lifecycle ≠ 3) ∧
    (s.fus.locked 2 = true) ∧
    (sha512 (m.part 12 32) = s.fus.wordBytes 32 16) :=
  ⟨{ served (chalkMsg 0x81 ([5] ++ zeros 7 ++ key0)) with fus := makerFuses 0 }, chalkMsg 0x81 ([5] ++ zeros 7 ++ key0), by and_intros <;> first | decide +kernel | rfl | (unfold arrives; decide +kernel) | (unfold authorised; decide +kernel)⟩

theorem wit_firmwareMessages_1 : ∃ (s : State) (m : Msg) (o : _) (n : _) (part : _), (m.inBand = false) ∧
    (arrives s m 0x70 104) ∧
    (authorised s m 2) ∧
    (m.field 8 4 = o) ∧
    (m.field 12 4 = n) ∧
    (part = nvBytes s.ctl.bulk 0 n) ∧
    (1 ≤ n) ∧
    (n ≤ 32768) ∧
    (n % 4096 = 0) ∧
    (m.fwLast = false) ∧
    (m.fwFirst = false) ∧
    (s.fw.update = .loading) ∧
    (o = s.fw.staged.length) ∧
    (o + n ≤ s.fw.total) ∧
    (s.rst.decided = none) ∧
    (s.nvs.blocks = []) :=
  ⟨{ sideServed (⟨(chalkMsg 0x70 ([0, 0, 0, 0] ++ leBytes 4 0 ++ leBytes 4 4096 ++ leBytes 4 8192 ++ zeros 4)).bytes, false⟩ : Msg) with fw := { total := 8192, status := rec1 ⟨.loading, none⟩ } }, (⟨(chalkMsg 0x70 ([0, 0, 0, 0] ++ leBytes 4 0 ++ leBytes 4 4096 ++ leBytes 4 8192 ++ zeros 4)).bytes, false⟩ : Msg), 0, 4096, nvBytes ({ sideServed (⟨(chalkMsg 0x70 ([0, 0, 0, 0] ++ leBytes 4 0 ++ leBytes 4 4096 ++ leBytes 4 8192 ++ zeros 4)).bytes, false⟩ : Msg) with fw := { total := 8192, status := rec1 ⟨.loading, none⟩ } }).ctl.bulk 0 (4096), by and_intros <;> first | decide +kernel | rfl | (unfold arrives; decide +kernel) | (unfold authorised; decide +kernel)⟩

theorem wit_firmwareMessages_3 : ∃ (s : State) (m : Msg) (n : _) (b : _) (e : _), (m.inBand = false) ∧
    (arrives s m 0x70 104) ∧
    (authorised s m 2) ∧
    (m.field 8 4 = s.fw.staged.length) ∧
    (m.field 12 4 = n) ∧
    (n ≤ 32768) ∧
    (m.fwLast = true) ∧
    (m.fwFirst = false) ∧
    (s.fw.update = .loading) ∧
    (s.fw.staged.length + n = s.fw.total) ∧
    (b = s.fw.staged ++ nvBytes s.ctl.bulk 0 n) ∧
    (e = s.imageCheck b) ∧
    (e ≠ 0) :=
  ⟨{ sideServed (⟨(chalkMsg 0x70 ([2, 0, 0, 0] ++ leBytes 4 0 ++ leBytes 4 400 ++ leBytes 4 400 ++ zeros 4)).bytes, false⟩ : Msg) with fw := { total := 400, status := rec1 ⟨.loading, none⟩ } }, (⟨(chalkMsg 0x70 ([2, 0, 0, 0] ++ leBytes 4 0 ++ leBytes 4 400 ++ leBytes 4 400 ++ zeros 4)).bytes, false⟩ : Msg), 400, zeros 400, 1, by and_intros <;> first | decide +kernel | rfl | (unfold arrives; decide +kernel) | (unfold authorised; decide +kernel)⟩

theorem wit_firmwareMessages_4 : ∃ (s : State) (m : Msg) (x : _) (slot : _), (m.inBand = false) ∧
    (arrives s m 0x71 92) ∧
    (authorised s m 2) ∧
    (s.fw.loaded = some x) ∧
    (s.fw.update = .loaded) ∧
    (s.viewsIdle = true) ∧
    (slot = 1 - s.fw.record.active) ∧
    (m.field 4 1 = slot) ∧
    (m.field 8 4 = x.version.toNat) :=
  ⟨{ sideServed (⟨(chalkMsg 0x71 ([1, 0, 0, 0] ++ leBytes 4 5)).bytes, false⟩ : Msg) with fw := { status := rec1 ⟨.loaded, some ⟨5, 0, zeros 64⟩⟩ } }, (⟨(chalkMsg 0x71 ([1, 0, 0, 0] ++ leBytes 4 5)).bytes, false⟩ : Msg), (⟨5, 0, zeros 64⟩ : LoadedImage), 1, by and_intros <;> first | decide +kernel | rfl | (unfold arrives; decide +kernel) | (unfold authorised; decide +kernel)⟩

theorem wit_fuseMessages_1 : ∃ (s : State) (m : Msg) (w : _) (g : _), (authorised s m 3) ∧
    (s.fus.tasks = []) ∧
    (s.rst.decided = none) ∧
    (s.closing = false) ∧
    (arrives s m 0x81 124) ∧
    (m.field 4 1 = 1) ∧
    (m.field 6 2 = w) ∧
    (w < 256) ∧
    (groupOf w = some g) ∧
    (groupWritable s.fus.lifecycle g = true) ∧
    (g ≠ 3) ∧
    (g ≠ 4) ∧
    (s.fus.group g = .blank ∨ s.fus.group g = .open_) ∧
    (s.fus.word w = (.blank, 0)) ∧
    (w ≠ (groupWords g).2.2) :=
  ⟨served (chalkMsg 0x81 ([1, 0] ++ leBytes 2 128 ++ leBytes 4 1 ++ zeros 32)), chalkMsg 0x81 ([1, 0] ++ leBytes 2 128 ++ leBytes 4 1 ++ zeros 32), 128, 6, by and_intros <;> first | decide +kernel | rfl | (unfold authorised; decide +kernel) | (unfold arrives; decide +kernel)⟩

theorem wit_fuseMessages_2 : ∃ (s : State) (m : Msg) (g : _), (authorised s m 3) ∧
    (s.fus.tasks = []) ∧
    (s.rst.decided = none) ∧
    (s.closing = false) ∧
    (arrives s m 0x81 124) ∧
    (m.field 4 1 = 2) ∧
    (m.field 5 1 = g) ∧
    (g < 8) ∧
    (groupWritable s.fus.lifecycle g = true) ∧
    (g ≠ 3) ∧
    (g ≠ 4) ∧
    (s.fus.group g = .blank ∨ s.fus.group g = .open_) ∧
    (s.fus.dataTorn g = false) :=
  ⟨served (chalkMsg 0x81 ([2, 7] ++ zeros 38)), chalkMsg 0x81 ([2, 7] ++ zeros 38), 7, by and_intros <;> first | decide +kernel | rfl | (unfold authorised; decide +kernel) | (unfold arrives; decide +kernel)⟩

theorem wit_fuseMessages_3 : ∃ (s : State) (m : Msg) (g : _), (authorised s m 3) ∧
    (s.fus.tasks = []) ∧
    (s.rst.decided = none) ∧
    (s.closing = false) ∧
    (arrives s m 0x81 124) ∧
    (m.field 4 1 = 3) ∧
    (m.field 5 1 = g) ∧
    (g < 8) ∧
    (groupWritable s.fus.lifecycle g = true) ∧
    (g ≠ 3) ∧
    (g ≠ 4) ∧
    (s.fus.group g = .complete) :=
  ⟨{ served (chalkMsg 0x81 ([3, 6] ++ zeros 38)) with fus := { latWords := reads [(128, 274877906951), (131, 482994102272)] } }, chalkMsg 0x81 ([3, 6] ++ zeros 38), 6, by and_intros <;> first | decide +kernel | rfl | (unfold authorised; decide +kernel) | (unfold arrives; decide +kernel)⟩

theorem wit_fuseMessages_4 : ∃ (s : State) (m : Msg) (entropy : Bytes) (b : _), (authorised s m 3) ∧
    (s.fus.tasks = []) ∧
    (s.rst.decided = none) ∧
    (s.closing = false) ∧
    (entropy.length = 64) ∧
    (arrives s m 0x81 124) ∧
    (m.field 4 1 = 4) ∧
    (s.freeBank = some b) :=
  ⟨{ served identityMsg with fus := makerFuses 1, role := { maker := rec1 key0 } }, identityMsg, zeros 64, 1, by and_intros <;> first | decide +kernel | rfl | (unfold authorised; decide +kernel) | (unfold arrives; decide +kernel)⟩

theorem wit_fuseMessages_5 : ∃ (s : State) (m : Msg) (first : _) (n : _), (authorised s m 3) ∧
    (s.fus.tasks = []) ∧
    (s.rst.decided = none) ∧
    (s.closing = false) ∧
    (arrives s m 0x82 90) ∧
    (m.field 4 1 = 0) ∧
    (m.field 6 2 = first) ∧
    (m.field 8 2 = n) ∧
    (1 ≤ n) ∧
    (n ≤ 256) ∧
    (first + n ≤ 256) :=
  ⟨{ served (chalkMsg 0x82 ([0, 0] ++ leBytes 2 128 ++ leBytes 2 4)) with fus := { latWords := reads [(128, 274877906951), (131, 482994102272)] } }, chalkMsg 0x82 ([0, 0] ++ leBytes 2 128 ++ leBytes 2 4), 128, 4, by and_intros <;> first | decide +kernel | rfl | (unfold authorised; decide +kernel) | (unfold arrives; decide +kernel)⟩

theorem wit_lifecycleMessages_1 : ∃ (s : State) (m : Msg) (n : _), (authorised s m 3) ∧
    (arrives s m 0x83 88) ∧
    (m.field 4 1 = n + 1) ∧
    (s.fus.lifecycle = n) ∧
    (n < 3) ∧
    (s.viewsIdle = true) ∧
    (s.fus.tasks = []) ∧
    (s.mayAdvance = true) ∧
    (s.rst.decided = none) ∧
    (s.closing = false) :=
  ⟨{ served (chalkMsg 0x83 [1, 0, 0, 0]) with fus := { latWords := reads ([(0, 274877906951), (15, 482993010870), (16, 274877906951), (31, 482993010870)] ++ makerWords), latUnits := [(1283, ⟨7, 7, 7⟩), (1284, ⟨7, 7, 7⟩), (1285, ⟨7, 7, 7⟩)] }, role := { maker := rec1 key0 } }, chalkMsg 0x83 [1, 0, 0, 0], 0, by and_intros <;> first | decide +kernel | rfl | (unfold authorised; decide +kernel) | (unfold arrives; decide +kernel)⟩

theorem wit_lifecycleMessages_2 : ∃ (s : State) (m : Msg), (authorised s m 3) ∧
    (arrives s m 0x84 84) ∧
    (s.fus.debug = false) ∧
    (s.fus.lifecycle = 2 → s.fus.debugPolicy = true) :=
  ⟨served (chalkMsg 0x84 []), chalkMsg 0x84 [], by and_intros <;> first | decide +kernel | rfl | (unfold authorised; decide +kernel) | (unfold arrives; decide +kernel)⟩

theorem wit_lifecycleMessages_3 : ∃ (s : State) (m : Msg), (authorised s m 3) ∧
    (arrives s m 0x85 84) ∧
    (s.fus.debug = true) :=
  ⟨{ served (chalkMsg 0x85 []) with fus := { debug := true } }, chalkMsg 0x85 [], by and_intros <;> first | decide +kernel | rfl | (unfold authorised; decide +kernel) | (unfold arrives; decide +kernel)⟩

theorem wit_pinControl_1_1 : ∃ (s : State) (m : Msg) (q : Nat) (x : Shade) (y : Shade), (arrives s m 0x91 120) ∧
    (authorised s m 2) ∧
    (m.field 4 1 = q) ∧
    (q < 4) ∧
    (s.shadeAt q = x) ∧
    (m.field 5 1 = x.gen) ∧
    (m.field 6 1 = 6 ∨ m.noValues = true) ∧
    (m.field 6 1 = 1 ∨ m.field 6 1 = 4 ∨ m.noWindow = true) ∧
    (s.runnable m = true) ∧
    (y = {
        state := if x.state = .idle then .idle else .halted
        change := some .start
        gen := nextGen x.gen
        first := m.field 9 1
        length := m.field 10 1
        entry := m.field 8 1
        pc := m.field 8 1
        cycle := m.field 12 2
        next := s.clk.ticks + 1 }) ∧
    (m.field 6 1 = 1) ∧
    (shadeNow x = .idle) :=
  ⟨pinned (pinMsg 1 1 4 0) { state := .idle }, pinMsg 1 1 4 0, 1, ({ state := .idle , gen := 3 } : Shade), ({ state := .idle, change := some .start, gen := 4, first := 0, length := 1, entry := 0, pc := 0, cycle := 4, next := (pinned (pinMsg 1 1 4 0) { state := .idle }).clk.ticks + 1 } : Shade), by and_intros <;> first | decide +kernel | rfl | (unfold arrives; decide +kernel) | (unfold authorised; decide +kernel)⟩

theorem wit_pinControl_1_2 : ∃ (s : State) (m : Msg) (q : Nat) (x : Shade) (y : Shade), (arrives s m 0x91 120) ∧
    (authorised s m 2) ∧
    (m.field 4 1 = q) ∧
    (q < 4) ∧
    (s.shadeAt q = x) ∧
    (m.field 5 1 = x.gen) ∧
    (m.field 6 1 = 6 ∨ m.noValues = true) ∧
    (m.field 6 1 = 1 ∨ m.field 6 1 = 4 ∨ m.noWindow = true) ∧
    (s.runnable m = true) ∧
    (y = {
        state := if x.state = .idle then .idle else .halted
        change := some .start
        gen := nextGen x.gen
        first := m.field 9 1
        length := m.field 10 1
        entry := m.field 8 1
        pc := m.field 8 1
        cycle := m.field 12 2
        next := s.clk.ticks + 1 }) ∧
    (m.field 6 1 = 4) ∧
    (shadeNow x = .halted) :=
  ⟨pinned (pinMsg 4 1 4 0) { state := .halted, changed := true }, pinMsg 4 1 4 0, 1, ({ state := .halted, changed := true , gen := 3 } : Shade), ({ state := .halted, change := some .start, gen := 4, first := 0, length := 1, entry := 0, pc := 0, cycle := 4, next := (pinned (pinMsg 4 1 4 0) { state := .halted, changed := true }).clk.ticks + 1 } : Shade), by and_intros <;> first | decide +kernel | rfl | (unfold arrives; decide +kernel) | (unfold authorised; decide +kernel)⟩

theorem wit_pinControl_1_2_b : ∃ (s : State) (m : Msg) (q : Nat) (x : Shade) (y : Shade), (arrives s m 0x91 120) ∧
    (authorised s m 2) ∧
    (m.field 4 1 = q) ∧
    (q < 4) ∧
    (s.shadeAt q = x) ∧
    (m.field 5 1 = x.gen) ∧
    (m.field 6 1 = 6 ∨ m.noValues = true) ∧
    (m.field 6 1 = 1 ∨ m.field 6 1 = 4 ∨ m.noWindow = true) ∧
    (s.runnable m = true) ∧
    (y = {
        state := if x.state = .idle then .idle else .halted
        change := some .start
        gen := nextGen x.gen
        first := m.field 9 1
        length := m.field 10 1
        entry := m.field 8 1
        pc := m.field 8 1
        cycle := m.field 12 2
        next := s.clk.ticks + 1 }) ∧
    (m.field 6 1 = 4) ∧
    (shadeNow x = .halted) :=
  ⟨pinned (pinMsg 4 1 4 0) { state := .running, change := some .halt }, pinMsg 4 1 4 0, 1, ({ state := .running, change := some .halt , gen := 3 } : Shade), ({ state := .halted, change := some .start, gen := 4, first := 0, length := 1, entry := 0, pc := 0, cycle := 4, next := (pinned (pinMsg 4 1 4 0) { state := .running, change := some .halt }).clk.ticks + 1 } : Shade), by and_intros <;> first | decide +kernel | rfl | (unfold arrives; decide +kernel) | (unfold authorised; decide +kernel)⟩

theorem wit_pinControl_2 : ∃ (s : State) (m : Msg) (q : Nat) (x : Shade), (arrives s m 0x91 120) ∧
    (authorised s m 2) ∧
    (m.field 4 1 = q) ∧
    (q < 4) ∧
    (s.shadeAt q = x) ∧
    (m.field 5 1 = x.gen) ∧
    (m.field 6 1 = 6 ∨ m.noValues = true) ∧
    (m.field 6 1 = 1 ∨ m.field 6 1 = 4 ∨ m.noWindow = true) ∧
    (m.field 6 1 = 2) ∧
    (shadeNow x = .running) :=
  ⟨pinned (pinMsg 2 0 0 0) { state := .running, length := 1 }, pinMsg 2 0 0 0, 1, ({ state := .running, length := 1 , gen := 3 } : Shade), by and_intros <;> first | decide +kernel | rfl | (unfold arrives; decide +kernel) | (unfold authorised; decide +kernel)⟩

theorem wit_pinControl_3 : ∃ (s : State) (m : Msg) (q : Nat) (x : Shade), (arrives s m 0x91 120) ∧
    (authorised s m 2) ∧
    (m.field 4 1 = q) ∧
    (q < 4) ∧
    (s.shadeAt q = x) ∧
    (m.field 5 1 = x.gen) ∧
    (m.field 6 1 = 6 ∨ m.noValues = true) ∧
    (m.field 6 1 = 1 ∨ m.field 6 1 = 4 ∨ m.noWindow = true) ∧
    (m.field 6 1 = 3) ∧
    (x.state = .halted) ∧
    (x.change = none) ∧
    (x.changed = false) :=
  ⟨pinned (pinMsg 3 0 0 0) { state := .halted, length := 1 }, pinMsg 3 0 0 0, 1, ({ state := .halted, length := 1 , gen := 3 } : Shade), by and_intros <;> first | decide +kernel | rfl | (unfold arrives; decide +kernel) | (unfold authorised; decide +kernel)⟩

theorem wit_pinControl_4 : ∃ (s : State) (m : Msg) (q : Nat) (x : Shade), (arrives s m 0x91 120) ∧
    (authorised s m 2) ∧
    (m.field 4 1 = q) ∧
    (q < 4) ∧
    (s.shadeAt q = x) ∧
    (m.field 5 1 = x.gen) ∧
    (m.field 6 1 = 6 ∨ m.noValues = true) ∧
    (m.field 6 1 = 1 ∨ m.field 6 1 = 4 ∨ m.noWindow = true) ∧
    (m.field 6 1 = 5) ∧
    (shadeNow x ≠ .idle) ∧
    (canonFrom (.pad .released) 0 s.pin.latch = true) :=
  ⟨pinned (pinMsg 5 0 0 0) { state := .running, length := 1 }, pinMsg 5 0 0 0, 1, ({ state := .running, length := 1 , gen := 3 } : Shade), by and_intros <;> first | decide +kernel | rfl | (unfold arrives; decide +kernel) | (unfold authorised; decide +kernel)⟩

theorem wit_pinControl_5 : ∃ (s : State) (m : Msg) (q : Nat) (x : Shade) (n : _), (arrives s m 0x91 120) ∧
    (authorised s m 2) ∧
    (m.field 4 1 = q) ∧
    (q < 4) ∧
    (s.shadeAt q = x) ∧
    (m.field 5 1 = x.gen) ∧
    (m.field 6 1 = 6 ∨ m.noValues = true) ∧
    (m.field 6 1 = 1 ∨ m.field 6 1 = 4 ∨ m.noWindow = true) ∧
    (m.field 6 1 = 6) ∧
    (m.fifoCount = n) ∧
    (1 ≤ n) ∧
    (n ≤ 4) ∧
    (shadeNow x ≠ .idle) ∧
    (x.changed = false) ∧
    (x.inFifo.length + n ≤ 4) :=
  ⟨pinned (pinMsg 6 0 0 3) { state := .running, inFifo := [1] }, pinMsg 6 0 0 3, 1, ({ state := .running, inFifo := [1] , gen := 3 } : Shade), 3, by and_intros <;> first | decide +kernel | rfl | (unfold arrives; decide +kernel) | (unfold authorised; decide +kernel)⟩

theorem wit_pinControl_6 : ∃ (s : State) (m : Msg) (q : Nat) (x : Shade) (n : _), (arrives s m 0x91 120) ∧
    (authorised s m 2) ∧
    (m.field 4 1 = q) ∧
    (q < 4) ∧
    (s.shadeAt q = x) ∧
    (m.field 5 1 = x.gen) ∧
    (m.field 6 1 = 6 ∨ m.noValues = true) ∧
    (m.field 6 1 = 1 ∨ m.field 6 1 = 4 ∨ m.noWindow = true) ∧
    (m.field 6 1 = 6) ∧
    (m.fifoCount = n) ∧
    (1 ≤ n) ∧
    (n ≤ 4) ∧
    (shadeNow x ≠ .idle) ∧
    (x.changed = false) ∧
    (4 < x.inFifo.length + n) :=
  ⟨pinned (pinMsg 6 0 0 4) { state := .running, inFifo := [1] }, pinMsg 6 0 0 4, 1, ({ state := .running, inFifo := [1] , gen := 3 } : Shade), 4, by and_intros <;> first | decide +kernel | rfl | (unfold arrives; decide +kernel) | (unfold authorised; decide +kernel)⟩

theorem wit_pinControl_7 : ∃ (s : State) (m : Msg) (q : Nat) (x : Shade), (arrives s m 0x91 120) ∧
    (authorised s m 2) ∧
    (m.field 4 1 = q) ∧
    (q < 4) ∧
    (s.shadeAt q = x) ∧
    (m.field 5 1 = x.gen) ∧
    (m.field 6 1 = 6 ∨ m.noValues = true) ∧
    (m.field 6 1 = 1 ∨ m.field 6 1 = 4 ∨ m.noWindow = true) ∧
    (m.field 6 1 = 7) ∧
    (x.changed = false) :=
  ⟨pinned (pinMsg 7 0 0 0) { state := .idle, outFifo := [5] }, pinMsg 7 0 0 0, 1, ({ state := .idle, outFifo := [5] , gen := 3 } : Shade), by and_intros <;> first | decide +kernel | rfl | (unfold arrives; decide +kernel) | (unfold authorised; decide +kernel)⟩

theorem wit_pinControl_8_1 : ∃ (s : State) (m : Msg) (q : Nat) (x : Shade) (n : _), (arrives s m 0x91 120) ∧
    (authorised s m 2) ∧
    (m.field 4 1 = q) ∧
    (q < 4) ∧
    (s.shadeAt q = x) ∧
    (m.field 5 1 = x.gen) ∧
    (m.field 6 1 = 6 ∨ m.noValues = true) ∧
    (m.field 6 1 = 1 ∨ m.field 6 1 = 4 ∨ m.noWindow = true) ∧
    (x.changed = true) ∧
    (m.field 6 1 = 6) ∧
    (m.fifoCount = n) ∧
    (1 ≤ n) ∧
    (n ≤ 4) :=
  ⟨pinned (pinMsg 6 0 0 3) { state := .halted, changed := true }, pinMsg 6 0 0 3, 1, ({ state := .halted, changed := true , gen := 3 } : Shade), 3, by and_intros <;> first | decide +kernel | rfl | (unfold arrives; decide +kernel) | (unfold authorised; decide +kernel)⟩

theorem wit_pinControl_8_2 : ∃ (s : State) (m : Msg) (q : Nat) (x : Shade), (arrives s m 0x91 120) ∧
    (authorised s m 2) ∧
    (m.field 4 1 = q) ∧
    (q < 4) ∧
    (s.shadeAt q = x) ∧
    (m.field 5 1 = x.gen) ∧
    (m.field 6 1 = 6 ∨ m.noValues = true) ∧
    (m.field 6 1 = 1 ∨ m.field 6 1 = 4 ∨ m.noWindow = true) ∧
    (x.changed = true) ∧
    (m.field 6 1 = 7) :=
  ⟨pinned (pinMsg 7 0 0 0) { state := .halted, changed := true, outFifo := [5] }, pinMsg 7 0 0 0, 1, ({ state := .halted, changed := true, outFifo := [5] , gen := 3 } : Shade), by and_intros <;> first | decide +kernel | rfl | (unfold arrives; decide +kernel) | (unfold authorised; decide +kernel)⟩

theorem wit_pinControl_5_b : ∃ (s : State) (m : Msg) (q : Nat) (x : Shade) (n : _), (arrives s m 0x91 120) ∧
    (authorised s m 2) ∧
    (m.field 4 1 = q) ∧
    (q < 4) ∧
    (s.shadeAt q = x) ∧
    (m.field 5 1 = x.gen) ∧
    (m.field 6 1 = 6 ∨ m.noValues = true) ∧
    (m.field 6 1 = 1 ∨ m.field 6 1 = 4 ∨ m.noWindow = true) ∧
    (m.field 6 1 = 6) ∧
    (m.fifoCount = n) ∧
    (1 ≤ n) ∧
    (n ≤ 4) ∧
    (shadeNow x ≠ .idle) ∧
    (x.changed = false) ∧
    (x.inFifo.length + n ≤ 4) :=
  ⟨pinned (pinMsg 6 0 0 1) { state := .running, waiting := some (.pull none) }, pinMsg 6 0 0 1, 1, ({ state := .running, waiting := some (.pull none) , gen := 3 } : Shade), 1, by and_intros <;> first | decide +kernel | rfl | (unfold arrives; decide +kernel) | (unfold authorised; decide +kernel)⟩

theorem wit_pinControl_7_b : ∃ (s : State) (m : Msg) (q : Nat) (x : Shade), (arrives s m 0x91 120) ∧
    (authorised s m 2) ∧
    (m.field 4 1 = q) ∧
    (q < 4) ∧
    (s.shadeAt q = x) ∧
    (m.field 5 1 = x.gen) ∧
    (m.field 6 1 = 6 ∨ m.noValues = true) ∧
    (m.field 6 1 = 1 ∨ m.field 6 1 = 4 ∨ m.noWindow = true) ∧
    (m.field 6 1 = 7) ∧
    (x.changed = false) :=
  ⟨pinned (pinMsg 7 0 0 0) { state := .running, waiting := some (.push none), outFifo := [1, 2, 3, 4] }, pinMsg 7 0 0 0, 1, ({ state := .running, waiting := some (.push none), outFifo := [1, 2, 3, 4] , gen := 3 } : Shade), by and_intros <;> first | decide +kernel | rfl | (unfold arrives; decide +kernel) | (unfold authorised; decide +kernel)⟩

theorem wit_pinLoad_1 : ∃ (s : State) (m : Msg) (first : Nat) (n : Nat) (e : _), (authorised s m 2) ∧
    (m.pinShape = true) ∧
    (m.pinItems = true) ∧
    (m.field 8 2 = first) ∧
    (m.field 10 2 = n) ∧
    (m.field 4 1 = 1) ∧
    (m.field 5 1 = e) ∧
    (e < 8) ∧
    (arrives s m 0x90 (96 + n)) ∧
    ((s.tintAt e).running = false) ∧
    (canonFrom 0 0 s.pin.tables = true) :=
  ⟨served (chalkMsg 0x90 ([1, 7, 0, 0] ++ leBytes 2 254 ++ leBytes 2 2 ++ zeros 4 ++ [63, 5])), chalkMsg 0x90 ([1, 7, 0, 0] ++ leBytes 2 254 ++ leBytes 2 2 ++ zeros 4 ++ [63, 5]), 254, 2, 7, by and_intros <;> first | decide +kernel | rfl | (unfold authorised; decide +kernel) | (unfold arrives; decide +kernel)⟩

theorem wit_pinLoad_2 : ∃ (s : State) (m : Msg) (first : Nat) (n : Nat) (q : _), (authorised s m 2) ∧
    (m.pinShape = true) ∧
    (m.pinItems = true) ∧
    (m.field 8 2 = first) ∧
    (m.field 10 2 = n) ∧
    (m.field 4 1 = 2) ∧
    (m.field 5 1 = q) ∧
    (q < 4) ∧
    (m.field 6 1 = (s.shadeAt q).gen) ∧
    (arrives s m 0x90 (96 + 4 * n)) ∧
    (∀ i, i < 4 → shadeNow (s.shadeAt i) ≠ .running ∨ m.meets (s.shadeAt i) = false) ∧
    (canonFrom 0 0 s.pin.store = true) :=
  ⟨pinned (chalkMsg 0x90 ([2, 1, 3, 0] ++ leBytes 2 47 ++ leBytes 2 1 ++ zeros 4 ++ leBytes 4 0x600000)) { state := .halted, first := 40, length := 8 }, chalkMsg 0x90 ([2, 1, 3, 0] ++ leBytes 2 47 ++ leBytes 2 1 ++ zeros 4 ++ leBytes 4 0x600000), 47, 1, 1, by and_intros <;> first | decide +kernel | rfl | (unfold authorised; decide +kernel) | (unfold arrives; decide +kernel)⟩

theorem wit_calibrateMessages_1_1 : ∃ (s : State) (m : Msg) (c : Nat) (p : Nat), (arrives s m 0xA0 92) ∧
    (authorised s m 2) ∧
    (m.field 4 1 = c) ∧
    (c = 4 ∨ c = 11 ∨ c = 12) ∧
    (m.field 5 1 = p) ∧
    (s.hkc.cal = none) ∧
    (p = 1) :=
  ⟨served (chalkMsg 0xA0 ([11, 1, 0, 0] ++ leBytes 4 0)), chalkMsg 0xA0 ([11, 1, 0, 0] ++ leBytes 4 0), 11, 1, by and_intros <;> first | decide +kernel | rfl | (unfold arrives; decide +kernel) | (unfold authorised; decide +kernel)⟩

theorem wit_calibrateMessages_1_2 : ∃ (s : State) (m : Msg) (c : Nat) (p : Nat) (z : _), (arrives s m 0xA0 92) ∧
    (authorised s m 2) ∧
    (m.field 4 1 = c) ∧
    (c = 4 ∨ c = 11 ∨ c = 12) ∧
    (m.field 5 1 = p) ∧
    (s.hkc.cal = none) ∧
    (p = 2) ∧
    (spFind c s.hkc.zeros = some z) ∧
    (s.stored 0x2801 = 0) ∧
    (4194304 ≤ m.calTarget) ∧
    (m.calTarget ≤ 16777215) :=
  ⟨{ served (chalkMsg 0xA0 ([11, 2, 0, 0] ++ leBytes 4 1000000)) with hkc := { zeros := [(11, 5)] } }, chalkMsg 0xA0 ([11, 2, 0, 0] ++ leBytes 4 1000000), 11, 2, 5, by and_intros <;> first | decide +kernel | rfl | (unfold arrives; decide +kernel) | (unfold authorised; decide +kernel)⟩

theorem wit_calibrateMessages_1_3 : ∃ (s : State) (m : Msg) (c : Nat) (p : Nat), (arrives s m 0xA0 92) ∧
    (authorised s m 2) ∧
    (m.field 4 1 = c) ∧
    (c = 4 ∨ c = 11 ∨ c = 12) ∧
    (m.field 5 1 = p) ∧
    (s.hkc.cal = none) ∧
    (p = 3) :=
  ⟨served (chalkMsg 0xA0 ([11, 3, 0, 0] ++ leBytes 4 0)), chalkMsg 0xA0 ([11, 3, 0, 0] ++ leBytes 4 0), 11, 3, by and_intros <;> first | decide +kernel | rfl | (unfold arrives; decide +kernel) | (unfold authorised; decide +kernel)⟩

theorem wit_calibrateMessages_3 : ∃ (s : State) (m : Msg) (c : Nat) (p : Nat) (k : HkcCal) (i : Instr), (arrives s m 0xA0 92) ∧
    (authorised s m 2) ∧
    (m.field 4 1 = c) ∧
    (c = 4 ∨ c = 11 ∨ c = 12) ∧
    (m.field 5 1 = p) ∧
    (s.hkc.cal = some k) ∧
    (p = 1 ∧ i = .hkcCalZero ∨ p = 3 ∧ i = .hkcCalClear ∨
        p = 2 ∧ i = .hkcCalFull ∧ 4194304 ≤ m.calTarget ∧ m.calTarget ≤ 16777215) :=
  ⟨{ served (chalkMsg 0xA0 ([11, 3, 0, 0] ++ leBytes 4 0)) with hkc := { cal := some ⟨4, 1, 0, 0, false, 0⟩ } }, chalkMsg 0xA0 ([11, 3, 0, 0] ++ leBytes 4 0), 11, 3, (⟨4, 1, 0, 0, false, 0⟩ : HkcCal), .hkcCalClear, by and_intros <;> first | decide +kernel | rfl | (unfold arrives; decide +kernel) | (unfold authorised; decide +kernel)⟩

theorem wit_StepKeepsStores : ∃ s t : State, (StoresCanonical s) ∧
    (step s = .next t) :=
  ⟨State.reset, after (step (State.reset)), by and_intros <;> first | decide +kernel | rfl | (unfold StoresCanonical; decide +kernel)⟩

theorem wit_StepKeepsPins : ∃ s t : State, (PinsInForm s) ∧
    (step s = .next t) :=
  ⟨State.reset, after (step (State.reset)), by and_intros <;> first | decide +kernel | rfl | (unfold PinsInForm; decide +kernel)⟩

theorem wit_VermilionStays : ∃ (c : Instr) (s : State) (t : State), (mayReset c = false) ∧
    (exec c s = .next t) :=
  ⟨.idcode, { up with sea := { vermilion := 4 } }, after (exec .idcode ({ up with sea := { vermilion := 4 } })), by and_intros <;> first | decide +kernel | rfl⟩

theorem wit_resetReleased_1 : ∃ s : State, (s.pwr.released = false) ∧
    (s.rst.cause = .por) ∧
    (s.pwr.pfailLow = false) ∧
    (s.pad.rstN = true) ∧
    (s.pwr.goodSince + 125000 ≤ s.clk.ticks) ∧
    (s.pwr.rstSince + 125000 ≤ s.clk.ticks) :=
  ⟨{ State.reset with clk := { State.reset.clk with ticks := 125000 } }, by decide +kernel⟩

theorem wit_resetReleased_1_b : ∃ s : State, (s.pwr.released = false) ∧
    (s.rst.cause = .por) ∧
    (s.pwr.pfailLow = false) ∧
    (s.pad.rstN = true) ∧
    (s.pwr.goodSince + 125000 ≤ s.clk.ticks) ∧
    (s.pwr.rstSince + 125000 ≤ s.clk.ticks) :=
  ⟨{ State.reset with clk := { State.reset.clk with ticks := 125000 }, fus := { State.reset.fus with units := [(0, ⟨7, 7, 7⟩)] }, pad := { State.reset.pad with testMode := true } }, by decide +kernel⟩

theorem wit_resetReleased_2 : ∃ s : State, (s.clk.ticks < s.pwr.goodSince + 125000 ∨ s.clk.ticks < s.pwr.rstSince + 125000) :=
  ⟨{ State.reset with clk := { State.reset.clk with ticks := 124999 } }, by decide +kernel⟩

theorem wit_registerWrites_5 : ∃ (s : State) (a : BitVec 16), (s.pwr.released = true) ∧
    (a.toNat % 4 ≠ 0) ∧
    (a.toNat < 0x1000) :=
  ⟨up, 2, by decide +kernel⟩

theorem wit_closingRails_2 : ∃ (s : State) (c : Commit) (rest : List Commit) (b : Bytes), (s.pwr.run.isSome = true) ∧
    (s.commitDue = true) ∧
    (s.nvs.queue = c :: rest) ∧
    (b.length = 128) ∧
    (Memory.wf s.nvs.mem = true) :=
  ⟨{ (asked { kind := .seg, view := 3, subject := zeros 88 }) with pwr := (inRun run1).pwr }, { kind := .seg, view := 3, subject := zeros 88 }, [], List.replicate 128 9, by decide +kernel⟩

theorem wit_closingRails_6 : ∃ s : State, (s.nvs.held = true) ∧
    (s.powered 41 = true) :=
  ⟨{ inRun run1 with nvs := { held := true } }, by decide +kernel⟩

theorem wit_bootStages_1 : ∃ (s : State) (env : BootEnv), (s.pwr.released = true) ∧
    (s.pwr.state = .boot) ∧
    (env.testMode = true) ∧
    (s.fus.latched.lcSteps ≠ 0) ∧
    (s.pwr.bootStage = 0) :=
  ⟨{ up with pwr := { up.pwr with state := .boot, bootEntryDone := false, bootStage := 0 }, ctl := {}, fus := { units := [(0, ⟨7, 7, 7⟩)] } }, { env1 with testMode := true }, by decide +kernel⟩

theorem wit_bootStages_2 : ∃ (s : State) (env : BootEnv), (s.pwr.released = true) ∧
    (s.pwr.state = .boot) ∧
    (s.rst.decided = none) ∧
    (s.pwr.bootStage = 0 → env.testMode = false ∨ s.fus.latched.lcSteps = 0) ∧
    (s.pwr.bootStage ≠ 0 → s.pad.testMode = false ∨ s.fus.latched.lcSteps = 0) ∧
    (s.pwr.bootStage ≤ env.stage) ∧
    (env.stage < 6) :=
  ⟨{ up with pwr := { up.pwr with state := .boot, bootEntryDone := false, bootStage := 0 }, ctl := {} }, { env1 with stage := 5 }, by decide +kernel⟩

theorem wit_bootStages_2_b : ∃ (s : State) (env : BootEnv), (s.pwr.released = true) ∧
    (s.pwr.state = .boot) ∧
    (s.rst.decided = none) ∧
    (s.pwr.bootStage = 0 → env.testMode = false ∨ s.fus.latched.lcSteps = 0) ∧
    (s.pwr.bootStage ≠ 0 → s.pad.testMode = false ∨ s.fus.latched.lcSteps = 0) ∧
    (s.pwr.bootStage ≤ env.stage) ∧
    (env.stage < 6) :=
  ⟨{ up with pwr := { up.pwr with state := .boot, bootEntryDone := false, bootStage := 0 }, ctl := {} }, { env1 with failed := [.maker, .pll 3], decay := [(5, 7)], stage := 4 }, by decide +kernel⟩

theorem wit_fullBoot : ∃ (s : State) (env : BootEnv), (s.pwr.released = true) ∧
    (s.pwr.state = .boot) ∧
    (s.rst.decided = none) ∧
    (env.testMode = false ∨ s.fus.latched.lcSteps = 0) ∧
    (s.pwr.run = none) ∧
    (s.pwr.bootStage = 0) ∧
    (env.stage = 6) ∧
    (s.fus.tasks = []) ∧
    (s.fus.latched.lcSteps = 3 → ∀ u, u ∈ [1291, 1292] → s.fus.booted.unitSet u = true) :=
  ⟨{ up with pwr := { up.pwr with state := .boot, bootEntryDone := false, bootStage := 0 }, ctl := {} }, env1, by decide +kernel⟩

theorem wit_fullBoot_b : ∃ (s : State) (env : BootEnv), (s.pwr.released = true) ∧
    (s.pwr.state = .boot) ∧
    (s.rst.decided = none) ∧
    (env.testMode = false ∨ s.fus.latched.lcSteps = 0) ∧
    (s.pwr.run = none) ∧
    (s.pwr.bootStage = 0) ∧
    (env.stage = 6) ∧
    (s.fus.tasks = []) ∧
    (s.fus.latched.lcSteps = 3 → ∀ u, u ∈ [1291, 1292] → s.fus.booted.unitSet u = true) :=
  ⟨{ up with pwr := { up.pwr with state := .boot, bootEntryDone := false, bootStage := 0 }, ctl := {}, fus := { units := [(0, ⟨7, 7, 7⟩)] } }, { env1 with failed := [.maker, .ctl], engines := 5 }, by decide +kernel⟩

theorem wit_paceVerdict : ∃ (s : State) (rings : List PaceRing) (l : List Nat), (s.powered 55 = true) ∧
    (rings.length = 10) ∧
    (l = rings.map (fun r => if s.fus.locked 5 then r.scaled else r.scaled * 90 / 100)) ∧
    (∀ r, r ∈ rings → ringFits r (s.fus.locked 5) = true) :=
  ⟨up, List.replicate 10 (⟨1000000000000, 1000000000000⟩ : PaceRing), (List.replicate 10 (⟨1000000000000, 1000000000000⟩ : PaceRing)).map (fun r => if (up).fus.locked 5 then r.scaled else r.scaled * 90 / 100), by decide +kernel⟩

theorem wit_paceVerdict_b : ∃ (s : State) (rings : List PaceRing) (l : List Nat), (s.powered 55 = true) ∧
    (rings.length = 10) ∧
    (l = rings.map (fun r => if s.fus.locked 5 then r.scaled else r.scaled * 90 / 100)) ∧
    (∀ r, r ∈ rings → ringFits r (s.fus.locked 5) = true) :=
  ⟨viewing, List.replicate 10 (⟨0, 0⟩ : PaceRing), (List.replicate 10 (⟨0, 0⟩ : PaceRing)).map (fun r => if (viewing).fus.locked 5 then r.scaled else r.scaled * 90 / 100), by decide +kernel⟩

theorem wit_paceVerdict_c : ∃ (s : State) (rings : List PaceRing) (l : List Nat), (s.powered 55 = true) ∧
    (rings.length = 10) ∧
    (l = rings.map (fun r => if s.fus.locked 5 then r.scaled else r.scaled * 90 / 100)) ∧
    (∀ r, r ∈ rings → ringFits r (s.fus.locked 5) = true) :=
  ⟨{ viewing with pace := { withhold := true } }, List.replicate 10 (⟨10000000000000000, 10000000000000000⟩ : PaceRing), (List.replicate 10 (⟨10000000000000000, 10000000000000000⟩ : PaceRing)).map (fun r => if ({ viewing with pace := { withhold := true } }).fus.locked 5 then r.scaled else r.scaled * 90 / 100), by decide +kernel⟩

theorem wit_triggerAlone : ∃ s : State, (s.stored 0x1006 = 1) ∧
    (s.syncArm.triggerDue = true) ∧
    (s.runningViews = []) ∧
    (s.stored 0x100E = 0) :=
  ⟨{ triggered with view := up.view, par := { values := [(0x1006, 1), (0x100E, 0)] } }, by decide +kernel⟩

theorem wit_triggerCoalesced : ∃ s u : State, (u = s.applyAe) ∧
    (s.syncArm.triggerDue = true) ∧
    (s.pwr.run = none) ∧
    (s.powered 55 = true) ∧
    (s.runningViews ≠ []) ∧
    ((∃ c, s.ets.last = some c ∧ s.clk.ticks + 68 < c.close + 3) ∨
      u.nodesFree s.pix.quadReady.toNat (u.stored 0x1007) (s.clk.ticks + 68) (u.uses s.pix.quadReady.toNat) = false) ∧
    (s.stored 0x1006 = 1) :=
  ⟨{ triggered with ets := { captures := [shot 0], last := some (shot 0) } }, ({ triggered with ets := { captures := [shot 0], last := some (shot 0) } }).applyAe, by and_intros <;> first | decide +kernel | rfl⟩

theorem wit_triggerTaken : ∃ s u : State, (u = s.applyAe) ∧
    (s.syncArm.triggerDue = true) ∧
    (s.stored 0x1006 = 1) ∧
    (s.pwr.run = none) ∧
    (s.powered 55 = true) ∧
    (s.runningViews ≠ []) ∧
    (∀ c, s.ets.last = some c → c.close + 3 ≤ s.clk.ticks + 68) ∧
    (u.nodesFree s.pix.quadReady.toNat (u.stored 0x1007) (s.clk.ticks + 68) (u.uses s.pix.quadReady.toNat) = true ∨
      (s.ets.last = none ∧ s.ets.captures = [])) :=
  ⟨triggered, (triggered).applyAe, by and_intros <;> first | decide +kernel | rfl⟩

theorem wit_triggerTaken_b : ∃ s u : State, (u = s.applyAe) ∧
    (s.syncArm.triggerDue = true) ∧
    (s.stored 0x1006 = 1) ∧
    (s.pwr.run = none) ∧
    (s.powered 55 = true) ∧
    (s.runningViews ≠ []) ∧
    (∀ c, s.ets.last = some c → c.close + 3 ≤ s.clk.ticks + 68) ∧
    (u.nodesFree s.pix.quadReady.toNat (u.stored 0x1007) (s.clk.ticks + 68) (u.uses s.pix.quadReady.toNat) = true ∨
      (s.ets.last = none ∧ s.ets.captures = [])) :=
  ⟨{ triggered with pace := { withhold := true } }, ({ triggered with pace := { withhold := true } }).applyAe, by and_intros <;> first | decide +kernel | rfl⟩

theorem wit_blockOperation_1 : ∃ (s : State) (j : BlockJob) (rest : List BlockJob), (s.powered 41 = true) ∧
    (s.nvs.blocks = j :: rest) ∧
    (s.pwr.run = none) ∧
    (Memory.wf s.nvs.mem = true) ∧
    (s.pending = []) ∧
    (s.nvs.journal.state ≠ .apply) :=
  ⟨{ up with nvs := { mem := nvWrite [] 4090 (List.replicate 20 7), blocks := [{ dest := 4096 }] } }, { dest := 4096 }, [], by decide +kernel⟩

theorem wit_blockOperation_2 : ∃ (s : State) (j : BlockJob) (rest : List BlockJob), (s.powered 41 = true) ∧
    (s.nvs.blocks = j :: rest) ∧
    (s.pwr.run = none) ∧
    (Memory.wf s.nvs.mem = true) ∧
    (s.pending = []) ∧
    (s.nvs.journal.state = .apply) :=
  ⟨{ up with nvs := { blocks := [{ dest := 4096 }], journals := rec1 { state := .apply } } }, { dest := 4096 }, [], by decide +kernel⟩

theorem wit_blockOperation_3 : ∃ (s : State) (j : BlockJob) (rest : List BlockJob), (s.powered 41 = true) ∧
    (s.nvs.blocks = j :: rest) ∧
    (s.pwr.run = none) ∧
    (Memory.wf s.nvs.mem = true) :=
  ⟨{ up with nvs := { mem := nvWrite [] 4090 (List.replicate 20 7), blocks := [{ dest := 4096 }, { dest := 8192 }] } }, { dest := 4096 }, [{ dest := 8192 }], by decide +kernel⟩

theorem wit_blockOperation_3_b : ∃ (s : State) (j : BlockJob) (rest : List BlockJob), (s.powered 41 = true) ∧
    (s.nvs.blocks = j :: rest) ∧
    (s.pwr.run = none) ∧
    (Memory.wf s.nvs.mem = true) :=
  ⟨{ ledgered with nvs := { blocks := [{ dest := 4096 * 4095, done := .ledgerCleared }], transitions := rec1 (some (⟨3, 4, 9, List.replicate 64 5, zeros 64⟩ : Transition)) } }, { dest := 4096 * 4095, done := .ledgerCleared }, [], by decide +kernel⟩

theorem wit_blockOperation_3_c : ∃ (s : State) (j : BlockJob) (rest : List BlockJob), (s.powered 41 = true) ∧
    (s.nvs.blocks = j :: rest) ∧
    (s.pwr.run = none) ∧
    (Memory.wf s.nvs.mem = true) :=
  ⟨{ up with nvs := { blocks := [{ dest := 0x1000000, bytes := some [1, 2], done := .imageLoaded }] } }, { dest := 0x1000000, bytes := some [1, 2], done := .imageLoaded }, [], by decide +kernel⟩

theorem wit_blockOperation_3_d : ∃ (s : State) (j : BlockJob) (rest : List BlockJob), (s.powered 41 = true) ∧
    (s.nvs.blocks = j :: rest) ∧
    (s.pwr.run = none) ∧
    (Memory.wf s.nvs.mem = true) :=
  ⟨{ up with nvs := { blocks := [{ dest := 0x18C0000, bytes := some [1, 0, 2, 0, 3, 4, 0, 0], done := .tableDone 2 (sha512 [1, 0, 2, 0, 3, 4, 0, 0]) 8 }] } }, { dest := 0x18C0000, bytes := some [1, 0, 2, 0, 3, 4, 0, 0], done := .tableDone 2 (sha512 [1, 0, 2, 0, 3, 4, 0, 0]) 8 }, [], by decide +kernel⟩

theorem wit_windowCounts : ∃ (s : State) (k : Nat) (w : WdgSlot), (s.pending = []) ∧
    (spFind k s.wdg.slots = some w) :=
  ⟨{ up with wdg := { slots := [(15, { strict := false, window := 125000, remaining := 1, checkins := 0 })] } }, 15, ({ strict := false, window := 125000, remaining := 1, checkins := 0 } : WdgSlot), by decide +kernel⟩

theorem wit_windowExpiry : ∃ (s : State) (k : Nat) (w : WdgSlot), (spFind k s.wdg.slots = some w) ∧
    (w.expired = true) ∧
    (s.pwr.run = none) ∧
    (s.pwr.released = true) ∧
    (s.pwr.state ≠ .offHold) ∧
    (s.rst.decided = none) :=
  ⟨{ up with wdg := { slots := [(15, {  strict := false, window := 125000, remaining := 1, checkins := 0 , expired := true })] } }, 15, ({  strict := false, window := 125000, remaining := 1, checkins := 0 , expired := true } : WdgSlot), by decide +kernel⟩

theorem wit_monitorCounts_1 : ∃ (s : State) (m : Nat), (s.pending = []) ∧
    (m < 64) :=
  ⟨{ up with nvs := { blocks := [{ dest := 4096 }] } }, 45, by decide +kernel⟩

theorem wit_monitorCounts_2 : ∃ s : State, (canonFrom 0 0 s.wdg.counts = true) :=
  ⟨{ up with wdg := { counts := [(45, 7)] } }, by decide +kernel⟩

theorem wit_monitorTrip : ∃ (s : State) (m : Nat), (s.monitorDue m = true) ∧
    (s.pwr.run = none) ∧
    (s.pwr.state ≠ .offHold) ∧
    (s.rst.decided = none) ∧
    (s.rst.sealFaultAt = none) :=
  ⟨{ up with nvs := { blocks := [{ dest := 4096 }] }, wdg := { counts := [(45, 125000)] } }, 45, by decide +kernel⟩

theorem wit_monitorTrip_b : ∃ (s : State) (m : Nat), (s.monitorDue m = true) ∧
    (s.pwr.run = none) ∧
    (s.pwr.state ≠ .offHold) ∧
    (s.rst.decided = none) ∧
    (s.rst.sealFaultAt = none) :=
  ⟨{ framed { frame0 with packed := 2, strips := [⟨3, [zeros 24, zeros 24], 1⟩] } with wdg := { counts := [(6, 12500)] } }, 6, by decide +kernel⟩

theorem wit_ResetExecuted_1 : ∃ (s : State) (d : Decided), (s.rst.decided = some d) ∧
    (s.pwr.run = none) ∧
    (d.ended = none) ∧
    (s.clk.ticks < d.tick + longestHold d.held) :=
  ⟨{ up with rst := { decided := some { decided0 with tick := 124999999 } } }, { decided0 with tick := 124999999 }, by decide +kernel⟩

theorem wit_ResetExecuted_2 : ∃ (s : State) (d : Decided) (k : _), (s.rst.decided = some d) ∧
    (s.pwr.run = none) ∧
    (d.ended = some k ∨ (d.ended = none ∧ d.tick + longestHold d.held ≤ s.clk.ticks ∧ k = d.tick + longestHold d.held)) :=
  ⟨{ up with rst := { decided := some { decided0 with ended := some 124950000 } } }, { decided0 with ended := some 124950000 }, 124950000, by decide +kernel⟩

theorem wit_otpProgrammed_1 : ∃ (s : State) (r : OtpReads) (k : OtpTask) (rest : List OtpTask), (s.powered 53 = true) ∧
    (s.fus.tasks = k :: rest) ∧
    (s.fus.pulseFits k r = false) :=
  ⟨{ up with fus := { tasks := [⟨.word 3, 39, .single⟩] } }, ⟨1, 1, 1⟩, (⟨.word 3, 39, .single⟩ : OtpTask), [], by decide +kernel⟩

theorem wit_otpProgrammed_2 : ∃ (s : State) (r : OtpReads) (k : OtpTask) (rest : List OtpTask), (s.powered 53 = true) ∧
    (s.fus.tasks = k :: rest) ∧
    (s.fus.pulseFits k r = true) :=
  ⟨{ up with fus := { tasks := [⟨.word 3, 39, .single⟩] } }, ⟨39, 39, 39⟩, (⟨.word 3, 39, .single⟩ : OtpTask), [], by decide +kernel⟩

theorem wit_otpProgrammed_3 : ∃ (s : State) (r : OtpReads) (k : OtpTask) (rest : List OtpTask), (s.powered 53 = true) ∧
    (s.fus.tasks = k :: rest) ∧
    (s.fus.pulseFits k r = true) ∧
    (s.pwr.run = none) :=
  ⟨{ up with fus := { tasks := [⟨.word 3, 39, .single⟩] } }, ⟨39, 39, 39⟩, (⟨.word 3, 39, .single⟩ : OtpTask), [], by decide +kernel⟩

theorem wit_otpProgrammed_3_b : ∃ (s : State) (r : OtpReads) (k : OtpTask) (rest : List OtpTask), (s.powered 53 = true) ∧
    (s.fus.tasks = k :: rest) ∧
    (s.fus.pulseFits k r = true) ∧
    (s.pwr.run = none) :=
  ⟨{ up with fus := { tasks := [⟨.unit 3, 7, .reinforce⟩] } }, ⟨7, 7, 7⟩, ⟨.unit 3, 7, .reinforce⟩, [], by decide +kernel⟩

theorem wit_storedLockTimesOut : ∃ (s : State) (x : Synth) (temp : Int), (s.powered 48 = true) ∧
    (s.clk.refclk = true) ∧
    (s.synthLocked x = false) ∧
    (s.synthSearching x = false) ∧
    (s.storedResult x temp = true) :=
  ⟨{ up with clk := { up.clk with fwdReload := true } }, .forward, 25, by decide +kernel⟩

theorem wit_lanePllUnlocks_1 : ∃ s : State, (s.synthLocked .forward = true ∨ s.synthLocked .return = true) :=
  ⟨{ up with clk := { up.clk with retLocked := true } }, by decide +kernel⟩

theorem wit_lanePllUnlocks_2 : ∃ (s : State) (x : Synth), (s.unlocking = some x) :=
  ⟨{ up with clk := { up.clk with retLocked := true } }, .return, by decide +kernel⟩

theorem wit_lanePllUnlocks_3 : ∃ (s : State) (x : Synth), (s.powered 48 = true) ∧
    (s.unlocking = some x) ∧
    (s.pwr.run = none) ∧
    (x = .forward ∨ s.stored 0x1C08 ≠ 2) :=
  ⟨{ upLnk { state := .up } with clk := { up.clk with fwdLocked := true } }, .forward, by decide +kernel⟩

theorem wit_lanePllUnlocks_3_b : ∃ (s : State) (x : Synth), (s.powered 48 = true) ∧
    (s.unlocking = some x) ∧
    (s.pwr.run = none) ∧
    (x = .forward ∨ s.stored 0x1C08 ≠ 2) :=
  ⟨{ upLnk { state := .downWait, lol2 := true } with clk := { up.clk with retLocked := true } }, .return, by decide +kernel⟩

theorem wit_ppsEdges_1 : ∃ (s : State) (m : Word64) (falling : Bool) (active : Nat), (falling ≠ decide (s.stored 0x0C05 = 1) ∨ active < 100 ∨ (m - s.clk.time).toInt < -2 ∨ 9 < (m - s.clk.time).toInt) :=
  ⟨{ up with par := { values := [(0x0C04, 1)] } }, 1000000000, false, 99, by decide +kernel⟩

theorem wit_ppsEdges_2_4 : ∃ (s : State) (m : Word64) (falling : Bool) (active : Nat) (p : _), (s.stored 0x0C04 ≠ 0) ∧
    (s.powered 49 = true) ∧
    (falling = decide (s.stored 0x0C05 = 1)) ∧
    (100 ≤ active) ∧
    (-2 ≤ (m - s.clk.time).toInt) ∧
    ((m - s.clk.time).toInt ≤ 9) ∧
    (s.edgeAccepted m = true) ∧
    (s.clk.pendingSet = some p) ∧
    (s.stepsAllowed = false) :=
  ⟨{ up with par := { values := [(0x0C04, 1)] }, led := { ready := true }, fus := { lifecycle := 2, bank := 1 }, pwr := { up.pwr with state := .closing, run := some run1 }, clk := { up.clk with pendingSet := some ⟨5000000000, 1, 7, {}, false⟩ } }, 1000000000, false, 100, (⟨5000000000, 1, 7, {}, false⟩ : PendingSet), by decide +kernel⟩

theorem wit_timeRuns_2_2 : ∃ (s : State) (p : _), (s.clk.pendingSet = some p) ∧
    (p.edge = true) :=
  ⟨{ up with clk := { up.clk with pendingSet := some ⟨5, 0, 7, {}, true⟩ } }, (⟨5, 0, 7, {}, true⟩ : PendingSet), by decide +kernel⟩

theorem wit_timeRuns_1 : ∃ s : State, (s.pending = []) ∧
    (s.clk.rotationDebt < 1953125) :=
  ⟨{ up with clk := { up.clk with rate := -3 } }, by decide +kernel⟩

theorem wit_transmitOrder_1 : ∃ s : State, (s.markerDue = true) :=
  ⟨upLnk { state := .up, lanesUsed := 1, framer := { lanes := [{ count := 255 }] } }, by decide +kernel⟩

theorem wit_TestAccessPort_2_7 : ∃ c : BitVec 5, (4 < c.toNat) ∧
    (c.toNat < 0x10 ∨ 0x1E < c.toNat) :=
  ⟨5, by decide +kernel⟩

theorem wit_TestAccessPort_2_7_b : ∃ c : BitVec 5, (4 < c.toNat) ∧
    (c.toNat < 0x10 ∨ 0x1E < c.toNat) :=
  ⟨0x1F, by decide +kernel⟩

theorem wit_TestAccessPort_2_8 : ∃ (s : State) (c : BitVec 5), (0x10 ≤ c.toNat) ∧
    (c.toNat ≤ 0x1E) ∧
    (s.debugOpen = false) :=
  ⟨up, 0x10, by decide +kernel⟩

theorem wit_TestAccessPort_2_9 : ∃ s : State, (s.debugOpen = false) :=
  ⟨up, by decide +kernel⟩

theorem wit_TestAccessPort_2_10 : ∃ s : State, (s.debugOpen = true) ∧
    (s.pwr.run = none) ∧
    (s.pwr.released = true) ∧
    (s.pwr.state ≠ .offHold) ∧
    (s.rst.decided = none) :=
  ⟨{ up with fus := { debug := true } }, by decide +kernel⟩

theorem wit_debugFunctions_1 : ∃ (s : State) (u : State) (c : BitVec 5), (0x10 ≤ c.toNat) ∧
    (c.toNat ≤ 0x1E) ∧
    (s.debugOpen = true) ∧
    (u = { s with tap := { s.tap with ir := c }, pad := { s.pad with trstN := true } }) :=
  ⟨{ up with fus := { debug := true } }, { ({ up with fus := { debug := true } }) with tap := { ({ up with fus := { debug := true } }).tap with ir := 0x1E }, pad := { ({ up with fus := { debug := true } }).pad with trstN := true } }, 0x1E, by and_intros <;> first | decide +kernel | rfl⟩

theorem wit_debugFunctions_2 : ∃ (s : State) (u : State) (c : BitVec 5), (0x10 ≤ c.toNat) ∧
    (c.toNat ≤ 0x1E) ∧
    (s.debugOpen = true) ∧
    (u = { s with tap := { s.tap with ir := c }, pad := { s.pad with trstN := true } }) ∧
    (s.powered 42 = true) :=
  ⟨{ up with fus := { debug := true } }, { ({ up with fus := { debug := true } }) with tap := { ({ up with fus := { debug := true } }).tap with ir := 0x1E }, pad := { ({ up with fus := { debug := true } }).pad with trstN := true } }, 0x1E, by and_intros <;> first | decide +kernel | rfl⟩

theorem wit_debugFunctions_3_1 : ∃ (s : State) (u : State) (c : BitVec 5) (v : _), (0x10 ≤ c.toNat) ∧
    (c.toNat ≤ 0x1E) ∧
    (s.debugOpen = true) ∧
    (u = { s with tap := { s.tap with ir := c }, pad := { s.pad with trstN := true } }) ∧
    (v = { u with wdg := { s.wdg with counts := spErase 60 s.wdg.counts, halted := false, debugMem := [], debugRegs := [] } }) ∧
    (s.lnk.state ≠ .rlAcquire) ∧
    (s.lnk.state ≠ .off) :=
  ⟨{ up with lnk := { state := .hop }, fus := { debug := true }, wdg := { halted := true, debugMem := [(64, some 7)], debugRegs := [(0xE0000200, some 9)] } }, { ({ up with lnk := { state := .hop }, fus := { debug := true }, wdg := { halted := true, debugMem := [(64, some 7)], debugRegs := [(0xE0000200, some 9)] } }) with tap := { ({ up with lnk := { state := .hop }, fus := { debug := true }, wdg := { halted := true, debugMem := [(64, some 7)], debugRegs := [(0xE0000200, some 9)] } }).tap with ir := 0x10 }, pad := { ({ up with lnk := { state := .hop }, fus := { debug := true }, wdg := { halted := true, debugMem := [(64, some 7)], debugRegs := [(0xE0000200, some 9)] } }).pad with trstN := true } }, 0x10, { ({ ({ up with lnk := { state := .hop }, fus := { debug := true }, wdg := { halted := true, debugMem := [(64, some 7)], debugRegs := [(0xE0000200, some 9)] } }) with tap := { ({ up with lnk := { state := .hop }, fus := { debug := true }, wdg := { halted := true, debugMem := [(64, some 7)], debugRegs := [(0xE0000200, some 9)] } }).tap with ir := 0x10 }, pad := { ({ up with lnk := { state := .hop }, fus := { debug := true }, wdg := { halted := true, debugMem := [(64, some 7)], debugRegs := [(0xE0000200, some 9)] } }).pad with trstN := true } }) with wdg := {} }, by and_intros <;> first | decide +kernel | rfl⟩

theorem wit_debugFunctions_3_2 : ∃ (s : State) (u : State) (c : BitVec 5) (v : _), (0x10 ≤ c.toNat) ∧
    (c.toNat ≤ 0x1E) ∧
    (s.debugOpen = true) ∧
    (u = { s with tap := { s.tap with ir := c }, pad := { s.pad with trstN := true } }) ∧
    (v = { u with wdg := { s.wdg with counts := spErase 60 s.wdg.counts, halted := false, debugMem := [], debugRegs := [] } }) ∧
    (s.stored 0x1C00 = 0) :=
  ⟨{ up with par := { values := [(0x1C00, 0)] }, fus := { debug := true }, wdg := { halted := true, debugMem := [(64, some 7)], debugRegs := [(0xE0000200, some 9)] } }, { ({ up with par := { values := [(0x1C00, 0)] }, fus := { debug := true }, wdg := { halted := true, debugMem := [(64, some 7)], debugRegs := [(0xE0000200, some 9)] } }) with tap := { ({ up with par := { values := [(0x1C00, 0)] }, fus := { debug := true }, wdg := { halted := true, debugMem := [(64, some 7)], debugRegs := [(0xE0000200, some 9)] } }).tap with ir := 0x10 }, pad := { ({ up with par := { values := [(0x1C00, 0)] }, fus := { debug := true }, wdg := { halted := true, debugMem := [(64, some 7)], debugRegs := [(0xE0000200, some 9)] } }).pad with trstN := true } }, 0x10, { ({ ({ up with par := { values := [(0x1C00, 0)] }, fus := { debug := true }, wdg := { halted := true, debugMem := [(64, some 7)], debugRegs := [(0xE0000200, some 9)] } }) with tap := { ({ up with par := { values := [(0x1C00, 0)] }, fus := { debug := true }, wdg := { halted := true, debugMem := [(64, some 7)], debugRegs := [(0xE0000200, some 9)] } }).tap with ir := 0x10 }, pad := { ({ up with par := { values := [(0x1C00, 0)] }, fus := { debug := true }, wdg := { halted := true, debugMem := [(64, some 7)], debugRegs := [(0xE0000200, some 9)] } }).pad with trstN := true } }) with wdg := {} }, by and_intros <;> first | decide +kernel | rfl⟩

theorem wit_debugFunctions_3_3 : ∃ (s : State) (u : State) (c : BitVec 5) (v : _), (0x10 ≤ c.toNat) ∧
    (c.toNat ≤ 0x1E) ∧
    (s.debugOpen = true) ∧
    (u = { s with tap := { s.tap with ir := c }, pad := { s.pad with trstN := true } }) ∧
    (v = { u with wdg := { s.wdg with counts := spErase 60 s.wdg.counts, halted := false, debugMem := [], debugRegs := [] } }) ∧
    (s.lnk.state = .rlAcquire ∨ s.lnk.state = .off) :=
  ⟨{ up with fus := { debug := true }, wdg := { halted := true, debugMem := [(64, some 7)], debugRegs := [(0xE0000200, some 9)] } }, { ({ up with fus := { debug := true }, wdg := { halted := true, debugMem := [(64, some 7)], debugRegs := [(0xE0000200, some 9)] } }) with tap := { ({ up with fus := { debug := true }, wdg := { halted := true, debugMem := [(64, some 7)], debugRegs := [(0xE0000200, some 9)] } }).tap with ir := 0x10 }, pad := { ({ up with fus := { debug := true }, wdg := { halted := true, debugMem := [(64, some 7)], debugRegs := [(0xE0000200, some 9)] } }).pad with trstN := true } }, 0x10, { ({ ({ up with fus := { debug := true }, wdg := { halted := true, debugMem := [(64, some 7)], debugRegs := [(0xE0000200, some 9)] } }) with tap := { ({ up with fus := { debug := true }, wdg := { halted := true, debugMem := [(64, some 7)], debugRegs := [(0xE0000200, some 9)] } }).tap with ir := 0x10 }, pad := { ({ up with fus := { debug := true }, wdg := { halted := true, debugMem := [(64, some 7)], debugRegs := [(0xE0000200, some 9)] } }).pad with trstN := true } }) with wdg := {} }, by and_intros <;> first | decide +kernel | rfl⟩

theorem wit_debugFunctions_4 : ∃ (s : State) (u : State) (c : BitVec 5) (act : DebugAct), (0x10 ≤ c.toNat) ∧
    (c.toNat ≤ 0x1E) ∧
    (s.debugOpen = true) ∧
    (u = { s with tap := { s.tap with ir := c }, pad := { s.pad with trstN := true } }) ∧
    (s.wdg.halted = false) ∧
    (act ≠ .halt) ∧
    (act ≠ .resume) :=
  ⟨{ up with fus := { debug := true } }, { ({ up with fus := { debug := true } }) with tap := { ({ up with fus := { debug := true } }).tap with ir := 0x1E }, pad := { ({ up with fus := { debug := true } }).pad with trstN := true } }, 0x1E, .step, by and_intros <;> first | decide +kernel | rfl⟩

theorem wit_debugFunctions_5_1 : ∃ (s : State) (u : State) (c : BitVec 5), (0x10 ≤ c.toNat) ∧
    (c.toNat ≤ 0x1E) ∧
    (s.debugOpen = true) ∧
    (u = { s with tap := { s.tap with ir := c }, pad := { s.pad with trstN := true } }) ∧
    (s.wdg.halted = true) :=
  ⟨{ up with fus := { debug := true }, wdg := { halted := true, debugMem := [(64, some 7)], debugRegs := [(0xE0000200, some 9)] } }, { ({ up with fus := { debug := true }, wdg := { halted := true, debugMem := [(64, some 7)], debugRegs := [(0xE0000200, some 9)] } }) with tap := { ({ up with fus := { debug := true }, wdg := { halted := true, debugMem := [(64, some 7)], debugRegs := [(0xE0000200, some 9)] } }).tap with ir := 0x1E }, pad := { ({ up with fus := { debug := true }, wdg := { halted := true, debugMem := [(64, some 7)], debugRegs := [(0xE0000200, some 9)] } }).pad with trstN := true } }, 0x1E, by and_intros <;> first | decide +kernel | rfl⟩

theorem wit_debugFunctions_5_2 : ∃ (s : State) (u : State) (c : BitVec 5), (0x10 ≤ c.toNat) ∧
    (c.toNat ≤ 0x1E) ∧
    (s.debugOpen = true) ∧
    (u = { s with tap := { s.tap with ir := c }, pad := { s.pad with trstN := true } }) ∧
    (s.wdg.halted = true) :=
  ⟨{ up with fus := { debug := true }, wdg := { halted := true, debugMem := [(64, some 7)], debugRegs := [(0xE0000200, some 9)] } }, { ({ up with fus := { debug := true }, wdg := { halted := true, debugMem := [(64, some 7)], debugRegs := [(0xE0000200, some 9)] } }) with tap := { ({ up with fus := { debug := true }, wdg := { halted := true, debugMem := [(64, some 7)], debugRegs := [(0xE0000200, some 9)] } }).tap with ir := 0x1E }, pad := { ({ up with fus := { debug := true }, wdg := { halted := true, debugMem := [(64, some 7)], debugRegs := [(0xE0000200, some 9)] } }).pad with trstN := true } }, 0x1E, by and_intros <;> first | decide +kernel | rfl⟩

theorem wit_debugFunctions_5_3 : ∃ (s : State) (u : State) (c : BitVec 5) (a : Word) (v : Word), (0x10 ≤ c.toNat) ∧
    (c.toNat ≤ 0x1E) ∧
    (s.debugOpen = true) ∧
    (u = { s with tap := { s.tap with ir := c }, pad := { s.pad with trstN := true } }) ∧
    (s.wdg.halted = true) ∧
    (spGet none a.toNat s.wdg.debugMem = some v) :=
  ⟨{ up with fus := { debug := true }, wdg := { halted := true, debugMem := [(64, some 7)], debugRegs := [(0xE0000200, some 9)] } }, { ({ up with fus := { debug := true }, wdg := { halted := true, debugMem := [(64, some 7)], debugRegs := [(0xE0000200, some 9)] } }) with tap := { ({ up with fus := { debug := true }, wdg := { halted := true, debugMem := [(64, some 7)], debugRegs := [(0xE0000200, some 9)] } }).tap with ir := 0x1E }, pad := { ({ up with fus := { debug := true }, wdg := { halted := true, debugMem := [(64, some 7)], debugRegs := [(0xE0000200, some 9)] } }).pad with trstN := true } }, 0x1E, (64 : Word), (7 : Word), by and_intros <;> first | decide +kernel | rfl⟩

theorem wit_debugFunctions_5_4 : ∃ (s : State) (u : State) (c : BitVec 5) (a : Word), (0x10 ≤ c.toNat) ∧
    (c.toNat ≤ 0x1E) ∧
    (s.debugOpen = true) ∧
    (u = { s with tap := { s.tap with ir := c }, pad := { s.pad with trstN := true } }) ∧
    (s.wdg.halted = true) ∧
    (spGet none a.toNat s.wdg.debugMem = none) :=
  ⟨{ up with fus := { debug := true }, wdg := { halted := true, debugMem := [(64, some 7)], debugRegs := [(0xE0000200, some 9)] } }, { ({ up with fus := { debug := true }, wdg := { halted := true, debugMem := [(64, some 7)], debugRegs := [(0xE0000200, some 9)] } }) with tap := { ({ up with fus := { debug := true }, wdg := { halted := true, debugMem := [(64, some 7)], debugRegs := [(0xE0000200, some 9)] } }).tap with ir := 0x1E }, pad := { ({ up with fus := { debug := true }, wdg := { halted := true, debugMem := [(64, some 7)], debugRegs := [(0xE0000200, some 9)] } }).pad with trstN := true } }, 0x1E, (68 : Word), by and_intros <;> first | decide +kernel | rfl⟩

theorem wit_debugFunctions_5_5 : ∃ (s : State) (u : State) (c : BitVec 5), (0x10 ≤ c.toNat) ∧
    (c.toNat ≤ 0x1E) ∧
    (s.debugOpen = true) ∧
    (u = { s with tap := { s.tap with ir := c }, pad := { s.pad with trstN := true } }) ∧
    (s.wdg.halted = true) :=
  ⟨{ up with fus := { debug := true }, wdg := { halted := true, debugMem := [(64, some 7)], debugRegs := [(0xE0000200, some 9)] } }, { ({ up with fus := { debug := true }, wdg := { halted := true, debugMem := [(64, some 7)], debugRegs := [(0xE0000200, some 9)] } }) with tap := { ({ up with fus := { debug := true }, wdg := { halted := true, debugMem := [(64, some 7)], debugRegs := [(0xE0000200, some 9)] } }).tap with ir := 0x1E }, pad := { ({ up with fus := { debug := true }, wdg := { halted := true, debugMem := [(64, some 7)], debugRegs := [(0xE0000200, some 9)] } }).pad with trstN := true } }, 0x1E, by and_intros <;> first | decide +kernel | rfl⟩

theorem wit_debugFunctions_5_6 : ∃ (s : State) (u : State) (c : BitVec 5), (0x10 ≤ c.toNat) ∧
    (c.toNat ≤ 0x1E) ∧
    (s.debugOpen = true) ∧
    (u = { s with tap := { s.tap with ir := c }, pad := { s.pad with trstN := true } }) ∧
    (s.wdg.halted = true) :=
  ⟨{ up with fus := { debug := true }, wdg := { halted := true, debugMem := [(64, some 7)], debugRegs := [(0xE0000200, some 9)] } }, { ({ up with fus := { debug := true }, wdg := { halted := true, debugMem := [(64, some 7)], debugRegs := [(0xE0000200, some 9)] } }) with tap := { ({ up with fus := { debug := true }, wdg := { halted := true, debugMem := [(64, some 7)], debugRegs := [(0xE0000200, some 9)] } }).tap with ir := 0x1E }, pad := { ({ up with fus := { debug := true }, wdg := { halted := true, debugMem := [(64, some 7)], debugRegs := [(0xE0000200, some 9)] } }).pad with trstN := true } }, 0x1E, by and_intros <;> first | decide +kernel | rfl⟩

theorem wit_debugFunctions_5_7 : ∃ (s : State) (u : State) (c : BitVec 5), (0x10 ≤ c.toNat) ∧
    (c.toNat ≤ 0x1E) ∧
    (s.debugOpen = true) ∧
    (u = { s with tap := { s.tap with ir := c }, pad := { s.pad with trstN := true } }) ∧
    (s.wdg.halted = true) :=
  ⟨{ up with fus := { debug := true }, wdg := { halted := true, debugMem := [(64, some 7)], debugRegs := [(0xE0000200, some 9)] } }, { ({ up with fus := { debug := true }, wdg := { halted := true, debugMem := [(64, some 7)], debugRegs := [(0xE0000200, some 9)] } }) with tap := { ({ up with fus := { debug := true }, wdg := { halted := true, debugMem := [(64, some 7)], debugRegs := [(0xE0000200, some 9)] } }).tap with ir := 0x1E }, pad := { ({ up with fus := { debug := true }, wdg := { halted := true, debugMem := [(64, some 7)], debugRegs := [(0xE0000200, some 9)] } }).pad with trstN := true } }, 0x1E, by and_intros <;> first | decide +kernel | rfl⟩

theorem wit_debugFunctions_5_8 : ∃ (s : State) (u : State) (c : BitVec 5), (0x10 ≤ c.toNat) ∧
    (c.toNat ≤ 0x1E) ∧
    (s.debugOpen = true) ∧
    (u = { s with tap := { s.tap with ir := c }, pad := { s.pad with trstN := true } }) ∧
    (s.wdg.halted = true) :=
  ⟨{ up with fus := { debug := true }, wdg := { halted := true, debugMem := [(64, some 7)], debugRegs := [(0xE0000200, some 9)] } }, { ({ up with fus := { debug := true }, wdg := { halted := true, debugMem := [(64, some 7)], debugRegs := [(0xE0000200, some 9)] } }) with tap := { ({ up with fus := { debug := true }, wdg := { halted := true, debugMem := [(64, some 7)], debugRegs := [(0xE0000200, some 9)] } }).tap with ir := 0x1E }, pad := { ({ up with fus := { debug := true }, wdg := { halted := true, debugMem := [(64, some 7)], debugRegs := [(0xE0000200, some 9)] } }).pad with trstN := true } }, 0x1E, by and_intros <;> first | decide +kernel | rfl⟩

theorem wit_debugFunctions_5_9_1 : ∃ (s : State) (u : State) (c : BitVec 5) (a : Word), (0x10 ≤ c.toNat) ∧
    (c.toNat ≤ 0x1E) ∧
    (s.debugOpen = true) ∧
    (u = { s with tap := { s.tap with ir := c }, pad := { s.pad with trstN := true } }) ∧
    (s.wdg.halted = true) ∧
    (a ≠ 0xE0000100#32) ∧
    (a ≠ 0xE0000104#32) ∧
    (a ≠ 0xE0000108#32) ∧
    (a ≠ 0xE000010C#32) :=
  ⟨{ up with fus := { debug := true }, wdg := { halted := true, debugMem := [(64, some 7)], debugRegs := [(0xE0000200, some 9)] } }, { ({ up with fus := { debug := true }, wdg := { halted := true, debugMem := [(64, some 7)], debugRegs := [(0xE0000200, some 9)] } }) with tap := { ({ up with fus := { debug := true }, wdg := { halted := true, debugMem := [(64, some 7)], debugRegs := [(0xE0000200, some 9)] } }).tap with ir := 0x1E }, pad := { ({ up with fus := { debug := true }, wdg := { halted := true, debugMem := [(64, some 7)], debugRegs := [(0xE0000200, some 9)] } }).pad with trstN := true } }, 0x1E, 0xE0000200, by and_intros <;> first | decide +kernel | rfl⟩

theorem wit_debugFunctions_5_9_2 : ∃ (s : State) (u : State) (c : BitVec 5) (a : Word) (x : _), (0x10 ≤ c.toNat) ∧
    (c.toNat ≤ 0x1E) ∧
    (s.debugOpen = true) ∧
    (u = { s with tap := { s.tap with ir := c }, pad := { s.pad with trstN := true } }) ∧
    (s.wdg.halted = true) ∧
    (a ≠ 0xE0000100#32) ∧
    (a ≠ 0xE0000104#32) ∧
    (a ≠ 0xE0000108#32) ∧
    (a ≠ 0xE000010C#32) ∧
    (spGet none a.toNat s.wdg.debugRegs = some x) :=
  ⟨{ up with fus := { debug := true }, wdg := { halted := true, debugMem := [(64, some 7)], debugRegs := [(0xE0000200, some 9)] } }, { ({ up with fus := { debug := true }, wdg := { halted := true, debugMem := [(64, some 7)], debugRegs := [(0xE0000200, some 9)] } }) with tap := { ({ up with fus := { debug := true }, wdg := { halted := true, debugMem := [(64, some 7)], debugRegs := [(0xE0000200, some 9)] } }).tap with ir := 0x1E }, pad := { ({ up with fus := { debug := true }, wdg := { halted := true, debugMem := [(64, some 7)], debugRegs := [(0xE0000200, some 9)] } }).pad with trstN := true } }, 0x1E, 0xE0000200, (9 : Word), by and_intros <;> first | decide +kernel | rfl⟩

theorem wit_debugFunctions_5_10 : ∃ (s : State) (u : State) (c : BitVec 5), (0x10 ≤ c.toNat) ∧
    (c.toNat ≤ 0x1E) ∧
    (s.debugOpen = true) ∧
    (u = { s with tap := { s.tap with ir := c }, pad := { s.pad with trstN := true } }) ∧
    (s.wdg.halted = true) ∧
    (s.wdg.slots = []) :=
  ⟨{ up with fus := { debug := true }, wdg := { halted := true, debugMem := [(64, some 7)], debugRegs := [(0xE0000200, some 9)] } }, { ({ up with fus := { debug := true }, wdg := { halted := true, debugMem := [(64, some 7)], debugRegs := [(0xE0000200, some 9)] } }) with tap := { ({ up with fus := { debug := true }, wdg := { halted := true, debugMem := [(64, some 7)], debugRegs := [(0xE0000200, some 9)] } }).tap with ir := 0x1E }, pad := { ({ up with fus := { debug := true }, wdg := { halted := true, debugMem := [(64, some 7)], debugRegs := [(0xE0000200, some 9)] } }).pad with trstN := true } }, 0x1E, by and_intros <;> first | decide +kernel | rfl⟩

theorem wit_parameterWrites_1 : ∃ (s : State) (m : Msg) (n : Nat), (1 ≤ n) ∧
    (n ≤ 64) ∧
    (arrives s m 0x12 (88 + 12 * n)) ∧
    (authorised s m 1) ∧
    (m.field 4 2 = n) ∧
    (∃ e ∈ m.entries, leAt 0 2 e = 0x0C02) ∧
    (s.pin.ppsPulse = some s.clk.ticks) :=
  ⟨{ served (chalkMsg 0x12 (leBytes 2 1 ++ zeros 2 ++ leBytes 2 0x0C02 ++ leBytes 2 8 ++ leBytes 8 8)) with pin := { ppsPulse := some 125000000 } }, chalkMsg 0x12 (leBytes 2 1 ++ zeros 2 ++ leBytes 2 0x0C02 ++ leBytes 2 8 ++ leBytes 8 8), 1, by and_intros <;> first | decide +kernel | rfl | (unfold arrives; decide +kernel) | (unfold authorised; decide +kernel)⟩

theorem wit_frameReads_1 : ∃ (a : BitVec 16) (i : Nat), (a.toNat % 4 = 0) ∧
    (a.toNat + 4 * i ≤ 0xFFFC) :=
  ⟨0xFFF0, 3, by decide +kernel⟩

theorem wit_frameReads_2 : ∃ (a : BitVec 16) (i : Nat), (a.toNat % 4 = 0) ∧
    (0xFFFC < a.toNat + 4 * i) :=
  ⟨0xFFF0, 4, by decide +kernel⟩

theorem wit_frameReads_3 : ∃ a : BitVec 16, (a.toNat % 4 = 0) :=
  ⟨0xFFFC, by decide +kernel⟩

theorem wit_frameReads_4 : ∃ a : BitVec 16, (a.toNat % 4 = 0) ∧
    (a.toNat ≤ 0xFF) :=
  ⟨0xFC, by decide +kernel⟩

theorem wit_frameReads_5 : ∃ (s : State) (a : BitVec 16), (a.toNat % 4 = 0) ∧
    (s.ctl.ready = false) ∧
    (0x1000 ≤ a.toNat) :=
  ⟨{ up with ctl := { cmdBox := [(0, 7)] } }, 0x1000, by decide +kernel⟩

theorem wit_frameReads_6 : ∃ (s : State) (a : BitVec 16), (a.toNat % 4 = 0) ∧
    (s.ctl.ready = true) ∧
    (0x1000 ≤ a.toNat) ∧
    (a.toNat ≤ 0x1FFF) :=
  ⟨upCtl { cmdBox := [(4092, 7)], rspBox := [(4093, 8)], ring := [(16383, 5)], bulk := [(32766, 4)] }, 0x1FFC, by decide +kernel⟩

theorem wit_frameReads_7 : ∃ (s : State) (a : BitVec 16), (a.toNat % 4 = 0) ∧
    (s.ctl.ready = true) ∧
    (0x2000 ≤ a.toNat) ∧
    (a.toNat ≤ 0x2FFF) :=
  ⟨upCtl { cmdBox := [(4092, 7)], rspBox := [(4093, 8)], ring := [(16383, 5)], bulk := [(32766, 4)] }, 0x2FFC, by decide +kernel⟩

theorem wit_frameReads_8 : ∃ (s : State) (a : BitVec 16), (a.toNat % 4 = 0) ∧
    (s.ctl.ready = true) ∧
    (0x4000 ≤ a.toNat) ∧
    (a.toNat ≤ 0x7FFF) :=
  ⟨upCtl { cmdBox := [(4092, 7)], rspBox := [(4093, 8)], ring := [(16383, 5)], bulk := [(32766, 4)] }, 0x7FFC, by decide +kernel⟩

theorem wit_frameReads_9 : ∃ (s : State) (a : BitVec 16), (a.toNat % 4 = 0) ∧
    (s.ctl.ready = true) ∧
    (0x8000 ≤ a.toNat) :=
  ⟨upCtl { cmdBox := [(4092, 7)], rspBox := [(4093, 8)], ring := [(16383, 5)], bulk := [(32766, 4)] }, 0xFFFC, by decide +kernel⟩

theorem wit_keyMessages_3 : ∃ (s : State) (m : Msg) (q : _) (n : _), (arrives s m 0x61 88) ∧
    (authorised s m 2) ∧
    (q = m.field 5 1) ∧
    (m.field 4 1 = 1 ∧ q < 16 ∨ m.field 4 1 = 2 ∧ q < 4) ∧
    (m.field 4 1 < m.role) ∧
    (s.fus.lifecycle = 1 ∨ s.fus.lifecycle = 2) ∧
    ((s.keyOf (m.field 4 1) q).isSome = true) ∧
    (n = s.revSteps (m.field 4 1)) ∧
    (n < 64) ∧
    (s.rst.decided.isSome = true) :=
  ⟨{ served revokeMsg with fus := ledgered.fus, rst := { decided := some decided0 }, role := { installers := [(0, rec1 (some (slot0 key0)))], operators := [(3, rec1 (some (slot0 key1)))] } }, revokeMsg, 3, 0, by and_intros <;> first | decide +kernel | rfl | (unfold arrives; decide +kernel) | (unfold authorised; decide +kernel)⟩

theorem wit_firmwareMessages_2 : ∃ (s : State) (m : Msg) (o : _) (n : _) (b : _) (part : _), (m.inBand = false) ∧
    (arrives s m 0x70 104) ∧
    (authorised s m 2) ∧
    (m.field 8 4 = o) ∧
    (m.field 12 4 = n) ∧
    (part = nvBytes s.ctl.bulk 0 n) ∧
    (1 ≤ n) ∧
    (n ≤ 32768) ∧
    (m.fwLast = true) ∧
    (m.fwFirst = false) ∧
    (s.fw.update = .loading) ∧
    (o = s.fw.staged.length) ∧
    (o + n = s.fw.total) ∧
    (s.rst.decided = none) ∧
    (b = s.fw.staged ++ part) ∧
    (s.imageCheck b = 0) :=
  ⟨{ sideServed (⟨(chalkMsg 0x70 ([2, 0, 0, 0] ++ leBytes 4 0 ++ leBytes 4 324 ++ leBytes 4 324 ++ zeros 4)).bytes, false⟩ : Msg) with ctl := { (sideServed (⟨(chalkMsg 0x70 ([2, 0, 0, 0] ++ leBytes 4 0 ++ leBytes 4 324 ++ leBytes 4 324 ++ zeros 4)).bytes, false⟩ : Msg)).ctl with bulk := nvWrite [] 0 image0 }, fw := { total := 324, status := rec1 ⟨.loading, none⟩ } }, (⟨(chalkMsg 0x70 ([2, 0, 0, 0] ++ leBytes 4 0 ++ leBytes 4 324 ++ leBytes 4 324 ++ zeros 4)).bytes, false⟩ : Msg), 0, 324, ({ sideServed (⟨(chalkMsg 0x70 ([2, 0, 0, 0] ++ leBytes 4 0 ++ leBytes 4 324 ++ leBytes 4 324 ++ zeros 4)).bytes, false⟩ : Msg) with ctl := { (sideServed (⟨(chalkMsg 0x70 ([2, 0, 0, 0] ++ leBytes 4 0 ++ leBytes 4 324 ++ leBytes 4 324 ++ zeros 4)).bytes, false⟩ : Msg)).ctl with bulk := nvWrite [] 0 image0 }, fw := { total := 324, status := rec1 ⟨.loading, none⟩ } }).fw.staged ++ nvBytes ({ sideServed (⟨(chalkMsg 0x70 ([2, 0, 0, 0] ++ leBytes 4 0 ++ leBytes 4 324 ++ leBytes 4 324 ++ zeros 4)).bytes, false⟩ : Msg) with ctl := { (sideServed (⟨(chalkMsg 0x70 ([2, 0, 0, 0] ++ leBytes 4 0 ++ leBytes 4 324 ++ leBytes 4 324 ++ zeros 4)).bytes, false⟩ : Msg)).ctl with bulk := nvWrite [] 0 image0 }, fw := { total := 324, status := rec1 ⟨.loading, none⟩ } }).ctl.bulk 0 (324), nvBytes ({ sideServed (⟨(chalkMsg 0x70 ([2, 0, 0, 0] ++ leBytes 4 0 ++ leBytes 4 324 ++ leBytes 4 324 ++ zeros 4)).bytes, false⟩ : Msg) with ctl := { (sideServed (⟨(chalkMsg 0x70 ([2, 0, 0, 0] ++ leBytes 4 0 ++ leBytes 4 324 ++ leBytes 4 324 ++ zeros 4)).bytes, false⟩ : Msg)).ctl with bulk := nvWrite [] 0 image0 }, fw := { total := 324, status := rec1 ⟨.loading, none⟩ } }).ctl.bulk 0 (324), by and_intros <;> first | decide +kernel | rfl | (unfold arrives; decide +kernel) | (unfold authorised; decide +kernel)⟩

theorem wit_responseFollows : ∃ (s : State) (r : Reply) (rest : List Reply), (s.ctl.ready = true) ∧
    (s.pwr.state = .active) ∧
    (s.ctl.replies = r :: rest) ∧
    (r.inBand = false) ∧
    (r.waits = false) ∧
    (s.reg.rspReady = false) :=
  ⟨{ upCtl { replies := [⟨false, [1, 2, 0, 4], false, 1⟩] } with wdg := {} }, ⟨false, [1, 2, 0, 4], false, 1⟩, [], by decide +kernel⟩

theorem wit_responseFollows_b : ∃ (s : State) (r : Reply) (rest : List Reply), (s.ctl.ready = true) ∧
    (s.pwr.state = .active) ∧
    (s.ctl.replies = r :: rest) ∧
    (r.inBand = false) ∧
    (r.waits = false) ∧
    (s.reg.rspReady = false) :=
  ⟨{ upCtl { replies := [⟨false, [1, 2, 0, 4], false, 2⟩] } with wdg := {}, rst := { after := some .supCmd } }, ⟨false, [1, 2, 0, 4], false, 2⟩, [], by decide +kernel⟩

theorem wit_responseFollows_c : ∃ (s : State) (r : Reply) (rest : List Reply), (s.ctl.ready = true) ∧
    (s.pwr.state = .active) ∧
    (s.ctl.replies = r :: rest) ∧
    (r.inBand = false) ∧
    (r.waits = false) ∧
    (s.reg.rspReady = false) :=
  ⟨{ upCtl { replies := [⟨false, [1, 2, 0, 4], false, 2⟩] } with wdg := {}, rst := { after := some .fwUpdate }, fw := { activating := some 1, status := rec1 ⟨.loaded, some ⟨5, 0, zeros 64⟩⟩ } }, ⟨false, [1, 2, 0, 4], false, 2⟩, [], by decide +kernel⟩

theorem wit_responseInBand_1 : ∃ (s : State) (r : Reply) (rest : List Reply) (p : Packet), (s.ctl.ready = true) ∧
    (s.pwr.state = .active) ∧
    (s.ctl.replies = r :: rest) ∧
    (r.inBand = true) ∧
    (r.waits = false) ∧
    (r.follow = 0) ∧
    (s.fw.activating = none) ∧
    (p = { kind := 7, seq := s.lnk.seq, body := r.bytes }) ∧
    (queueSize s.lnk.control + p.size ≤ controlCap) :=
  ⟨upCtl { replies := [⟨true, [1, 2, 0, 4], false, 0⟩] }, ⟨true, [1, 2, 0, 4], false, 0⟩, [], { kind := 7, body := [1, 2, 0, 4] }, by decide +kernel⟩

theorem wit_responseInBand_3 : ∃ (s : State) (r : Reply) (rest : List Reply) (p : Packet), (s.ctl.ready = true) ∧
    (s.pwr.state = .active) ∧
    (s.ctl.replies = r :: rest) ∧
    (r.inBand = true) ∧
    (r.waits = false) ∧
    (r.follow = 0) ∧
    (s.fw.activating = none) ∧
    (p = { kind := 7, seq := s.lnk.seq, body := r.bytes }) ∧
    (controlCap < queueSize s.lnk.control + p.size) ∧
    (dropOldest 6 s.lnk.control = none) ∧
    (s.reg.rspReady = false) :=
  ⟨{ upCtl { replies := [⟨true, [1, 2, 0, 4], false, 0⟩] } with lnk := { control := List.replicate 1024 { kind := 7, body := zeros 1024 } } }, ⟨true, [1, 2, 0, 4], false, 0⟩, [], { kind := 7, body := [1, 2, 0, 4] }, by decide +kernel⟩

theorem wit_lateSignature : ∃ (s : State) (j : SignJob) (rest : List SignJob), (s.signs = true) ∧
    (s.derives = true) ∧
    (s.domainReady 40 = true) ∧
    (s.pwr.run = none) ∧
    (s.sea.prompt = []) ∧
    (s.sea.resign = j :: rest) ∧
    (j.resigned = true) ∧
    (s.resignUnanswered = false) ∧
    (queueSize s.lnk.sealQ + 100 ≤ sealCap) :=
  ⟨{ up with fus := { lifecycle := 1, bank := 1 }, sea := { resign := [⟨7, 0, 1, 0, 1, 0, zeros 64, none, true⟩] } }, ⟨7, 0, 1, 0, 1, 0, zeros 64, none, true⟩, [], by decide +kernel⟩

theorem wit_fuseDrift : ∃ (s : State) (l : List (OtpItem × OtpReads)), (s.powered 53 = true) ∧
    (s.rereadDue = true) ∧
    (∀ x, x ∈ l → otpItemExists x.1 = true ∧ readsFit x.1 x.2 = true) :=
  ⟨{ up with clk := { up.clk with ticks := 7500000000 }, fus := { latWords := [(3, ⟨39, 39, 39⟩)], words := [(3, ⟨39, 39, 39⟩)] } }, [(.word 3, ⟨0, 0, 0⟩), (.word 255, ⟨1, 0, 0⟩), (.unit 1284, ⟨7, 7, 7⟩)], by decide +kernel⟩

theorem wit_adaptEnds : ∃ (s : State) (q : FomAsk) (a : Adapt) (b : Adapt) (foms : List Byte) (lock : BitVec 4) (n : Nat), (s.lnk.outstanding = some q) ∧
    (foms.length = 4) ∧
    (s.fomAnswered q.round q = true) ∧
    (s.lnk.state = .adapt) ∧
    (s.lnk.adapt = some a) ∧
    (s.pwr.run = none) ∧
    (b = { a with
      lanes := a.lanes.map fun x => (x.1, x.2.answer a.passes a.target ((countedFoms foms lock).getD x.1 0))
      round := a.round + 1, missing := 0, since := s.clk.ticks }) ∧
    (b.lanes.any (fun x => x.2.open_) = false) ∧
    (∀ x, x ∈ a.lanes → x.1 < 4) ∧
    (n = b.passCount (s.stored 0x1C11) s.lanesRequested) :=
  ⟨linked { state := .adapt, lanesMax := 4, requested := 2, adapt := some { adapt0 with lanes := [(0, { phase := .measure, current := ⟨0, 0, 0, 0⟩, trial := ⟨0, 0, 0, 0⟩ })] }, outstanding := some (ask0 false) }, ask0 false, { adapt0 with lanes := [(0, { phase := .measure, current := ⟨0, 0, 0, 0⟩, trial := ⟨0, 0, 0, 0⟩ })] }, { { adapt0 with lanes := [(0, { phase := .measure, current := ⟨0, 0, 0, 0⟩, trial := ⟨0, 0, 0, 0⟩ })] } with lanes := ({ adapt0 with lanes := [(0, { phase := .measure, current := ⟨0, 0, 0, 0⟩, trial := ⟨0, 0, 0, 0⟩ })] } : Adapt).lanes.map fun x => (x.1, x.2.answer ({ adapt0 with lanes := [(0, { phase := .measure, current := ⟨0, 0, 0, 0⟩, trial := ⟨0, 0, 0, 0⟩ })] } : Adapt).passes ({ adapt0 with lanes := [(0, { phase := .measure, current := ⟨0, 0, 0, 0⟩, trial := ⟨0, 0, 0, 0⟩ })] } : Adapt).target ((countedFoms [210, 0, 0, 0] 1).getD x.1 0)), round := ({ adapt0 with lanes := [(0, { phase := .measure, current := ⟨0, 0, 0, 0⟩, trial := ⟨0, 0, 0, 0⟩ })] } : Adapt).round + 1, missing := 0, since := (linked { state := .adapt, lanesMax := 4, requested := 2, adapt := some { adapt0 with lanes := [(0, { phase := .measure, current := ⟨0, 0, 0, 0⟩, trial := ⟨0, 0, 0, 0⟩ })] }, outstanding := some (ask0 false) }).clk.ticks }, [210, 0, 0, 0], 1, 1, by decide +kernel⟩

theorem wit_adaptEnds_b : ∃ (s : State) (q : FomAsk) (a : Adapt) (b : Adapt) (foms : List Byte) (lock : BitVec 4) (n : Nat), (s.lnk.outstanding = some q) ∧
    (foms.length = 4) ∧
    (s.fomAnswered q.round q = true) ∧
    (s.lnk.state = .adapt) ∧
    (s.lnk.adapt = some a) ∧
    (s.pwr.run = none) ∧
    (b = { a with
      lanes := a.lanes.map fun x => (x.1, x.2.answer a.passes a.target ((countedFoms foms lock).getD x.1 0))
      round := a.round + 1, missing := 0, since := s.clk.ticks }) ∧
    (b.lanes.any (fun x => x.2.open_) = false) ∧
    (∀ x, x ∈ a.lanes → x.1 < 4) ∧
    (n = b.passCount (s.stored 0x1C11) s.lanesRequested) :=
  ⟨linked { state := .adapt, lanesMax := 4, requested := 2, adapt := some { adapt0 with lanes := [(0, { phase := .measure, current := ⟨0, 0, 0, 0⟩, trial := ⟨0, 0, 0, 0⟩ })], final := true }, outstanding := some (ask0 false) }, ask0 false, { adapt0 with lanes := [(0, { phase := .measure, current := ⟨0, 0, 0, 0⟩, trial := ⟨0, 0, 0, 0⟩ })], final := true }, { { adapt0 with lanes := [(0, { phase := .measure, current := ⟨0, 0, 0, 0⟩, trial := ⟨0, 0, 0, 0⟩ })], final := true } with lanes := ({ adapt0 with lanes := [(0, { phase := .measure, current := ⟨0, 0, 0, 0⟩, trial := ⟨0, 0, 0, 0⟩ })], final := true } : Adapt).lanes.map fun x => (x.1, x.2.answer ({ adapt0 with lanes := [(0, { phase := .measure, current := ⟨0, 0, 0, 0⟩, trial := ⟨0, 0, 0, 0⟩ })], final := true } : Adapt).passes ({ adapt0 with lanes := [(0, { phase := .measure, current := ⟨0, 0, 0, 0⟩, trial := ⟨0, 0, 0, 0⟩ })], final := true } : Adapt).target ((countedFoms [210, 0, 0, 0] 1).getD x.1 0)), round := ({ adapt0 with lanes := [(0, { phase := .measure, current := ⟨0, 0, 0, 0⟩, trial := ⟨0, 0, 0, 0⟩ })], final := true } : Adapt).round + 1, missing := 0, since := (linked { state := .adapt, lanesMax := 4, requested := 2, adapt := some { adapt0 with lanes := [(0, { phase := .measure, current := ⟨0, 0, 0, 0⟩, trial := ⟨0, 0, 0, 0⟩ })], final := true }, outstanding := some (ask0 false) }).clk.ticks }, [210, 0, 0, 0], 1, 1, by decide +kernel⟩

theorem wit_adaptEnds_c : ∃ (s : State) (q : FomAsk) (a : Adapt) (b : Adapt) (foms : List Byte) (lock : BitVec 4) (n : Nat), (s.lnk.outstanding = some q) ∧
    (foms.length = 4) ∧
    (s.fomAnswered q.round q = true) ∧
    (s.lnk.state = .adapt) ∧
    (s.lnk.adapt = some a) ∧
    (s.pwr.run = none) ∧
    (b = { a with
      lanes := a.lanes.map fun x => (x.1, x.2.answer a.passes a.target ((countedFoms foms lock).getD x.1 0))
      round := a.round + 1, missing := 0, since := s.clk.ticks }) ∧
    (b.lanes.any (fun x => x.2.open_) = false) ∧
    (∀ x, x ∈ a.lanes → x.1 < 4) ∧
    (n = b.passCount (s.stored 0x1C11) s.lanesRequested) :=
  ⟨linked { state := .adapt, lanesMax := 4, requested := 1, adapt := some { adapt0 with lanes := [(0, { phase := .measure, current := ⟨0, 0, 0, 0⟩, trial := ⟨0, 0, 0, 0⟩ })] }, outstanding := some (ask0 false) }, ask0 false, { adapt0 with lanes := [(0, { phase := .measure, current := ⟨0, 0, 0, 0⟩, trial := ⟨0, 0, 0, 0⟩ })] }, { { adapt0 with lanes := [(0, { phase := .measure, current := ⟨0, 0, 0, 0⟩, trial := ⟨0, 0, 0, 0⟩ })] } with lanes := ({ adapt0 with lanes := [(0, { phase := .measure, current := ⟨0, 0, 0, 0⟩, trial := ⟨0, 0, 0, 0⟩ })] } : Adapt).lanes.map fun x => (x.1, x.2.answer ({ adapt0 with lanes := [(0, { phase := .measure, current := ⟨0, 0, 0, 0⟩, trial := ⟨0, 0, 0, 0⟩ })] } : Adapt).passes ({ adapt0 with lanes := [(0, { phase := .measure, current := ⟨0, 0, 0, 0⟩, trial := ⟨0, 0, 0, 0⟩ })] } : Adapt).target ((countedFoms [210, 0, 0, 0] 1).getD x.1 0)), round := ({ adapt0 with lanes := [(0, { phase := .measure, current := ⟨0, 0, 0, 0⟩, trial := ⟨0, 0, 0, 0⟩ })] } : Adapt).round + 1, missing := 0, since := (linked { state := .adapt, lanesMax := 4, requested := 1, adapt := some { adapt0 with lanes := [(0, { phase := .measure, current := ⟨0, 0, 0, 0⟩, trial := ⟨0, 0, 0, 0⟩ })] }, outstanding := some (ask0 false) }).clk.ticks }, [210, 0, 0, 0], 1, 1, by decide +kernel⟩

theorem wit_trainingOrder_1 : ∃ (s : State) (p : _) (q : _), (s.carriesPackets = true) ∧
    (s.markerDue = false) ∧
    (s.lnk.state = .adapt) ∧
    (s.lnk.train = p :: q) :=
  ⟨upLnk { state := .adapt, train := [pk 8], framer := { lanes := [{}] } }, pk 8, ([] : List Packet), by decide +kernel⟩

theorem wit_trainingOrder_2 : ∃ s : State, (s.carriesPackets = true) ∧
    (s.markerDue = false) ∧
    (s.lnk.state = .align ∨ s.lnk.state = .adapt ∧ s.lnk.train = []) :=
  ⟨upLnk { state := .align, framer := { lanes := [{}] } }, by decide +kernel⟩

theorem wit_ppsRecovers_1 : ∃ (s : State) (m : Word64) (falling : Bool) (active : Nat), (s.stored 0x0C04 ≠ 0) ∧
    (s.powered 49 = true) ∧
    (falling = decide (s.stored 0x0C05 = 1)) ∧
    (100 ≤ active) ∧
    (-2 ≤ (m - s.clk.time).toInt) ∧
    ((m - s.clk.time).toInt ≤ 9) ∧
    (s.edgeAccepted m = true) ∧
    (s.clk.pendingSet = none) ∧
    (s.clk.ppsLost = true) :=
  ⟨{ up with par := { values := [(0x0C04, 1)] }, clk := { up.clk with ppsLost := true, mode := .holdover } }, 1000000000, false, 100, by decide +kernel⟩

theorem wit_ppsRecovers_2 : ∃ (s : State) (m : Word64) (falling : Bool) (active : Nat), (s.stored 0x0C04 ≠ 0) ∧
    (s.powered 49 = true) ∧
    (falling = decide (s.stored 0x0C05 = 1)) ∧
    (100 ≤ active) ∧
    (-2 ≤ (m - s.clk.time).toInt) ∧
    ((m - s.clk.time).toInt ≤ 9) ∧
    (s.edgeAccepted m = true) ∧
    (s.clk.pendingSet = none) ∧
    (s.clk.mode ≠ .unset) ∧
    (s.clk.ppsLost = false) ∧
    (s.stored 0x0C07 < (s.phaseError m).natAbs) ∧
    (s.stepsAllowed = false) :=
  ⟨{ up with par := { values := [(0x0C04, 1)] }, pwr := { up.pwr with bootEntryDone := false }, clk := { up.clk with mode := .set, time := 1300000000 } }, 1300000000, false, 100, by decide +kernel⟩

theorem wit_ppsRecovers_3 : ∃ (s : State) (m : Word64) (falling : Bool) (active : Nat), (s.stored 0x0C04 ≠ 0) ∧
    (s.powered 49 = true) ∧
    (falling = decide (s.stored 0x0C05 = 1)) ∧
    (100 ≤ active) ∧
    (-2 ≤ (m - s.clk.time).toInt) ∧
    ((m - s.clk.time).toInt ≤ 9) ∧
    (s.edgeAccepted m = true) ∧
    (s.clk.pendingSet = none) ∧
    (s.clk.mode ≠ .unset) ∧
    (s.clk.ppsLost = false) ∧
    (s.stored 0x0C07 < (s.phaseError m).natAbs) ∧
    (s.stepsAllowed = true) :=
  ⟨{ up with par := { values := [(0x0C04, 1)] }, clk := { up.clk with mode := .set, time := 1300000000 } }, 1300000000, false, 100, by decide +kernel⟩

theorem wit_readElsewhere_1 : ∃ (s : State) (m : Msg) (n : _), (s.pwr.recovery = false) ∧
    (arrives s m 0x80 22) ∧
    (m.field 0 1 = 1) ∧
    (m.field 4 2 = n) ∧
    (1 ≤ n) ∧
    (n ≤ 256) ∧
    (m.field 2 2 + n ≤ 1365) :=
  ⟨served (openMsg 0x80 ([1, 0] ++ leBytes 2 1283 ++ leBytes 2 82)), openMsg 0x80 ([1, 0] ++ leBytes 2 1283 ++ leBytes 2 82), 82, by and_intros <;> first | decide +kernel | rfl | (unfold arrives; decide +kernel)⟩

theorem wit_readElsewhere_2 : ∃ (s : State) (m : Msg) (n : _) (d : _), (s.pwr.recovery = false) ∧
    (arrives s m 0x40 24) ∧
    (m.inBand = false) ∧
    (1 ≤ m.field 4 2) ∧
    (m.field 4 2 ≤ 256) ∧
    (s.present (BitVec.ofNat 32 (m.field 0 4)) = true) ∧
    (n = min (m.field 4 2) (s.led.nextSeq - BitVec.ofNat 32 (m.field 0 4)).toNat) ∧
    (d = (namedFrom (m.field 0 4) n).flatMap s.entryAt) :=
  ⟨{ sideServed (⟨(openMsg 0x40 (leBytes 4 3 ++ leBytes 2 256 ++ zeros 2)).bytes, false⟩ : Msg) with led := ledgered.led }, (⟨(openMsg 0x40 (leBytes 4 3 ++ leBytes 2 256 ++ zeros 2)).bytes, false⟩ : Msg), 7, (namedFrom (((⟨(openMsg 0x40 (leBytes 4 3 ++ leBytes 2 256 ++ zeros 2)).bytes, false⟩ : Msg)).field 0 4) (7)).flatMap ({ sideServed (⟨(openMsg 0x40 (leBytes 4 3 ++ leBytes 2 256 ++ zeros 2)).bytes, false⟩ : Msg) with led := ledgered.led }).entryAt, by and_intros <;> first | decide +kernel | rfl | (unfold arrives; decide +kernel)⟩

theorem wit_readElsewhere_3 : ∃ (s : State) (m : Msg) (k : _) (o : _) (n : _) (d : _) (serial : _), (s.pwr.recovery = false) ∧
    (arrives s m 0x13 32) ∧
    (m.field 0 1 = k) ∧
    (1 ≤ k) ∧
    (k ≤ 4) ∧
    (m.field 4 4 = o) ∧
    (o < s.tableSize k) ∧
    (m.field 8 4 = n) ∧
    (1 ≤ n) ∧
    (n ≤ 32768) ∧
    (s.takeMsg m).tableData k o = some (d, serial) ∧
    (o = 0 ∨ m.field 12 4 = serial) :=
  ⟨served (openMsg 0x13 ([1, 0, 0, 0] ++ leBytes 4 0 ++ leBytes 4 32768 ++ zeros 4)), openMsg 0x13 ([1, 0, 0, 0] ++ leBytes 4 0 ++ leBytes 4 32768 ++ zeros 4), 1, 0, 32768, tilemapBytes [], 0, by and_intros <;> first | decide +kernel | rfl | (unfold arrives; decide +kernel)⟩

theorem wit_readElsewhere_3_b : ∃ (s : State) (m : Msg) (k : _) (o : _) (n : _) (d : _) (serial : _), (s.pwr.recovery = false) ∧
    (arrives s m 0x13 32) ∧
    (m.field 0 1 = k) ∧
    (1 ≤ k) ∧
    (k ≤ 4) ∧
    (m.field 4 4 = o) ∧
    (o < s.tableSize k) ∧
    (m.field 8 4 = n) ∧
    (1 ≤ n) ∧
    (n ≤ 32768) ∧
    (s.takeMsg m).tableData k o = some (d, serial) ∧
    (o = 0 ∨ m.field 12 4 = serial) :=
  ⟨{ sideServed (⟨(openMsg 0x13 ([4, 0, 0, 0] ++ leBytes 4 0 ++ leBytes 4 32768 ++ zeros 4)).bytes, false⟩ : Msg) with pdp := { stats := some stats0 } }, (⟨(openMsg 0x13 ([4, 0, 0, 0] ++ leBytes 4 0 ++ leBytes 4 32768 ++ zeros 4)).bytes, false⟩ : Msg), 4, 0, 32768, stats0.bytes, 5, by and_intros <;> first | decide +kernel | rfl | (unfold arrives; decide +kernel)⟩

theorem wit_tableParts : ∃ (s : State) (m : Msg) (t0 : TableStaging) (k : Nat) (n : Nat) (b : Bytes), (m.field 12 4 = n) ∧
    (m.partFits = true) ∧
    (m.field 4 1 = k) ∧
    (1 ≤ k) ∧
    (k ≤ 3) ∧
    (tableWriteFits m (m.bytes.length - 80) = true) ∧
    (arrives s m 0x14 m.bytes.length) ∧
    (authorised s m (tableRole k)) ∧
    (k ≠ 1 → s.viewsIdle = true) ∧
    (s.stagingFor m = some t0) ∧
    (m.field 8 4 = t0.bytes.length) ∧
    (t0.bytes.length + n ≤ t0.total) ∧
    (t0.table = k) ∧
    (bitOf (m.field 5 1) 0 = true → totalOk k (m.field 16 4) = true) ∧
    (bitOf (m.field 5 1) 1 = false) ∧
    (b = t0.bytes ++ (if m.inBand then m.part 88 n else nvBytes s.ctl.bulk 0 n)) ∧
    (k ≠ 1 → entriesOk k (b.length / 8) 0 b = true) ∧
    (s.rst.decided = none) ∧
    (s.pwr.run = none) :=
  ⟨sideServed (⟨(chalkMsg 0x14 ([1, 1] ++ zeros 2 ++ leBytes 4 0 ++ leBytes 4 100 ++ leBytes 4 216 ++ zeros 68)).bytes, false⟩ : Msg), (⟨(chalkMsg 0x14 ([1, 1] ++ zeros 2 ++ leBytes 4 0 ++ leBytes 4 100 ++ leBytes 4 216 ++ zeros 68)).bytes, false⟩ : Msg), ⟨1, 216, []⟩, 1, 100, nvBytes (sideServed (⟨(chalkMsg 0x14 ([1, 1] ++ zeros 2 ++ leBytes 4 0 ++ leBytes 4 100 ++ leBytes 4 216 ++ zeros 68)).bytes, false⟩ : Msg)).ctl.bulk 0 100, by and_intros <;> first | decide +kernel | rfl | (unfold arrives; decide +kernel) | (unfold authorised; decide +kernel)⟩

theorem wit_tableParts_b : ∃ (s : State) (m : Msg) (t0 : TableStaging) (k : Nat) (n : Nat) (b : Bytes), (m.field 12 4 = n) ∧
    (m.partFits = true) ∧
    (m.field 4 1 = k) ∧
    (1 ≤ k) ∧
    (k ≤ 3) ∧
    (tableWriteFits m (m.bytes.length - 80) = true) ∧
    (arrives s m 0x14 m.bytes.length) ∧
    (authorised s m (tableRole k)) ∧
    (k ≠ 1 → s.viewsIdle = true) ∧
    (s.stagingFor m = some t0) ∧
    (m.field 8 4 = t0.bytes.length) ∧
    (t0.bytes.length + n ≤ t0.total) ∧
    (t0.table = k) ∧
    (bitOf (m.field 5 1) 0 = true → totalOk k (m.field 16 4) = true) ∧
    (bitOf (m.field 5 1) 1 = false) ∧
    (b = t0.bytes ++ (if m.inBand then m.part 88 n else nvBytes s.ctl.bulk 0 n)) ∧
    (k ≠ 1 → entriesOk k (b.length / 8) 0 b = true) ∧
    (s.rst.decided = none) ∧
    (s.pwr.run = none) :=
  ⟨upCtl { inbox := [.side], cmdBox := nvWrite [] 0 (⟨(chalkMsg 0x14 ([2, 1] ++ zeros 2 ++ leBytes 4 0 ++ leBytes 4 8 ++ leBytes 4 16 ++ zeros 68)).bytes, false⟩ : Msg).bytes, sessionOpen := true, session := 7, seqLast := 9, bulk := nvWrite [] 0 [1, 0, 2, 0, 3, 5, 0, 0] }, (⟨(chalkMsg 0x14 ([2, 1] ++ zeros 2 ++ leBytes 4 0 ++ leBytes 4 8 ++ leBytes 4 16 ++ zeros 68)).bytes, false⟩ : Msg), ⟨2, 16, []⟩, 2, 8, [1, 0, 2, 0, 3, 5, 0, 0], by and_intros <;> first | decide +kernel | rfl | (unfold arrives; decide +kernel) | (unfold authorised; decide +kernel)⟩

theorem wit_firmwareParts : ∃ (s : State) (m : Msg) (n : Nat) (part : Bytes), (m.inBand = false) ∧
    (arrives s m 0x70 104) ∧
    (authorised s m 2) ∧
    (m.field 8 4 = 0) ∧
    (m.field 12 4 = n) ∧
    (part = nvBytes s.ctl.bulk 0 n) ∧
    (1 ≤ n) ∧
    (n ≤ 32768) ∧
    (n % 4096 = 0) ∧
    (m.fwLast = false) ∧
    (m.fwFirst = true) ∧
    (324 ≤ m.field 16 4) ∧
    (m.field 16 4 ≤ 4194304) ∧
    (n ≤ m.field 16 4) ∧
    (s.rst.decided = none) ∧
    (s.pwr.run = none) :=
  ⟨{ sideServed (⟨(chalkMsg 0x70 ([1, 0, 0, 0] ++ leBytes 4 0 ++ leBytes 4 4096 ++ leBytes 4 8192 ++ zeros 4)).bytes, false⟩ : Msg) with fw := { staged := [1] } }, (⟨(chalkMsg 0x70 ([1, 0, 0, 0] ++ leBytes 4 0 ++ leBytes 4 4096 ++ leBytes 4 8192 ++ zeros 4)).bytes, false⟩ : Msg), 4096, nvBytes ({ sideServed (⟨(chalkMsg 0x70 ([1, 0, 0, 0] ++ leBytes 4 0 ++ leBytes 4 4096 ++ leBytes 4 8192 ++ zeros 4)).bytes, false⟩ : Msg) with fw := { staged := [1] } }).ctl.bulk 0 (4096), by and_intros <;> first | decide +kernel | rfl | (unfold arrives; decide +kernel) | (unfold authorised; decide +kernel)⟩

theorem wit_fuseMessages_6 : ∃ (s : State) (m : Msg) (first : _) (n : _), (authorised s m 3) ∧
    (s.fus.tasks = []) ∧
    (s.rst.decided = none) ∧
    (s.closing = false) ∧
    (arrives s m 0x82 90) ∧
    (m.field 4 1 = 1) ∧
    (m.field 6 2 = first) ∧
    (m.field 8 2 = n) ∧
    (1 ≤ n) ∧
    (n ≤ 256) ∧
    (first + n ≤ 1365) :=
  ⟨{ served (chalkMsg 0x82 ([1, 0] ++ leBytes 2 1283 ++ leBytes 2 2)) with fus := { latUnits := [(1284, ⟨7, 7, 7⟩)] } }, chalkMsg 0x82 ([1, 0] ++ leBytes 2 1283 ++ leBytes 2 2), 1283, 2, by and_intros <;> first | decide +kernel | rfl | (unfold authorised; decide +kernel) | (unfold arrives; decide +kernel)⟩

theorem wit_fuseMessages_6_b : ∃ (s : State) (m : Msg) (first : _) (n : _), (authorised s m 3) ∧
    (s.fus.tasks = []) ∧
    (s.rst.decided = none) ∧
    (s.closing = false) ∧
    (arrives s m 0x82 90) ∧
    (m.field 4 1 = 1) ∧
    (m.field 6 2 = first) ∧
    (m.field 8 2 = n) ∧
    (1 ≤ n) ∧
    (n ≤ 256) ∧
    (first + n ≤ 1365) :=
  ⟨served (chalkMsg 0x82 ([1, 0] ++ leBytes 2 1283 ++ leBytes 2 2)), chalkMsg 0x82 ([1, 0] ++ leBytes 2 1283 ++ leBytes 2 2), 1283, 2, by and_intros <;> first | decide +kernel | rfl | (unfold authorised; decide +kernel) | (unfold arrives; decide +kernel)⟩

theorem wit_hkcResults_3_b : ∃ (s : State) (input : Int) (raw : Int) (sat : Bool) (c : HkcConv) (code : Int), (s.powered 51 = true) ∧
    (s.hkc.conv = some c) ∧
    (c.periodOver s.clk.ticks = true) ∧
    (raw = hkcRaw c.channel c.ref s.clk.ticks input) ∧
    (c.work ≠ .calibration) ∧
    (timingOrder c.timing ≤ c.periods + 1) ∧
    (s.pwr.run = none) ∧
    (hkcCode (s.hkcCoef c.channel) raw = code) ∧
    (c.saturated = true ∨ sat = true ∨ code < 0 ∨ 16777215 < code) :=
  ⟨keeping { conv := some (conv0 .scan true) } [], 1250000000, 16777216, false, conv0 .scan true, 16777216, by decide +kernel⟩

theorem wit_framesOnTheWire_1_1 : ∃ (x : SpiPort) (p : SpiPins), (x.frame = none) ∧
    (x.last.csN = true) ∧
    (p.csN = false) :=
  ⟨({} : SpiPort), (⟨false, true, false⟩ : SpiPins), by decide +kernel⟩

theorem wit_framesOnTheWire_1_1_b : ∃ (x : SpiPort) (p : SpiPins), (x.frame = none) ∧
    (x.last.csN = true) ∧
    (p.csN = false) :=
  ⟨({} : SpiPort), (⟨false, false, false⟩ : SpiPins), by decide +kernel⟩

theorem wit_framesOnTheWire_1_2 : ∃ (x : SpiPort) (p : SpiPins), (x.frame = none) ∧
    (x.last.csN = true) ∧
    (p.csN = false) :=
  ⟨({} : SpiPort), (⟨false, true, false⟩ : SpiPins), by decide +kernel⟩

theorem wit_framesOnTheWire_2_1_1 : ∃ (x : SpiPort) (f : SpiFrame) (p : SpiPins), (x.frame = some f) ∧
    (p.csN = true) :=
  ⟨({ last := ⟨false, true, false⟩, frame := some ({ mode := .mode3, bits := [true] } : SpiFrame) } : SpiPort), ({ mode := .mode3, bits := [true] } : SpiFrame), (⟨true, true, false⟩ : SpiPins), by decide +kernel⟩

theorem wit_framesOnTheWire_2_1_2 : ∃ (x : SpiPort) (f : SpiFrame) (p : SpiPins), (x.frame = some f) ∧
    (p.csN = true) :=
  ⟨({ last := ⟨false, true, false⟩, frame := some ({ mode := .mode3, bits := [true] } : SpiFrame) } : SpiPort), ({ mode := .mode3, bits := [true] } : SpiFrame), (⟨true, true, false⟩ : SpiPins), by decide +kernel⟩

theorem wit_framesOnTheWire_2_2 : ∃ (x : SpiPort) (f : SpiFrame) (p : SpiPins), (x.frame = some f) ∧
    (p.csN = false) ∧
    (p.sck = true) ∧
    (x.last.sck = false) :=
  ⟨({ last := ⟨false, false, false⟩, frame := some ({ mode := .mode3, bits := [true] } : SpiFrame) } : SpiPort), ({ mode := .mode3, bits := [true] } : SpiFrame), (⟨false, true, true⟩ : SpiPins), by decide +kernel⟩

theorem wit_framesOnTheWire_2_3 : ∃ (x : SpiPort) (f : SpiFrame) (p : SpiPins), (x.frame = some f) ∧
    (p.csN = false) ∧
    (p.sck = false ∨ x.last.sck = true) :=
  ⟨({ last := ⟨false, true, false⟩, frame := some ({ mode := .mode3, bits := [true] } : SpiFrame) } : SpiPort), ({ mode := .mode3, bits := [true] } : SpiFrame), (⟨false, true, true⟩ : SpiPins), by decide +kernel⟩

theorem wit_framesOnTheWire_4_1 : ∃ (a : BitVec 16) (v : Word) (f : SpiFrame), (a.toNat % 4 = 0) ∧
    (f.bits = ([(0x02 : Byte)] ++ leBytes 2 a.toNat ++ leBytes 4 v.toNat).flatMap msbBits) :=
  ⟨0x1C, 0x01020304, ({ mode := .mode0, bits := ([(0x02 : Byte)] ++ leBytes 2 0x1C ++ leBytes 4 0x01020304).flatMap msbBits } : SpiFrame), by decide +kernel⟩

theorem wit_framesOnTheWire_4_2 : ∃ (a : BitVec 16) (v : Word) (f : SpiFrame) (b : Bool) (g : SpiFrame), (a.toNat % 4 = 0) ∧
    (f.bits = ([(0x02 : Byte)] ++ leBytes 2 a.toNat ++ leBytes 4 v.toNat).flatMap msbBits) ∧
    (g.bits = f.bits ++ [b]) :=
  ⟨0x1C, 0x01020304, ({ mode := .mode0, bits := ([(0x02 : Byte)] ++ leBytes 2 0x1C ++ leBytes 4 0x01020304).flatMap msbBits } : SpiFrame), true, ({ mode := .mode0, bits := ([(0x02 : Byte)] ++ leBytes 2 0x1C ++ leBytes 4 0x01020304).flatMap msbBits ++ [true] } : SpiFrame), by decide +kernel⟩

theorem wit_framesOnTheWire_5 : ∃ (o : Byte) (a : BitVec 16) (f : SpiFrame), (frameRefused o a = true) ∧
    (f.bits = ([o] ++ leBytes 2 a.toNat).flatMap msbBits) :=
  ⟨0x02, 0x1D, ({ mode := .mode0, bits := ([(0x02 : Byte)] ++ leBytes 2 0x1D).flatMap msbBits } : SpiFrame), by decide +kernel⟩

theorem wit_framesOnTheWire_5_b : ∃ (o : Byte) (a : BitVec 16) (f : SpiFrame), (frameRefused o a = true) ∧
    (f.bits = ([o] ++ leBytes 2 a.toNat).flatMap msbBits) :=
  ⟨0x07, 0x1C, ({ mode := .mode0, bits := ([(0x07 : Byte)] ++ leBytes 2 0x1C).flatMap msbBits } : SpiFrame), by decide +kernel⟩

theorem wit_responseInBand_2 : ∃ (s : State) (r : Reply) (rest : List Reply) (p : Packet) (q : _), (s.ctl.ready = true) ∧
    (s.pwr.state = .active) ∧
    (s.ctl.replies = r :: rest) ∧
    (r.inBand = true) ∧
    (r.waits = false) ∧
    (r.follow = 0) ∧
    (s.fw.activating = none) ∧
    (p = { kind := 7, seq := s.lnk.seq, body := r.bytes }) ∧
    (controlCap < queueSize s.lnk.control + p.size) ∧
    (dropOldest 6 s.lnk.control = some q) ∧
    (queueSize q + p.size ≤ controlCap) :=
  ⟨{ upCtl { replies := [⟨true, [1, 2, 0, 4], false, 0⟩] } with lnk := { control := { kind := 6, body := zeros 370 } :: List.replicate 1004 { kind := 7, body := zeros 1024 } } }, ⟨true, [1, 2, 0, 4], false, 0⟩, [], { kind := 7, body := [1, 2, 0, 4] }, List.replicate 1004 ({ kind := 7, body := zeros 1024 } : Packet), by decide +kernel⟩

theorem wit_levelChanges_3 : ∃ (s : State) (n : Nat) (level : Bool) (b : Bool), (s.sampled n = true) ∧
    (s.pin.fixed.getLsbD n = true → s.pin.samples.getLsbD n = b) ∧
    (s.pin.fixedBefore.getLsbD n = true → s.pin.before.getLsbD n = b) ∧
    (b = (level != (s.pinField n 4 1 = 1))) ∧
    (s.pin.levels.getLsbD n ≠ b) :=
  ⟨{ up with pin := { cfg := [(15, 17)], fixed := 0, fixedBefore := 0 } }, 15, false, true, by decide +kernel⟩

theorem wit_levelChanges_3_b : ∃ (s : State) (n : Nat) (level : Bool) (b : Bool), (s.sampled n = true) ∧
    (s.pin.fixed.getLsbD n = true → s.pin.samples.getLsbD n = b) ∧
    (s.pin.fixedBefore.getLsbD n = true → s.pin.before.getLsbD n = b) ∧
    (b = (level != (s.pinField n 4 1 = 1))) ∧
    (s.pin.levels.getLsbD n ≠ b) :=
  ⟨{ up with pin := { cfg := [(3, 1)], fixed := 0, fixedBefore := 0, store := [(0, 0x438005)], shade := up.pin.shade.set 1 { state := .running, length := 8, waiting := some (.pin 124999936 none) } } }, 3, true, true, by decide +kernel⟩

theorem wit_TestAccessPort_3_1_1 : ∃ s : State, (s.tap.ir = 2) :=
  ⟨{ up with tap := { ir := 2 } }, by decide +kernel⟩

theorem wit_TestAccessPort_3_1_2 : ∃ s : State, (s.tap.ir = 2) :=
  ⟨{ up with tap := { ir := 2 } }, by decide +kernel⟩

theorem wit_TestAccessPort_3_1_3 : ∃ s : State, (s.tap.ir = 2) :=
  ⟨{ up with tap := { ir := 2 } }, by decide +kernel⟩

theorem wit_TestAccessPort_3_2_1 : ∃ s : State, (s.tap.ir = 1) :=
  ⟨{ up with tap := { ir := 1 } }, by decide +kernel⟩

theorem wit_TestAccessPort_3_2_2 : ∃ s : State, (s.tap.ir = 1) :=
  ⟨{ up with tap := { ir := 1 } }, by decide +kernel⟩

theorem wit_TestAccessPort_3_3_1 : ∃ s : State, (s.pad.rstN = true) ∧
    (s.tap.ir = 0 ∨ s.tap.ir = 3 ∨ s.tap.ir = 4) :=
  ⟨{ up with tap := { ir := 3 } }, by decide +kernel⟩

theorem wit_TestAccessPort_3_3_2 : ∃ s : State, (s.pad.rstN = true) ∧
    (s.tap.ir = 0 ∨ s.tap.ir = 3 ∨ s.tap.ir = 4) :=
  ⟨{ up with tap := { ir := 3 } }, by decide +kernel⟩

theorem wit_TestAccessPort_3_4_1 : ∃ s : State, (s.pad.rstN = false) ∧
    (s.pwr.padsOff = false) ∧
    (Rail.vddio ∉ s.pwr.railsLow) ∧
    (s.tap.ir = 0) :=
  ⟨{ up with tap := { ir := 0 }, pad := { rstN := false } }, by decide +kernel⟩

theorem wit_TestAccessPort_3_4_2 : ∃ s : State, (s.pad.rstN = false) ∧
    (s.pwr.padsOff = false) ∧
    (Rail.vddio ∉ s.pwr.railsLow) ∧
    (s.tap.ir = 3 ∨ s.tap.ir = 4) :=
  ⟨{ up with tap := { ir := 4 }, pad := { rstN := false } }, by decide +kernel⟩

theorem wit_TestAccessPort_3_4_3 : ∃ (s : State) (n : _), (s.pad.rstN = false) ∧
    (s.pwr.padsOff = false) ∧
    (Rail.vddio ∉ s.pwr.railsLow) ∧
    (s.tap.ir = 0 ∨ s.tap.ir = 4) ∧
    (n < 16) :=
  ⟨{ up with tap := { ir := 4, boundary := { gpOut := 8, gpEn := 8 } }, pad := { rstN := false } }, 3, by decide +kernel⟩

theorem wit_TestAccessPort_3_4_4 : ∃ s : State, (s.pad.rstN = false) ∧
    (s.pwr.padsOff = false) ∧
    (Rail.vddio ∉ s.pwr.railsLow) ∧
    (s.tap.ir = 3) :=
  ⟨{ up with tap := { ir := 3 }, pad := { rstN := false } }, by decide +kernel⟩

theorem wit_TestAccessPort_3_5_1 : ∃ s : State, (4 < s.tap.ir.toNat) ∧
    (s.tap.ir.toNat < 0x10 ∨ 0x1E < s.tap.ir.toNat ∨ s.debugOpen = false) :=
  ⟨{ up with tap := { ir := 0x10 } }, by decide +kernel⟩

theorem wit_TestAccessPort_3_5_2 : ∃ s : State, (4 < s.tap.ir.toNat) ∧
    (s.tap.ir.toNat < 0x10 ∨ 0x1E < s.tap.ir.toNat ∨ s.debugOpen = false) :=
  ⟨{ up with tap := { ir := 5 } }, by decide +kernel⟩

theorem wit_hkcRawResult_1 : ∃ (ch : Nat) (ref : Nat) (tick : Nat) (d : Int), (d = ((hkcDivider ch * vref ref tick : Nat) : Int)) :=
  ⟨2, 0, 5, 5000000000, by decide +kernel⟩

theorem wit_hkcRawResult_2 : ∃ (ch : Nat) (ref : Nat) (tick : Nat) (d : Int), (d = ((hkcDivider ch * vref ref tick : Nat) : Int)) ∧
    (ref = 0) :=
  ⟨2, 0, 5, 5000000000, by decide +kernel⟩

theorem wit_hkcRawResult_3 : ∃ (ch : Nat) (ref : Nat) (tick : Nat) (d : Int), (d = ((hkcDivider ch * vref ref tick : Nat) : Int)) :=
  ⟨2, 0, 5, 5000000000, by decide +kernel⟩

theorem wit_hkcRawResult_4 : ∃ (ch : Nat) (ref : Nat) (tick : Nat) (d : Int), (d = ((hkcDivider ch * vref ref tick : Nat) : Int)) :=
  ⟨2, 0, 5, 5000000000, by decide +kernel⟩

theorem wit_hkcRawResult_5 : ∃ (ch : Nat) (ref : Nat) (tick : Nat) (d : Int), (d = ((hkcDivider ch * vref ref tick : Nat) : Int)) :=
  ⟨2, 0, 5, 5000000000, by decide +kernel⟩

theorem wit_hkcRawResult_6 : ∃ (ch : Nat) (ref : Nat) (tick : Nat) (d : Int), (d = ((hkcDivider ch * vref ref tick : Nat) : Int)) :=
  ⟨2, 0, 5, 5000000000, by decide +kernel⟩

theorem wit_hkcRawResult_7 : ∃ (ch : Nat) (ref : Nat) (tick : Nat) (d : Int), (d = ((hkcDivider ch * vref ref tick : Nat) : Int)) :=
  ⟨2, 0, 5, 5000000000, by decide +kernel⟩

theorem wit_ledgerMessages_4 : ∃ (s : State) (m : Msg) (l : _) (n : _) (e : _), (arrives s m 0x31 92) ∧
    (authorised s m 1) ∧
    (s.unprovisioned = false) ∧
    (s.fus.lifecycle ≠ 3) ∧
    (m.field 8 2 = n) ∧
    (l = namedFrom (m.field 4 4) n) ∧
    (((n = 0 ∨ 64 < n ∨ ∃ q ∈ l, s.present q = false) ∧ e = 6) ∨
        (1 ≤ n ∧ n ≤ 64 ∧ (∀ q ∈ l, s.present q = true) ∧ s.signs = false ∧ e = 7) ∨
        (1 ≤ n ∧ n ≤ 64 ∧ s.signs = true ∧ 64 < s.sea.resign.length + n ∧ (∀ q ∈ l, s.present q = true ∧
          bitOf (leAt 3 1 (s.entryAt q)) 1 = false ∧ entryValid (s.entryAt q) = true) ∧ e = 1)) :=
  ⟨{ served resignMsg with fus := ledgered.fus, role := { operators := [(0, rec1 (some (slot0 key0)))] }, led := ledgered.led, nvs := { mem := nvWrite [] (slotAddr 9 + 104) (leBytes 4 3609133615) }, sea := { resign := List.replicate 64 ⟨7, 0, 1, 0, 1, 0, zeros 64, none, true⟩ } }, resignMsg, ([9] : List Word), 1, 1, by and_intros <;> first | (exact Or.inr (Or.inr ⟨by decide, by decide, by decide +kernel, by decide +kernel, by intro q h; cases List.mem_singleton.mp h; decide +kernel, rfl⟩)) | decide +kernel | rfl | (unfold arrives; decide +kernel) | (unfold authorised; decide +kernel)⟩

theorem wit_ledgerMessages_4_b : ∃ (s : State) (m : Msg) (l : _) (n : _) (e : _), (arrives s m 0x31 92) ∧
    (authorised s m 1) ∧
    (s.unprovisioned = false) ∧
    (s.fus.lifecycle ≠ 3) ∧
    (m.field 8 2 = n) ∧
    (l = namedFrom (m.field 4 4) n) ∧
    (((n = 0 ∨ 64 < n ∨ ∃ q ∈ l, s.present q = false) ∧ e = 6) ∨
        (1 ≤ n ∧ n ≤ 64 ∧ (∀ q ∈ l, s.present q = true) ∧ s.signs = false ∧ e = 7) ∨
        (1 ≤ n ∧ n ≤ 64 ∧ s.signs = true ∧ 64 < s.sea.resign.length + n ∧ (∀ q ∈ l, s.present q = true ∧
          bitOf (leAt 3 1 (s.entryAt q)) 1 = false ∧ entryValid (s.entryAt q) = true) ∧ e = 1)) :=
  ⟨{ served resignMsg with fus := ledgered.fus, role := { operators := [(0, rec1 (some (slot0 key0)))] }, led := { ledgered.led with nextSeq := 9, present := 9 } }, resignMsg, ([9] : List Word), 1, 6, by and_intros <;> first | (exact Or.inl ⟨Or.inr (Or.inr ⟨9, by decide, by decide +kernel⟩), rfl⟩) | decide +kernel | rfl | (unfold arrives; decide +kernel) | (unfold authorised; decide +kernel)⟩

theorem wit_haltAtTick_5_1 : ∃ (s : State) (q : Nat) (x : Shade), (q < 4) ∧
    (s.shadeAt q = x) ∧
    (x.change = some .halt) ∧
    (x.target = none) ∧
    (canonFrom (.pad .released) 0 s.pin.latch = true) :=
  ⟨shading 0x520000 { shade0 with change := some .halt, waiting := some (.ticks 125000500) }, 1, { shade0 with change := some .halt, waiting := some (.ticks 125000500) }, by decide +kernel⟩

theorem wit_haltAtTick_5_2 : ∃ (s : State) (q : Nat) (x : Shade) (n : _), (q < 4) ∧
    (s.shadeAt q = x) ∧
    (x.change = some .halt) ∧
    (x.target = none) ∧
    (canonFrom (.pad .released) 0 s.pin.latch = true) ∧
    (n < 16) :=
  ⟨shading 0x520000 { shade0 with change := some .halt }, 1, { shade0 with change := some .halt }, 3, by decide +kernel⟩

theorem wit_TestAccessPort_2_12 : ∃ c : BitVec 5, (c.toNat ≤ 4 ∨ (0x10 ≤ c.toNat ∧ c.toNat ≤ 0x1E)) :=
  ⟨0x10, by decide +kernel⟩

theorem wit_TestAccessPort_2_12_b : ∃ c : BitVec 5, (c.toNat ≤ 4 ∨ (0x10 ≤ c.toNat ∧ c.toNat ≤ 0x1E)) :=
  ⟨4, by decide +kernel⟩

theorem wit_TestAccessPort_2_13 : ∃ c : BitVec 5, (c.toNat < 0x10 ∨ 0x1E < c.toNat) :=
  ⟨0x1F, by decide +kernel⟩

theorem wit_calibrateMessages_3_b : ∃ (s : State) (m : Msg) (c : Nat) (p : Nat) (k : HkcCal) (i : Instr), (arrives s m 0xA0 92) ∧
    (authorised s m 2) ∧
    (m.field 4 1 = c) ∧
    (c = 4 ∨ c = 11 ∨ c = 12) ∧
    (m.field 5 1 = p) ∧
    (s.hkc.cal = some k) ∧
    (p = 1 ∧ i = .hkcCalZero ∨ p = 3 ∧ i = .hkcCalClear ∨
        p = 2 ∧ i = .hkcCalFull ∧ 4194304 ≤ m.calTarget ∧ m.calTarget ≤ 16777215) :=
  ⟨{ served (chalkMsg 0xA0 ([11, 2, 0, 0] ++ leBytes 4 1000000)) with hkc := { cal := some ⟨4, 1, 0, 0, false, 0⟩ } }, chalkMsg 0xA0 ([11, 2, 0, 0] ++ leBytes 4 1000000), 11, 2, (⟨4, 1, 0, 0, false, 0⟩ : HkcCal), .hkcCalFull, by and_intros <;> first | decide +kernel | rfl | (unfold arrives; decide +kernel) | (unfold authorised; decide +kernel)⟩

theorem wit_calibrateMessages_2 : ∃ (s : State) (m : Msg) (c : Nat) (p : Nat), (arrives s m 0xA0 92) ∧
    (authorised s m 2) ∧
    (m.field 4 1 = c) ∧
    (c = 4 ∨ c = 11 ∨ c = 12) ∧
    (m.field 5 1 = p) ∧
    (s.hkc.cal = none) ∧
    (p = 2) ∧
    (4194304 ≤ m.calTarget) ∧
    (m.calTarget ≤ 16777215) ∧
    (spFind c s.hkc.zeros = none ∨ s.stored 0x2801 ≠ 0) :=
  ⟨served (chalkMsg 0xA0 ([11, 2, 0, 0] ++ leBytes 4 1000000)), chalkMsg 0xA0 ([11, 2, 0, 0] ++ leBytes 4 1000000), 11, 2, by and_intros <;> first | decide +kernel | rfl | (unfold arrives; decide +kernel) | (unfold authorised; decide +kernel)⟩

theorem wit_calibrateMessages_3_c : ∃ (s : State) (m : Msg) (c : Nat) (p : Nat) (k : HkcCal) (i : Instr), (arrives s m 0xA0 92) ∧
    (authorised s m 2) ∧
    (m.field 4 1 = c) ∧
    (c = 4 ∨ c = 11 ∨ c = 12) ∧
    (m.field 5 1 = p) ∧
    (s.hkc.cal = some k) ∧
    (p = 1 ∧ i = .hkcCalZero ∨ p = 3 ∧ i = .hkcCalClear ∨
        p = 2 ∧ i = .hkcCalFull ∧ 4194304 ≤ m.calTarget ∧ m.calTarget ≤ 16777215) :=
  ⟨{ served (chalkMsg 0xA0 ([11, 1, 0, 0] ++ leBytes 4 0)) with hkc := { cal := some ⟨4, 1, 0, 0, false, 0⟩ } }, chalkMsg 0xA0 ([11, 1, 0, 0] ++ leBytes 4 0), 11, 1, (⟨4, 1, 0, 0, false, 0⟩ : HkcCal), .hkcCalZero, by and_intros <;> first | decide +kernel | rfl | (unfold arrives; decide +kernel) | (unfold authorised; decide +kernel)⟩

theorem wit_TestAccessPort_2_2 : ∃ x : BoundaryScan, (x.test = false) :=
  ⟨({ test := false, seen := {}, sdoBit := 0, cells := {} } : BoundaryScan), by decide +kernel⟩

theorem wit_TestAccessPort_2_3_1 : ∃ (s : State) (x : BoundaryScan), (x.test = true) ∧
    (s.tapSelected = .boundary) :=
  ⟨{ up with tap := { ir := 0 }, pad := { rstN := false } }, ({ test := true, seen := {}, sdoBit := 0, cells := {} } : BoundaryScan), by decide +kernel⟩

theorem wit_TestAccessPort_2_3_2 : ∃ (s : State) (x : BoundaryScan), (x.test = true) ∧
    (s.tapSelected ≠ .boundary) :=
  ⟨up, ({ test := true, seen := {}, sdoBit := 0, cells := {} } : BoundaryScan), by decide +kernel⟩

theorem wit_runNotStopped_3 : ∃ (s : State) (r : Run) (rails : BitVec 4), (s.pwr.run = some r) ∧
    (rails ≠ 0) :=
  ⟨inRun run1, run1, 1, by decide +kernel⟩

theorem wit_closingRails_3 : ∃ s : State, (s.pwr.run = none) :=
  ⟨up, by decide +kernel⟩

theorem wit_closingRails_4_1 : ∃ s : State, (s.pwr.padsOff = true) :=
  ⟨upPwr (fun p => { p with padsOff := true }), by decide +kernel⟩

theorem wit_closingRails_4_2 : ∃ s : State, (s.pwr.padsOff = true) :=
  ⟨upPwr (fun p => { p with padsOff := true }), by decide +kernel⟩

theorem wit_closingRails_4_3 : ∃ s : State, (s.pwr.padsOff = true) :=
  ⟨upPwr (fun p => { p with padsOff := true }), by decide +kernel⟩

theorem wit_closingRunEnds_1 : ∃ (s : State) (r : Run), (s.pwr.run = some r) ∧
    (r.phase = .sending) ∧
    (s.powered 50 = false) ∧
    (s.nvs.blocks = []) ∧
    (s.fus.tasks = []) ∧
    (r.cooling = false) ∧
    (r.resetAsked = true) ∧
    (r.trigger ≠ 4) :=
  ⟨{ inRun { run1 with phase := .sending, trigger := 3, resetAsked := true } with pwr := { up.pwr with state := .closing, run := some { run1 with phase := .sending, trigger := 3, resetAsked := true }, domains := 2 ^ 49 } }, { run1 with phase := .sending, trigger := 3, resetAsked := true }, by decide +kernel⟩

theorem wit_closingRunEnds_3_c : ∃ (s : State) (r : Run), (s.pwr.run = some r) ∧
    (r.phase = .sending) ∧
    (s.powered 50 = false) ∧
    (s.nvs.blocks = []) ∧
    (s.fus.tasks = []) ∧
    (r.cooling = true ∨ r.trigger = 4 ∨ r.resetAsked = false ∧
        (r.trigger = 3 ∨ (s.pwr.drooped = true ∧ Config.railsBack s.free = false) ∨ s.pwr.pfailLow = true ∨
          s.clk.ticks < s.pwr.goodSince + 125000 * s.stored 0x0802)) :=
  ⟨{ inRun { run1 with phase := .sending } with pwr := { up.pwr with state := .closing, goodSince := 124999999, run := some { run1 with phase := .sending }, domains := 2 ^ 49 } }, { run1 with phase := .sending }, by decide +kernel⟩

theorem wit_closingRunEnds_3_d : ∃ (s : State) (r : Run), (s.pwr.run = some r) ∧
    (r.phase = .sending) ∧
    (s.powered 50 = false) ∧
    (s.nvs.blocks = []) ∧
    (s.fus.tasks = []) ∧
    (r.cooling = true ∨ r.trigger = 4 ∨ r.resetAsked = false ∧
        (r.trigger = 3 ∨ (s.pwr.drooped = true ∧ Config.railsBack s.free = false) ∨ s.pwr.pfailLow = true ∨
          s.clk.ticks < s.pwr.goodSince + 125000 * s.stored 0x0802)) :=
  ⟨{ inRun { run1 with phase := .sending, cooling := true } with pwr := { up.pwr with state := .closing, run := some { run1 with phase := .sending, cooling := true }, domains := 2 ^ 49 } }, { run1 with phase := .sending, cooling := true }, by decide +kernel⟩

theorem wit_offHoldEnds_4_1 : ∃ (s : State) (h : Hold) (i : Instr), (s.pwr.hold = some h) ∧
    (s.pwr.run = none) ∧
    (i = .rstNAssert ∧ s.pad.rstN = true ∨
      i = .supReset ∧ s.pwr.released = true ∧ s.reg.supState ≠ .busy ∧ s.reg.supArg.toNat / 65536 = 0xA55A) ∧
    (h.trigger = 1 ∨ h.trigger = 2 ∨ h.trigger = 3) ∧
    (h.cooling = false) :=
  ⟨held ⟨3, false, false, false⟩, ⟨3, false, false, false⟩, .rstNAssert, by decide +kernel⟩

theorem wit_offHoldEnds_4_1_b : ∃ (s : State) (h : Hold) (i : Instr), (s.pwr.hold = some h) ∧
    (s.pwr.run = none) ∧
    (i = .rstNAssert ∧ s.pad.rstN = true ∨
      i = .supReset ∧ s.pwr.released = true ∧ s.reg.supState ≠ .busy ∧ s.reg.supArg.toNat / 65536 = 0xA55A) ∧
    (h.trigger = 1 ∨ h.trigger = 2 ∨ h.trigger = 3) ∧
    (h.cooling = false) :=
  ⟨{ held ⟨3, false, false, false⟩ with reg := { supArg := 0xA55A0000 } }, ⟨3, false, false, false⟩, .supReset, by decide +kernel⟩

theorem wit_offHoldEnds_4_2 : ∃ (s : State) (h : Hold) (i : Instr), (s.pwr.hold = some h) ∧
    (s.pwr.run = none) ∧
    (i = .rstNAssert ∧ s.pad.rstN = true ∨
      i = .supReset ∧ s.pwr.released = true ∧ s.reg.supState ≠ .busy ∧ s.reg.supArg.toNat / 65536 = 0xA55A) ∧
    (h.trigger = 4 ∨ h.cooling = true) :=
  ⟨held ⟨4, true, false, false⟩, ⟨4, true, false, false⟩, .rstNAssert, by decide +kernel⟩

theorem wit_offHoldEnds_4_2_b : ∃ (s : State) (h : Hold) (i : Instr), (s.pwr.hold = some h) ∧
    (s.pwr.run = none) ∧
    (i = .rstNAssert ∧ s.pad.rstN = true ∨
      i = .supReset ∧ s.pwr.released = true ∧ s.reg.supState ≠ .busy ∧ s.reg.supArg.toNat / 65536 = 0xA55A) ∧
    (h.trigger = 4 ∨ h.cooling = true) :=
  ⟨{ held ⟨2, true, false, false⟩ with reg := { supArg := 0xA55A0000 } }, ⟨2, true, false, false⟩, .supReset, by decide +kernel⟩

theorem wit_offHoldEnds_5 : ∃ (s : State) (h : Hold), (s.pwr.hold = some h) ∧
    (h.asked = true) ∧
    (s.pwr.hot = true ∨ h.cooling = true) :=
  ⟨held ⟨2, true, true, false⟩, ⟨2, true, true, false⟩, by decide +kernel⟩

theorem wit_autoExposure_1 : ∃ (s : State) (p : Nat) (x : StatsSet), (p < 16) ∧
    (s.pdp.stats = some x) ∧
    (s.ctl.ready = true) ∧
    (s.wdg.halted = false) ∧
    (s.stored (profileId p 6) = 1) ∧
    (x.ofProfile p ≠ []) ∧
    (spFind p s.ets.aeDone ≠ some x.capture) ∧
    (p ∉ x.autos) :=
  ⟨{ up with par := { values := [(profileId 0 6, 1)] }, pdp := { stats := some { stats0 with autos := [] } } }, 0, { stats0 with autos := [] }, by decide +kernel⟩

theorem wit_blackLevel_1_1 : ∃ (p : PdpJob) (lo : Nat) (b : Nat) (j : Nat) (par : Nat) (a : List Int) (c : List Int), (a = p.darkSamples lo b j par) ∧
    (c = (p.darkSamples (lo + 16) b j par).filter (fun (v : Int) => decide ((v * a.length - a.foldl (· + ·) 0).natAbs ≤ 2048 * a.length))) ∧
    (a ≠ []) ∧
    (c ≠ []) :=
  ⟨jobDark 32, 0, 3, 0, 1, (jobDark 32).darkSamples 0 3 0 1, ((jobDark 32).darkSamples 16 3 0 1).filter (fun (v : Int) => decide ((v * ((jobDark 32).darkSamples 0 3 0 1).length - ((jobDark 32).darkSamples 0 3 0 1).foldl (· + ·) 0).natAbs ≤ 2048 * ((jobDark 32).darkSamples 0 3 0 1).length)), by decide +kernel⟩

theorem wit_blackLevel_1_2 : ∃ (p : PdpJob) (lo : Nat) (b : Nat) (j : Nat) (par : Nat) (a : List Int) (c : List Int), (a = p.darkSamples lo b j par) ∧
    (c = (p.darkSamples (lo + 16) b j par).filter (fun (v : Int) => decide ((v * a.length - a.foldl (· + ·) 0).natAbs ≤ 2048 * a.length))) ∧
    (a ≠ []) ∧
    (c = []) :=
  ⟨jobDark 16, 0, 3, 0, 1, (jobDark 16).darkSamples 0 3 0 1, ((jobDark 16).darkSamples 16 3 0 1).filter (fun (v : Int) => decide ((v * ((jobDark 16).darkSamples 0 3 0 1).length - ((jobDark 16).darkSamples 0 3 0 1).foldl (· + ·) 0).natAbs ≤ 2048 * ((jobDark 16).darkSamples 0 3 0 1).length)), by decide +kernel⟩

theorem wit_blackLevel_1_3 : ∃ (p : PdpJob) (lo : Nat) (b : Nat) (j : Nat) (par : Nat) (a : List Int) (c : List Int), (a = p.darkSamples lo b j par) ∧
    (c = (p.darkSamples (lo + 16) b j par).filter (fun (v : Int) => decide ((v * a.length - a.foldl (· + ·) 0).natAbs ≤ 2048 * a.length))) ∧
    (a = []) :=
  ⟨jobDark 0, 0, 3, 0, 1, (jobDark 0).darkSamples 0 3 0 1, ((jobDark 0).darkSamples 16 3 0 1).filter (fun (v : Int) => decide ((v * ((jobDark 0).darkSamples 0 3 0 1).length - ((jobDark 0).darkSamples 0 3 0 1).foldl (· + ·) 0).natAbs ≤ 2048 * ((jobDark 0).darkSamples 0 3 0 1).length)), by decide +kernel⟩

theorem wit_blackLevel_3_1 : ∃ (p : PdpJob) (prev : List (Nat × Int)) (j : Nat) (b : Nat) (par : Nat), (canonFrom 4096 0 prev = true) ∧
    (j < p.capture.conv) ∧
    (b < 4) ∧
    (par < 2) :=
  ⟨jobDark 32, [(1, 500)], 0, 3, 1, by decide +kernel⟩

theorem wit_blackLevel_3_2 : ∃ (p : PdpJob) (prev : List (Nat × Int)) (k : Nat), (canonFrom 4096 0 prev = true) ∧
    (8 * p.capture.conv ≤ k) :=
  ⟨jobDark 32, [(1, 500)], 8, by decide +kernel⟩

theorem wit_blackLevel_3_3 : ∃ (p : PdpJob) (prev : List (Nat × Int)) (j : Nat) (b : Nat) (k : Nat), (canonFrom 4096 0 prev = true) ∧
    (j < p.capture.conv) ∧
    (b < 4) ∧
    (k < 64) :=
  ⟨jobDark 32, [(1, 500)], 0, 3, 63, by decide +kernel⟩

theorem wit_blackLevel_5_1 : ∃ (p : PdpJob) (b : Nat) (j : Nat) (black : List Sample) (l : List Int), (l = (black.zipIdx.filter (fun x => !x.1.sat)).map (fun x => x.1.v - spGet 4096 (ocolKey j b x.2) p.ocol)) ∧
    (l = []) :=
  ⟨jobDark 0, 0, 0, List.replicate 64 (⟨262128, true⟩ : Sample), [], by decide +kernel⟩

theorem wit_blackLevel_5_2 : ∃ (p : PdpJob) (b : Nat) (j : Nat) (black : List Sample) (l : List Int), (l = (black.zipIdx.filter (fun x => !x.1.sat)).map (fun x => x.1.v - spGet 4096 (ocolKey j b x.2) p.ocol)) ∧
    (l ≠ []) :=
  ⟨jobDark 0, 0, 0, [(⟨4100, false⟩ : Sample)], [4], by decide +kernel⟩

theorem wit_blackLevel_6_1 : ∃ (x : Nat) (r : RowData), (r.active[x]? = some none) :=
  ⟨1, (⟨[], [some ⟨5000, false⟩, none]⟩ : RowData), by decide +kernel⟩

theorem wit_blackLevel_6_2 : ∃ (x : Nat) (r : RowData) (s : _), (r.active[x]? = some (some s)) :=
  ⟨0, (⟨[], [some ⟨5000, false⟩, none]⟩ : RowData), (⟨5000, false⟩ : Sample), by decide +kernel⟩

theorem wit_defectCorrection_1_1 : ∃ (p : PdpJob) (y : Nat) (x : Nat) (j : Nat) (d : Defect), (d ∈ p.latch.defects) ∧
    (entryMatches p y x j d) :=
  ⟨jobBad [(⟨37, 35, 0, 5⟩ : Defect)], 35, 5, 0, (⟨37, 35, 0, 5⟩ : Defect), by and_intros <;> first | decide +kernel | rfl | (unfold entryMatches; decide +kernel)⟩

theorem wit_defectCorrection_1_2_1 : ∃ (p : PdpJob) (y : Nat) (x : Nat) (j : Nat) (d : Defect), (p.defectAt (p.rowDefects y) y x j = some d) :=
  ⟨jobBad [(⟨37, 35, 0, 5⟩ : Defect)], 35, 5, 0, (⟨37, 35, 0, 5⟩ : Defect), by decide +kernel⟩

theorem wit_defectCorrection_1_2_2 : ∃ (p : PdpJob) (y : Nat) (x : Nat) (j : Nat) (d : Defect), (p.defectAt (p.rowDefects y) y x j = some d) :=
  ⟨jobBad [(⟨37, 35, 0, 5⟩ : Defect)], 35, 5, 0, (⟨37, 35, 0, 5⟩ : Defect), by decide +kernel⟩

theorem wit_defectCorrection_2_1 : ∃ (p : PdpJob) (i : Nat) (x : Nat) (j : Nat) (n : Nat) (r : Row) (s : Sample) (a : Option Sample) (b : Option Sample) (c : Option Sample) (d : Option Sample), (p.rows[i]? = some r) ∧
    (p.sample i x j = some s) ∧
    (n = (if p.mono then 1 else 2)) ∧
    (a = neighbourAt p j (n ≤ x) i (x - n)) ∧
    (b = neighbourAt p j true i (x + n)) ∧
    (c = neighbourAt p j (n ≤ i) (i - n) x) ∧
    (d = neighbourAt p j true (i + n) x) ∧
    (p.latch.defectOn = false ∨ p.defectAt (p.rowDefects r.y) r.y x j = none) :=
  ⟨jobBad [], 3, 5, 0, 2, (⟨35, [⟨[], List.replicate 16 (some ⟨1000, false⟩)⟩]⟩ : Row), (⟨1000, false⟩ : Sample), neighbourAt (jobBad []) 0 true 3 3, neighbourAt (jobBad []) 0 true 3 7, neighbourAt (jobBad []) 0 true 1 5, neighbourAt (jobBad []) 0 true 5 5, by decide +kernel⟩

theorem wit_defectCorrection_2_2_1 : ∃ (p : PdpJob) (i : Nat) (x : Nat) (j : Nat) (n : Nat) (r : Row) (s : Sample) (a : Option Sample) (b : Option Sample) (c : Option Sample) (d : Option Sample) (e : Defect) (own : List Sample) (all : List Sample), (p.rows[i]? = some r) ∧
    (p.sample i x j = some s) ∧
    (n = (if p.mono then 1 else 2)) ∧
    (a = neighbourAt p j (n ≤ x) i (x - n)) ∧
    (b = neighbourAt p j true i (x + n)) ∧
    (c = neighbourAt p j (n ≤ i) (i - n) x) ∧
    (d = neighbourAt p j true (i + n) x) ∧
    (p.latch.defectOn = true) ∧
    (p.defectAt (p.rowDefects r.y) r.y x j = some e) ∧
    (all = [a, b, c, d].filterMap id) ∧
    (own = ((if e.method = 0 then [a, b] else if e.method = 1 then [c, d] else [a, b, c, d]).filterMap id)) ∧
    (e.method = 3 ∨ all = []) :=
  ⟨jobBad [(⟨37, 35, 3, 5⟩ : Defect)], 3, 5, 0, 2, (⟨35, [⟨[], List.replicate 16 (some ⟨1000, false⟩)⟩]⟩ : Row), (⟨1000, false⟩ : Sample), neighbourAt (jobBad [(⟨37, 35, 3, 5⟩ : Defect)]) 0 true 3 3, neighbourAt (jobBad [(⟨37, 35, 3, 5⟩ : Defect)]) 0 true 3 7, neighbourAt (jobBad [(⟨37, 35, 3, 5⟩ : Defect)]) 0 true 1 5, neighbourAt (jobBad [(⟨37, 35, 3, 5⟩ : Defect)]) 0 true 5 5, (⟨37, 35, 3, 5⟩ : Defect), List.replicate 4 (⟨1000, false⟩ : Sample), List.replicate 4 (⟨1000, false⟩ : Sample), by decide +kernel⟩

theorem wit_defectCorrection_2_2_2_1 : ∃ (p : PdpJob) (i : Nat) (x : Nat) (j : Nat) (n : Nat) (r : Row) (s : Sample) (a : Option Sample) (b : Option Sample) (c : Option Sample) (d : Option Sample) (e : Defect) (own : List Sample) (all : List Sample), (p.rows[i]? = some r) ∧
    (p.sample i x j = some s) ∧
    (n = (if p.mono then 1 else 2)) ∧
    (a = neighbourAt p j (n ≤ x) i (x - n)) ∧
    (b = neighbourAt p j true i (x + n)) ∧
    (c = neighbourAt p j (n ≤ i) (i - n) x) ∧
    (d = neighbourAt p j true (i + n) x) ∧
    (p.latch.defectOn = true) ∧
    (p.defectAt (p.rowDefects r.y) r.y x j = some e) ∧
    (all = [a, b, c, d].filterMap id) ∧
    (own = ((if e.method = 0 then [a, b] else if e.method = 1 then [c, d] else [a, b, c, d]).filterMap id)) ∧
    (e.method ≠ 3) ∧
    (own ≠ []) :=
  ⟨jobBad [(⟨37, 35, 0, 5⟩ : Defect)], 3, 5, 0, 2, (⟨35, [⟨[], List.replicate 16 (some ⟨1000, false⟩)⟩]⟩ : Row), (⟨1000, false⟩ : Sample), neighbourAt (jobBad [(⟨37, 35, 0, 5⟩ : Defect)]) 0 true 3 3, neighbourAt (jobBad [(⟨37, 35, 0, 5⟩ : Defect)]) 0 true 3 7, neighbourAt (jobBad [(⟨37, 35, 0, 5⟩ : Defect)]) 0 true 1 5, neighbourAt (jobBad [(⟨37, 35, 0, 5⟩ : Defect)]) 0 true 5 5, (⟨37, 35, 0, 5⟩ : Defect), List.replicate 2 (⟨1000, false⟩ : Sample), List.replicate 4 (⟨1000, false⟩ : Sample), by decide +kernel⟩

theorem wit_defectCorrection_2_2_2_2 : ∃ (p : PdpJob) (i : Nat) (x : Nat) (j : Nat) (n : Nat) (r : Row) (s : Sample) (a : Option Sample) (b : Option Sample) (c : Option Sample) (d : Option Sample) (e : Defect) (own : List Sample) (all : List Sample), (p.rows[i]? = some r) ∧
    (p.sample i x j = some s) ∧
    (n = (if p.mono then 1 else 2)) ∧
    (a = neighbourAt p j (n ≤ x) i (x - n)) ∧
    (b = neighbourAt p j true i (x + n)) ∧
    (c = neighbourAt p j (n ≤ i) (i - n) x) ∧
    (d = neighbourAt p j true (i + n) x) ∧
    (p.latch.defectOn = true) ∧
    (p.defectAt (p.rowDefects r.y) r.y x j = some e) ∧
    (all = [a, b, c, d].filterMap id) ∧
    (own = ((if e.method = 0 then [a, b] else if e.method = 1 then [c, d] else [a, b, c, d]).filterMap id)) ∧
    (e.method ≠ 3) ∧
    (own ≠ []) :=
  ⟨jobBad [(⟨37, 35, 0, 5⟩ : Defect)], 3, 5, 0, 2, (⟨35, [⟨[], List.replicate 16 (some ⟨1000, false⟩)⟩]⟩ : Row), (⟨1000, false⟩ : Sample), neighbourAt (jobBad [(⟨37, 35, 0, 5⟩ : Defect)]) 0 true 3 3, neighbourAt (jobBad [(⟨37, 35, 0, 5⟩ : Defect)]) 0 true 3 7, neighbourAt (jobBad [(⟨37, 35, 0, 5⟩ : Defect)]) 0 true 1 5, neighbourAt (jobBad [(⟨37, 35, 0, 5⟩ : Defect)]) 0 true 5 5, (⟨37, 35, 0, 5⟩ : Defect), List.replicate 2 (⟨1000, false⟩ : Sample), List.replicate 4 (⟨1000, false⟩ : Sample), by decide +kernel⟩

theorem wit_defectCorrection_2_2_3_1 : ∃ (p : PdpJob) (i : Nat) (x : Nat) (j : Nat) (n : Nat) (r : Row) (s : Sample) (a : Option Sample) (b : Option Sample) (c : Option Sample) (d : Option Sample) (e : Defect) (own : List Sample) (all : List Sample), (p.rows[i]? = some r) ∧
    (p.sample i x j = some s) ∧
    (n = (if p.mono then 1 else 2)) ∧
    (a = neighbourAt p j (n ≤ x) i (x - n)) ∧
    (b = neighbourAt p j true i (x + n)) ∧
    (c = neighbourAt p j (n ≤ i) (i - n) x) ∧
    (d = neighbourAt p j true (i + n) x) ∧
    (p.latch.defectOn = true) ∧
    (p.defectAt (p.rowDefects r.y) r.y x j = some e) ∧
    (all = [a, b, c, d].filterMap id) ∧
    (own = ((if e.method = 0 then [a, b] else if e.method = 1 then [c, d] else [a, b, c, d]).filterMap id)) ∧
    (e.method ≠ 3) ∧
    (own = []) ∧
    (all ≠ []) :=
  ⟨jobBad [(⟨35, 35, 0, 5⟩ : Defect), (⟨37, 35, 0, 5⟩ : Defect), (⟨39, 35, 0, 5⟩ : Defect)], 3, 5, 0, 2, (⟨35, [⟨[], List.replicate 16 (some ⟨1000, false⟩)⟩]⟩ : Row), (⟨1000, false⟩ : Sample), neighbourAt (jobBad [(⟨35, 35, 0, 5⟩ : Defect), (⟨37, 35, 0, 5⟩ : Defect), (⟨39, 35, 0, 5⟩ : Defect)]) 0 true 3 3, neighbourAt (jobBad [(⟨35, 35, 0, 5⟩ : Defect), (⟨37, 35, 0, 5⟩ : Defect), (⟨39, 35, 0, 5⟩ : Defect)]) 0 true 3 7, neighbourAt (jobBad [(⟨35, 35, 0, 5⟩ : Defect), (⟨37, 35, 0, 5⟩ : Defect), (⟨39, 35, 0, 5⟩ : Defect)]) 0 true 1 5, neighbourAt (jobBad [(⟨35, 35, 0, 5⟩ : Defect), (⟨37, 35, 0, 5⟩ : Defect), (⟨39, 35, 0, 5⟩ : Defect)]) 0 true 5 5, (⟨37, 35, 0, 5⟩ : Defect), [], List.replicate 2 (⟨1000, false⟩ : Sample), by decide +kernel⟩

theorem wit_defectCorrection_2_2_3_2 : ∃ (p : PdpJob) (i : Nat) (x : Nat) (j : Nat) (n : Nat) (r : Row) (s : Sample) (a : Option Sample) (b : Option Sample) (c : Option Sample) (d : Option Sample) (e : Defect) (own : List Sample) (all : List Sample), (p.rows[i]? = some r) ∧
    (p.sample i x j = some s) ∧
    (n = (if p.mono then 1 else 2)) ∧
    (a = neighbourAt p j (n ≤ x) i (x - n)) ∧
    (b = neighbourAt p j true i (x + n)) ∧
    (c = neighbourAt p j (n ≤ i) (i - n) x) ∧
    (d = neighbourAt p j true (i + n) x) ∧
    (p.latch.defectOn = true) ∧
    (p.defectAt (p.rowDefects r.y) r.y x j = some e) ∧
    (all = [a, b, c, d].filterMap id) ∧
    (own = ((if e.method = 0 then [a, b] else if e.method = 1 then [c, d] else [a, b, c, d]).filterMap id)) ∧
    (e.method ≠ 3) ∧
    (own = []) ∧
    (all ≠ []) :=
  ⟨jobBad [(⟨35, 35, 0, 5⟩ : Defect), (⟨37, 35, 0, 5⟩ : Defect), (⟨39, 35, 0, 5⟩ : Defect)], 3, 5, 0, 2, (⟨35, [⟨[], List.replicate 16 (some ⟨1000, false⟩)⟩]⟩ : Row), (⟨1000, false⟩ : Sample), neighbourAt (jobBad [(⟨35, 35, 0, 5⟩ : Defect), (⟨37, 35, 0, 5⟩ : Defect), (⟨39, 35, 0, 5⟩ : Defect)]) 0 true 3 3, neighbourAt (jobBad [(⟨35, 35, 0, 5⟩ : Defect), (⟨37, 35, 0, 5⟩ : Defect), (⟨39, 35, 0, 5⟩ : Defect)]) 0 true 3 7, neighbourAt (jobBad [(⟨35, 35, 0, 5⟩ : Defect), (⟨37, 35, 0, 5⟩ : Defect), (⟨39, 35, 0, 5⟩ : Defect)]) 0 true 1 5, neighbourAt (jobBad [(⟨35, 35, 0, 5⟩ : Defect), (⟨37, 35, 0, 5⟩ : Defect), (⟨39, 35, 0, 5⟩ : Defect)]) 0 true 5 5, (⟨37, 35, 0, 5⟩ : Defect), [], List.replicate 2 (⟨1000, false⟩ : Sample), by decide +kernel⟩

theorem wit_merge_1_1 : ∃ (l : PdpLatch) (h : Sample) (k0 : Nat) (k1 : Nat) (q : Nat) (ah : Int), (l.kneeH = k0 + 65536 * k1) ∧
    (k0 < 65536) ∧
    (k1 = k0 + 2 ^ q) ∧
    (0 < l.dcg) ∧
    (ah = (8192 * h.v + l.dcg) / (2 * l.dcg)) ∧
    (h.sat = false) ∧
    (h.v ≤ 16 * k0) :=
  ⟨{ latch0 with kneeH := 0x38003000, kneeL := 0x30002800 }, (⟨196608, false⟩ : Sample), 12288, 14336, 11, 49152, by decide +kernel⟩

theorem wit_merge_1_2 : ∃ (l : PdpLatch) (h : Sample) (k0 : Nat) (k1 : Nat) (q : Nat) (ah : Int), (l.kneeH = k0 + 65536 * k1) ∧
    (k0 < 65536) ∧
    (k1 = k0 + 2 ^ q) ∧
    (0 < l.dcg) ∧
    (ah = (8192 * h.v + l.dcg) / (2 * l.dcg)) ∧
    (h.sat = true ∨ 16 * k1 ≤ h.v) :=
  ⟨{ latch0 with kneeH := 0x38003000, kneeL := 0x30002800 }, (⟨262128, true⟩ : Sample), 12288, 14336, 11, 65532, by decide +kernel⟩

theorem wit_merge_1_3 : ∃ (l : PdpLatch) (h : Sample) (k0 : Nat) (k1 : Nat) (q : Nat) (ah : Int), (l.kneeH = k0 + 65536 * k1) ∧
    (k0 < 65536) ∧
    (k1 = k0 + 2 ^ q) ∧
    (0 < l.dcg) ∧
    (ah = (8192 * h.v + l.dcg) / (2 * l.dcg)) ∧
    (h.sat = false) ∧
    (16 * k0 ≤ h.v) ∧
    (h.v ≤ 16 * k1) :=
  ⟨{ latch0 with kneeH := 0x38003000, kneeL := 0x30002800 }, (⟨212992, false⟩ : Sample), 12288, 14336, 11, 53248, by decide +kernel⟩

theorem wit_merge_2_1 : ∃ (l : PdpLatch) (lo : Sample) (s : Sample) (ratio : Nat) (k0 : Nat) (k1 : Nat) (q : Nat) (bs : Int), (l.kneeL = k0 + 65536 * k1) ∧
    (k0 < 65536) ∧
    (k1 = k0 + 2 ^ q) ∧
    (bs = (if s.sat then 268435440 else (2 * s.v * ratio + 65536) / 131072)) ∧
    (lo.sat = false) ∧
    (lo.v ≤ 16 * k0) :=
  ⟨{ latch0 with kneeH := 0x38003000, kneeL := 0x30002800 }, (⟨52640, false⟩ : Sample), (⟨816, false⟩ : Sample), 4194572, 10240, 12288, 11, 52227, by decide +kernel⟩

theorem wit_merge_2_2 : ∃ (l : PdpLatch) (lo : Sample) (s : Sample) (ratio : Nat) (k0 : Nat) (k1 : Nat) (q : Nat) (bs : Int), (l.kneeL = k0 + 65536 * k1) ∧
    (k0 < 65536) ∧
    (k1 = k0 + 2 ^ q) ∧
    (bs = (if s.sat then 268435440 else (2 * s.v * ratio + 65536) / 131072)) ∧
    (lo.sat = true ∨ 16 * k1 ≤ lo.v) :=
  ⟨{ latch0 with kneeH := 0x38003000, kneeL := 0x30002800 }, (⟨224000, false⟩ : Sample), (⟨48000, false⟩ : Sample), 4194572, 10240, 12288, 11, 3072196, by decide +kernel⟩

theorem wit_merge_2_3 : ∃ (l : PdpLatch) (lo : Sample) (s : Sample) (ratio : Nat) (k0 : Nat) (k1 : Nat) (q : Nat) (bs : Int), (l.kneeL = k0 + 65536 * k1) ∧
    (k0 < 65536) ∧
    (k1 = k0 + 2 ^ q) ∧
    (bs = (if s.sat then 268435440 else (2 * s.v * ratio + 65536) / 131072)) ∧
    (lo.sat = false) ∧
    (16 * k0 ≤ lo.v) ∧
    (lo.v < 16 * k1) :=
  ⟨{ latch0 with kneeH := 0x38003000, kneeL := 0x30002800 }, (⟨180224, false⟩ : Sample), (⟨2816, false⟩ : Sample), 4194572, 10240, 12288, 11, 180236, by decide +kernel⟩

theorem wit_merge_3_1 : ∃ (c : Capture) (p : Nat) (u : ProfileUse), (c.use p = some u) ∧
    (u.delivered c.kind .b = 0) :=
  ⟨shot 0, 0, ({ profile := 0, slices := 1, ea := 125000, eb := 0, period := 125003, spacing := 0, gain := 0, span := 125000, offset := 0 } : ProfileUse), by decide +kernel⟩

theorem wit_merge_3_2 : ∃ (c : Capture) (p : Nat) (u : ProfileUse), (c.use p = some u) ∧
    (u.delivered c.kind .b ≠ 0) :=
  ⟨{ shot 0 with kind := 1, profiles := [({ profile := 0, slices := 8, ea := 125000, eb := 1953, period := 156250, spacing := 0, gain := 0, span := 125000, offset := 0 } : ProfileUse)] }, 0, ({ profile := 0, slices := 8, ea := 125000, eb := 1953, period := 156250, spacing := 0, gain := 0, span := 125000, offset := 0 } : ProfileUse), by decide +kernel⟩

theorem wit_merge_4_1 : ∃ (p : PdpJob) (i : Nat) (r : Row), (p.rows[i]? = some r) ∧
    (p.capture.kind ≠ 1) :=
  ⟨jobBad [(⟨37, 35, 0, 5⟩ : Defect)], 3, (⟨35, [⟨[], List.replicate 16 (some ⟨1000, false⟩)⟩]⟩ : Row), by decide +kernel⟩

theorem wit_merge_4_2 : ∃ (p : PdpJob) (i : Nat) (x : Nat) (r : Row) (k : Nat × Bool), (p.rows[i]? = some r) ∧
    (p.capture.kind = 1) ∧
    (k = p.capture.ratio (spGet 0 (tileOf r.y x) p.capture.tilemap)) :=
  ⟨{ jobBad [] with capture := { shot 0 with kind := 1 } }, 3, 5, (⟨35, [⟨[], List.replicate 16 (some ⟨1000, false⟩)⟩]⟩ : Row), (134217728, true), by decide +kernel⟩

theorem wit_binning_1_1 : ∃ (g : ViewGen) (mono : Bool) (r : Nat) (a : Nat) (b : Nat), (g.b = 2) ∧
    (r < 4) ∧
    (a = (if mono then [0, 3, 5, 6] else [0, 1, 6, 7]).getD r 0) ∧
    (b = (if mono then [1, 2, 4, 7] else [2, 3, 4, 5]).getD r 0) ∧
    (g.kh = 0) :=
  ⟨({ x0 := 16, y0 := 8, width := 64, height := 64, bin := 1 } : ViewGen), false, 3, 7, 5, by decide +kernel⟩

theorem wit_binning_1_2_1 : ∃ (g : ViewGen) (mono : Bool) (r : Nat) (a : Nat) (b : Nat), (g.b = 2) ∧
    (r < 4) ∧
    (a = (if mono then [0, 3, 5, 6] else [0, 1, 6, 7]).getD r 0) ∧
    (b = (if mono then [1, 2, 4, 7] else [2, 3, 4, 5]).getD r 0) ∧
    (g.kv = 0) :=
  ⟨({ x0 := 16, y0 := 8, width := 64, height := 64, bin := 1 } : ViewGen), false, 3, 7, 5, by decide +kernel⟩

theorem wit_binning_1_2_2 : ∃ (g : ViewGen) (mono : Bool) (r : Nat) (a : Nat) (b : Nat), (g.b = 2) ∧
    (r < 4) ∧
    (a = (if mono then [0, 3, 5, 6] else [0, 1, 6, 7]).getD r 0) ∧
    (b = (if mono then [1, 2, 4, 7] else [2, 3, 4, 5]).getD r 0) ∧
    (g.kv = 0) :=
  ⟨({ x0 := 16, y0 := 8, width := 64, height := 64, bin := 1 } : ViewGen), false, 3, 7, 5, by decide +kernel⟩

theorem wit_binning_1_1_b : ∃ (g : ViewGen) (mono : Bool) (r : Nat) (a : Nat) (b : Nat), (g.b = 2) ∧
    (r < 4) ∧
    (a = (if mono then [0, 3, 5, 6] else [0, 1, 6, 7]).getD r 0) ∧
    (b = (if mono then [1, 2, 4, 7] else [2, 3, 4, 5]).getD r 0) ∧
    (g.kh = 0) :=
  ⟨({ x0 := 16, y0 := 8, width := 64, height := 64, bin := 1 } : ViewGen), true, 2, 5, 4, by decide +kernel⟩

theorem wit_binning_2_1 : ∃ g : ViewGen, (g.b = 1) :=
  ⟨({ x0 := 16, y0 := 8, width := 64, height := 64, skip := 0x12 } : ViewGen), by decide +kernel⟩

theorem wit_binning_2_2 : ∃ g : ViewGen, (g.b = 1) :=
  ⟨({ x0 := 16, y0 := 8, width := 64, height := 64, skip := 0x12 } : ViewGen), by decide +kernel⟩

theorem wit_formats_1_1 : ∃ (l : PdpLatch) (s : Sample), (s.sat = true) ∧
    (l.shift20 ≤ 4) :=
  ⟨{ latch0 with shift20 := 4 }, (⟨262128, true⟩ : Sample), by decide +kernel⟩

theorem wit_formats_1_2 : ∃ (l : PdpLatch) (s : Sample), (s.sat = true) ∧
    (l.shift20 ≤ 4) :=
  ⟨{ latch0 with shift20 := 4 }, (⟨262128, true⟩ : Sample), by decide +kernel⟩

theorem wit_formats_1_3 : ∃ (l : PdpLatch) (s : Sample), (s.sat = true) ∧
    (l.shift20 ≤ 4) :=
  ⟨{ latch0 with shift20 := 4 }, (⟨262128, true⟩ : Sample), by decide +kernel⟩

theorem wit_formats_1_4 : ∃ (l : PdpLatch) (s : Sample), (s.sat = true) ∧
    (l.shift20 ≤ 4) :=
  ⟨{ latch0 with shift20 := 4 }, (⟨262128, true⟩ : Sample), by decide +kernel⟩

theorem wit_formats_2_1 : ∃ (l : PdpLatch) (s : Sample) (lp : Nat), (s.sat = false) ∧
    (lp : Int) = max 0 (min 16777215 ((s.v + 8) / 16 + l.linPedestal)) :=
  ⟨{ latch0 with linPedestal := 64, shift20 := 4 }, (⟨3072196, false⟩ : Sample), 192076, by decide +kernel⟩

theorem wit_formats_2_2 : ∃ (l : PdpLatch) (s : Sample) (lp : Nat), (s.sat = false) ∧
    (lp : Int) = max 0 (min 16777215 ((s.v + 8) / 16 + l.linPedestal)) :=
  ⟨{ latch0 with linPedestal := 64, shift20 := 4 }, (⟨3072196, false⟩ : Sample), 192076, by decide +kernel⟩

theorem wit_formats_2_3 : ∃ (l : PdpLatch) (s : Sample) (lp : Nat), (s.sat = false) ∧
    (lp : Int) = max 0 (min 16777215 ((s.v + 8) / 16 + l.linPedestal)) :=
  ⟨{ latch0 with linPedestal := 64, shift20 := 4 }, (⟨3072196, false⟩ : Sample), 192076, by decide +kernel⟩

theorem wit_formats_2_4 : ∃ (l : PdpLatch) (s : Sample) (lp : Nat), (s.sat = false) ∧
    (lp : Int) = max 0 (min 16777215 ((s.v + 8) / 16 + l.linPedestal)) :=
  ⟨{ latch0 with linPedestal := 64, shift20 := 4 }, (⟨3072196, false⟩ : Sample), 192076, by decide +kernel⟩

theorem wit_formats_3 : ∃ x u e y lp : Nat, ((x, u, e, y) ∈ breakpoints) ∧
    (x ≤ lp) ∧
    (lp < u) :=
  ⟨131072, 262144, 4, 40960, 192076, by decide +kernel⟩

theorem wit_formats_4_1 : ∃ a b : Nat, (a ≤ b) ∧
    (b ≤ 16777215) :=
  ⟨0, 16777215, by decide +kernel⟩

theorem wit_formats_4_2 : ∃ a b : Nat, (a ≤ b) ∧
    (b ≤ 16777215) :=
  ⟨0, 16777215, by decide +kernel⟩

theorem wit_formats_5 : ∃ f : Nat, (f < 4) :=
  ⟨3, by decide +kernel⟩

theorem wit_formats_6 : ∃ (w : Nat) (m : Nat) (l : List Nat), (∀ c, c ∈ l → c < 2 ^ w) ∧
    (m < l.length) :=
  ⟨12, 1, [4095, 5, 0], by decide +kernel⟩

theorem wit_formats_7_1 : ∃ (g : ViewGen) (m : Nat) (w : Nat), (g.format < 4) ∧
    (w = formatBits g.format) ∧
    (g.ow * w % 8 = 0) ∧
    (m < g.ow) :=
  ⟨({ width := 16, height := 2, format := 1 } : ViewGen), 15, 14, by decide +kernel⟩

theorem wit_formats_7_2 : ∃ (g : ViewGen) (m : Nat) (w : Nat), (g.format < 4) ∧
    (w = formatBits g.format) ∧
    (g.ow * w % 8 = 0) ∧
    (m < g.ow) :=
  ⟨({ width := 16, height := 2, format := 1 } : ViewGen), 15, 14, by decide +kernel⟩

theorem wit_statistics_1_1 : ∃ (p : PdpJob) (i : Nat) (x : Nat) (c : Sample), (c = p.corrected i x (if p.capture.kind = 1 then 1 else 0)) ∧
    (c.sat = true) :=
  ⟨{ jobBad [] with rows := [⟨32, [⟨[], [some ⟨262128, true⟩]⟩]⟩] }, 0, 0, (⟨262128, true⟩ : Sample), by decide +kernel⟩

theorem wit_statistics_1_2 : ∃ (p : PdpJob) (i : Nat) (x : Nat) (c : Sample), (c = p.corrected i x (if p.capture.kind = 1 then 1 else 0)) ∧
    (c.sat = false) :=
  ⟨jobBad [], 3, 5, (⟨1000, false⟩ : Sample), by decide +kernel⟩

theorem wit_statistics_2_1 : ∃ (p : PdpJob) (i : Nat) (r : Row), (p.rows[i]? = some r) :=
  ⟨jobBad [], 3, (⟨35, [⟨[], List.replicate 16 (some ⟨1000, false⟩)⟩]⟩ : Row), by decide +kernel⟩

theorem wit_statistics_2_2 : ∃ (p : PdpJob) (i : Nat) (r : Row), (p.rows[i]? = some r) :=
  ⟨jobBad [], 3, (⟨35, [⟨[], List.replicate 16 (some ⟨1000, false⟩)⟩]⟩ : Row), by decide +kernel⟩

theorem wit_statistics_2_3 : ∃ (p : PdpJob) (i : Nat) (r : Row), (p.rows[i]? = some r) :=
  ⟨jobBad [], 3, (⟨35, [⟨[], List.replicate 16 (some ⟨1000, false⟩)⟩]⟩ : Row), by decide +kernel⟩

theorem wit_statistics_2_4 : ∃ (p : PdpJob) (i : Nat) (r : Row), (p.rows[i]? = some r) ∧
    (p.capture.kind = 1) :=
  ⟨{ jobBad [] with capture := { shot 0 with kind := 1 } }, 3, (⟨35, [⟨[], List.replicate 16 (some ⟨1000, false⟩)⟩]⟩ : Row), by decide +kernel⟩

theorem wit_statistics_3_1 : ∃ (t : TileStat) (v : Nat), (v < 65536) ∧
    (t.bins.length = 64) :=
  ⟨(⟨List.replicate 64 0, 0, 0, 0, 3⟩ : TileStat), 65535, by decide +kernel⟩

theorem wit_statistics_3_2 : ∃ (t : TileStat) (v : Nat), (v < 65536) ∧
    (t.bins.length = 64) :=
  ⟨(⟨List.replicate 64 0, 0, 0, 0, 3⟩ : TileStat), 65535, by decide +kernel⟩

theorem wit_statistics_3_3 : ∃ (t : TileStat) (v : Nat), (v < 65536) ∧
    (t.bins.length = 64) :=
  ⟨(⟨List.replicate 64 0, 0, 0, 0, 3⟩ : TileStat), 65535, by decide +kernel⟩

theorem wit_statistics_3_4 : ∃ (t : TileStat) (v : Nat), (v < 65536) ∧
    (t.bins.length = 64) :=
  ⟨(⟨List.replicate 64 0, 0, 0, 0, 3⟩ : TileStat), 65535, by decide +kernel⟩

theorem wit_statistics_3_5 : ∃ (t : TileStat) (v : Nat) (k : _), (v < 65536) ∧
    (t.bins.length = 64) ∧
    (k < 64) :=
  ⟨(⟨List.replicate 64 0, 0, 0, 0, 3⟩ : TileStat), 65535, 63, by decide +kernel⟩

theorem wit_parameterWrites_2_2_b : ∃ (s : State) (m : Msg) (n : Nat) (l : _), (1 ≤ n) ∧
    (n ≤ 64) ∧
    (arrives s m 0x12 (88 + 12 * n)) ∧
    (authorised s m 1) ∧
    (m.field 4 2 = n) ∧
    ((∀ e ∈ m.entries, leAt 0 2 e ≠ 0x0C02) ∨ s.pin.ppsPulse ≠ some s.clk.ticks) ∧
    (stepsAll m.role 0 [] m.entries = none) ∧
    (l = writesOf m.entries) ∧
    (((s.takeMsg m).takeSequence m).lateFailure l = none) :=
  ⟨served (chalkMsg 0x12 (leBytes 2 2 ++ zeros 2 ++ leBytes 2 0x1839 ++ leBytes 2 4 ++ leBytes 8 100000 ++ leBytes 2 0x1830 ++ leBytes 2 4 ++ leBytes 8 90000)), chalkMsg 0x12 (leBytes 2 2 ++ zeros 2 ++ leBytes 2 0x1839 ++ leBytes 2 4 ++ leBytes 8 100000 ++ leBytes 2 0x1830 ++ leBytes 2 4 ++ leBytes 8 90000), 2, writesOf (chalkMsg 0x12 (leBytes 2 2 ++ zeros 2 ++ leBytes 2 0x1839 ++ leBytes 2 4 ++ leBytes 8 100000 ++ leBytes 2 0x1830 ++ leBytes 2 4 ++ leBytes 8 90000)).entries, by and_intros <;> first | decide +kernel | rfl | (unfold arrives; decide +kernel) | (unfold authorised; decide +kernel)⟩

theorem wit_parameterWrites_2_2_c : ∃ (s : State) (m : Msg) (n : Nat) (l : _), (1 ≤ n) ∧
    (n ≤ 64) ∧
    (arrives s m 0x12 (88 + 12 * n)) ∧
    (authorised s m 1) ∧
    (m.field 4 2 = n) ∧
    ((∀ e ∈ m.entries, leAt 0 2 e ≠ 0x0C02) ∨ s.pin.ppsPulse ≠ some s.clk.ticks) ∧
    (stepsAll m.role 0 [] m.entries = none) ∧
    (l = writesOf m.entries) ∧
    (((s.takeMsg m).takeSequence m).lateFailure l = none) :=
  ⟨served (chalkMsg 0x12 (leBytes 2 1 ++ zeros 2 ++ leBytes 2 0x0C02 ++ leBytes 2 8 ++ leBytes 8 5000000000)), chalkMsg 0x12 (leBytes 2 1 ++ zeros 2 ++ leBytes 2 0x0C02 ++ leBytes 2 8 ++ leBytes 8 5000000000), 1, writesOf (chalkMsg 0x12 (leBytes 2 1 ++ zeros 2 ++ leBytes 2 0x0C02 ++ leBytes 2 8 ++ leBytes 8 5000000000)).entries, by and_intros <;> first | decide +kernel | rfl | (unfold arrives; decide +kernel) | (unfold authorised; decide +kernel)⟩

theorem wit_parameterWrites_2_2_d : ∃ (s : State) (m : Msg) (n : Nat) (l : _), (1 ≤ n) ∧
    (n ≤ 64) ∧
    (arrives s m 0x12 (88 + 12 * n)) ∧
    (authorised s m 1) ∧
    (m.field 4 2 = n) ∧
    ((∀ e ∈ m.entries, leAt 0 2 e ≠ 0x0C02) ∨ s.pin.ppsPulse ≠ some s.clk.ticks) ∧
    (stepsAll m.role 0 [] m.entries = none) ∧
    (l = writesOf m.entries) ∧
    (((s.takeMsg m).takeSequence m).lateFailure l = none) :=
  ⟨{ served (chalkMsg 0x12 (leBytes 2 1 ++ zeros 2 ++ leBytes 2 0x1C02 ++ leBytes 2 1 ++ leBytes 8 1)) with lnk := { state := .up } }, chalkMsg 0x12 (leBytes 2 1 ++ zeros 2 ++ leBytes 2 0x1C02 ++ leBytes 2 1 ++ leBytes 8 1), 1, writesOf (chalkMsg 0x12 (leBytes 2 1 ++ zeros 2 ++ leBytes 2 0x1C02 ++ leBytes 2 1 ++ leBytes 8 1)).entries, by and_intros <;> first | decide +kernel | rfl | (unfold arrives; decide +kernel) | (unfold authorised; decide +kernel)⟩

theorem wit_parameterWrites_2_2_e : ∃ (s : State) (m : Msg) (n : Nat) (l : _), (1 ≤ n) ∧
    (n ≤ 64) ∧
    (arrives s m 0x12 (88 + 12 * n)) ∧
    (authorised s m 1) ∧
    (m.field 4 2 = n) ∧
    ((∀ e ∈ m.entries, leAt 0 2 e ≠ 0x0C02) ∨ s.pin.ppsPulse ≠ some s.clk.ticks) ∧
    (stepsAll m.role 0 [] m.entries = none) ∧
    (l = writesOf m.entries) ∧
    (((s.takeMsg m).takeSequence m).lateFailure l = none) :=
  ⟨{ served (chalkMsg 0x12 (leBytes 2 1 ++ zeros 2 ++ leBytes 2 0x1C00 ++ leBytes 2 1 ++ leBytes 8 0)) with lnk := { state := .up } }, chalkMsg 0x12 (leBytes 2 1 ++ zeros 2 ++ leBytes 2 0x1C00 ++ leBytes 2 1 ++ leBytes 8 0), 1, writesOf (chalkMsg 0x12 (leBytes 2 1 ++ zeros 2 ++ leBytes 2 0x1C00 ++ leBytes 2 1 ++ leBytes 8 0)).entries, by and_intros <;> first | decide +kernel | rfl | (unfold arrives; decide +kernel) | (unfold authorised; decide +kernel)⟩

theorem wit_levelChanges_1 : ∃ (s : State) (n : Nat) (level : Bool) (b : Bool), (b = (level != (s.pinField n 4 1 = 1))) ∧
    (s.pin.fixed.getLsbD n = true ∧ s.pin.samples.getLsbD n ≠ b) ∨ (s.pin.fixedBefore.getLsbD n = true ∧ s.pin.before.getLsbD n ≠ b) :=
  ⟨{ up with pin := { fixed := 8, samples := 0 } }, 3, true, true, by decide +kernel⟩

theorem wit_levelChanges_2_1 : ∃ (s : State) (n : Nat) (b : Bool), (s.sampled n = true) ∧
    (b = ((s.gpLand n).level.getD (s.pin.pads.getLsbD n) != (s.pinField n 4 1 = 1))) :=
  ⟨{ up with pin := { cfg := [(3, 1)], pads := 8, samples := 0 } }, 3, true, by decide +kernel⟩

theorem wit_levelChanges_2_2 : ∃ (s : State) (n : Nat) (b : Bool), (s.sampled n = true) ∧
    (b = ((s.gpLand n).level.getD (s.pin.pads.getLsbD n) != (s.pinField n 4 1 = 1))) ∧
    (s.pin.samples.getLsbD n = b) :=
  ⟨{ up with pin := { cfg := [(3, 1)], pads := 8, samples := 8 } }, 3, true, by decide +kernel⟩

theorem wit_levelChanges_2_3_1 : ∃ (s : State) (n : Nat) (b : Bool), (s.sampled n = true) ∧
    (b = ((s.gpLand n).level.getD (s.pin.pads.getLsbD n) != (s.pinField n 4 1 = 1))) ∧
    (s.pin.samples.getLsbD n ≠ b) :=
  ⟨{ up with pin := { cfg := [(3, 1)], pads := 8, samples := 0 } }, 3, true, by decide +kernel⟩

theorem wit_levelChanges_2_3_2 : ∃ (s : State) (n : Nat) (b : Bool), (s.sampled n = true) ∧
    (b = ((s.gpLand n).level.getD (s.pin.pads.getLsbD n) != (s.pinField n 4 1 = 1))) ∧
    (s.pin.samples.getLsbD n ≠ b) :=
  ⟨{ up with pin := { cfg := [(3, 1)], pads := 8, samples := 0 } }, 3, true, by decide +kernel⟩

theorem wit_levelChanges_2_3_3 : ∃ (s : State) (n : Nat) (b : Bool), (s.sampled n = true) ∧
    (b = ((s.gpLand n).level.getD (s.pin.pads.getLsbD n) != (s.pinField n 4 1 = 1))) ∧
    (s.pin.samples.getLsbD n ≠ b) :=
  ⟨{ up with pin := { cfg := [(3, 1)], pads := 8, samples := 0 } }, 3, true, by decide +kernel⟩

theorem wit_haltAtTick_1 : ∃ (s : State) (q : Nat) (x : Shade), (q < 4) ∧
    (s.shadeAt q = x) ∧
    (x.change = some .start) ∧
    (x.target = none) :=
  ⟨shading 0x520000 { shade0 with state := .idle, change := some .start }, 1, { shade0 with state := .idle, change := some .start }, by decide +kernel⟩

theorem wit_haltAtTick_2_4 : ∃ x : Shade, (x.target = none) :=
  ⟨shade0, by decide +kernel⟩

theorem wit_haltAtTick_2_5 : ∃ x : Shade, (x.target ≠ none) :=
  ⟨{ shade0 with target := some 9 }, by decide +kernel⟩

theorem wit_haltAtTick_2_6 : ∃ (x : Shade) (e : _), (x.waiting = some (.ticks e)) :=
  ⟨{ shade0 with waiting := some (.ticks 9) }, 9, by decide +kernel⟩

theorem wit_haltAtTick_2_7 : ∃ (x : Shade) (b : _) (m : _), (x.waiting = some (.pin b m)) :=
  ⟨{ shade0 with waiting := some (.pin 3 none) }, 3, (none : Option Nat), by decide +kernel⟩

theorem wit_haltAtTick_3_1 : ∃ (x : Shade) (e : Nat), (x.waiting = some (.ticks e)) :=
  ⟨{ shade0 with waiting := some (.ticks 9) }, 9, by decide +kernel⟩

theorem wit_haltAtTick_3_2 : ∃ (x : Shade) (b : Nat) (m : Option Nat), (x.waiting = some (.pin b m)) :=
  ⟨{ shade0 with waiting := some (.pin 3 none) }, 3, (none : Option Nat), by decide +kernel⟩

theorem wit_haltAtTick_3_3 : ∃ x : Shade, (x.waiting = none) ∧
    (x.target ≠ none) :=
  ⟨{ shade0 with target := some 9 }, by decide +kernel⟩

theorem wit_haltAtTick_4 : ∃ (s : State) (q : Nat) (b : Nat) (x : Shade) (w : Nat), (q < 4) ∧
    (s.shadeAt q = x) ∧
    (s.shadeWord q = w) ∧
    (x.change = some .resume) ∧
    (x.target = none) ∧
    (x.shifted = 0) ∧
    (x.drove = none) ∧
    (x.waiting = some (.pin b none)) :=
  ⟨shading 0x430005 { shade0 with state := .halted, change := some .resume, waiting := some (.pin 3 none) }, 1, 3, { shade0 with state := .halted, change := some .resume, waiting := some (.pin 3 none) }, 0x430005, by decide +kernel⟩

end Sys2Proof.Tests
end

/-! ## Proofs: column calibration (04) -/

namespace Sys2Proof.Machine

/-- round_half_up (R85) without division: `roundDiv x d` is the integer v with x ÷ d in [v − 1/2, v + 1/2). -/
theorem roundDiv_bounds (x : Int) {d : Nat} (hd : 0 < d) :
    2 * d * roundDiv x d ≤ 2 * x + d ∧ 2 * x + d < 2 * d * (roundDiv x d + 1) := by
  have hpos : (0 : Int) < 2 * d := by omega
  refine ⟨Int.mul_ediv_self_le (Int.ne_of_gt hpos), ?_⟩
  rw [Int.mul_add, Int.mul_one]
  exact Int.lt_mul_ediv_self_add hpos

/-- R88 on a conversion that is not saturated, with the entry's half for the conversion's gain. -/
theorem ColCal.apply_of_unsaturated {r : RawSample} {d : Nat} (h : rawCode r = (d, false)) (e : ColCal) (lcg : Bool) :
    e.apply lcg r = ⟨roundDiv ((16 * (d : Int) - (if lcg then e.lcgOffset else e.hcgOffset)) *
      ((if lcg then e.lcgGain else e.hcgGain : Nat) : Int)) 32768, false⟩ := by
  simp [ColCal.apply, h]

/-- R88 on a saturated conversion: the entry plays no part. -/
theorem ColCal.apply_of_saturated {r : RawSample} {d : Nat} (h : rawCode r = (d, true)) (e : ColCal) (lcg : Bool) :
    e.apply lcg r = ⟨16 * 16383, true⟩ := by
  simp [ColCal.apply, h]

theorem blackSample_eq {r : RawSample} {d : Nat} {sat : Bool} (h : rawCode r = (d, sat)) :
    blackSample r = ⟨16 * (d : Int), sat⟩ := by
  simp [blackSample, h]

/-- Settles O47: the three cases of R88, the first by the bounds of `roundDiv` at 32,768. -/
theorem columnCalibration : Obligations.ColumnCalibration := by
  intro e lcg r d x
  refine ⟨fun h hx => ?unsaturated, fun h => ColCal.apply_of_saturated h e lcg, blackSample_eq⟩
  case unsaturated =>
    rw [ColCal.apply_of_unsaturated h, ← hx]
    exact ⟨rfl, roundDiv_bounds x (d := 32768) (by decide)⟩

end Sys2Proof.Machine

/-! ## Proofs: the bytes of the tile map (13) -/

namespace Sys2Proof.Machine

/-! ### Fields of one byte, and stores written key by key -/

/-- The one-byte field at an offset inside the string is the byte there (R7). -/
theorem leAt_one {i : Nat} {bs : Bytes} (h : i < bs.length) : leAt i 1 bs = bs[i].toNat := by
  rw [leAt, slice, List.drop_eq_getElem_cons h, List.take_succ_cons]
  simp [leNat]

theorem bitsOf_lt (v lo n : Nat) : bitsOf v lo n < 2 ^ n := Nat.mod_lt _ (Nat.two_pow_pos n)

/-- After one write per key of `l`, a key of `l` holds what was written there and every other key what it held. -/
theorem spGet_foldl_spSet {α : Type} [DecidableEq α] {d : α} (f : Nat → α) (l : List Nat) (k : Nat) {m : Sparse α}
    (h : canonFrom d 0 m = true) :
    spGet d k (l.foldl (fun m j => spSet d j (f j) m) m) = if k ∈ l then f k else spGet d k m := by
  induction l generalizing m with
  | nil => simp
  | cons j l ih =>
    rw [List.foldl_cons, ih (spSet_wf j (f j) h)]
    by_cases hk : k = j
    · subst hk
      simp [spGet_spSet_same k (f k) h]
    · simp [spGet_spSet_other m (f j) hk, hk]

/-! ### Writing the map -/

@[simp] theorem tilemapBytes_length (m : List (Nat × Nat)) : (tilemapBytes m).length = 216 := by simp [tilemapBytes]

theorem getElem_tilemapBytes (m : List (Nat × Nat)) {i : Nat} (h : i < (tilemapBytes m).length) :
    (tilemapBytes m)[i] = BitVec.ofNat 8 (spGet 0 (2 * i) m + 16 * spGet 0 (2 * i + 1) m) := by
  simp [tilemapBytes]

/-- Byte `i` holds entries `2 * i` and `2 * i + 1` (R319): entries of 4 bits lose nothing in the byte. -/
theorem leAt_tilemapBytes {m : List (Nat × Nat)} (hm : ∀ i, i < 432 → spGet 0 i m < 16) {i : Nat} (hi : i < 216) :
    leAt i 1 (tilemapBytes m) = spGet 0 (2 * i) m + 16 * spGet 0 (2 * i + 1) m := by
  have hlow := hm (2 * i) (by omega)
  have hhigh := hm (2 * i + 1) (by omega)
  rw [leAt_one (by simpa using hi), getElem_tilemapBytes, BitVec.toNat_ofNat]
  exact Nat.mod_eq_of_lt (by omega)

/-- An even entry is the low half of its byte (R319). -/
theorem tilemapBytes_low {m : List (Nat × Nat)} (hm : ∀ i, i < 432 → spGet 0 i m < 16) {t : Nat} (ht : t < 432)
    (heven : t % 2 = 0) : leAt (t / 2) 1 (tilemapBytes m) % 16 = spGet 0 t m := by
  have hentry := hm t ht
  rw [leAt_tilemapBytes hm (by omega), show 2 * (t / 2) = t by omega]
  omega

/-- An odd entry is the high half of its byte (R319). -/
theorem tilemapBytes_high {m : List (Nat × Nat)} (hm : ∀ i, i < 432 → spGet 0 i m < 16) {t : Nat} (ht : t < 432)
    (hodd : t % 2 = 1) : leAt (t / 2) 1 (tilemapBytes m) / 16 = spGet 0 t m := by
  have hbelow := hm (2 * (t / 2)) (by omega)
  rw [leAt_tilemapBytes hm (by omega), show 2 * (t / 2) + 1 = t by omega]
  omega

/-! ### Reading it back -/

/-- Each entry read is 4 bits of its byte; past the last tile nothing is listed. -/
theorem spGet_decodeTilemap (b : Bytes) (t : Nat) :
    spGet 0 t (decodeTilemap b) = if t < 432 then bitsOf (leAt (t / 2) 1 b) (4 * (t % 2)) 4 else 0 := by
  rw [decodeTilemap, spGet_foldl_spSet (fun t => bitsOf (leAt (t / 2) 1 b) (4 * (t % 2)) 4) _ _ rfl]
  simp [spGet]

theorem spGet_decodeTilemap_lt (b : Bytes) (t : Nat) : spGet 0 t (decodeTilemap b) < 16 := by
  rw [spGet_decodeTilemap]
  split
  · exact bitsOf_lt _ _ 4
  · decide

/-- The two entries of byte `i` are its halves. -/
theorem decodeTilemap_halves {b : Bytes} (hb : b.length = 216) {i : Nat} (hi : i < b.length) :
    spGet 0 (2 * i) (decodeTilemap b) = b[i].toNat % 16 ∧ spGet 0 (2 * i + 1) (decodeTilemap b) = b[i].toNat / 16 := by
  have hbyte := b[i].isLt
  constructor
  · rw [spGet_decodeTilemap, if_pos (by omega), show 2 * i / 2 = i by omega, leAt_one hi]
    simp [bitsOf]
  · rw [spGet_decodeTilemap, if_pos (by omega), show (2 * i + 1) / 2 = i by omega, leAt_one hi]
    simp [bitsOf, Nat.add_mod]
    omega

/-- The bytes of a map that was read from bytes are those bytes: each is put together again from its halves. -/
theorem tilemapBytes_decodeTilemap {b : Bytes} (hb : b.length = 216) : tilemapBytes (decodeTilemap b) = b := by
  refine List.ext_getElem (by simp [hb]) fun i hi hib => ?_
  obtain ⟨hlow, hhigh⟩ := decodeTilemap_halves hb hib
  rw [getElem_tilemapBytes, hlow, hhigh, Nat.mod_add_div, BitVec.ofNat_toNat, BitVec.setWidth_eq]

/-- Settles O46: the halves of each byte written (tiles 61 and 62 are instances), and the bytes put together again from what was read. -/
theorem tileMapBytes : Obligations.TileMapBytes :=
  ⟨fun _ _ hm ht => ⟨tilemapBytes_low hm ht, tilemapBytes_high hm ht⟩,
    fun b hb => ⟨tilemapBytes_decodeTilemap hb, spGet_decodeTilemap_lt b⟩,
    fun _ hm => ⟨tilemapBytes_high hm (t := 61) (by decide) rfl, tilemapBytes_low hm (t := 62) (by decide) rfl⟩⟩

end Sys2Proof.Machine

namespace Sys2Proof.Machine

/-! ## Proofs: lists, and what a reset leaves of views and sequencers -/

theorem getD_of_length_le {α : Type} {l : List α} {i : Nat} (d : α) (h : l.length ≤ i) : l.getD i d = d := by
  rw [List.getD_eq_getElem?_getD, List.getElem?_eq_none h]
  rfl

theorem getD_toList_replicate {α : Type} (n i : Nat) (x : α) : (Vector.replicate n x).toList.getD i x = x := by
  rw [Vector.toList_replicate, List.getD_eq_getElem?_getD, List.getElem?_replicate]
  split <;> rfl

theorem State.viewAt_fresh {t : State} (h : t.view = State.reset.view) (v : Nat) : t.viewAt v = {} := by
  rw [State.viewAt, h]
  exact getD_toList_replicate 32 v ({} : View)

theorem forall_lt_four {P : Nat → Prop} (h0 : P 0) (h1 : P 1) (h2 : P 2) (h3 : P 3) {q : Nat} (hq : q < 4) : P q := by
  rcases (by omega : q = 0 ∨ q = 1 ∨ q = 2 ∨ q = 3) with rfl | rfl | rfl | rfl
  · exact h0
  · exact h1
  · exact h2
  · exact h3

/-! ## Proofs: what a message's answer keeps (12) -/

/-- A property of states that CTL's handling of a message keeps, whatever the message's own effect does (R288 to R295). -/
structure AnswerClosed (P : State → Prop) : Prop where
  take : ∀ s m, P s → P (s.takeMsg m)
  sequence : ∀ s m, P s → P (s.takeSequence m)
  send : ∀ (a : Answer) m keep, P a.s → P (a.send m keep)
  again : ∀ s m, P s → P (s.sendAgain m)

theorem check_keeps {P : State → Prop} {s : State} (l : List (Bool × Nat)) {f : Unit → Answer} (hs : P s) (h : P (f ()).s) :
    P (s.check l f).s := by
  unfold State.check
  dsimp only
  split
  · exact h
  · exact hs

theorem checkNumbered_keeps {P : State → Prop} {s : State} (first : Nat) (l : List (Bool × Nat)) {f : Unit → Answer} (hs : P s)
    (h : P (f ()).s) : P (s.checkNumbered first l f).s := by
  unfold State.checkNumbered
  split
  · exact hs
  · exact h

section Served
variable {P : State → Prop} {s : State} {mine : Msg → Bool} {row : MsgRow} {fits : Msg → Nat → Bool} {gen : State → Msg → Nat}
  {run : State → Msg → Answer}

theorem execute_keeps (hP : AnswerClosed P) (old : Bool) (m : Msg) (hs : P s) (hrun : ∀ t, P t → P (run t m).s) :
    P (s.execute row fits gen run old m) := by
  have hlate : ∀ t, P t → P (t.late row gen run m).s := fun t ht => check_keeps _ ht (hrun t ht)
  unfold State.execute
  dsimp only
  split
  · exact hP.send _ _ _ hs
  · split
    · exact hP.send _ _ _ (hlate s hs)
    · split
      · exact hP.send _ _ _ hs
      · split
        · exact hP.again _ _ hs
        · split
          · exact hP.send _ _ _ hs
          · exact hP.send _ _ _ (hlate _ (hP.sequence _ _ hs))

/-- What a message's own effect keeps, its row keeps. -/
theorem serve_keeps (hP : AnswerClosed P) (hs : P s) (hrun : ∀ t m, P t → P (run t m).s) :
    P (s.serve mine row fits gen run) := by
  unfold State.serve
  split
  · split
    · exact execute_keeps hP _ _ (hP.take _ _ hs) fun t => hrun t _
    · exact hs
  · exact hs

end Served

/-! ## Operations without a frame lemma of their own -/

/-- What placing a response leaves as it was. -/
theorem tryPlace_frame {s t : State} {r : Reply} (h : s.tryPlace r = some t) :
    t.pending = s.pending ∧ t.nvs = s.nvs ∧ t.sea = s.sea ∧ t.pin = s.pin := by
  unfold State.tryPlace at h
  dsimp only at h
  repeat' split at h
  all_goals cases h <;> simp

theorem placeFirst_frame {s t : State} {l rest : List Reply} {k : Nat} (h : s.placeFirst l = some (t, k, rest)) :
    t.pending = s.pending ∧ t.nvs = s.nvs ∧ t.sea = s.sea ∧ t.pin = s.pin := by
  induction l generalizing rest with
  | nil => cases h
  | cons r l ih =>
    unfold State.placeFirst at h
    split at h
    · next hp => cases h; exact tryPlace_frame hp
    · simp only [Option.map_eq_some_iff] at h
      obtain ⟨⟨u, j, l'⟩, hu, e⟩ := h
      cases e
      exact ih hu

@[simp] theorem State.placeNext_frame (s : State) :
    s.placeNext.pending = s.pending ∧ s.placeNext.nvs.mem = s.nvs.mem ∧ s.placeNext.sea = s.sea ∧ s.placeNext.pin = s.pin := by
  unfold State.placeNext
  split
  · next h => obtain ⟨h1, h2, h3, h4⟩ := placeFirst_frame h; simp [*]
  · simp

@[simp] theorem State.scanBoundary_frame (s : State) (x : BoundaryScan) :
    (s.scanBoundary x).pending = s.pending ∧ (s.scanBoundary x).nvs = s.nvs ∧ (s.scanBoundary x).sea = s.sea ∧
      (s.scanBoundary x).pin = s.pin := ⟨rfl, rfl, rfl, rfl⟩


/-! ## Proofs: no command touches the queue -/

@[simp] theorem State.wiped_pending (s : State) (por : Bool) : (s.wiped por).pending = s.pending := rfl

@[simp] theorem State.resetDevice_pending (s : State) (cause : Cause) (missing : BitVec 16) (record : Bool) :
    (s.resetDevice cause missing record).pending = s.pending := by
  simp [State.resetDevice]

@[simp] theorem State.leaveHold_pending (s : State) (y : Hold) : (s.leaveHold y).pending = s.pending := by
  simp [State.leaveHold]

@[simp] theorem State.cooled_pending (s : State) : s.cooled.pending = s.pending := by
  unfold State.cooled
  dsimp only
  repeat' split
  all_goals simp

@[simp] theorem State.askReset_pending (s : State) (cause : Cause) : (s.askReset cause).pending = s.pending := by
  unfold State.askReset
  repeat' split
  all_goals simp

@[simp] theorem State.powerLost_pending (s : State) (loss : PowerLoss) : (s.powerLost loss).pending = s.pending := by
  simp [State.powerLost]

@[simp] theorem State.carryOut_pending (s : State) (d : Decided) : (s.carryOut d).pending = s.pending := by
  simp [State.carryOut]

@[simp] theorem State.endRun_pending (s : State) (r : Run) : (s.endRun r).pending = s.pending := by
  unfold State.endRun
  dsimp only
  split <;> simp

theorem answerClosed_pending (l : List Instr) : AnswerClosed fun s => s.pending = l where
  take s m h := by simpa using h
  sequence s m h := by simpa using h
  send a m keep h := by simpa using h
  again s m h := by simpa using h

@[simp] theorem serve_pending {s : State} {mine : Msg → Bool} {row : MsgRow} {fits : Msg → Nat → Bool}
    {gen : State → Msg → Nat} {run : State → Msg → Answer} (hrun : ∀ t m, (run t m).s.pending = t.pending) :
    (s.serve mine row fits gen run).pending = s.pending :=
  serve_keeps (P := fun t => t.pending = s.pending) (answerClosed_pending _) rfl fun t m ht => (hrun t m).trans ht

theorem exec_pending {s t : State} {c : Instr} (e : exec c s = .next t) : t.pending = s.pending := by
  cases c <;> cases e
  case msgUnknown | msgNop | msgAttest => exact serve_pending fun _ _ => rfl
  all_goals repeat' split
  all_goals simp [State.serveCode, State.writeWord, State.padsFall]

/-- The state a command leaves. -/
def after (c : Instr) (s : State) : State :=
  match exec c s with
  | .next t => t
  | _ => s

theorem exec_eq_after (c : Instr) (s : State) : exec c s = .next (after c s) := by
  cases c <;> rfl

/-- Settles O3: every row of the table answers a next state, and no operation touches the queue. -/
theorem commandsGoOn : Obligations.CommandsGoOn :=
  ⟨fun _ _ _ e => exec_pending e, fun c s => ⟨after c s, exec_eq_after c s⟩⟩

/-! ## Proofs: what every command keeps of the non-volatile memory (07) -/

@[simp] theorem ite_nvs_mem (c : Prop) [Decidable c] (a b : Nvs) :
    (if c then a else b).mem = if c then a.mem else b.mem := apply_ite Nvs.mem c a b
@[simp] theorem ite_wf (c : Prop) [Decidable c] {a b : List Host.Cell} (ha : Memory.wf a = true) (hb : Memory.wf b = true) :
    Memory.wf (if c then a else b) = true := by
  split <;> assumption
@[simp] theorem check_mem_wf {s : State} (l : List (Bool × Nat)) {f : Unit → Answer} (hs : Memory.wf s.nvs.mem = true)
    (h : Memory.wf (f ()).s.nvs.mem = true) : Memory.wf (s.check l f).s.nvs.mem = true :=
  check_keeps (P := fun s => Memory.wf s.nvs.mem = true) l hs h
@[simp] theorem nvWrite_wf' (m : List Host.Cell) (a : Nat) (bs : Bytes) (h : Memory.wf m = true) :
    Memory.wf (nvWrite m a bs) = true := nvWrite_wf m a bs h
@[simp] theorem nvClear_wf' (m : List Host.Cell) (lo hi : Nat) (h : Memory.wf m = true) :
    Memory.wf (nvClear m lo hi) = true := nvClear_wf m lo hi h
@[simp] theorem nvCopy_wf' (m : List Host.Cell) (a b : Nat) (h : Memory.wf m = true) :
    Memory.wf (nvCopy m a b) = true := nvCopy_wf m a b h
@[simp] theorem nvBlock_wf' (m : List Host.Cell) (a : Nat) (b : Bytes) (h : Memory.wf m = true) :
    Memory.wf (nvBlock m a b) = true := nvBlock_wf m a b h
@[simp] theorem State.writeStage_mem_wf (s : State) (c : Commit) (h : Memory.wf s.nvs.mem = true) :
    Memory.wf (s.writeStage c).nvs.mem = true := by
  simp [State.writeStage, Nvs.setStage, h]

@[simp] theorem State.writeEntry_mem_wf (s : State) (c : Commit) (h : Memory.wf s.nvs.mem = true) :
    Memory.wf (s.writeEntry c).nvs.mem = true := by
  simp [State.writeEntry, h]

@[simp] theorem State.commitEntry_mem_wf (s : State) (c : Commit) (h : Memory.wf s.nvs.mem = true) :
    Memory.wf (s.commitEntry c).nvs.mem = true := by
  simp [State.commitEntry, h]

@[simp] theorem State.flushCommits_mem_wf (s : State) (h : Memory.wf s.nvs.mem = true) :
    Memory.wf s.flushCommits.nvs.mem = true := by
  exact flushCommits_wf s h

@[simp] theorem State.commitNow_mem_wf (s : State) (c : Commit) (h : Memory.wf s.nvs.mem = true) :
    Memory.wf (s.commitNow c).nvs.mem = true := by
  unfold State.commitNow; split <;> simp [h]

@[simp] theorem State.openLedger_mem_wf (s : State) (t : Transition) (h : Memory.wf s.nvs.mem = true) :
    Memory.wf (s.openLedger t).nvs.mem = true := by
  simp [State.openLedger, h]

@[simp] theorem State.epochOpening_mem_wf (s : State) (t : Transition) (h : Memory.wf s.nvs.mem = true) :
    Memory.wf (s.epochOpening t).nvs.mem = true := by
  simp [State.epochOpening, h]

@[simp] theorem State.commitHead_mem_wf (s : State) (c : Commit) (rest : List Commit) (h : Memory.wf s.nvs.mem = true) :
    Memory.wf (s.commitHead c rest).nvs.mem = true := by
  simp [State.commitHead, h]

@[simp] theorem State.leaveBytes_mem_wf (s : State) (a : Nat) (b : Bytes) (h : Memory.wf s.nvs.mem = true) :
    Memory.wf (s.leaveBytes a b).nvs.mem = true := by
  simp [State.leaveBytes, h]

@[simp] theorem State.writeBlock_mem_wf (s : State) (j : BlockJob) (h : Memory.wf s.nvs.mem = true) :
    Memory.wf (s.writeBlock j).nvs.mem = true := by
  unfold State.writeBlock; dsimp only
  cases j.bytes <;> cases nvsAreaOf j.dest <;> simp [h]

@[simp] theorem State.blockEnds_mem_wf (s : State) (y : BlockEnd) (h : Memory.wf s.nvs.mem = true) :
    Memory.wf (s.blockEnds y).nvs.mem = true := by
  unfold State.blockEnds; repeat' split
  all_goals simp [h]

@[simp] theorem State.shadowBlock_mem_wf (s : State) (j : BlockJob) (h : Memory.wf s.nvs.mem = true) :
    Memory.wf (s.shadowBlock j).nvs.mem = true := by
  simp [State.shadowBlock, h]

@[simp] theorem State.applyBlock_mem_wf (s : State) (j : BlockJob) (h : Memory.wf s.nvs.mem = true) :
    Memory.wf (s.applyBlock j).nvs.mem = true := by
  simp [State.applyBlock, h]

@[simp] theorem State.blockDone_mem_wf (s : State) (j : BlockJob) (rest : List BlockJob) (h : Memory.wf s.nvs.mem = true) :
    Memory.wf (s.blockDone j rest).nvs.mem = true := by
  simp [State.blockDone, h]

@[simp] theorem State.tickBlocks_mem_wf (s : State) (h : Memory.wf s.nvs.mem = true) :
    Memory.wf s.tickBlocks.nvs.mem = true := by
  unfold State.tickBlocks; split <;> simp [h]

@[simp] theorem State.writeRecord_mem_wf (s : State) (r : RecordHead) (h : Memory.wf s.nvs.mem = true) :
    Memory.wf (s.writeRecord r).nvs.mem = true := by
  simp [State.writeRecord, h]

@[simp] theorem State.runRecord_mem_wf (s : State) (r : Run) (h : Memory.wf s.nvs.mem = true) :
    Memory.wf (s.runRecord r).nvs.mem = true := by
  unfold State.runRecord; split
  · exact h
  · exact State.writeRecord_mem_wf s _ h

@[simp] theorem State.decayed_mem_wf (s : State) (env : BootEnv) (h : Memory.wf s.nvs.mem = true) :
    Memory.wf (s.decayed env).nvs.mem = true := by
  simp [State.decayed, nvCells_wf, h]

@[simp] theorem State.resolveJournal_mem_wf (s : State) (h : Memory.wf s.nvs.mem = true) :
    Memory.wf s.resolveJournal.nvs.mem = true := by
  unfold State.resolveJournal; dsimp only; split <;> simp [h]

@[simp] theorem State.adopt_mem_wf (s : State) (h : Memory.wf s.nvs.mem = true) :
    Memory.wf s.adopt.nvs.mem = true := by
  unfold State.adopt; dsimp only
  cases kindOf (leAt 0 1 (s.entryAt s.led.nextSeq)) <;> simp [h]

@[simp] theorem State.recoverAnchored_mem_wf (s : State) (h : Memory.wf s.nvs.mem = true) :
    Memory.wf s.recoverAnchored.nvs.mem = true := by
  simp [State.recoverAnchored, h]

@[simp] theorem State.recoverLedger_mem_wf (s : State) (h : Memory.wf s.nvs.mem = true) :
    Memory.wf s.recoverLedger.nvs.mem = true := by
  unfold State.recoverLedger; split <;> simp [h]

@[simp] theorem State.reopened_mem_wf (s : State) (t : Transition) (h : Memory.wf s.nvs.mem = true) :
    Memory.wf (s.reopened t).nvs.mem = true := by
  simp [State.reopened, h]

@[simp] theorem State.resolveTransition_mem_wf (s : State) (h : Memory.wf s.nvs.mem = true) :
    Memory.wf s.resolveTransition.1.nvs.mem = true := by
  unfold State.resolveTransition; split
  · simp [h]
  · simp [h]

@[simp] theorem State.openEntries_mem_wf (s : State) (flags : Nat) (h : Memory.wf s.nvs.mem = true) :
    Memory.wf (s.openEntries flags).nvs.mem = true := by
  unfold State.openEntries; split <;> simp [h]

@[simp] theorem State.bootLedger_mem_wf (s : State) (h : Memory.wf s.nvs.mem = true) :
    Memory.wf s.bootLedger.nvs.mem = true := by
  unfold State.bootLedger; dsimp only
  cases s.pwr.adopted
  all_goals exact State.openEntries_mem_wf _ _ (State.resolveTransition_mem_wf _ (by simpa using h))

@[simp] theorem State.stageWork_mem_wf (s : State) (env : BootEnv) (y : Nat) (h : Memory.wf s.nvs.mem = true) :
    Memory.wf (s.stageWork env y).nvs.mem = true := by
  unfold State.stageWork; split
  case h_2 => exact State.recoverLedger_mem_wf _ (State.resolveJournal_mem_wf _ (State.decayed_mem_wf s env h))
  all_goals simp [h]

@[simp] theorem State.bootStageDone_mem_wf (s : State) (env : BootEnv) (h : Memory.wf s.nvs.mem = true) :
    Memory.wf (s.bootStageDone env).nvs.mem = true := by
  simp [State.bootStageDone, h]

@[simp] theorem State.bootStages_mem_wf (s : State) (env : BootEnv) (y : Nat) (h : Memory.wf s.nvs.mem = true) :
    Memory.wf (s.bootStages env y).nvs.mem = true := by
  induction y generalizing s with
  | zero => exact h
  | succ y ih =>
    unfold State.bootStages; split
    · exact h
    · exact ih _ (State.bootStageDone_mem_wf s env h)

@[simp] theorem State.applyFails_mem_wf (s : State) (second : Nat → Commit) (h : Memory.wf s.nvs.mem = true) :
    Memory.wf (s.applyFails second).s.nvs.mem = true := by
  simp [State.applyFails, h]

@[simp] theorem State.configFails_mem_wf (s : State) (m : Msg) (h : Memory.wf s.nvs.mem = true) :
    Memory.wf (s.configFails m).s.nvs.mem = true := by
  simp [State.configFails, h]

@[simp] theorem State.commitConfig_mem_wf (s : State) (m : Msg) (view gen : Nat) (h : Memory.wf s.nvs.mem = true) :
    Memory.wf (s.commitConfig m view gen).nvs.mem = true := by
  simp [State.commitConfig, h]

@[simp] theorem State.askStandby_mem_wf (s : State) (m : Msg) (h : Memory.wf s.nvs.mem = true) :
    Memory.wf (s.askStandby m).s.nvs.mem = true := by
  simp [State.askStandby, h]

@[simp] theorem State.setParams_mem_wf (s : State) (m : Msg) (l : List (Nat × Nat)) (h : Memory.wf s.nvs.mem = true) :
    Memory.wf (s.setParams m l).s.nvs.mem = true := by
  simp [State.setParams, h]

@[simp] theorem State.paramSet_mem_wf (s : State) (m : Msg) (h : Memory.wf s.nvs.mem = true) :
    Memory.wf (s.paramSet m).s.nvs.mem = true := by
  unfold State.paramSet; repeat' split
  all_goals simp [h]

@[simp] theorem State.completeTable_mem_wf (s : State) (m : Msg) (t : TableStaging) (o n : Nat) (h : Memory.wf s.nvs.mem = true) :
    Memory.wf (s.completeTable m t o n).s.nvs.mem = true := by
  unfold State.completeTable; dsimp only; repeat' split
  all_goals simp [h]

@[simp] theorem State.takePart_mem_wf (s : State) (m : Msg) (old : TableStaging) (h : Memory.wf s.nvs.mem = true) :
    Memory.wf (s.takePart m old).s.nvs.mem = true := by
  unfold State.takePart; dsimp only; repeat' split
  all_goals simp [h]

@[simp] theorem State.tableWrite_mem_wf (s : State) (m : Msg) (h : Memory.wf s.nvs.mem = true) :
    Memory.wf (s.tableWrite m).s.nvs.mem = true := by
  refine check_mem_wf _ h ?_
  split
  · exact h
  · exact check_mem_wf _ h (by simp [h])

@[simp] theorem State.resign_mem_wf (s : State) (m : Msg) (l : List Word) (h : Memory.wf s.nvs.mem = true) :
    Memory.wf (s.resign m l).s.nvs.mem = true := by
  simp [State.resign, h]

@[simp] theorem State.sealResign_mem_wf (s : State) (m : Msg) (h : Memory.wf s.nvs.mem = true) :
    Memory.wf (s.sealResign m).s.nvs.mem = true := by
  refine check_mem_wf _ h ?_
  split
  · simpa using h
  · exact check_mem_wf _ h (by simp [h])

@[simp] theorem State.tick_mem_wf (s : State) (h : Memory.wf s.nvs.mem = true) :
    Memory.wf s.tick.nvs.mem = true := by
  simp [State.tick, h]

@[simp] theorem State.enrol_mem_wf (s : State) (m : Msg) (h : Memory.wf s.nvs.mem = true) :
    Memory.wf (s.enrol m).s.nvs.mem = true := by
  simp [State.enrol, h]

@[simp] theorem State.roleEnrol_mem_wf (s : State) (m : Msg) (h : Memory.wf s.nvs.mem = true) :
    Memory.wf (s.roleEnrol m).s.nvs.mem = true := by
  simp [State.roleEnrol, h]

@[simp] theorem State.revoke_mem_wf (s : State) (m : Msg) (h : Memory.wf s.nvs.mem = true) :
    Memory.wf (s.revoke m).s.nvs.mem = true := by
  unfold State.revoke; dsimp only; repeat' split
  all_goals simp [h]

@[simp] theorem State.roleRevoke_mem_wf (s : State) (m : Msg) (h : Memory.wf s.nvs.mem = true) :
    Memory.wf (s.roleRevoke m).s.nvs.mem = true := by
  simp [State.roleRevoke, h]

@[simp] theorem State.finishImage_mem_wf (s : State) (m : Msg) (b : Bytes) (blocks : List BlockJob) (h : Memory.wf s.nvs.mem = true) :
    Memory.wf (s.finishImage m b blocks).s.nvs.mem = true := by
  unfold State.finishImage; dsimp only; split <;> simp [h]

@[simp] theorem State.loadPart_mem_wf (s : State) (m : Msg) (h : Memory.wf s.nvs.mem = true) :
    Memory.wf (s.loadPart m).s.nvs.mem = true := by
  unfold State.loadPart; split <;> simp [h]

@[simp] theorem State.fwLoad_mem_wf (s : State) (m : Msg) (h : Memory.wf s.nvs.mem = true) :
    Memory.wf (s.fwLoad m).s.nvs.mem = true := by
  simp [State.fwLoad, h]

@[simp] theorem State.activateImage_mem_wf (s : State) (m : Msg) (x : LoadedImage) (h : Memory.wf s.nvs.mem = true) :
    Memory.wf (s.activateImage m x).s.nvs.mem = true := by
  simp [State.activateImage, h]

@[simp] theorem State.fwActivate_mem_wf (s : State) (m : Msg) (h : Memory.wf s.nvs.mem = true) :
    Memory.wf (s.fwActivate m).s.nvs.mem = true := by
  unfold State.fwActivate; split <;> simp [h]

theorem startFus_mem_wf {s : State} (m : Msg) (l : List OtpTask) {f : State → Answer} (h : Memory.wf s.nvs.mem = true)
    (hf : ∀ t, Memory.wf t.nvs.mem = true → Memory.wf (f t).s.nvs.mem = true) :
    Memory.wf (s.startFus m l f).s.nvs.mem = true := by
  unfold State.startFus; dsimp only; split
  · exact hf _ (by simp [h])
  · simp [h]

@[simp] theorem State.programWord_mem_wf (s : State) (m : Msg) (h : Memory.wf s.nvs.mem = true) :
    Memory.wf (s.programWord m).s.nvs.mem = true := by
  exact check_mem_wf _ h (startFus_mem_wf _ _ h fun _ ht => ht)

@[simp] theorem State.completeGroup_mem_wf (s : State) (m : Msg) (h : Memory.wf s.nvs.mem = true) :
    Memory.wf (s.completeGroup m).s.nvs.mem = true := by
  exact check_mem_wf _ h (startFus_mem_wf _ _ h fun _ ht => ht)

@[simp] theorem State.lockGroup_mem_wf (s : State) (m : Msg) (h : Memory.wf s.nvs.mem = true) :
    Memory.wf (s.lockGroup m).s.nvs.mem = true := by
  exact check_mem_wf _ h (startFus_mem_wf _ _ h fun _ ht => ht)

@[simp] theorem State.generateIdentity_mem_wf (s : State) (entropy : Bytes) (m : Msg) (h : Memory.wf s.nvs.mem = true) :
    Memory.wf (s.generateIdentity entropy m).s.nvs.mem = true := by
  refine check_mem_wf _ h ?_
  split
  · exact h
  · exact startFus_mem_wf _ _ h fun _ ht => ht

@[simp] theorem State.installMaker_mem_wf (s : State) (m : Msg) (h : Memory.wf s.nvs.mem = true) :
    Memory.wf (s.installMaker m).s.nvs.mem = true := by
  simp [State.installMaker, h]

@[simp] theorem State.reinforce_mem_wf (s : State) (m : Msg) (h : Memory.wf s.nvs.mem = true) :
    Memory.wf (s.reinforce m).s.nvs.mem = true := by
  exact check_mem_wf _ h (startFus_mem_wf _ _ h fun _ ht => ht)

@[simp] theorem State.advance_mem_wf (s : State) (m : Msg) (h : Memory.wf s.nvs.mem = true) :
    Memory.wf (s.advance m).s.nvs.mem = true := by
  exact startFus_mem_wf _ _ h fun _ ht => ht

@[simp] theorem State.lifecycleAdvance_mem_wf (s : State) (m : Msg) (h : Memory.wf s.nvs.mem = true) :
    Memory.wf (s.lifecycleAdvance m).s.nvs.mem = true := by
  simp [State.lifecycleAdvance, h]

@[simp] theorem State.debugUnlock_mem_wf (s : State) (m : Msg) (h : Memory.wf s.nvs.mem = true) :
    Memory.wf (s.debugUnlock m).s.nvs.mem = true := by
  simp [State.debugUnlock, h]

@[simp] theorem State.debugRelock_mem_wf (s : State) (m : Msg) (h : Memory.wf s.nvs.mem = true) :
    Memory.wf (s.debugRelock m).s.nvs.mem = true := by
  simp [State.debugRelock, h]

@[simp] theorem State.pinLoad_mem_wf (s : State) (m : Msg) (h : Memory.wf s.nvs.mem = true) :
    Memory.wf (s.pinLoad m).s.nvs.mem = true := by
  simp [State.pinLoad, h]

@[simp] theorem State.shadeDone_mem_wf (s : State) (m : Msg) (values : List Word) (h : Memory.wf s.nvs.mem = true) :
    Memory.wf (s.shadeDone m values).s.nvs.mem = true := by
  simp [State.shadeDone, h]

@[simp] theorem State.shadeBegin_mem_wf (s : State) (from_ : ShadeState) (m : Msg) (h : Memory.wf s.nvs.mem = true) :
    Memory.wf (s.shadeBegin from_ m).s.nvs.mem = true := by
  simp [State.shadeBegin, h]

@[simp] theorem State.shadeStart_mem_wf (s : State) (m : Msg) (h : Memory.wf s.nvs.mem = true) :
    Memory.wf (s.shadeStart m).s.nvs.mem = true := by
  simp [State.shadeStart, h]

@[simp] theorem State.shadeHalt_mem_wf (s : State) (m : Msg) (h : Memory.wf s.nvs.mem = true) :
    Memory.wf (s.shadeHalt m).s.nvs.mem = true := by
  simp [State.shadeHalt, h]

@[simp] theorem State.shadeResume_mem_wf (s : State) (m : Msg) (h : Memory.wf s.nvs.mem = true) :
    Memory.wf (s.shadeResume m).s.nvs.mem = true := by
  simp [State.shadeResume, h]

@[simp] theorem State.shadeStop_mem_wf (s : State) (m : Msg) (h : Memory.wf s.nvs.mem = true) :
    Memory.wf (s.shadeStop m).s.nvs.mem = true := by
  simp [State.shadeStop, h]

@[simp] theorem State.fifoWrite_mem_wf (s : State) (m : Msg) (h : Memory.wf s.nvs.mem = true) :
    Memory.wf (s.fifoWrite m).s.nvs.mem = true := by
  simp [State.fifoWrite, h]

@[simp] theorem State.fifoRead_mem_wf (s : State) (m : Msg) (h : Memory.wf s.nvs.mem = true) :
    Memory.wf (s.fifoRead m).s.nvs.mem = true := by
  simp [State.fifoRead, h]

@[simp] theorem State.acceptCal_mem_wf (s : State) (m : Msg) (h : Memory.wf s.nvs.mem = true) :
    Memory.wf (s.acceptCal m).s.nvs.mem = true := by
  simp [State.acceptCal, h]

@[simp] theorem State.calibrate_mem_wf (s : State) (m : Msg) (h : Memory.wf s.nvs.mem = true) :
    Memory.wf (s.calibrate m).s.nvs.mem = true := by
  simp [State.calibrate, h]

@[simp] theorem State.calClear_mem_wf (s : State) (m : Msg) (h : Memory.wf s.nvs.mem = true) :
    Memory.wf (s.calClear m).s.nvs.mem = true := by
  simp [State.calClear, h]

@[simp] theorem State.commitView_mem_wf (s : State) (m : Msg) (h : Memory.wf s.nvs.mem = true) :
    Memory.wf (s.commitView m).nvs.mem = true := by
  simp [State.commitView, h]

@[simp] theorem State.activate_mem_wf (s : State) (m : Msg) (g : ViewGen) (h : Memory.wf s.nvs.mem = true) :
    Memory.wf (s.activate m g).s.nvs.mem = true := by
  simp [State.activate, h]

@[simp] theorem State.viewActivate_mem_wf (s : State) (m : Msg) (h : Memory.wf s.nvs.mem = true) :
    Memory.wf (s.viewActivate m).s.nvs.mem = true := by
  exact check_mem_wf _ h (checkNumbered_keeps (P := fun s => Memory.wf s.nvs.mem = true) _ _ h (by simp [h]))

@[simp] theorem State.startView_mem_wf (s : State) (m : Msg) (h : Memory.wf s.nvs.mem = true) :
    Memory.wf (s.startView m).s.nvs.mem = true := by
  simp [State.startView, h]

@[simp] theorem State.viewStart_mem_wf (s : State) (m : Msg) (h : Memory.wf s.nvs.mem = true) :
    Memory.wf (s.viewStart m).s.nvs.mem = true := by
  exact check_mem_wf _ h (checkNumbered_keeps (P := fun s => Memory.wf s.nvs.mem = true) _ _ h (by simp [h]))

@[simp] theorem State.stopView_mem_wf (s : State) (m : Msg) (h : Memory.wf s.nvs.mem = true) :
    Memory.wf (s.stopView m).s.nvs.mem = true := by
  simp [State.stopView, h]

@[simp] theorem State.viewStop_mem_wf (s : State) (m : Msg) (h : Memory.wf s.nvs.mem = true) :
    Memory.wf (s.viewStop m).s.nvs.mem = true := by
  simp [State.viewStop, h]

/-! cut -/

theorem HandEntry.cut_mem_wf {x : HandEntry} (step : CommitStep) (b : Bytes) (h : Memory.wf x.base.nvs.mem = true) :
    Memory.wf (x.cut step b).nvs.mem = true := by
  cases step
  case stage => exact nvWrite_wf _ _ _ h
  case slot => exact nvWrite_wf _ _ _ (nvWrite_wf _ _ _ h)
  case anchor => exact nvWrite_wf _ _ _ (nvWrite_wf _ _ _ (nvWrite_wf _ _ _ h))

theorem entriesMade_base {s t : State} (h : Memory.wf s.nvs.mem = true) :
    ∀ x ∈ s.entriesMade t, Memory.wf x.base.nvs.mem = true := by
  intro x hx
  unfold State.entriesMade at hx
  dsimp only at hx
  split at hx
  · simp only [List.mem_singleton] at hx
    subst hx
    exact h
  · simp only [List.mem_cons, List.not_mem_nil, or_false] at hx
    rcases hx with rfl | rfl
    · exact h
    · exact State.leaveBytes_mem_wf _ _ _ (State.leaveBytes_mem_wf _ _ _ (State.leaveBytes_mem_wf _ _ _ (by simpa using h)))

theorem bootEntries_base {s : State} (h : Memory.wf s.nvs.mem = true) :
    ∀ x ∈ s.bootEntries, Memory.wf x.base.nvs.mem = true := by
  intro x hx
  have hs : Memory.wf (s.pwr.adopted.elim s s.sendAdopted).nvs.mem = true := by
    cases s.pwr.adopted
    · exact h
    · simpa using h
  unfold State.bootEntries at hx
  simp only [List.mem_append, List.mem_singleton] at hx
  rcases hx with (hx | hx) | hx
  · cases ht : (s.pwr.adopted.elim s s.sendAdopted).transitionDue with
    | none => rw [ht] at hx; cases hx
    | some t =>
      rw [ht] at hx
      cases List.mem_singleton.mp hx
      exact State.reopened_mem_wf _ t hs
  · subst hx
    exact State.resolveTransition_mem_wf _ hs
  · split at hx
    · cases List.mem_singleton.mp hx
      exact State.commitNow_mem_wf _ _ (State.resolveTransition_mem_wf _ hs)
    · cases hx

theorem handEntries_base {s : State} (entropy : Bytes) (h : Memory.wf s.nvs.mem = true) :
    ∀ x ∈ s.handEntries entropy, Memory.wf x.base.nvs.mem = true := by
  intro x hx
  unfold State.handEntries at hx
  split at hx
  · cases hx
  · split at hx
    · exact bootEntries_base h x hx
    · cases ht : (handRows entropy).findSome? s.committed with
      | none => rw [ht] at hx; cases hx
      | some t => rw [ht] at hx; exact entriesMade_base h x hx

theorem cutEntry_base {s : State} {cut : NvsCut} {x : HandEntry} {step : CommitStep} {b : Bytes}
    (h : Memory.wf s.nvs.mem = true) (hx : s.cutEntry cut = some (x, step, b)) : Memory.wf x.base.nvs.mem = true := by
  unfold State.cutEntry at hx
  split at hx
  · simp only [Option.map_eq_some_iff, Prod.mk.injEq] at hx
    obtain ⟨y, hy, rfl, -⟩ := hx
    exact handEntries_base _ h y (List.mem_of_getElem? hy)
  · split at hx
    · split at hx
      · cases hx; exact h
      · cases hx
    · cases hx

@[simp] theorem State.cutNvs_mem_wf (s : State) (cut : NvsCut) (h : Memory.wf s.nvs.mem = true) :
    Memory.wf (s.cutNvs cut).nvs.mem = true := by
  unfold State.cutNvs
  split
  · exact h
  · simpa using h
  · cases hx : s.cutEntry cut with
    | none => exact h
    | some x => exact HandEntry.cut_mem_wf _ _ (cutEntry_base h hx)

@[simp] theorem State.railLow_mem_wf (s : State) (rail : Rail) (cut : NvsCut) (padsOff : Bool) (h : Memory.wf s.nvs.mem = true) :
    Memory.wf (s.railLow rail cut padsOff).nvs.mem = true := by
  unfold State.railLow; dsimp only; split <;> simp [h]

@[simp] theorem State.powerLost_mem_wf (s : State) (loss : PowerLoss) (h : Memory.wf s.nvs.mem = true) :
    Memory.wf (s.powerLost loss).nvs.mem = true := by
  simp [State.powerLost, State.wiped, Nvs.kept, h]

@[simp] theorem State.carryOut_mem_wf (s : State) (d : Decided) (h : Memory.wf s.nvs.mem = true) :
    Memory.wf (s.carryOut d).nvs.mem = true := by
  simp [State.carryOut, h]

@[simp] theorem State.endRun_mem_wf (s : State) (r : Run) (h : Memory.wf s.nvs.mem = true) :
    Memory.wf (s.endRun r).nvs.mem = true := by
  unfold State.endRun; dsimp only; split <;> simp [h]

theorem answerClosed_mem_wf : AnswerClosed fun s => Memory.wf s.nvs.mem = true where
  take s m h := by simpa using h
  sequence s m h := by simpa using h
  send a m keep h := by simpa using h
  again s m h := by simpa using h

@[simp] theorem serve_mem_wf {s : State} {mine : Msg → Bool} {row : MsgRow} {fits : Msg → Nat → Bool}
    {gen : State → Msg → Nat} {run : State → Msg → Answer} (hs : Memory.wf s.nvs.mem = true)
    (hrun : ∀ t m, Memory.wf t.nvs.mem = true → Memory.wf (run t m).s.nvs.mem = true) :
    Memory.wf (s.serve mine row fits gen run).nvs.mem = true :=
  serve_keeps (P := fun s => Memory.wf s.nvs.mem = true) answerClosed_mem_wf hs hrun

theorem exec_mem_wf {s t : State} {c : Instr} (h : Memory.wf s.nvs.mem = true) (e : exec c s = .next t) : Memory.wf t.nvs.mem = true := by
  cases c <;> cases e
  all_goals repeat' split
  all_goals simp +contextual [State.serveCode, State.writeWord, State.padsFall, h]

/-! ## Proofs: the mailboxes, the bulk window and the ring stay in form (12) -/

def BoxesInForm (c : Ctl) : Prop :=
  Memory.wf c.cmdBox = true ∧ Memory.wf c.rspBox = true ∧ Memory.wf c.bulk = true ∧ Memory.wf c.ring = true
theorem BoxesInForm.of_eq {c d : Ctl} (h : BoxesInForm c)
    (e : d.cmdBox = c.cmdBox ∧ d.rspBox = c.rspBox ∧ d.bulk = c.bulk ∧ d.ring = c.ring) : BoxesInForm d := by
  obtain ⟨h1, h2, h3, h4⟩ := e
  rwa [BoxesInForm, h1, h2, h3, h4]

@[simp] theorem boxesInForm_ite (c : Prop) [Decidable c] {a b : Ctl} (ha : BoxesInForm a) (hb : BoxesInForm b) :
    BoxesInForm (if c then a else b) := by
  split <;> assumption
@[simp] theorem foldl_boxes {β : Type} {f : State → β → State}
    (h : ∀ s b, BoxesInForm s.ctl → BoxesInForm (f s b).ctl) (l : List β) {s : State} (hs : BoxesInForm s.ctl) :
    BoxesInForm (l.foldl f s).ctl := by
  induction l generalizing s with
  | nil => exact hs
  | cons x l ih => exact ih (h s x hs)
@[simp] theorem check_boxes {s : State} (l : List (Bool × Nat)) {f : Unit → Answer} (hs : BoxesInForm s.ctl)
    (h : BoxesInForm (f ()).s.ctl) : BoxesInForm (s.check l f).s.ctl := check_keeps (P := fun s => BoxesInForm s.ctl) l hs h

@[simp] theorem Ctl.retain_boxes (c : Ctl) (f : CtlTally → CtlTally) : (c.retain f).cmdBox = c.cmdBox ∧
    (c.retain f).rspBox = c.rspBox ∧ (c.retain f).bulk = c.bulk ∧ (c.retain f).ring = c.ring := ⟨rfl, rfl, rfl, rfl⟩

@[simp] theorem State.onRecord_boxes (s : State) (f : {α : Type} → Copies α → Copies α) (y : RecordName) (h : BoxesInForm s.ctl) :
    BoxesInForm (s.onRecord f y).ctl := by
  unfold State.onRecord; split <;> exact h

@[simp] theorem State.dropControl_boxes (s : State) (h : BoxesInForm s.ctl) :
    BoxesInForm s.dropControl.ctl := by
  exact h.of_eq (by simp [State.dropControl])

@[simp] theorem State.startRun_boxes (s : State) (trigger : Nat) (h : BoxesInForm s.ctl) :
    BoxesInForm (s.startRun trigger).ctl := by
  simp [State.startRun, h]

@[simp] theorem State.cutNvs_boxes (s : State) (cut : NvsCut) (h : BoxesInForm s.ctl) :
    BoxesInForm (s.cutNvs cut).ctl := by
  unfold State.cutNvs; split
  · exact h
  · exact State.onRecord_boxes _ _ _ h
  · cases s.cutEntry cut <;> exact h

@[simp] theorem State.releaseReplies_boxes (s : State) (h : BoxesInForm s.ctl) :
    BoxesInForm s.releaseReplies.ctl := by
  unfold State.releaseReplies; split <;> exact h

@[simp] theorem State.blockDone_boxes (s : State) (j : BlockJob) (rest : List BlockJob) (h : BoxesInForm s.ctl) :
    BoxesInForm (s.blockDone j rest).ctl := by
  simp [State.blockDone, h]

@[simp] theorem State.beginRun_boxes (s : State) (trigger : Nat) (h : BoxesInForm s.ctl) :
    BoxesInForm (s.beginRun trigger).ctl := by
  simp [State.beginRun, h]

@[simp] theorem State.trigger_boxes (s : State) (t : Nat) (h : BoxesInForm s.ctl) :
    BoxesInForm (s.trigger t).ctl := by
  simp [State.trigger, h]

@[simp] theorem State.droop_boxes (s : State) (rails : BitVec 4) (h : BoxesInForm s.ctl) :
    BoxesInForm (s.droop rails).ctl := by
  simp [State.droop, h]

@[simp] theorem State.thermal_boxes (s : State) (h : BoxesInForm s.ctl) :
    BoxesInForm s.thermal.ctl := by
  simp [State.thermal, h]

@[simp] theorem State.enterStandby_boxes (s : State) (h : BoxesInForm s.ctl) :
    BoxesInForm s.enterStandby.ctl := by
  exact h.of_eq (by simp [State.enterStandby])

@[simp] theorem State.ctlBack_boxes (s : State) (h : BoxesInForm s.ctl) :
    BoxesInForm s.ctlBack.ctl := by
  exact h

@[simp] theorem State.domainUp_boxes (s : State) (i : Nat) (h : BoxesInForm s.ctl) :
    BoxesInForm (s.domainUp i).ctl := by
  unfold State.domainUp; dsimp only; repeat' split
  all_goals simp [h]

@[simp] theorem State.runRecord_boxes (s : State) (r : Run) (h : BoxesInForm s.ctl) :
    BoxesInForm (s.runRecord r).ctl := by
  unfold State.runRecord; split <;> exact h

@[simp] theorem State.railLow_boxes (s : State) (rail : Rail) (cut : NvsCut) (padsOff : Bool) (h : BoxesInForm s.ctl) :
    BoxesInForm (s.railLow rail cut padsOff).ctl := by
  simp [State.railLow, h]

@[simp] theorem State.decayed_boxes (s : State) (env : BootEnv) (h : BoxesInForm s.ctl) :
    BoxesInForm (s.decayed env).ctl := by
  unfold State.decayed; exact foldl_boxes (fun t x ht => State.onRecord_boxes t _ x ht) _ h

@[simp] theorem State.restoreParams_boxes (s : State) (h : BoxesInForm s.ctl) :
    BoxesInForm s.restoreParams.ctl := by
  unfold State.restoreParams; split <;> exact h

@[simp] theorem State.bootRestore_boxes (s : State) (h : BoxesInForm s.ctl) :
    BoxesInForm s.bootRestore.ctl := by
  simp [State.bootRestore, h]

@[simp] theorem State.bootEnd_boxes (s : State) (h : BoxesInForm s.ctl) :
    BoxesInForm s.bootEnd.ctl := by
  have hs : BoxesInForm { s.ctl with ready := true } := h
  unfold State.bootEnd; dsimp only; split <;> simpa using hs

@[simp] theorem State.stageWork_boxes (s : State) (env : BootEnv) (y : Nat) (h : BoxesInForm s.ctl) :
    BoxesInForm (s.stageWork env y).ctl := by
  unfold State.stageWork; split
  case h_2 => exact (State.decayed_boxes s env h).of_eq (by simp)
  all_goals simp [h]

@[simp] theorem State.bootStageDone_boxes (s : State) (env : BootEnv) (h : BoxesInForm s.ctl) :
    BoxesInForm (s.bootStageDone env).ctl := by
  unfold State.bootStageDone; dsimp only; split
  · exact State.bootEnd_boxes _ (by simp [h])
  · split <;> simp [h]

@[simp] theorem State.bootStages_boxes (s : State) (env : BootEnv) (y : Nat) (h : BoxesInForm s.ctl) :
    BoxesInForm (s.bootStages env y).ctl := by
  induction y generalizing s with
  | zero => exact h
  | succ y ih =>
    unfold State.bootStages; split
    · exact h
    · exact ih _ (State.bootStageDone_boxes s env h)

@[simp] theorem State.writeMail_boxes (s : State) (a : Nat) (v : Word) (h : BoxesInForm s.ctl) :
    BoxesInForm (s.writeMail a v).ctl := by
  obtain ⟨h1, h2, h3, h4⟩ := h
  unfold State.writeMail; repeat' split
  all_goals simp [BoxesInForm, *]

@[simp] theorem State.writeBulk_boxes (s : State) (a : Nat) (v : Word) (h : BoxesInForm s.ctl) :
    BoxesInForm (s.writeBulk a v).ctl := by
  obtain ⟨h1, h2, h3, h4⟩ := h
  unfold State.writeBulk; split <;> simp [BoxesInForm, *]

@[simp] theorem State.post_boxes (s : State) (h : BoxesInForm s.ctl) :
    BoxesInForm s.post.ctl := by
  exact h

@[simp] theorem State.placeMail_boxes (s : State) (bytes : Bytes) (redirected : Bool) (h : BoxesInForm s.ctl) :
    BoxesInForm (s.placeMail bytes redirected).ctl := by
  obtain ⟨h1, h2, h3, h4⟩ := h
  exact ⟨h1, nvWrite_wf [] 0 bytes rfl, h3, h4⟩

@[simp] theorem State.ringWrite_boxes (s : State) (r : Record) (rest : List Record) (h : BoxesInForm s.ctl) :
    BoxesInForm (s.ringWrite r rest).ctl := by
  obtain ⟨h1, h2, h3, h4⟩ := h
  unfold State.ringWrite; dsimp only; split
  · exact ⟨h1, h2, h3, h4⟩
  · exact ⟨h1, h2, h3, nvWrite_wf _ _ _ h4⟩

@[simp] theorem State.takeMsg_boxes (s : State) (m : Msg) (h : BoxesInForm s.ctl) :
    BoxesInForm (s.takeMsg m).ctl := by
  unfold State.takeMsg; split <;> exact h

@[simp] theorem State.takeSequence_boxes (s : State) (m : Msg) (h : BoxesInForm s.ctl) :
    BoxesInForm (s.takeSequence m).ctl := by
  exact h

@[simp] theorem State.countAnswer_boxes (s : State) (status : Nat) (h : BoxesInForm s.ctl) :
    BoxesInForm (s.countAnswer status).ctl := by
  unfold State.countAnswer; repeat' split
  all_goals exact h

@[simp] theorem State.reply_boxes (s : State) (r : Reply) (h : BoxesInForm s.ctl) :
    BoxesInForm (s.reply r).ctl := by
  exact h

@[simp] theorem Answer.send_boxes (a : Answer) (m : Msg) (keep : Bool) (h : BoxesInForm a.s.ctl) :
    BoxesInForm (a.send m keep).ctl := by
  have hc := State.countAnswer_boxes a.s a.status h
  unfold Answer.send; dsimp only; split
  · exact hc
  · exact hc

@[simp] theorem State.sendAgain_boxes (s : State) (m : Msg) (h : BoxesInForm s.ctl) :
    BoxesInForm (s.sendAgain m).ctl := by
  exact State.reply_boxes _ _ (State.countAnswer_boxes _ _ h)

@[simp] theorem State.answerOpen_boxes (s : State) (entropy : Bytes) (m : Msg) (h : BoxesInForm s.ctl) :
    BoxesInForm (s.answerOpen entropy m).s.ctl := by
  exact h

@[simp] theorem State.bumpSerial_boxes (s : State) (h : BoxesInForm s.ctl) :
    BoxesInForm s.bumpSerial.ctl := by
  exact h

@[simp] theorem State.setParams_boxes (s : State) (m : Msg) (l : List (Nat × Nat)) (h : BoxesInForm s.ctl) :
    BoxesInForm (s.setParams m l).s.ctl := by
  simp [State.setParams, h]

@[simp] theorem State.paramSet_boxes (s : State) (m : Msg) (h : BoxesInForm s.ctl) :
    BoxesInForm (s.paramSet m).s.ctl := by
  unfold State.paramSet; repeat' split
  all_goals simp [h]

@[simp] theorem State.fillBulk_boxes (s : State) (b : Bytes) (h : BoxesInForm s.ctl) :
    BoxesInForm (s.fillBulk b).ctl := by
  obtain ⟨h1, h2, h3, h4⟩ := h
  exact ⟨h1, h2, nvWrite_wf _ _ _ h3, h4⟩

@[simp] theorem State.copyPart_boxes (s : State) (m : Msg) (table o serial : Nat) (data : Bytes) (h : BoxesInForm s.ctl) :
    BoxesInForm (s.copyPart m table o serial data).s.ctl := by
  simp [State.copyPart, h]

@[simp] theorem State.tableRead_boxes (s : State) (m : Msg) (h : BoxesInForm s.ctl) :
    BoxesInForm (s.tableRead m).s.ctl := by
  refine check_boxes _ h ?_
  split
  · exact h
  · exact check_boxes _ h (by simp [h])

@[simp] theorem State.completeTable_boxes (s : State) (m : Msg) (t : TableStaging) (o n : Nat) (h : BoxesInForm s.ctl) :
    BoxesInForm (s.completeTable m t o n).s.ctl := by
  simp [State.completeTable, h]

@[simp] theorem State.takePart_boxes (s : State) (m : Msg) (old : TableStaging) (h : BoxesInForm s.ctl) :
    BoxesInForm (s.takePart m old).s.ctl := by
  unfold State.takePart; dsimp only; repeat' split
  all_goals simp [h]

@[simp] theorem State.tableWrite_boxes (s : State) (m : Msg) (h : BoxesInForm s.ctl) :
    BoxesInForm (s.tableWrite m).s.ctl := by
  refine check_boxes _ h ?_
  split
  · exact h
  · exact check_boxes _ h (by simp [h])

@[simp] theorem State.copyEntries_boxes (s : State) (m : Msg) (first : Word) (l : List Word) (h : BoxesInForm s.ctl) :
    BoxesInForm (s.copyEntries m first l).s.ctl := by
  simp [State.copyEntries, h]

@[simp] theorem State.ledgerRead_boxes (s : State) (m : Msg) (h : BoxesInForm s.ctl) :
    BoxesInForm (s.ledgerRead m).s.ctl := by
  simp [State.ledgerRead, h]

@[simp] theorem State.onMessage_boxes (s : State) (bytes : Bytes) (h : BoxesInForm s.ctl) :
    BoxesInForm (s.onMessage bytes).ctl := by
  unfold State.onMessage; dsimp only; repeat' split
  all_goals exact h

@[simp] theorem State.onPacket_boxes (s : State) (p : Bytes) (h : BoxesInForm s.ctl) :
    BoxesInForm (s.onPacket p).ctl := by
  unfold State.onPacket; repeat' split
  all_goals simp [h]

@[simp] theorem State.receiveBlock_boxes (s : State) (b : BitVec 257) (h : BoxesInForm s.ctl) :
    BoxesInForm (s.receiveBlock b).ctl := by
  unfold State.receiveBlock; exact foldl_boxes (fun t p ht => State.onPacket_boxes t p ht) _ h

@[simp] theorem State.takeCodeword_boxes (s : State) (symbols : List (BitVec 10)) (h : BoxesInForm s.ctl) :
    BoxesInForm (s.takeCodeword symbols).ctl := by
  unfold State.takeCodeword; split
  · exact h
  · dsimp only; split
    · exact h
    · exact foldl_boxes (fun t b ht => State.receiveBlock_boxes t b ht) _ h

@[simp] theorem State.receiveCodeword_boxes (s : State) (symbols : List (BitVec 10)) (h : BoxesInForm s.ctl) :
    BoxesInForm (s.receiveCodeword symbols).ctl := by
  simp [State.receiveCodeword, h]

@[simp] theorem State.enrol_boxes (s : State) (m : Msg) (h : BoxesInForm s.ctl) :
    BoxesInForm (s.enrol m).s.ctl := by
  exact h.of_eq (by simp [State.enrol])

@[simp] theorem State.roleEnrol_boxes (s : State) (m : Msg) (h : BoxesInForm s.ctl) :
    BoxesInForm (s.roleEnrol m).s.ctl := by
  simp [State.roleEnrol, h]

@[simp] theorem State.revoke_boxes (s : State) (m : Msg) (h : BoxesInForm s.ctl) :
    BoxesInForm (s.revoke m).s.ctl := by
  unfold State.revoke; dsimp only; split <;> exact h.of_eq (by simp)

@[simp] theorem State.roleRevoke_boxes (s : State) (m : Msg) (h : BoxesInForm s.ctl) :
    BoxesInForm (s.roleRevoke m).s.ctl := by
  simp [State.roleRevoke, h]

@[simp] theorem State.pulseDone_boxes (s : State) (t : OtpTask) (rest : List OtpTask) (r : OtpReads) (h : BoxesInForm s.ctl) :
    BoxesInForm (s.pulseDone t rest r).ctl := by
  simp [State.pulseDone, h]

@[simp] theorem State.scanBoundary_ctl (s : State) (x : BoundaryScan) : (s.scanBoundary x).ctl = s.ctl := rfl

theorem tryPlace_boxes {s t : State} {r : Reply} (h : BoxesInForm s.ctl) (e : s.tryPlace r = some t) : BoxesInForm t.ctl := by
  unfold State.tryPlace at e
  dsimp only at e
  repeat' split at e
  all_goals cases e <;> simp [h]

theorem placeFirst_boxes {s t : State} {l rest : List Reply} {k : Nat} (h : BoxesInForm s.ctl)
    (e : s.placeFirst l = some (t, k, rest)) : BoxesInForm t.ctl := by
  induction l generalizing rest with
  | nil => cases e
  | cons r l ih =>
    unfold State.placeFirst at e
    split at e
    · next hp => cases e; exact tryPlace_boxes h hp
    · simp only [Option.map_eq_some_iff] at e
      obtain ⟨⟨u, j, l'⟩, hu, e⟩ := e
      cases e
      exact ih hu

@[simp] theorem State.placeNext_boxes (s : State) (h : BoxesInForm s.ctl) : BoxesInForm s.placeNext.ctl := by
  unfold State.placeNext
  split
  · next e =>
    exact (placeFirst_boxes h e).of_eq (by simp)
  · exact h

@[simp] theorem State.resetDevice_boxes (s : State) (cause : Cause) (missing : BitVec 16) (record : Bool) :
    BoxesInForm (s.resetDevice cause missing record).ctl := by
  have he : BoxesInForm { tally := s.ctl.tally } := ⟨rfl, rfl, rfl, rfl⟩
  exact he.of_eq (by simp [State.resetDevice, State.wiped])

@[simp] theorem State.leaveHold_boxes (s : State) (y : Hold) : BoxesInForm (s.leaveHold y).ctl := by simp [State.leaveHold]

@[simp] theorem State.cooled_boxes (s : State) (h : BoxesInForm s.ctl) : BoxesInForm s.cooled.ctl := by
  unfold State.cooled; dsimp only; repeat' split
  all_goals simp [h]

@[simp] theorem State.askReset_boxes (s : State) (cause : Cause) (h : BoxesInForm s.ctl) : BoxesInForm (s.askReset cause).ctl := by
  unfold State.askReset; repeat' split
  all_goals simp [State.decideReset, h]

@[simp] theorem State.powerLost_boxes (s : State) (loss : PowerLoss) : BoxesInForm (s.powerLost loss).ctl := ⟨rfl, rfl, rfl, rfl⟩

@[simp] theorem State.carryOut_boxes (s : State) (d : Decided) : BoxesInForm (s.carryOut d).ctl := by simp [State.carryOut]

@[simp] theorem State.endRun_boxes (s : State) (r : Run) (h : BoxesInForm s.ctl) : BoxesInForm (s.endRun r).ctl := by
  unfold State.endRun; dsimp only; split
  · exact State.leaveHold_boxes _ _
  · simp [State.enterHold, h]

theorem answerClosed_boxes : AnswerClosed fun s => BoxesInForm s.ctl where
  take _ _ h := State.takeMsg_boxes _ _ h
  sequence _ _ h := State.takeSequence_boxes _ _ h
  send _ _ _ h := Answer.send_boxes _ _ _ h
  again _ _ h := State.sendAgain_boxes _ _ h

@[simp] theorem serve_boxes {s : State} {mine : Msg → Bool} {row : MsgRow} {fits : Msg → Nat → Bool}
    {gen : State → Msg → Nat} {run : State → Msg → Answer} (hs : BoxesInForm s.ctl)
    (hrun : ∀ t m, BoxesInForm t.ctl → BoxesInForm (run t m).s.ctl) : BoxesInForm (s.serve mine row fits gen run).ctl :=
  serve_keeps (P := fun s => BoxesInForm s.ctl) answerClosed_boxes hs hrun

theorem exec_boxes {s t : State} {c : Instr} (h : BoxesInForm s.ctl) (e : exec c s = .next t) : BoxesInForm t.ctl := by
  cases c <;> cases e
  case msgUnknown | msgSessionClose | msgNop | msgAttest => exact serve_boxes h fun _ _ ht => ht
  all_goals repeat' split
  all_goals simp +contextual [State.serveCode, State.writeWord, State.padsFall, h]

/-- What the tick and every command keep, and the queue has no part in, every step keeps. -/
theorem step_keeps {P : State → Prop} (hq : ∀ s rest, P s → P { s with pending := rest }) (ht : ∀ s, P s → P s.tick)
    (hc : ∀ c s t, P s → exec c s = .next t → P t) {s t : State} (h : P s) (e : step s = .next t) : P t := by
  unfold step at e
  split at e
  · cases e
    exact ht s h
  · exact hc _ _ t (hq s _ h) e

/-- Settles O57: the tick touches no byte store but the journal of a block, and every command keeps all five. -/
theorem stepKeepsStores : Obligations.StepKeepsStores :=
  fun _ _ => step_keeps (P := StoresCanonical) (fun _ _ h => h)
    (fun s h => ⟨State.tick_mem_wf s h.1, by simpa using h.2⟩)
    (fun c s t h e => ⟨exec_mem_wf h.1 e, exec_boxes h.2 e⟩)

/-! ## Proofs: the pins' stores stay in form (17) -/

/-- Neither FIFO holds more than its four entries (R394). -/
def Shade.FifosFit (x : Shade) : Prop := x.inFifo.length ≤ 4 ∧ x.outFifo.length ≤ 4

/-- A sequencer with empty FIFOs fits. -/
theorem Shade.fits_of_empty {x : Shade} (hi : x.inFifo = []) (ho : x.outFifo = []) : x.FifosFit := by
  simp [Shade.FifosFit, hi, ho]

/-- A blocked PULL or PUSH that can complete leaves its FIFOs as they are. -/
theorem Shade.ready_fit (x : Shade) (now : Nat) (h : x.FifosFit) : (x.ready now).FifosFit := by
  unfold Shade.ready
  repeat' split
  all_goals exact h

/-- `PinsInForm` of the pins alone. -/
def PinStores (p : Pin) : Prop :=
  canonFrom (.pad .released) 0 p.latch = true ∧ canonFrom 0 0 p.tables = true ∧ canonFrom 0 0 p.store = true ∧
    ∀ q, q < 4 → (p.shade.toList.getD q {}).FifosFit

theorem PinStores.of_eq {p r : Pin} (h : PinStores p)
    (e : r.latch = p.latch ∧ r.tables = p.tables ∧ r.store = p.store ∧ r.shade = p.shade) : PinStores r := by
  obtain ⟨h1, h2, h3, h4⟩ := e
  rwa [PinStores, h1, h2, h3, h4]

theorem PinStores.shade_fit {s : State} (h : PinStores s.pin) (q : Nat) : (s.shadeAt q).FifosFit := by
  obtain ⟨-, -, -, hf⟩ := h
  by_cases hq : q < 4
  · exact hf q hq
  · have : s.shadeAt q = {} := by
      unfold State.shadeAt
      exact getD_of_length_le _ (by simpa using hq)
    rw [this]
    exact Shade.fits_of_empty rfl rfl

theorem State.shadeAt_setShade (s : State) (q r : Nat) (x : Shade) :
    (s.setShade q x).shadeAt r = if r = q ∧ q < 4 then x else s.shadeAt r := by
  unfold State.setShade State.shadeAt
  split
  · next h =>
    by_cases hr : r = q
    · subst hr; simp [List.getD_eq_getElem?_getD, h]
    · simp [List.getD_eq_getElem?_getD, hr, Ne.symm hr]
  · next h => simp [h]

@[simp] theorem State.setShade_pins {s : State} (q : Nat) {x : Shade} (h : PinStores s.pin) (hx : x.FifosFit) :
    PinStores (s.setShade q x).pin := by
  have hfit : ∀ r, ((s.setShade q x).shadeAt r).FifosFit := by
    intro r
    rw [State.shadeAt_setShade]
    split
    · exact hx
    · exact h.shade_fit r
  obtain ⟨h1, h2, h3, -⟩ := h
  refine ⟨?_, ?_, ?_, fun r _ => hfit r⟩ <;> · unfold State.setShade; split <;> assumption

theorem foldl_spSet_canon {α β : Type} [DecidableEq α] {d : α} (key : β → Nat) (val : β → α) (l : List β) {m : Sparse α}
    (h : canonFrom d 0 m = true) : canonFrom d 0 (l.foldl (fun m b => spSet d (key b) (val b) m) m) = true := by
  induction l generalizing m with
  | nil => exact h
  | cons b l ih => exact ih (spSet_wf _ _ h)

/-- No check of a list fails: neither the first nor one after it. -/
theorem firstError_cons_eq_zero {b : Bool} {e : Nat} {l : List (Bool × Nat)} (he : e ≠ 0) :
    firstError ((b, e) :: l) = 0 ↔ b = false ∧ firstError l = 0 := by
  cases b <;> simp [firstError, he]

theorem check_keeps_of {P : State → Prop} {s : State} (l : List (Bool × Nat)) {f : Unit → Answer} (hs : P s)
    (h : firstError l = 0 → P (f ()).s) : P (s.check l f).s := by
  unfold State.check
  dsimp only
  split
  · exact h ‹_›
  · exact hs

@[simp] theorem pinStores_ite (c : Prop) [Decidable c] {a b : Pin} (ha : PinStores a) (hb : PinStores b):
    PinStores (if c then a else b) := by
  split <;> assumption

@[simp] theorem foldl_pins {β : Type} {f : State → β → State} (h : ∀ s b, PinStores s.pin → PinStores (f s b).pin) (l : List β)
    {s : State} (hs : PinStores s.pin) : PinStores (l.foldl f s).pin := by
  induction l generalizing s with
  | nil => exact hs
  | cons x l ih => exact ih (h s x hs)

@[simp] theorem check_pins {s : State} (l : List (Bool × Nat)) {f : Unit → Answer} (hs : PinStores s.pin)
    (h : PinStores (f ()).s.pin) : PinStores (s.check l f).s.pin := check_keeps (P := fun s => PinStores s.pin) l hs h
@[simp] theorem State.setTint_pins (s : State) (e : Nat) (t : Tint) (h : PinStores s.pin) :
    PinStores (s.setTint e t).pin := by
  unfold State.setTint; split <;> exact h

@[simp] theorem State.latchPad_pins (s : State) (n : Nat) (d : Latch) (h : PinStores s.pin) :
    PinStores (s.latchPad n d).pin := by
  obtain ⟨h1, h2, h3, h4⟩ := h
  exact ⟨spSet_wf n d h1, h2, h3, h4⟩

@[simp] theorem State.toSafe_pins (s : State) (l : List Nat) (h : PinStores s.pin) :
    PinStores (s.toSafe l).pin := by
  exact foldl_pins (fun t n ht => State.latchPad_pins t n _ ht) l h

@[simp] theorem State.drivePin_pins (s : State) (q n : Nat) (d : Latch) (h : PinStores s.pin) :
    PinStores (s.drivePin q n d).pin := by
  simp [State.drivePin, h]

@[simp] theorem State.startTint_pins (s : State) (e : Nat) (h : PinStores s.pin) :
    PinStores (s.startTint e).pin := by
  simp [State.startTint, h]

@[simp] theorem State.stopTint_pins (s : State) (e : Nat) (h : PinStores s.pin) :
    PinStores (s.stopTint e).pin := by
  unfold State.stopTint; split <;> simp [h]

@[simp] theorem State.runTints_pins (s : State) (mask : Nat) (h : PinStores s.pin) :
    PinStores (s.runTints mask).pin := by
  refine foldl_pins (fun t e ht => ?_) _ h
  repeat' split
  all_goals simp [ht]

@[simp] theorem State.stopShade_pins (s : State) (q : Nat) (h : PinStores s.pin) :
    PinStores (s.stopShade q).pin := by
  exact State.setShade_pins q (State.toSafe_pins s _ h) (Shade.fits_of_empty rfl rfl)

@[simp] theorem State.resetArm_pins (s : State) (h : PinStores s.pin) :
    PinStores s.resetArm.pin := by
  exact h

@[simp] theorem State.dropPins_pins (s : State) (h : PinStores s.pin) :
    PinStores s.dropPins.pin := by
  unfold State.dropPins
  split
  · exact h
  · obtain ⟨h1, h2, h3, h4⟩ := State.toSafe_pins s ((List.range 16).filter fun n => 2 ≤ s.pinFunction n && s.pinFunction n ≤ 4) h
    refine ⟨h1, h2, h3, fun q hq => ?_⟩
    simp [List.getD_eq_getElem?_getD, hq, Shade.FifosFit]

@[simp] theorem State.powerPins_pins (s : State) (h : PinStores s.pin) :
    PinStores s.powerPins.pin := by
  simp [State.powerPins, h]

@[simp] theorem State.noteEdge_pins (s : State) (m : Word64) (h : PinStores s.pin) :
    PinStores (s.noteEdge m).pin := by
  unfold State.noteEdge; dsimp only; split
  · exact h.of_eq (by simp)
  · exact h

@[simp] theorem State.ppsAccepted_pins (s : State) (m : Word64) (h : PinStores s.pin) :
    PinStores (s.ppsAccepted m).pin := by
  unfold State.ppsAccepted; split <;> simp [h]

@[simp] theorem State.dropControl_pins (s : State) (h : PinStores s.pin) :
    PinStores s.dropControl.pin := by
  simp [State.dropControl, h]

@[simp] theorem State.startRun_pins (s : State) (trigger : Nat) (h : PinStores s.pin) :
    PinStores (s.startRun trigger).pin := by
  simp [State.startRun, h]

@[simp] theorem State.beginRun_pins (s : State) (trigger : Nat) (h : PinStores s.pin) :
    PinStores (s.beginRun trigger).pin := by
  simp [State.beginRun, h]

@[simp] theorem State.trigger_pins (s : State) (t : Nat) (h : PinStores s.pin) :
    PinStores (s.trigger t).pin := by
  simp [State.trigger, h]

@[simp] theorem State.droop_pins (s : State) (rails : BitVec 4) (h : PinStores s.pin) :
    PinStores (s.droop rails).pin := by
  simp [State.droop, h]

@[simp] theorem State.thermal_pins (s : State) (h : PinStores s.pin) :
    PinStores s.thermal.pin := by
  simp [State.thermal, h]

@[simp] theorem State.enterStandby_pins (s : State) (h : PinStores s.pin) :
    PinStores s.enterStandby.pin := by
  simp [State.enterStandby, h]

@[simp] theorem State.wakeUp_pins (s : State) (h : PinStores s.pin) :
    PinStores s.wakeUp.pin := by
  simp [State.wakeUp, h]

@[simp] theorem State.runRecord_pins (s : State) (r : Run) (h : PinStores s.pin) :
    PinStores (s.runRecord r).pin := by
  unfold State.runRecord; split <;> exact h

@[simp] theorem State.bootEnd_pins (s : State) (h : PinStores s.pin) :
    PinStores s.bootEnd.pin := by
  simp [State.bootEnd, h]

@[simp] theorem State.bootStageDone_pins (s : State) (env : BootEnv) (h : PinStores s.pin) :
    PinStores (s.bootStageDone env).pin := by
  simp [State.bootStageDone, h]

@[simp] theorem State.bootStages_pins (s : State) (env : BootEnv) (y : Nat) (h : PinStores s.pin) :
    PinStores (s.bootStages env y).pin := by
  induction y generalizing s with
  | zero => exact h
  | succ y ih =>
    unfold State.bootStages; split
    · exact h
    · exact ih _ (State.bootStageDone_pins s env h)

@[simp] theorem State.syncArm_pins (s : State) (h : PinStores s.pin) :
    PinStores s.syncArm.pin := by
  unfold State.syncArm; split <;> exact h

@[simp] theorem State.detectTrigger_pins (s : State) (h : PinStores s.pin) :
    PinStores s.detectTrigger.pin := by
  unfold State.detectTrigger; dsimp only; split <;> exact h.of_eq (by simp)

@[simp] theorem State.pinStuck_pins (s : State) (h : PinStores s.pin) :
    PinStores s.pinStuck.pin := by
  exact h.of_eq (by simp [State.pinStuck])

@[simp] theorem State.noteWait_pins (s : State) (q n : Nat) (level : Bool) (h : PinStores s.pin) :
    PinStores (s.noteWait q n level).pin := by
  have hx := h.shade_fit q
  unfold State.noteWait; dsimp only; repeat' split
  case h_1.isTrue => exact State.setShade_pins q h hx
  all_goals exact h

@[simp] theorem State.setLevel_pins (s : State) (n : Nat) (level : Bool) (h : PinStores s.pin) :
    PinStores (s.setLevel n level).pin := by
  have hl : PinStores { s.pin with levels := if level then s.pin.levels ||| BitVec.ofNat 16 (2 ^ n)
      else s.pin.levels &&& ~~~BitVec.ofNat 16 (2 ^ n) } := h
  have hw := foldl_pins (f := fun t q => t.noteWait q n level) (fun t q ht => State.noteWait_pins t q n level ht) (List.range 4)
    (s := { s with pin := { s.pin with levels := _ } }) hl
  simpa [State.setLevel] using State.syncArm_pins _ hw

@[simp] theorem State.outsideAt_pins (s : State) (n : Nat) (pad : Bool) (h : PinStores s.pin) :
    PinStores (s.outsideAt n pad).pin := by
  unfold State.outsideAt; split <;> exact h

@[simp] theorem State.condition_pins (s : State) (n : Nat) (pad : Bool) (h : PinStores s.pin) :
    PinStores (s.condition n pad).pin := by
  exact State.setLevel_pins _ _ _ h

@[simp] theorem State.samplePin_pins (s : State) (n : Nat) (h : PinStores s.pin) :
    PinStores (s.samplePin n).pin := by
  unfold State.samplePin; dsimp only; repeat' split
  · exact h
  · exact State.condition_pins _ _ _ h
  · exact h

@[simp] theorem State.unsampled_pins (s : State) (n : Nat) (h : PinStores s.pin) :
    PinStores (s.unsampled n).pin := by
  unfold State.unsampled; dsimp only; repeat' split
  · exact h
  · exact State.setLevel_pins _ _ _ h
  · exact h

@[simp] theorem State.applyPin_pins (s : State) (n : Nat) (h : PinStores s.pin) :
    PinStores (s.applyPin n).pin := by
  unfold State.applyPin; dsimp only; refine State.unsampled_pins _ _ ?_; split
  · exact h
  · exact State.latchPad_pins _ _ _ h

@[simp] theorem State.applyPins_pins (s : State) (h : PinStores s.pin) :
    PinStores s.applyPins.pin := by
  refine foldl_pins (fun t n ht => ?_) _ h
  split
  · exact ht
  · exact State.applyPin_pins _ _ ht

@[simp] theorem State.activityDetected_pins (s : State) (n : Nat) (h : PinStores s.pin) :
    PinStores (s.activityDetected n).pin := by
  unfold State.activityDetected; dsimp only; split <;> split
  all_goals exact h.of_eq (by simp)

@[simp] theorem State.paramEffect_pins (s : State) (a : Auth) (old id v : Nat) (h : PinStores s.pin) :
    PinStores (s.paramEffect a old id v).pin := by
  have hu : ∀ t : State, PinStores t.pin → PinStores ((List.range 16).foldl State.unsampled t).pin :=
    fun t ht => foldl_pins (fun u n hn => State.unsampled_pins u n hn) _ ht
  unfold State.paramEffect; split
  case h_1 | h_2 => exact hu s h
  case h_4 => exact hu _ (by simpa using h)
  all_goals repeat' split
  all_goals simp [h]

@[simp] theorem State.applyWrites_pins (s : State) (a : Auth) (l : List (Nat × Nat)) (h : PinStores s.pin) :
    PinStores (s.applyWrites a l).pin := by
  have hf := foldl_pins (f := fun (t : State) (x : Nat × Nat) => t.paramEffect a (s.stored x.1) x.1 x.2)
    (fun t x ht => State.paramEffect_pins t a _ x.1 x.2 ht) l (s := s.putAll l) (by simpa using h)
  unfold State.applyWrites; dsimp only; split <;> simpa using hf

@[simp] theorem State.setParams_pins (s : State) (m : Msg) (l : List (Nat × Nat)) (h : PinStores s.pin) :
    PinStores (s.setParams m l).s.pin := by
  simp [State.setParams, h]

@[simp] theorem State.paramSet_pins (s : State) (m : Msg) (h : PinStores s.pin) :
    PinStores (s.paramSet m).s.pin := by
  unfold State.paramSet; repeat' split
  all_goals simp [h]

@[simp] theorem State.overrunShade_pins (s : State) (q : Nat) (h : PinStores s.pin) :
    PinStores (s.overrunShade q).pin := by
  exact State.setShade_pins q (State.stopShade_pins s q h) ((State.stopShade_pins s q h).shade_fit q)

@[simp] theorem State.goShade_pins (s : State) (q : Nat) (x : Shade) (pc next : Nat) (h : PinStores s.pin) (hx : x.FifosFit) :
    PinStores (s.goShade q x pc next).pin := by
  have hs : PinStores (s.progress [58]).pin := by simpa using h
  have hy := State.setShade_pins q hs (x := { x with next := next, waiting := none, shifted := 0, target := none, drove := none }) hx
  unfold State.goShade; dsimp only; split
  · exact State.setShade_pins q hy hx
  · exact State.overrunShade_pins _ q hy

@[simp] theorem State.cycleTo_pins (s : State) (q : Nat) (x : Shade) (b pc : Nat) (h : PinStores s.pin) (hx : x.FifosFit) :
    PinStores (s.cycleTo q x b pc).pin := by
  exact State.setShade_pins q (by simpa using h) hx

@[simp] theorem State.oneCycle_pins (s : State) (q : Nat) (x : Shade) (h : PinStores s.pin) (hx : x.FifosFit) :
    PinStores (s.oneCycle q x).pin := by
  exact State.cycleTo_pins _ _ _ _ _ h hx

@[simp] theorem State.shiftTo_pins (s : State) (q c : Nat) (d : Word) (h : PinStores s.pin) :
    PinStores (s.shiftTo q c d).pin := by
  unfold State.shiftTo; dsimp only; split
  · exact State.setShade_pins q (by simpa using h) (h.shade_fit q)
  · exact State.goShade_pins _ _ _ _ _ h (h.shade_fit q)

@[simp] theorem State.driveClock_pins (s : State) (q c : Nat) (h : PinStores s.pin) :
    PinStores (s.driveClock q c).pin := by
  simp [State.driveClock, h]

@[simp] theorem State.driveData_pins (s : State) (q c : Nat) (h : PinStores s.pin) :
    PinStores (s.driveData q c).pin := by
  simp [State.driveData, h]

@[simp] theorem State.beginWait_pins (s : State) (q : Nat) (w : ShadeWait) (h : PinStores s.pin) :
    PinStores (s.beginWait q w).pin := by
  exact State.setShade_pins q (by simpa using h) (h.shade_fit q)

@[simp] theorem State.haltShade_pins (s : State) (q : Nat) (h : PinStores s.pin) :
    PinStores (s.haltShade q).pin := by
  exact State.setShade_pins q (State.toSafe_pins s _ h) (h.shade_fit q)

@[simp] theorem State.redrive_pins (s : State) (q : Nat) (h : PinStores s.pin) :
    PinStores (s.redrive q).pin := by
  have h0 := State.setShade_pins q h
    (x := { s.shadeAt q with state := .running, change := none, waiting := s.lookAgain q (s.shadeAt q).waiting }) (h.shade_fit q)
  unfold State.redrive; dsimp only; repeat' split
  all_goals simp [h0]

@[simp] theorem State.startsNow_pins (s : State) (q : Nat) (h : PinStores s.pin) :
    PinStores (s.startsNow q).pin := by
  exact State.setShade_pins q h (h.shade_fit q)

@[simp] theorem State.tickShade_pins (s : State) (q : Nat) (h : PinStores s.pin) :
    PinStores (s.tickShade q).pin := by
  have hgo : ∀ pc, PinStores (s.goShade q (s.shadeAt q) pc (s.shadeAt q).next).pin :=
    fun pc => State.goShade_pins s q _ pc _ h (h.shade_fit q)
  unfold State.tickShade; dsimp only; repeat' split
  all_goals simp [h, hgo]

@[simp] theorem State.tickPins_pins (s : State) (h : PinStores s.pin) :
    PinStores s.tickPins.pin := by
  have h1 := State.applyPins_pins _ (foldl_pins (fun t q ht => State.tickShade_pins t q ht) (List.range 4)
    (s := { s with pin := { s.pin with tint := s.pin.tint.map Tint.tick } }) h)
  unfold State.tickPins; dsimp only; split
  · have h2 := State.syncArm_pins _ (foldl_pins (fun t n ht => State.samplePin_pins t n ht) (List.range 16) h1)
    simpa using h2
  · exact h1

@[simp] theorem State.tick_pins (s : State) (h : PinStores s.pin) :
    PinStores s.tick.pin := by
  simp [State.tick, h]

@[simp] theorem State.loadTint_pins (s : State) (m : Msg) (h : PinStores s.pin) :
    PinStores (s.loadTint m).pin := by
  obtain ⟨h1, h2, h3, h4⟩ := h
  exact ⟨h1, foldl_spSet_canon _ _ _ h2, h3, h4⟩

@[simp] theorem State.loadStore_pins (s : State) (m : Msg) (h : PinStores s.pin) :
    PinStores (s.loadStore m).pin := by
  obtain ⟨h1, h2, h3, h4⟩ := h
  refine ⟨h1, h2, foldl_spSet_canon _ _ _ h3, fun q hq => ?_⟩
  have hfit := h4 q hq
  simp only [List.getD_eq_getElem?_getD, Vector.getElem?_toList] at hfit
  simp only [State.loadStore, List.getD_eq_getElem?_getD, Vector.toList_map, List.getElem?_map, Vector.getElem?_toList]
  cases hx : s.pin.shade[q]? with
  | none => exact Shade.fits_of_empty rfl rfl
  | some x =>
    rw [hx] at hfit
    dsimp only [Option.map_some, Option.getD_some]
    split
    · exact hfit
    · exact hfit

@[simp] theorem State.pinLoad_pins (s : State) (m : Msg) (h : PinStores s.pin) :
    PinStores (s.pinLoad m).s.pin := by
  refine check_pins _ h ?_
  have hc : PinStores (s.commitConfig m 0xFF 0).pin := by simpa using h
  dsimp only; split
  · exact State.loadTint_pins _ m hc
  · exact State.loadStore_pins _ m hc

@[simp] theorem State.haltDone_pins (s : State) (q : Nat) (h : PinStores s.pin) :
    PinStores (s.haltDone q).pin := by
  simp [State.haltDone, h]

@[simp] theorem State.shadeBegin_pins (s : State) (from_ : ShadeState) (m : Msg) (h : PinStores s.pin) :
    PinStores (s.shadeBegin from_ m).s.pin := by
  exact check_pins _ h (by simpa using (State.setShade_pins _ (State.haltDone_pins _ _ h) (Shade.fits_of_empty rfl rfl)))

@[simp] theorem State.shadeStart_pins (s : State) (m : Msg) (h : PinStores s.pin) :
    PinStores (s.shadeStart m).s.pin := by
  simp [State.shadeStart, h]

@[simp] theorem State.shadeHalt_pins (s : State) (m : Msg) (h : PinStores s.pin) :
    PinStores (s.shadeHalt m).s.pin := by
  exact check_pins _ h (by
    simpa using State.setShade_pins m.shadeSeq h (x := { s.shadeOf m with change := some .halt }) (h.shade_fit _))

@[simp] theorem State.shadeResume_pins (s : State) (m : Msg) (h : PinStores s.pin) :
    PinStores (s.shadeResume m).s.pin := by
  have hd := State.haltDone_pins s m.shadeSeq h
  exact check_pins _ h (by
    simpa using State.setShade_pins m.shadeSeq hd (x := ((s.haltDone m.shadeSeq).shadeOf m).resumed (s.clk.ticks + 1)) (hd.shade_fit _))

@[simp] theorem State.shadeStop_pins (s : State) (m : Msg) (h : PinStores s.pin) :
    PinStores (s.shadeStop m).s.pin := by
  simp [State.shadeStop, h]

@[simp] theorem State.fifoWrite_pins (s : State) (m : Msg) (h : PinStores s.pin) : PinStores (s.fifoWrite m).s.pin := by
  unfold State.fifoWrite
  dsimp only
  refine check_keeps_of (P := fun s => PinStores s.pin) _ h fun he => ?_
  simp only [firstError_cons_eq_zero (show errRange ≠ 0 by decide), firstError_cons_eq_zero (show errState ≠ 0 by decide),
    firstError_cons_eq_zero (show errBusy ≠ 0 by decide), decide_eq_false_iff_not, Nat.not_lt] at he
  obtain ⟨-, -, hroom, -⟩ := he
  obtain ⟨-, hout⟩ := h.shade_fit m.shadeSeq
  have hx : ({ s.shadeOf m with inFifo := (s.shadeOf m).inFifo ++ m.fifoValues } : Shade).FifosFit :=
    ⟨by simpa [Msg.fifoValues] using hroom, hout⟩
  simpa using State.setShade_pins m.shadeSeq h (Shade.ready_fit _ s.clk.ticks hx)

@[simp] theorem State.fifoRead_pins (s : State) (m : Msg) (h : PinStores s.pin) : PinStores (s.fifoRead m).s.pin := by
  obtain ⟨hin, -⟩ := h.shade_fit m.shadeSeq
  have hx : ({ s.shadeOf m with outFifo := [] } : Shade).FifosFit := ⟨hin, Nat.zero_le 4⟩
  exact check_pins _ h (by simpa using State.setShade_pins m.shadeSeq h (Shade.ready_fit _ s.clk.ticks hx))

/-! ### Resets -/

/-- The pins as a reset leaves them: tables and store stand, nothing is latched, every sequencer is fresh (R311). -/
theorem State.wiped_pins (s : State) (por : Bool) (h : PinStores s.pin) : PinStores (s.wiped por).pin := by
  obtain ⟨-, h2, h3, -⟩ := h
  refine ⟨rfl, h2, h3, fun q hq => ?_⟩
  have fresh : (s.wiped por).pin.shade.toList.getD q {} = {} :=
    getD_toList_replicate 4 q ({} : Shade)
  rw [fresh]
  exact Shade.fits_of_empty rfl rfl

@[simp] theorem State.resetDevice_pins (s : State) (cause : Cause) (missing : BitVec 16) (record : Bool) (h : PinStores s.pin) :
    PinStores (s.resetDevice cause missing record).pin := by
  have hw : PinStores ((s.countFailure cause).wiped false).pin := State.wiped_pins _ _ (by simpa using h)
  simpa [State.resetDevice] using hw

@[simp] theorem State.leaveHold_pins (s : State) (y : Hold) (h : PinStores s.pin) : PinStores (s.leaveHold y).pin := by
  simp [State.leaveHold, h]

@[simp] theorem State.cooled_pins (s : State) (h : PinStores s.pin) : PinStores s.cooled.pin := by
  unfold State.cooled
  dsimp only
  repeat' split
  all_goals simp [h]

@[simp] theorem State.askReset_pins (s : State) (cause : Cause) (h : PinStores s.pin) : PinStores (s.askReset cause).pin := by
  unfold State.askReset
  repeat' split
  all_goals simp [h]

@[simp] theorem State.powerLost_pins (s : State) (loss : PowerLoss) (h : PinStores s.pin) : PinStores (s.powerLost loss).pin :=
  State.wiped_pins _ true (by simpa using h)

@[simp] theorem State.carryOut_pins (s : State) (d : Decided) (h : PinStores s.pin) : PinStores (s.carryOut d).pin := by
  simp [State.carryOut, h]

@[simp] theorem State.endRun_pins (s : State) (r : Run) (h : PinStores s.pin) : PinStores (s.endRun r).pin := by
  unfold State.endRun
  dsimp only
  split <;> simp [h]

/-! ### Every command -/


theorem answerClosed_pins : AnswerClosed fun s => PinStores s.pin where
  take s m h := by simpa using h
  sequence s m h := by simpa using h
  send a m keep h := by simpa using h
  again s m h := by simpa using h

@[simp] theorem serve_pins {s : State} {mine : Msg → Bool} {row : MsgRow} {fits : Msg → Nat → Bool}
    {gen : State → Msg → Nat} {run : State → Msg → Answer} (hs : PinStores s.pin)
    (hrun : ∀ t m, PinStores t.pin → PinStores (run t m).s.pin) : PinStores (s.serve mine row fits gen run).pin :=
  serve_keeps (P := fun s => PinStores s.pin) answerClosed_pins hs hrun

/-! The values a shade instruction leaves in the FIFOs. -/

theorem Shade.pulled_fit (x : Shade) (w : Nat) (v : Word) (h : x.FifosFit) : (x.pulled w v).FifosFit := by
  unfold Shade.pulled
  split <;> exact h

theorem Shade.pullHead_fit (x : Shade) (w : Nat) (h : x.FifosFit) : (x.pullHead w).FifosFit := by
  obtain ⟨hin, hout⟩ := h
  exact Shade.pulled_fit _ _ _ ⟨by simp only [List.length_drop]; omega, hout⟩

theorem Shade.pushed_fit (x : Shade) (w : Nat) (h : x.FifosFit) (room : x.outFifo.length < 4) : (x.pushed w).FifosFit :=
  ⟨h.1, by rw [Shade.pushed, List.length_append]; exact room⟩

theorem Shade.signalled_fit (x : Shade) (w now : Nat) (h : x.FifosFit) : (x.signalled w now).FifosFit := by
  unfold Shade.signalled
  split <;> exact h

theorem State.moved_fit (s : State) (q w : Nat) (h : (s.shadeAt q).FifosFit) : (s.moved q w).FifosFit := by
  unfold State.moved
  dsimp only
  split <;> exact h

theorem exec_pins {s t : State} {c : Instr} (h : PinStores s.pin) (e : exec c s = .next t) : PinStores t.pin := by
  have hf := h.shade_fit
  cases c <;> cases e
  case msgUnknown | msgNop | msgAttest => exact serve_pins h fun _ _ ht => ht
  case waitPinDone | waitPinTimeout | waitTicksDone =>
    repeat' split
    · exact State.goShade_pins _ _ _ _ _ h (hf _)
    all_goals exact h
  case pullUnblock =>
    repeat' split
    · exact State.cycleTo_pins _ _ _ _ _ h (Shade.pullHead_fit _ _ (hf _))
    all_goals exact h
  case pushUnblock =>
    repeat' split
    · next can => exact State.cycleTo_pins _ _ _ _ _ h (Shade.pushed_fit _ _ (hf _) (by simp at can; exact can.2))
    all_goals exact h
  all_goals repeat' split
  case triggerArm.refl.isTrue => exact State.syncArm_pins s h
  case shiftOut.refl.isTrue => exact State.shiftTo_pins _ _ _ _ (by simp [h])
  case set.refl.isTrue => exact State.oneCycle_pins _ _ _ (State.drivePin_pins _ _ _ _ h) (hf _)
  case jump.refl.isTrue.isTrue | jump.refl.isTrue.isFalse => exact State.cycleTo_pins _ _ _ _ _ h (hf _)
  case pull.refl.isTrue.isTrue => exact State.oneCycle_pins _ _ _ h (Shade.pullHead_fit _ _ (hf _))
  case pull.refl.isTrue.isFalse.isFalse => exact State.oneCycle_pins _ _ _ h (Shade.pulled_fit _ _ _ (hf _))
  case push.refl.isTrue.isTrue room => exact State.oneCycle_pins _ _ _ h (Shade.pushed_fit _ _ (hf _) room)
  case push.refl.isTrue.isFalse.isFalse => exact State.oneCycle_pins _ _ _ h (hf _)
  case move.refl.isTrue => exact State.oneCycle_pins _ _ _ h (State.moved_fit _ _ _ (hf _))
  case signal.refl.isTrue => exact State.oneCycle_pins _ _ _ h (Shade.signalled_fit _ _ _ (hf _))
  all_goals simp +contextual [State.serveCode, State.writeWord, State.padsFall, h]

/-- Settles O58: with `setShade` as the one place that writes a sequencer, every command leaves FIFOs that fit. -/
theorem stepKeepsPins : Obligations.StepKeepsPins :=
  fun _ _ => step_keeps (P := PinsInForm) (fun _ _ h => h) State.tick_pins (fun _ _ _ h e => exec_pins h e)

/-! ## Proofs: only a reset leaves Vermilion (06) -/

@[simp] theorem ite_vermilion (c : Prop) [Decidable c] (a b : Sea) :
    (if c then a else b).vermilion = if c then a.vermilion else b.vermilion := apply_ite Sea.vermilion c a b
@[simp] theorem foldl_vermilion {β : Type} (f : State → β → State)
    (h : ∀ s b, (f s b).sea.vermilion = s.sea.vermilion) (l : List β) (s : State) :
    (l.foldl f s).sea.vermilion = s.sea.vermilion := by
  induction l generalizing s with
  | nil => rfl
  | cons x l ih => simp [ih, h]

@[simp] theorem check_vermilion {s : State} (l : List (Bool × Nat)) {f : Unit → Answer}
    (h : (f ()).s.sea.vermilion = s.sea.vermilion) : (s.check l f).s.sea.vermilion = s.sea.vermilion :=
  check_keeps (P := fun t => t.sea.vermilion = s.sea.vermilion) l rfl h

@[simp] theorem checkNumbered_vermilion {s : State} (first : Nat) (l : List (Bool × Nat)) {f : Unit → Answer}
    (h : (f ()).s.sea.vermilion = s.sea.vermilion) : (s.checkNumbered first l f).s.sea.vermilion = s.sea.vermilion :=
  checkNumbered_keeps (P := fun t => t.sea.vermilion = s.sea.vermilion) first l rfl h

@[simp] theorem State.pushJob_vermilion (s : State) (j : SignJob) :
    (s.pushJob j).sea.vermilion = s.sea.vermilion := by
  simp [State.pushJob]

@[simp] theorem State.publish_vermilion (s : State) (c : Commit) (q : Word) (epoch : Nat) (entry subject head : Bytes) :
    (s.publish c q epoch entry subject head).sea.vermilion = s.sea.vermilion := by
  simp [State.publish]

@[simp] theorem State.commitEntry_vermilion (s : State) (c : Commit) :
    (s.commitEntry c).sea.vermilion = s.sea.vermilion := by
  simp [State.commitEntry]

@[simp] theorem State.flushCommits_vermilion (s : State) :
    s.flushCommits.sea.vermilion = s.sea.vermilion := by
  simp [State.flushCommits]

@[simp] theorem State.commitNow_vermilion (s : State) (c : Commit) :
    (s.commitNow c).sea.vermilion = s.sea.vermilion := by
  simp [State.commitNow]

@[simp] theorem State.takeSegment_vermilion (s : State) :
    s.takeSegment.2.sea.vermilion = s.sea.vermilion := by
  simp [State.takeSegment]

@[simp] theorem State.sealSegment_vermilion (s : State) (v : Nat) (g : Segment) :
    (s.sealSegment v g).sea.vermilion = s.sea.vermilion := by
  simp [State.sealSegment]

@[simp] theorem State.settle_vermilion (s : State) (v : Nat) :
    (s.settle v).sea.vermilion = s.sea.vermilion := by
  simp [State.settle]

@[simp] theorem State.joinValue_vermilion (s : State) (v : Nat) (x : SegValue) :
    (s.joinValue v x).sea.vermilion = s.sea.vermilion := by
  simp [State.joinValue]

@[simp] theorem State.takeValue_vermilion (s : State) (v : Nat) (x : SegValue) :
    (s.takeValue v x).sea.vermilion = s.sea.vermilion := by
  simp [State.takeValue]

@[simp] theorem State.recordGap_vermilion (s : State) (v : Nat) (c : Word64) (time : Word64) (cause : GapCause) :
    (s.recordGap v c time cause).sea.vermilion = s.sea.vermilion := by
  simp [State.recordGap]

@[simp] theorem State.timeValue_vermilion (s : State) (v : Nat) (c : Word64) (t : Word64) :
    (s.timeValue v c t).sea.vermilion = s.sea.vermilion := by
  simp [State.timeValue]

@[simp] theorem State.closeSegment_vermilion (s : State) (v : Nat) (f : Segment → Segment) :
    (s.closeSegment v f).sea.vermilion = s.sea.vermilion := by
  simp [State.closeSegment]

@[simp] theorem State.closeAll_vermilion (s : State) (f : Segment → Segment) :
    (s.closeAll f).sea.vermilion = s.sea.vermilion := by
  simp [State.closeAll]

@[simp] theorem State.withholdPace_vermilion (s : State) (time : Word64) (monitor reason : Nat) :
    (s.withholdPace time monitor reason).sea.vermilion = s.sea.vermilion := by
  simp [State.withholdPace]

@[simp] theorem State.withholdLink_vermilion (s : State) (time : Word64) :
    (s.withholdLink time).sea.vermilion = s.sea.vermilion := by
  simp [State.withholdLink]

@[simp] theorem State.commitCapture_vermilion (s : State) (t0 : Nat) (us : List ProfileUse) (quads : Nat) (detect : Option Word64) :
    (s.commitCapture t0 us quads detect).sea.vermilion = s.sea.vermilion := by
  simp [State.commitCapture]

@[simp] theorem State.scheduled_vermilion (s : State) (tx : Nat) :
    (s.scheduled tx).sea.vermilion = s.sea.vermilion := by
  simp [State.scheduled]

@[simp] theorem State.acceptTrigger_vermilion (s : State) (quads : Nat) (us : List ProfileUse) :
    (s.acceptTrigger quads us).sea.vermilion = s.sea.vermilion := by
  simp [State.acceptTrigger]

@[simp] theorem State.takeTrigger_vermilion (s : State) :
    s.takeTrigger.sea.vermilion = s.sea.vermilion := by
  simp [State.takeTrigger]

@[simp] theorem State.launchT0_vermilion (s : State) (c : Capture) (m : Word64) :
    (s.launchT0 c m).sea.vermilion = s.sea.vermilion := by
  simp [State.launchT0]

@[simp] theorem State.edgeEffect_vermilion (s : State) (c : Capture) (y : Edge) :
    (s.edgeEffect c y).sea.vermilion = s.sea.vermilion := by
  unfold State.edgeEffect; split <;> simp

@[simp] theorem State.launchEdge_vermilion (s : State) (c : Capture) (e : Edge) :
    (s.launchEdge c e).sea.vermilion = s.sea.vermilion := by
  simp [State.launchEdge]

@[simp] theorem State.flushReconfig_vermilion (s : State) (v : Nat) :
    (s.flushReconfig v).sea.vermilion = s.sea.vermilion := by
  simp [State.flushReconfig]

@[simp] theorem State.stopCaptures_vermilion (s : State) :
    s.stopCaptures.sea.vermilion = s.sea.vermilion := by
  simp [State.stopCaptures]

@[simp] theorem State.discardJobs_vermilion (s : State) :
    s.discardJobs.sea.vermilion = s.sea.vermilion := by
  simp [State.discardJobs]

@[simp] theorem State.goQuiet_vermilion (s : State) :
    s.goQuiet.sea.vermilion = s.sea.vermilion := by
  simp [State.goQuiet]

@[simp] theorem State.umberStep_vermilion (s : State) :
    s.umberStep.sea.vermilion = s.sea.vermilion := by
  unfold State.umberStep; repeat' split
  all_goals simp

@[simp] theorem State.umberAdvance_vermilion (s : State) :
    s.umberAdvance.sea.vermilion = s.sea.vermilion := by
  simp [State.umberAdvance]

@[simp] theorem State.startRun_vermilion (s : State) (trigger : Nat) :
    (s.startRun trigger).sea.vermilion = s.sea.vermilion := by
  simp [State.startRun]

@[simp] theorem State.afterWork_vermilion (s : State) :
    s.afterWork.sea.vermilion = s.sea.vermilion := by
  simp [State.afterWork]

@[simp] theorem State.commitHead_vermilion (s : State) (c : Commit) (rest : List Commit) :
    (s.commitHead c rest).sea.vermilion = s.sea.vermilion := by
  simp [State.commitHead]

@[simp] theorem State.blockDone_vermilion (s : State) (j : BlockJob) (rest : List BlockJob) :
    (s.blockDone j rest).sea.vermilion = s.sea.vermilion := by
  simp [State.blockDone]

@[simp] theorem State.deliver_vermilion (s : State) (b : Nat) (w : WaitingQuad) (samples : List RawSample) :
    (s.deliver b w samples).sea.vermilion = s.sea.vermilion := by
  simp [State.deliver]

@[simp] theorem State.align_vermilion (s : State) (w : WaitingQuad) (p : PdpJob) :
    (s.align w p).sea.vermilion = s.sea.vermilion := by
  simp [State.align]

@[simp] theorem State.dealStrip_vermilion (s : State) (v : Nat) (f : Frame) (e : Nat) :
    (s.dealStrip v f e).sea.vermilion = s.sea.vermilion := by
  simp [State.dealStrip]

@[simp] theorem State.packLine_vermilion (s : State) (v : Nat) (f : Frame) (p : PdpJob) :
    (s.packLine v f p).sea.vermilion = s.sea.vermilion := by
  simp [State.packLine]

@[simp] theorem State.packNext_vermilion (s : State) (v : Nat) (f : Frame) (p : PdpJob) :
    (s.packNext v f p).sea.vermilion = s.sea.vermilion := by
  unfold State.packNext; repeat' split
  all_goals simp

@[simp] theorem State.lineTaken_vermilion (s : State) (v : Nat) (f : Frame) :
    (s.lineTaken v f).sea.vermilion = s.sea.vermilion := by
  simp [State.lineTaken]

theorem takeLine_vermilion {s t : State} (h : s.takeLine = some t) : t.sea.vermilion = s.sea.vermilion := by
  unfold State.takeLine at h
  dsimp only at h
  repeat' split at h
  all_goals cases h <;> simp

theorem State.takeUpTo_vermilion (n : Nat) (s : State) : (State.takeUpTo n s).sea.vermilion = s.sea.vermilion := by
  induction n generalizing s with
  | zero => rfl
  | succ n ih =>
    unfold State.takeUpTo
    split
    · next h => exact (ih _).trans (takeLine_vermilion h)
    · rfl

@[simp] theorem State.takeLines_vermilion (s : State) :
    s.takeLines.sea.vermilion = s.sea.vermilion := by
  exact State.takeUpTo_vermilion _ _

@[simp] theorem State.beginRun_vermilion (s : State) (trigger : Nat) :
    (s.beginRun trigger).sea.vermilion = s.sea.vermilion := by
  simp [State.beginRun]

@[simp] theorem State.lessOutstanding_vermilion (s : State) (e n : Nat) :
    (s.lessOutstanding e n).sea.vermilion = s.sea.vermilion := by
  simp [State.lessOutstanding]

@[simp] theorem State.countBytes_vermilion (s : State) (e n : Nat) :
    (s.countBytes e n).sea.vermilion = s.sea.vermilion := by
  simp [State.countBytes]

@[simp] theorem State.absorb_vermilion (s : State) (v i : Nat) (f : Frame) (x : Strip) :
    (s.absorb v i f x).sea.vermilion = s.sea.vermilion := by
  simp [State.absorb]

@[simp] theorem State.releaseStrip_vermilion (s : State) (f : Frame) :
    (s.releaseStrip f).sea.vermilion = s.sea.vermilion := by
  unfold State.releaseStrip; split <;> simp

@[simp] theorem State.endFrame_vermilion (s : State) (v : Nat) (f : Frame) (p : PdpJob) :
    (s.endFrame v f p).sea.vermilion = s.sea.vermilion := by
  simp [State.endFrame]

@[simp] theorem State.signed_vermilion (s : State) (j : SignJob) (rest : Sea) (ns : Nat) :
    (s.signed j rest ns).sea.vermilion = rest.vermilion := by
  simp [State.signed, Sea.counted]

@[simp] theorem State.stopEngines_vermilion (s : State) (l : List Nat) :
    (s.stopEngines l).sea.vermilion = s.sea.vermilion := by
  simp [State.stopEngines]

@[simp] theorem State.sealFault_vermilion (s : State) (m : Nat) :
    (s.sealFault m).sea.vermilion = s.sea.vermilion := by
  simp [State.sealFault]

@[simp] theorem State.trip_vermilion (s : State) (m : Nat) :
    (s.trip m).sea.vermilion = s.sea.vermilion := by
  simp [State.trip]

@[simp] theorem State.trigger_vermilion (s : State) (t : Nat) :
    (s.trigger t).sea.vermilion = s.sea.vermilion := by
  simp [State.trigger]

@[simp] theorem State.droop_vermilion (s : State) (rails : BitVec 4) :
    (s.droop rails).sea.vermilion = s.sea.vermilion := by
  simp [State.droop]

@[simp] theorem State.thermal_vermilion (s : State) :
    s.thermal.sea.vermilion = s.sea.vermilion := by
  simp [State.thermal]

@[simp] theorem State.wedge_vermilion (s : State) :
    s.wedge.sea.vermilion = s.sea.vermilion := by
  simp [State.wedge]

@[simp] theorem State.applyFails_vermilion (s : State) (second : Nat → Commit) :
    (s.applyFails second).s.sea.vermilion = s.sea.vermilion := by
  simp [State.applyFails]

@[simp] theorem State.configFails_vermilion (s : State) (m : Msg) :
    (s.configFails m).s.sea.vermilion = s.sea.vermilion := by
  simp [State.configFails]

@[simp] theorem State.commitConfig_vermilion (s : State) (m : Msg) (view gen : Nat) :
    (s.commitConfig m view gen).sea.vermilion = s.sea.vermilion := by
  simp [State.commitConfig]

@[simp] theorem State.askStandby_vermilion (s : State) (m : Msg) :
    (s.askStandby m).s.sea.vermilion = s.sea.vermilion := by
  simp [State.askStandby]

@[simp] theorem State.detectTrigger_vermilion (s : State) :
    s.detectTrigger.sea.vermilion = s.sea.vermilion := by
  simp [State.detectTrigger]

@[simp] theorem State.setParams_vermilion (s : State) (m : Msg) (l : List (Nat × Nat)) :
    (s.setParams m l).s.sea.vermilion = s.sea.vermilion := by
  simp [State.setParams]

@[simp] theorem State.paramSet_vermilion (s : State) (m : Msg) :
    (s.paramSet m).s.sea.vermilion = s.sea.vermilion := by
  unfold State.paramSet; repeat' split
  all_goals simp

@[simp] theorem State.completeTable_vermilion (s : State) (m : Msg) (t : TableStaging) (o n : Nat) :
    (s.completeTable m t o n).s.sea.vermilion = s.sea.vermilion := by
  simp [State.completeTable]

@[simp] theorem State.takePart_vermilion (s : State) (m : Msg) (old : TableStaging) :
    (s.takePart m old).s.sea.vermilion = s.sea.vermilion := by
  simp [State.takePart]

@[simp] theorem State.tableWrite_vermilion (s : State) (m : Msg) :
    (s.tableWrite m).s.sea.vermilion = s.sea.vermilion := by
  refine check_vermilion _ ?_
  split
  · rfl
  · exact check_vermilion _ (by simp)

@[simp] theorem State.resign_vermilion (s : State) (m : Msg) (l : List Word) :
    (s.resign m l).s.sea.vermilion = s.sea.vermilion := by
  simp [State.resign]

@[simp] theorem State.sealResign_vermilion (s : State) (m : Msg) :
    (s.sealResign m).s.sea.vermilion = s.sea.vermilion := by
  simp [State.sealResign]

@[simp] theorem State.packetBoundary_vermilion (s : State) :
    s.packetBoundary.sea.vermilion = s.sea.vermilion := by
  unfold State.packetBoundary; split <;> simp

@[simp] theorem State.enrol_vermilion (s : State) (m : Msg) :
    (s.enrol m).s.sea.vermilion = s.sea.vermilion := by
  simp [State.enrol]

@[simp] theorem State.roleEnrol_vermilion (s : State) (m : Msg) :
    (s.roleEnrol m).s.sea.vermilion = s.sea.vermilion := by
  simp [State.roleEnrol]

@[simp] theorem State.revoke_vermilion (s : State) (m : Msg) :
    (s.revoke m).s.sea.vermilion = s.sea.vermilion := by
  simp [State.revoke]

@[simp] theorem State.roleRevoke_vermilion (s : State) (m : Msg) :
    (s.roleRevoke m).s.sea.vermilion = s.sea.vermilion := by
  simp [State.roleRevoke]

@[simp] theorem State.finishImage_vermilion (s : State) (m : Msg) (b : Bytes) (blocks : List BlockJob) :
    (s.finishImage m b blocks).s.sea.vermilion = s.sea.vermilion := by
  simp [State.finishImage]

@[simp] theorem State.loadPart_vermilion (s : State) (m : Msg) :
    (s.loadPart m).s.sea.vermilion = s.sea.vermilion := by
  simp [State.loadPart]

@[simp] theorem State.fwLoad_vermilion (s : State) (m : Msg) :
    (s.fwLoad m).s.sea.vermilion = s.sea.vermilion := by
  simp [State.fwLoad]

@[simp] theorem State.activateImage_vermilion (s : State) (m : Msg) (x : LoadedImage) :
    (s.activateImage m x).s.sea.vermilion = s.sea.vermilion := by
  simp [State.activateImage]

@[simp] theorem State.fwActivate_vermilion (s : State) (m : Msg) :
    (s.fwActivate m).s.sea.vermilion = s.sea.vermilion := by
  unfold State.fwActivate; split <;> simp

theorem startFus_vermilion {s : State} (m : Msg) (l : List OtpTask) {f : State → Answer}
    (hf : ∀ t, t.sea.vermilion = s.sea.vermilion → (f t).s.sea.vermilion = s.sea.vermilion) :
    (s.startFus m l f).s.sea.vermilion = s.sea.vermilion := by
  unfold State.startFus
  dsimp only
  split
  · exact hf _ (by simp)
  · simp

--?? State.wiped_frame
--?? State.resetDevice_frame
--?? State.leaveHold_frame
--?? State.cooled_frame
--?? State.askReset_frame
@[simp] theorem State.programWord_vermilion (s : State) (m : Msg) :
    (s.programWord m).s.sea.vermilion = s.sea.vermilion := by
  exact check_vermilion _ (startFus_vermilion _ _ fun _ ht => ht)

@[simp] theorem State.completeGroup_vermilion (s : State) (m : Msg) :
    (s.completeGroup m).s.sea.vermilion = s.sea.vermilion := by
  exact check_vermilion _ (startFus_vermilion _ _ fun _ ht => ht)

@[simp] theorem State.lockGroup_vermilion (s : State) (m : Msg) :
    (s.lockGroup m).s.sea.vermilion = s.sea.vermilion := by
  exact check_vermilion _ (startFus_vermilion _ _ fun _ ht => ht)

@[simp] theorem State.generateIdentity_vermilion (s : State) (entropy : Bytes) (m : Msg) :
    (s.generateIdentity entropy m).s.sea.vermilion = s.sea.vermilion := by
  refine check_vermilion _ ?_
  split
  · rfl
  · exact startFus_vermilion _ _ fun _ ht => ht

@[simp] theorem State.installMaker_vermilion (s : State) (m : Msg) :
    (s.installMaker m).s.sea.vermilion = s.sea.vermilion := by
  simp [State.installMaker]

@[simp] theorem State.reinforce_vermilion (s : State) (m : Msg) :
    (s.reinforce m).s.sea.vermilion = s.sea.vermilion := by
  exact check_vermilion _ (startFus_vermilion _ _ fun _ ht => ht)

@[simp] theorem State.advance_vermilion (s : State) (m : Msg) :
    (s.advance m).s.sea.vermilion = s.sea.vermilion := by
  exact startFus_vermilion _ _ fun _ ht => ht

@[simp] theorem State.lifecycleAdvance_vermilion (s : State) (m : Msg) :
    (s.lifecycleAdvance m).s.sea.vermilion = s.sea.vermilion := by
  simp [State.lifecycleAdvance]

@[simp] theorem State.setDebug_vermilion (s : State) (on : Bool) :
    (s.setDebug on).sea.vermilion = s.sea.vermilion := by
  simp [State.setDebug]

@[simp] theorem State.debugUnlock_vermilion (s : State) (m : Msg) :
    (s.debugUnlock m).s.sea.vermilion = s.sea.vermilion := by
  simp [State.debugUnlock]

@[simp] theorem State.debugRelock_vermilion (s : State) (m : Msg) :
    (s.debugRelock m).s.sea.vermilion = s.sea.vermilion := by
  simp [State.debugRelock]

@[simp] theorem State.pulseDone_vermilion (s : State) (t : OtpTask) (rest : List OtpTask) (r : OtpReads) :
    (s.pulseDone t rest r).sea.vermilion = s.sea.vermilion := by
  simp [State.pulseDone]

@[simp] theorem State.pinLoad_vermilion (s : State) (m : Msg) :
    (s.pinLoad m).s.sea.vermilion = s.sea.vermilion := by
  simp [State.pinLoad]

@[simp] theorem State.shadeDone_vermilion (s : State) (m : Msg) (values : List Word) :
    (s.shadeDone m values).s.sea.vermilion = s.sea.vermilion := by
  simp [State.shadeDone]

@[simp] theorem State.shadeBegin_vermilion (s : State) (from_ : ShadeState) (m : Msg) :
    (s.shadeBegin from_ m).s.sea.vermilion = s.sea.vermilion := by
  simp [State.shadeBegin]

@[simp] theorem State.shadeStart_vermilion (s : State) (m : Msg) :
    (s.shadeStart m).s.sea.vermilion = s.sea.vermilion := by
  simp [State.shadeStart]

@[simp] theorem State.shadeHalt_vermilion (s : State) (m : Msg) :
    (s.shadeHalt m).s.sea.vermilion = s.sea.vermilion := by
  simp [State.shadeHalt]

@[simp] theorem State.shadeResume_vermilion (s : State) (m : Msg) :
    (s.shadeResume m).s.sea.vermilion = s.sea.vermilion := by
  simp [State.shadeResume]

@[simp] theorem State.shadeStop_vermilion (s : State) (m : Msg) :
    (s.shadeStop m).s.sea.vermilion = s.sea.vermilion := by
  simp [State.shadeStop]

@[simp] theorem State.fifoWrite_vermilion (s : State) (m : Msg) :
    (s.fifoWrite m).s.sea.vermilion = s.sea.vermilion := by
  simp [State.fifoWrite]

@[simp] theorem State.fifoRead_vermilion (s : State) (m : Msg) :
    (s.fifoRead m).s.sea.vermilion = s.sea.vermilion := by
  simp [State.fifoRead]

@[simp] theorem State.acceptCal_vermilion (s : State) (m : Msg) :
    (s.acceptCal m).s.sea.vermilion = s.sea.vermilion := by
  simp [State.acceptCal]

@[simp] theorem State.calibrate_vermilion (s : State) (m : Msg) :
    (s.calibrate m).s.sea.vermilion = s.sea.vermilion := by
  simp [State.calibrate]

@[simp] theorem State.calClear_vermilion (s : State) (m : Msg) :
    (s.calClear m).s.sea.vermilion = s.sea.vermilion := by
  simp [State.calClear]

@[simp] theorem State.commitView_vermilion (s : State) (m : Msg) :
    (s.commitView m).sea.vermilion = s.sea.vermilion := by
  simp [State.commitView]

@[simp] theorem State.cutView_vermilion (s : State) (v : Nat) :
    (s.cutView v).sea.vermilion = s.sea.vermilion := by
  simp [State.cutView]

@[simp] theorem State.renewView_vermilion (s : State) (v : Nat) :
    (s.renewView v).sea.vermilion = s.sea.vermilion := by
  simp [State.renewView]

@[simp] theorem State.reactivate_vermilion (s : State) (v : Nat) (g : ViewGen) :
    (s.reactivate v g).sea.vermilion = s.sea.vermilion := by
  simp [State.reactivate]

@[simp] theorem State.activate_vermilion (s : State) (m : Msg) (g : ViewGen) :
    (s.activate m g).s.sea.vermilion = s.sea.vermilion := by
  simp [State.activate]

@[simp] theorem State.viewActivate_vermilion (s : State) (m : Msg) :
    (s.viewActivate m).s.sea.vermilion = s.sea.vermilion := by
  simp [State.viewActivate]

@[simp] theorem State.startView_vermilion (s : State) (m : Msg) :
    (s.startView m).s.sea.vermilion = s.sea.vermilion := by
  simp [State.startView]

@[simp] theorem State.viewStart_vermilion (s : State) (m : Msg) :
    (s.viewStart m).s.sea.vermilion = s.sea.vermilion := by
  simp [State.viewStart]

@[simp] theorem State.stopView_vermilion (s : State) (m : Msg) :
    (s.stopView m).s.sea.vermilion = s.sea.vermilion := by
  simp [State.stopView]

@[simp] theorem State.viewStop_vermilion (s : State) (m : Msg) :
    (s.viewStop m).s.sea.vermilion = s.sea.vermilion := by
  simp [State.viewStop]

/-! ### Every command -/


/-- Entering Vermilion latches one more cause. -/
@[simp] theorem State.enterVermilion_vermilion (s : State) (bit : Nat) :
    (s.enterVermilion bit).sea.vermilion = s.sea.vermilion ||| 2 ^ bit := by
  have settled : ∀ (f : Nat → View → View) (l : List Nat) (t : State),
      (l.foldl (fun s v => (s.onView v (f v)).settle v) t).sea.vermilion = t.sea.vermilion := by
    simp
  unfold State.enterVermilion
  dsimp only
  repeat' split
  all_goals simp

theorem answerClosed_vermilion (v : Nat) : AnswerClosed fun s => s.sea.vermilion = v where
  take s m h := by simpa using h
  sequence s m h := by simpa using h
  send a m keep h := by simpa using h
  again s m h := by simpa using h

@[simp] theorem serve_vermilion {s : State} {mine : Msg → Bool} {row : MsgRow} {fits : Msg → Nat → Bool}
    {gen : State → Msg → Nat} {run : State → Msg → Answer} (hrun : ∀ t m, (run t m).s.sea.vermilion = t.sea.vermilion) :
    (s.serve mine row fits gen run).sea.vermilion = s.sea.vermilion :=
  serve_keeps (P := fun t => t.sea.vermilion = s.sea.vermilion) (answerClosed_vermilion _) rfl fun t m ht => (hrun t m).trans ht

theorem nextJob_vermilion {x rest : Sea} {j : SignJob} (h : x.nextJob = some (j, rest)) : rest.vermilion = x.vermilion := by
  unfold Sea.nextJob at h
  repeat' split at h
  all_goals cases h <;> rfl

theorem jobDue_vermilion {s : State} {j : SignJob} {rest : Sea} (h : s.jobDue = some (j, rest)) :
    rest.vermilion = s.sea.vermilion := by
  unfold State.jobDue at h
  split at h
  · exact nextJob_vermilion (Option.eq_some_of_filter_eq_some h)
  · cases h

/-- A unit that drifts latches at most one more cause. -/
theorem driftUnit_latches (s : State) (u : Nat) (r : OtpReads) :
    ∃ w, (s.driftUnit u r).sea.vermilion = s.sea.vermilion ||| w := by
  unfold State.driftUnit
  dsimp only
  repeat' split
  · exact ⟨0, by simp⟩
  · exact ⟨2 ^ 2, by simp⟩
  · exact ⟨0, by simp⟩

theorem driftUnits_latch (l : List Nat) (s : State) :
    ∃ w, (l.foldl (fun s u => s.driftUnit u (spGet blankReads u s.fus.units)) s).sea.vermilion = s.sea.vermilion ||| w := by
  induction l generalizing s with
  | nil => exact ⟨0, by simp⟩
  | cons u l ih =>
    obtain ⟨w, hw⟩ := driftUnit_latches s u (spGet blankReads u s.fus.units)
    obtain ⟨w', hw'⟩ := ih (s.driftUnit u (spGet blankReads u s.fus.units))
    exact ⟨w ||| w', by rw [List.foldl_cons, hw', hw, Nat.or_assoc]⟩

theorem exec_vermilion {s t : State} {c : Instr} (h : mayReset c = false) (hf : ∀ r, c ≠ .fusReread r) (e : exec c s = .next t) :
    t.sea.vermilion = s.sea.vermilion := by
  cases c <;> cases h <;> cases e
  case msgUnknown | msgNop | msgAttest => exact serve_vermilion fun _ _ => rfl
  case fusReread.refl.refl => exact absurd rfl (hf _)
  case signJobDone.refl.refl =>
    repeat' split
    · next due => simp [jobDue_vermilion due]
    all_goals rfl
  all_goals repeat' split
  all_goals simp [State.serveCode, State.writeWord, State.padsFall]

theorem reportDrift_latches (s : State) : ∃ w, s.reportDrift.sea.vermilion = s.sea.vermilion ||| w := by
  have words : ∀ l : List Nat, (l.foldl (fun s w => s.driftWord w (spGet blankReads w s.fus.words)) s).sea.vermilion =
      s.sea.vermilion := by simp
  unfold State.reportDrift
  dsimp only
  rw [← words s.fus.listedWords]
  exact driftUnits_latch _ _

/-- Outside a reset a command latches causes and takes none away. -/
theorem exec_latches {s t : State} {c : Instr} (h : mayReset c = false) (e : exec c s = .next t) :
    ∃ w, t.sea.vermilion = s.sea.vermilion ||| w := by
  by_cases hc : ∃ r, c = .fusReread r
  · obtain ⟨r, rfl⟩ := hc
    cases e
    split
    · obtain ⟨w, hw⟩ := reportDrift_latches ({ s with fus := { s.fus.drifted r with readTick := s.clk.ticks } }.progress [48])
      exact ⟨w, hw.trans (by simp)⟩
    · exact ⟨0, by simp⟩
  · exact ⟨0, by simp [exec_vermilion h (fun r hr => hc ⟨r, hr⟩) e]⟩

/-- Settles O60: the only writer of the causes outside a reset is a drifting unit, and it adds one. -/
theorem vermilionStays : Obligations.VermilionStays := by
  unfold Obligations.VermilionStays
  intro c s t h e
  obtain ⟨w, hw⟩ := exec_latches h e
  rw [hw]
  exact Nat.eq_of_testBit_eq fun i => by cases hv : s.sea.vermilion.testBit i <;> simp [hv]

/-! ## Proofs: the step, and the state after reset -/

/-- Settles O59. -/
theorem invariantsAtReset : Obligations.InvariantsAtReset := by
  unfold Obligations.InvariantsAtReset
  refine ⟨⟨rfl, rfl, rfl, rfl, rfl⟩, rfl, rfl, rfl, fun q hq => ?_⟩
  have fresh : State.reset.shadeAt q = {} := getD_toList_replicate 4 q ({} : Shade)
  rw [fresh]
  exact Shade.fits_of_empty rfl rfl

/-- Settles O1: the queue is not empty, so the step is its second case. -/
theorem stepRunsFront : Obligations.StepRunsFront := by
  intro c rest s h
  simp [step, h]

end Sys2Proof.Machine

namespace Sys2Proof.Machine

/-! ## Proofs: what a tick of the pins leaves (17) -/

/-! ### The stores and counts of the other engines -/

theorem foldl_same {β γ : Type} {f : State → β → State} (g : State → γ) (h : ∀ s b, g (f s b) = g s) (l : List β) (s : State) :
    g (l.foldl f s) = g s := by
  induction l generalizing s with
  | nil => rfl
  | cons b l ih => exact (ih _).trans (h s b)

/-- What a tick leaves of the pin engines: the tint engines and their tables, the program store, the arming, the detectors and the PPS
output. -/
def Pin.engines (p : Pin) := (p.tint, p.tables, p.store, p.armed, p.activity, p.ppsPulse)

@[simp] theorem foldl_engines {β : Type} {f : State → β → State} (h : ∀ s b, (f s b).pin.engines = s.pin.engines) (l : List β)
    (s : State) : (l.foldl f s).pin.engines = s.pin.engines := foldl_same (fun s => s.pin.engines) h l s

@[simp] theorem engines_ite (c : Prop) [Decidable c] (a b : Pin) : (if c then a else b).engines = if c then a.engines else b.engines :=
  apply_ite Pin.engines c a b

@[simp] theorem State.setShade_engines (s : State) (q : Nat) (x : Shade) : (s.setShade q x).pin.engines = s.pin.engines := by
  unfold State.setShade
  split <;> rfl

@[simp] theorem State.latchPad_engines (s : State) (n : Nat) (d : Latch) : (s.latchPad n d).pin.engines = s.pin.engines := rfl

@[simp] theorem State.toSafe_engines (s : State) (l : List Nat) : (s.toSafe l).pin.engines = s.pin.engines :=
  foldl_engines (by simp) l s

@[simp] theorem State.drivePin_engines (s : State) (q n : Nat) (d : Latch) : (s.drivePin q n d).pin.engines = s.pin.engines := by
  simp [State.drivePin]

@[simp] theorem State.haltShade_engines (s : State) (q : Nat) : (s.haltShade q).pin.engines = s.pin.engines := by
  simp [State.haltShade]

@[simp] theorem State.stopShade_engines (s : State) (q : Nat) : (s.stopShade q).pin.engines = s.pin.engines := by
  simp [State.stopShade]

@[simp] theorem State.overrunShade_engines (s : State) (q : Nat) : (s.overrunShade q).pin.engines = s.pin.engines := by
  simp [State.overrunShade]

@[simp] theorem State.goShade_engines (s : State) (q : Nat) (x : Shade) (pc next : Nat) :
    (s.goShade q x pc next).pin.engines = s.pin.engines := by
  simp [State.goShade]

@[simp] theorem State.driveData_engines (s : State) (q c : Nat) : (s.driveData q c).pin.engines = s.pin.engines := by
  simp [State.driveData]

@[simp] theorem State.driveClock_engines (s : State) (q c : Nat) : (s.driveClock q c).pin.engines = s.pin.engines := by
  simp [State.driveClock]

@[simp] theorem State.redrive_engines (s : State) (q : Nat) : (s.redrive q).pin.engines = s.pin.engines := by
  unfold State.redrive; dsimp only; split <;> simp

@[simp] theorem State.startsNow_engines (s : State) (q : Nat) : (s.startsNow q).pin.engines = s.pin.engines := by
  simp [State.startsNow]

@[simp] theorem State.tickShade_engines (s : State) (q : Nat) : (s.tickShade q).pin.engines = s.pin.engines := by
  unfold State.tickShade; dsimp only; repeat' split
  all_goals simp

@[simp] theorem State.noteWait_engines (s : State) (q n : Nat) (level : Bool) : (s.noteWait q n level).pin.engines = s.pin.engines := by
  unfold State.noteWait; dsimp only; split <;> simp

@[simp] theorem State.syncArm_engines (s : State) : s.syncArm.pin.engines = s.pin.engines := by
  unfold State.syncArm
  split <;> rfl

@[simp] theorem State.setLevel_engines (s : State) (n : Nat) (level : Bool) : (s.setLevel n level).pin.engines = s.pin.engines := by
  simp [State.setLevel]
  rfl

@[simp] theorem State.condition_engines (s : State) (n : Nat) (b : Bool) : (s.condition n b).pin.engines = s.pin.engines := by
  simp [State.condition]
  rfl

@[simp] theorem State.samplePin_engines (s : State) (n : Nat) : (s.samplePin n).pin.engines = s.pin.engines := by
  unfold State.samplePin
  dsimp only
  repeat' split
  · rfl
  · simp
  · rfl

@[simp] theorem State.unsampled_engines (s : State) (n : Nat) : (s.unsampled n).pin.engines = s.pin.engines := by
  unfold State.unsampled
  dsimp only
  repeat' split
  · rfl
  · simp only [State.setLevel_engines]
    rfl
  · rfl

@[simp] theorem State.applyPin_engines (s : State) (n : Nat) : (s.applyPin n).pin.engines = s.pin.engines := by
  unfold State.applyPin
  dsimp only
  rw [State.unsampled_engines]
  split <;> rfl

@[simp] theorem State.applyPins_engines (s : State) : s.applyPins.pin.engines = s.pin.engines := by
  simp [State.applyPins]

/-- A tick of the pins moves the tint engines on, and leaves the other engines' stores and counts. -/
theorem State.tickPins_engines (s : State) :
    s.tickPins.pin.engines = { s.pin with tint := s.pin.tint.map Tint.tick }.engines := by
  unfold State.tickPins
  dsimp only
  split <;> simp

/-! ### The pulse-width unit (log 88) -/

/-- The converter without its watch of the pulse-width source. -/
def Hkc.butPulse (h : Hkc) : Hkc := { h with pwActive := false, pwSince := none, pwEnded := none }

@[simp] theorem foldl_pulse {β : Type} {f : State → β → State} (h : ∀ s b, (f s b).hkc.butPulse = s.hkc.butPulse) (l : List β)
    (s : State) : (l.foldl f s).hkc.butPulse = s.hkc.butPulse := foldl_same (fun s => s.hkc.butPulse) h l s

@[simp] theorem State.watchPulse_pulse (s : State) : s.watchPulse.hkc.butPulse = s.hkc.butPulse := by
  unfold State.watchPulse
  split <;> rfl

@[simp] theorem State.setLevel_pulse (s : State) (n : Nat) (level : Bool) : (s.setLevel n level).hkc.butPulse = s.hkc.butPulse := by
  simp [State.setLevel]

@[simp] theorem State.samplePin_pulse (s : State) (n : Nat) : (s.samplePin n).hkc.butPulse = s.hkc.butPulse := by
  unfold State.samplePin
  dsimp only
  repeat' split
  all_goals simp [State.condition]

@[simp] theorem State.applyPin_pulse (s : State) (n : Nat) : (s.applyPin n).hkc.butPulse = s.hkc.butPulse := by
  have unsampled : ∀ t : State, (t.unsampled n).hkc.butPulse = t.hkc.butPulse := by
    intro t
    unfold State.unsampled
    dsimp only
    repeat' split
    all_goals simp
  unfold State.applyPin
  dsimp only
  rw [unsampled]
  split <;> simp

theorem State.tickPins_pulse (s : State) : s.tickPins.hkc.butPulse = s.hkc.butPulse := by
  have applied : ∀ t : State, t.applyPins.hkc.butPulse = t.hkc.butPulse := fun t =>
    foldl_pulse (fun u n => by split <;> simp) _ t
  unfold State.tickPins
  dsimp only
  split <;> simp [applied]

theorem Hkc.eq_of_butPulse {h k : Hkc} (e : h.butPulse = k.butPulse) :
    h = { k with pwActive := h.pwActive, pwSince := h.pwSince, pwEnded := h.pwEnded } := by
  cases h
  cases k
  simpa [Hkc.butPulse] using e

/-! ### The windows and counts of the watchdog -/

/-- The watchdog without its windows and its monitors' counts. -/
def Wdg.still (w : Wdg) : Wdg := { w with slots := [], counts := [] }

theorem Wdg.eq_of_still {w x : Wdg} (e : w.still = x.still) : w = { x with slots := w.slots, counts := w.counts } := by
  cases w
  cases x
  simpa [Wdg.still] using e

@[simp] theorem State.goShade_still (s : State) (q : Nat) (x : Shade) (pc next : Nat) :
    (s.goShade q x pc next).wdg.still = s.wdg.still := by
  have progressed : (s.progress [58]).wdg.still = s.wdg.still := rfl
  unfold State.goShade
  dsimp only
  split <;> simpa using progressed

@[simp] theorem State.tickShade_still (s : State) (q : Nat) : (s.tickShade q).wdg.still = s.wdg.still := by
  unfold State.tickShade
  dsimp only
  repeat' split
  all_goals simp

theorem State.tickPins_still (s : State) : s.tickPins.wdg.still = s.wdg.still := by
  have moved : ∀ t : State, ((List.range 4).foldl State.tickShade t).wdg.still = t.wdg.still :=
    foldl_same (fun s => s.wdg.still) State.tickShade_still _
  unfold State.tickPins
  dsimp only
  split <;> simp [moved]

/-! With the pins off, nothing is watched. -/

theorem State.powered_of_pwr {s t : State} (h : t.pwr = s.pwr) (i : Nat) : t.powered i = s.powered i := by
  simp [State.powered, h]

theorem State.watchPulse_off {s : State} (h : s.powered 52 = false) : s.watchPulse.hkc = s.hkc := by
  simp [State.watchPulse, State.pwRuns, h]

theorem State.setLevel_off {s : State} (n : Nat) (level : Bool) (h : s.powered 52 = false) : (s.setLevel n level).hkc = s.hkc := by
  unfold State.setLevel
  dsimp only
  refine (State.watchPulse_off ?_).trans (by simp)
  simpa [State.powered] using h

theorem State.applyPin_off {s : State} (n : Nat) (h : s.powered 52 = false) : (s.applyPin n).hkc = s.hkc := by
  have unsampled : ∀ t : State, t.powered 52 = false → (t.unsampled n).hkc = t.hkc := by
    intro t ht
    unfold State.unsampled
    dsimp only
    repeat' split
    · rfl
    · exact State.setLevel_off n false ht
    · rfl
  unfold State.applyPin
  dsimp only
  split <;> exact unsampled _ h

theorem State.applyPins_off {s : State} (h : s.powered 52 = false) : s.applyPins.hkc = s.hkc := by
  have kept : ∀ (l : List Nat) (t : State), t.powered 52 = false →
      (l.foldl (fun s n => if s.pinCfg n = s.stored (0x2C00 + n) then s else s.applyPin n) t).hkc = t.hkc := by
    intro l
    induction l with
    | nil => exact fun _ _ => rfl
    | cons n l ih =>
      intro t ht
      rw [List.foldl_cons]
      split
      · exact ih t ht
      · rw [ih _ ((State.powered_of_pwr (by simp) 52).trans ht), State.applyPin_off n ht]
  exact kept _ s h

theorem State.tickPins_off {s : State} (h : s.powered 52 = false) : s.tickPins.hkc = s.hkc := by
  have off : ∀ t : State, t.pwr = s.pwr → t.powered 52 = false := fun t ht => (State.powered_of_pwr ht 52).trans h
  unfold State.tickPins
  dsimp only
  split
  · next on => exact absurd ((off _ (by simp)).symm.trans on) (by decide)
  · exact (State.applyPins_off (off _ (by simp))).trans (by simp)

/-! ## Proofs: the tick of an empty queue (log 3) -/

/-- The clock at the next tick but for the rotation. -/
theorem Clk.tick_eq (c : Clk) (powered : Bool) :
    c.tick powered = { c with
      ticks := c.ticks + 1, time := if powered then c.time + 8 else c.time
      rotation := (c.tick powered).rotation, rotationDebt := (c.tick powered).rotationDebt } := by
  unfold Clk.tick Clk.rotated
  split <;> rfl

theorem Clk.tick_notDue {c : Clk} (powered : Bool) (h : c.rotationDebt < 1953125) :
    (c.tick powered).rotation = c.rotation ∧ (c.tick powered).rotationDebt = c.rotationDebt + c.rate.natAbs := by
  simp [Clk.tick, Clk.rotated, Clk.rotationDue, Nat.not_le.mpr h]

theorem Clk.tick_due {c : Clk} (powered : Bool) (hr : c.rate ≠ 0) (h : 1953125 ≤ c.rotationDebt) :
    (c.tick powered).rotation = c.rotation + c.rate.sign ∧
      (c.tick powered).rotationDebt + 1953125 = c.rotationDebt + c.rate.natAbs := by
  simp [Clk.tick, Clk.rotated, Clk.rotationDue, h, hr]
  omega

theorem State.tick_clk (s : State) : s.tick.clk = s.clk.tick (s.powered 49) := by simp [State.tick]

theorem State.tickBlocks_nvs (s : State) :
    s.tickBlocks.nvs = { s.nvs with mem := s.tickBlocks.nvs.mem, journals := s.tickBlocks.nvs.journals } := by
  unfold State.tickBlocks State.shadowBlock
  repeat' split
  all_goals rfl

theorem State.tick_pin (s : State) : s.tick.pin.engines = { s.pin with tint := s.pin.tint.map Tint.tick }.engines := by
  simp [State.tick, State.tickPins_engines]

theorem State.tick_hkc (s : State) : s.tick.hkc.butPulse = s.hkc.butPulse := by
  simp [State.tick, State.tickPins_pulse]

theorem State.tick_outage (s : State) :
    s.tick.lnk.outageTicks = s.lnk.outageTicks + (if s.lnk.state ≠ .up ∧ s.viewsIdle = false then 1 else 0) ∧
      s.tick.lnk.outageTime =
        if (s.clk.ticks + 1) % 125000 = 0 then BitVec.ofNat 32 (s.tick.lnk.outageTicks / 125) else s.lnk.outageTime := by
  constructor
  · simp [State.tick]
    split <;> rfl
  · simp [State.tick]

theorem State.tick_store (s : State) : s.tick.nvs = { s.nvs with mem := s.tick.nvs.mem, journals := s.tick.nvs.journals } := by
  simp only [State.tick, State.tickPins_frame, State.tickMonitors_frame, State.tickWindows_frame]
  exact State.tickBlocks_nvs _

theorem State.tick_wdg (s : State) : s.tick.wdg = { s.wdg with slots := s.tick.wdg.slots, counts := s.tick.wdg.counts } := by
  have windows : ∀ t : State, t.tickWindows.wdg.still = t.wdg.still := fun t => by
    unfold State.tickWindows
    split <;> rfl
  apply Wdg.eq_of_still
  unfold State.tick
  dsimp only
  rw [State.tickPins_still]
  exact (windows _).trans (by simp)

/-- With the pins off a tick leaves the converter as it is. -/
theorem State.tick_hkc_off {s : State} (h : s.powered 52 = false) : s.tick.hkc = s.hkc := by
  unfold State.tick
  dsimp only
  refine (State.tickPins_off ?_).trans (by simp)
  simpa [State.powered] using h

/-- Settles O2: each part of the tick by its own lemma above, the rest by the frame of the tick. -/
theorem emptyQueueTicks : Obligations.EmptyQueueTicks := by
  intro s h
  have hpin := s.tick_pin
  simp only [Pin.engines, Prod.mk.injEq] at hpin
  obtain ⟨htint, htables, hstore, harmed, hactivity, hpulse⟩ := hpin
  refine ⟨s.tick, by simp [step, h], ?clk, ?notDue, ?due, ?link, ?up, ?out, ?hidden, ?shown, s.tick_nvs, ?store, ?watchdog, ?registers,
    htint, htables, hstore, harmed, hactivity, hpulse, ?converter, ?off, ?rest⟩
  case rest => simp
  case clk => simpa only [State.tick_clk] using Clk.tick_eq _ _
  case notDue => simpa only [State.tick_clk] using fun hd => Clk.tick_notDue _ hd
  case due => simpa only [State.tick_clk] using fun hr hd => Clk.tick_due _ hr hd
  case link => simp [State.tick]
  case up => intro hup; simp [s.tick_outage.1]; rcases hup with hup | hup <;> simp [hup]
  case out => exact fun hup hv => by simp [s.tick_outage.1, hup, hv]
  case hidden => exact fun ht => by rw [s.tick_outage.2, if_neg ht]
  case shown => exact fun ht => by rw [s.tick_outage.2, if_pos ht]
  case store => exact s.tick_store
  case watchdog => exact s.tick_wdg
  case registers => simp [State.tick]
  case converter => exact Hkc.eq_of_butPulse s.tick_hkc
  case off => exact State.tick_hkc_off

/-- Settles O4: a fixed state, but for the pins, each of which reads its reset configuration. -/
theorem resetState : Obligations.ResetState := by
  unfold Obligations.ResetState
  refine ⟨rfl, by decide, by decide, by decide, by decide, by decide, by decide, by decide, by decide, fun v hv => ?view, fun n => ?pin,
    by decide, by decide⟩
  case view =>
    rw [State.viewAt_fresh rfl]
    exact ⟨rfl, rfl, rfl⟩
  case pin =>
    have hf : State.reset.pinFunction n = bitsOf pinReset 0 4 := rfl
    simp [State.padDrive, hf, show bitsOf pinReset 0 4 = 0 by decide]

end Sys2Proof.Machine

namespace Sys2Proof.Machine

/-! ## Proofs: frames on the side-band port (12) -/

/-- Eight bits read back as their byte. -/
theorem msbByte_msbBits : ∀ b : Byte, msbByte (msbBits b) = b := by decide

@[simp] theorem msbBits_length (b : Byte) : (msbBits b).length = 8 := by simp [msbBits]

/-- The whole bytes of a row of bits. -/
def bytesOfBits (l : List Bool) : Bytes := (List.range (l.length / 8)).map fun i => msbByte ((l.drop (8 * i)).take 8)

theorem bytesOfBits_cons (b : Byte) (l : List Bool) : bytesOfBits (msbBits b ++ l) = b :: bytesOfBits l := by
  have hlen : (msbBits b ++ l).length / 8 = l.length / 8 + 1 := by simp
  unfold bytesOfBits
  rw [hlen, List.range_succ_eq_map, List.map_cons, List.map_map]
  refine congr (congrArg _ ?first) (List.map_congr_left fun i _ => ?_)
  case first => simp [msbByte_msbBits]
  have : 8 * (i + 1) = (msbBits b).length + 8 * i := by rw [msbBits_length]; omega
  rw [Function.comp_apply, Nat.succ_eq_add_one, this, List.drop_append, List.drop_eq_nil_of_le (by omega), Nat.add_sub_cancel_left,
    List.nil_append]

theorem bytesOfBits_append (bs : Bytes) (l : List Bool) : bytesOfBits (bs.flatMap msbBits ++ l) = bs ++ bytesOfBits l := by
  induction bs with
  | nil => rfl
  | cons b bs ih => rw [List.flatMap_cons, List.append_assoc, bytesOfBits_cons, ih]; rfl

theorem SpiFrame.bytes_eq {f : SpiFrame} {bs : Bytes} {l : List Bool} (h : f.bits = bs.flatMap msbBits ++ l) :
    f.bytes = bs ++ bytesOfBits l := by
  rw [← bytesOfBits_append, ← h]
  rfl

theorem flatMap_msbBits_length (bs : Bytes) : (bs.flatMap msbBits).length = 8 * bs.length := by
  induction bs with
  | nil => rfl
  | cons b bs ih => simp [ih]; omega

theorem spiOpcode_eq_none {b : Byte} : spiOpcode b = none ↔ b ∉ [0x02, 0x03, 0x05, 0x0B] := by
  simp only [spiOpcode, List.mem_cons, List.not_mem_nil, or_false, not_or]
  repeat' split
  all_goals simp_all

theorem frameRefused_iff (opcode : Byte) (a : BitVec 16) : frameRefused opcode a = true ↔
    (opcode ∉ [0x02, 0x03, 0x05, 0x0B] ∨ (opcode ≠ 0x05 ∧ a.toNat % 4 ≠ 0)) := by
  by_cases h : opcode ∈ [0x02, 0x03, 0x05, 0x0B]
  · simp only [List.mem_cons, List.not_mem_nil, or_false] at h
    rcases h with rfl | rfl | rfl | rfl <;> simp [frameRefused, spiOpcode]
  · have hr : frameRefused opcode a = true := by simp only [frameRefused, spiOpcode_eq_none.mpr h]
    exact iff_of_true hr (.inl h)

/-! ### Registers -/

@[simp] theorem State.onPort_released {s : State} (h : s.pwr.released = true) (f : State → State) : s.onPort f = .next (f s) := by
  simp [State.onPort, State.spiUp, h]

theorem sideBandReads_holds : sideBandReads := by
  intro s h
  refine ⟨frameRefused_iff, ?_⟩
  simp [exec, execSpiFrameRefused, execWordCutShort, execReadStatus, execSpiErrorsRead, execEvtLostRead, execSupBufRead, h,
    State.refuseFrame, State.onReg, State.drive, State.regRead, bump]

theorem State.writeWord_aligned {s : State} {a : BitVec 16} (f : State → State) (h : a.toNat % 4 = 0) : s.writeWord a f = f s := by
  simp [State.writeWord, frameRefused, spiOpcode, h]

theorem State.writeWord_unaligned {s : State} {a : BitVec 16} (f : State → State) (h : a.toNat % 4 ≠ 0) :
    s.writeWord a f = s.refuseFrame := by
  simp [State.writeWord, frameRefused, spiOpcode, h]

/-- A write below the windows, of a register without a row of its own. -/
theorem exec_registerWrite {s : State} {a : BitVec 16} (v : Word) (h : s.pwr.released = true) (ha : a.toNat < 0x1000)
    (hr : a.toNat ∉ ownRows) : exec (.registerWrite a v) s = .next (s.writeWord a (·.writeReg a.toNat v)) := by
  have hw : addrIn a.toNat 0x1000 0x1FFF = false ∧ addrIn a.toNat 0x8000 0xFFFF = false := by
    simp only [addrIn, Bool.and_eq_false_iff, decide_eq_false_iff_not]
    omega
  simp [exec, execRegisterWrite, h, hr, hw]

theorem registerWrites_holds : registerWrites := by
  intro s v h
  refine ⟨?_, ?_, ?_, fun a ha hlow hother => ?ignored, fun a ha hlow => ?refused⟩
  case ignored =>
    simp only [List.mem_cons, List.not_mem_nil, or_false, not_or] at hother
    obtain ⟨h1C, h28, h2C, h38, h3C, h50, h90, h94, h9C, hA4⟩ := hother
    have hr : a.toNat ∉ ownRows := by simp [ownRows, h28, h38, h90, h94, h9C, hA4]
    have hw : ¬ (0x2000 ≤ a.toNat) ∧ ¬ (0x4000 ≤ a.toNat) := by omega
    rw [exec_registerWrite v h hlow hr, State.writeWord_aligned _ ha]
    simp [State.writeReg, h1C, h2C, h3C, h50, hw]
  case refused =>
    have hr : a.toNat ∉ ownRows := fun hm => ha (by
      simp only [ownRows, List.mem_cons, List.not_mem_nil, or_false] at hm
      rcases hm with e | e | e | e | e | e <;> rw [e])
    rw [exec_registerWrite v h hlow hr, State.writeWord_unaligned _ ha]
    rfl
  all_goals
    rw [exec_registerWrite v h (by decide) (by decide), State.writeWord_aligned _ (by decide)]
    rfl

/-! ### Words read -/

theorem leNat_lt (bs : Bytes) : leNat bs < 256 ^ bs.length := by
  induction bs with
  | nil => decide
  | cons b bs ih =>
    have hb : b.toNat < 256 := b.isLt
    simp only [leNat, List.length_cons, Nat.pow_succ]
    omega

/-- A window's word, where all four of its bytes are of the store `m`. -/
theorem State.wordAt_window {s : State} {a lo : Nat} {m : List Host.Cell} (hw : inWindow a = true)
    (h : ∀ i, i < 4 → s.windowByte (a + i) = nvRead m (a - lo + i)) : (s.wordAt a).toNat = leNat (nvBytes m (a - lo) 4) := by
  have hb : (List.range 4).map (fun i => s.windowByte (a + i)) = nvBytes m (a - lo) 4 := by
    simp [show List.range 4 = [0, 1, 2, 3] from rfl, nvBytes, show s.windowByte a = _ from h 0 (by decide), h 1, h 2, h 3, Nat.add_assoc]
  have hlt := leNat_lt (nvBytes m (a - lo) 4)
  rw [nvBytes_length] at hlt
  rw [State.wordAt, if_pos hw, hb, BitVec.toNat_ofNat]
  exact Nat.mod_eq_of_lt hlt

theorem State.frameWord_readPort (s : State) (a : BitVec 16) (i : Nat) : s.frameWord .readPort a i = s.wordAt a.toNat := rfl

theorem State.wordAt_notReady {s : State} {a : Nat} (h : s.ctl.ready = false) (ha : 0x1000 ≤ a) : s.wordAt a = 0 := by
  have hr : ¬ a ≤ 0xFF := by omega
  simp [State.wordAt, State.windowByte, h, hr, show List.range 4 = [0, 1, 2, 3] from rfl, leNat]

theorem frameReads_holds : frameReads := by
  intro s a i ha
  have hlt : a.toNat < 65536 := a.isLt
  simp only [State.frameWord_readPort]
  refine ⟨fun h => ?_, fun h => ?_, trivial, fun h => ?_, fun h => State.wordAt_notReady h, ?cmd, ?rsp, ?ring, ?bulk⟩
  · have : (a + BitVec.ofNat 16 (4 * i)).toNat = a.toNat + 4 * i := by bv_omega
    simp [State.frameWord, wordAddress, h, this]
  · simp [State.frameWord, wordAddress, Nat.not_le.mpr h]
  · have hw : inWindow a.toNat = false := by simp [inWindow]; omega
    simp [State.wordAt, hw, h]
  case cmd =>
    intro hr h1 h2
    refine State.wordAt_window (by simp [inWindow]; omega) fun j hj => ?_
    have h : a.toNat + j ≤ 0x1FFF := by omega
    simp [State.windowByte, hr, h, Nat.sub_add_comm h1]
  case rsp =>
    intro hr h1 h2
    refine State.wordAt_window (by simp [inWindow]; omega) fun j hj => ?_
    have h : ¬ a.toNat + j ≤ 0x1FFF ∧ a.toNat + j ≤ 0x2FFF := by omega
    simp [State.windowByte, hr, h, Nat.sub_add_comm h1]
  case ring =>
    intro hr h1 h2
    refine State.wordAt_window (by simp [inWindow]; omega) fun j hj => ?_
    have h : ¬ a.toNat + j ≤ 0x1FFF ∧ ¬ a.toNat + j ≤ 0x2FFF ∧ a.toNat + j ≤ 0x7FFF := by omega
    simp [State.windowByte, hr, h, Nat.sub_add_comm h1]
  case bulk =>
    intro hr h1
    refine State.wordAt_window (by simp [inWindow]; omega) fun j hj => ?_
    have h : ¬ a.toNat + j ≤ 0x1FFF ∧ ¬ a.toNat + j ≤ 0x2FFF ∧ ¬ a.toNat + j ≤ 0x7FFF := by omega
    simp [State.windowByte, hr, h, Nat.sub_add_comm h1]

theorem clearsAndAcks_holds : clearsAndAcks := by
  intro s v h
  simp +contextual [exec, execIrqStatusClear, execCmdStatusClear, execRspAck, execEvtRdWrite, State.spiUp, h, State.onReg]

/-! ### Frames on the wire -/

theorem bytesOfBits_short {l : List Bool} (h : l.length < 8) : bytesOfBits l = [] := by
  simp [bytesOfBits, Nat.div_eq_of_lt h]

theorem bits16_leBytes (a : BitVec 16) : BitVec.ofNat 16 (leNat (leBytes 2 a.toNat)) = a := by
  rw [leNat_leBytes, show (256 : Nat) ^ 2 = 2 ^ 16 by decide, Nat.mod_eq_of_lt a.isLt, BitVec.ofNat_toNat, BitVec.setWidth_eq]

theorem bits32_leBytes (v : Word) : BitVec.ofNat 32 (leNat (leBytes 4 v.toNat)) = v := by
  rw [leNat_leBytes, show (256 : Nat) ^ 4 = 2 ^ 32 by decide, Nat.mod_eq_of_lt v.isLt, BitVec.ofNat_toNat, BitVec.setWidth_eq]

/-- A frame that writes one word, and the bits of a cut one after it. -/
theorem SpiFrame.commands_write {f : SpiFrame} {a : BitVec 16} {v : Word} {l : List Bool} (lag : Fin 3) (ha : a.toNat % 4 = 0)
    (hl : l.length < 8) (h : f.bits = ([(0x02 : Byte)] ++ leBytes 2 a.toNat ++ leBytes 4 v.toNat).flatMap msbBits ++ l) :
    f.commands lag = writeCommand a.toNat v :: if l.length ≠ 0 then [.wordCutShort] else [] := by
  have hbytes : f.bytes = 0x02 :: (leBytes 2 a.toNat ++ leBytes 4 v.toNat) := by
    rw [SpiFrame.bytes_eq h, bytesOfBits_short hl]
    simp
  have hlen : f.bits.length = 56 + l.length := by
    rw [h, List.length_append, flatMap_msbBits_length]
    simp
  have haddr : f.addr = a := by
    rw [SpiFrame.addr, hbytes]
    simpa [leAt, slice, List.take_of_length_le] using bits16_leBytes a
  have hword : f.word .write 0 = v := by
    rw [SpiFrame.word, hbytes]
    simpa [leAt, slice, SpiOp.lead, List.take_of_length_le] using bits32_leBytes v
  have hlt : a.toNat ≤ 0xFFFC := by have := a.isLt; omega
  have hcount : f.count .write = 1 := by simp [SpiFrame.count, SpiOp.lead, hlen]; omega
  have hcut : f.cut .write = decide (l.length ≠ 0) := by
    have : (56 + l.length - 24) % 32 = l.length := by omega
    rw [SpiFrame.cut, hlen, SpiOp.lead, this]
    by_cases h0 : l.length = 0 <;> simp [h0]
  simp [SpiFrame.commands, hbytes, spiOpcode, frameRefused, haddr, ha, hcount, hcut, SpiFrame.wordCommand, wordAddress, hlt, hword,
    show List.range 1 = [0] from rfl]

theorem SpiFrame.commands_refused {f : SpiFrame} {o : Byte} {a : BitVec 16} (lag : Fin 3) (hr : frameRefused o a = true)
    (h : f.bits = ([o] ++ leBytes 2 a.toNat).flatMap msbBits) : f.commands lag = [.spiFrameRefused] := by
  have hbytes : f.bytes = o :: leBytes 2 a.toNat := by
    rw [SpiFrame.bytes_eq (bs := [o] ++ leBytes 2 a.toNat) (l := []) (by rw [h, List.append_nil])]
    simp [bytesOfBits]
  have haddr : f.addr = a := by
    rw [SpiFrame.addr, hbytes]
    simpa [leAt, slice, List.take_of_length_le] using bits16_leBytes a
  unfold SpiFrame.commands
  rw [hbytes]
  dsimp only
  split
  · rfl
  · simp [haddr, hr]

theorem framesOnTheWire_holds : framesOnTheWire := by
  refine ⟨fun x hx hcs p hp => ?begins, fun x f hx p => ?samples, msbByte_msbBits, fun a v f lag ha hf => ⟨?word, fun b g hg => ?cut⟩,
    fun o a f lag hr hf => SpiFrame.commands_refused lag hr hf⟩
  case begins => simp [SpiPort.next, SpiPins.mode, hx, hcs, hp]
  case samples =>
    simp only [SpiPort.next, hx]
    refine ⟨fun h => ?_, fun h hs hl => ?_, fun h hs => ?_⟩
    · simp [h]
    · simp [h, hs, hl]
    · rcases hs with hs | hs <;> simp [h, hs]
  case word => exact SpiFrame.commands_write (l := []) lag ha (by decide) (by simpa using hf)
  case cut => exact SpiFrame.commands_write (l := [b]) lag ha (by simp) (by rw [hg, hf])

/-- Settles O5: the five groups of rules, each settled by its own lemma above. -/
theorem registerAccess : Obligations.RegisterAccess :=
  ⟨sideBandReads_holds, framesOnTheWire_holds, frameReads_holds, registerWrites_holds, clearsAndAcks_holds⟩

end Sys2Proof.Machine

namespace Sys2Proof.Machine

/-! ## Proofs: snapshot reads (12) -/

/-- A read of a register whose read changes nothing carries no command. -/
theorem SpiFrame.commands_readPort {f : SpiFrame} {a : BitVec 16} {rest : List Bool} (lag : Fin 3) (ha : a.toNat % 4 = 0)
    (hc : readCommand a.toNat lag = none) (h : f.bits = ([(0x0B : Byte)] ++ leBytes 2 a.toNat ++ [0]).flatMap msbBits ++ rest) :
    f.commands lag = [] := by
  have hbytes : f.bytes = 0x0B :: (leBytes 2 a.toNat ++ 0 :: bytesOfBits rest) := by
    rw [SpiFrame.bytes_eq h]
    simp
  have haddr : f.addr = a := by
    rw [SpiFrame.addr, hbytes]
    simpa [leAt, slice, List.take_of_length_le] using bits16_leBytes a
  simp [SpiFrame.commands, hbytes, spiOpcode, frameRefused, haddr, ha, SpiFrame.wordCommand, wordAddress, hc]

theorem snapTags_toNat (s : State) :
    (s.regRead 0x5C).toNat = s.reg.timeTag.toNat + 16 * s.reg.capTag.toNat + 256 * s.reg.hkcTag.toNat := by
  have ht := s.reg.timeTag.isLt
  have hc := s.reg.capTag.isLt
  have hh := s.reg.hkcTag.isLt
  simp [State.regRead, State.snapTags, fields]
  omega

/-- Settles O6: the reads by the rows' equations, the quiet frames by `SpiFrame.commands_readPort`. -/
theorem snapshotReads : Obligations.SnapshotReads := by
  refine ⟨fun s lag h => ?time, fun s h => ?low, fun s => ⟨rfl, rfl, rfl, snapTags_toNat s⟩, fun s a rest f lag ha hf => ?quiet,
    fun s v h => ?select, fun s c m r => ?reset⟩
  case time =>
    simp [exec, execTimeLoRead, h]
    rfl
  case low =>
    simp [exec, execCapCntLoRead, execHkcAccLoRead, h]
    exact ⟨rfl, by simp [State.snapHkc, State.drive, State.onReg, fields]⟩
  case quiet =>
    have hc : a.toNat % 4 = 0 ∧ readCommand a.toNat lag = none ∧ inWindow a.toNat = false ∧ a.toNat ≤ 0xFF := by
      simp only [List.mem_cons, List.not_mem_nil, or_false] at ha
      rcases ha with rfl | rfl | rfl | rfl <;> exact ⟨rfl, rfl, rfl, by decide⟩
    obtain ⟨h4, hread, hw, hreg⟩ := hc
    exact ⟨SpiFrame.commands_readPort lag h4 hread hf, fun i => by simp [State.frameWord_readPort, State.wordAt, hw, hreg]⟩
  case select =>
    rw [exec_registerWrite v h (by decide) (by decide), State.writeWord_aligned _ (by decide)]
    rfl
  case reset =>
    have hreg : (s.resetDevice c m r).reg = {} := by simp [State.resetDevice, State.wiped]
    simp [State.snapTags, hreg, fields]

end Sys2Proof.Machine

namespace Sys2Proof.Machine

/-! ## Proofs: the command mailbox, the bulk window and the doorbell (12) -/

theorem exec_mailboxWrite {s : State} {a : BitVec 16} (v : Word) (h : s.pwr.released = true) (hlo : 0x1000 ≤ a.toNat)
    (hhi : a.toNat ≤ 0x1FFF) (ha : a.toNat % 4 = 0) : exec (.mailboxWrite a v) s = .next (s.writeMail a.toNat v) := by
  simp [exec, execMailboxWrite, h, addrIn, hlo, hhi, State.writeWord_aligned _ ha]

theorem exec_bulkWindowWrite {s : State} {a : BitVec 16} (v : Word) (h : s.pwr.released = true) (hlo : 0x8000 ≤ a.toNat)
    (ha : a.toNat % 4 = 0) : exec (.bulkWindowWrite a v) s = .next (s.writeBulk a.toNat v) := by
  have hhi : a.toNat ≤ 0xFFFF := by have := a.isLt; omega
  simp [exec, execBulkWindowWrite, h, addrIn, hlo, hhi, State.writeWord_aligned _ ha]

theorem exec_cmdDoorbell {s : State} {v : Word} (h : s.pwr.released = true) (hv : v.getLsbD 0 = true) :
    exec (.cmdDoorbell v) s = .next (if s.reg.cmdState = .idle then s.post else s.ignoreMail) := by
  simp [exec, execCmdDoorbell, State.spiUp, h, hv]

/-- A word written into a store reads back, and leaves every other byte. -/
theorem nvWrite_word {m : List Host.Cell} (a : Nat) (v : Word) (h : Memory.wf m = true) :
    nvBytes (nvWrite m a (leBytes 4 v.toNat)) a 4 = leBytes 4 v.toNat ∧
      ∀ x, (x < a ∨ a + 4 ≤ x) → nvRead (nvWrite m a (leBytes 4 v.toNat)) x = nvRead m x :=
  ⟨by simpa using nvBytes_nvWrite m a (leBytes 4 v.toNat) h, fun x hx => nvWrite_other m a _ x (by simpa using hx)⟩

theorem mailboxWrites_holds : mailboxWrites := by
  intro s a v h hlo hhi ha
  rw [exec_mailboxWrite v h hlo hhi ha]
  refine ⟨fun hr hi hwf => ⟨_, ?_, nvWrite_word _ v hwf⟩, fun hi => ?_, fun hr hi => ?_⟩
  · simp [State.writeMail, hr, hi]
  · simp [State.writeMail, hi]
    rfl
  · rw [show s.writeMail a.toNat v = s.countIgnored by simp [State.writeMail, hr, hi]]
    rfl

theorem bulkWrites_holds : bulkWrites := by
  intro s a v h hlo ha
  rw [exec_bulkWindowWrite v h hlo ha]
  refine ⟨fun hr hwf => ⟨_, ?_, nvWrite_word _ v hwf⟩, fun hr => ?_⟩
  · simp [State.writeBulk, hr]
  · simp [State.writeBulk, hr]
    rfl

theorem doorbell_holds : doorbell := by
  intro s v h hv
  rw [exec_cmdDoorbell h hv]
  refine ⟨fun hi => ?_, fun hi => ?_⟩
  · simp [hi]
    rfl
  · simp [hi]
    rfl

/-- Settles O7: the two windows by `nvWrite_word`, the doorbell by its two cases. -/
theorem mailboxes : Obligations.Mailboxes := ⟨mailboxWrites_holds, bulkWrites_holds, doorbell_holds⟩

end Sys2Proof.Machine

namespace Sys2Proof.Machine

/-! ## Proofs: responses and events (12) -/

theorem leAt_one_lt (i : Nat) (b : Bytes) : leAt i 1 b < 256 := by
  have h := leNat_lt (slice i 1 b)
  have hl : (slice i 1 b).length ≤ 1 := List.length_take_le 1 _
  exact Nat.lt_of_lt_of_le h (Nat.pow_le_pow_right (by decide) hl)

/-- The slot an activation record names is one byte of it (R354). -/
theorem Fw.record_active_lt (f : Fw) : f.record.active < 256 := by
  have copy : ∀ b x, activationOf b = some x → x.2.active < 256 := by
    intro b x h
    unfold activationOf at h
    split at h
    · cases h
      exact leAt_one_lt 4 b
    · cases h
  simp only [Fw.record, Copies.get, Copies.now]
  cases h : f.records.force with
  | none => decide
  | some x =>
    unfold Copies.force at h
    split at h
    · exact copy _ x h
    · exact copy _ x h

/-- A CTL with one side-band response to place, and an activation in hand whose slot no byte can name. -/
def slotPastByte : State :=
  { State.reset with
    ctl := { State.reset.ctl with ready := true, replies := [⟨false, [], false, 0⟩] }
    pwr := { State.reset.pwr with state := .active }
    fw := { State.reset.fw with activating := some 256 } }

/-- Refutes O8: `responseFollows` takes any slot of an activation in hand, and the record that the placing writes holds the slot as one
byte, so of slot 256 it cannot read back. -/
theorem not_responsesAndEvents : ¬ Obligations.ResponsesAndEvents := by
  intro hall
  obtain ⟨-, h, -⟩ := hall
  obtain ⟨t, -, -, -, -, -, -, -, -, hslot⟩ := h slotPastByte ⟨false, [], false, 0⟩ [] rfl rfl rfl rfl rfl rfl
  obtain ⟨-, hactive, -⟩ := hslot 256 rfl
  have := t.fw.record_active_lt
  omega
end Sys2Proof.Machine

namespace Sys2Proof.Machine

/-! ## Proofs: the start of a closing run (08) -/

/-! ### What the run's work leaves of the power state -/

/-- The parts of a run fixed at its t0. -/
def Run.head (r : Run) : Nat × Word64 × Nat := (r.trigger, r.t0, r.t0Tick)

/-- The power state without its domains and without what a run notes as it goes. -/
def Pwr.steady (p : Pwr) : Pwr × Option (Nat × Word64 × Nat) :=
  ({ p with domains := 0, poweringUp := [], run := none }, p.run.map Run.head)

@[simp] theorem steady_ite (c : Prop) [Decidable c] (a b : Pwr) : (if c then a else b).steady = if c then a.steady else b.steady :=
  apply_ite Pwr.steady c a b

@[simp] theorem foldl_steady {β : Type} {f : State → β → State} (h : ∀ s b, (f s b).pwr.steady = s.pwr.steady) (l : List β)
    (s : State) : (l.foldl f s).pwr.steady = s.pwr.steady := foldl_same (fun s => s.pwr.steady) h l s

@[simp] theorem foldl_domains {β : Type} {f : State → β → State} (h : ∀ s b, (f s b).pwr.domains = s.pwr.domains) (l : List β)
    (s : State) : (l.foldl f s).pwr.domains = s.pwr.domains := foldl_same (fun s => s.pwr.domains) h l s

theorem State.onRun_steady {s : State} {f : Run → Run} (h : ∀ r, (f r).head = r.head) : (s.onRun f).pwr.steady = s.pwr.steady := by
  simp [State.onRun, Pwr.steady, Option.map_map, Function.comp_def, h]

@[simp] theorem State.onRun_domains (s : State) (f : Run → Run) : (s.onRun f).pwr.domains = s.pwr.domains := rfl

@[simp] theorem State.sealSegment_steady (s : State) (v : Nat) (g : Segment) :
    (s.sealSegment v g).pwr.steady = s.pwr.steady ∧ (s.sealSegment v g).pwr.domains = s.pwr.domains := by
  unfold State.sealSegment
  split
  · exact ⟨State.onRun_steady (f := fun r => { r with dropped := r.dropped ||| 2 ^ v }) fun _ => rfl, rfl⟩
  · simp

@[simp] theorem State.settle_steady (s : State) (v : Nat) :
    (s.settle v).pwr.steady = s.pwr.steady ∧ (s.settle v).pwr.domains = s.pwr.domains := by
  simp [State.settle]

@[simp] theorem State.stopCaptures_steady (s : State) :
    s.stopCaptures.pwr.steady = s.pwr.steady ∧ s.stopCaptures.pwr.domains = s.pwr.domains := by
  simp [State.stopCaptures]

@[simp] theorem State.discardJobs_steady (s : State) :
    s.discardJobs.pwr.steady = s.pwr.steady ∧ s.discardJobs.pwr.domains = s.pwr.domains :=
  ⟨State.onRun_steady fun _ => rfl, rfl⟩

@[simp] theorem State.judgeReadout_steady (s : State) :
    s.judgeReadout.pwr.steady = s.pwr.steady ∧ s.judgeReadout.pwr.domains = s.pwr.domains :=
  ⟨State.onRun_steady fun _ => rfl, rfl⟩

@[simp] theorem State.wedgeRun_steady (s : State) :
    s.wedgeRun.pwr.steady = s.pwr.steady ∧ s.wedgeRun.pwr.domains = s.pwr.domains := by
  unfold State.wedgeRun
  split
  · exact ⟨State.onRun_steady fun _ => rfl, rfl⟩
  · exact ⟨rfl, rfl⟩

@[simp] theorem State.closeSegment_steady (s : State) (v : Nat) (f : Segment → Segment) :
    (s.closeSegment v f).pwr.steady = s.pwr.steady ∧ (s.closeSegment v f).pwr.domains = s.pwr.domains := by
  simp [State.closeSegment]

@[simp] theorem State.closeAll_steady (s : State) (f : Segment → Segment) :
    (s.closeAll f).pwr.steady = s.pwr.steady ∧ (s.closeAll f).pwr.domains = s.pwr.domains := by
  simp [State.closeAll]

@[simp] theorem State.queueClose_steady (s : State) (r : Run) :
    (s.queueClose r).pwr.steady = s.pwr.steady ∧ (s.queueClose r).pwr.domains = s.pwr.domains := by
  refine ⟨(State.onRun_steady ?_).trans (by simp), by simp [State.queueClose]⟩
  exact fun _ => rfl

@[simp] theorem State.domainOn_steady (s : State) (i : Nat) : (s.domainOn i).pwr.steady = s.pwr.steady := by
  unfold State.domainOn
  split <;> rfl

@[simp] theorem State.domainOff_steady (s : State) (i : Nat) : (s.domainOff i).pwr.steady = s.pwr.steady := rfl

@[simp] theorem State.domainsOff_steady (s : State) (l : List Nat) : (s.domainsOff l).pwr.steady = s.pwr.steady :=
  foldl_steady State.domainOff_steady l s

@[simp] theorem State.dropImaging_steady (s : State) : s.dropImaging.pwr.steady = s.pwr.steady := by
  simp [State.dropImaging]

@[simp] theorem State.cutJobs_steady (s : State) :
    s.cutJobs.pwr = s.pwr := by
  simp [State.cutJobs]

@[simp] theorem State.goQuiet_steady (s : State) : s.goQuiet.pwr.steady = s.pwr.steady := by
  unfold State.goQuiet
  dsimp only
  split
  · rw [(State.wedgeRun_steady _).1]
    refine (State.onRun_steady ?_).trans (by simp)
    exact fun _ => rfl
  · rw [(State.closeAll_steady _ _).1]
    refine (State.onRun_steady ?_).trans (by simp)
    exact fun _ => rfl

@[simp] theorem State.commitsEnd_steady (s : State) : s.commitsEnd.pwr.steady = s.pwr.steady :=
  State.onRun_steady (s := s.domainOff 40) fun _ => rfl

@[simp] theorem State.umberStep_steady (s : State) : s.umberStep.pwr.steady = s.pwr.steady := by
  unfold State.umberStep; repeat' split
  all_goals simp

@[simp] theorem State.umberAdvance_steady (s : State) : s.umberAdvance.pwr.steady = s.pwr.steady := by
  simp [State.umberAdvance]

@[simp] theorem State.dropPins_steady (s : State) : s.dropPins.pwr.steady = s.pwr.steady := by
  simp [State.dropPins]

@[simp] theorem State.dropControl_steady (s : State) : s.dropControl.pwr.steady = s.pwr.steady := by
  simp [State.dropControl]

theorem State.startRun_steady (s : State) (k : Nat) : (s.startRun k).pwr.steady = (s.openRun k).pwr.steady := by
  simp [State.startRun]

theorem State.beginRun_steady (s : State) (k : Nat) : (s.beginRun k).pwr.steady = (s.openRun k).pwr.steady := by
  simp [State.beginRun, State.startRun_steady]

/-! ### Domains: the run's work only removes -/

theorem State.powered_domainsOff (s : State) (l : List Nat) {i : Nat} (hi : i < 56) :
    (s.domainsOff l).powered i = (s.powered i && !decide (i ∈ l)) := by
  unfold State.domainsOff
  induction l generalizing s with
  | nil => simp
  | cons j l ih => 
    rw [List.foldl_cons, ih, State.powered_domainOff s hi]
    by_cases h : j = i <;> by_cases h' : i ∈ l <;> simp [h, h', Ne.symm]

/-- Outside the 56 domains nothing is powered. -/
theorem State.powered_eq_false {s : State} {i : Nat} (h : 56 ≤ i) : s.powered i = false := by
  simp [State.powered, h]

/-- Domain `i` is not powered. -/
def IsOff (d : BitVec 56) (i : Nat) : Prop := d.getLsbD i = false

@[simp] theorem State.domainOff_isOff {s : State} (j : Nat) {i : Nat} (h : IsOff s.pwr.domains i) :
    IsOff (s.domainOff j).pwr.domains i := by
  by_cases hi : i < 56
  · exact (State.powered_domainOff s hi).trans (by rw [show s.powered i = false from h]; rfl)
  · exact State.powered_eq_false (Nat.le_of_not_lt hi)

@[simp] theorem State.domainsOff_isOff {s : State} (l : List Nat) {i : Nat} (h : IsOff s.pwr.domains i) :
    IsOff (s.domainsOff l).pwr.domains i := by
  by_cases hi : i < 56
  · exact (State.powered_domainsOff s l hi).trans (by rw [show s.powered i = false from h]; rfl)
  · exact State.powered_eq_false (Nat.le_of_not_lt hi)

@[simp] theorem State.dropImaging_isOff {s : State} {i : Nat} (h : IsOff s.pwr.domains i) : IsOff s.dropImaging.pwr.domains i := by
  simp [State.dropImaging, h]

@[simp] theorem State.goQuiet_isOff {s : State} {i : Nat} (h : IsOff s.pwr.domains i) : IsOff s.goQuiet.pwr.domains i := by
  unfold State.goQuiet
  dsimp only
  split <;> simp [h]

@[simp] theorem State.commitsEnd_isOff {s : State} {i : Nat} (h : IsOff s.pwr.domains i) : IsOff s.commitsEnd.pwr.domains i := by
  simp [State.commitsEnd, h]

@[simp] theorem isOff_ite (c : Prop) [Decidable c] {a b : BitVec 56} {i : Nat} (ha : IsOff a i) (hb : IsOff b i) :
    IsOff (if c then a else b) i := by
  split <;> assumption

@[simp] theorem State.umberStep_isOff {s : State} {i : Nat} (h : IsOff s.pwr.domains i) : IsOff s.umberStep.pwr.domains i := by
  unfold State.umberStep
  dsimp only
  repeat' split
  all_goals simp [h]

@[simp] theorem State.umberAdvance_isOff {s : State} {i : Nat} (h : IsOff s.pwr.domains i) : IsOff s.umberAdvance.pwr.domains i := by
  unfold State.umberAdvance
  exact State.umberStep_isOff (State.umberStep_isOff (State.umberStep_isOff h))

/-- CTL, the return lane, the pins and the debug logic are off from t0 on. -/
theorem State.dropControl_isOff (s : State) {i : Nat} (h : i ∈ [42, 47, 52, 54]) : IsOff s.dropControl.pwr.domains i := by
  have hpins : IsOff s.dropPins.pwr.domains 52 := by
    unfold State.dropPins
    split
    · next h => simpa [IsOff, State.powered] using h
    · simp [IsOff, State.domainOff]
  have hoff : IsOff (s.dropPins.domainsOff [42, 47, 54]).pwr.domains i := by
    simp only [List.mem_cons, List.not_mem_nil, or_false] at h
    rcases h with rfl | rfl | rfl | rfl
    case inr.inr.inl => exact State.domainsOff_isOff _ hpins
    all_goals exact (State.powered_domainsOff _ _ (by decide)).trans (by simp)
  simpa [State.dropControl] using hoff

theorem State.startRun_off (s : State) (k : Nat) {i : Nat} (h : i ∈ [42, 47, 52, 54]) : (s.startRun k).powered i = false := by
  have hi : i < 56 ∧ 41 ≠ i := by
    simp only [List.mem_cons, List.not_mem_nil, or_false] at h
    omega
  have hc := State.dropControl_isOff ((s.openRun k).setIrq 3) h
  have h41 : ∀ t : State, IsOff t.pwr.domains i → IsOff (t.domainOn 41).pwr.domains i := fun t ht =>
    (State.powered_domainOn t hi.1).trans (by rw [show t.powered i = false from ht]; simp [hi.2])
  unfold State.startRun
  dsimp only
  exact State.umberAdvance_isOff (h41 _ (by simpa using hc))

theorem State.beginRun_off (s : State) (k : Nat) {i : Nat} (h : i ∈ [42, 47, 52, 54]) : (s.beginRun k).powered i = false := by
  simpa [State.powered, State.beginRun] using State.startRun_off s k h

/-! ### SEA's jobs, the interrupt and CTL -/

@[simp] theorem foldl_jobs {β : Type} {f : State → β → State}
    (h : ∀ s b, (f s b).sea.prompt = s.sea.prompt ∧ (f s b).sea.resign = s.sea.resign) (l : List β) (s : State) :
    (l.foldl f s).sea.prompt = s.sea.prompt ∧ (l.foldl f s).sea.resign = s.sea.resign :=
  ⟨foldl_same (fun s => s.sea.prompt) (fun s b => (h s b).1) l s, foldl_same (fun s => s.sea.resign) (fun s b => (h s b).2) l s⟩

@[simp] theorem State.sealSegment_jobs (s : State) (v : Nat) (g : Segment) : (s.sealSegment v g).sea.prompt = s.sea.prompt ∧ (s.sealSegment v g).sea.resign = s.sea.resign := by
  unfold State.sealSegment; split <;> simp

@[simp] theorem State.settle_jobs (s : State) (v : Nat) : (s.settle v).sea.prompt = s.sea.prompt ∧ (s.settle v).sea.resign = s.sea.resign := by
  simp [State.settle]

@[simp] theorem State.takeSegment_jobs (s : State) : s.takeSegment.2.sea.prompt = s.sea.prompt ∧ s.takeSegment.2.sea.resign = s.sea.resign := by
  simp [State.takeSegment]

@[simp] theorem State.joinValue_jobs (s : State) (v : Nat) (x : SegValue) : (s.joinValue v x).sea.prompt = s.sea.prompt ∧ (s.joinValue v x).sea.resign = s.sea.resign := by
  unfold State.joinValue; repeat' split
  all_goals simp

@[simp] theorem State.flushReconfig_jobs (s : State) (v : Nat) : (s.flushReconfig v).sea.prompt = s.sea.prompt ∧ (s.flushReconfig v).sea.resign = s.sea.resign := by
  simp [State.flushReconfig]

@[simp] theorem State.stopCaptures_jobs (s : State) : s.stopCaptures.sea.prompt = s.sea.prompt ∧ s.stopCaptures.sea.resign = s.sea.resign := by
  simp [State.stopCaptures]

@[simp] theorem State.closeSegment_jobs (s : State) (v : Nat) (f : Segment → Segment) : (s.closeSegment v f).sea.prompt = s.sea.prompt ∧ (s.closeSegment v f).sea.resign = s.sea.resign := by
  simp [State.closeSegment]

@[simp] theorem State.closeAll_jobs (s : State) (f : Segment → Segment) : (s.closeAll f).sea.prompt = s.sea.prompt ∧ (s.closeAll f).sea.resign = s.sea.resign := by
  simp [State.closeAll]

@[simp] theorem State.goQuiet_jobs (s : State) : s.goQuiet.sea.prompt = s.sea.prompt ∧ s.goQuiet.sea.resign = s.sea.resign := by
  unfold State.goQuiet; dsimp only; split <;> simp

@[simp] theorem State.umberStep_jobs (s : State) : s.umberStep.sea.prompt = s.sea.prompt ∧ s.umberStep.sea.resign = s.sea.resign := by
  unfold State.umberStep; dsimp only; repeat' split
  all_goals simp

@[simp] theorem State.umberAdvance_jobs (s : State) : s.umberAdvance.sea.prompt = s.sea.prompt ∧ s.umberAdvance.sea.resign = s.sea.resign := by
  simp [State.umberAdvance]

theorem takeLine_jobs {s t : State} (h : s.takeLine = some t) : t.sea.prompt = s.sea.prompt ∧ t.sea.resign = s.sea.resign := by
  unfold State.takeLine at h
  dsimp only at h
  repeat' split at h
  all_goals cases h <;> simp [State.lineTaken]

@[simp] theorem State.takeLines_jobs (s : State) : s.takeLines.sea.prompt = s.sea.prompt ∧ s.takeLines.sea.resign = s.sea.resign := by
  have upTo : ∀ (n : Nat) (t : State), (State.takeUpTo n t).sea.prompt = t.sea.prompt ∧ (State.takeUpTo n t).sea.resign = t.sea.resign := by
    intro n
    induction n with
    | zero => exact fun _ => ⟨rfl, rfl⟩
    | succ n ih =>
      intro t
      unfold State.takeUpTo
      split
      · next h =>
        obtain ⟨h1, h2⟩ := takeLine_jobs h
        obtain ⟨i1, i2⟩ := ih _
        exact ⟨i1.trans h1, i2.trans h2⟩
      · exact ⟨rfl, rfl⟩
  exact upTo _ s

/-- The jobs that wait are discarded at step 3. -/
theorem State.beginRun_jobs (s : State) (k : Nat) : (s.beginRun k).sea.prompt = [] ∧ (s.beginRun k).sea.resign = [] := by
  simp [State.beginRun, State.startRun, State.discardJobs]

theorem State.beginRun_ready (s : State) (k : Nat) : (s.beginRun k).ctl.ready = false := by
  simp [State.beginRun, State.startRun, State.dropControl]

/-- A raised event sets interrupts, and clears none. -/
theorem State.raise_irq {s : State} (code : Nat) (time : Word64) (args : Bytes) {b : Nat} (h : s.reg.irqStatus.getLsbD b = true) :
    (s.raise code time args).reg.irqStatus.getLsbD b = true := by
  simp only [State.raise, State.offerControl_frame, State.holdRecord]
  repeat' split
  · exact h
  · simp only [State.setIrq, BitVec.getLsbD_or, h, Bool.true_or]
  · exact h

/-- `UMBER` (R282) is set from t0 on. -/
theorem State.beginRun_irq (s : State) (k : Nat) : (s.beginRun k).reg.irqStatus.getLsbD 3 = true := by
  have hset : ((s.openRun k).setIrq 3).dropControl.reg.irqStatus.getLsbD 3 = true := by
    simp [State.setIrq]
  have hraise : (((s.openRun k).setIrq 3).dropControl.raisePfail k).reg.irqStatus.getLsbD 3 = true := by
    unfold State.raisePfail
    split
    · exact hset
    · exact State.raise_irq _ _ _ hset
  simpa only [State.beginRun, State.startRun, State.takeLines_frame, State.umberAdvance_frame, State.domainOn_frame, State.wedgeRun_frame,
    State.judgeReadout_frame, State.discardJobs_frame, State.stopCaptures_frame] using hraise

/-- With trigger 3 no event is raised: the registers but the interrupt stand. -/
theorem State.beginRun_reg (s : State) : (s.beginRun 3).reg = (s.setIrq 3).reg := by
  simp [State.beginRun, State.startRun, State.raisePfail, State.setIrq]

/-- What the run's record and the power state hold at t0 (R199 step 1). -/
theorem State.beginRun_pwr (s : State) (k : Nat) :
    (s.beginRun k).pwr.run.map Run.head = some (k, s.clk.time, s.clk.ticks) ∧ (s.beginRun k).pwr.state = .closing ∧
      (s.beginRun k).pwr.retained = { s.pwr.retained with
        closeRuns := s.pwr.retained.closeRuns + 1, lastT0 := s.clk.time, lastTrigger := k } ∧
      (s.beginRun k).pwr.pfailRecognised = s.pwr.pfailRecognised := by
  have h := s.beginRun_steady k
  have htally : (s.beginRun k).pwr.tally = (s.openRun k).pwr.tally := congrArg (fun x => x.1.tally) h
  refine ⟨congrArg Prod.snd h, congrArg (fun x => x.1.state) h, ?_, congrArg (fun x => x.1.pfailRecognised) h⟩
  rw [Pwr.retained, htally]
  simp [State.openRun, Pwr.retain, State.now]

/-- Everything `runStarted` says, of the state in which the run begins. -/
theorem State.beginRun_started (s : State) (k : Nat) : runStarted s (s.beginRun k) k := by
  obtain ⟨hrun, hstate, hretained, -⟩ := s.beginRun_pwr k
  obtain ⟨hprompt, hresign⟩ := s.beginRun_jobs k
  refine ⟨hrun, hstate, by rw [hretained], by rw [hretained], by rw [hretained], ?_, s.beginRun_irq k, s.beginRun_ready k,
    s.beginRun_off k (by decide), s.beginRun_off k (by decide), s.beginRun_off k (by decide), s.beginRun_off k (by decide),
    hprompt, hresign, by simp⟩
  simp [State.beginRun, State.startRun, State.dropControl, State.openRun]

end Sys2Proof.Machine

namespace Sys2Proof.Machine

/-! ## Proofs: the supervisor commands (12) -/

theorem State.supFree_of {s : State} (h : s.pwr.released = true) (hb : s.reg.supState ≠ .busy) : s.supFree = true := by
  simp [State.supFree, State.spiUp, h, hb]

theorem supEnd_eq (s : State) (code : Byte) (reason : Nat) (result : Bytes) :
    s.supEnd code reason result = supDone s code reason result := rfl

theorem supervisorReads_holds : supervisorReads := by
  intro s h hb
  have hf := State.supFree_of h hb
  refine ⟨?tail, fun b hr => ?record, fun hr => ?none, ?snapshot, fun code hc => ?unknown⟩
  case tail =>
    by_cases h0 : s.reg.supArg.toNat % 65536 = 0
    · simp [exec, execSupTail, hf, supEnd_eq, State.supN, h0]
    by_cases h8 : 8 < s.reg.supArg.toNat % 65536
    · simp [exec, execSupTail, hf, supEnd_eq, State.supN, h0, h8]
    · simp [exec, execSupTail, hf, supEnd_eq, State.supN, State.tail, h0, h8]
  case record => simp [exec, execSupRrecord, hf, supEnd_eq, State.supN, hr]
  case none => simp [exec, execSupRrecord, hf, supEnd_eq, State.supN, hr]
  case snapshot => simp [exec, execSupSnapshot, hf, supEnd_eq]
  case unknown =>
    have hknown : (decide (1 ≤ code.toNat) && decide (code.toNat ≤ 5)) = false := by
      simp only [Bool.and_eq_false_iff, decide_eq_false_iff_not]
      omega
    simp only [exec, execSupCmdUnknown, hf, hknown]
    rfl

/-- A reset asked for where none is decided and nothing holds it is decided anew. -/
theorem State.askReset_eq {s : State} (cause : Cause) (h : s.pwr.released = true) (hrun : s.pwr.run = none) (hhold : s.pwr.hold = none)
    (hoff : s.pwr.state ≠ .offHold) (hdec : s.rst.decided = none) : s.askReset cause = s.decideNew cause 0 0 0 := by
  simp [State.askReset, State.closing, State.decideReset, State.decideWith, h, hrun, hhold, hoff, hdec]

theorem supReset_holds : supReset := by
  intro s h hb
  have hf := State.supFree_of h hb
  refine ⟨fun hc => ?refused, fun hc hrun hhold hoff hdec => ?decided⟩
  case refused => simp [exec, execSupReset, hf, State.confirmed, hc, supEnd_eq]
  case decided =>
    have e : exec .supReset s = .next ({ supDone s 1 0 [] with pwr := { s.pwr with padsOff := false } }.decideNew .supCmd 0 0 0) := by
      simp only [exec, execSupReset, hf, State.confirmed, hc, supEnd_eq]
      exact congrArg _ (State.askReset_eq _ h hrun hhold hoff hdec)
    exact ⟨_, _, e, rfl, rfl, rfl, rfl, rfl, rfl, rfl, rfl, rfl, rfl⟩

theorem supClose_holds : supClose := by
  intro s h hb
  have hf := State.supFree_of h hb
  refine ⟨fun hc => ?refused, fun hc hno => ?late, fun hc hboot hled hrun hoff => ?closes⟩
  case refused => simp [exec, execSupClose, hf, State.confirmed, hc, supEnd_eq]
  case late =>
    have hm : s.mayClose = false := by
      rcases hno with hno | hno | hno | hno <;> simp [State.mayClose, State.closing, State.offHold, hno]
    simp [exec, execSupClose, hf, State.confirmed, hc, hm, supEnd_eq]
  case closes =>
    have hm : s.mayClose = true := by simp [State.mayClose, State.closing, State.offHold, hboot, hled, hrun, hoff]
    have e : exec .supClose s = .next ((s.supEnd 2 0 []).beginRun 3) := by
      simp [exec, execSupClose, hf, State.confirmed, hc, hm]
    obtain ⟨hhead, hstate, hret, -⟩ := (s.supEnd 2 0 []).beginRun_pwr 3
    obtain ⟨r, hr, hr3⟩ := Option.map_eq_some_iff.mp hhead
    simp only [Run.head, Prod.mk.injEq] at hr3
    obtain ⟨htrigger, ht0, -⟩ := hr3
    have hreg := (s.supEnd 2 0 []).beginRun_reg
    refine ⟨_, r, e, hr, htrigger, ht0, hstate, by rw [hret]; rfl, by rw [hret], by rw [hreg]; rfl, by rw [hreg]; rfl,
      State.beginRun_ready _ _, by simp⟩

/-- Settles O9: the reads by their rows, the reset as one decided anew, the close by what every run shows at its t0. -/
theorem supervisorCommands : Obligations.SupervisorCommands :=
  ⟨supervisorReads_holds, supReset_holds, supClose_holds⟩

end Sys2Proof.Machine

namespace Sys2Proof.Machine

/-! ## Proofs: the status block (12) -/

theorem slice_append_skip (o n : Nat) (xs ys : Bytes) (h : xs.length ≤ o) : slice o n (xs ++ ys) = slice (o - xs.length) n ys := by
  simp [slice, List.drop_append, List.drop_eq_nil_of_le h]

theorem slice_append_here (n : Nat) (xs ys : Bytes) (h : xs.length = n) : slice 0 n (xs ++ ys) = xs := by
  simp [slice, ← h]

/-- Four bytes hold the epoch modulo 2^32. -/
theorem statusBlock_epoch (s : State) : leAt 20 4 s.statusBlock = s.epochNow % 2 ^ 32 := by
  simp [State.statusBlock, leAt, slice_append_skip, slice_append_here, leNat_leBytes, List.append_assoc]

/-- A ledger whose epoch does not fit the field of four bytes. -/
def epochPastField : State := { State.reset with led := { State.reset.led with ready := true, epoch := 2 ^ 32 } }

/-- Refutes O10: the statement takes any epoch the state can hold, a number without bound, and the block has four bytes for it. -/
theorem not_statusBlock : ¬ Obligations.StatusBlock := by
  intro h
  obtain ⟨-, -, -, -, -, hepoch, -⟩ := h epochPastField
  rw [statusBlock_epoch] at hepoch
  exact absurd hepoch (by decide)

end Sys2Proof.Machine

namespace Sys2Proof.Machine

/-! ## Proofs: power-on reset, its release, and RST_N (08) -/

theorem powerOnReset_holds : powerOnReset := by
  intro s loss htorn hcut
  refine ⟨s.powerLost loss, by simp [exec, execPowerOnReset, htorn, hcut], rfl, rfl, rfl, rfl, rfl, rfl, rfl, rfl, rfl, rfl, rfl, rfl,
    fun v hv => ?views, rfl, fun hnone => ?kept, fun htasks => ?otp⟩
  case views =>
    rw [State.viewAt_fresh (t := s.powerLost loss) rfl]
    exact ⟨rfl, rfl⟩
  case kept =>
    have e : s.cutNvs loss.cut = s := by rw [hnone]; rfl
    simp [State.powerLost, e, State.wiped, Nvs.kept, Pwr.kept, Tab.kept, Rst.retained, Pwr.retained, Nvs.retained]
  case otp => 
    simp [State.powerLost, State.tearOtp, htasks, State.wiped]

theorem State.powered_domainsOn (s : State) (l : List Nat) {i : Nat} (hi : i < 56) :
    (s.domainsOn l).powered i = (s.powered i || decide (i ∈ l)) := by
  unfold State.domainsOn
  induction l generalizing s with
  | nil => simp
  | cons j l ih =>
    rw [List.foldl_cons, ih, State.powered_domainOn s hi]
    by_cases h : j = i <;> by_cases h' : i ∈ l <;> simp [h, h', Ne.symm]

/-- Powering domains changes nothing of the power state but which are on. -/
theorem State.domainsOn_pwr (s : State) (l : List Nat) :
    (s.domainsOn l).pwr = { s.pwr with domains := (s.domainsOn l).pwr.domains, poweringUp := (s.domainsOn l).pwr.poweringUp } := by
  unfold State.domainsOn
  induction l generalizing s with
  | nil => rfl
  | cons j l ih =>
    rw [List.foldl_cons, ih]
    unfold State.domainOn
    split <;> rfl

theorem State.domainsOff_pwr (s : State) (l : List Nat) :
    (s.domainsOff l).pwr = { s.pwr with domains := (s.domainsOff l).pwr.domains, poweringUp := (s.domainsOff l).pwr.poweringUp } := by
  unfold State.domainsOff
  induction l generalizing s with
  | nil => rfl
  | cons j l ih => rw [List.foldl_cons, ih]; rfl

/-- Only `pwr` differs after domains have been switched. -/
theorem State.domainsOn_eq (s : State) (l : List Nat) : s.domainsOn l = { s with pwr := (s.domainsOn l).pwr } := by
  unfold State.domainsOn
  induction l generalizing s with
  | nil => rfl
  | cons j l ih =>
    rw [List.foldl_cons, ih]
    unfold State.domainOn
    split <;> rfl

theorem State.domainsOff_eq (s : State) (l : List Nat) : s.domainsOff l = { s with pwr := (s.domainsOff l).pwr } := by
  unfold State.domainsOff
  induction l generalizing s with
  | nil => rfl
  | cons j l ih => rw [List.foldl_cons, ih]; rfl

/-- What the release of a reset changes (R189 step 5). -/
theorem State.releaseBoot_spec (s : State) : s.releaseBoot = { s with pwr := s.releaseBoot.pwr } ∧
    s.releaseBoot.pwr = { s.pwr with
      released := true, domains := s.releaseBoot.pwr.domains, poweringUp := s.releaseBoot.pwr.poweringUp } := by
  unfold State.releaseBoot State.holdDomains
  dsimp only
  split
  · exact ⟨(State.domainsOff_eq _ _).trans rfl, (State.domainsOff_pwr _ _).trans rfl⟩
  · exact ⟨(State.domainsOn_eq _ _).trans rfl, (State.domainsOn_pwr _ _).trans rfl⟩

theorem State.releaseBoot_powered {s : State} (h : s.pad.testMode = false ∨ s.fus.latched.lcSteps = 0) {i : Nat} (hi : i < 56) :
    s.releaseBoot.powered i = (s.powered i || decide (i ∈ bootDomains)) := by
  have ht : s.testHeld = false := by rcases h with h | h <;> simp [State.testHeld, h]
  simp only [State.releaseBoot, ht]
  exact State.powered_domainsOn _ _ hi

theorem State.releaseBoot_held {s : State} (h : s.pad.testMode = true) (hl : s.fus.latched.lcSteps ≠ 0) {i : Nat} (hi : i < 56) :
    s.releaseBoot.powered i = (s.powered i && decide (i = 49)) := by
  have ht : s.testHeld = true := by simp [State.testHeld, h, hl]
  simp only [State.releaseBoot, ht, if_true]
  refine (State.powered_domainsOff _ _ hi).trans ?_
  by_cases h49 : i = 49 <;> simp [State.powered, h49, hi]

theorem resetReleased_holds : resetReleased := by
  refine ⟨fun s hrel hpor hlow hrst hgood hsince => ?released, fun s h => ?early⟩
  case released =>
    have e : exec .resetRelease s = .next s.releasePor := by
      simp [exec, execResetRelease, State.steady, hrel, hpor, hlow, hrst, hgood, hsince]
    obtain ⟨hs, hp⟩ := s.releaseBoot_spec
    have hpow : ∀ i, s.releasePor.powered i = s.releaseBoot.powered i := fun _ => rfl
    refine ⟨_, e, ?_, ?_, fun h i hi => ?_, fun h hl => ⟨fun i hi hi49 => ?_, ?_⟩, fun h i hi hno => ?_, ?_, rfl⟩
    · exact congrArg Pwr.released hp
    · exact (congrArg Pwr.state hp :)
    · have hlt : i < 56 := by
        simp only [List.mem_cons, List.not_mem_nil, or_false] at hi
        omega
      rw [hpow, State.releaseBoot_powered h hlt]
      simpa [bootDomains] using Or.inr (by simpa using hi)
    · simp [hpow, State.releaseBoot_held h hl hi, hi49]
    · simp [hpow, State.releaseBoot_held h hl]
    · rw [hpow, State.releaseBoot_powered h hi]
      simp [show i ∉ bootDomains from hno]
    · unfold State.releasePor
      rw [hs]
  case early =>
    have hs : s.steady = false := by
      simp only [State.steady, Bool.and_eq_false_iff, decide_eq_false_iff_not]
      omega
    simp [exec, execResetRelease, hs]

theorem resetPin_holds : resetPin := by
  refine ⟨fun s h hhold hrun => ?decides, fun s r h hrun => ?run, fun s h => ?rises⟩
  case decides => simp [exec, execRstNAssert, State.askReset, State.closing, State.decideReset, h, hhold, hrun]
  case run => simp [exec, execRstNAssert, State.askReset, State.closing, State.onRun, h, hrun]
  case rises =>
    have e : exec .rstNRelease s = .next s.rstNUp := by simp [exec, execRstNRelease, h]
    refine ⟨_, e, ?_⟩
    unfold State.rstNUp
    dsimp only
    split
    · obtain ⟨hs, hp⟩ := State.releaseBoot_spec { s with
        pad := { s.pad with rstN := true }, pwr := { s.pwr with rstSince := s.clk.ticks, padsOff := false }, tap := { s.tap with ir := 2 } }
      rw [hs]
      exact ⟨rfl, congrArg Pwr.rstSince hp, rfl, rfl, rfl, fun _ => congrArg Pwr.released hp, rfl⟩
    · next hheld => exact ⟨rfl, rfl, rfl, rfl, rfl, fun hc => by simpa [hc] using hheld, rfl⟩
/-- Settles O11: the power-on reset from the retained contents, its release by `releaseBoot_spec`, and RST_N from both. -/
theorem powerOnAndResetPin : Obligations.PowerOnAndResetPin := ⟨powerOnReset_holds, resetReleased_holds, resetPin_holds⟩

end Sys2Proof.Machine

namespace Sys2Proof.Machine

/-! ## Proofs: PFAIL_N, and the triggers of a closing run (08) -/

theorem State.prioTrigger_eq (s : State) (b : Nat) : s.prioTrigger b = { s with hkc := (s.prioTrigger b).hkc } := by
  unfold State.prioTrigger
  repeat' split
  all_goals rfl

/-- Settles O12: the fall may start the converter's priority sequence and nothing more. -/
theorem pfailEdges : Obligations.PfailEdges := by
  refine ⟨fun s h => ⟨s.pfailDown.hkc, ?falls⟩, fun s h => ?rises⟩
  case falls =>
    simp only [exec, execPfailFall, h]
    exact congrArg _ (State.prioTrigger_eq _ 1)
  case rises =>
    simp [exec, execPfailRise, h, State.pfailUp]

theorem State.trigger_eq {s : State} (k : Nat) (h : s.pwr.released = true) (hrun : s.pwr.run = none) (hoff : s.pwr.state ≠ .offHold) :
    s.trigger k = s.beginRun k := by
  simp [State.trigger, State.closing, State.offHold, h, hrun, hoff]

theorem State.trigger_closing {s : State} (k : Nat) {r : Run} (hrun : s.pwr.run = some r) : s.trigger k = s := by
  simp [State.trigger, State.closing, hrun]

/-- A run's start is the same seen from a state before the trigger's own notes. -/
theorem runStarted.of_before {s s' t : State} {k : Nat} (h : runStarted s' t k)
    (hc : s'.clk = s.clk ∧ s'.pwr.retained.closeRuns = s.pwr.retained.closeRuns)
    (hs : s'.par = s.par ∧ s'.role = s.role ∧ s'.fw = s.fw ∧ s'.led = s.led ∧ s'.tab = s.tab ∧ s'.tap = s.tap ∧ s'.pad = s.pad) :
    runStarted s t k := by
  obtain ⟨hclk, hruns⟩ := hc
  obtain ⟨h1, h2, h3, h4, h5, h6, h7⟩ := hs
  simpa only [runStarted, hclk, hruns, h1, h2, h3, h4, h5, h6, h7] using h

/-- The state in which the trigger PFAIL_N falls. -/
def State.recognised (s : State) : State := { s with pwr := { s.pwr with pfailRecognised := true } }

theorem exec_pfailRecognition {s : State} (hlow : s.pwr.pfailLow = true) (hrec : s.pwr.pfailRecognised = false)
    (hsince : s.pwr.pfailSince + 250 ≤ s.clk.ticks) :
    exec .pfailRecognition s = .next (s.recognised.trigger 1) := by
  simp [exec, execPfailRecognition, State.pfailDue, hlow, hrec, hsince, State.recognised]

/-- The state in which a droop's trigger falls: the rails latched, and the converter's priority sequence started where it is asked for. -/
def State.drooped (s : State) (rails : BitVec 4) : State :=
  { s with pwr := { s.pwr.retain (fun t => { t with droopLast := rails.toNat }) with
    drooped := true, goodSince := s.clk.ticks } }.prioTrigger 0

theorem exec_droopDetect {s : State} {rails : BitVec 4} (hr : rails ≠ 0) :
    exec (.droopDetect rails) s = .next ((s.drooped rails).trigger 2) := by
  simp only [exec, execDroopDetect, if_neg hr]
  rfl

theorem State.drooped_eq (s : State) (rails : BitVec 4) : s.drooped rails = { s with
    pwr := { s.pwr.retain (fun t => { t with droopLast := rails.toNat }) with drooped := true, goodSince := s.clk.ticks }
    hkc := (s.drooped rails).hkc } :=
  State.prioTrigger_eq _ 0

/-- The state in which a thermal trip's trigger falls. -/
def State.tripped (s : State) : State :=
  { s with pwr := { s.pwr.retain (fun t => { t with thermalTrips := t.thermalTrips + 1 }) with hot := true } }

theorem State.thermal_closing {s : State} {r : Run} (hrun : s.pwr.run = some r) :
    s.thermal = s.tripped.onRun fun r => { r with cooling := true } :=
  if_pos (show s.closing = true by simp [State.closing, hrun])

theorem State.thermal_starts {s : State} (hrun : s.pwr.run = none) (hhold : s.pwr.hold = none) : s.thermal = s.tripped.trigger 4 := by
  refine (if_neg (show ¬ s.tripped.closing = true by simp [State.closing, State.tripped, Pwr.retain, hrun])).trans (congrArg (State.trigger · 4) ?_)
  simp [State.tripped, Pwr.retain, hhold]

theorem exec_thermalTrip (s : State) : exec .thermalTrip s = .next s.thermal := rfl

theorem closingRunStarts_holds : closingRunStarts := by
  intro s h hrun hoff hhold
  refine ⟨fun hlow hrec hsince => ?pfail, fun rails hr => ?droop, ?thermal⟩
  case pfail =>
    have e := exec_pfailRecognition hlow hrec hsince
    rw [State.trigger_eq (s := s.recognised) 1 h hrun hoff] at e
    exact ⟨_, e, runStarted.of_before (State.beginRun_started _ 1) ⟨rfl, rfl⟩ ⟨rfl, rfl, rfl, rfl, rfl, rfl, rfl⟩, (State.beginRun_pwr _ 1).2.2.2⟩
  case droop =>
    have e := exec_droopDetect (s := s) hr
    have hpwr : (s.drooped rails).pwr = { s.pwr.retain (fun t => { t with droopLast := rails.toNat }) with
        drooped := true, goodSince := s.clk.ticks } := by rw [s.drooped_eq rails]
    rw [State.trigger_eq 2 (by rw [hpwr]; exact h) (by rw [hpwr]; exact hrun) (by rw [hpwr]; exact hoff)] at e
    have hret : (s.drooped rails).pwr.retained = { s.pwr.retained with droopLast := rails.toNat } := by
      rw [hpwr]
      simp [Pwr.retained, Pwr.retain]
    refine ⟨_, e, runStarted.of_before (State.beginRun_started _ 2) ⟨by simp [State.drooped], by rw [hret]⟩ (by simp [State.drooped]), ?_⟩
    rw [(State.beginRun_pwr _ 2).2.2.1, hret]
  case thermal =>
    have e : exec .thermalTrip s = .next (s.tripped.beginRun 4) := by
      rw [exec_thermalTrip, State.thermal_starts hrun hhold, State.trigger_eq (s := s.tripped) 4 h hrun hoff]
    have hret : s.tripped.pwr.retained = { s.pwr.retained with thermalTrips := s.pwr.retained.thermalTrips + 1 } := by
      simp [State.tripped, Pwr.retained, Pwr.retain]
    refine ⟨_, e, runStarted.of_before (State.beginRun_started _ 4) ⟨rfl, by rw [hret]⟩ ⟨rfl, rfl, rfl, rfl, rfl, rfl, rfl⟩, ?_⟩
    rw [(State.beginRun_pwr _ 4).2.2.1, hret]

theorem runNotStopped_holds : runNotStopped := by
  intro s r hrun
  refine ⟨fun hlow hrec hsince => ?pfail, ?thermal, fun rails hr => ?droop⟩
  case pfail =>
    rw [exec_pfailRecognition hlow hrec hsince, State.trigger_closing (s := s.recognised) 1 hrun]
    rfl
  case thermal =>
    refine ⟨_, by rw [exec_thermalTrip, State.thermal_closing hrun], ?_, ?_⟩
    · simp [State.onRun, State.tripped, Pwr.retained, Pwr.retain]
    · simp [State.onRun, State.tripped, Pwr.retain, hrun]
  case droop =>
    have hrun' : (s.drooped rails).pwr.run = some r := by
      rw [s.drooped_eq rails]
      exact hrun
    refine ⟨_, (exec_droopDetect hr).trans (by rw [State.trigger_closing 2 hrun']), ?_, ?_⟩
    · rw [s.drooped_eq rails]
      simp [Pwr.retained, Pwr.retain]
    · exact (s.drooped_eq rails).trans (by simp [Pwr.retain, State.drooped])

/-- Settles O13: each trigger by the state in which it falls, and what every run shows at its t0. -/
theorem closingRunStart : Obligations.ClosingRunStart := ⟨closingRunStarts_holds, runNotStopped_holds⟩

end Sys2Proof.Machine

namespace Sys2Proof.Machine

/-! ## Proofs: rails below their minima, and the bounds inside a closing run (08) -/

/-- Bytes apart from those written. -/
theorem nvBytes_nvWrite_apart (m : List Host.Cell) (a : Nat) (bs : Bytes) {b k : Nat} (h : b + k ≤ a ∨ a + bs.length ≤ b) :
    nvBytes (nvWrite m a bs) b k = nvBytes m b k := by
  induction k generalizing b with
  | zero => rfl
  | succ k ih =>
    rw [nvBytes, nvBytes, nvWrite_other m a bs b (by omega), ih (by omega)]

/-- Entries lie below the anchor copies and the staging buffers. -/
theorem slotAddr_below (q : Word) : slotAddr q + 128 ≤ 0x1D00000 := by
  unfold slotAddr slots
  omega

/-- Neither the staging buffer nor the slot touches an anchor copy. -/
theorem nvBytes_anchor (m : List Host.Cell) (q : Word) (b c : Bytes) (h : c.length = 128) :
    nvBytes (nvWrite (nvWrite m (stageAddr q) b) (slotAddr q) c) (anchorAddr q) 256 = nvBytes m (anchorAddr q) 256 := by
  have hs := slotAddr_below q
  rw [nvBytes_nvWrite_apart _ _ _ (Or.inr (by rw [h]; unfold anchorAddr; omega)),
    nvBytes_nvWrite_apart _ _ _ (Or.inl (by unfold anchorAddr stageAddr; omega))]

/-- The slot holds what a cut left in it. -/
theorem State.cutNvs_slot {s : State} {c : Commit} {rest : List Commit} (b : Bytes) (hd : s.commitDue = true)
    (hq : s.nvs.queue = c :: rest) :
    s.cutNvs (.slot b) = (s.leaveBytes (stageAddr s.led.nextSeq) (s.staging c).bytes).leaveBytes (slotAddr s.led.nextSeq) b := by
  simp [State.cutNvs, State.cutEntry, cutStep, hq, hd, State.entryInHand, HandEntry.cut, HandEntry.staged, State.leaveBytes]

theorem State.cutFits_slot {s : State} {c : Commit} {rest : List Commit} {b : Bytes} (hd : s.commitDue = true)
    (hq : s.nvs.queue = c :: rest) (hb : b.length = 128) : s.cutFits (.slot b) = true := by
  simp [State.cutFits, State.cutEntry, cutStep, hq, hd, State.entryInHand, HandEntry.fits, hb]

/-- A rail that falls in a run and cuts nothing. -/
theorem exec_railBelowClosingMinimum {s : State} (h : s.pwr.run.isSome = true) {f : RailFall} (hc : s.railCuts f.rail f.cut = true) :
    exec (.railBelowClosingMinimum f) s = .next (s.railLow f.rail f.cut f.padsOff) := by
  simp [exec, execRailBelowClosingMinimum, State.closing, h, hc]

theorem State.railLow_slot {s : State} {c : Commit} {rest : List Commit} (b : Bytes) (hd : s.commitDue = true)
    (hq : s.nvs.queue = c :: rest) : (s.railLow .vddnv (.slot b) false).nvs.held = true ∧
      (s.railLow .vddnv (.slot b) false).nvs.queue = s.nvs.queue ∧ (s.railLow .vddnv (.slot b) false).led = s.led ∧
      (s.railLow .vddnv (.slot b) false).nvs.mem =
        nvWrite (nvWrite s.nvs.mem (stageAddr s.led.nextSeq) (s.staging c).bytes) (slotAddr s.led.nextSeq) b := by
  simp [State.railLow, State.cutNvs_slot b hd hq, State.leaveBytes]

theorem closingRails_hold : closingRails := by
  refine ⟨fun s rail off h => ?_, fun s c rest b h hd hq hb hm => ?_, fun s h => ?_, fun s n h => ?_, fun s h => ?_,
    fun s h hp => ?_⟩
  · refine ⟨if s.pwr.railsLow.contains rail then s.pwr.railsLow else rail :: s.pwr.railsLow, ?_, ?_, ?_⟩
    · by_cases hr : rail ∈ s.pwr.railsLow <;> simp [hr]
    · intro x hx
      by_cases hr : rail ∈ s.pwr.railsLow <;> simp [hr, hx]
    · exact exec_railBelowClosingMinimum h (by simp [State.railCuts])
  · have hx := exec_railBelowClosingMinimum (f := ⟨.vddnv, .slot b, false⟩) h
      (by simp [State.railCuts, State.cutFits_slot hd hq hb])
    have hmem : Memory.wf (nvWrite s.nvs.mem (stageAddr s.led.nextSeq) (s.staging c).bytes) = true := nvWrite_wf _ _ _ hm
    have hw := nvBytes_nvWrite _ (slotAddr s.led.nextSeq) b hmem
    rw [hb] at hw
    obtain ⟨hheld, hqueue, hled, hcut⟩ := State.railLow_slot b hd hq
    refine ⟨_, hx, hheld, hqueue, hled, ?_, ?_⟩
    · rw [hcut, hw]
    · rw [hcut, nvBytes_anchor _ _ _ _ hb]
  · simp [exec, execRailBelowClosingMinimum, State.closing, h, State.padsFall]
  · simp [State.gpLand, State.irqLand, State.landOf, State.sdoWord, h]
  · simp [exec, execNvsCommit, State.commitDue, h]
  · simp [exec, execVddnvReturn, h, hp]

/-- The datapath is quiet: past step 7, with nothing captured, read out or converted left. -/
structure State.Stilled (s : State) : Prop where
  past : ∀ r, s.pwr.run = some r → r.phase ≠ .draining
  wedged : s.sea.wedged = true
  captures : s.ets.captures = []
  waiting : s.pdp.waiting = []
  jobs : s.pdp.jobs = []
  results : s.hkc.results = []
  acc : s.hkc.acc = []

theorem State.Stilled.queueClose {s : State} (h : s.Stilled) (r : Run) : (s.queueClose r).Stilled := by
  obtain ⟨hr, hw, hc, hp, hj, hx, ha⟩ := h
  refine ⟨fun r' hr' => ?_, ?_, ?_, ?_, ?_, ?_, ?_⟩
  · simp only [State.queueClose, State.onRun, Option.map_eq_some_iff] at hr'
    obtain ⟨r0, h0, rfl⟩ := hr'
    exact hr r0 (by simpa using h0)
  all_goals simpa

theorem State.Stilled.commitsEnd {s : State} (h : s.Stilled) : s.commitsEnd.Stilled := by
  obtain ⟨hr, hw, hc, hp, hj, hx, ha⟩ := h
  refine ⟨fun r' hr' => ?_, ?_, ?_, ?_, ?_, ?_, ?_⟩
  · simp only [State.commitsEnd, State.onRun, Option.map_eq_some_iff] at hr'
    obtain ⟨r0, -, rfl⟩ := hr'
    simp
  all_goals simpa

theorem State.Stilled.umberStep {s : State} (h : s.Stilled) : s.umberStep.Stilled := by
  unfold State.umberStep
  split
  · exact h
  · next r hr =>
    have hp := h.past r hr
    split
    · contradiction
    · split
      · exact h
      · split
        · exact h.commitsEnd
        · exact h.queueClose r
    · exact h

theorem State.Stilled.umberAdvance {s : State} (h : s.Stilled) : s.umberAdvance.Stilled := h.umberStep.umberStep.umberStep

theorem State.wedgeRun_phase {s : State} {r : Run} (h : s.wedgeRun.pwr.run = some r) :
    ∃ r0, s.pwr.run = some r0 ∧ r.phase = r0.phase := by
  unfold State.wedgeRun at h
  split at h
  · simp only [State.onRun, Option.map_eq_some_iff] at h
    obtain ⟨r0, h0, rfl⟩ := h
    exact ⟨r0, h0, rfl⟩
  · exact ⟨r, h, rfl⟩

theorem State.wedgeRun_domains (s : State) : s.wedgeRun.pwr.domains = s.pwr.domains := by
  unfold State.wedgeRun
  split <;> rfl

/-- The domains that steps 6 and 7 remove. -/
theorem State.goQuiet_domains (s : State) : ∃ l, s.goQuiet.pwr.domains =
    (s.domainsOff ([34, 35, 36, 37, 38, 39, 51, 55] ++ l)).pwr.domains := by
  refine ⟨if s.pwr.run.elim false Run.commits then [] else [40], ?_⟩
  unfold State.goQuiet
  generalize [34, 35, 36, 37, 38, 39, 51, 55] = q
  cases s.pwr.run
  · cases s.sea.wedged <;> simp
  · cases s.sea.wedged <;> simp <;> rfl

/-- Steps 6 and 7 leave the datapath quiet where SEA is wedged and holds nothing. -/
theorem State.goQuiet_stilled {s : State} (hw : s.sea.wedged = true) (hc : s.ets.captures = []) (hp : s.pdp.waiting = [])
    (hj : s.pdp.jobs = []) : s.goQuiet.Stilled := by
  refine ⟨?_, ?_, by simpa, by simpa, by simpa, ?_, ?_⟩
  · intro r hr
    simp only [State.goQuiet, hw, if_true] at hr
    obtain ⟨r0, hr0, hp0⟩ := State.wedgeRun_phase hr
    simp only [State.onRun, Option.map_eq_some_iff] at hr0
    obtain ⟨r1, -, rfl⟩ := hr0
    rw [hp0]
    dsimp only
    split <;> split <;> simp
  all_goals simp [State.goQuiet, hw, Hkc.down]

theorem State.goQuiet_powered (s : State) {i : Nat} (h : i ∈ [34, 35, 36, 37, 38, 39, 51, 55]) : s.goQuiet.powered i = false := by
  have hi : i < 56 := by
    simp only [List.mem_cons, List.not_mem_nil, or_false] at h
    omega
  obtain ⟨l, hl⟩ := s.goQuiet_domains
  generalize [34, 35, 36, 37, 38, 39, 51, 55] = q at h hl
  rw [State.powered, hl]
  exact (State.powered_domainsOff s (q ++ l) hi).trans (by simp [h])

theorem State.dropImaging_powered (s : State) {i : Nat} (h : i < 34) : s.dropImaging.powered i = false := by
  have hp := State.powered_domainsOff s (List.range 34) (show i < 56 by omega)
  simpa [State.dropImaging, State.powered, h] using hp

/-- Step 6 at its bound. -/
theorem State.wedge_stilled (s : State) : s.wedge.Stilled :=
  (State.goQuiet_stilled (by simp) (by simp) (by simp) (by simp)).umberAdvance

theorem State.wedge_powered (s : State) {i : Nat} (h : i < 40 ∨ i = 51 ∨ i = 55) : s.wedge.powered i = false := by
  refine State.umberAdvance_isOff ?_
  by_cases hi : i < 34
  · exact State.goQuiet_isOff (State.dropImaging_powered _ hi)
  · refine State.goQuiet_powered _ ?_
    simp only [List.mem_cons, List.not_mem_nil, or_false]
    omega

theorem State.linkOff_powered (s : State) (k : Nat) {i : Nat} (h : i ∈ [43, 44, 45, 46, 47, 48, 50]) :
    (s.linkOff k).powered i = false := by
  have hi : i < 56 := by
    simp only [List.mem_cons, List.not_mem_nil, or_false] at h
    omega
  refine (State.powered_domainsOff _ _ hi).trans ?_
  simp only [h, decide_true, Bool.not_true, Bool.and_false]

theorem State.removeLanes_powered (s : State) {i : Nat} (h : i ∈ [43, 44, 45, 46, 47, 48, 50]) : s.removeLanes.powered i = false := by
  have hp := State.linkOff_powered s 8 h
  simpa only [State.removeLanes, State.powered] using hp

theorem State.removeLanes_lnk (s : State) : s.removeLanes.lnk.state = .off ∧ s.removeLanes.lnk.control = [] ∧
    s.removeLanes.lnk.sealQ = [] ∧ s.removeLanes.lnk.data = [] := by
  simp [State.removeLanes, State.linkOff, State.linkTo]

theorem closingBounds_hold : closingBounds := by
  refine ⟨fun s r hr hp hb => ?_, fun s r hr hp hb => ?_⟩
  · obtain ⟨-, hw, hc, hq, hj, hx, ha⟩ := s.wedge_stilled
    refine ⟨s.wedge, ?_, hw, hc, hq, hj, hx, ha, fun i hi => s.wedge_powered (.inl hi), s.wedge_powered (.inr (.inl rfl)),
      s.wedge_powered (.inr (.inr rfl)), by simp⟩
    simp [exec, execDatapathQuietBound, hr, hp, Run.quietBound, hb]
  · refine ⟨s.removeLanes, ?_, ?_⟩
    · simp [exec, execUmberLaneRemoval, hr, hp, State.lanesDue, hb]
    obtain ⟨hstate, hcontrol, hseal, hdata⟩ := s.removeLanes_lnk
    refine ⟨hstate, hcontrol, hseal, hdata, fun i hi => s.removeLanes_powered hi, ?_⟩
    · simp [State.removeLanes]

/-- Settles O14. -/
theorem closingRunBounds : Obligations.ClosingRunBounds := ⟨closingRails_hold, closingBounds_hold⟩

end Sys2Proof.Machine

namespace Sys2Proof.Machine

/-! ## Proofs: how a closing run and OFF_HOLD end (08) -/

/-- What a device reset of `s` shows in `t`, and what it keeps (R281). -/
structure ResetDone (s : State) (cause : Cause) (missing : BitVec 16) (t : State) : Prop where
  cause : t.rst.cause = cause
  missing : t.rst.missing = missing
  run : t.pwr.run = none
  hold : t.pwr.hold = none
  state : t.pwr.state = .boot
  hot : t.pwr.hot = s.pwr.hot
  released : t.pwr.released = s.pad.rstN
  rstN : t.pad.rstN = s.pad.rstN
  operators : t.role.operators = s.role.operators
  persist : t.par.persist = s.par.persist
  mem : t.nvs.mem = s.nvs.mem
  view : t.view = State.reset.view

/-- The state of a device reset before its release. -/
def State.resetBase (s : State) (cause : Cause) (missing : BitVec 16) (record : Bool) : State :=
  let s1 := (s.countFailure cause).wiped false
  { s1 with rst := { s1.rst with cause := cause, missing := missing, record := record } }

theorem State.resetDevice_eq (s : State) (cause : Cause) (missing : BitVec 16) (record : Bool) : s.resetDevice cause missing record =
    if s.pad.rstN then (s.resetBase cause missing record).releaseBoot else s.resetBase cause missing record := rfl

theorem State.releaseBoot_kept (s : State) : s.releaseBoot.pwr.run = s.pwr.run ∧ s.releaseBoot.pwr.hold = s.pwr.hold ∧
    s.releaseBoot.pwr.state = s.pwr.state ∧ s.releaseBoot.pwr.hot = s.pwr.hot ∧ s.releaseBoot.pwr.released = true := by
  obtain ⟨-, hp⟩ := s.releaseBoot_spec
  exact ⟨(congrArg Pwr.run hp :), (congrArg Pwr.hold hp :), (congrArg Pwr.state hp :), (congrArg Pwr.hot hp :),
    (congrArg Pwr.released hp :)⟩

theorem State.resetDevice_done (s : State) (cause : Cause) (missing : BitVec 16) (record : Bool) :
    ResetDone s cause missing (s.resetDevice cause missing record) := by
  rw [State.resetDevice_eq]
  split
  · next h =>
    constructor <;> simp [State.releaseBoot_kept, State.resetBase, State.wiped, Pwr.kept, Nvs.kept, State.reset, h]
  · next h => constructor <;> simp [State.resetBase, State.wiped, Pwr.kept, Nvs.kept, State.reset, h]

theorem ResetDone.views {s t : State} {c : Cause} {m : BitVec 16} (h : ResetDone s c m t) (v : Nat) :
    (t.viewAt v).state = .idle := by
  rw [State.viewAt_fresh h.view]

/-- A reset that leaves OFF_HOLD. -/
theorem State.leaveHold_done (s : State) {h : Hold} (ht : h.trigger ≠ 4) : ResetDone s .umber 0 (s.leaveHold h) := by
  have hd := s.resetDevice_done .umber 0 h.recorded
  simpa only [State.leaveHold, ht, if_false] using hd

theorem State.leaveHold_thermal (s : State) {h : Hold} (ht : h.trigger = 4) : ResetDone s .thermal 0 (s.leaveHold h) := by
  have hd := s.resetDevice_done .thermal 0 h.recorded
  simpa only [State.leaveHold, ht, if_true] using hd

/-- The state in which a run's end decides between the reset and OFF_HOLD. -/
def State.runClosed (s : State) (r : Run) : State :=
  let s1 := { s.removeLanes.runRecord r with free := s.free + 1 }
  { s1 with pwr := s1.pwr.retain fun t => { t with lastRunTime := BitVec.ofNat 32 ((s.clk.ticks - r.t0Tick) / 125) } }

/-- What OFF_HOLD remembers of a run. -/
def State.runHold (s : State) (r : Run) : Hold := ⟨r.trigger, r.cooling, r.resetAsked, s.pwr.bootEntryDone && s.ledgerRuns⟩

theorem State.endRun_eq (s : State) (r : Run) : s.endRun r =
    if (s.runClosed r).resetAtEnd r (Config.railsBack s.free) then
      { s.runClosed r with pwr := { (s.runClosed r).pwr with
          drooped := (s.runClosed r).pwr.drooped && !Config.railsBack s.free
          padsOff := (s.runClosed r).pwr.padsOff && !Config.railsBack s.free } }.leaveHold (s.runHold r)
    else (s.runClosed r).enterHold (s.runHold r) := rfl

theorem State.linkOff_pwr (s : State) (k : Nat) :
    ∃ d u, (s.linkOff k).pwr = { s.pwr with domains := d, poweringUp := u } ∧ d.getLsbD 49 = s.powered 49 := by
  have hd : ∀ x : State, x.pwr = s.pwr → ∃ d u,
      (x.domainsOff [43, 44, 45, 46, 47, 48, 50]).pwr = { s.pwr with domains := d, poweringUp := u } ∧ d.getLsbD 49 = s.powered 49 :=
    fun x hx => by
      have h49 := x.powered_domainsOff [43, 44, 45, 46, 47, 48, 50] (i := 49) (by omega)
      exact ⟨_, _, hx ▸ x.domainsOff_pwr _, h49.trans (by simp [State.powered, hx])⟩
  unfold State.linkOff
  dsimp only
  split
  · exact hd _ (by simp)
  · exact hd _ rfl

theorem State.linkOff_ticks (s : State) (k : Nat) : (s.linkOff k).clk.ticks = s.clk.ticks := by
  unfold State.linkOff
  dsimp only
  split <;> simp

/-- What the end of a run leaves as it is. -/
theorem State.runClosed_keeps (s : State) (r : Run) : (s.runClosed r).role = s.role ∧ (s.runClosed r).par = s.par ∧
    (s.runClosed r).pad = s.pad ∧ (s.runClosed r).railsGood = s.railsGood ∧ (s.runClosed r).pwr.drooped = s.pwr.drooped ∧
    (s.runClosed r).powered 49 = s.powered 49 := by
  have hrec : ∀ x : State, (x.runRecord r).pwr = x.pwr := fun x => by
    unfold State.runRecord
    split <;> simp
  have ht : (s.runClosed r).clk.ticks = s.clk.ticks := by
    simp only [State.runClosed, State.runRecord_frame, State.removeLanes]
    exact s.linkOff_ticks 8
  obtain ⟨d, u, hd, h49⟩ := s.linkOff_pwr 8
  have hp : (s.runClosed r).pwr = { s.pwr with
      domains := d, poweringUp := u, tally := (s.runClosed r).pwr.tally } := by
    simp only [State.runClosed, Pwr.retain, hrec, State.removeLanes, hd]

  have hpar : (s.runClosed r).par = s.par := by simp [State.runClosed]
  refine ⟨by simp [State.runClosed], hpar, by simp [State.runClosed], ?_, (congrArg Pwr.drooped hp :), ?_⟩
  · have hlow : (s.runClosed r).pwr.pfailLow = s.pwr.pfailLow := (congrArg Pwr.pfailLow hp :)
    have hsince : (s.runClosed r).pwr.goodSince = s.pwr.goodSince := (congrArg Pwr.goodSince hp :)
    rw [State.railsGood, State.stored, hpar, ht, hlow, hsince]
    rfl
  · rw [← h49, State.powered, hp]

theorem exec_closingRunEnd {s : State} {r : Run} (hr : s.pwr.run = some r) (hp : r.phase = .sending) (hl : s.powered 50 = false)
    (hb : s.nvs.blocks = []) (hf : s.fus.tasks = []) : exec .closingRunEnd s = .next (s.endRun r) := by
  simp [exec, execClosingRunEnd, hr, State.runEnds, hp, hl, hb, hf]

/-- The state in which RST_N or `SUP_RESET` asks for a reset. -/
def State.askedBy (s : State) (i : Instr) : State :=
  if i = .rstNAssert then { s with pad := { s.pad with rstN := false } }
  else { s.supEnd 1 0 [] with pwr := { s.pwr with padsOff := false } }

theorem State.askedBy_eq (s : State) (i : Instr) : ∃ b p r, s.askedBy i = { s with pad := p, reg := r, pwr := { s.pwr with padsOff := b } } ∧
    (i = .rstNAssert → p.rstN = false) := by
  unfold State.askedBy
  split
  · exact ⟨_, _, _, rfl, fun _ => rfl⟩
  · next h => exact ⟨_, s.pad, _, rfl, fun hi => absurd hi h⟩

theorem State.resetAtEnd_iff {s : State} {r : Run} {b : Bool} : s.resetAtEnd r b = true ↔ r.cooling = false ∧
    (r.resetAsked = true ∧ r.trigger ≠ 4 ∨ (r.trigger = 1 ∨ r.trigger = 2) ∧ (s.pwr.drooped = false ∨ b = true) ∧ s.railsGood = true) := by
  simp [State.resetAtEnd, and_assoc]

/-- A run that ends in a reset. -/
theorem State.endRun_reset {s : State} {r : Run} (h : (s.runClosed r).resetAtEnd r (Config.railsBack s.free) = true) (h4 : r.trigger ≠ 4) :
    ∃ x : State, x.pad = s.pad ∧ x.role = s.role ∧ x.par = s.par ∧ ResetDone x .umber 0 (s.endRun r) := by
  obtain ⟨hrole, hpar, hpad, -, -, -⟩ := s.runClosed_keeps r
  refine ⟨{ s.runClosed r with pwr := { (s.runClosed r).pwr with
      drooped := (s.runClosed r).pwr.drooped && !Config.railsBack s.free
      padsOff := (s.runClosed r).pwr.padsOff && !Config.railsBack s.free } }, hpad, hrole, hpar, ?_⟩
  rw [State.endRun_eq, if_pos h]
  exact State.leaveHold_done _ h4

/-- In OFF_HOLD only `PD_PLL_TIME` stays powered. -/
theorem State.enterHold_powered (s : State) (h : Hold) {i : Nat} (hi : i < 56) :
    (s.enterHold h).powered i = (s.powered i && decide (i = 49)) := by
  have hp := s.powered_domainsOff ((List.range 56).filter (· != 49)) hi
  by_cases h49 : i = 49 <;> simpa [State.enterHold, State.powered, hi, h49] using hp

theorem closingRunEnds_hold : closingRunEnds := by
  intro s r hr hp hl hb hf
  have e := exec_closingRunEnd hr hp hl hb hf
  obtain ⟨hrole, hpar, hpad, hgood, hdroop, h49⟩ := s.runClosed_keeps r
  refine ⟨fun hc ha h4 => ?_, fun hc ha ht hd hlow hg => ?_, fun h => ?_⟩
  · obtain ⟨x, -, hxr, -, d⟩ := State.endRun_reset (State.resetAtEnd_iff.mpr ⟨hc, .inl ⟨ha, h4⟩⟩) h4
    exact ⟨_, e, d.cause, d.run, d.hold, d.state, by rw [d.operators, hxr]⟩
  · have hgood' : (s.runClosed r).railsGood = true := by rw [hgood]; simp [State.railsGood, hlow, hg]
    obtain ⟨x, hxp, hxr, hxa, d⟩ := State.endRun_reset (State.resetAtEnd_iff.mpr ⟨hc, .inr ⟨ht, by rwa [hdroop], hgood'⟩⟩) (by omega)
    exact ⟨_, e, d.cause, d.run, d.state, fun hn => by rw [d.released, hxp, hn], fun v _ => d.views v, by rw [d.operators, hxr],
      by rw [d.persist, hxa]⟩
  · have hno : ¬ (s.runClosed r).resetAtEnd r (Config.railsBack s.free) = true := by
      rw [State.resetAtEnd_iff, hgood, hdroop, State.railsGood]
      rintro ⟨hc, ⟨ha, h4⟩ | ⟨ht, hd, hg⟩⟩
      · rcases h with h | h | ⟨h, -⟩ <;> simp_all
      · simp only [Bool.and_eq_true, Bool.not_eq_true', decide_eq_true_eq] at hg
        rcases h with h | h | ⟨-, h | ⟨hdr, hb⟩ | h | h⟩
        · simp_all
        · omega
        · omega
        · simp_all
        · simp_all
        · omega
    refine ⟨_, e, ?_⟩
    rw [State.endRun_eq, if_neg hno]
    exact ⟨rfl, rfl, rfl, rfl, fun i hi h => by simp [State.enterHold_powered _ _ hi, h],
      (State.enterHold_powered _ _ (by omega)).trans (by simp [h49]), by simp [hrole], by simp [hpar]⟩

theorem State.askReset_leaves {s : State} {h : Hold} (c : Cause) (hr : s.pwr.run = none) (hh : s.pwr.hold = some h)
    (h4 : h.trigger ≠ 4) (hc : h.cooling = false) : s.askReset c = s.leaveHold h := by
  simp [State.askReset, State.closing, hr, hh, h4, hc]

theorem offHoldEnds_hold : offHoldEnds := by
  refine ⟨fun s h hh ht hc hp hg => ?_, fun s h hh ht => ?_, fun s h hh ht ha => ?_, fun s h i hh hr hi => ?_, fun s h hh ha hw => ?_⟩
  · have e : exec .offHoldRelease s = .next ({ s with pwr := { s.pwr with drooped := false, padsOff := false } }.leaveHold h) := by
      rcases ht with ht | ht <;> simp [exec, execOffHoldRelease, hh, ht, hc, State.railsGood, hp, hg]
    have hd := State.leaveHold_done { s with pwr := { s.pwr with drooped := false, padsOff := false } } (h := h) (by omega)
    exact ⟨_, e, hd.cause, hd.hold, hd.state, hd.missing, hd.operators, hd.mem⟩
  · have e : exec .thermalRelease s = .next ({ s with pwr := { s.pwr with hot := false } }.leaveHold h) := by
      simp [exec, execThermalRelease, State.coolingAwaited, State.cooled, hh, ht]
    have hd := State.leaveHold_thermal { s with pwr := { s.pwr with hot := false } } ht
    exact ⟨_, e, hd.cause, hd.hold, hd.hot, hd.operators, hd.mem⟩
  · have h4 : h.trigger ≠ 4 := by omega
    by_cases hx : s.pwr.hot = true ∨ h.cooling = true <;>
      simp [exec, execThermalRelease, State.coolingAwaited, State.cooled, hh, h4, ha, hx]
  · have e : exec i s = .next (State.askReset (s.askedBy i) (if i = .rstNAssert then .pin else .supCmd)) := by
      rcases hi with ⟨rfl, h⟩ | ⟨rfl, h, hb, hc⟩
      · simp [exec, execRstNAssert, h, State.askedBy]
      · simp [exec, execSupReset, State.supFree_of h hb, State.confirmed, hc, State.askedBy]
    obtain ⟨b, p, g, hx, hp⟩ := s.askedBy_eq i
    rw [hx] at e
    refine ⟨fun ht hc => ?_, fun h4 => ?_⟩
    · have h4 : h.trigger ≠ 4 := by omega
      have d := State.leaveHold_done { s with pad := p, reg := g, pwr := { s.pwr with padsOff := b } } h4
      refine ⟨_, e.trans (congrArg Host.Outcome.next (State.askReset_leaves _ hr hh h4 hc)), ?_⟩
      exact ⟨d.cause, d.hold, d.state, d.operators, d.mem, fun hi => ⟨d.rstN.trans (hp hi), d.released.trans (hp hi)⟩⟩
    · refine ⟨_, e, ?_⟩
      by_cases h4 : h.trigger = 4
      · simp [State.askReset, State.closing, hr, hh, h4]
      · simp [State.askReset, State.closing, hr, hh, h4, show h.cooling = true by simp_all]
  · have e : exec .thermalRelease s = .next ({ s with pwr := { s.pwr with hot := false } }.leaveHold h) := by
      rcases hw with hw | hw <;> simp [exec, execThermalRelease, State.coolingAwaited, State.cooled, hh, ha, hw]
    by_cases h4 : h.trigger = 4
    · have hd := State.leaveHold_thermal { s with pwr := { s.pwr with hot := false } } h4
      exact ⟨_, e, hd.hold, hd.state, hd.cause.trans (if_pos h4).symm⟩
    · have hd := State.leaveHold_done { s with pwr := { s.pwr with hot := false } } h4
      exact ⟨_, e, hd.hold, hd.state, hd.cause.trans (if_neg h4).symm⟩

/-- Settles O15: the run's end by what `resetAtEnd` decides, OFF_HOLD by what each row does to its memory of the run. -/
theorem closingRunEnd : Obligations.ClosingRunEnd := ⟨closingRunEnds_hold, offHoldEnds_hold⟩

end Sys2Proof.Machine

namespace Sys2Proof.Machine

/-! ## Proofs: STANDBY, wake, and the ends of power-ups (08) -/

/-- Only the domains of the list are switched. -/
theorem State.switch_powered (s : State) (l : List Nat) (on : Nat → Bool) {i : Nat} (hi : i < 56) (h : i ∉ l) :
    (s.switch l on).powered i = s.powered i := by
  unfold State.switch
  induction l generalizing s with
  | nil => rfl
  | cons j l ih =>
    simp only [List.mem_cons, not_or] at h
    rw [List.foldl_cons, ih _ h.2]
    split
    · simp [State.powered_domainOn s hi, Ne.symm h.1]
    · simp [State.powered_domainOff s hi, Ne.symm h.1]

theorem State.switchQuads_powered (s : State) (n : Nat) {i : Nat} (hi : i < 56) (h : 40 < i) : (s.switchQuads n).powered i = s.powered i := by
  refine (State.switch_powered _ _ _ hi ?_).trans (State.switch_powered _ _ _ hi ?_)
  all_goals
    simp only [List.mem_cons, List.not_mem_nil, or_false]
    omega

theorem State.switchSegs_powered (s : State) (n : Nat) {i : Nat} (hi : i < 56) (h : 40 < i) : (s.switchSegs n).powered i = s.powered i := by
  have hs : ∀ g, g < 6 → i ∉ segDomains g := fun g hg => by
    simp only [segDomains, List.mem_cons, List.not_mem_nil, or_false]
    omega
  have hf : ∀ (l : List Nat) (x : State), (∀ g ∈ l, g < 6) →
      (l.foldl (fun x g => x.switch (segDomains g) fun _ => (n ||| s.risingSegs).testBit g) x).powered i = x.powered i := by
    intro l
    induction l with
    | nil => exact fun _ _ => rfl
    | cons g l ih =>
      intro x hl
      rw [List.foldl_cons, ih _ fun g hg => hl g (by simp [hg])]
      exact State.switch_powered _ _ _ hi (hs g (hl g (by simp)))
  refine (State.switch_powered _ _ _ hi ?_).trans (hf _ _ fun g hg => List.mem_range.mp hg)
  simp only [List.mem_cons, List.not_mem_nil, or_false]
  omega

theorem State.switchViews_powered (s : State) {i : Nat} (hi : i < 56) (h : 40 < i) : s.switchViews.powered i = s.powered i := by
  have hl : ∀ j, i = j → 40 < j := fun j h => h ▸ ‹_›
  have h1 := State.switch_powered s [34, 35] (fun _ => !s.viewsIdle || !s.datapathEmpty) hi (by simp; omega)
  have h2 := fun x : State => State.switch_powered x [36, 37, 38, 39] (fun i => !s.viewsIdle && i - 36 < s.stored 0x2003) hi (by simp; omega)
  have h3 := fun x : State => State.switch_powered x [40]
    (fun _ => !s.viewsIdle || (!s.sea.prompt.isEmpty || !s.sea.resign.isEmpty)) hi (by simp; omega)
  unfold State.switchViews
  dsimp only
  split
  · exact (h3 _).trans ((h2 _).trans h1)
  · exact (h3 _).trans ((h2 _).trans h1)

/-- Supplying views switches none of the domains after `PD_SEA_SIGN`. -/
theorem State.supply_powered (s : State) {i : Nat} (hi : i < 56) (h : 40 < i) : s.supply.powered i = s.powered i := by
  unfold State.supply
  split
  · rfl
  · rw [State.switchViews_powered _ hi h, State.switchSegs_powered _ _ hi h, State.switchQuads_powered _ _ hi h]

/-- The domains beside the lanes that are on stay on, and none that is up powers up again. -/
def Pwr.Grows (p q : Pwr) : Prop :=
  ∀ i, i < 43 ∨ 46 < i → i < 56 → p.domains.getLsbD i = true → q.domains.getLsbD i = true ∧ (i ∉ p.poweringUp → i ∉ q.poweringUp)

theorem Pwr.Grows.refl (p : Pwr) : p.Grows p := fun _ _ _ h => ⟨h, id⟩

theorem Pwr.Grows.trans {p q r : Pwr} (h : p.Grows q) (h' : q.Grows r) : p.Grows r := fun i hi hlt hp =>
  ⟨(h' i hi hlt (h i hi hlt hp).1).1, fun hu => (h' i hi hlt (h i hi hlt hp).1).2 ((h i hi hlt hp).2 hu)⟩

theorem State.domainOn_grows (s : State) (j : Nat) : s.pwr.Grows (s.domainOn j).pwr := by
  intro i hi hlt hp
  refine ⟨(State.powered_domainOn s hlt).trans (by rw [show s.powered i = true from hp]; rfl), fun hu => ?_⟩
  unfold State.domainOn
  split
  · exact hu
  · next hj =>
    simp only [List.mem_append, List.mem_singleton, not_or]
    exact ⟨hu, fun h => hj (h ▸ hp)⟩

theorem State.domainsOn_grows (s : State) (l : List Nat) : s.pwr.Grows (s.domainsOn l).pwr := by
  unfold State.domainsOn
  induction l generalizing s with
  | nil => exact Pwr.Grows.refl _
  | cons j l ih => exact (s.domainOn_grows j).trans (ih _)

theorem State.domainsOff_grows (s : State) (l : List Nat) (h : ∀ j ∈ l, 43 ≤ j ∧ j ≤ 46) : s.pwr.Grows (s.domainsOff l).pwr := by
  unfold State.domainsOff
  induction l generalizing s with
  | nil => exact Pwr.Grows.refl _
  | cons j l ih =>
    have hj := h j (by simp)
    refine Pwr.Grows.trans (fun i hi hlt hp => ?_) (ih _ fun k hk => h k (by simp [hk]))
    refine ⟨(State.powered_domainOff s hlt).trans ?_, fun hu hm => hu (List.mem_filter.mp hm).1⟩
    rw [show s.powered i = true from hp]
    simp only [Bool.true_and, Bool.not_eq_true', decide_eq_false_iff_not]
    omega

/-- IDENT leaves off the lanes outside the mask. -/
theorem State.enterIdent_grows (s : State) : s.pwr.Grows s.enterIdent.pwr := by
  have hl : ∀ j ∈ ((List.range 4).filter fun p => !((List.range 4).filter fun p => (s.stored 0x1C04).testBit p).contains p).map
      (43 + ·), 43 ≤ j ∧ j ≤ 46 := by
    intro j hj
    obtain ⟨p, hp, rfl⟩ := List.mem_map.mp hj
    have hr := List.mem_range.mp (List.mem_filter.mp hp).1
    omega
  simpa only [State.enterIdent, State.lanesOn, State.linkTo_frame] using (s.domainsOff_grows _ hl).trans (State.domainsOn_grows _ _)

theorem State.enterHop_grows (s : State) (rate : Nat) : s.pwr.Grows (s.enterHop rate).pwr := by
  simpa only [State.enterHop, State.lanesOn, State.linkTo_frame, State.frameLanes_frame] using s.domainsOn_grows _

theorem State.hopFromAcquire_grows (s : State) : s.pwr.Grows s.hopFromAcquire.pwr := by
  have h := State.enterHop_grows { s.wakeRetrain with lnk := { s.wakeRetrain.lnk with
    requested := if s.lnk.mode = 0 && s.lnk.mapInForce then s.lnk.requested else 4
    mapped := if s.lnk.mode = 0 && s.lnk.mapInForce then s.lnk.mapped else [0, 1, 2, 3] } } s.lnk.target
  simpa only [State.hopFromAcquire, State.wakeRetrain_frame] using h

theorem State.afterAcquire_grows (s : State) : s.pwr.Grows s.afterAcquire.pwr := by
  unfold State.afterAcquire
  dsimp only
  repeat' split
  · exact Pwr.Grows.refl _
  · exact Pwr.Grows.refl _
  · exact s.enterIdent_grows
  · exact s.hopFromAcquire_grows

theorem State.enterAcquire_grows (s : State) : s.pwr.Grows s.enterAcquire.pwr := by
  simpa only [State.enterAcquire, State.linkTo_frame, State.takeLinkValues_frame] using s.domainsOn_grows [48, 50, 47]

theorem State.startBringUp_grows (s : State) : s.pwr.Grows s.startBringUp.pwr := by
  unfold State.startBringUp
  split
  · exact Pwr.Grows.refl _
  · exact s.enterAcquire_grows.trans (State.afterAcquire_grows _)

theorem State.afterAcquire_time (s : State) : s.afterAcquire.clk.time = s.clk.time := by
  unfold State.afterAcquire State.hopFromAcquire State.enterHop
  dsimp only
  repeat' split
  all_goals simp

theorem State.startBringUp_time (s : State) : s.startBringUp.clk.time = s.clk.time := by
  unfold State.startBringUp
  split
  · rfl
  · rw [State.afterAcquire_time]
    simp [State.enterAcquire]

@[simp] theorem State.domainsOn_steady (s : State) (l : List Nat) : (s.domainsOn l).pwr.steady = s.pwr.steady :=
  foldl_steady (fun s i => s.domainOn_steady i) l s

@[simp] theorem State.switch_steady (s : State) (l : List Nat) (on : Nat → Bool) : (s.switch l on).pwr.steady = s.pwr.steady :=
  foldl_steady (fun s i => by split <;> simp) l s

@[simp] theorem State.supply_steady (s : State) : s.supply.pwr.steady = s.pwr.steady := by
  have hq : ∀ (x : State) n, (x.switchQuads n).pwr.steady = x.pwr.steady := fun x n => by simp [State.switchQuads]
  have hg : ∀ (x : State) n, (x.switchSegs n).pwr.steady = x.pwr.steady := fun x n => by
    have hf := foldl_steady (f := fun y g => y.switch (segDomains g) fun _ => (n ||| x.risingSegs).testBit g)
      (fun y g => y.switch_steady _ _) (List.range 6) x
    simpa only [State.switchSegs, State.switch_steady] using hf
  have hv : ∀ x : State, x.switchViews.pwr.steady = x.pwr.steady := fun x => by
    unfold State.switchViews
    dsimp only
    split <;> simp
  unfold State.supply
  split
  · rfl
  · rw [hv, hg, hq]

@[simp] theorem State.afterAcquire_steady (s : State) : s.afterAcquire.pwr.steady = s.pwr.steady := by
  unfold State.afterAcquire State.enterIdent State.hopFromAcquire State.enterHop State.lanesOn
  dsimp only
  repeat' split
  all_goals simp

@[simp] theorem State.startBringUp_steady (s : State) : s.startBringUp.pwr.steady = s.pwr.steady := by
  unfold State.startBringUp State.enterAcquire
  split <;> simp

theorem State.linkOff_time (s : State) (k : Nat) : (s.linkOff k).clk.time = s.clk.time := by
  unfold State.linkOff
  dsimp only
  split <;> simp

/-- Every domain but `PD_PLL_TIME` is off in STANDBY. -/
theorem State.enterStandby_powered (s : State) {i : Nat} (hi : i < 56) :
    s.enterStandby.powered i = (s.powered i && decide (i = 49)) := by
  have hp := ((s.dropPins.dropHkc).linkOff 8).powered_domainsOff ((List.range 56).filter (· != 49)) hi
  have h0 : s.enterStandby.powered i = (((s.dropPins.dropHkc).linkOff 8).powered i && decide (i = 49)) := by
    by_cases h49 : i = 49 <;> simpa [State.enterStandby, State.powered, hi, h49] using hp
  rw [h0]
  by_cases h49 : i = 49
  · subst h49
    obtain ⟨d, u, hd, hb⟩ := s.dropPins.dropHkc.linkOff_pwr 8
    have hl : ((s.dropPins.dropHkc).linkOff 8).powered 49 = s.dropPins.dropHkc.powered 49 := by rw [State.powered, hd, ← hb]
    have hh : s.dropPins.dropHkc.powered 49 = s.dropPins.powered 49 := by
      refine (State.powered_domainOff s.dropPins hi).trans (by simp)
    have hn : s.dropPins.powered 49 = s.powered 49 := by
      unfold State.dropPins
      split
      · rfl
      · refine (State.powered_domainOff _ hi).trans ?_
        simp [State.powered]
    rw [hl, hh, hn]
  · simp [h49]

theorem State.enterStandby_steady (s : State) : s.enterStandby.pwr.standbyEntries = s.pwr.standbyEntries + 1 := by
  obtain ⟨d, u, hd, -⟩ := s.dropPins.dropHkc.linkOff_pwr 8
  have h : ((s.dropPins.dropHkc).linkOff 8).pwr.steady = s.pwr.steady := by
    rw [hd]
    refine Eq.trans ?_ s.dropPins_steady
    exact s.dropPins.domainOff_steady 51
  have h2 := (State.domainsOff_steady ((s.dropPins.dropHkc).linkOff 8) ((List.range 56).filter (· != 49))).trans h
  exact congrArg (fun p => p.1.standbyEntries + 1) h2

theorem standbyEntry_holds {s : State} (hw : s.pwr.standbyWanted = true) (ha : s.pwr.state = .active) (hc : s.ets.captures = [])
    (hj : s.pdp.jobs = []) (hp : s.sea.prompt = []) (hr : s.sea.resign = []) (hq : s.nvs.queue = []) (hb : s.nvs.blocks = [])
    (ht : s.fus.tasks = []) (hd : s.rst.decided = none) : exec .standbyEntry s = .next s.enterStandby := by
  simp [exec, execStandbyEntry, State.standbyDue, State.workEnded, State.datapathEmpty, State.signingEnded, *]

/-- The domains a wake powers at once. -/
def State.wakeDomains (s : State) : List Nat :=
  [41, 42, 53, 55] ++ (if s.fus.debug then [54] else []) ++ if s.stored 0x1C00 = 1 then [47, 50] else []

/-- ACTIVE again, with those domains. -/
def State.wakeBase (s : State) : State :=
  { s with pwr := { s.pwr with state := .active }, lnk := { s.lnk with wakeUp := s.stored 0x1C00 = 1 } }.domainsOn s.wakeDomains

/-- A wake powers the domains of ACTIVE, and with the link enabled those of the return lane. -/
theorem State.wakeUp_powered (s : State) {i : Nat} (h : i ∈ [41, 42, 51, 52, 53, 55] ∨ s.stored 0x1C00 = 1 ∧ i ∈ [47, 50]) :
    s.wakeUp.powered i = true := by
  have hi : i < 56 ∧ 40 < i ∧ (i < 43 ∨ 46 < i) := by
    simp only [List.mem_cons, List.not_mem_nil, or_false] at h
    omega
  obtain ⟨hlt, hlo, hg⟩ := hi
  generalize hb : s.wakeBase = x
  have hx : i ≠ 51 → i ≠ 52 → x.powered i = true := fun h51 h52 => by
    have hm : i ∈ s.wakeDomains := by
      simp only [State.wakeDomains, List.mem_append]
      rcases h with h | ⟨he, h⟩
      · exact .inl (.inl (by simpa [h51, h52] using h))
      · exact .inr (by simpa [he] using h)
    rw [← hb]
    refine (State.powered_domainsOn _ _ hlt).trans ?_
    simp only [hm, decide_true, Bool.or_true]
  have hk : (i ≠ 52 → (x.powerHkc false).powered i = true) := fun h52 => by
    have hp : (x.powerHkc false).powered i = (x.domainOn 51).powered i := by simp [State.powerHkc, State.powered]
    rw [hp, State.powered_domainOn _ hlt]
    by_cases h51 : i = 51
    · simp [h51]
    · simp [hx h51 h52]
  have hn : (x.powerHkc false).powerPins.syncPulse.powered i = true := by
    have hp : (x.powerHkc false).powerPins.syncPulse.powered i = ((x.powerHkc false).domainOn 52).powered i := by
      simp [State.powerPins, State.powered]
    rw [hp, State.powered_domainOn _ hlt]
    by_cases h52 : i = 52
    · simp [h52]
    · simp [hk h52]
  subst hb
  exact (State.supply_powered _ hlt hlo).trans (State.startBringUp_grows _ i hg hlt hn).1

theorem State.wakeUp_time (s : State) : s.wakeUp.clk.time = s.clk.time := by
  simp [State.wakeUp, State.startBringUp_time]

theorem State.wakeUp_active (s : State) : s.wakeUp.pwr.state = .active := by
  have h : s.wakeUp.pwr.steady = { s.pwr with state := .active }.steady := by
    simp [State.wakeUp, State.powerPins, State.powerHkc]
  exact congrArg (fun p => p.1.state) h

theorem standby_holds : standby := by
  refine ⟨fun s hw ha hc hj hp hr hq hb ht hd => ?_, fun s pin falling h hno => ?_, fun s w h hw => ?_⟩
  · refine ⟨_, standbyEntry_holds hw ha hc hj hp hr hq hb ht hd, rfl, ?_, fun i hi h => ?_, ?_, rfl, ?_⟩
    · exact s.enterStandby_steady
    · simp [State.enterStandby_powered _ hi, h]
    · simp [State.enterStandby_powered]
    · simp [State.enterStandby, State.linkOff_time]
  · have hs : s.wakes (.wakePin pin falling) = false := by
      rcases hno with hno | hno | hno <;> simp [State.wakes, hno]
    simp [exec, execWake, hs]
  · have hs : s.wakes w = true := by
      rcases hw with rfl | ⟨rfl, hw⟩ | ⟨rfl, hw, ht⟩
      · rfl
      · simp [State.wakes, hw]
      · simp [State.wakes, State.now, hw, ht]
    refine ⟨s.wakeUp, by simp [exec, execWake, h, hs], s.wakeUp_active, fun i hi => s.wakeUp_powered (.inl hi),
      fun he => ⟨s.wakeUp_powered (.inr ⟨he, by simp⟩), s.wakeUp_powered (.inr ⟨he, by simp⟩)⟩, by simp [s.wakeUp_time]⟩

/-- What quadrants and segments need, as views, captures and readouts ask for it, is the same in both states. -/
structure SameNeeds (s t : State) : Prop where
  views : ∀ v, (s.viewAt v).gen = (t.viewAt v).gen ∧ ((s.viewAt v).state = .running ∨ (s.viewAt v).state = .starting ↔
    (t.viewAt v).state = .running ∨ (t.viewAt v).state = .starting)
  captures : t.ets.captures = s.ets.captures
  jobs : t.pdp.jobs = s.pdp.jobs
  par : t.par = s.par

theorem SameNeeds.trans {s t u : State} (h : SameNeeds s t) (h' : SameNeeds t u) : SameNeeds s u :=
  ⟨fun v => ⟨(h.views v).1.trans (h'.views v).1, (h.views v).2.trans (h'.views v).2⟩, h'.captures.trans h.captures, h'.jobs.trans h.jobs,
    h'.par.trans h.par⟩

theorem SameNeeds.live {s t : State} (h : SameNeeds s t) : t.liveViews = s.liveViews := by
  unfold State.liveViews
  exact List.filter_congr fun v _ => Bool.eq_iff_iff.mpr (by simpa using (h.views v).2.symm)

theorem SameNeeds.quads {s t : State} (h : SameNeeds s t) : t.neededQuads = s.neededQuads := by
  simp only [State.neededQuads, State.stored, h.live, h.captures, h.par, fun v => (h.views v).1.symm]

theorem SameNeeds.segs {s t : State} (h : SameNeeds s t) : t.neededSegs = s.neededSegs := by
  simp only [State.neededSegs, State.stored, h.live, h.captures, h.jobs, h.par, fun v => (h.views v).1.symm]

theorem State.rated_empty (s : State) (n : Nat) : s.rated n {} = {} := rfl

/-- A view at its read rate needs what it did. -/
theorem State.rated_needs (s : State) (n : Nat) (x : View) : (s.rated n x).gen = x.gen ∧ (s.rated n x).state = x.state := by
  unfold State.rated
  split <;> exact ⟨rfl, rfl⟩

theorem State.viewAt_map (s : State) (f : View → View) (h : f {} = {}) (v : Nat) : { s with view := s.view.map f }.viewAt v = f (s.viewAt v) := by
  simp only [State.viewAt, Vector.toList_map, List.getD_eq_getElem?_getD, List.getElem?_map]
  cases s.view.toList[v]? with
  | none => exact h.symm
  | some x => rfl

theorem State.useInterval_needs (s : State) (n : Nat) : SameNeeds s (s.useInterval n) := by
  unfold State.useInterval
  split
  · exact ⟨fun _ => ⟨rfl, Iff.rfl⟩, rfl, rfl, rfl⟩
  · refine ⟨fun v => ?_, rfl, rfl, rfl⟩
    obtain ⟨hg, hs⟩ := s.rated_needs n (s.viewAt v)
    have hv := s.viewAt_map (s.rated n) (s.rated_empty n) v
    rw [show ∀ e : Ets, ({ s with ets := e, view := s.view.map (s.rated n) } : State).viewAt v = s.rated n (s.viewAt v) from fun _ => hv,
      hg, hs]
    exact ⟨rfl, Iff.rfl⟩

theorem State.seedExposures_captures (s : State) : s.seedExposures.ets.captures = s.ets.captures := by
  unfold State.seedExposures
  repeat' split
  · rfl
  · rfl
  · refine foldl_same (fun x : State => x.ets.captures) ?_ _ s
    exact fun _ _ => rfl

theorem State.seedExposures_needs (s : State) : SameNeeds s s.seedExposures.refreshLeads :=
  ⟨fun v => by simp [State.viewAt], by simpa [State.refreshLeads] using s.seedExposures_captures, by simp, by simp⟩

/-- A start that completes takes and gives back no need: STARTING counts as live. -/
theorem State.completeView_needs {s : State} {v : Nat} (h : (s.viewAt v).state = .starting) : SameNeeds s (s.completeView v) := by
  unfold State.completeView
  refine SameNeeds.trans ?_ ((State.useInterval_needs _ _).trans (State.seedExposures_needs _))
  generalize hx : (if (s.viewAt v).reactivating then s else s.adoptTables) = x
  have hv : ∀ w, x.viewAt w = s.viewAt w := fun w => by
    rw [← hx]
    split <;> simp [State.viewAt]
  refine ⟨fun w => ?_, ?_, ?_, ?_⟩
  · by_cases hw : w = v
    · subst hw
      by_cases hlt : w < 32
      · simp [State.viewAt_onView_same _ _ hlt, hv, h]
      · simp [State.onView, State.setView, hlt, hv]
    · simp [State.viewAt_onView_other _ _ hw, hv]
  all_goals
    rw [← hx]
    simp only [State.onView_frame]
    split <;> simp [State.adoptTables, State.freshBlack]

theorem State.completeStarts_needs (s : State) : SameNeeds s s.completeStarts := by
  unfold State.completeStarts
  generalize List.range 32 = l
  induction l generalizing s with
  | nil => exact ⟨fun _ => ⟨rfl, Iff.rfl⟩, rfl, rfl, rfl⟩
  | cons v l ih =>
    refine SameNeeds.trans ?_ (ih _)
    dsimp only
    split
    · next h => exact State.completeView_needs (by simp at h; exact h.1.1)
    · exact ⟨fun _ => ⟨rfl, Iff.rfl⟩, rfl, rfl, rfl⟩

/-- What the noted end of a power-up leaves, before any start completes. -/
def State.domainNoted (s : State) (i : Nat) : State :=
  let s1 := s.upDone [i]
  let s2 := if i = 49 then { s1 with clk := { s1.clk with pllLocked := s1.clk.refclk } } else s1
  if i = 42 && s2.pwr.state = .active && !s2.ctl.ready then s2.ctlBack else s2

theorem State.domainNoted_pwr (s : State) (i : Nat) : (s.domainNoted i).pwr = { s.pwr with
    poweringUp := s.pwr.poweringUp.filter fun j => !([i].contains j) } := by
  have hu : (s.upDone [i]).pwr = { s.pwr with poweringUp := s.pwr.poweringUp.filter fun j => !([i].contains j) } := by
    simp [State.upDone]
  rw [← hu]
  unfold State.domainNoted
  generalize s.upDone [i] = x
  dsimp only
  by_cases h : i = 49
  · simp [h]
  · by_cases h42 : i = 42
    · simp only [h, if_false]
      split <;> simp
    · simp [h, h42]

theorem State.domainUp_grows (s : State) (i : Nat) :
    (s.domainUp i).pwr = (s.domainNoted i).pwr ∨ (i = 47 ∨ i = 48 ∨ i = 50) ∧ (s.domainNoted i).pwr.Grows (s.domainUp i).pwr := by
  have hd : s.domainUp i = (if i = 47 || i = 48 || i = 50 then (s.domainNoted i).afterAcquire else s.domainNoted i).completeStarts := rfl
  rw [hd]
  split
  · next h => exact .inr ⟨by simpa [or_assoc] using h, by simpa using (s.domainNoted i).afterAcquire_grows⟩
  · exact .inl (by simp)

theorem State.domainUp_done (s : State) {i : Nat} (hi : i < 56) (hp : s.powered i = true) :
    (s.domainUp i).powered i = true ∧ i ∉ (s.domainUp i).pwr.poweringUp := by
  have hn := s.domainNoted_pwr i
  have hnp : (s.domainNoted i).powered i = true := by rw [State.powered, hn]; exact hp
  have hnu : i ∉ (s.domainNoted i).pwr.poweringUp := by simp [hn]
  rcases s.domainUp_grows i with h | ⟨hl, h⟩
  · rw [State.powered, h]
    exact ⟨hnp, hnu⟩
  · obtain ⟨h1, h2⟩ := h i (by omega) hi hnp
    exact ⟨h1, h2 hnu⟩

theorem testBit_maskOf (l : List Bool) (k : Nat) : (maskOf l).testBit k = l.getD k false := by
  induction l generalizing k with
  | nil => simp [maskOf]
  | cons b l ih =>
    cases k with
    | zero => cases b <;> simp [maskOf, boolNat, Nat.testBit_zero]
    | succ k =>
      rw [List.getD_cons_succ, ← ih k, maskOf, Nat.testBit_succ]
      congr 1
      cases b
      · simp [boolNat]
      · simp [boolNat]
        omega

theorem of_getD_map_range {f : Nat → Bool} {n k : Nat} (hk : k < n) (h : ((List.range n).map f).getD k false = true) : f k = true := by
  simpa [List.getD_eq_getElem?_getD, hk] using h

/-- A quadrant that is rising is not ready. -/
theorem and_rising {n : Nat} (ready : BitVec n) (need : Nat) (l : List Bool)
    (h : ∀ k, k < n → l.getD k false = true → ready.getLsbD k = false) :
    ready &&& BitVec.ofNat n (need ||| maskOf l) = ready &&& BitVec.ofNat n need := by
  refine BitVec.eq_of_getLsbD_eq fun k hk => ?_
  simp only [BitVec.getLsbD_and, BitVec.getLsbD_ofNat, Nat.testBit_or, testBit_maskOf]
  cases hb : l.getD k false
  · simp
  · simp [h k hk hb]

theorem State.switchQuads_pix (s : State) (n : Nat) :
    (s.switchQuads n).pix = { s.pix with quadReady := s.pix.quadReady &&& BitVec.ofNat 4 n } := by
  have h : s.pix.quadReady &&& BitVec.ofNat 4 (n ||| s.risingQuads) = s.pix.quadReady &&& BitVec.ofNat 4 n :=
    and_rising _ _ _ fun k hk hr => by
      have hready := of_getD_map_range hk hr
      simp only [Bool.and_eq_true, Bool.not_eq_true'] at hready
      exact hready.2
  rw [← h]
  simp [State.switchQuads]

theorem State.switchSegs_pix (s : State) (n : Nat) :
    (s.switchSegs n).pix = { s.pix with segReady := s.pix.segReady &&& BitVec.ofNat 6 n } := by
  have h : s.pix.segReady &&& BitVec.ofNat 6 (n ||| s.risingSegs) = s.pix.segReady &&& BitVec.ofNat 6 n :=
    and_rising _ _ _ fun k hk hr => by
      have hready := of_getD_map_range hk hr
      simp only [Bool.and_eq_true, Bool.not_eq_true'] at hready
      exact hready.2
  have hf := foldl_same (fun x : State => x.pix) (f := fun y g => y.switch (segDomains g) fun _ => (n ||| s.risingSegs).testBit g)
    (fun y g => by simp) (List.range 6) s
  rw [← h]
  simp only [State.switchSegs, State.switch_frame, hf]

theorem State.supply_ready (s : State) : s.supply.pix.quadReady = s.pix.quadReady &&& keptQuads s ∧
    s.supply.pix.segReady = s.pix.segReady &&& keptSegs s ∧ s.supply.pix.quadPowerups = s.pix.quadPowerups := by
  by_cases h : s.pwr.state = .active ∧ s.closing = false
  · have hs : s.supply = ((s.switchQuads s.neededQuads).switchSegs s.neededSegs).switchViews := by
      simp [State.supply, h.1, h.2]
    rw [hs, keptQuads, keptSegs, if_pos h, if_pos h]
    simp [State.switchSegs_pix, State.switchQuads_pix]
  · have hs : s.supply = s := by
      by_cases ha : s.pwr.state = .active
      · simp [State.supply, show s.closing = true by simpa [ha] using h]
      · simp [State.supply, ha]
    have h15 : ∀ x : BitVec 4, x &&& 15 = x := by decide
    have h63 : ∀ x : BitVec 6, x &&& 63 = x := by decide
    rw [hs, keptQuads, keptSegs, if_neg h, if_neg h, h15, h63]
    exact ⟨rfl, rfl, rfl⟩

/-- The same needs in the same power state keep the same quadrants and segments. -/
theorem SameNeeds.kept {s t : State} (h : SameNeeds s t) (ha : t.pwr.state = s.pwr.state) (hc : t.closing = s.closing) :
    keptQuads t = keptQuads s ∧ keptSegs t = keptSegs s := by
  simp only [keptQuads, keptSegs, ha, hc, h.quads, h.segs, and_self]

/-- What follows a power-up's end leaves ready what is ready and needed. -/
theorem State.completed_ready {s t : State} (h : SameNeeds s t) (ha : t.pwr.state = s.pwr.state) (hc : t.closing = s.closing) :
    t.completeStarts.supply.pix.quadReady = t.pix.quadReady &&& keptQuads s ∧
    t.completeStarts.supply.pix.segReady = t.pix.segReady &&& keptSegs s ∧
    t.completeStarts.supply.pix.quadPowerups = t.pix.quadPowerups := by
  obtain ⟨hk, hg⟩ := (h.trans t.completeStarts_needs).kept (by simpa using ha) (by simpa [State.closing] using hc)
  obtain ⟨h1, h2, h3⟩ := t.completeStarts.supply_ready
  rw [h1, h2, h3, hk, hg]
  simp

/-- A quadrant flushed, or a segment up, before any start completes. -/
def State.quadFlushed (s : State) (q : Nat) : State :=
  let s0 := s.upDone [q, 4 + q % 2]
  let s1 := if q < 2 && !topRead s.pix.quadReady.toNat then s0.freshBlack else s0
  { s1 with pix := { s1.pix with
    quadReady := s1.pix.quadReady ||| BitVec.ofNat 4 (2 ^ q), quadPowerups := s1.pix.quadPowerups + 1 } }

def State.segRaised (s : State) (g : Nat) : State :=
  let s1 := s.upDone (segDomains g ++ [30, 31, 32, 33])
  { s1 with pix := { s1.pix with segReady := s1.pix.segReady ||| BitVec.ofNat 6 (2 ^ g) } }

theorem State.quadFlushed_spec (s : State) (q : Nat) : SameNeeds s (s.quadFlushed q) ∧ (s.quadFlushed q).pwr.state = s.pwr.state ∧
    (s.quadFlushed q).closing = s.closing ∧ (s.quadFlushed q).pix = { s.pix with
      quadReady := s.pix.quadReady ||| BitVec.ofNat 4 (2 ^ q), quadPowerups := s.pix.quadPowerups + 1 } := by
  unfold State.quadFlushed
  dsimp only
  split <;> exact ⟨⟨fun _ => ⟨rfl, Iff.rfl⟩, rfl, rfl, rfl⟩, rfl, rfl, rfl⟩

theorem State.segRaised_spec (s : State) (g : Nat) : SameNeeds s (s.segRaised g) ∧ (s.segRaised g).pwr.state = s.pwr.state ∧
    (s.segRaised g).closing = s.closing ∧ (s.segRaised g).pix = { s.pix with segReady := s.pix.segReady ||| BitVec.ofNat 6 (2 ^ g) } :=
  ⟨⟨fun _ => ⟨rfl, Iff.rfl⟩, rfl, rfl, rfl⟩, rfl, rfl, rfl⟩

theorem powerUps_hold : powerUps := by
  refine ⟨fun s i hi hp hu => ?_, fun s q hq hp hr => ?_, fun s g hg h0 h1 h2 h3 hr => ?_⟩
  · obtain ⟨hon, hup⟩ := s.domainUp_done hi hp
    exact ⟨s.domainUp i, by simp [exec, execDomainPowerUpDone, hp, hu], hup, hon, by simp⟩
  · obtain ⟨hn, ha, hc, hx⟩ := s.quadFlushed_spec q
    obtain ⟨hready, hseg, hups⟩ := State.completed_ready hn ha hc
    rw [hx] at hready hseg hups
    have hd : (s.quadFlushed q).completeStarts.supply = s.flushDone q := rfl
    rw [hd] at hready hseg hups
    refine ⟨s.flushDone q, ?_, hready, hups, hseg, by simp⟩
    simp only [exec, execQuadrantFlushDone, hq, hp, hr, decide_true, Bool.not_false, Bool.and_self, if_true]
  · obtain ⟨hn, ha, hc, hx⟩ := s.segRaised_spec g
    obtain ⟨hready, hseg, -⟩ := State.completed_ready hn ha hc
    rw [hx] at hready hseg
    have hd : (s.segRaised g).completeStarts.supply = s.segmentUp g := rfl
    rw [hd] at hready hseg
    have hall : (segDomains g).all s.powered = true := by simp [segDomains, h0, h1, h2, h3]
    refine ⟨s.segmentUp g, ?_, hseg, hready, by simp⟩
    simp only [exec, execSegmentPowerUpDone, hg, hall, hr, decide_true, Bool.not_false, Bool.and_self, if_true]

/-- Settles O16: what is switched is found domain by domain, and ends of power-ups leave the needs of `SameNeeds` as they are. -/
theorem standbyAndPowerUps : Obligations.StandbyAndPowerUps := ⟨standby_holds, powerUps_hold⟩

end Sys2Proof.Machine

namespace Sys2Proof.Machine

/-! ## Proofs: the pace governor (01) -/

/-- Only `PD_PACE` is powered: no pipeline is, so no ring runs. -/
def unpoweredRings : State := { pwr := { domains := 0x80000000000000 } }

/-- Refutes O18: the clause on a stalled ring does not ask for its pipeline's power. With `PD_PACE` alone powered, no row of a ring
takes effect (R193), and monitor 0 does not trip. -/
theorem not_paceGovernor : ¬ Obligations.PaceGovernor := by
  rintro ⟨-, h⟩
  obtain ⟨t, ht, -, -, htrip, -⟩ := h unpoweredRings 0 (by decide) (by decide) rfl
  have e : exec (.replicaRingStall 0) unpoweredRings = .next unpoweredRings := by
    simp [exec, execReplicaRingStall, show ((monitorDomains 0).any unpoweredRings.powered) = false by decide]
  have hs : t = unpoweredRings := by
    rw [e] at ht
    exact (Host.Outcome.next.inj ht).symm
  subst hs
  exact absurd htrip (by decide)

end Sys2Proof.Machine

namespace Sys2Proof.Machine

/-! ## Proofs: scheduled starts and triggers (03) -/

/-- A view without its segments. -/
def View.plain (x : View) : View := { x with segments := [] }

/-- A view changed in a way that depends on it alone: every view keeps what the change keeps. -/
theorem State.onView_plain {s : State} {v : Nat} {f : View → View} (h : ∀ x, (f x).plain = x.plain) (w : Nat) :
    ((s.onView v f).viewAt w).plain = (s.viewAt w).plain := by
  by_cases hw : w = v
  · subst hw
    by_cases hlt : w < 32
    · rw [State.viewAt_onView_same _ _ hlt, h]
    · simp [State.onView, State.setView, hlt]
  · rw [State.viewAt_onView_other _ _ hw]

theorem State.viewAt_of_view {s t : State} (h : t.view = s.view) (w : Nat) : t.viewAt w = s.viewAt w := by
  rw [State.viewAt, State.viewAt, h]

theorem State.joinValue_plain (s : State) (v : Nat) (x : SegValue) (w : Nat) : ((s.joinValue v x).viewAt w).plain = (s.viewAt w).plain := by
  unfold State.joinValue
  dsimp only
  split
  · rfl
  · split
    · refine State.onView_plain ?_ w
      exact fun _ => rfl
    · refine (State.onView_plain ?_ w).trans ?_
      · exact fun _ => rfl
      · rw [State.viewAt_of_view (s := s) (t := s.takeSegment.2) (by simp)]

theorem State.joinValue_other (s : State) {v w : Nat} (x : SegValue) (h : w ≠ v) : (s.joinValue v x).viewAt w = s.viewAt w := by
  unfold State.joinValue
  dsimp only
  split
  · rfl
  · split
    · exact State.viewAt_onView_other _ _ h
    · rw [State.viewAt_onView_other _ _ h, State.viewAt_of_view (s := s) (t := s.takeSegment.2) (by simp)]

theorem State.settle_view (s : State) (v : Nat) : ∃ l, (s.settle v).view = (s.setView v { s.viewAt v with segments := l }).view := by
  refine ⟨_, foldl_same (fun x : State => x.view) ?_ _ _⟩
  exact fun x g => by simp

theorem State.settle_plain (s : State) (v w : Nat) : ((s.settle v).viewAt w).plain = (s.viewAt w).plain := by
  obtain ⟨l, hl⟩ := s.settle_view v
  rw [State.viewAt_of_view hl]
  exact State.onView_plain (s := s) (f := fun x => { x with segments := l }) (fun _ => rfl) w

theorem State.settle_other (s : State) {v w : Nat} (h : w ≠ v) : (s.settle v).viewAt w = s.viewAt w := by
  obtain ⟨l, hl⟩ := s.settle_view v
  rw [State.viewAt_of_view hl, State.viewAt_setView_other _ _ h]

/-- A view with a value's RECONFIG values counted. -/
def View.caughtUp (x : View) : View :=
  { x with
    reconfig := [], gaps := x.gaps + BitVec.ofNat 32 x.reconfig.length, renewed := false
    held := (x.reconfig.getLast?.map SegValue.capture).orElse fun _ => x.held }

theorem State.takeValue_plain (s : State) {v : Nat} (x : SegValue) (h : v < 32) :
    ((s.takeValue v x).viewAt v).plain = ((s.viewAt v).caughtUp).plain := by
  have hf : ∀ (l : List SegValue) (t : State), ((l.foldl (fun s r => s.joinValue v r) t).viewAt v).plain = (t.viewAt v).plain := fun l t =>
    foldl_same (fun t : State => (t.viewAt v).plain) (fun t r => t.joinValue_plain v r v) l t
  refine (State.joinValue_plain _ v x v).trans ((hf _ _).trans ?_)
  rw [State.viewAt_onView_same _ _ h]
  rfl

theorem State.takeValue_other (s : State) {v w : Nat} (x : SegValue) (h : w ≠ v) : (s.takeValue v x).viewAt w = s.viewAt w := by
  have hf : ∀ (l : List SegValue) (t : State), (l.foldl (fun s r => s.joinValue v r) t).viewAt w = t.viewAt w := fun l t =>
    foldl_same (fun t : State => t.viewAt w) (fun t r => t.joinValue_other r h) l t
  exact (State.joinValue_other _ x h).trans ((hf _ _).trans (State.viewAt_onView_other _ _ h))

theorem State.recordGap_same (s : State) {v : Nat} (c time : Word64) (cause : GapCause) (h : v < 32) :
    ((s.recordGap v c time cause).viewAt v).gaps = (s.viewAt v).gaps + BitVec.ofNat 32 (s.viewAt v).reconfig.length + 1 ∧
    ((s.recordGap v c time cause).viewAt v).held = some c := by
  have ht := s.takeValue_plain ⟨c, some time, .gap cause⟩ h
  have hs := State.settle_plain ((s.takeValue v ⟨c, some time, .gap cause⟩).onView v fun w =>
    { w with gaps := w.gaps + 1, held := some c }) v v
  rw [State.viewAt_onView_same _ _ h] at hs
  have hg := congrArg View.gaps hs
  have hh := congrArg View.held hs
  have hg2 := congrArg View.gaps ht
  exact ⟨hg.trans (congrArg (· + 1) hg2), hh⟩

theorem State.recordGap_other (s : State) {v w : Nat} (c time : Word64) (cause : GapCause) (h : w ≠ v) :
    (s.recordGap v c time cause).viewAt w = s.viewAt w :=
  (State.settle_other _ h).trans ((State.viewAt_onView_other _ _ h).trans (State.takeValue_other _ _ h))

/-- A fold over views of a step that changes only its own view. -/
theorem foldl_viewAt_other {f : State → Nat → State} (h : ∀ s v w, w ≠ v → (f s v).viewAt w = s.viewAt w) (l : List Nat) (s : State)
    {w : Nat} (hw : w ∉ l) : (l.foldl f s).viewAt w = s.viewAt w := by
  induction l generalizing s with
  | nil => rfl
  | cons v l ih =>
    simp only [List.mem_cons, not_or] at hw
    rw [List.foldl_cons, ih _ hw.2, h _ _ _ hw.1]

/-- Each view of the fold is changed once, from what it was. -/
theorem foldl_viewAt_same {f : State → Nat → State} (h : ∀ s v w, w ≠ v → (f s v).viewAt w = s.viewAt w) {P : View → View → Prop}
    (hp : ∀ s v, v < 32 → P (s.viewAt v) ((f s v).viewAt v)) (l : List Nat) (hl : ∀ v ∈ l, v < 32) (hn : l.Nodup) (s : State)
    {v : Nat} (hv : v ∈ l) : P (s.viewAt v) ((l.foldl f s).viewAt v) := by
  induction l generalizing s with
  | nil => cases hv
  | cons w l ih =>
    rw [List.foldl_cons]
    rw [List.nodup_cons] at hn
    by_cases hw : v = w
    · subst hw
      rw [foldl_viewAt_other h l _ hn.1]
      exact hp _ _ (hl _ (by simp))
    · have hm : v ∈ l := by simpa [hw] using hv
      have hi := ih (fun x hx => hl x (by simp [hx])) hn.2 (f s w) hm
      rwa [h s w v hw] at hi

theorem State.takers_lt {s : State} {c : Word64} {v : Nat} (h : v ∈ s.takers c) : v < 32 :=
  List.mem_range.mp (List.mem_filter.mp h).1

theorem State.takers_nodup (s : State) (c : Word64) : (s.takers c).Nodup := List.Pairwise.filter _ List.nodup_range

theorem State.takers_congr {s t : State} (h : ∀ v, t.viewAt v = s.viewAt v) (c : Word64) :
    t.takers c = s.takers c ∧ t.reconfigurers c = s.reconfigurers c := by
  simp [State.takers, State.reconfigurers, h]

/-- A taker runs, so it is not being reconfigured. -/
theorem State.not_mem_reconfigurers {s : State} {c : Word64} {v : Nat} (h : v ∈ s.takers c) : v ∉ s.reconfigurers c := by
  intro hr
  have ht := (List.mem_filter.mp h).2
  have hs := (List.mem_filter.mp hr).2
  simp only [View.takes, Bool.and_eq_true, decide_eq_true_eq] at ht hs
  rw [ht.1.1] at hs
  exact absurd hs.1.1 (by decide)

theorem State.noteValue_other (s : State) (c : Word64) (time : Option Word64) {v : Nat} (h : v ∉ s.reconfigurers c) :
    (s.noteValue c time).viewAt v = s.viewAt v :=
  foldl_viewAt_other (fun _ _ _ hw => State.viewAt_onView_other _ _ hw) (s.reconfigurers c) s h

/-- The state in which a withheld value has been recorded by the views that take it. -/
def State.gapsRecorded (s : State) (time : Word64) (cause : GapCause) : State :=
  ((s.consume.2).takers s.ets.counter).foldl (fun t v => t.recordGap v s.ets.counter time cause)
    (s.consume.2.noteValue s.ets.counter (some time))

theorem State.gapsRecorded_ets (s : State) (time : Word64) (cause : GapCause) :
    (s.gapsRecorded time cause).ets = (s.consume.2.noteValue s.ets.counter (some time)).ets :=
  foldl_same (fun t : State => t.ets) (fun t v => by simp) _ _

theorem State.consume_viewAt (s : State) (v : Nat) : s.consume.2.viewAt v = s.viewAt v := State.viewAt_of_view (by simp) v

/-- A view that the value passes by is as before. -/
theorem State.gapsRecorded_other {s : State} (time : Word64) (cause : GapCause) {v : Nat} (h : v ∉ s.takers s.ets.counter)
    (hr : v ∉ s.reconfigurers s.ets.counter) : (s.gapsRecorded time cause).viewAt v = s.viewAt v := by
  obtain ⟨ht, hc⟩ := State.takers_congr s.consume_viewAt s.ets.counter
  rw [State.gapsRecorded, foldl_viewAt_other (fun t u w hw => t.recordGap_other _ time cause hw) _ _ (ht ▸ h),
    State.noteValue_other _ _ _ (hc ▸ hr), s.consume_viewAt]

theorem State.gapsRecorded_taker {s : State} (time : Word64) (cause : GapCause) {v : Nat} (h : v ∈ s.takers s.ets.counter) :
    ((s.gapsRecorded time cause).viewAt v).gaps = (s.viewAt v).gaps + BitVec.ofNat 32 (s.viewAt v).reconfig.length + 1 ∧
      ((s.gapsRecorded time cause).viewAt v).held = some s.ets.counter := by
  obtain ⟨ht, hc⟩ := State.takers_congr s.consume_viewAt s.ets.counter
  have hsame := foldl_viewAt_same
    (P := fun x y => y.gaps = x.gaps + BitVec.ofNat 32 x.reconfig.length + 1 ∧ y.held = some s.ets.counter)
    (fun t u w hw => t.recordGap_other s.ets.counter time cause hw) (fun t u hu => t.recordGap_same s.ets.counter time cause hu)
    _ (fun u hu => State.takers_lt hu) (s.consume.2.takers_nodup s.ets.counter)
    (s.consume.2.noteValue s.ets.counter (some time)) (ht.symm ▸ h)
  rwa [State.noteValue_other _ _ _ (hc ▸ State.not_mem_reconfigurers h), s.consume_viewAt] at hsame

/-- A withheld value, whatever else is noted beside it. -/
theorem State.gapsRecorded_withheld {s t : State} {time : Word64} {cause : GapCause} (hv : t.view = (s.gapsRecorded time cause).view)
    (hc : t.ets.counter = s.ets.counter + 1) (hd : t.ets.consumed = some s.ets.counter) (hl : t.ets.captures = s.ets.captures)
    (hn : t.ets.committed = s.ets.committed) : withheldFrom s t s.ets.counter := by
  refine ⟨hc, hd, hl, hn, fun v h => ?_, fun v h hr => ?_⟩
  · rw [State.viewAt_of_view hv]
    exact State.gapsRecorded_taker time cause h
  · rw [State.viewAt_of_view hv]
    exact State.gapsRecorded_other time cause h hr

/-- Only the history of values is noted in ETS, beside the counter. -/
theorem State.gapsRecorded_counts (s : State) (time : Word64) (cause : GapCause) :
    (s.gapsRecorded time cause).ets.counter = s.ets.counter + 1 ∧ (s.gapsRecorded time cause).ets.consumed = some s.ets.counter ∧
      (s.gapsRecorded time cause).ets.captures = s.ets.captures ∧ (s.gapsRecorded time cause).ets.committed = s.ets.committed ∧
      (s.gapsRecorded time cause).ets.withheld = s.ets.withheld ∧ (s.gapsRecorded time cause).ets.lastGrid = s.ets.lastGrid ∧
      (s.gapsRecorded time cause).ets.accepted = s.ets.accepted ∧ (s.gapsRecorded time cause).ets.trigLast = s.ets.trigLast := by
  simp [State.gapsRecorded_ets, State.noteValue, State.consume]

theorem State.gapsRecorded_links (s : State) (time : Word64) (cause : GapCause) :
    (s.gapsRecorded time cause).ev = s.ev ∧ (s.gapsRecorded time cause).lnk = s.lnk := by
  simp [State.gapsRecorded]

theorem State.withholdPace_eq (s : State) (time : Word64) (m r : Nat) : s.withholdPace time m r =
    { s.gapsRecorded time .pace with ets := { (s.gapsRecorded time .pace).ets with
        withheld := (s.gapsRecorded time .pace).ets.withheld + 1 } }.raisePaceSkip s.ets.counter time
      (s.consume.2.takers s.ets.counter) m r := rfl

theorem State.withholdLink_eq (s : State) (time : Word64) : s.withholdLink time =
    { s.gapsRecorded time .link with lnk := { (s.gapsRecorded time .link).lnk with
        gaps := (s.gapsRecorded time .link).lnk.gaps + 1, gapCount := (s.gapsRecorded time .link).lnk.gapCount + 1
        lastGap := s.ets.counter
        firstGap := if (s.gapsRecorded time .link).lnk.gapCount = 0 then s.ets.counter else (s.gapsRecorded time .link).lnk.firstGap } } := rfl

theorem State.raisePaceSkip_seq (s : State) (c time : Word64) (l : List Nat) (m r : Nat) :
    (s.raisePaceSkip c time l m r).ev.seq = s.ev.seq + 1 := s.raise_ev_seq _ _ _

/-- A value withheld for the pace, with its event. -/
theorem State.withholdPace_spec (s : State) (time : Word64) (m r : Nat) :
    withheldFrom s (s.withholdPace time m r) s.ets.counter ∧ (s.withholdPace time m r).ets.withheld = s.ets.withheld + 1 ∧
      (s.withholdPace time m r).ev.seq = s.ev.seq + 1 ∧ (s.withholdPace time m r).ets.lastGrid = s.ets.lastGrid ∧
      (s.withholdPace time m r).ets.accepted = s.ets.accepted ∧ (s.withholdPace time m r).ets.trigLast = s.ets.trigLast := by
  obtain ⟨hc, hd, hl, hn, hw, hg, ha, ht⟩ := s.gapsRecorded_counts time .pace
  obtain ⟨hev, -⟩ := s.gapsRecorded_links time .pace
  rw [State.withholdPace_eq]
  refine ⟨State.gapsRecorded_withheld (time := time) (cause := .pace) ?_ ?_ ?_ ?_ ?_, ?_, ?_, ?_, ?_, ?_⟩
  case refine_7 => rw [State.raisePaceSkip_seq, hev]
  all_goals simp only [State.raisePaceSkip_frame, hc, hd, hl, hn, hw, hg, ha, ht]

/-- A value withheld for the link. -/
theorem State.withholdLink_spec (s : State) (time : Word64) :
    withheldFrom s (s.withholdLink time) s.ets.counter ∧ (s.withholdLink time).lnk.gaps = s.lnk.gaps + 1 ∧
      (s.withholdLink time).ev = s.ev ∧ (s.withholdLink time).ets.lastGrid = s.ets.lastGrid ∧
      (s.withholdLink time).ets.accepted = s.ets.accepted ∧ (s.withholdLink time).ets.trigLast = s.ets.trigLast := by
  obtain ⟨hc, hd, hl, hn, hw, hg, ha, ht⟩ := s.gapsRecorded_counts time .link
  obtain ⟨hev, hlnk⟩ := s.gapsRecorded_links time .link
  rw [State.withholdLink_eq]
  exact ⟨State.gapsRecorded_withheld (time := time) (cause := .link) rfl hc hd hl hn, congrArg (fun l : Lnk => l.gaps + 1) hlnk, hev, hg,
    ha, ht⟩

/-- The capture a commit makes. -/
def State.newCapture (s : State) (t0 : Nat) (us : List ProfileUse) (quads : Nat) (detect : Option Word64) : Capture :=
  { counter := s.ets.counter, index := s.ets.committed, kind := s.stored 0x1007, align := s.stored 0x1008
    triggered := detect.isSome, chargeBin := s.stored 0x1003 = 1, t0Tick := t0, smax := maxSpan us
    interval := s.interval quads, quads := quads, segs := s.pix.segReady.toNat, profiles := us, tilemap := s.tab.tilemap
    views := (s.progress [52, 53]).consume.2.takers s.ets.counter, detect := detect.getD 0xFFFFFFFFFFFFFFFF }

/-- The state in which the views that take a value await it. -/
def State.valueAwaited (s : State) : State :=
  ((s.progress [52, 53]).consume.2.takers s.ets.counter).foldl
    (fun t v => (t.takeValue v ⟨s.ets.counter, none, .awaited⟩).settle v)
    ((s.progress [52, 53]).consume.2.noteValue s.ets.counter none)

theorem State.commitCapture_spec (s : State) (t0 : Nat) (us : List ProfileUse) (quads : Nat) (detect : Option Word64) :
    committedFrom s (s.commitCapture t0 us quads detect) s.ets.counter t0 quads ∧
      (s.commitCapture t0 us quads detect).ev = s.ev ∧
      (s.commitCapture t0 us quads detect).ets.lastGrid = s.ets.lastGrid ∧
      (s.commitCapture t0 us quads detect).ets.accepted = s.ets.accepted ∧
      (s.commitCapture t0 us quads detect).ets.trigLast = s.ets.trigLast := by
  have hx : ∀ v, (s.progress [52, 53]).consume.2.viewAt v = s.viewAt v := fun v => State.viewAt_of_view (by simp) v
  obtain ⟨ht, hr⟩ := State.takers_congr hx s.ets.counter
  have he : s.valueAwaited.ets = ((s.progress [52, 53]).consume.2.noteValue s.ets.counter none).ets :=
    foldl_same (fun t : State => t.ets) (fun t v => by simp) _ _
  have hcount : s.valueAwaited.ets.counter = s.ets.counter + 1 ∧ s.valueAwaited.ets.consumed = some s.ets.counter ∧
      s.valueAwaited.ets.captures = s.ets.captures ∧ s.valueAwaited.ets.committed = s.ets.committed ∧
      s.valueAwaited.ets.lastGrid = s.ets.lastGrid ∧ s.valueAwaited.ets.accepted = s.ets.accepted ∧
      s.valueAwaited.ets.trigLast = s.ets.trigLast := by
    simp [he, State.noteValue, State.consume]
  obtain ⟨hc, hd, hl, hn, hg, ha, hq⟩ := hcount
  have hev : s.valueAwaited.ev = s.ev := by simp [State.valueAwaited]
  refine ⟨⟨hc, hd, congrArg (· + 1) hn, s.newCapture t0 us quads detect, congrArg (· ++ [s.newCapture t0 us quads detect]) hl, rfl, rfl, rfl,
    rfl, ht, rfl, rfl, rfl, fun v hv hm => ?_⟩, hev, hg, ha, hq⟩
  refine (State.viewAt_of_view (s := s.valueAwaited) rfl v).trans ?_
  rw [State.valueAwaited, foldl_viewAt_other (fun t u w hw => (State.settle_other _ hw).trans (State.takeValue_other _ _ hw)) _ _ (ht ▸ hv),
    State.noteValue_other _ _ _ (hr ▸ hm), hx]

/-- Both statements speak of the views, the captures and the commit count alone. -/
theorem withheldFrom.of_same {s u t : State} {c : Word64} (h : withheldFrom u t c) (hv : u.view = s.view)
    (hl : u.ets.captures = s.ets.captures) (hn : u.ets.committed = s.ets.committed) : withheldFrom s t c := by
  obtain ⟨h1, h2, h3, h4, h5, h6⟩ := h
  obtain ⟨ht, hr⟩ := State.takers_congr (State.viewAt_of_view hv) c
  simp only [ht, hr, State.viewAt_of_view hv, hl, hn] at *
  exact ⟨h1, h2, h3, h4, h5, h6⟩

theorem committedFrom.of_same {s u t : State} {c : Word64} {t0 quads : Nat} (h : committedFrom u t c t0 quads) (hv : u.view = s.view)
    (hl : u.ets.captures = s.ets.captures) (hn : u.ets.committed = s.ets.committed) : committedFrom s t c t0 quads := by
  obtain ⟨h1, h2, h3, x, hx⟩ := h
  obtain ⟨ht, hr⟩ := State.takers_congr (State.viewAt_of_view hv) c
  simp only [ht, hr, State.viewAt_of_view hv, hl, hn] at h3 hx
  exact ⟨h1, h2, h3, x, hx⟩

/-- Automatic exposures that take effect change parameters and their own list. -/
theorem State.applyAe_ets (s : State) : s.applyAe.ets = { s.ets with aeNext := s.ets.aeNext.filter fun a => s.ets.committed < a.index } := by
  have h := foldl_same (fun t : State => t.ets) (f := fun t (a : AeNext) => t.setPar (profileId a.profile 0) (t.aeClamp a.profile a.exposure))
    (fun t a => rfl) (s.ets.aeNext.filter fun a => a.index ≤ s.ets.committed) s
  unfold State.applyAe
  dsimp only
  rw [h]

/-- A grid instant whose commit instant is now, and that R64 allows. -/
theorem State.scheduleDue_eq {s : State} {smax : Nat} (hs : smax = maxSpan (s.applyAe.uses s.pix.quadReady.toNat))
    (hp : s.powered 55 = true) (hr : s.pwr.run = none) (hv : s.runningViews ≠ []) (hm : s.stored 0x1006 = 0)
    (hg : ((s.clk.time.toNat : Int) + 1000 + 8 * smax - s.applyAe.stored 0x100A) % (8 * s.applyAe.stored 0x1009 : Nat) = 0)
    (hl : ∀ g, s.ets.lastGrid = some g → g < s.clk.ticks + 125 + smax)
    (hc : ∀ c, s.ets.last = some c → c.close + 3 ≤ s.clk.ticks + 125 + smax - smax) :
    s.scheduleDue = some (s.clk.ticks + 125 + smax) := by
  have hclose : s.applyAe.gridClose = some (s.clk.ticks + 125 + smax) := by
    simp only [State.gridClose, State.now, State.applyAe_frame, ← hs, hg, if_true]
  have hfree : s.applyAe.gridFree (s.clk.ticks + 125 + smax) = true := by
    simp only [State.gridFree, State.startsAfter, State.applyAe_ets, State.applyAe_frame, ← hs]
    cases hlast : s.ets.last with
    | none => rfl
    | some c => simpa using hc c hlast
  have hlg : (s.ets.lastGrid.all fun g => decide (g < s.clk.ticks + 125 + smax)) = true := by
    cases hgrid : s.ets.lastGrid with
    | none => rfl
    | some g => simpa using hl g hgrid
  simp [State.scheduleDue, State.capturing, State.closing, hp, hr, hv, hm, hclose, hfree, hlg]

/-- With nothing committed yet and nothing read out, every node is free. -/
theorem State.nodesFree_of_empty {s : State} (hl : s.ets.last = none) (hc : s.ets.captures = []) (q k t0 : Nat) (us : List ProfileUse) :
    s.nodesFree q k t0 us = true := by
  simp only [State.nodesFree, State.holders, hl, hc, List.map_nil, Option.toList_none, List.append_nil, List.all_nil]
  rw [List.all_eq_true]
  intro t _
  split <;> rfl

/-- The state of a scheduled start, its grid instant used. -/
def State.gridUsed (s : State) (tx : Nat) : State := { s with ets := { s.ets with lastGrid := some tx } }

theorem State.gridUsed_same (s : State) (tx : Nat) : (s.applyAe.gridUsed tx).view = s.view ∧
    (s.applyAe.gridUsed tx).ets.captures = s.ets.captures ∧ (s.applyAe.gridUsed tx).ets.committed = s.ets.committed ∧
    (s.applyAe.gridUsed tx).ets.counter = s.ets.counter ∧ (s.applyAe.gridUsed tx).ets.withheld = s.ets.withheld ∧
    (s.applyAe.gridUsed tx).lnk = s.lnk ∧ (s.applyAe.gridUsed tx).ev = s.ev := by
  simp [State.gridUsed, State.applyAe_ets]

theorem State.gridUsed_withholdPace (s : State) (tx : Nat) (time : Word64) (m r : Nat) :
    withheldFrom s ((s.applyAe.gridUsed tx).withholdPace time m r) s.ets.counter ∧
      ((s.applyAe.gridUsed tx).withholdPace time m r).ets.withheld = s.ets.withheld + 1 ∧
      ((s.applyAe.gridUsed tx).withholdPace time m r).ev.seq = s.ev.seq + 1 := by
  obtain ⟨hv, hl, hn, hc, hw, -, hev⟩ := s.gridUsed_same tx
  obtain ⟨h1, h2, h3, -⟩ := (s.applyAe.gridUsed tx).withholdPace_spec time m r
  rw [hc] at h1
  exact ⟨withheldFrom.of_same h1 hv hl hn, by rw [h2, hw], by rw [h3, hev]⟩

/-- What a scheduled start does is one of four. -/
theorem State.scheduled_eq {u : State} {smax : Nat} (tx : Nat) (hs : smax = maxSpan (u.uses u.pix.quadReady.toNat)) : u.scheduled tx =
    if u.pace.withhold then (u.gridUsed tx).withholdPace (u.now + 1000) u.pace.monitor 0
    else if !u.linkAdmits then (u.gridUsed tx).withholdLink (u.now + 1000)
    else if !u.nodesFree u.pix.quadReady.toNat (u.stored 0x1007) (tx - smax) (u.uses u.pix.quadReady.toNat) then
      (u.gridUsed tx).withholdPace (u.now + 1000) u.slowestBank 1
    else (u.gridUsed tx).commitCapture (tx - smax) (u.uses u.pix.quadReady.toNat) u.pix.quadReady.toNat none := by
  subst hs
  rfl

theorem State.scheduled_lastGrid (u : State) (tx : Nat) : (u.scheduled tx).ets.lastGrid = some tx := by
  rw [State.scheduled_eq tx rfl]
  have hp := fun time m r => ((u.gridUsed tx).withholdPace_spec time m r).2.2.2.1
  have hk := fun time => ((u.gridUsed tx).withholdLink_spec time).2.2.2.1
  have hc := fun t0 us quads d => ((u.gridUsed tx).commitCapture_spec t0 us quads d).2.2.1
  split
  · exact hp _ _ _
  · split
    · exact hk _
    · split
      · exact hp _ _ _
      · exact hc _ _ _ _

theorem scheduledStart_holds : scheduledStart := by
  intro s u smax tx hu hs ht hp hr hv hm hg hl hc
  subst hu
  subst ht
  have hd := State.scheduleDue_eq hs hp hr hv hm hg hl hc
  have e : exec .scheduledStart s = .next (s.applyAe.scheduled (s.clk.ticks + 125 + smax)) := by
    simp [exec, execScheduledStart, hd]
  obtain ⟨hview, hcap, hcom, hcnt, -, hlnk, hev⟩ := s.gridUsed_same (s.clk.ticks + 125 + smax)
  have hx := State.scheduled_eq (u := s.applyAe) (smax := smax) (s.clk.ticks + 125 + smax) (by simpa using hs)
  simp only [State.applyAe_frame] at hx
  refine ⟨_, e, by simp [captureFrame], State.scheduled_lastGrid _ _, fun hw => ?_, fun hw hk => ?_, fun hw hk hf => ?_, fun hw hk hf => ?_⟩
  · rw [hx, if_pos hw]
    exact s.gridUsed_withholdPace _ _ _ _
  · rw [hx, if_neg (by simp [hw]), if_pos (by simp [hk])]
    obtain ⟨h1, h2, h3, -⟩ := (s.applyAe.gridUsed (s.clk.ticks + 125 + smax)).withholdLink_spec (s.applyAe.now + 1000)
    rw [hcnt] at h1
    exact ⟨withheldFrom.of_same h1 hview hcap hcom, by rw [h2, hlnk], by rw [h3, hev]⟩
  · rw [hx, if_neg (by simp [hw]), if_neg (by simp [hk]), if_pos (by rw [hf]; rfl)]
    exact s.gridUsed_withholdPace _ _ _ _
  · have hfree : s.applyAe.nodesFree s.pix.quadReady.toNat (s.applyAe.stored 0x1007) (s.clk.ticks + 125 + smax - smax)
        (s.applyAe.uses s.pix.quadReady.toNat) = true := by
      rcases hf with hf | ⟨hf, he⟩
      · exact hf
      · exact State.nodesFree_of_empty (by simp [State.applyAe_ets, hf]) (by simp [State.applyAe_ets, he]) _ _ _ _
    rw [hx, if_neg (by simp [hw]), if_neg (by simp [hk]), if_neg (by rw [hfree]; decide)]
    obtain ⟨h1, h2, -⟩ := (s.applyAe.gridUsed (s.clk.ticks + 125 + smax)).commitCapture_spec (s.clk.ticks + 125 + smax - smax)
      (s.applyAe.uses s.pix.quadReady.toNat) s.pix.quadReady.toNat none
    rw [hcnt] at h1
    exact ⟨committedFrom.of_same h1 hview hcap hcom, by rw [h2, hev]⟩

/-- The state with another state of the pins and another detection time. -/
def State.seenAt (s : State) (p : Pin) (d : Word64) : State := { s with pin := p, ets := { s.ets with trigLast := d } }

theorem State.seenAt_aeFits (s : State) (p : Pin) (d : Word64) (k e : Nat) : (s.seenAt p d).aeFits k e = s.aeFits k e := rfl

theorem State.seenAt_aeClamp (s : State) (p : Pin) (d : Word64) (k e : Nat) : (s.seenAt p d).aeClamp k e = s.aeClamp k e := by
  have h : ∀ n, (s.seenAt p d).aeLargest k n = s.aeLargest k n := by
    intro n
    induction n with
    | zero => rfl
    | succ n ih => rw [State.aeLargest, State.aeLargest, ih, State.seenAt_aeFits]
  rw [State.aeClamp, h]
  rfl

/-- Automatic exposures look at neither. -/
theorem State.seenAt_applyAe (s : State) (p : Pin) (d : Word64) : (s.seenAt p d).applyAe = s.applyAe.seenAt p d := by
  have h : ∀ (l : List AeNext) (x : State),
      l.foldl (fun s a => s.setPar (profileId a.profile 0) (s.aeClamp a.profile a.exposure)) (x.seenAt p d) =
        (l.foldl (fun s a => s.setPar (profileId a.profile 0) (s.aeClamp a.profile a.exposure)) x).seenAt p d := by
    intro l
    induction l with
    | nil => exact fun _ => rfl
    | cons a l ih =>
      intro x
      rw [List.foldl_cons, List.foldl_cons, ← ih, State.seenAt_aeClamp]
      rfl
  unfold State.applyAe
  dsimp only
  rw [show (s.seenAt p d).ets.aeNext = s.ets.aeNext from rfl, show (s.seenAt p d).ets.committed = s.ets.committed from rfl, h]
  rfl


/-- The pins once the arming unit has delivered its edge. -/
def State.deliveredPin (s : State) : Pin := { s.syncArm.pin with armed := false, delivered := true }

theorem State.syncArm_eq (s : State) : s.syncArm = { s with pin := s.syncArm.pin } := by
  unfold State.syncArm
  split <;> rfl

/-- What ETS makes of the edge delivered. -/
def State.edgeTaken (s : State) : State := { s with pin := s.deliveredPin }.takeTrigger

theorem exec_triggerDetect {s : State} (h : s.syncArm.triggerDue = true) : exec .triggerDetect s =
    .next (if s.edgeTaken.ets.accepted = s.ets.accepted then s.edgeTaken else s.edgeTaken.prioTrigger 2) := by
  have hd : exec .triggerDetect s = .next s.syncArm.detectTrigger := by simp [exec, execTriggerDetect, h]
  have hs : { s.syncArm with pin := { s.syncArm.pin with armed := false, delivered := true } } = { s with pin := s.deliveredPin } := by
    conv => lhs; rw [s.syncArm_eq]
    rfl
  have he : s.syncArm.ets = s.ets := by simp
  rw [hd, State.detectTrigger, hs, he]
  rfl

/-- Only an accepted trigger reaches the converter. -/
theorem exec_triggerDetect_alone {s : State} (h : s.syncArm.triggerDue = true) (ha : s.edgeTaken.ets.accepted = s.ets.accepted) :
    exec .triggerDetect s = .next s.edgeTaken := by
  rw [exec_triggerDetect h, if_pos ha]

theorem exec_triggerDetect_taken {s : State} (h : s.syncArm.triggerDue = true) (ha : s.edgeTaken.ets.accepted = s.ets.accepted + 1) :
    exec .triggerDetect s = .next (s.edgeTaken.prioTrigger 2) := by
  rw [exec_triggerDetect h, if_neg (by rw [ha]; simp)]

/-- In TRIGGERED mode with ETS at work and a view running, R64 and the nodes decide. -/
theorem State.edgeTaken_running {s : State} (hm : s.stored 0x1006 = 1) (hp : s.powered 55 = true) (hr : s.pwr.run = none)
    (hv : s.runningViews ≠ []) : s.edgeTaken =
      if s.applyAe.startsAfter (s.clk.ticks + 68) &&
          s.applyAe.nodesFree s.pix.quadReady.toNat (s.applyAe.stored 0x1007) (s.clk.ticks + 68) (s.applyAe.uses s.pix.quadReady.toNat) then
        (s.applyAe.seenAt s.deliveredPin s.clk.time).acceptTrigger s.pix.quadReady.toNat (s.applyAe.uses s.pix.quadReady.toNat)
      else (s.seenAt s.deliveredPin s.clk.time).coalesce := by
  have hc : ({ s with pin := s.deliveredPin } : State).closing = false := by simp [State.closing, hr]
  have hm' : ({ s with pin := s.deliveredPin } : State).stored 0x1006 = 1 := hm
  have hp' : ({ s with pin := s.deliveredPin } : State).powered 55 = true := hp
  have hv' : ({ s with pin := s.deliveredPin } : State).runningViews.isEmpty = false := by
    rw [List.isEmpty_eq_false_iff]
    exact hv
  have hx : ({ s with pin := s.deliveredPin, ets := { s.ets with trigLast := s.clk.time } } : State) = s.seenAt s.deliveredPin s.clk.time := rfl
  unfold State.edgeTaken State.takeTrigger State.now
  simp only [hc, hm', hp', hv', bne_self_eq_false, Bool.not_true, Bool.or_self, Bool.false_eq_true, if_false]
  rw [hx, State.seenAt_applyAe]
  have hq : (s.applyAe.seenAt s.deliveredPin s.clk.time).pix = s.pix := by simp [State.seenAt]
  have hk : (s.applyAe.seenAt s.deliveredPin s.clk.time).clk = s.clk := by simp [State.seenAt]
  rw [hq, hk]
  rfl

theorem triggerAlone_holds : triggerAlone := by
  intro s hm hd hv ht
  have hx : s.edgeTaken = s.seenAt s.deliveredPin s.clk.time := by
    have hv' : ({ s with pin := s.deliveredPin } : State).runningViews.isEmpty = true := by
      rw [List.isEmpty_iff]
      exact hv
    have hr : ∀ c t, (s.seenAt s.deliveredPin s.clk.time).raiseTrig s.clk.time c t = s.seenAt s.deliveredPin s.clk.time := fun c t => by
      exact if_pos ht
    unfold State.edgeTaken State.takeTrigger State.now
    simp only [hv', if_true]
    split
    · rfl
    · exact hr _ _
  have e := exec_triggerDetect_alone hd (by rw [hx]; rfl)
  rw [hx] at e
  exact ⟨_, e, rfl, rfl, rfl⟩

/-- What R64 and the nodes allow. -/
theorem State.startsAfter_applyAe (s : State) (t0 : Nat) : s.applyAe.startsAfter t0 = true ↔ ∀ c, s.ets.last = some c → c.close + 3 ≤ t0 := by
  rw [State.startsAfter, State.applyAe_ets]
  cases s.ets.last <;> simp

theorem State.coalesce_spec (s : State) : s.coalesce.pin = s.pin ∧ s.coalesce.view = s.view ∧ s.coalesce.ets.trigLast = s.ets.trigLast ∧
    s.coalesce.ets.coalescedTotal = s.ets.coalescedTotal + 1 ∧ s.coalesce.ets.accepted = s.ets.accepted ∧
    s.coalesce.ets.captures = s.ets.captures ∧ s.coalesce.ets.counter = s.ets.counter := by
  unfold State.coalesce
  dsimp only
  split <;> simp

theorem triggerCoalesced_holds : triggerCoalesced := by
  intro s u hu hd hr hp hv hno hm
  subst hu
  obtain ⟨hpin, hview, htrig, htot, hacc, hcap, hcnt⟩ := (s.seenAt s.deliveredPin s.clk.time).coalesce_spec
  have hx : s.edgeTaken = (s.seenAt s.deliveredPin s.clk.time).coalesce := by
    rw [State.edgeTaken_running hm hp hr hv]
    refine if_neg fun h => ?_
    rw [Bool.and_eq_true, State.startsAfter_applyAe] at h
    rcases hno with ⟨c, hc, hlt⟩ | hno
    · have hle := h.1 c hc
      omega
    · rw [hno] at h
      exact Bool.noConfusion h.2
  have e := exec_triggerDetect_alone hd (by rw [hx]; exact hacc)
  rw [hx] at e
  refine ⟨_, e, ?_, htrig, htot, hacc, hcap, hcnt, hview, ?_⟩
  · rw [hpin]
    rfl
  · simp [State.seenAt]

/-- Of the link an event changes only its queue and counts. -/
theorem State.raise_lnk (s : State) (code : Nat) (time : Word64) (args : Bytes) : ∃ a b c d,
    (s.raise code time args).lnk = { s.lnk with control := a, seq := b, eventsDropped := c, evDropSince := d } := by
  have h : ∀ x : State, x.lnk = s.lnk → ∀ p, ∃ a b c d,
      (x.offerControl p).2.lnk = { s.lnk with control := a, seq := b, eventsDropped := c, evDropSince := d } := fun x hx p => by
    rw [← hx]
    exact ⟨_, _, _, _, rfl⟩
  exact h _ (by simp) _

theorem State.raiseTrig_gaps (s : State) (d c t : Word64) : (s.raiseTrig d c t).lnk.gaps = s.lnk.gaps := by
  unfold State.raiseTrig
  split
  · rfl
  · obtain ⟨a, b, c, d, h⟩ := s.raise_lnk 1 d (leBytes 8 c.toNat ++ leBytes 8 t.toNat ++ leBytes 1 (s.stored 0x100C))
    rw [h]

/-- The state of an accepted trigger. -/
def State.triggerCounted (s : State) : State :=
  { s with ets := { s.ets with accepted := s.ets.accepted + 1, acceptPulse := some s.clk.ticks } }

theorem State.acceptTrigger_eq (s : State) (quads : Nat) (us : List ProfileUse) : s.acceptTrigger quads us =
    if s.verdictAtTick then (s.triggerCounted.withholdPace s.now s.pace.monitor 0).raiseTrig s.now s.ets.counter 0
    else if !s.linkAdmits then (s.triggerCounted.withholdLink s.now).raiseTrig s.now s.ets.counter 0
    else s.triggerCounted.commitCapture (s.clk.ticks + 68) us quads (some s.now) := rfl

/-- An event beside a withheld value. -/
theorem withheldFrom.raiseTrig {s t : State} {c : Word64} (h : withheldFrom s t c) (d e f : Word64) : withheldFrom s (t.raiseTrig d e f) c := by
  obtain ⟨h1, h2, h3, h4, h5, h6⟩ := h
  have hv := State.viewAt_of_view (s := t) (t := t.raiseTrig d e f) (by simp)
  simp only [withheldFrom, State.raiseTrig_frame, hv]
  exact ⟨h1, h2, h3, h4, h5, h6⟩

/-- Once accepted, the trigger is withheld or commits its capture. -/
theorem State.acceptTrigger_spec (s : State) (quads : Nat) (us : List ProfileUse) :
    (s.acceptTrigger quads us).ets.accepted = s.ets.accepted + 1 ∧ (s.acceptTrigger quads us).ets.trigLast = s.ets.trigLast ∧
      (s.verdictAtTick = true → withheldFrom s (s.acceptTrigger quads us) s.ets.counter ∧
        (s.acceptTrigger quads us).ets.withheld = s.ets.withheld + 1) ∧
      (s.verdictAtTick = false → s.linkAdmits = false → withheldFrom s (s.acceptTrigger quads us) s.ets.counter ∧
        (s.acceptTrigger quads us).lnk.gaps = s.lnk.gaps + 1) ∧
      (s.verdictAtTick = false → s.linkAdmits = true →
        committedFrom s (s.acceptTrigger quads us) s.ets.counter (s.clk.ticks + 68) quads) := by
  obtain ⟨hp, hpw, -, -, hpa, hpt⟩ := s.triggerCounted.withholdPace_spec s.now s.pace.monitor 0
  obtain ⟨hk, hkg, -, -, hka, hkt⟩ := s.triggerCounted.withholdLink_spec s.now
  obtain ⟨hc, -, -, hca, hct⟩ := s.triggerCounted.commitCapture_spec (s.clk.ticks + 68) us quads (some s.now)
  rw [State.acceptTrigger_eq]
  cases hv : s.verdictAtTick with
  | true =>
    simp only [if_true, State.raiseTrig_frame]
    exact ⟨hpa, hpt, fun _ => ⟨withheldFrom.raiseTrig (withheldFrom.of_same hp rfl rfl rfl) _ _ _, hpw⟩, fun h => Bool.noConfusion h,
      fun h => Bool.noConfusion h⟩
  | false =>
    cases hl : s.linkAdmits with
    | false =>
      simp only [Bool.false_eq_true, if_false, Bool.not_false, if_true, State.raiseTrig_frame, State.raiseTrig_gaps]
      exact ⟨hka, hkt, fun h => h.elim, fun _ _ => ⟨withheldFrom.raiseTrig (withheldFrom.of_same hk rfl rfl rfl) _ _ _, hkg⟩, fun _ h => h.elim⟩
    | true =>
      simp only [Bool.false_eq_true, if_false, Bool.not_true]
      exact ⟨hca, hct, fun h => h.elim, fun _ h => Bool.noConfusion h, fun _ _ => committedFrom.of_same hc rfl rfl rfl⟩

theorem State.seenAt_applyAe_same (s : State) (p : Pin) (d : Word64) : (s.applyAe.seenAt p d).view = s.view ∧
    (s.applyAe.seenAt p d).ets.captures = s.ets.captures ∧ (s.applyAe.seenAt p d).ets.committed = s.ets.committed ∧
    (s.applyAe.seenAt p d).ets.counter = s.ets.counter ∧ (s.applyAe.seenAt p d).ets.withheld = s.ets.withheld ∧
    (s.applyAe.seenAt p d).lnk.gaps = s.lnk.gaps ∧ (s.applyAe.seenAt p d).verdictAtTick = s.verdictAtTick ∧
    (s.applyAe.seenAt p d).linkAdmits = s.applyAe.linkAdmits ∧ (s.applyAe.seenAt p d).clk.ticks = s.clk.ticks := by
  refine ⟨?_, ?_, ?_, ?_, ?_, ?_, ?_, rfl, ?_⟩
  case refine_7 => simp [State.verdictAtTick, State.seenAt]
  all_goals simp [State.seenAt, State.applyAe_ets]

theorem triggerTaken_holds : triggerTaken := by
  intro s u hu hd hm hr hp hv hc hf
  subst hu
  have hx : s.edgeTaken = (s.applyAe.seenAt s.deliveredPin s.clk.time).acceptTrigger s.pix.quadReady.toNat
      (s.applyAe.uses s.pix.quadReady.toNat) := by
    rw [State.edgeTaken_running hm hp hr hv]
    refine if_pos ?_
    rw [Bool.and_eq_true, State.startsAfter_applyAe]
    refine ⟨hc, ?_⟩
    rcases hf with hf | ⟨hf, he⟩
    · exact hf
    · exact State.nodesFree_of_empty (by simp [State.applyAe_ets, hf]) (by simp [State.applyAe_ets, he]) _ _ _ _
  obtain ⟨hacc, htrig, hpace, hlink, htake⟩ := (s.applyAe.seenAt s.deliveredPin s.clk.time).acceptTrigger_spec s.pix.quadReady.toNat
    (s.applyAe.uses s.pix.quadReady.toNat)
  have hets : s.applyAe.ets.accepted = s.ets.accepted := by rw [State.applyAe_ets]
  have e := exec_triggerDetect_taken hd (by rw [hx, hacc]; exact congrArg (· + 1) hets)
  rw [hx, State.prioTrigger_eq] at e
  obtain ⟨hview, hcap, hcom, hcnt, hwit, hgaps, hverdict, hlinkOpen, htick⟩ := s.seenAt_applyAe_same s.deliveredPin s.clk.time
  rw [hverdict, hcnt, hwit] at hpace
  rw [hverdict, hlinkOpen, hcnt, hgaps] at hlink
  rw [hverdict, hlinkOpen, hcnt, htick] at htake
  refine ⟨_, e, ?_, htrig, hacc.trans (congrArg (· + 1) hets), ?_, ?_, ?_, ?_, ?_, ?_, ?_, ?_, ?_, fun hv => ?_, fun hv hl => ?_,
    fun hv hl => ?_⟩
  · simp [State.seenAt, State.deliveredPin]
  case refine_11 => exact ⟨withheldFrom.of_same (hpace hv).1 hview hcap hcom, (hpace hv).2⟩
  case refine_12 => exact ⟨withheldFrom.of_same (hlink hv hl).1 hview hcap hcom, (hlink hv hl).2⟩
  case refine_13 => exact committedFrom.of_same (htake hv hl) hview hcap hcom
  all_goals simp [State.seenAt]

/-- Settles O19: a withheld value is `gapsRecorded` and what goes with it, and a commit is `valueAwaited` and the new capture. -/
theorem captureStarts : Obligations.CaptureStarts := ⟨scheduledStart_holds, triggerAlone_holds, triggerCoalesced_holds, triggerTaken_holds⟩

end Sys2Proof.Machine

namespace Sys2Proof.Machine

/-! ## Proofs: the release of row-quads, and automatic exposure (03) -/

/-- A capture that alone has its counter is changed alone. -/
theorem map_counter_head {c : Capture} {r : List Capture} (f : Capture → Capture) (h : ∀ d, d ∈ r → d.counter ≠ c.counter) :
    (c :: r).map (fun x => if x.counter = c.counter then f x else x) = f c :: r := by
  have hr : r.map (fun x => if x.counter = c.counter then f x else x) = r :=
    (List.map_congr_left fun d hd => if_neg (h d hd)).trans r.map_id'
  rw [List.map_cons, if_pos rfl, hr]

theorem State.openFrame_eq (s : State) (c : Capture) (v : Nat) : s.openFrame c v = { s with view := (s.openFrame c v).view } := by
  unfold State.openFrame State.onView State.setView
  split <;> rfl

/-- The first release opens frames and a job, and nothing else. -/
theorem State.beginReadout_eq (s : State) (c : Capture) : ∃ v, s.beginReadout c = { s with
    view := v, pdp := { s.pdp with jobs := s.pdp.jobs ++ [{ capture := c, latch := s.pdpLatch }] } } := by
  have hf : ∀ (l : List Nat) (x : State), l.foldl (fun s v => s.openFrame c v) x =
      { x with view := (l.foldl (fun s v => s.openFrame c v) x).view } := by
    intro l
    induction l with
    | nil => exact fun _ => rfl
    | cons v l ih => 
      intro x
      rw [List.foldl_cons, ih]
      generalize (l.foldl (fun s v => s.openFrame c v) (x.openFrame c v)).view = y
      rw [x.openFrame_eq c v]
  refine ⟨(c.views.foldl (fun s v => s.openFrame c v) s).view, ?_⟩
  unfold State.beginReadout
  dsimp only
  rw [hf]

theorem rowquadRelease_holds : rowquadRelease := by
  intro s c r hp hr hw hl hc hq hclosed hdue
  have hrel : s.releasing = some c := by simp [State.releasing, hl, hq, hclosed, hdue]
  have e : exec .rowquadRelease s = .next (s.releaseQuad c) := by
    simp [exec, execRowquadRelease, State.mayRelease, hp, hr, hw, hrel]
  have hmap := map_counter_head (fun x : Capture =>
    { x with released := x.released + 1, lag := max x.lag (s.clk.ticks - (c.close + c.released * c.interval)) }) hc
  by_cases h0 : c.released = 0
  · obtain ⟨v, hv⟩ := s.beginReadout_eq c
    rw [State.releaseQuad, if_pos h0, hv] at e
    refine ⟨_, _, e, (congrArg (List.map _) hl).trans hmap, rfl, rfl, rfl, ?_, fun h => absurd h0 h, rfl⟩
    rw [if_pos h0]
    exact List.length_append
  · rw [State.releaseQuad, if_neg h0] at e
    refine ⟨_, _, e, (congrArg (List.map _) hl).trans hmap, rfl, rfl, rfl, ?_, fun _ => rfl, rfl⟩
    rw [if_neg h0]
    rfl

theorem autoExposure_holds : autoExposure := by
  intro s p x hp hx hready hhalt hauto hof hdone
  refine ⟨fun hn => ?_, fun hm => ?_⟩
  · simp [exec, execAeStep, State.aeDue, hx, hn]
  · have hd : s.aeDue p = some x := by simp [State.aeDue, hx, hp, hready, hhalt, hauto, hm, hof, hdone]
    refine ⟨(s.ets.aeNext.filter fun a => a.profile != p || a.index != x.index + 2) ++ [⟨p, s.aeExposure p (x.ofProfile p), x.index + 2⟩],
      s.aeExposure p (x.ofProfile p), _, _, ?_, rfl, rfl, rfl, ?_, ?_⟩
    · simp only [exec, execAeStep, hd]
      rfl
    · exact List.mem_append_right _ (List.mem_singleton_self _)
    · intro a ha
      rcases List.mem_append.mp ha with h | h
      · exact .inl (List.mem_filter.mp h).1
      · exact .inr (List.mem_singleton.mp h)

/-- Settles O21. -/
theorem readoutAndExposure : Obligations.ReadoutAndExposure := ⟨rowquadRelease_holds, autoExposure_holds⟩

end Sys2Proof.Machine

namespace Sys2Proof.Machine

/-! ## Proofs: lines absorbed into strips, and the frame root (06) -/

/-- `g` is `f` but for the lines taken of it. -/
def Frame.SameStrips (f g : Frame) : Prop := g.capture = f.capture ∧ g.packed = f.packed ∧ g.strips = f.strips

/-- Every frame of view `v` in `s` stands in `t`, with the lines it holds. -/
def KeepsFrames (v : Nat) (s t : State) : Prop := ∀ f ∈ (s.viewAt v).current, ∃ g ∈ (t.viewAt v).current, f.SameStrips g

theorem KeepsFrames.refl (v : Nat) (s : State) : KeepsFrames v s s := fun f hf => ⟨f, hf, rfl, rfl, rfl⟩

theorem KeepsFrames.trans {v : Nat} {s t u : State} (h : KeepsFrames v s t) (h' : KeepsFrames v t u) : KeepsFrames v s u := by
  intro f hf
  obtain ⟨g, hg, h1, h2, h3⟩ := h f hf
  obtain ⟨k, hk, h4, h5, h6⟩ := h' g hg
  exact ⟨k, hk, h4.trans h1, h5.trans h2, h6.trans h3⟩

theorem KeepsFrames.of_view {v : Nat} {s t : State} (h : (t.viewAt v).current = (s.viewAt v).current) : KeepsFrames v s t := fun f hf =>
  ⟨f, h ▸ hf, rfl, rfl, rfl⟩

/-- A change of one view that keeps the strips of its frames. -/
theorem State.onView_keepsFrames (s : State) (w : Nat) (f : View → View) (g : Frame → Frame) (h : ∀ x, (f x).current = x.current.map g)
    (hg : ∀ x : Frame, x.SameStrips (g x)) (v : Nat) : KeepsFrames v s (s.onView w f) := by
  intro x hx
  by_cases hw : v = w
  · subst hw
    by_cases hlt : v < 32
    · rw [State.viewAt_onView_same _ _ hlt, h]
      exact ⟨g x, List.mem_map_of_mem hx, hg x⟩
    · exact ⟨x, by simpa [State.onView, State.setView, hlt] using hx, rfl, rfl, rfl⟩
  · rw [State.viewAt_onView_other _ _ hw]
    exact ⟨x, hx, rfl, rfl, rfl⟩

/-- Taking a line changes the frames only by their count of lines sent, and of SEA only the buffer. -/
theorem State.takeLine_keeps {s t : State} (h : s.takeLine = some t) (v : Nat) :
    KeepsFrames v s t ∧ t.sea.engines = s.sea.engines := by
  have hl : ∀ w f, KeepsFrames v s (s.lineTaken w f) ∧ (s.lineTaken w f).sea.engines = s.sea.engines := fun w f => by
    refine ⟨State.onView_keepsFrames s w _ (fun x => if x.capture = f.capture then { x with sent := x.sent + 1 } else x) (fun _ => rfl)
      (fun x => ?_) v, rfl⟩
    split <;> exact ⟨rfl, rfl, rfl⟩
  have hp : ∀ (g : State → Packet → State), (∀ x p, (g x p).view = x.view ∧ (g x p).sea = x.sea) → ∀ (l : List Packet) (x : State),
      KeepsFrames v x (l.foldl g x) ∧ (l.foldl g x).sea.engines = x.sea.engines := fun g hg l x => by
    have hv := foldl_same (fun x : State => x.view) (fun x p => (hg x p).1) l x
    have hs := foldl_same (fun x : State => x.sea) (fun x p => (hg x p).2) l x
    exact ⟨KeepsFrames.of_view (by rw [State.viewAt_of_view hv]), by rw [hs]⟩
  have hd : ∀ x p, (State.pushData x p).view = x.view ∧ (State.pushData x p).sea = x.sea := fun x p => by simp
  have hr : ∀ x p, (State.pushIfRoom x p).view = x.view ∧ (State.pushIfRoom x p).sea = x.sea := fun x p => by simp
  unfold State.takeLine at h
  dsimp only at h
  split at h
  · cases h
  · next w f hf =>
    obtain ⟨hv, he⟩ := hl w f
    split at h
    · cases h
    · split at h
      · obtain rfl := Option.some.inj h
        split
        · exact ⟨hv.trans (hp _ hr _ _).1, (hp _ hr _ _).2.trans he⟩
        · exact ⟨hv, he⟩
      · split at h
        · obtain rfl := Option.some.inj h
          exact ⟨hv.trans (hp _ hd _ _).1, (hp _ hd _ _).2.trans he⟩
        · cases h

theorem State.takeUpTo_keeps (n : Nat) (s : State) (v : Nat) :
    KeepsFrames v s (State.takeUpTo n s) ∧ (State.takeUpTo n s).sea.engines = s.sea.engines := by
  induction n generalizing s with
  | zero => exact ⟨KeepsFrames.refl v s, rfl⟩
  | succ n ih =>
    rw [State.takeUpTo]
    split
    · next t ht =>
      obtain ⟨hk, he⟩ := State.takeLine_keeps ht v
      obtain ⟨hk', he'⟩ := ih t
      exact ⟨hk.trans hk', he'.trans he⟩
    · exact ⟨KeepsFrames.refl v s, rfl⟩

/-- Ending stops leaves every view's frames. -/
theorem State.endStops_current (s : State) (v : Nat) : (s.endStops.viewAt v).current = (s.viewAt v).current ∧
    (s.endStops.viewAt v).frames = (s.viewAt v).frames ∧ (s.endStops.viewAt v).lastCapture = (s.viewAt v).lastCapture := by
  have h : ∀ (x : State) w, ((x.endStop w).viewAt v).current = (x.viewAt v).current ∧ ((x.endStop w).viewAt v).frames = (x.viewAt v).frames ∧
      ((x.endStop w).viewAt v).lastCapture = (x.viewAt v).lastCapture := fun x w => by
    unfold State.endStop
    split
    · rw [State.viewAt_of_view (s := x.onView w fun y => { y with state := .idle, reconfig := [] }) (by simp)]
      by_cases hw : v = w
      · subst hw
        by_cases hlt : v < 32
        · rw [State.viewAt_onView_same _ _ hlt]
          exact ⟨rfl, rfl, rfl⟩
        · simp [State.onView, State.setView, hlt]
      · rw [State.viewAt_onView_other _ _ hw]
        exact ⟨rfl, rfl, rfl⟩
    · exact ⟨rfl, rfl, rfl⟩
  exact ⟨foldl_same (fun x : State => (x.viewAt v).current) (fun x w => (h x w).1) _ s,
    foldl_same (fun x : State => (x.viewAt v).frames) (fun x w => (h x w).2.1) _ s,
    foldl_same (fun x : State => (x.viewAt v).lastCapture) (fun x w => (h x w).2.2) _ s⟩

/-- The strip that absorbed a line, before further lines are taken. -/
def State.lineHashed (s : State) (v i : Nat) (f : Frame) (x : Strip) : State :=
  (s.onFrame v f.capture fun g => { g with strips := modifyAt (fun _ => { x with absorbed := x.absorbed + 1 }) i g.strips }).lessOutstanding
    x.engine f.gen.lineBytes

theorem State.absorb_eq (s : State) (v i : Nat) (f : Frame) (x : Strip) : ∃ t : State, s.absorb v i f x = t.takeLines.afterWork ∧
    t.view = (s.lineHashed v i f x).view ∧ t.sea.engines = (s.lineHashed v i f x).sea.engines ∧ t.pwr = s.pwr := by
  unfold State.absorb
  dsimp only
  refine ⟨_, rfl, ?_⟩
  split <;> exact ⟨rfl, rfl, by simp⟩

theorem State.absorbing_mem (s : State) {v i : Nat} {f : Frame} {x : Strip} (h : s.absorbing v i = some (f, x)) :
    f ∈ (s.viewAt v).current ∧ f.strips[i]? = some x := by
  unfold State.absorbing at h
  split at h
  · next f' hf =>
    obtain ⟨y, hy, heq⟩ := Option.map_eq_some_iff.mp h
    cases heq
    exact ⟨List.mem_of_find?_eq_some hf, hy⟩
  · cases h

theorem State.lineHashed_engines (s : State) (v i : Nat) (f : Frame) (x : Strip) : (s.lineHashed v i f x).sea.engines =
    spSet {} x.engine { s.engine x.engine with outstanding := (s.engine x.engine).outstanding - f.gen.lineBytes } s.sea.engines := by
  simp [State.lineHashed, State.lessOutstanding, State.engine]

theorem State.lineHashed_mem (s : State) {v : Nat} (i : Nat) {f : Frame} (x : Strip) (hv : v < 32) (hf : f ∈ (s.viewAt v).current) :
    { f with strips := modifyAt (fun _ => { x with absorbed := x.absorbed + 1 }) i f.strips } ∈
      ((s.lineHashed v i f x).viewAt v).current := by
  rw [State.viewAt_of_view (t := s.lineHashed v i f x) (s := s.onFrame v f.capture fun g =>
    { g with strips := modifyAt (fun _ => { x with absorbed := x.absorbed + 1 }) i g.strips }) rfl, State.onFrame,
    State.viewAt_onView_same s _ hv]
  exact List.mem_map.mpr ⟨f, hf, if_pos rfl⟩

theorem lineAbsorbed_holds : lineAbsorbed := by
  intro s v i f x hv hr ha hp hstop hcanon
  have e : exec (.lineAbsorbed ⟨v, i⟩) s = .next (s.absorb v i f x) := by simp [exec, execLineAbsorbed, ha, hv, hp]
  obtain ⟨t, ht, hview, heng, hpwr⟩ := s.absorb_eq v i f x
  obtain ⟨hk, he⟩ : KeepsFrames v t t.takeLines ∧ t.takeLines.sea.engines = t.sea.engines := t.takeUpTo_keeps _ v
  have hafter : t.takeLines.afterWork = t.takeLines.endStops.supply := by
    simp [State.afterWork, State.closing, hpwr, hr]
  have hcur : ((s.absorb v i f x).viewAt v).current = (t.takeLines.viewAt v).current := by
    rw [ht, hafter, State.viewAt_of_view (s := t.takeLines.endStops) (by simp), (t.takeLines.endStops_current v).1]
  have hsea : (s.absorb v i f x).sea.engines = (s.lineHashed v i f x).sea.engines := by
    rw [ht, hafter, ← heng, ← he]
    simp
  obtain ⟨hf, hx⟩ := s.absorbing_mem ha
  obtain ⟨g, hg, h1, h2, h3⟩ := hk { f with strips := modifyAt (fun _ => { x with absorbed := x.absorbed + 1 }) i f.strips } (by
    rw [State.viewAt_of_view hview]
    exact s.lineHashed_mem i x hv hf)
  rw [← hcur] at hg
  have heng' : ((s.absorb v i f x).engine x.engine).outstanding = (s.engine x.engine).outstanding - f.gen.lineBytes := by
    rw [State.engine, hsea, s.lineHashed_engines, spGet_spSet_same _ _ hcanon]
  exact ⟨s.absorb v i f x, g, e, heng', hg, h1, h2, h3, by simp⟩

/-- The state of a frame's end, before its segment is looked at. -/
def State.frameSealed (s : State) (v : Nat) (f : Frame) (p : PdpJob) : State :=
  let leaves := f.strips.map Strip.leaf
  let header := f.header v ((s.viewAt v).slotOf f.capture) p.capture leaves.length
  let root := merkleRoot (leaves ++ [leafHash header])
  let s2 := s.pushEnd v f header root
  let endSeq := if s2.lnk.seq = s.lnk.seq then none else some s.lnk.seq
  let s2 := ((s2.recordRoot v f root endSeq).releaseStrip f).countCut f
  { s2 with sea := { s2.sea with
    framesSealed := s2.sea.framesSealed + 1
    treeHashes := s2.sea.treeHashes + BitVec.ofNat 32 (leaves.length + 2) } }

theorem State.endFrame_eq (s : State) {v : Nat} {f : Frame} (p : PdpJob) (h0 : f.packed ≠ 0) :
    s.endFrame v f p = ((((s.frameSealed v f p).progress [42]).settle v).dropJobs).afterWork := by
  simp only [State.endFrame, State.frameSealed, h0, if_false]

/-- The frame's header and its root. -/
def State.frameSeal (s : State) (v : Nat) (f : Frame) (p : PdpJob) : Bytes :=
  f.header v ((s.viewAt v).slotOf f.capture) p.capture f.strips.length ++
    merkleRoot (f.strips.map Strip.leaf ++ [leafHash (f.header v ((s.viewAt v).slotOf f.capture) p.capture f.strips.length)])

/-- FRAME_END as it joins the data queue. -/
def State.endPacket (s : State) (v : Nat) (f : Frame) (body : Bytes) : Packet :=
  { kind := 3, seq := s.lnk.seq, view := v, gen := f.genNo, stream := f.gen.streamId, body := body }

theorem State.countCut_run {s : State} (f : Frame) (hr : s.pwr.run = none) : (s.countCut f).pwr.run = none := by
  unfold State.countCut
  split
  · simp [State.onRun, hr]
  · exact hr

/-- What the queue and the view hold of the frame. -/
theorem State.frameSealed_spec (s : State) {v : Nat} (f : Frame) (p : PdpJob) (hv : v < 32) (hr : s.pwr.run = none) :
    (s.frameSealed v f p).lnk.data = s.lnk.data ++ [s.endPacket v f (s.frameSeal v f p)] ∧
      (s.frameSealed v f p).sea.framesSealed = s.sea.framesSealed + 1 ∧
      ((s.frameSealed v f p).viewAt v).frames = (s.viewAt v).frames + 1 ∧ ((s.frameSealed v f p).viewAt v).lastCapture = f.capture ∧
      (s.frameSealed v f p).pwr.run = none := by
  have hc : s.closing = false := by simp [State.closing, hr]
  have hpush : ∀ h r, (s.pushEnd v f h r).lnk.data = s.lnk.data ++ [s.endPacket v f (h ++ r)] := fun h r => by
    simp [State.pushEnd, State.pushData, hc, State.numbered, State.endPacket]
  have hrel : ∀ x : State, (x.releaseStrip f).sea.framesSealed = x.sea.framesSealed := fun x => by
    unfold State.releaseStrip
    dsimp only
    repeat' split
    all_goals rfl
  have hview : ∀ (x : State) root e, (((x.recordRoot v f root e).releaseStrip f).countCut f).viewAt v = (x.recordRoot v f root e).viewAt v :=
    fun x root e => State.viewAt_of_view (by simp) v
  have hrec : ∀ (x : State) root e, ((x.recordRoot v f root e).viewAt v).frames = (x.viewAt v).frames + 1 ∧
      ((x.recordRoot v f root e).viewAt v).lastCapture = f.capture := fun x root e => by
    rw [State.recordRoot, State.viewAt_onView_same _ _ hv]
    exact ⟨rfl, rfl⟩
  refine ⟨?_, ?_, ?_, ?_, State.countCut_run f (by simp [hr])⟩
  · simp only [State.frameSealed, State.countCut_frame, State.releaseStrip_frame, State.recordRoot_frame, hpush, List.length_map]
    rfl
  · simp [State.frameSealed, hrel]
  · refine (congrArg View.frames (hview _ _ _)).trans ((hrec _ _ _).1.trans ?_)
    rw [State.viewAt_of_view (s := s) (by simp [State.pushEnd])]
  · exact (congrArg View.lastCapture (hview _ _ _)).trans (hrec _ _ _).2

theorem State.settle_run {s : State} (v : Nat) (h : s.pwr.run = none) : (s.settle v).pwr.run = none := by
  have hs := congrArg Prod.snd (s.settle_steady v).1
  simpa [Pwr.steady, h] using hs

/-- Beside its segments a view keeps what it counted, and the queue and the count of frames stand. -/
theorem State.settled_spec (s : State) (v : Nat) : ((s.settle v).lnk = s.lnk) ∧ (s.settle v).sea.framesSealed = s.sea.framesSealed ∧
    ((s.settle v).viewAt v).frames = (s.viewAt v).frames ∧ ((s.settle v).viewAt v).lastCapture = (s.viewAt v).lastCapture := by
  have hp := s.settle_plain v v
  have hsea : (s.settle v).sea.framesSealed = s.sea.framesSealed := by
    refine (foldl_same (fun x : State => x.sea.framesSealed) ?_ _ _).trans ?_
    · intro x g
      unfold State.sealSegment
      split <;> simp
    · simp
  exact ⟨by simp, hsea, (congrArg View.frames hp :), (congrArg View.lastCapture hp :)⟩

theorem frameRoot_holds : frameRoot := by
  intro s v f p leaves hv hp hroom hr hf h0 hl
  have e : exec (.frameRootComplete v) s = .next (s.endFrame v f p) := by simp [exec, execFrameRootComplete, hv, hp, hroom, hf]
  obtain ⟨hdata, hsealed, hframes, hlast, hrun⟩ := s.frameSealed_spec f p hv hr
  obtain ⟨hl1, hs1, hf1, hc1⟩ := ((s.frameSealed v f p).progress [42]).settled_spec v
  have hrun1 : (((s.frameSealed v f p).progress [42]).settle v).dropJobs.closing = false := by
    have h1 : (((s.frameSealed v f p).progress [42]).settle v).pwr.run = none := State.settle_run v (by simpa using hrun)
    simp [State.closing, h1]
  have hafter : s.endFrame v f p = ((((s.frameSealed v f p).progress [42]).settle v).dropJobs).endStops.supply := by
    rw [s.endFrame_eq p h0, State.afterWork, if_neg (by simp [hrun1])]
  have hview : ∀ w, (s.endFrame v f p).viewAt w = ((((s.frameSealed v f p).progress [42]).settle v).dropJobs).endStops.viewAt w := fun w => by
    rw [hafter]
    exact State.viewAt_of_view (by simp) w
  obtain ⟨-, hf2, hc2⟩ := ((((s.frameSealed v f p).progress [42]).settle v).dropJobs).endStops_current v
  have hdrop := State.viewAt_of_view (s := ((s.frameSealed v f p).progress [42]).settle v)
    (t := (((s.frameSealed v f p).progress [42]).settle v).dropJobs) (by simp) v
  have hprog := State.viewAt_of_view (s := s.frameSealed v f p) (t := (s.frameSealed v f p).progress [42]) (by simp) v
  refine ⟨_, e, ?_, ?_, ?_, ?_, by simp⟩
  · have hlnk : (s.endFrame v f p).lnk = (s.frameSealed v f p).lnk := by
      rw [hafter]
      simp
    have hleaf : leaves = f.strips.map Strip.leaf := hl.trans (List.map_congr_left fun x _ => by rw [Strip.leaf])
    rw [hlnk, hdata, hleaf, State.endPacket, State.frameSeal, List.length_map]
  · have hsea : (s.endFrame v f p).sea.framesSealed = (((s.frameSealed v f p).progress [42]).settle v).sea.framesSealed := by
      rw [hafter]
      simp
    rw [hsea, hs1, ← hsealed]
    simp
  · rw [hview, hf2, hdrop, hf1, hprog, hframes]
  · rw [hview, hc2, hdrop, hc1, hprog, hlast]

/-- Settles O24. -/
theorem hashedFrames : Obligations.HashedFrames := ⟨lineAbsorbed_holds, frameRoot_holds⟩

end Sys2Proof.Machine

namespace Sys2Proof.Machine

/-! ## Proofs: signatures, and the repeated Vermilion event (06) -/

theorem edSign_length (seed msg : Bytes) : (edSign seed msg).length = 64 := by
  unfold edSign
  dsimp only
  rw [List.length_append, edEncode, leBytes_length, leBytes_length]

/-- A SEAL_SIG takes 100 bytes of its queue. -/
theorem State.sealSig_length (s : State) (j : SignJob) : (s.sealSig j).length = 80 := by
  rw [State.sealSig]
  simp only [List.length_append, leBytes_length, edSign_length]
  rfl

/-- The packet of a signature. -/
def State.sigPacket (s : State) (j : SignJob) : Packet :=
  { kind := 5, seq := s.lnk.seq, view := j.view, gen := j.gen, stream := j.stream, body := s.sealSig j, after := j.after }

theorem makeSealRoom_of_room {n fuel : Nat} {q : List Packet} (h : queueSize q + n ≤ sealCap) : makeSealRoom fuel n q = (q, 0) := by
  cases fuel with
  | zero => rfl
  | succ f => exact if_pos h

/-- A signature sent with room in its queue. -/
theorem State.signed_spec (s : State) (j : SignJob) (rest : Sea) (ns : Nat) (h : queueSize s.lnk.sealQ + 100 ≤ sealCap) :
    (s.signed j rest ns).sea = rest.counted j ns ∧ (s.signed j rest ns).lnk.sealQ = s.lnk.sealQ ++ [s.sigPacket j] ∧
      (s.signed j rest ns).view = s.view := by
  have hp : ∀ p : Packet, p.body = s.sealSig j → makeSealRoom s.lnk.sealQ.length p.size s.lnk.sealQ = (s.lnk.sealQ, 0) := fun p hb =>
    makeSealRoom_of_room (by rw [Packet.size, hb, s.sealSig_length]; exact h)
  refine ⟨?_, ?_, ?_⟩
  · simp [State.signed]
  · simp only [State.signed, State.supply_frame, State.pushSeal, State.progress_frame, State.numbered]
    rw [hp _ rfl]
    rfl
  · simp [State.signed]

theorem exec_signJobDone {s : State} {j : SignJob} {rest : Sea} (ns : Nat) (hs : s.signs = true) (hd : s.derives = true)
    (hp : s.domainReady 40 = true) (hr : s.pwr.run = none) (hj : s.sea.nextJob = some (j, rest))
    (hn : (j.resigned && s.resignUnanswered) = false) : exec (.signJobDone ns) s = .next (s.signed j rest ns) := by
  simp [exec, execSignJobDone, State.closing, hr, hp, State.jobDue, hs, hd, hj, hn, Option.filter]

theorem signatureSent_holds : signatureSent := by
  intro s ns j rest hs hd hp hr hj hq hroom
  have e := exec_signJobDone ns hs hd hp hr (j := j) (rest := { s.sea with prompt := rest }) (by simp [Sea.nextJob, hq]) (by simp [hj])
  obtain ⟨hsea, hqueue, hview⟩ := s.signed_spec j { s.sea with prompt := rest } ns hroom
  refine ⟨_, e, ?_, ?_, ?_, ?_, hqueue, ?_⟩
  case refine_5 => simp [hview]
  all_goals simp [hsea, Sea.counted, hj]

theorem lateSignature_holds : lateSignature := by
  intro s ns j rest hs hd hp hr hq hl hj hu hroom
  have e := exec_signJobDone ns hs hd hp hr (j := j) (rest := { s.sea with resign := rest }) (by simp [Sea.nextJob, hq, hl]) (by simp [hu])
  obtain ⟨hsea, hqueue, -⟩ := s.signed_spec j { s.sea with resign := rest } ns hroom
  refine ⟨_, e, ?_, ?_, ?_, ?_, ?_, hqueue, ?_⟩
  case refine_1 => exact (congrArg Sea.prompt hsea).trans hq
  case refine_6 => simp
  all_goals simp [hsea, Sea.counted, hj]

theorem vermilionAgain_holds : vermilionAgain := by
  intro s entry he hv hg ht
  have e : exec .vermilionRepeat s = .next (s.repeatVermilion entry) := by simp [exec, execVermilionRepeat, he, hv, hg, ht]
  rw [e, State.repeatVermilion]
  rfl

/-- Settles O25: the next job by its queue, and what `signed_spec` says of a signature sent. -/
theorem signatures : Obligations.Signatures := ⟨signatureSent_holds, lateSignature_holds, vermilionAgain_holds⟩

end Sys2Proof.Machine

namespace Sys2Proof.Machine

/-! ## Proofs: a commit (06, 07) -/

/-- Work that ends changes only the reset it holds off. -/
theorem State.workDone_eq (s : State) (b : Bool) : s.workDone b = { s with rst := (s.workDone b).rst } := by
  unfold State.workDone
  split <;> rfl

/-- The state in which a commit is made: the entry has left the queue, and the monitors and the reset held off have seen it. -/
def State.committing (s : State) (rest : List Commit) : State := (({ s with nvs := { s.nvs with queue := rest } }).progress [44, 46]).workDone true

theorem State.committing_eq (s : State) (rest : List Commit) : s.committing rest =
    { s with nvs := { s.nvs with queue := rest }, wdg := (s.committing rest).wdg, rst := (s.committing rest).rst } := by
  unfold State.committing
  rw [State.workDone_eq]
  rfl

/-- What the entry holds is settled before the commit. -/
theorem State.committing_entry (s : State) (rest : List Commit) (c : Commit) : (s.committing rest).staging c = s.staging c ∧
    (s.committing rest).entryBytes c = s.entryBytes c ∧ (s.committing rest).entryHead c = s.entryHead c := by
  rw [s.committing_eq rest]
  exact ⟨rfl, rfl, rfl⟩

/-- What NVS counts of its commits, the journal and transition records, and the last entry of the epoch before. -/
structure NvsDone where
  commits : Word
  interleaved : Nat
  journals : Copies JournalRecord
  transitions : Copies (Option Transition)
  prevEpochLast : Word

def Nvs.done (n : Nvs) : NvsDone := ⟨n.commits, n.interleaved, n.journals, n.transitions, n.retained.prevEpochLast⟩

@[simp] theorem Nvs.done_ite (c : Prop) [Decidable c] (a b : Nvs) : (if c then a else b).done = if c then a.done else b.done :=
  apply_ite Nvs.done c a b

@[simp] theorem foldl_done {β : Type} {f : State → β → State} (h : ∀ s b, (f s b).nvs.done = s.nvs.done) (l : List β) (s : State) :
    (l.foldl f s).nvs.done = s.nvs.done := foldl_same (fun s => s.nvs.done) h l s

@[simp] theorem State.request_done (s : State) (c : Commit) : (s.request c).nvs.done = s.nvs.done := by
  unfold State.request
  split <;> rfl

@[simp] theorem State.sealSegment_done (s : State) (v : Nat) (g : Segment) : (s.sealSegment v g).nvs.done = s.nvs.done := by
  unfold State.sealSegment
  split <;> simp

@[simp] theorem State.settle_done (s : State) (v : Nat) : (s.settle v).nvs.done = s.nvs.done := by
  simp [State.settle]

@[simp] theorem State.takeSegment_done (s : State) : s.takeSegment.2.nvs.done = s.nvs.done := by
  unfold State.takeSegment
  dsimp only
  split
  · simp [Nvs.done, Nvs.retain, Nvs.retained]
  · rfl

@[simp] theorem State.joinValue_done (s : State) (v : Nat) (x : SegValue) : (s.joinValue v x).nvs.done = s.nvs.done := by
  unfold State.joinValue
  repeat' split
  all_goals simp

@[simp] theorem State.flushReconfig_done (s : State) (v : Nat) : (s.flushReconfig v).nvs.done = s.nvs.done := by
  simp [State.flushReconfig]

@[simp] theorem State.closeSegment_done (s : State) (v : Nat) (f : Segment → Segment) : (s.closeSegment v f).nvs.done = s.nvs.done := by
  simp [State.closeSegment]

@[simp] theorem State.closeAll_done (s : State) (f : Segment → Segment) : (s.closeAll f).nvs.done = s.nvs.done := by
  simp [State.closeAll]

@[simp] theorem State.wedgeRun_done (s : State) : s.wedgeRun.nvs.done = s.nvs.done := by
  unfold State.wedgeRun
  split <;> rfl

@[simp] theorem State.goQuiet_done (s : State) : s.goQuiet.nvs.done = s.nvs.done := by
  unfold State.goQuiet
  dsimp only
  split <;> simp [State.onRun]

@[simp] theorem State.queueClose_done (s : State) (r : Run) : (s.queueClose r).nvs.done = s.nvs.done :=
  State.request_done _ _

@[simp] theorem State.umberStep_done (s : State) : s.umberStep.nvs.done = s.nvs.done := by
  unfold State.umberStep
  dsimp only
  repeat' split
  all_goals simp

@[simp] theorem State.umberAdvance_done (s : State) : s.umberAdvance.nvs.done = s.nvs.done := by
  simp [State.umberAdvance]

/-- Work that has ended leaves the counts, and outside a closing run the whole of NVS. -/
theorem State.afterWork_done (s : State) : s.afterWork.nvs.done = s.nvs.done := by
  unfold State.afterWork
  split <;> simp

theorem State.afterWork_nvs {s : State} (h : s.pwr.run = none) : s.afterWork.nvs = s.nvs := by
  simp [State.afterWork, State.closing, h]

theorem State.afterCommit_nvs (s : State) (c : Commit) (q : Word) : (s.afterCommit c q).nvs.commits = s.nvs.commits ∧
    (s.afterCommit c q).nvs.interleaved = s.nvs.interleaved ∧ (s.afterCommit c q).nvs.queue = s.nvs.queue := by
  unfold State.afterCommit
  repeat' split
  all_goals simp [State.epochClosed, State.epochOpened, State.onRun, Nvs.putTransition, Nvs.retain]

theorem State.afterCommit_led (s : State) (c : Commit) (q : Word) : (s.afterCommit c q).led.nextSeq = s.led.nextSeq ∧
    (s.afterCommit c q).led.lastHead = s.led.lastHead ∧ (s.afterCommit c q).led.epoch = s.led.epoch ∧
    (s.afterCommit c q).led.present = s.led.present := by
  unfold State.afterCommit
  repeat' split
  all_goals simp [State.epochClosed, State.epochOpened, State.onRun]

theorem State.afterCommit_run {s : State} (c : Commit) (q : Word) (h : s.pwr.run = none) : (s.afterCommit c q).pwr.run = none := by
  unfold State.afterCommit
  repeat' split
  all_goals simp_all [State.epochClosed, State.epochOpened, State.onRun]

theorem State.publish_run (s : State) (c : Commit) (q : Word) (n : Nat) (a b h : Bytes) :
    (s.publish c q n a b h).pwr.run = s.pwr.run := by
  have hon : ∀ (s : State) (i : Nat), (s.domainOn i).pwr.run = s.pwr.run := fun s i => by
    unfold State.domainOn
    split <;> rfl
  unfold State.publish
  dsimp only
  repeat' split
  · rfl
  · exact hon _ _
  · rfl

/-- NVS and the ledger as a commit leaves them. -/
def State.entryNvs (s : State) (c : Commit) (l : Led) : Nvs :=
  let n := s.overwritten.counted c.kind
  { n with
    mem := nvWrite (s.writeEntry c).nvs.mem (anchorAddr s.led.nextSeq) l.anchor
    commits := n.commits + 1
    interleaved := if n.blocks.isEmpty then 0 else n.interleaved + 1
    recent := s.clk.ticks :: n.recent }

def State.entryLed (s : State) (c : Commit) : Led := s.ledWith (s.entryHead c) ((s.staging c).displaced.getD s.led.floorHead)

theorem State.commitEntry_eq (s : State) (rest : List Commit) (c : Commit) :
    ({ s with nvs := { s.nvs with queue := rest } }.commitEntry c).nvs = (s.committing rest).entryNvs c ((s.committing rest).entryLed c) ∧
    ({ s with nvs := { s.nvs with queue := rest } }.commitEntry c).led = (s.committing rest).entryLed c ∧
    ({ s with nvs := { s.nvs with queue := rest } }.commitEntry c).pwr.run = (s.committing rest).pwr.run := by
  unfold State.commitEntry
  refine ⟨?_, ?_, ?_⟩
  · simp only [State.publish_frame]
    rfl
  · simp only [State.publish_frame]
    rfl
  · exact State.publish_run _ _ _ _ _ _ _

/-- The bytes of a commit, in the order they are written. -/
theorem State.commitEntry_bytes (s : State) (rest : List Commit) (c : Commit) : ∃ anchor : Bytes, anchor.length = 256 ∧
    ({ s with nvs := { s.nvs with queue := rest } }.commitEntry c).nvs.mem =
      nvWrite (nvWrite (nvWrite s.nvs.mem (stageAddr s.led.nextSeq) (s.staging c).bytes) (slotAddr s.led.nextSeq) (s.entryBytes c))
        (anchorAddr s.led.nextSeq) anchor := by
  refine ⟨((s.committing rest).entryLed c).anchor, by simp, ?_⟩
  obtain ⟨hs, he, -⟩ := s.committing_entry rest c
  have hc := s.committing_eq rest
  have hq : (s.committing rest).led = s.led := by rw [hc]
  have hm : (s.committing rest).nvs.mem = s.nvs.mem := by rw [hc]
  rw [(s.commitEntry_eq rest c).1]
  simp only [State.entryNvs, State.writeEntry, State.writeStage, Nvs.setStage, hs, he, hq, hm]

theorem State.commitEntry_led (s : State) (rest : List Commit) (c : Commit) : ∃ floor,
    ({ s with nvs := { s.nvs with queue := rest } }.commitEntry c).led = s.ledWith (s.entryHead c) floor := by
  obtain ⟨-, -, hh⟩ := s.committing_entry rest c
  have hq : (s.committing rest).led = s.led := by rw [s.committing_eq rest]
  obtain ⟨-, he, -⟩ := s.commitEntry_eq rest c
  refine ⟨((s.committing rest).staging c).displaced.getD s.led.floorHead, he.trans ?_⟩
  rw [State.entryLed, State.ledWith, State.ledWith, hh, hq]

theorem State.commitEntry_nvs (s : State) (rest : List Commit) (c : Commit) :
    ({ s with nvs := { s.nvs with queue := rest } }.commitEntry c).nvs.queue = rest ∧
    ({ s with nvs := { s.nvs with queue := rest } }.commitEntry c).nvs.commits = s.nvs.commits + 1 ∧
    ({ s with nvs := { s.nvs with queue := rest } }.commitEntry c).nvs.interleaved =
      (if s.nvs.blocks = [] then 0 else s.nvs.interleaved + 1) ∧
    ({ s with nvs := { s.nvs with queue := rest } }.commitEntry c).nvs.transition = s.nvs.transition ∧
    ({ s with nvs := { s.nvs with queue := rest } }.commitEntry c).pwr.run = s.pwr.run := by
  have hc := s.committing_eq rest
  have hn : (s.committing rest).nvs = { s.nvs with queue := rest } := by rw [hc]
  have hr : (s.committing rest).pwr = s.pwr := by rw [hc]
  have hk : ∀ (x : State) (k : Kind), (x.overwritten.counted k).queue = x.nvs.queue ∧ (x.overwritten.counted k).commits = x.nvs.commits ∧
      (x.overwritten.counted k).interleaved = x.nvs.interleaved ∧ (x.overwritten.counted k).blocks = x.nvs.blocks ∧
      (x.overwritten.counted k).transitions = x.nvs.transitions := fun x k => by
    have ho : x.overwritten.queue = x.nvs.queue ∧ x.overwritten.commits = x.nvs.commits ∧
        x.overwritten.interleaved = x.nvs.interleaved ∧ x.overwritten.blocks = x.nvs.blocks ∧
        x.overwritten.transitions = x.nvs.transitions := by
      unfold State.overwritten
      dsimp only
      repeat' split
      all_goals exact ⟨rfl, rfl, rfl, rfl, rfl⟩
    cases k <;> exact ho
  obtain ⟨h1, h2, h3, h4, h5⟩ := hk (s.committing rest) c.kind
  obtain ⟨e1, -, e3⟩ := s.commitEntry_eq rest c
  rw [e1, e3]
  simp only [State.entryNvs, h1, h2, h3, h4, h5, hr, hn, Nvs.transition, List.isEmpty_iff, and_self]

/-- The store after a commit's three writes. -/
theorem State.entryWritten (s : State) (c : Commit) (anchor : Bytes) (hm : Memory.wf s.nvs.mem = true) (ha : anchor.length = 256) :
    let m := nvWrite (nvWrite (nvWrite s.nvs.mem (stageAddr s.led.nextSeq) (s.staging c).bytes) (slotAddr s.led.nextSeq) (s.entryBytes c))
      (anchorAddr s.led.nextSeq) anchor
    nvBytes m (slotAddr s.led.nextSeq) 128 = s.entryBytes c ∧
    nvBytes m (stageAddr s.led.nextSeq) (s.staging c).bytes.length = (s.staging c).bytes ∧
    ∀ a, (a < slotAddr s.led.nextSeq ∨ slotAddr s.led.nextSeq + 128 ≤ a) →
      (a < anchorAddr s.led.nextSeq ∨ anchorAddr s.led.nextSeq + 256 ≤ a) →
      (a < stageAddr s.led.nextSeq ∨ stageAddr s.led.nextSeq + (s.staging c).bytes.length ≤ a) → nvRead m a = nvRead s.nvs.mem a := by
  intro m
  have hslot := slotAddr_below s.led.nextSeq
  have hb : (s.entryBytes c).length = 128 := by simp
  have hstage : stageAddr s.led.nextSeq = 0x1D00400 + 0x200 * (s.led.nextSeq.toNat % 2) := rfl
  have hanchor : anchorAddr s.led.nextSeq = 0x1D00000 + 0x100 * (s.led.nextSeq.toNat % 2) := rfl
  refine ⟨?_, ?_, fun a h1 h2 h3 => ?_⟩
  · rw [nvBytes_nvWrite_apart _ _ _ (.inl (by omega)), ← hb, nvBytes_nvWrite _ _ _ (nvWrite_wf _ _ _ hm)]
  · rw [nvBytes_nvWrite_apart _ _ _ (.inr (by omega)), nvBytes_nvWrite_apart _ _ _ (.inr (by omega)), nvBytes_nvWrite _ _ _ hm]
  · rw [nvWrite_other _ _ _ _ (by omega), nvWrite_other _ _ _ _ (by omega), nvWrite_other _ _ _ _ h3]

theorem exec_nvsCommit {s : State} {c : Commit} {rest : List Commit} (hd : s.commitDue = true) (hq : s.nvs.queue = c :: rest) :
    exec .nvsCommit s = .next (s.commitHead c rest) := by
  simp [exec, execNvsCommit, hd, hq]

theorem ledgerCommitted_holds : ledgerCommitted := by
  intro s c rest hd hq hm
  have e := exec_nvsCommit hd hq
  obtain ⟨anchor, ha, hbytes⟩ := s.commitEntry_bytes rest c
  obtain ⟨floor, hled⟩ := s.commitEntry_led rest c
  obtain ⟨hqueue, hcommits, hinter, -, hpwr⟩ := s.commitEntry_nvs rest c
  generalize hx : ({ s with nvs := { s.nvs with queue := rest } } : State).commitEntry c = x at *
  obtain ⟨t, htx⟩ : ∃ t, s.commitHead c rest = t := ⟨_, rfl⟩
  have ht : t = (x.afterCommit c s.led.nextSeq).afterWork := by rw [← htx, ← hx]; rfl
  rw [htx] at e
  have hl : t.led.nextSeq = x.led.nextSeq ∧ t.led.lastHead = x.led.lastHead ∧ t.led.epoch = x.led.epoch ∧
      t.led.present = x.led.present := by
    simpa [ht] using x.afterCommit_led c s.led.nextSeq
  have hmem : t.nvs.mem = x.nvs.mem := by simp [ht]
  obtain ⟨hcommits', hinter', hqueue'⟩ := x.afterCommit_nvs c s.led.nextSeq
  have hdone : t.nvs.done = (x.afterCommit c s.led.nextSeq).nvs.done := by rw [ht, State.afterWork_done]
  have hrun : s.pwr.run = none → t.nvs.queue = rest := fun h => by
    rw [ht, State.afterWork_nvs (State.afterCommit_run c _ (hpwr.trans h)), hqueue', hqueue]
  have hrest : t.par = s.par ∧ t.role = s.role ∧ t.fw = s.fw ∧ t.reg = s.reg ∧ t.ctl = s.ctl ∧ t.ev = s.ev := by
    simp [← htx]
  obtain ⟨l1, l2, l3, l4⟩ := hl
  obtain ⟨hslot, hstage, hother⟩ := s.entryWritten c anchor hm ha
  refine ⟨t, _, e, rfl, ?_, ?_, ?_, ?_, ?_, ?_, ?_, hrun, ?_, ?_, hrest⟩
  · rw [l1, hled]; rfl
  · rw [l2, hled]; rfl
  · rw [l3, hled]; rfl
  · rw [l4, hled]; rfl
  · rw [hmem, hbytes, hslot]; rfl
  · rw [hmem, hbytes, hstage]
  · intro a h1 h2 h3
    rw [hmem, hbytes]
    exact hother a h1 h2 h3
  · exact (congrArg NvsDone.commits hdone).trans (hcommits'.trans hcommits)
  · exact (congrArg NvsDone.interleaved hdone).trans (hinter'.trans hinter)

theorem State.cutNvs_anchor {s : State} {c : Commit} {rest : List Commit} (b : Bytes) (hd : s.commitDue = true)
    (hq : s.nvs.queue = c :: rest) :
    s.cutNvs (.anchor b) = ((s.leaveBytes (stageAddr s.led.nextSeq) (s.staging c).bytes).leaveBytes (slotAddr s.led.nextSeq)
      (s.entryBytes c)).leaveBytes (anchorAddr s.led.nextSeq) b := by
  simp [State.cutNvs, State.cutEntry, cutStep, hq, hd, State.entryInHand, HandEntry.cut, HandEntry.staged, HandEntry.slotted,
    State.leaveBytes]

theorem State.cutFits_anchor {s : State} {c : Commit} {rest : List Commit} {b : Bytes} (hd : s.commitDue = true)
    (hq : s.nvs.queue = c :: rest) (hb : b.length = 256) : s.cutFits (.anchor b) = true := by
  simp [State.cutFits, State.cutEntry, cutStep, hq, hd, State.entryInHand, HandEntry.fits, hb]

/-- A loss of power that can cut what it cuts is taken. -/
theorem exec_powerOnReset_cut {s : State} {cut : NvsCut} (ht : s.tearFits ⟨0, 0, 0⟩ = true) (hc : s.cutFits cut = true) :
    exec (.powerOnReset { torn := ⟨0, 0, 0⟩, cut := cut }) s = .next (s.powerLost { torn := ⟨0, 0, 0⟩, cut := cut }) := by
  simp [exec, execPowerOnReset, ht, hc]

/-- The non-volatile memory and the parameters' records after a loss of power are those its cut left. -/
theorem State.powerLost_kept (s : State) (loss : PowerLoss) : (s.powerLost loss).nvs.mem = (s.cutNvs loss.cut).nvs.mem ∧
    (s.powerLost loss).par.persist = (s.cutNvs loss.cut).par.persist := by
  unfold State.powerLost State.tearOtp
  split <;> exact ⟨rfl, rfl⟩

theorem commitTorn_holds : commitTorn := by
  intro s c rest b hd hq hm htasks
  have ht : s.tearFits ⟨0, 0, 0⟩ = true := by simp [State.tearFits, htasks]
  have hentry : (s.entryBytes c).length = 128 := by simp
  have hslot := slotAddr_below s.led.nextSeq
  have hstage : stageAddr s.led.nextSeq = 0x1D00400 + 0x200 * (s.led.nextSeq.toNat % 2) := rfl
  have hanchor : anchorAddr s.led.nextSeq = 0x1D00000 + 0x100 * (s.led.nextSeq.toNat % 2) := rfl
  have hleave : ∀ (x : State) (a : Nat) (b : Bytes), (x.leaveBytes a b).nvs.mem = nvWrite x.nvs.mem a b := fun _ _ _ => rfl
  refine ⟨fun hb => ?_, fun hb => ?_⟩
  · refine ⟨_, exec_powerOnReset_cut ht (State.cutFits_slot hd hq hb), ?_⟩
    rw [(s.powerLost_kept _).1, State.cutNvs_slot b hd hq, hleave, hleave]
    refine ⟨?_, nvBytes_anchor _ _ _ _ hb, ?_⟩
    · rw [← hb]
      exact nvBytes_nvWrite _ _ _ (nvWrite_wf _ _ _ hm)
    · exact (nvBytes_nvWrite_apart _ _ _ (.inr (by omega))).trans (nvBytes_nvWrite _ _ _ hm)
  · refine ⟨_, exec_powerOnReset_cut ht (State.cutFits_anchor hd hq hb), ?_⟩
    rw [(s.powerLost_kept _).1, State.cutNvs_anchor b hd hq, hleave, hleave, hleave]
    refine ⟨?_, ?_⟩
    · rw [nvBytes_nvWrite_apart _ _ _ (.inl (by omega)), ← hentry]
      exact nvBytes_nvWrite _ _ _ (nvWrite_wf _ _ _ hm)
    · rw [← hb]
      exact nvBytes_nvWrite _ _ _ (nvWrite_wf _ _ _ (nvWrite_wf _ _ _ hm))

/-- A write cut short leaves the value in force, also where none was ever written. -/
theorem Copies.now_torn_any {α : Type} (c : Copies α) : c.torn.now = c.now := by
  by_cases h : c.a.isSome = true ∨ c.b.isSome = true
  · exact Copies.now_torn h
  · rcases c with ⟨_ | _, _ | _, r⟩
    · rfl
    all_goals simp at h

theorem recordAt_onRecordAt {α : Type} {f : Copies α → Copies α} (hf : ∀ c, (f c).now = c.now) (k : Nat) (l : Sparse (Copies α)) :
    recordAt k (onRecordAt f k l) = recordAt k l := by
  unfold recordAt onRecordAt
  cases h : spFind k l with
  | none => simp [h]
  | some c => simp [hf]

theorem twoCopies_holds : twoCopies := by
  refine ⟨fun c v => Copies.now_put v c, Copies.now_torn_any, fun c => ⟨rfl, rfl⟩, fun s id v ht hv => ?_⟩
  refine ⟨_, exec_powerOnReset_cut ht rfl, ?_⟩
  rw [(s.powerLost_kept _).2]
  exact (recordAt_onRecordAt Copies.now_torn_any id s.par.persist).trans hv

/-- Settles O27: the three writes of a commit lie apart, so that each stands and nothing else changes; a cut leaves those before it. -/
theorem ledgerCommit : Obligations.LedgerCommit := ⟨ledgerCommitted_holds, commitTorn_holds, twoCopies_holds⟩

end Sys2Proof.Machine

namespace Sys2Proof.Machine

/-! ## Proofs: the bytes of blocks cleared, copied and written (R183) -/

/-- A store of which the keys that `q` refuses are dropped. -/
theorem spGet_filter {α : Type} (d : α) (q : Nat → Bool) (m : Sparse α) (k : Nat) :
    spGet d k (m.filter fun c => q c.1) = if q k then spGet d k m else d := by
  induction m with
  | nil => simp [spGet]
  | cons c m ih =>
    obtain ⟨k', v⟩ := c
    by_cases hq : q k' = true <;> by_cases hk : k = k'
    · subst hk; simp [hq, spGet]
    · simp [hq, spGet, hk, ih]
    · subst hk; simp [hq, ih]
    · simp [hq, spGet, hk, ih]

theorem nvRead_nvClear (m : List Host.Cell) (lo hi x : Nat) :
    nvRead (nvClear m lo hi) x = if lo ≤ x ∧ x < hi then 0 else nvRead m x := by
  have h := spGet_filter (0 : Byte) (fun k => k < lo || hi ≤ k) m x
  rw [nvRead, nvClear]
  refine h.trans ?_
  by_cases hx : lo ≤ x ∧ x < hi
  · rw [if_neg (by simp; omega), if_pos hx]
  · rw [if_pos (by simp; omega), if_neg hx, nvRead]

/-- Cells written leave the addresses they do not name. -/
theorem nvRead_nvCells_other (m l : List Host.Cell) {x : Nat} (h : ∀ c ∈ l, c.1 ≠ x) : nvRead (nvCells m l) x = nvRead m x := by
  induction l generalizing m with
  | nil => rfl
  | cons c l ih =>
    refine (ih _ fun c' h' => h c' (List.mem_cons_of_mem _ h')).trans ?_
    exact spGet_spSet_other m c.2 (h c List.mem_cons_self).symm

/-- The keys of a canonical store are not below its bound. -/
theorem canonFrom_le {α : Type} [DecidableEq α] {d : α} {lo : Nat} {l : Sparse α} (h : canonFrom d lo l = true) : ∀ c ∈ l, lo ≤ c.1 := by
  induction l generalizing lo with
  | nil => simp
  | cons x l ih =>
    simp only [canonFrom, Bool.and_eq_true, decide_eq_true_eq] at h
    intro c hc
    rcases List.mem_cons.1 hc with rfl | hc
    · exact h.1.1
    · exact (by have := ih h.2 c hc; omega)

/-- Cells in canonical form, written where nothing is listed, read as they are. -/
theorem nvRead_nvCells {lo : Nat} {m l : List Host.Cell} {x : Nat} (hm : Memory.wf m = true) (hl : canonFrom (0 : Byte) lo l = true)
    (hx : nvRead m x = 0) : nvRead (nvCells m l) x = nvRead l x := by
  induction l generalizing m lo with
  | nil => exact hx
  | cons c l ih =>
    obtain ⟨k, v⟩ := c
    simp only [canonFrom, Bool.and_eq_true, decide_eq_true_eq] at hl
    by_cases hk : x = k
    · subst hk
      refine (nvRead_nvCells_other _ l fun c hc => ?_).trans ?_
      · have := canonFrom_le hl.2 c hc; omega
      · exact (spGet_spSet_same x v hm).trans (by simp [nvRead, spGet])
    · refine (ih (spSet_wf k v hm) hl.2 ((spGet_spSet_other m v hk).trans hx)).trans ?_
      simp [nvRead, spGet, hk]

theorem blockCells_mem {m : List Host.Cell} {a b : Nat} : ∀ c ∈ blockCells m a b, b ≤ c.1 ∧ c.1 < b + 4096 := by
  intro c hc
  simp only [blockCells, List.mem_map, List.mem_filter, Bool.and_eq_true, decide_eq_true_eq] at hc
  obtain ⟨y, ⟨-, h1, h2⟩, rfl⟩ := hc
  exact ⟨by omega, by show b + (y.1 - a) < _; omega⟩

theorem blockCells_cons (k : Nat) (v : Byte) (m : List Host.Cell) (a b : Nat) : blockCells ((k, v) :: m) a b =
    if a ≤ k ∧ k < a + 4096 then (b + (k - a), v) :: blockCells m a b else blockCells m a b := by
  by_cases h : a ≤ k ∧ k < a + 4096
  · simp [blockCells, h]
  · rw [if_neg h]
    simp only [blockCells, List.filter_cons, Bool.and_eq_true, decide_eq_true_eq, if_neg h]

theorem blockCells_canon {m : List Host.Cell} {a b lo : Nat} (h : canonFrom (0 : Byte) lo m = true) :
    canonFrom (0 : Byte) (b + (lo - a)) (blockCells m a b) = true := by
  induction m generalizing lo with
  | nil => rfl
  | cons c m ih =>
    obtain ⟨k, v⟩ := c
    simp only [canonFrom, Bool.and_eq_true, decide_eq_true_eq] at h
    have hr := ih h.2
    rw [blockCells_cons]
    split
    · rename_i hk
      simp only [canonFrom, Bool.and_eq_true, decide_eq_true_eq]
      refine ⟨⟨by omega, h.1.2⟩, ?_⟩
      rwa [show b + (k - a) + 1 = b + (k + 1 - a) by omega]
    · exact canonFrom_mono (by omega) hr

theorem nvRead_blockCells (m : List Host.Cell) (a b : Nat) {x : Nat} (h : b ≤ x) (h' : x < b + 4096) :
    nvRead (blockCells m a b) x = nvRead m (a + (x - b)) := by
  induction m with
  | nil => rfl
  | cons c m ih =>
    obtain ⟨k, v⟩ := c
    rw [blockCells_cons]
    unfold nvRead at ih ⊢
    split
    · by_cases hx : x = b + (k - a)
      · rw [spGet, if_pos hx, spGet, if_pos (by omega)]
      · rw [spGet, if_neg hx, spGet, if_neg (by omega), ih]
    · rw [spGet, if_neg (by omega), ih]

theorem nvRead_nvCopy {m : List Host.Cell} (hm : Memory.wf m = true) (a b x : Nat) :
    nvRead (nvCopy m a b) x = if b ≤ x ∧ x < b + 4096 then nvRead m (a + (x - b)) else nvRead m x := by
  rw [nvCopy]
  split
  · rename_i hx
    refine (nvRead_nvCells (nvClear_wf _ _ _ hm) (blockCells_canon (lo := 0) hm) ?_).trans (nvRead_blockCells m a b hx.1 hx.2)
    rw [nvRead_nvClear, if_pos hx]
  · rename_i hx
    refine (nvRead_nvCells_other _ _ fun c hc => ?_).trans ?_
    · have := blockCells_mem c hc; omega
    · rw [nvRead_nvClear, if_neg hx]

theorem nvRead_nvWrite {m : List Host.Cell} (hm : Memory.wf m = true) (a : Nat) (bs : Bytes) (x : Nat) :
    nvRead (nvWrite m a bs) x = if a ≤ x ∧ x < a + bs.length then bs.getD (x - a) 0 else nvRead m x := by
  induction bs generalizing m a with
  | nil =>
    rw [if_neg (by simp only [List.length_nil]; omega)]
    rfl
  | cons b bs ih =>
    rw [nvWrite, ih (spSet_wf a b hm)]
    by_cases hx : x = a
    · subst hx
      rw [if_neg (by omega), if_pos (by simp)]
      simpa [nvRead] using spGet_spSet_same x b hm
    · by_cases hr : a + 1 ≤ x ∧ x < a + 1 + bs.length
      · rw [if_pos hr, if_pos (by simp; omega), show x - a = (x - (a + 1)) + 1 by omega]
        simp
      · rw [if_neg hr, if_neg (by simp; omega)]
        exact spGet_spSet_other m b hx

theorem nvRead_nvBlock {m : List Host.Cell} (hm : Memory.wf m = true) (a : Nat) (b : Bytes) (x : Nat) :
    nvRead (nvBlock m a b) x = if a ≤ x ∧ x < a + 4096 then (b.take 4096).getD (x - a) 0 else nvRead m x := by
  rw [nvBlock, nvRead_nvWrite (nvClear_wf _ _ _ hm), nvRead_nvClear]
  have hlen : (b.take 4096).length ≤ 4096 := List.length_take_le ..
  by_cases hw : a ≤ x ∧ x < a + (b.take 4096).length
  · rw [if_pos hw, if_pos (by omega)]
  · rw [if_neg hw]
    split
    · rename_i hx
      rw [getD_of_length_le _ (by omega)]
    · rfl

/-! ## Proofs: the entries of an EPOCH operation -/

/-- The state after a commit and before what its kind sets off. -/
def State.withEntry (s : State) (rest : List Commit) (c : Commit) : State := { s with nvs := { s.nvs with queue := rest } }.commitEntry c

theorem State.withEntry_decided {s : State} (rest : List Commit) (c : Commit) (h : s.rst.decided = none) :
    (s.withEntry rest c).rst.decided = none := by
  have hw : ∀ (x : State) (b : Bool), x.rst.decided = none → (x.workDone b).rst.decided = none := fun x b hx => by
    unfold State.workDone
    rw [hx]
    exact hx
  have hp : ∀ (x : State) (c : Commit) (q : Word) (n : Nat) (a b h : Bytes), (x.publish c q n a b h).rst = x.rst := by simp
  exact (congrArg Rst.decided (hp _ _ _ _ _ _ _)).trans (hw _ _ h)

theorem State.commitHead_epoch {s : State} {c : Commit} (rest : List Commit) (hk : c.kind = .epoch) : s.commitHead c rest =
    (match s.nvs.transition with
     | none => (s.withEntry rest c).epochClosed s.led.nextSeq
     | some t => (s.withEntry rest c).epochOpened t).afterWork := by
  have ht : (s.withEntry rest c).nvs.transition = s.nvs.transition := (s.commitEntry_nvs rest c).2.2.2.1
  unfold State.commitHead State.afterCommit
  dsimp only
  rw [hk, ← ht]
  rfl

theorem epochEntries_holds : epochEntries := by
  intro s c rest hd hq hk
  have e := exec_nvsCommit hd hq
  have hc := s.commitHead_epoch rest hk
  obtain ⟨floor, hled⟩ := s.commitEntry_led rest c
  have hfus : (s.withEntry rest c).fus = s.fus := by simp [State.withEntry]
  have hx : (s.withEntry rest c).led = s.ledWith (s.entryHead c) floor := hled
  refine ⟨fun ht => ?_, fun r ht => ?_⟩
  · rw [ht] at hc
    obtain ⟨t, htx⟩ : ∃ t, ((s.withEntry rest c).epochClosed s.led.nextSeq).afterWork = t := ⟨_, rfl⟩
    have hdone : t.nvs.done = ((s.withEntry rest c).epochClosed s.led.nextSeq).nvs.done := by rw [← htx, State.afterWork_done]
    have hl : t.led = (s.withEntry rest c).led := by simp [← htx, State.epochClosed]
    have htr : t.nvs.transition = some ⟨s.led.epoch, s.led.epoch + 1, s.led.nextSeq, t.led.lastHead, s.led.epochDigest⟩ := by
      have h := congrArg NvsDone.transitions hdone
      rw [Nvs.transition, show t.nvs.transitions = _ from h, hl, hx]
      simp [State.epochClosed, Nvs.done, Nvs.putTransition, hx, State.ledWith]
    refine ⟨t, _, e.trans (by rw [hc, ← htx]), htr, rfl, rfl, rfl, rfl, rfl, fun hdec hrun => ?_⟩
    have hdec' := State.withEntry_decided rest c hdec
    have hrun' : (s.withEntry rest c).pwr.run = none := (s.commitEntry_nvs rest c).2.2.2.2.trans hrun
    simp [← htx, State.epochClosed, State.program, State.closing, hdec', hrun', hfus, hx, State.ledWith]
  · rw [ht] at hc
    obtain ⟨t, htx⟩ : ∃ t, ((s.withEntry rest c).epochOpened r).afterWork = t := ⟨_, rfl⟩
    have hdone : t.nvs.done = ((s.withEntry rest c).epochOpened r).nvs.done := by rw [← htx, State.afterWork_done]
    refine ⟨t, e.trans (by rw [hc, ← htx]), ?_, ?_, ?_, ?_⟩
    · rw [Nvs.transition, show t.nvs.transitions = _ from congrArg NvsDone.transitions hdone]
      simp [State.epochOpened, Nvs.done, Nvs.putTransition, Nvs.retain]
    · refine (congrArg NvsDone.prevEpochLast hdone).trans ?_
      simp [State.epochOpened, Nvs.done, Nvs.retain, Nvs.retained]
    · simp [← htx, State.epochOpened]
    · simp [← htx, State.epochOpened, hfus]

/-! ## Proofs: block operations -/

/-- NVS with the destination of a running block operation in the shadow block. -/
theorem State.shadowBlock_idle {s : State} (j : BlockJob) (h : s.nvs.journal.state ≠ .apply) :
    (s.shadowBlock j).nvs = { s.nvs with mem := nvCopy s.nvs.mem j.dest shadowAddr }.putJournal (j.journal .apply) := by
  rw [State.shadowBlock, if_neg h]

theorem State.shadowBlock_apply {s : State} (j : BlockJob) (h : s.nvs.journal.state = .apply) : s.shadowBlock j = s := by
  rw [State.shadowBlock, if_pos h]

/-- A tick changes nothing of NVS but what the block operation at work does. -/
theorem State.tick_nvs_eq (s : State) : ∃ x : State, s.tick.nvs = x.tickBlocks.nvs ∧ x.nvs = s.nvs ∧ x.pwr = s.pwr := by
  have h : ∃ x : State, s.tick = x.tickBlocks.tickWindows.tickMonitors.tickPins ∧ x.nvs = s.nvs ∧ x.pwr = s.pwr := ⟨_, rfl, rfl, rfl⟩
  obtain ⟨x, hx, hn, hp⟩ := h
  refine ⟨x, ?_, hn, hp⟩
  rw [hx]
  simp only [State.tickPins_frame, State.tickMonitors_frame, State.tickWindows_frame]

theorem State.tick_block {s : State} {j : BlockJob} {rest : List BlockJob} (hp : s.powered 41 = true) (hb : s.nvs.blocks = j :: rest) :
    (s.nvs.journal.state = .apply → s.tick.nvs = s.nvs) ∧
    (s.nvs.journal.state ≠ .apply →
      s.tick.nvs = { s.nvs with mem := nvCopy s.nvs.mem j.dest shadowAddr }.putJournal (j.journal .apply)) := by
  obtain ⟨x, hx, hn, hpw⟩ := s.tick_nvs_eq
  have hxp : x.powered 41 = true := by rw [State.powered, hpw]; exact hp
  have hxt : x.tickBlocks = x.shadowBlock j := by simp [State.tickBlocks, hn, hb, hxp]
  rw [hx, hxt]
  refine ⟨fun h => ?_, fun h => ?_⟩
  · rw [State.shadowBlock_apply j (by rw [hn]; exact h), hn]
  · rw [State.shadowBlock_idle j (by rw [hn]; exact h), hn]

theorem blockTicks {s : State} {j : BlockJob} {rest : List BlockJob} (hp : s.powered 41 = true) (hb : s.nvs.blocks = j :: rest)
    (hm : Memory.wf s.nvs.mem = true) :
    (s.pending = [] → s.nvs.journal.state ≠ .apply → ∃ t, step s = .next t ∧ t.nvs.blocks = s.nvs.blocks ∧
      t.nvs.journal = ⟨j.bytes.isNone, j.dest, j.source, .apply⟩ ∧ ∀ a, nvRead t.nvs.mem a =
        if shadowAddr ≤ a ∧ a < shadowAddr + 4096 then nvRead s.nvs.mem (j.dest + (a - shadowAddr)) else nvRead s.nvs.mem a) ∧
    (s.pending = [] → s.nvs.journal.state = .apply → ∃ t, step s = .next t ∧ t.nvs = s.nvs) := by
  obtain ⟨happly, hshadow⟩ := State.tick_block hp hb
  have hstep : s.pending = [] → step s = .next s.tick := fun h => by simp [step, h]
  refine ⟨fun h hj => ⟨_, hstep h, ?_⟩, fun h hj => ⟨_, hstep h, happly hj⟩⟩
  rw [hshadow hj]
  refine ⟨rfl, ?_, fun a => nvRead_nvCopy hm _ _ a⟩
  simp [Nvs.journal, Nvs.putJournal, BlockJob.journal]

/-- The state in which a block operation's end has its effects: the destination is written, and the next operation has its journal. -/
def State.blockNext (s : State) (j : BlockJob) (rest : List BlockJob) : State :=
  let s1 := (s.applyBlock j).progress [45]
  { s1 with nvs := { s1.nvs with blocks := rest, interleaved := 0 } }.startBlock

theorem exec_blockOperationDone {s : State} {j : BlockJob} {rest : List BlockJob} (hp : s.powered 41 = true) (hb : s.nvs.blocks = j :: rest) :
    exec .blockOperationDone s = .next (s.blockDone j rest) := by
  simp [exec, execBlockOperationDone, hb, hp]

theorem State.shadowBlock_bytes {s : State} (j : BlockJob) (hm : Memory.wf s.nvs.mem = true) (a : Nat) :
    nvRead (s.shadowBlock j).nvs.mem a = (if s.nvs.journal.state ≠ .apply ∧ shadowAddr ≤ a ∧ a < shadowAddr + 4096
      then nvRead s.nvs.mem (j.dest + (a - shadowAddr)) else nvRead s.nvs.mem a) ∧ Memory.wf (s.shadowBlock j).nvs.mem = true := by
  by_cases h : s.nvs.journal.state = .apply
  · rw [State.shadowBlock_apply j h, if_neg (fun x => x.1 h)]
    exact ⟨rfl, hm⟩
  · rw [State.shadowBlock_idle j h]
    refine ⟨(nvRead_nvCopy hm _ _ a).trans ?_, nvCopy_wf _ _ _ hm⟩
    by_cases ha : shadowAddr ≤ a ∧ a < shadowAddr + 4096
    · rw [if_pos ha, if_pos ⟨h, ha⟩]
    · rw [if_neg ha, if_neg (fun x => ha x.2)]

theorem State.writeBlock_mem (s : State) (j : BlockJob) : (s.writeBlock j).nvs.mem = (match j.bytes with
    | some b => nvBlock s.nvs.mem j.dest b
    | none => nvClear s.nvs.mem j.dest (j.dest + 4096)) := by
  have hw : ∀ (n : Nvs) (a : NvsArea), (n.wrote a).mem = n.mem := fun n a => by
    unfold Nvs.wrote
    repeat' split
    all_goals rfl
  unfold State.writeBlock
  cases nvsAreaOf j.dest with
  | none => rfl
  | some a => exact hw _ a

theorem State.blockNext_bytes {s : State} (j : BlockJob) (rest : List BlockJob) (hm : Memory.wf s.nvs.mem = true) (a : Nat) :
    nvRead (s.blockNext j rest).nvs.mem a =
      if j.dest ≤ a ∧ a < j.dest + 4096 then (match j.bytes with | some b => (b.take 4096).getD (a - j.dest) 0 | none => 0)
      else if s.nvs.journal.state ≠ .apply ∧ shadowAddr ≤ a ∧ a < shadowAddr + 4096 then nvRead s.nvs.mem (j.dest + (a - shadowAddr))
      else nvRead s.nvs.mem a := by
  obtain ⟨hread, hwf⟩ := State.shadowBlock_bytes j hm a
  have hmem : (s.blockNext j rest).nvs.mem = ((s.shadowBlock j).writeBlock j).nvs.mem := by
    simp only [State.blockNext, State.startBlock_frame]
    rfl
  rw [hmem, State.writeBlock_mem, ← hread]
  cases j.bytes with
  | none => exact nvRead_nvClear _ _ _ _
  | some b => exact nvRead_nvBlock hwf _ _ _

theorem State.blockNext_nvs (s : State) (j : BlockJob) (rest : List BlockJob) : (s.blockNext j rest).nvs.blocks = rest ∧
    (s.blockNext j rest).nvs.queue = s.nvs.queue ∧ (s.blockNext j rest).nvs.transition = s.nvs.transition ∧
    (rest = [] → (s.blockNext j rest).nvs.journal = ⟨j.bytes.isNone, j.dest, j.source, .idle⟩) ∧
    (∀ k l, rest = k :: l → (s.blockNext j rest).nvs.journal = ⟨k.bytes.isNone, k.dest, k.source, .shadow⟩) := by
  have hw : ∀ (n : Nvs) (a : NvsArea), (n.wrote a).queue = n.queue ∧ (n.wrote a).transitions = n.transitions := fun n a => by
    unfold Nvs.wrote
    repeat' split
    all_goals exact ⟨rfl, rfl⟩
  have hwb : ∀ x : State, (x.writeBlock j).nvs.queue = x.nvs.queue ∧ (x.writeBlock j).nvs.transitions = x.nvs.transitions := fun x => by
    unfold State.writeBlock
    cases nvsAreaOf j.dest with
    | none => exact ⟨rfl, rfl⟩
    | some a => exact hw _ a
  have hsb : (s.shadowBlock j).nvs.queue = s.nvs.queue ∧ (s.shadowBlock j).nvs.transitions = s.nvs.transitions := by
    unfold State.shadowBlock
    split <;> exact ⟨rfl, rfl⟩
  obtain ⟨hq, ht⟩ := hwb (s.shadowBlock j)
  rw [Nvs.transition, Nvs.transition]
  cases rest with
  | nil =>
    exact ⟨rfl, hq.trans hsb.1, congrArg (·.get none) (ht.trans hsb.2), fun _ => Copies.get_put _ _ _, fun k l h => nomatch h⟩
  | cons k l =>
    refine ⟨rfl, hq.trans hsb.1, congrArg (·.get none) (ht.trans hsb.2), (nomatch ·), fun k' l' h => ?_⟩
    obtain ⟨rfl, rfl⟩ := List.cons.inj h
    exact Copies.get_put _ _ _

/-- What block operations that have ended leave as it was. -/
theorem State.blockEnds_nvs (s : State) (y : BlockEnd) : (s.blockEnds y).nvs.blocks = s.nvs.blocks ∧
    (s.blockEnds y).nvs.journal = s.nvs.journal ∧ (y ≠ .ledgerCleared → (s.blockEnds y).nvs.mem = s.nvs.mem) := by
  have hw : ∀ (n : Nvs) (a : NvsArea), (n.wrote a).blocks = n.blocks ∧ (n.wrote a).journal = n.journal ∧
      ((n.wrote a).mem = n.mem) := fun n a => by
    unfold Nvs.wrote
    repeat' split
    all_goals exact ⟨rfl, rfl, rfl⟩
  cases y with
  | part => exact ⟨rfl, rfl, fun _ => rfl⟩
  | ledgerCleared =>
    unfold State.blockEnds
    dsimp only
    split
    · exact ⟨rfl, rfl, fun h => absurd rfl h⟩
    · exact ⟨rfl, rfl, fun _ => rfl⟩
  | imageLoaded => exact ⟨rfl, rfl, fun _ => rfl⟩
  | tableDone n d l => exact ⟨(hw _ _).1, (hw _ _).2.1, fun _ => (hw _ _).2.2⟩

theorem State.blockNext_kept (s : State) (j : BlockJob) (rest : List BlockJob) : (s.blockNext j rest).led = s.led ∧
    (s.blockNext j rest).fw = s.fw ∧ (s.blockNext j rest).tab = s.tab ∧ (s.blockNext j rest).fus = s.fus ∧
    (s.blockNext j rest).pwr = s.pwr ∧ (s.blockNext j rest).reg = s.reg ∧ (s.blockNext j rest).lnk = s.lnk ∧
    (s.blockNext j rest).par = s.par ∧ (s.blockNext j rest).role = s.role ∧ (s.blockNext j rest).pin = s.pin := by
  simp [State.blockNext]

theorem State.blockEnds_par (s : State) (y : BlockEnd) : (s.blockEnds y).par = s.par := by
  unfold State.blockEnds
  repeat' split
  all_goals rfl

/-- The end of a block operation outside a closing run: what its effects leave, and what the rest of the row does not change. -/
theorem State.blockDone_kept {s : State} (j : BlockJob) (rest : List BlockJob) (hr : s.pwr.run = none) :
    (s.blockDone j rest).nvs = ((s.blockNext j rest).blockEnds j.done).nvs ∧
    (s.blockDone j rest).led = ((s.blockNext j rest).blockEnds j.done).led ∧
    (s.blockDone j rest).fw = ((s.blockNext j rest).blockEnds j.done).fw ∧
    (s.blockDone j rest).tab = ((s.blockNext j rest).blockEnds j.done).tab ∧
    (s.blockDone j rest).reg = s.reg ∧ (s.blockDone j rest).lnk = s.lnk ∧ (s.blockDone j rest).par = s.par ∧
    (s.blockDone j rest).fus = s.fus ∧ (s.blockDone j rest).role = s.role ∧ (s.blockDone j rest).pin = s.pin := by
  obtain ⟨-, -, -, hfus, hpwr, hreg, hlnk, hpar, hrole, hpin⟩ := s.blockNext_kept j rest
  have hd : s.blockDone j rest = (((((s.blockNext j rest).blockEnds j.done).workDone false).releaseReplies)).afterWork := rfl
  have hrun : (((((s.blockNext j rest).blockEnds j.done).workDone false).releaseReplies)).pwr.run = none := by simp [hpwr, hr]
  rw [hd, State.afterWork_nvs hrun]
  simp [hreg, hlnk, hpar, hfus, hrole, hpin, State.blockEnds_par]

theorem blockOperation_holds : blockOperation := by
  intro s j rest hp hb hr hm
  obtain ⟨hshadow, hstay⟩ := blockTicks hp hb hm
  refine ⟨hshadow, hstay, _, exec_blockOperationDone hp hb, ?_⟩
  obtain ⟨hnvs, hled, hfw, htab, hrest⟩ := State.blockDone_kept j rest hr
  obtain ⟨kled, kfw, ktab, kfus, -⟩ := s.blockNext_kept j rest
  obtain ⟨hblocks, hjournal, hmem⟩ := (s.blockNext j rest).blockEnds_nvs j.done
  obtain ⟨nblocks, nqueue, ntrans, nidle, nshadow⟩ := s.blockNext_nvs j rest
  have hbytes := State.blockNext_bytes j rest hm
  rw [hnvs, hled, hfw, htab]
  generalize s.blockNext j rest = u at *
  refine ⟨hblocks.trans nblocks, fun h => hjournal.trans (nidle h), fun k l h => hjournal.trans (nshadow k l h),
    fun h a => ?_, fun h => ?_, fun r h ht => ?_, fun h => ?_, fun d n h => ?_, hrest⟩
  · rw [hmem h]
    exact hbytes a
  · rw [h]
    exact ⟨kled, kfw, ktab⟩
  · have ht' : u.nvs.transition = some r := ntrans.trans ht
    simp only [h, State.blockEnds, ht', State.epochOpening, State.openLedger, State.genesisAfter, kfus, true_and]
    exact congrArg (r.opening :: ·) nqueue
  · simp only [h, State.blockEnds, State.imageLoaded, kfw, ktab, Fw.update, Fw.loaded, Fw.putStatus, Fw.retained, Copies.get_put,
      true_and, and_true]
    rfl
  · simp only [h, State.blockEnds, State.tableInForce, ktab, Tab.record, if_true, true_and]
    exact ⟨_, Copies.now_put _ _, rfl, rfl, rfl⟩

/-- Settles O28: a commit's kind and a block operation's end have their effects on NVS and the ledger alone. -/
theorem epochAndBlocks : Obligations.EpochAndBlocks := ⟨epochEntries_holds, blockOperation_holds⟩

end Sys2Proof.Machine

namespace Sys2Proof.Machine

/-! ## Proofs: the ledger's rate and the retention accounts (R186) -/

theorem exec_ledgerRateUpdate {s : State} (h : s.pwr.released = true) : exec .ledgerRateUpdate s = .next s.updateRate := by
  simp [exec, execLedgerRateUpdate, h]

theorem ledgerRate_holds : ledgerRate := by
  intro s h
  refine ⟨_, exec_ledgerRateUpdate h, rfl, fun hr => ?_, rfl⟩
  simp [hr]

theorem exec_retentionUpdate {s : State} (c : Int) (h : s.pwr.released = true) :
    exec (.retentionUpdate c) s = .next (s.updateRetention (s.retentionTemp c)) := by
  simp [exec, execRetentionUpdate, h]

/-- The root search keeps the root between `lo` and `lo + 2 ^ n`. -/
theorem root160_spec {x n lo : Nat} (hlo : lo ^ 160 ≤ x) (hhi : x < (lo + 2 ^ n) ^ 160) :
    root160 x n lo ^ 160 ≤ x ∧ x < (root160 x n lo + 1) ^ 160 := by
  induction n generalizing lo with
  | zero => exact ⟨hlo, by simpa [root160] using hhi⟩
  | succ n ih =>
    rw [root160]
    split
    · rename_i h
      exact ih h (by rwa [Nat.add_assoc, ← Nat.two_mul, ← Nat.pow_succ'])
    · rename_i h
      exact ih hlo (Nat.lt_of_not_le h)

/-- Above 85 °C a second counts as the 20th root of the power of 2, rounded down. -/
theorem retentionSecond_spec {t : Int} (h : 680 < t) (h' : t < 3240) : retentionSecond t ^ 160 ≤ 2 ^ (4440 + t.toNat) ∧
    2 ^ (4440 + t.toNat) < (retentionSecond t + 1) ^ 160 := by
  rw [retentionSecond, if_neg (by omega)]
  refine root160_spec (by simp) ?_
  rw [Nat.zero_add, ← Nat.pow_mul]
  exact Nat.pow_lt_pow_right (by omega) (by omega)

theorem retention_holds : retention := by
  refine ⟨fun s c h => ⟨_, _, exec_retentionUpdate c h, rfl, rfl, ?_⟩, fun t h => if_pos h, fun t h h' => retentionSecond_spec h h'⟩
  exact Copies.get_put _ _ _

/-- Settles O29: the rate counts the commits that the window keeps; the power of 2 is found by a search between two bounds. -/
theorem ledgerAccounts : Obligations.LedgerAccounts := ⟨ledgerRate_holds, retention_holds⟩

end Sys2Proof.Machine

namespace Sys2Proof.Machine

/-! ## Proofs: watchdog registrations and check-ins (16) -/

theorem exec_wdgRegister {s : State} (v : Word) (h : s.coreRuns = true) :
    exec (.wdgRegister v) s = .next ((s.progress [60]).writeWdgRegister v.toNat) := by
  simp [exec, execWdgRegister, h]

theorem exec_wdgCheckin {s : State} (v : Word) (h : s.coreRuns = true) :
    exec (.wdgCheckin v) s = .next ((s.progress [60]).writeWdgCheckin v.toNat) := by
  simp [exec, execWdgCheckin, h]

/-- A running core is released, and outside a closing run. -/
theorem State.coreRuns_spec {s : State} (h : s.coreRuns = true) : s.pwr.released = true ∧ s.pwr.run = none := by
  simp only [State.coreRuns, State.closing, Bool.and_eq_true, Bool.not_eq_true', Option.isSome_eq_false_iff, Option.isNone_iff_eq_none] at h
  exact ⟨h.1.1.1.1, h.1.2⟩

/-- A first decision. -/
theorem State.decideWith_new {s : State} (cause : Cause) (detail : Nat) (mask strict : BitVec 16) (hr : s.pwr.released = true)
    (hc : s.pwr.run = none) (ho : s.pwr.state ≠ .offHold) (hd : s.rst.decided = none) :
    s.decideWith cause detail mask strict = s.decideNew cause detail mask strict := by
  simp [State.decideWith, State.closing, hr, hc, ho, hd]

theorem watchdogRegister_holds : watchdogRegister := by
  intro s v h
  have hbit : v.toNat.testBit 4 = v.getLsbD 4 := rfl
  refine ⟨fun ⟨hfree, hlo, hhi⟩ => (exec_wdgRegister v h).trans ?_, fun hno => (exec_wdgRegister v h).trans ?_⟩
  · rw [State.writeWdgRegister, if_neg (by simp [State.progress, hfree]; omega), hbit]
    rfl
  · rw [State.writeWdgRegister, if_pos ?_]
    · rfl
    · simp only [State.progress, Bool.or_eq_true, Option.isSome_iff_ne_none, decide_eq_true_eq]
      refine Classical.byContradiction fun hc => ?_
      simp only [not_or, Classical.not_not, Nat.not_lt] at hc
      exact hno ⟨hc.1.1, hc.1.2, hc.2⟩

/-- The slots and counts a check-in leaves. -/
def State.checkedIn (s : State) (slot : Nat) (w : WdgSlot) : State :=
  { s with wdg := { s.wdg with
    counts := spErase 60 s.wdg.counts
    slots := spPut slot { w with checkins := w.checkins + 1 } s.wdg.slots
    doubles := if w.checkins = 0 then s.wdg.doubles else s.wdg.doubles + 1 } }

theorem State.checkIn_eq (s : State) (slot : Nat) (w : WdgSlot) : (s.progress [60]).checkIn slot w =
    if w.checkins != 1 then s.checkedIn slot w
    else
      let s2 := (s.checkedIn slot w).raise 0x0B s.now (leBytes 1 slot ++ leBytes 1 (boolNat w.strict) ++ zeros 2 ++ leBytes 4 2)
      if w.strict then s2.decideWith .wdogTask 2 0 (BitVec.ofNat 16 (2 ^ slot)) else s2 := rfl

theorem watchdogCheckin_holds : watchdogCheckin := by
  intro s v h
  obtain ⟨hreleased, hrun⟩ := State.coreRuns_spec h
  have e := exec_wdgCheckin v h
  refine ⟨fun hn => e.trans ?_, fun w hw => ?_⟩
  · rw [State.writeWdgCheckin, show (s.progress [60]).wdg.slots = s.wdg.slots from rfl, hn]
    rfl
  rw [State.writeWdgCheckin, show (s.progress [60]).wdg.slots = s.wdg.slots from rfl, hw] at e
  dsimp only at e
  rw [State.checkIn_eq] at e
  by_cases h1 : w.checkins = 1
  · rw [if_neg (by simp [h1])] at e
    dsimp only at e
    refine ⟨_, e, ?_⟩
    by_cases hs : w.strict = true
    · rw [if_pos hs]
      refine ⟨by simp [State.checkedIn], fun hn => absurd h1 hn, fun _ => ⟨?_, fun hf => by simp [hs] at hf⟩, fun _ _ ho hd => ?_, by simp [State.checkedIn]⟩
      · simp [State.raise_ev_seq, State.checkedIn]
      · rw [State.decideWith_new]
        · exact ⟨_, rfl, rfl, rfl, rfl, by simp [State.now, State.checkedIn]⟩
        all_goals simp [State.checkedIn, hreleased, hrun, ho, hd]
    · rw [if_neg hs]
      refine ⟨by simp [State.checkedIn], fun hn => absurd h1 hn, fun _ => ⟨?_, fun _ => by simp [State.checkedIn]⟩, fun _ hs' => absurd hs' hs,
        by simp [State.checkedIn]⟩
      simp [State.raise_ev_seq, State.checkedIn]
  · rw [if_pos (by simp [h1])] at e
    exact ⟨_, e, rfl, fun _ => rfl, fun h => absurd h h1, fun h => absurd h h1, rfl, rfl, rfl, rfl, rfl, rfl, rfl⟩

/-- Settles O30: a registration and a check-in write their slot; the second check-in of a window also raises its event and decides. -/
theorem watchdog : Obligations.Watchdog := ⟨watchdogRegister_holds, watchdogCheckin_holds⟩

end Sys2Proof.Machine

namespace Sys2Proof.Machine

/-! ## Proofs: a monitor's count at a tick in which its unit of progress falls (16) -/

/-- Dropping a key keeps the canonical form, and the key then reads as unlisted. -/
theorem spErase_canon {α : Type} [DecidableEq α] {d : α} {m : Sparse α} {lo : Nat} (k : Nat) (h : canonFrom d lo m = true) :
    canonFrom d lo (spErase k m) = true ∧ spGet d k (spErase k m) = d := by
  induction m generalizing lo with
  | nil => exact ⟨rfl, rfl⟩
  | cons x m ih =>
    obtain ⟨k', v⟩ := x
    simp only [canonFrom, Bool.and_eq_true, decide_eq_true_eq] at h
    obtain ⟨⟨hlo, hv⟩, hm⟩ := h
    by_cases hk : k = k'
    · subst hk
      rw [spErase, if_pos rfl]
      exact ⟨canonFrom_mono (by omega) hm, spGet_below hm (by omega)⟩
    · rw [spErase, if_neg hk]
      simp only [canonFrom, Bool.and_eq_true, decide_eq_true_eq, spGet, if_neg hk]
      exact ⟨⟨⟨hlo, hv⟩, (ih hm).1⟩, (ih hm).2⟩

/-- The one-cycle instruction of a sequencer is done by a tick, so that it goes on there. -/
def Shade.goesOn (x : Shade) (ticks : Nat) : Bool := x.target.isSome && (x.state = .running && x.next ≤ ticks)

/-- A sequencer that goes on at a tick is progress of monitor 58; nothing else that a tick does to a sequencer changes a count. -/
theorem State.tickShade_wdg (s : State) (q : Nat) :
    (s.tickShade q).wdg = if (s.shadeAt q).goesOn s.clk.ticks then (s.progress [58]).wdg else s.wdg := by
  have hgo : ∀ (x : Shade) (pc n : Nat), (s.goShade q x pc n).wdg = (s.progress [58]).wdg := fun x pc n => by
    unfold State.goShade
    dsimp only
    split <;> simp
  unfold State.tickShade
  dsimp only
  cases h : (s.shadeAt q).target with
  | none =>
    dsimp only
    rw [if_neg (by simp [Shade.goesOn, h])]
    split <;> simp
  | some pc =>
    dsimp only
    by_cases hg : ((s.shadeAt q).state = ShadeState.running && (s.shadeAt q).next ≤ s.clk.ticks) = true
    · rw [if_pos hg, if_pos (by rw [Shade.goesOn, h]; exact hg), ← hgo (s.shadeAt q) pc (s.shadeAt q).next]
      split <;> simp
    · rw [if_neg hg, if_neg (by rw [Shade.goesOn, h]; exact hg)]
      split <;> simp

/-- The counts are canonical, and monitor 58 has counted nothing. -/
def State.freshCycle (s : State) : Prop := canonFrom 0 0 s.wdg.counts = true ∧ spGet 0 58 s.wdg.counts = 0

theorem State.freshCycle_tickShade {s : State} (q : Nat) (h : canonFrom 0 0 s.wdg.counts = true)
    (hf : s.freshCycle ∨ (s.shadeAt q).goesOn s.clk.ticks = true) : (s.tickShade q).freshCycle := by
  unfold State.freshCycle
  rw [State.tickShade_wdg]
  split
  · exact spErase_canon 58 h
  · rename_i hn
    exact hf.resolve_right hn

theorem State.freshCycle_foldl {s : State} (l : List Nat) (h : s.freshCycle) : (l.foldl State.tickShade s).freshCycle := by
  induction l generalizing s with
  | nil => exact h
  | cons q l ih => exact ih (State.freshCycle_tickShade q h.1 (.inl h))

/-- Where the first sequencer goes on at a tick, monitor 58 has counted nothing after it. -/
theorem State.tickPins_freshCycle {s : State} (h : canonFrom 0 0 s.wdg.counts = true) (hg : (s.shadeAt 0).goesOn s.clk.ticks = true) :
    s.tickPins.freshCycle := by
  have hs : ∀ x : State, x.wdg = s.wdg → x.clk = s.clk → x.pin.shade = s.pin.shade → ((List.range 4).foldl State.tickShade x).freshCycle := by
    intro x hw hc hp
    rw [show List.range 4 = 0 :: [1, 2, 3] from rfl, List.foldl_cons]
    refine State.freshCycle_foldl _ (State.freshCycle_tickShade 0 (by rw [hw]; exact h) (.inr ?_))
    rw [State.shadeAt, hp, hc]
    exact hg
  have hw : s.tickPins.wdg = ((List.range 4).foldl State.tickShade { s with pin := { s.pin with tint := s.pin.tint.map Tint.tick } }).wdg := by
    unfold State.tickPins
    dsimp only
    split <;> simp
  unfold State.freshCycle
  rw [hw]
  exact hs _ rfl rfl rfl

theorem State.tickMonitors_canon {s : State} (h : canonFrom 0 0 s.wdg.counts = true) : canonFrom 0 0 s.tickMonitors.wdg.counts = true := by
  have hf : ∀ (l : List Nat) (m : Sparse Nat), canonFrom 0 0 m = true →
      canonFrom 0 0 (l.foldl (fun l m => spSet 0 m (min (monitorTimeout m) (spGet 0 m l + 1)) l) m) = true := fun l => by
    induction l with
    | nil => exact fun _ hm => hm
    | cons k l ih => exact fun m hm => ih _ (spSet_wf k _ hm)
  exact hf _ _ h

/-- Sequencer 0 runs, and the instruction at its word 0 is done by the next tick; monitor 58 has counted 5 ticks. -/
def instructionDone : State :=
  { pwr := { released := true, state := .active, domains := 0x10000000000000 }
    pin := { shade := #v[{ state := .running, length := 1, target := some 0 }, {}, {}, {}] }
    wdg := { counts := [(58, 5)] } }

theorem instructionDone_tick : instructionDone.tick.freshCycle := by
  unfold State.tick
  refine State.tickPins_freshCycle (State.tickMonitors_canon ?_) ?_
  · have hw : ∀ x : State, x.tickWindows.wdg.counts = x.wdg.counts := fun x => by
      unfold State.tickWindows
      split <;> rfl
    rw [hw]
    simp [instructionDone, canonFrom]
  · simp [State.shadeAt, instructionDone, Shade.goesOn, Clk.tick]

/-- Refutes O31: a monitor's count after a tick need not be one more than before. The tick comes to the pins after the monitors have
counted, so that a sequencer that goes on at that tick starts the count of monitor 58 again (R374): from 5 it goes to 0. -/
theorem not_decidedResets : ¬ Obligations.DecidedResets := by
  rintro ⟨-, -, hcounts, -⟩
  obtain ⟨t, ht, hcount⟩ := (hcounts instructionDone 58).1 rfl (by decide)
  have he : step instructionDone = .next instructionDone.tick := by simp [step, instructionDone]
  rw [he] at ht
  obtain rfl := Host.Outcome.next.inj ht
  rw [instructionDone_tick.2, show spGet 0 58 instructionDone.wdg.counts = 5 from rfl,
    show monitorTimeout 58 = 125000 from rfl] at hcount
  split at hcount <;> omega

end Sys2Proof.Machine

namespace Sys2Proof.Machine

/-! ## Proofs: a decided reset carried out (16) -/

theorem State.recordBytes_length (s : State) (h : RecordHead) : (s.recordBytes h).length = 128 := by
  have hf : ((List.range 16).flatMap (fun k => leBytes 1 (min 255 (s.wdg.checkinsOf k)))).length = 16 := by
    simp only [List.length_flatMap, leBytes_length]
    decide
  unfold State.recordBytes
  simp only [List.length_append, leBytes_length, zeros_length, hf]

/-- The fields of a record that R377 and R381 settle. -/
theorem State.recordBytes_fields (s : State) (h : RecordHead) : leAt 0 4 (s.recordBytes h) = s.rst.retained.recordSeq.toNat ∧
    leAt 4 1 (s.recordBytes h) = h.cause.code ∧ leAt 8 8 (s.recordBytes h) = h.decision.toNat ∧
    leAt 24 4 (s.recordBytes h) = h.holdoff % 2 ^ 32 := by
  have hc : h.cause.code < 256 := by cases h.cause <;> decide
  have hs := s.rst.retained.recordSeq.isLt
  have hd := h.decision.isLt
  refine ⟨?_, ?_, ?_, ?_⟩ <;>
    simp [State.recordBytes, leAt, slice_append_skip, slice_append_here, leNat_leBytes, List.append_assoc]
  all_goals omega

/-- What a device reset keeps, and what it brings to its reset value, beside `ResetDone`. -/
structure ResetKept (s : State) (record : Bool) (t : State) : Prop where
  record : t.rst.record = record
  decided : t.rst.decided = none
  tally : t.rst.tally = s.rst.tally
  ready : t.ctl.ready = false
  reg : t.reg = {}
  wdg : t.wdg = {}
  installers : t.role.installers = s.role.installers
  maker : t.role.maker = s.role.maker
  colTable : t.tab.colTable = s.tab.colTable
  words : t.fus.words = s.fus.words
  units : t.fus.units = s.fus.units

theorem State.resetDevice_kept (s : State) (cause : Cause) (missing : BitVec 16) (record : Bool) :
    ResetKept s record (s.resetDevice cause missing record) := by
  rw [State.resetDevice_eq]
  split <;> constructor <;> simp [State.resetBase, State.wiped, Tab.kept]

theorem ResetDone.genNo {s t : State} {c : Cause} {m : BitVec 16} (h : ResetDone s c m t) (v : Nat) :
    (t.viewAt v).genNo = 0 := by
  rw [State.viewAt_fresh h.view]

theorem longestHold_eq (held : Nat) : longestHold held = holdoffBound held := rfl

/-- A decided reset whose hold-off has ended is carried out. -/
theorem exec_resetExecute {s : State} {d : Decided} {k : Nat} (hd : s.rst.decided = some d) (hr : s.pwr.run = none)
    (hk : d.endBy s.clk.ticks = some k) : exec .resetExecute s = .next (s.carryOut { d with ended := some k }) := by
  simp [exec, execResetExecute, hd, hk, State.closing, hr]

/-- The state in which a decided reset is made: the record is in the ring, and the retained values say so. -/
def State.recorded (s : State) (d : Decided) : State :=
  let missing := if d.cause = .wdogTask then d.mask else 0
  let s1 := s.writeRecord d.head
  { s1 with rst := s1.rst.retain fun t => { t with
    missingLast := if d.cause = Cause.wdogTask then missing else t.missingLast
    monitorLast := if d.cause = Cause.wdogProgress then d.detail else t.monitorLast
    holdoffMax := if t.holdoffMax.toNat < d.holdoff then BitVec.ofNat 32 d.holdoff else t.holdoffMax } }

theorem State.carryOut_eq (s : State) (d : Decided) :
    s.carryOut d = (s.recorded d).resetDevice d.cause (if d.cause = .wdogTask then d.mask else 0) true := rfl

theorem State.recorded_retained (s : State) (d : Decided) :
    (s.recorded d).rst.retained.recordSeq = s.rst.retained.recordSeq + 1 ∧
    (s.recorded d).rst.retained.records = min 256 (s.rst.retained.records + 1) := by
  simp [State.recorded, State.writeRecord, Rst.retain, Rst.retained]

theorem State.recorded_mem (s : State) (d : Decided) : (s.recorded d).nvs.mem =
    nvWrite s.nvs.mem (recordAddr s.rst.retained.recordSeq.toNat) (s.recordBytes d.head) := by
  simp only [State.recorded, State.writeRecord]

/-- What is kept is that of the state in which the reset was decided. -/
theorem State.recorded_kept (s : State) (d : Decided) : (s.recorded d).pad = s.pad ∧ (s.recorded d).role = s.role ∧
    (s.recorded d).par = s.par ∧ (s.recorded d).tab = s.tab ∧ (s.recorded d).fus = s.fus := ⟨rfl, rfl, rfl, rfl, rfl⟩

/-- The record of a reset in the ring, and the bytes around it. -/
theorem State.recorded_bytes (s : State) (d : Decided) :
    (∀ a, (a < recordAddr s.rst.retained.recordSeq.toNat ∨ recordAddr s.rst.retained.recordSeq.toNat + 128 ≤ a) →
      nvRead (s.recorded d).nvs.mem a = nvRead s.nvs.mem a) ∧
    (Memory.wf s.nvs.mem = true →
      nvBytes (s.recorded d).nvs.mem (recordAddr s.rst.retained.recordSeq.toNat) 128 = s.recordBytes d.head) := by
  have hlen := s.recordBytes_length d.head
  rw [State.recorded_mem]
  refine ⟨fun a ha => nvWrite_other _ _ _ _ (by omega), fun hm => ?_⟩
  rw [← hlen]
  exact nvBytes_nvWrite _ _ _ hm

/-- Settles O32: up to the end of the hold-off nothing happens; then the record is written and the device reset keeps what R281 names. -/
theorem resetExecuted : Obligations.ResetExecuted := by
  intro s d hd hr
  refine ⟨fun he hlt => ?_, fun k hk => ?_⟩
  · have hb : d.endBy s.clk.ticks = none := by
      rw [longestHold_eq] at hlt
      simp [Decided.endBy, he, hlt]
    simp [exec, execResetExecute, hd, hb]
  · have hb : d.endBy s.clk.ticks = some k := by
      rcases hk with he | ⟨he, hle, rfl⟩
      · simp [Decided.endBy, he]
      · rw [longestHold_eq] at hle ⊢
        simp [Decided.endBy, he, hle]
    have e := exec_resetExecute hd hr hb
    rw [State.carryOut_eq] at e
    obtain ⟨hseq, hrecords⟩ := s.recorded_retained { d with ended := some k }
    obtain ⟨hother, hbytes⟩ := s.recorded_bytes { d with ended := some k }
    obtain ⟨kpad, krole, kpar, ktab, kfus⟩ := s.recorded_kept { d with ended := some k }
    generalize s.recorded { d with ended := some k } = x at *
    have done := x.resetDevice_done d.cause (if d.cause = .wdogTask then d.mask else 0) true
    have kept := x.resetDevice_kept d.cause (if d.cause = .wdogTask then d.mask else 0) true
    have hretained := congrArg (fun c : Copies RstTally => c.get {}) kept.tally
    refine ⟨_, e, done.cause, kept.record, done.missing, kept.decided, ?_, ?_, ?_, ?_, done.state, ?_, kept.ready, kept.reg, kept.wdg,
      fun v _ => ⟨done.views v, done.genNo v⟩, ?_, ?_, ?_, ?_, ?_, ?_, ?_⟩
    · exact (congrArg RstTally.recordSeq hretained).trans hseq
    · exact (congrArg RstTally.records hretained).trans hrecords
    · rw [done.mem]
      exact hother
    · rintro b rfl hm
      rw [done.mem, hbytes hm]
      exact s.recordBytes_fields _
    · rw [done.released, kpad]
    · rw [done.operators, krole]
    · rw [kept.installers, krole]
    · rw [kept.maker, krole]
    · rw [done.persist, kpar]
    · rw [kept.colTable, ktab]
    · rw [kept.words, kfus]
    · rw [kept.units, kfus]

end Sys2Proof.Machine

namespace Sys2Proof.Machine

/-! ## Proofs: a fuse item programmed (14) -/

theorem exec_otpProgramDone {s : State} {r : OtpReads} {k : OtpTask} {rest : List OtpTask} (hp : s.powered 53 = true)
    (hq : s.fus.tasks = k :: rest) :
    exec (.otpProgramDone r) s = .next (if s.fus.pulseFits k r then s.pulseDone k rest r else s) := by
  simp [exec, execOtpProgramDone, hq, hp]

theorem Fus.pulsed_word (f : Fus) {k : OtpTask} {w : Nat} (r : OtpReads) (h : k.item = .word w) :
    (f.pulsed k r).words = spSet blankReads w r f.words ∧ (f.pulsed k r).units = f.units ∧
    (f.pulsed k r).latWords = (if k.purpose = .reinforce then f.latWords else spSet blankReads w r f.latWords) ∧
    (f.pulsed k r).latUnits = f.latUnits := by
  unfold Fus.pulsed
  rw [h]
  split <;> exact ⟨rfl, rfl, rfl, rfl⟩

theorem Fus.pulsed_unit (f : Fus) {k : OtpTask} {u : Nat} (r : OtpReads) (h : k.item = .unit u) :
    (f.pulsed k r).units = spSet blankReads u r f.units ∧ (f.pulsed k r).words = f.words ∧
    (f.pulsed k r).latUnits = (if k.purpose = .reinforce then f.latUnits else spSet blankReads u r f.latUnits) ∧
    (f.pulsed k r).latWords = f.latWords := by
  unfold Fus.pulsed
  rw [h]
  split <;> exact ⟨rfl, rfl, rfl, rfl⟩

theorem Fus.pulsed_kept (f : Fus) (k : OtpTask) (r : OtpReads) :
    (f.pulsed k r).lifecycle = f.lifecycle ∧ (f.pulsed k r).bank = f.bank := by
  unfold Fus.pulsed Fus.putLatch Fus.putReads
  repeat' split
  all_goals exact ⟨rfl, rfl⟩

/-- The state in which the end of a pulse has its effects. -/
def State.pulseMade (s : State) (k : OtpTask) (rest : List OtpTask) (r : OtpReads) : State :=
  { s with fus := { s.fus.pulsed k r with tasks := rest } }.progress [47]

/-- The end of a pulse outside a closing run: what it leaves, and what its purpose lets go on. -/
theorem State.pulseDone_kept {s : State} (k : OtpTask) (rest : List OtpTask) (r : OtpReads) (hr : s.pwr.run = none) :
    (s.pulseDone k rest r).fus = { s.fus.pulsed k r with tasks := rest } ∧
    (s.pulseDone k rest r).nvs = ((s.pulseMade k rest r).afterPulse k.purpose).nvs ∧
    (s.pulseDone k rest r).led = ((s.pulseMade k rest r).afterPulse k.purpose).led ∧
    (s.pulseDone k rest r).reg = s.reg ∧ (s.pulseDone k rest r).par = s.par ∧ (s.pulseDone k rest r).role = s.role ∧
    (s.pulseDone k rest r).fw = s.fw := by
  have hd : s.pulseDone k rest r = ((((s.pulseMade k rest r).afterPulse k.purpose).workDone false).releaseReplies).afterWork := rfl
  have hrun : ((((s.pulseMade k rest r).afterPulse k.purpose).workDone false).releaseReplies).pwr.run = none := by
    simpa [State.pulseMade] using hr
  rw [hd, State.afterWork_nvs hrun]
  simp [State.pulseMade]

/-- The clearing of the ledger asks for its 4096 blocks, where none was asked for before. -/
theorem State.clearLedger_spec (s : State) : s.clearLedger.led = { s.led with epochState := .clearing } ∧
    (s.rst.decided = none → s.pwr.run = none → s.nvs.blocks = [] → s.clearLedger.nvs.blocks.length = 4096) := by
  refine ⟨by simp [State.clearLedger], fun hd hr hb => ?_⟩
  have hstart : ∀ x : State, x.startBlock.nvs.blocks = x.nvs.blocks := fun x => by
    unfold State.startBlock
    split
    · rfl
    · rfl
  simp [State.clearLedger, State.addBlocks, State.mayStart, State.closing, hd, hr, hb, hstart]

theorem otpProgrammed_holds : otpProgrammed := by
  intro s r k rest hp hq
  have e := exec_otpProgramDone (r := r) hp hq
  refine ⟨fun hno => e.trans (by rw [if_neg (by simp [hno])]), fun hfit => ?_, fun hfit hr => ?_⟩
  · simp only [Fus.pulseFits, Bool.and_eq_true] at hfit
    simpa using hfit.2
  rw [if_pos hfit] at e
  obtain ⟨hfus, hnvs, hled, hrest⟩ := State.pulseDone_kept k rest r hr
  have hkept := s.fus.pulsed_kept k r
  refine ⟨_, e, fun w hw => ?_, fun u hu => ?_, ?_, ?_, ?_, fun hk => ?_, fun hk => ?_, hrest⟩
  · rw [hfus]
    exact s.fus.pulsed_word r hw
  · rw [hfus]
    exact s.fus.pulsed_unit r hu
  · rw [hfus]
  · rw [hfus]
    exact hkept.1
  · rw [hfus]
    exact hkept.2
  · rw [hnvs, hled, State.afterPulse, if_neg hk]
    exact ⟨rfl, rfl⟩
  · obtain ⟨hl, hb⟩ := (s.pulseMade k rest r).clearLedger_spec
    rw [hnvs, hled, State.afterPulse, if_pos hk]
    exact ⟨hl, fun hd hn => hb hd hr hn⟩

/-! ## Proofs: the background reading of the array (R341, R342) -/

/-- An event outside a closing run, with the mailbox open, waits for the ring. -/
theorem State.raise_waiting {s : State} (code : Nat) (time : Word64) (args : Bytes) (hr : s.pwr.run = none) (hc : s.ctl.ready = true) :
    (s.raise code time args).ev.waiting = s.ev.waiting ++ [eventRecord code s.ev.seq time args] := by
  simp [State.raise, State.holdRecord, State.closing, hr, hc]

/-- A lock or retirement unit (R342). -/
def driftLock (u : Nat) : Bool := 1283 ≤ u && u ≤ 1292

/-- An event shows the drift of an item with its reads. -/
def State.showsDrift (s t : State) (item region : Nat) (r : OtpReads) : Prop :=
  ∃ q, eventRecord 0x0D q s.clk.time (fuseArgs item region r) ∈ t.ev.waiting

/-- The entry to Vermilion between two states raised its event. -/
def State.entryEvents (s t : State) : Nat := if s.sea.vermilion = 0 ∧ t.sea.vermilion ≠ 0 ∧ s.fus.lifecycle ≠ 3 then 1 else 0

/-- From `s` to `t` the drifts of the words `W` and of the units `U` have been reported, and nothing else done. -/
structure Reported (s t : State) (W U : List Nat) : Prop where
  fus : t.fus = { s.fus with
    driftWords := W ++ s.fus.driftWords, driftUnits := U ++ s.fus.driftUnits
    driftCount := s.fus.driftCount + BitVec.ofNat 32 (W.length + U.length) }
  seq : t.ev.seq = s.ev.seq + BitVec.ofNat 32 (W.length + U.length + s.entryEvents t)
  lock : U.any driftLock = true → t.sea.vermilion = s.sea.vermilion ||| 4
  other : U.any driftLock = false → t.sea = s.sea ∧ t.view = s.view
  waiting : s.pwr.run = none → s.ctl.ready = true → (∀ r ∈ s.ev.waiting, r ∈ t.ev.waiting) ∧
    (∀ w ∈ W, s.showsDrift t w 0 (spGet blankReads w s.fus.words)) ∧ (∀ u ∈ U, s.showsDrift t u 1 (spGet blankReads u s.fus.units))
  new : ∀ u ∈ U, u ∉ s.fus.driftUnits
  run : s.pwr.run = none → t.pwr.run = none
  mem : t.nvs.mem = s.nvs.mem
  kept : t.par = s.par ∧ t.role = s.role ∧ t.ctl = s.ctl ∧ t.clk = s.clk

theorem Reported.refl (s : State) : Reported s s [] [] where
  fus := by simp
  seq := by
    have h : s.entryEvents s = 0 := if_neg fun h => h.2.1 h.1
    simp [h]
  lock := by simp
  other := fun _ => ⟨rfl, rfl⟩
  waiting := fun _ _ => ⟨fun _ h => h, by simp, by simp⟩
  new := by simp
  run := id
  mem := rfl
  kept := ⟨rfl, rfl, rfl, rfl⟩

/-- Whether a lock unit drifted settles what becomes of the Vermilion causes. -/
theorem Reported.vermilion {s t : State} {W U : List Nat} (h : Reported s t W U) :
    t.sea.vermilion = if U.any driftLock then s.sea.vermilion ||| 4 else s.sea.vermilion := by
  split
  · next hl => exact h.lock hl
  · next hl => rw [(h.other (Bool.not_eq_true _ ▸ hl)).1]

theorem or_four_ne_zero (n : Nat) : n ||| 4 ≠ 0 := fun h => by
  have := (Nat.or_eq_zero_iff.1 h).2
  omega

theorem Reported.trans {s t u : State} {W U W' U' : List Nat} (h : Reported s t W U) (h' : Reported t u W' U') :
    Reported s u (W' ++ W) (U' ++ U) where
  fus := by
    rw [h'.fus, h.fus]
    simp only [List.append_assoc, List.length_append, Fus.mk.injEq, true_and, and_true]
    rw [BitVec.add_assoc, ← BitVec.ofNat_add]
    congr 2
    omega
  seq := by
    have hv := h.vermilion
    have hv' := h'.vermilion
    have hl : t.fus.lifecycle = s.fus.lifecycle := by rw [h.fus]
    have hne := or_four_ne_zero
    have he : s.entryEvents u = s.entryEvents t + t.entryEvents u := by
      unfold State.entryEvents
      rw [hv', hv, hl]
      cases U.any driftLock <;> cases U'.any driftLock <;> by_cases h0 : s.sea.vermilion = 0 <;>
        by_cases h3 : s.fus.lifecycle = 3 <;> simp [h0, h3, hne]
    rw [h'.seq, h.seq, he, BitVec.add_assoc, ← BitVec.ofNat_add]
    congr 2
    simp only [List.length_append]
    omega
  lock := fun hl => by
    rw [List.any_append] at hl
    rw [h'.vermilion, h.vermilion]
    cases h1 : U.any driftLock <;> cases h2 : U'.any driftLock
    · simp [h1, h2] at hl
    · rfl
    · rfl
    · simp only [if_true, Nat.or_assoc, Nat.or_self]
  other := fun hn => by
    rw [List.any_append, Bool.or_eq_false_iff] at hn
    obtain ⟨e1, e2⟩ := h.other hn.2
    obtain ⟨e3, e4⟩ := h'.other hn.1
    exact ⟨e3.trans e1, e4.trans e2⟩
  waiting := fun hr hc => by
    obtain ⟨hold, hw, hu⟩ := h.waiting hr hc
    obtain ⟨hold', hw', hu'⟩ := h'.waiting (h.run hr) (by rw [h.kept.2.2.1]; exact hc)
    have hclk : t.clk = s.clk := h.kept.2.2.2
    have hf := h.fus
    refine ⟨fun r h => hold' r (hold r h), fun w hm => ?_, fun w hm => ?_⟩
    · rcases List.mem_append.1 hm with hm | hm
      · simpa [State.showsDrift, hclk, hf] using hw' w hm
      · obtain ⟨q, hq⟩ := hw w hm
        exact ⟨q, hold' _ hq⟩
    · rcases List.mem_append.1 hm with hm | hm
      · simpa [State.showsDrift, hclk, hf] using hu' w hm
      · obtain ⟨q, hq⟩ := hu w hm
        exact ⟨q, hold' _ hq⟩
  new := fun u hu => by
    rcases List.mem_append.1 hu with hu | hu
    · have := h'.new u hu
      rw [h.fus] at this
      exact fun hs => this (List.mem_append_right _ hs)
    · exact h.new u hu
  run := fun hr => h'.run (h.run hr)
  mem := h'.mem.trans h.mem
  kept := by
    obtain ⟨a, b, c, d⟩ := h.kept
    obtain ⟨a', b', c', d'⟩ := h'.kept
    exact ⟨a'.trans a, b'.trans b, c'.trans c, d'.trans d⟩

/-- Every open segment closes with the flag VERMILION. -/
def State.closeVermilion (s : State) (l : List Nat) : State :=
  l.foldl (fun s v => (s.onView v fun x =>
    { x with segments := x.segments.map fun g => { g.dropAwaited with complete := true, vermilion := true } }).settle v) s

theorem State.closeVermilion_spec (s : State) (l : List Nat) : (s.closeVermilion l).sea.vermilion = s.sea.vermilion ∧
    (s.closeVermilion l).ev = s.ev ∧ (s.closeVermilion l).ctl = s.ctl ∧
    (s.pwr.run = none → (s.closeVermilion l).pwr.run = none) := by
  refine ⟨by simp [State.closeVermilion], by simp [State.closeVermilion], by simp [State.closeVermilion], ?_⟩
  induction l generalizing s with
  | nil => exact id
  | cons v l ih => exact fun h => ih _ (State.settle_run v (by simpa using h))

/-- The state in which the first entry to Vermilion outside GRAPHITE raises its event. -/
def State.vermilionEntered (s : State) (bit : Nat) : State :=
  let s1 := { s with sea := { s.sea with vermilion := s.sea.vermilion ||| 2 ^ bit, prompt := [], resign := [] } }.setIrq 6
  let s2 := s1.closeVermilion (List.range 32)
  { s2 with ev := { s2.ev with vermilionEntry := some s2.clk.ticks, vermilionLast := s2.clk.ticks } }

theorem State.vermilionEntered_spec (s : State) (bit : Nat) :
    (s.vermilionEntered bit).sea.vermilion = s.sea.vermilion ||| 2 ^ bit ∧ (s.vermilionEntered bit).ev.seq = s.ev.seq ∧
    (s.vermilionEntered bit).ev.waiting = s.ev.waiting ∧ (s.vermilionEntered bit).ctl = s.ctl ∧
    (s.pwr.run = none → (s.vermilionEntered bit).pwr.run = none) := by
  obtain ⟨hsea, hev, hctl, hrun⟩ := State.closeVermilion_spec
    ({ s with sea := { s.sea with vermilion := s.sea.vermilion ||| 2 ^ bit, prompt := [], resign := [] } }.setIrq 6) (List.range 32)
  unfold State.vermilionEntered
  dsimp only
  generalize State.closeVermilion _ _ = x at *
  exact ⟨by simpa using hsea, by simp [hev], by simp [hev], by simpa using hctl, fun hr => hrun (by simpa using hr)⟩

theorem State.enterVermilion_first {s : State} (bit : Nat) (h : s.sea.vermilion = 0) (hg : s.fus.lifecycle ≠ 3) : s.enterVermilion bit =
    (s.vermilionEntered bit).raise 0x13 (s.vermilionEntered bit).now
      (leBytes 1 (s.sea.vermilion ||| 2 ^ bit) ++ zeros 3 ++ leBytes 4 0) := by
  unfold State.enterVermilion State.vermilionEntered State.closeVermilion
  exact (if_neg (by simp [h])).trans ((if_neg hg).trans rfl)

/-- Entering Vermilion: the cause is latched, and the first entry outside GRAPHITE raises its event. -/
theorem State.enterVermilion_spec (s : State) (bit : Nat) : (s.enterVermilion bit).sea.vermilion = s.sea.vermilion ||| 2 ^ bit ∧
    (s.enterVermilion bit).ev.seq = s.ev.seq + (if s.sea.vermilion = 0 ∧ s.fus.lifecycle ≠ 3 then 1 else 0) ∧
    (s.pwr.run = none → (s.enterVermilion bit).pwr.run = none) ∧
    (s.pwr.run = none → s.ctl.ready = true → ∀ r ∈ s.ev.waiting, r ∈ (s.enterVermilion bit).ev.waiting) := by
  by_cases hf : s.sea.vermilion = 0 ∧ s.fus.lifecycle ≠ 3
  · obtain ⟨hsea, hseq, hwait, hctl, hrun⟩ := s.vermilionEntered_spec bit
    rw [State.enterVermilion_first bit hf.1 hf.2, if_pos hf]
    refine ⟨by simpa using hsea, by rw [State.raise_ev_seq, hseq], fun hr => by simpa using hrun hr, fun hr hc r hm => ?_⟩
    rw [State.raise_waiting _ _ _ (hrun hr) (by rw [hctl]; exact hc), hwait]
    exact List.mem_append_left _ hm
  · rw [if_neg hf]
    unfold State.enterVermilion
    by_cases hv : s.sea.vermilion = 0
    · have hg : s.fus.lifecycle = 3 := Classical.byContradiction fun hg => hf ⟨hv, hg⟩
      simp [hv, hg]
    · simp [hv]

/-- A drift noted, and its event raised. -/
def State.noteDrift (s : State) (f : Fus) (args : Bytes) : State := { s with fus := f }.raise 0x0D s.now args

theorem State.noteDrift_spec (s : State) (f : Fus) (args : Bytes) : (s.noteDrift f args).fus = f ∧
    (s.noteDrift f args).ev.seq = s.ev.seq + 1 ∧ (s.noteDrift f args).sea = s.sea ∧ (s.noteDrift f args).view = s.view ∧
    (s.noteDrift f args).pwr = s.pwr ∧ (s.noteDrift f args).nvs = s.nvs ∧
    ((s.noteDrift f args).par = s.par ∧ (s.noteDrift f args).role = s.role ∧ (s.noteDrift f args).ctl = s.ctl ∧
      (s.noteDrift f args).clk = s.clk) ∧
    (s.pwr.run = none → s.ctl.ready = true →
      (s.noteDrift f args).ev.waiting = s.ev.waiting ++ [eventRecord 0x0D s.ev.seq s.clk.time args]) := by
  unfold State.noteDrift
  exact ⟨by simp, State.raise_ev_seq _ _ _ _, by simp, by simp, by simp, by simp, by simp, fun hr hc => State.raise_waiting _ _ _ hr hc⟩

/-- The drift of a word reported, if it is one and was not before. -/
theorem State.driftWord_reported (s : State) (w : Nat) : ∃ W, Reported s (s.driftWord w (spGet blankReads w s.fus.words)) W [] ∧
    (resolvedWord (spGet blankReads w s.fus.words) ≠ resolvedWord (spGet blankReads w s.fus.latWords) → w ∈ W ++ s.fus.driftWords) := by
  unfold State.driftWord
  split
  · next h =>
    simp only [Bool.or_eq_true, List.contains_iff_mem, decide_eq_true_eq] at h
    exact ⟨[], .refl s, fun hn => h.resolve_right hn⟩
  · obtain ⟨hfus, hseq, hsea, hview, hpwr, hnvs, hkept, hwait⟩ := s.noteDrift_spec
      { s.fus with driftWords := w :: s.fus.driftWords, driftCount := s.fus.driftCount + 1 } (fuseArgs w 0 (spGet blankReads w s.fus.words))
    change ∃ W, Reported s (s.noteDrift _ _) W [] ∧ _
    generalize s.noteDrift _ _ = x at *
    refine ⟨[w], ?_, fun _ => by simp⟩
    constructor
    case fus => simp [hfus]
    case seq => rw [hseq, State.entryEvents, hsea, if_neg fun h => h.2.1 h.1]; rfl
    case lock => simp
    case other => exact fun _ => ⟨hsea, hview⟩
    case waiting =>
      intro hr hc
      have hw := hwait hr hc
      refine ⟨fun r h => by rw [hw]; exact List.mem_append_left _ h, fun y hy => ?_, by simp⟩
      obtain rfl := List.mem_singleton.1 hy
      exact ⟨s.ev.seq, by rw [hw]; exact List.mem_append_right _ (List.mem_singleton.2 rfl)⟩
    case new => simp
    case run => exact fun hr => by rw [hpwr]; exact hr
    case mem => rw [hnvs]
    case kept => exact hkept

theorem State.driftUnit_reported (s : State) (u : Nat) : ∃ U, Reported s (s.driftUnit u (spGet blankReads u s.fus.units)) [] U ∧
    (readsSet (spGet blankReads u s.fus.units) ≠ readsSet (spGet blankReads u s.fus.latUnits) → u ∈ U ++ s.fus.driftUnits) := by
  unfold State.driftUnit
  split
  · next h =>
    simp only [Bool.or_eq_true, List.contains_iff_mem, decide_eq_true_eq] at h
    exact ⟨[], .refl s, fun hn => h.resolve_right hn⟩
  · next hnew =>
    simp only [Bool.or_eq_true, List.contains_iff_mem, decide_eq_true_eq, not_or] at hnew
    obtain ⟨hfus, hseq, hsea, hview, hpwr, hnvs, hkept, hwait⟩ := s.noteDrift_spec
      { s.fus with driftUnits := u :: s.fus.driftUnits, driftCount := s.fus.driftCount + 1 } (fuseArgs u 1 (spGet blankReads u s.fus.units))
    change ∃ U, Reported s (if driftLock u then (s.noteDrift _ _).enterVermilion 2 else s.noteDrift _ _) [] U ∧ _
    generalize s.noteDrift _ _ = x at *
    obtain ⟨hpar, hrole, hctl, hclk⟩ := hkept
    refine ⟨[u], ?_, fun _ => by simp⟩
    cases hu : driftLock u
    · rw [if_neg (by simp)]
      constructor
      case fus => simp [hfus]
      case seq => rw [hseq, State.entryEvents, hsea, if_neg fun h => h.2.1 h.1]; rfl
      case lock => simp [hu]
      case other => exact fun _ => ⟨hsea, hview⟩
      case waiting =>
        intro hr hc
        have hw := hwait hr hc
        refine ⟨fun r h => by rw [hw]; exact List.mem_append_left _ h, by simp, fun y hy => ?_⟩
        obtain rfl := List.mem_singleton.1 hy
        exact ⟨s.ev.seq, by rw [hw]; exact List.mem_append_right _ (List.mem_singleton.2 rfl)⟩
      case new => simpa using hnew.1
      case run => exact fun hr => by rw [hpwr]; exact hr
      case mem => rw [hnvs]
      case kept => exact ⟨hpar, hrole, hctl, hclk⟩
    · obtain ⟨vcause, vseq, vrun, vwait⟩ := x.enterVermilion_spec 2
      rw [if_pos rfl]
      constructor
      case fus => simp [hfus]
      case seq =>
        have hne := or_four_ne_zero s.sea.vermilion
        rw [vseq, hseq, hsea, hfus, State.entryEvents, vcause, hsea]
        by_cases h0 : s.sea.vermilion = 0 <;> by_cases h3 : s.fus.lifecycle = 3 <;> simp [h0, h3, BitVec.add_assoc]
      case lock => exact fun _ => vcause.trans (congrArg (fun v : Sea => v.vermilion ||| 4) hsea)
      case other => simp [hu]
      case waiting =>
        intro hr hc
        have hw := vwait (by rw [hpwr]; exact hr) (by rw [hctl]; exact hc)
        rw [hwait hr hc] at hw
        refine ⟨fun r h => hw r (List.mem_append_left _ h), by simp, fun y hy => ?_⟩
        obtain rfl := List.mem_singleton.1 hy
        exact ⟨s.ev.seq, hw _ (List.mem_append_right _ (List.mem_singleton.2 rfl))⟩
      case new => simpa using hnew.1
      case run => exact fun hr => vrun (by rw [hpwr]; exact hr)
      case mem => simp [hnvs]
      case kept => simp [hpar, hrole, hctl, hclk]

/-- A word's value in the array is not the one latched; a unit's. -/
def Fus.wordDrifts (f : Fus) (w : Nat) : Prop := resolvedWord (spGet blankReads w f.words) ≠ resolvedWord (spGet blankReads w f.latWords)
def Fus.unitDrifts (f : Fus) (u : Nat) : Prop := readsSet (spGet blankReads u f.units) ≠ readsSet (spGet blankReads u f.latUnits)

theorem State.driftWords_reported (s : State) (l : List Nat) :
    ∃ W, Reported s (l.foldl (fun s w => s.driftWord w (spGet blankReads w s.fus.words)) s) W [] ∧
      ∀ w ∈ l, s.fus.wordDrifts w → w ∈ W ++ s.fus.driftWords := by
  induction l generalizing s with
  | nil => exact ⟨[], .refl s, by simp⟩
  | cons w l ih =>
    obtain ⟨W, hW, hw⟩ := s.driftWord_reported w
    rw [List.foldl_cons]
    generalize s.driftWord w _ = x at *
    obtain ⟨W', hW', hw'⟩ := ih x
    refine ⟨W' ++ W, hW.trans hW', fun y hy hd => ?_⟩
    rw [List.append_assoc]
    rcases List.mem_cons.1 hy with rfl | hy
    · exact List.mem_append_right _ (hw hd)
    · have := hw' y hy (by rw [hW.fus]; exact hd)
      rwa [hW.fus] at this

theorem State.driftUnits_reported (s : State) (l : List Nat) :
    ∃ U, Reported s (l.foldl (fun s u => s.driftUnit u (spGet blankReads u s.fus.units)) s) [] U ∧
      ∀ u ∈ l, s.fus.unitDrifts u → u ∈ U ++ s.fus.driftUnits := by
  induction l generalizing s with
  | nil => exact ⟨[], .refl s, by simp⟩
  | cons u l ih =>
    obtain ⟨U, hU, hu⟩ := s.driftUnit_reported u
    rw [List.foldl_cons]
    generalize s.driftUnit u _ = x at *
    obtain ⟨U', hU', hu'⟩ := ih x
    refine ⟨U' ++ U, hU.trans hU', fun y hy hd => ?_⟩
    rw [List.append_assoc]
    rcases List.mem_cons.1 hy with rfl | hy
    · exact List.mem_append_right _ (hu hd)
    · have := hu' y hy (by rw [hU.fus]; exact hd)
      rwa [hU.fus] at this

/-- What a store does not list reads as its default. -/
theorem spGet_unlisted {α : Type} {d : α} {k : Nat} {m : Sparse α} (h : k ∉ m.map Prod.fst) : spGet d k m = d := by
  induction m with
  | nil => rfl
  | cons x m ih =>
    simp only [List.map_cons, List.mem_cons, not_or] at h
    rw [spGet, if_neg h.1, ih h.2]

/-- An item that neither the array nor the latch lists does not drift. -/
theorem Fus.wordDrifts_listed {f : Fus} {w : Nat} (h : f.wordDrifts w) : w ∈ f.listedWords := by
  rw [Fus.listedWords, List.mem_eraseDups]
  refine Classical.byContradiction fun hn => ?_
  simp only [List.map_append, List.mem_append, not_or] at hn
  exact h (by rw [spGet_unlisted hn.1, spGet_unlisted hn.2])

theorem Fus.unitDrifts_listed {f : Fus} {u : Nat} (h : f.unitDrifts u) : u ∈ f.listedUnits := by
  rw [Fus.listedUnits, List.mem_eraseDups]
  refine Classical.byContradiction fun hn => ?_
  simp only [List.map_append, List.mem_append, not_or] at hn
  exact h (by rw [spGet_unlisted hn.1, spGet_unlisted hn.2])

/-- A reading reports every item that drifts, and no other. -/
theorem State.reportDrift_reported (s : State) : ∃ W U, Reported s s.reportDrift W U ∧
    (∀ w, s.fus.wordDrifts w → w ∈ W ++ s.fus.driftWords) ∧ (∀ u, s.fus.unitDrifts u → u ∈ U ++ s.fus.driftUnits) := by
  obtain ⟨W, hW, hw⟩ := s.driftWords_reported s.fus.listedWords
  unfold State.reportDrift
  dsimp only
  generalize List.foldl _ s s.fus.listedWords = x at *
  obtain ⟨U, hU, hu⟩ := x.driftUnits_reported x.fus.listedUnits
  have h := hW.trans hU
  simp only [List.nil_append, List.append_nil] at h
  refine ⟨W, U, h, fun w hd => hw w (Fus.wordDrifts_listed hd) hd, fun u hd => ?_⟩
  have hx : x.fus.unitDrifts u := by rw [hW.fus]; exact hd
  have := hu u (Fus.unitDrifts_listed hx) hx
  rw [hW.fus] at this
  exact this

theorem fuseArgs_word {w : Nat} (r : OtpReads) (h : seedWord w = false) : fuseArgs w 0 r =
    leBytes 2 w ++ [0, 0] ++ leBytes 4 (wordData r.normal) ++ leBytes 4 (wordData r.low) ++ leBytes 4 (wordData r.high) := by
  simp [fuseArgs, h, readField, leBytes, zeros]

theorem fuseArgs_unit (u : Nat) (r : OtpReads) : fuseArgs u 1 r =
    leBytes 2 u ++ [1, 0] ++ leBytes 4 (r.normal % 8) ++ leBytes 4 (r.low % 8) ++ leBytes 4 (r.high % 8) := by
  simp [fuseArgs, readField, leBytes, zeros]

/-- A reading gives the array's reads alone. -/
theorem Fus.drifted_eq (f : Fus) (l : List (OtpItem × OtpReads)) :
    f.drifted l = { f with words := (f.drifted l).words, units := (f.drifted l).units } := by
  unfold Fus.drifted
  induction l generalizing f with
  | nil => rfl
  | cons x l ih =>
    rw [List.foldl_cons, ih]
    unfold Fus.putReads
    split <;> rfl

/-- The state in which a reading's drifts are reported. -/
def State.reading (s : State) (l : List (OtpItem × OtpReads)) : State :=
  { s with fus := { s.fus.drifted l with readTick := s.clk.ticks } }.progress [48]

theorem State.reading_fus (s : State) (l : List (OtpItem × OtpReads)) : (s.reading l).fus =
    { s.fus with words := (s.fus.drifted l).words, units := (s.fus.drifted l).units, readTick := s.clk.ticks } := by
  change { s.fus.drifted l with readTick := s.clk.ticks } = _
  rw [Fus.drifted_eq]

theorem exec_fusReread {s : State} {l : List (OtpItem × OtpReads)} (hp : s.powered 53 = true) (hd : s.rereadDue = true)
    (hl : ∀ x, x ∈ l → otpItemExists x.1 = true ∧ readsFit x.1 x.2 = true) :
    exec (.fusReread l) s = .next (s.reading l).reportDrift := by
  have hall : (l.all fun x => otpItemExists x.1 && readsFit x.1 x.2) = true := by simpa using fun a b h => hl (a, b) h
  simp only [exec, execFusReread, hp, hd, hall, Bool.and_self, if_true, State.reading]

theorem fuseDrift_holds : fuseDrift := by
  intro s l hp hd hl
  have e := exec_fusReread hp hd hl
  obtain ⟨W, U, h, hw, hu⟩ := (s.reading l).reportDrift_reported
  have hf := s.reading_fus l
  have hx : (s.reading l).ev = s.ev ∧ (s.reading l).sea = s.sea ∧ (s.reading l).view = s.view ∧ (s.reading l).pwr = s.pwr ∧
      (s.reading l).ctl = s.ctl ∧ (s.reading l).nvs = s.nvs ∧ (s.reading l).par = s.par ∧ (s.reading l).role = s.role ∧
      (s.reading l).clk = s.clk := ⟨rfl, rfl, rfl, rfl, rfl, rfl, rfl, rfl, rfl⟩
  generalize s.reading l = x at *
  obtain ⟨hev, hsea, hview, hpwr, hctl, hnvs, hpar, hrole, hclk⟩ := hx
  generalize x.reportDrift = t at *
  obtain ⟨fus, seq, lock, other, waiting, new, run, mem, kpar, krole, kctl, kclk⟩ := h
  have hdw : t.fus.driftWords = W ++ s.fus.driftWords := by rw [fus, hf]
  have hdu : t.fus.driftUnits = U ++ s.fus.driftUnits := by rw [fus, hf]
  have hnewU : ∀ u, u ∈ t.fus.driftUnits → u ∉ s.fus.driftUnits → u ∈ U := fun u hu hn => by
    rw [hdu] at hu
    exact (List.mem_append.1 hu).resolve_right hn
  have hcount : t.fus.driftWords.length + t.fus.driftUnits.length - (s.fus.driftWords.length + s.fus.driftUnits.length) =
      W.length + U.length := by
    rw [hdw, hdu, List.length_append, List.length_append]
    omega
  have hent : x.entryEvents t = if s.sea.vermilion = 0 ∧ t.sea.vermilion ≠ 0 ∧ s.fus.lifecycle ≠ 3 then 1 else 0 := by
    rw [State.entryEvents, hsea, hf]
  have hwords : t.fus.words = x.fus.words := by rw [fus]
  have hunits : t.fus.units = x.fus.units := by rw [fus]
  have hlw : t.fus.latWords = s.fus.latWords := by rw [fus, hf]
  have hlu : t.fus.latUnits = s.fus.latUnits := by rw [fus, hf]
  refine ⟨t, e, by rw [hwords, hf], by rw [hunits, hf], hlw, hlu, fun w _ hd => ?_, fun u _ hd => ?_, fun w hm => ?_, fun u hm => ?_, ?_, ?_,
    fun ⟨u, hm, hn, h1, h2⟩ => ?_, fun hno => ?_, fun hr hc => ?_, by rw [fus, hf], by rw [mem, hnvs], kpar.trans hpar,
    krole.trans hrole, kctl.trans hctl, kclk.trans hclk⟩
  · rw [hdw]
    have := hw w (by rw [Fus.wordDrifts, ← hwords, show x.fus.latWords = s.fus.latWords by rw [hf]]; exact hd)
    rwa [show x.fus.driftWords = s.fus.driftWords by rw [hf]] at this
  · rw [hdu]
    have := hu u (by rw [Fus.unitDrifts, ← hunits, show x.fus.latUnits = s.fus.latUnits by rw [hf]]; exact hd)
    rwa [show x.fus.driftUnits = s.fus.driftUnits by rw [hf]] at this
  · rw [hdw]
    exact List.mem_append_right _ hm
  · rw [hdu]
    exact List.mem_append_right _ hm
  · rw [hcount, fus, hf]
  · rw [hcount, seq, hent, hev]
  · rw [lock (List.any_eq_true.2 ⟨u, hnewU u hm hn, by simp [driftLock, h1, h2]⟩), hsea]
  · have := other (List.any_eq_false.2 fun u hm => by
      have hn := new u hm
      rw [show x.fus.driftUnits = s.fus.driftUnits by rw [hf]] at hn
      have := hno u (by rw [hdu]; exact List.mem_append_left _ hm) hn
      simp [driftLock]
      omega)
    rwa [hsea, hview] at this
  · obtain ⟨-, hshowW, hshowU⟩ := waiting (by rw [hpwr]; exact hr) (by rw [hctl]; exact hc)
    refine ⟨fun w hm hn hs => ?_, fun u hm hn => ?_⟩
    · rw [hdw] at hm
      obtain ⟨q, hq⟩ := hshowW w ((List.mem_append.1 hm).resolve_right hn)
      rw [fuseArgs_word _ hs, hclk, ← hwords] at hq
      exact ⟨q, hq⟩
    · obtain ⟨q, hq⟩ := hshowU u (hnewU u hm hn)
      rw [fuseArgs_unit, hclk, ← hunits] at hq
      exact ⟨q, hq⟩

theorem State.reportDrift_none {s : State} (h1 : s.fus.words = []) (h2 : s.fus.latWords = []) (h3 : s.fus.units = [])
    (h4 : s.fus.latUnits = []) : s.reportDrift = s := by
  simp [State.reportDrift, Fus.listedWords, Fus.listedUnits, h1, h2, h3, h4]

/-- Where one word alone is listed, and drifts for the first time, its event is the only one. -/
theorem State.reportDrift_one {s : State} {w : Nat} {r : OtpReads} (h1 : s.fus.words = [(w, r)]) (h2 : s.fus.latWords = [])
    (h3 : s.fus.units = []) (h4 : s.fus.latUnits = []) (hd : resolvedWord r ≠ resolvedWord blankReads) (hn : w ∉ s.fus.driftWords) :
    s.reportDrift = s.noteDrift { s.fus with driftWords := w :: s.fus.driftWords, driftCount := s.fus.driftCount + 1 } (fuseArgs w 0 r) := by
  have hw : s.driftWord w (spGet blankReads w s.fus.words) =
      s.noteDrift { s.fus with driftWords := w :: s.fus.driftWords, driftCount := s.fus.driftCount + 1 } (fuseArgs w 0 r) := by
    rw [State.driftWord, if_neg (by simp [h1, h2, spGet, hd, hn]), h1, spGet, if_pos rfl]
    rfl
  have hl : s.fus.listedWords = [w] := by
    rw [Fus.listedWords, h1, h2]
    rfl
  have hu : (s.noteDrift { s.fus with driftWords := w :: s.fus.driftWords, driftCount := s.fus.driftCount + 1 }
      (fuseArgs w 0 r)).fus.listedUnits = [] := by
    rw [(s.noteDrift_spec _ _).1]
    simp [Fus.listedUnits, h3, h4]
  rw [State.reportDrift, hl, List.foldl_cons, List.foldl_nil, hw, hu, List.foldl_nil]

theorem resolvedWord_blank : resolvedWord blankReads = (true, false, 0) := by decide

theorem fuseReread_holds : fuseReread := by
  refine ⟨fun s l h => ?_, fun s hp hd hlw hlu => ⟨fun hw hu => ?_, fun w r hlt hfit hr hw hu hn => ?_⟩⟩
  · have hdue : s.rereadDue = false := by
      rcases h with h | ⟨hb, hs⟩ | h
      · simp [State.rereadDue, h]
      · simp [State.rereadDue, hb, hs]
      · simp [State.rereadDue, h]
    simp [exec, execFusReread, hdue]
  · rw [exec_fusReread hp hd (by simp), State.reportDrift_none (s := s.reading []) hw hlw hu hlu]
    rfl
  · have hdr : s.fus.drifted [(.word w, r)] = { s.fus with words := spSet blankReads w r s.fus.words } := rfl
    have hne : r ≠ blankReads := fun h => hr (by rw [h, resolvedWord_blank])
    have hset : spSet blankReads w r s.fus.words = [(w, r)] := by rw [hw, spSet, if_neg hne]
    have hf := s.reading_fus [(.word w, r)]
    rw [hdr] at hf
    dsimp only at hf
    rw [hset] at hf
    refine ⟨_, exec_fusReread hp hd (by simpa [otpItemExists, hlt] using hfit), ?_⟩
    rw [State.reportDrift_one (w := w) (r := r) (by rw [hf]) (by rw [hf]; exact hlw) (by rw [hf]; exact hu) (by rw [hf]; exact hlu)
      (by rw [resolvedWord_blank]; exact hr) (by rw [hf]; exact hn)]
    obtain ⟨f, hfx⟩ : ∃ f, { (s.reading [(.word w, r)]).fus with
        driftWords := w :: (s.reading [(.word w, r)]).fus.driftWords, driftCount := (s.reading [(.word w, r)]).fus.driftCount + 1 } = f :=
      ⟨_, rfl⟩
    obtain ⟨hfus, hseq, hsea, hview, -, hnvs, ⟨hpar, hrole, -⟩, -⟩ := (s.reading [(.word w, r)]).noteDrift_spec f (fuseArgs w 0 r)
    rw [hfx]
    rw [hf] at hfx
    refine ⟨?_, ?_, ?_, ?_, hseq, hsea, hview, hnvs, hpar, hrole⟩
    · rw [hfus, ← hfx]
    · rw [hfus, ← hfx]
      exact hlw
    · rw [hfus, ← hfx]
    · rw [hfus, ← hfx]

/-- Settles O33: a pulse changes its item alone; a reading reports each item that drifts once, by one step per item listed. -/
theorem fusesProgrammed : Obligations.FusesProgrammed := ⟨otpProgrammed_holds, fuseReread_holds, fuseDrift_holds⟩

end Sys2Proof.Machine

namespace Sys2Proof.Machine

/-- Two states are equal where every part is. -/
theorem State.eq_of_parts {s t : State} (h : t.pending = s.pending ∧ t.free = s.free ∧ t.clk = s.clk ∧ t.pwr = s.pwr ∧ t.rst = s.rst ∧ t.wdg = s.wdg ∧ t.reg = s.reg
      ∧ t.ctl = s.ctl ∧ t.ev = s.ev ∧ t.par = s.par ∧ t.fus = s.fus ∧ t.role = s.role ∧ t.fw = s.fw ∧ t.nvs = s.nvs ∧ t.led =
      s.led ∧ t.sea = s.sea ∧ t.view = s.view ∧ t.pace = s.pace ∧ t.lnk = s.lnk ∧ t.ets = s.ets ∧ t.pix = s.pix ∧ t.pdp =
      s.pdp ∧ t.tab = s.tab ∧ t.pin = s.pin ∧ t.hkc = s.hkc ∧ t.tap = s.tap ∧ t.pad = s.pad) : t = s := by
  cases s
  cases t
  simpa only [State.mk.injEq] using h

/-! ## Proofs: what a bring-up leaves of the link and the clocks (10, 11) -/

/-- The link without the fields that a bring-up from step 1 sets. -/
def Lnk.seen (l : Lnk) : Lnk :=
  { l with
    state := .off, entered := 0, requested := 0, mapped := [], mode := 0, target := 0, lanesMax := 0, swing := 0, mask := 0
    identTimeout := 0, retries := 0, map := 0, coef := [], retraining := false, ident := [], wakeUp := false, adapt := none
    hopRate := 0, restarts := 0, outstanding := none, retrains := 0, framer := {}, train := [], markerCount := 0 }

/-- The clocks without what a bring-up sets. -/
def Clk.seen (c : Clk) : Clk := { c with fwdLocked := false, fwdSearching := false, retSearching := false, fwdReload := false }

@[simp] theorem State.linkTo_seen (s : State) (x : LinkState) : (s.linkTo x).lnk.seen = s.lnk.seen := rfl

@[simp] theorem State.lanesOff_seen (s : State) : s.lanesOff.lnk.seen = s.lnk.seen := by
  have h : (s.domainsOff [43, 44, 45, 46]).lnk = s.lnk := by simp
  exact (congrArg Lnk.seen h :)

@[simp] theorem State.takeLinkValues_seen (s : State) : s.takeLinkValues.lnk.seen = s.lnk.seen := by
  unfold State.takeLinkValues
  dsimp only
  split <;> rfl

@[simp] theorem State.frameLanes_seen (s : State) (l : List Nat) (own : Bool) (rate : Nat) :
    (s.frameLanes l own rate).lnk.seen = s.lnk.seen := rfl

@[simp] theorem State.wakeRetrain_seen (s : State) : s.wakeRetrain.lnk.seen = s.lnk.seen := by
  unfold State.wakeRetrain
  split <;> rfl

theorem State.enterAcquire_seen (s : State) : s.enterAcquire.lnk.seen = s.lnk.seen ∧ s.enterAcquire.clk.seen = s.clk.seen := by
  have h := (s.domainsOn [48, 50, 47]).takeLinkValues_seen
  have hc : (s.domainsOn [48, 50, 47]).takeLinkValues.clk = s.clk := by simp
  have hl : (s.domainsOn [48, 50, 47]).lnk = s.lnk := by simp
  rw [hl] at h
  exact ⟨h, (congrArg Clk.seen hc :)⟩

theorem State.enterHop_seen (s : State) (rate : Nat) : (s.enterHop rate).lnk.seen = s.lnk.seen ∧
    (s.enterHop rate).clk.seen = s.clk.seen := by
  have hl : (s.lanesOn s.mappedLanes).lnk = s.lnk := by simp
  have hc : (s.lanesOn s.mappedLanes).clk = s.clk := by simp
  exact ⟨(congrArg Lnk.seen hl :), (congrArg Clk.seen hc :)⟩

theorem State.hopFromAcquire_seen (s : State) : s.hopFromAcquire.lnk.seen = s.lnk.seen ∧ s.hopFromAcquire.clk.seen = s.clk.seen := by
  have hw := s.wakeRetrain_seen
  have hc : s.wakeRetrain.clk = s.clk := by simp
  obtain ⟨h1, h2⟩ := State.enterHop_seen ({ s.wakeRetrain with lnk := { s.wakeRetrain.lnk with
    requested := if s.lnk.mode = 0 && s.lnk.mapInForce then s.lnk.requested else 4
    mapped := if s.lnk.mode = 0 && s.lnk.mapInForce then s.lnk.mapped else [0, 1, 2, 3] } }) s.lnk.target
  exact ⟨h1.trans hw, h2.trans (congrArg Clk.seen hc)⟩

theorem State.enterIdent_seen (s : State) : s.enterIdent.lnk.seen = s.lnk.seen ∧ s.enterIdent.clk = s.clk := by
  refine ⟨?_, by simp⟩
  have h : ∀ (a b : List Nat), ((s.domainsOff a).lanesOn b).lnk = s.lnk := by simp
  exact (congrArg Lnk.seen (h _ _) :)

theorem State.afterAcquire_seen (s : State) : s.afterAcquire.lnk.seen = s.lnk.seen ∧ s.afterAcquire.clk.seen = s.clk.seen := by
  unfold State.afterAcquire
  dsimp only
  split
  · exact ⟨rfl, rfl⟩
  split
  · exact ⟨rfl, rfl⟩
  split
  · obtain ⟨hl, hc⟩ := s.enterIdent_seen
    exact ⟨hl, congrArg Clk.seen hc⟩
  · exact s.hopFromAcquire_seen

theorem State.startBringUp_seen (s : State) : s.startBringUp.lnk.seen = s.lnk.seen ∧ s.startBringUp.clk.seen = s.clk.seen := by
  unfold State.startBringUp
  split
  · exact ⟨rfl, rfl⟩
  · obtain ⟨h1, h2⟩ := s.enterAcquire.afterAcquire_seen
    obtain ⟨h3, h4⟩ := s.enterAcquire_seen
    exact ⟨h1.trans h3, h2.trans h4⟩

/-- Outside RL_ACQUIRE nothing follows a lock. -/
theorem State.afterAcquire_elsewhere {s : State} (h : s.lnk.state ≠ .rlAcquire) : s.afterAcquire = s := by
  unfold State.afterAcquire
  rw [if_pos (by simp [h])]

/-- Without the forward synthesiser's lock, or without the return lane's where it is needed, a bring-up stays in its first step. -/
theorem State.afterAcquire_waits {s : State}
    (h : s.clk.fwdLocked = false ∨ (s.lnk.mode ≠ 2 ∧ (s.clk.retLocked && s.lnk.rx.locked && s.lnk.rx.blockLock) = false)) :
    s.afterAcquire = s := by
  unfold State.afterAcquire
  dsimp only
  split
  · rfl
  · rw [if_pos]
    rcases h with h | ⟨h1, h2⟩
    · simp [h]
    · simp [h1, h2]

/-- The conditions asserted and the return lane's receiver. -/
def Lnk.conditions (l : Lnk) : Bool × Bool × Bool × Bool × Bool × Receiver := (l.los1, l.los2, l.lol1, l.lol2, l.lol3, l.rx)

theorem Lnk.conditions_of_seen {l m : Lnk} (h : l.seen = m.seen) : l.conditions = m.conditions := by
  have hc : ∀ x : Lnk, x.conditions = x.seen.conditions := fun _ => rfl
  rw [hc, h, ← hc]

/-- The link without the control queue and its counts. -/
def Lnk.noControl (l : Lnk) : Lnk := { l with control := [], seq := 0, eventsDropped := 0, evDropSince := 0 }

/-- An event changes of the link only the control queue and its counts. -/
theorem State.raise_noControl (s : State) (code : Nat) (time : Word64) (args : Bytes) :
    (s.raise code time args).lnk.noControl = s.lnk.noControl := by
  obtain ⟨a, b, c, d, h⟩ := s.raise_lnk code time args
  rw [h]
  rfl

theorem Lnk.conditions_of_noControl {l m : Lnk} (h : l.noControl = m.noControl) : l.conditions = m.conditions := by
  have hc : ∀ x : Lnk, x.conditions = x.noControl.conditions := fun _ => rfl
  rw [hc, h, ← hc]

theorem State.enterAcquire_state (s : State) : s.enterAcquire.lnk.state = .rlAcquire ∧ s.enterAcquire.lnk.mode = s.stored 0x1C08 ∧
    s.enterAcquire.clk.retLocked = s.clk.retLocked ∧
    (s.enterAcquire.clk.fwdLocked = true → s.clk.fwdLocked = true) := by
  have hm : ∀ x : State, x.takeLinkValues.lnk.mode = x.stored 0x1C08 := fun x => by
    unfold State.takeLinkValues
    dsimp only
    split <;> rfl
  have hp : (s.domainsOn [48, 50, 47]).stored 0x1C08 = s.stored 0x1C08 := by simp [State.stored]
  have hc : (s.domainsOn [48, 50, 47]).takeLinkValues.clk = s.clk := by simp
  refine ⟨rfl, (hm _).trans hp, (congrArg Clk.retLocked hc :), fun h => ?_⟩
  have hf : s.enterAcquire.clk.fwdLocked = (s.clk.fwdLocked && s.clk.fwdRate = 0) := by
    change ((s.domainsOn [48, 50, 47]).takeLinkValues.clk.fwdLocked &&
      decide ((s.domainsOn [48, 50, 47]).takeLinkValues.clk.fwdRate = 0)) = _
    rw [hc]
  rw [hf, Bool.and_eq_true] at h
  exact h.1

/-- A bring-up that a lost lock holds in its first step. -/
theorem State.startBringUp_waits {s : State}
    (h : s.clk.fwdLocked = false ∨ (s.stored 0x1C08 ≠ 2 ∧ (s.clk.retLocked && s.lnk.rx.locked && s.lnk.rx.blockLock) = false)) :
    s.startBringUp = s ∨ s.startBringUp = s.enterAcquire := by
  unfold State.startBringUp
  split
  · exact .inl rfl
  · obtain ⟨-, hmode, hret, hfwd⟩ := s.enterAcquire_state
    have hrx : s.enterAcquire.lnk.rx = s.lnk.rx := (congrArg Lnk.rx s.enterAcquire_seen.1 :)
    refine .inr (State.afterAcquire_waits ?_)
    rcases h with h | ⟨h1, h2⟩
    · exact .inl (Bool.eq_false_iff.2 fun hn => by simp [h] at hfwd; exact absurd hn (by simp [hfwd]))
    · exact .inr ⟨by rwa [hmode], by rwa [hret, hrx]⟩

/-- Back in step 1: what a bring-up that waits there has done. -/
structure Acquiring (s t : State) : Prop where
  free : t.free = s.free
  seen : t.clk.seen = s.clk.seen
  fwd : t.clk.fwdLocked = true → s.clk.fwdLocked = true
  link : t.lnk.seen = s.lnk.seen
  state : t.lnk.state = .rlAcquire

theorem State.startBringUp_acquiring {s : State} (hs : s.lnk.state = .rlAcquire)
    (h : s.clk.fwdLocked = false ∨ (s.stored 0x1C08 ≠ 2 ∧ (s.clk.retLocked && s.lnk.rx.locked && s.lnk.rx.blockLock) = false)) :
    Acquiring s s.startBringUp := by
  rcases State.startBringUp_waits h with e | e <;> rw [e]
  · exact ⟨rfl, rfl, id, rfl, hs⟩
  · obtain ⟨h1, h2⟩ := s.enterAcquire_seen
    obtain ⟨h3, -, -, h4⟩ := s.enterAcquire_state
    exact ⟨by simp, h2, h4, h1, h3⟩

theorem State.setIrq_bit (s : State) {b : Nat} (h : b < 32) : (s.setIrq b).reg.irqStatus.getLsbD b = true := by
  have hb : (BitVec.ofNat 32 (2 ^ b)).getLsbD b = true := by
    rw [BitVec.getLsbD_ofNat, Nat.testBit_two_pow_self]
    simpa using h
  simp only [State.setIrq, BitVec.getLsbD_or, hb, Bool.or_true]

/-- Leaving UP with a reason, outside a closing run. -/
theorem State.leaveUp_down {s : State} (reason : Nat) (hr : s.pwr.run = none) (hs : s.lnk.state = .up) :
    (s.leaveUp.linkDown reason).lnk.conditions = s.lnk.conditions ∧ (s.leaveUp.linkDown reason).lnk.downReason = reason ∧
    (s.leaveUp.linkDown reason).lnk.leftUp = s.clk.time ∧
    (s.leaveUp.linkDown reason).reg.irqStatus.getLsbD 7 = true ∧ (s.leaveUp.linkDown reason).ev.seq = s.ev.seq + 1 := by
  have hc : s.leaveUp.closing = false := by simp [State.closing, hr]
  obtain ⟨y, hy⟩ : ∃ y, { s.leaveUp with lnk := { s.leaveUp.lnk with downReason := reason } } = y := ⟨_, rfl⟩
  have hd : s.leaveUp.linkDown reason = y.raise 6 s.leaveUp.now
      (leBytes 1 reason ++ leBytes 1 s.leaveUp.lnk.rateUsed ++ leBytes 1 s.leaveUp.lnk.lanesUsed) := by
    rw [State.linkDown, if_neg (by simp [hc]), ← hy]
  obtain ⟨hirq, hlnk, hleft⟩ : s.leaveUp.reg.irqStatus.getLsbD 7 = true ∧ s.leaveUp.lnk.conditions = s.lnk.conditions ∧
      s.leaveUp.lnk.leftUp = s.clk.time := by
    unfold State.leaveUp
    rw [if_neg (by simp [hs])]
    exact ⟨State.setIrq_bit _ (by decide), rfl, rfl⟩
  have hev : s.leaveUp.ev = s.ev := by simp
  obtain ⟨yirq, ycond, yreason, yleft, yev⟩ : y.reg.irqStatus.getLsbD 7 = true ∧ y.lnk.conditions = s.lnk.conditions ∧
      y.lnk.downReason = reason ∧ y.lnk.leftUp = s.clk.time ∧ y.ev = s.ev := by
    rw [← hy]
    exact ⟨hirq, hlnk, rfl, hleft, hev⟩
  have hl := y.raise_noControl 6 s.leaveUp.now
      (leBytes 1 reason ++ leBytes 1 s.leaveUp.lnk.rateUsed ++ leBytes 1 s.leaveUp.lnk.lanesUsed)
  rw [hd]
  exact ⟨(Lnk.conditions_of_noControl hl).trans ycond, (congrArg Lnk.downReason hl :).trans yreason,
    (congrArg Lnk.leftUp hl :).trans yleft, State.raise_irq _ _ _ yirq, by rw [State.raise_ev_seq, yev]⟩

/-- A lost lock takes the link back to its first step, where it waits for the lock. -/
structure BackToAcquire (s : State) (reason : Nat) (t : State) : Prop where
  free : t.free = s.free
  seen : t.clk.seen = s.clk.seen
  fwd : t.clk.fwdLocked = true → s.clk.fwdLocked = true
  conditions : t.lnk.conditions = s.lnk.conditions
  state : t.lnk.state = if s.lnk.state = .off ∨ s.lnk.state = .downWait then s.lnk.state else .rlAcquire
  up : s.lnk.state = .up → t.lnk.downReason = reason ∧ t.lnk.leftUp = s.clk.time ∧ t.reg.irqStatus.getLsbD 7 = true ∧
    t.ev.seq = s.ev.seq + 1
  other : s.lnk.state ≠ .up → t.ev = s.ev

theorem State.backToAcquire_spec {s : State} (reason : Nat) (hr : s.pwr.run = none)
    (h : s.clk.fwdLocked = false ∨ (s.stored 0x1C08 ≠ 2 ∧ (s.clk.retLocked && s.lnk.rx.locked && s.lnk.rx.blockLock) = false)) :
    BackToAcquire s reason (s.backToAcquire reason) := by
  have hwait : ∀ x : State, x.clk = s.clk → x.par = s.par → x.lnk.rx = s.lnk.rx → x.lnk.state = .rlAcquire → Acquiring x x.startBringUp :=
    fun x hc hp hx hs => State.startBringUp_acquiring hs (by rwa [State.stored, hc, hp, hx])
  have hother : s.lnk.state ≠ .off → s.lnk.state ≠ .downWait → s.lnk.state ≠ .up → BackToAcquire s reason
      ({ s.lanesOff with lnk := { s.lanesOff.lnk with adapt := none, outstanding := none } }.linkTo .rlAcquire).startBringUp := by
    intro h1 h2 h3
    have hclk : s.lanesOff.clk = s.clk := by simp
    have hl := s.lanesOff_seen
    have ha := hwait ({ s.lanesOff with lnk := { s.lanesOff.lnk with adapt := none, outstanding := none } }.linkTo .rlAcquire) hclk
      (by simp) (congrArg Lnk.rx hl :) rfl
    constructor
    case free => exact ha.free.trans (by simp)
    case seen => exact ha.seen.trans (congrArg Clk.seen hclk)
    case fwd => exact fun hf => by simpa [hclk] using ha.fwd hf
    case conditions => exact Lnk.conditions_of_seen (ha.link.trans hl)
    case state => rw [ha.state, if_neg (by simp [h1, h2])]
    case up => exact fun h => absurd h h3
    case other => exact fun _ => by simp
  unfold State.backToAcquire
  split
  · next hs => exact ⟨rfl, rfl, id, rfl, by simp [hs], by simp [hs], fun _ => rfl⟩
  · next hs => exact ⟨rfl, rfl, id, rfl, by simp [hs], by simp [hs], fun _ => rfl⟩
  · next hs =>
    obtain ⟨hcond, hreason, hleft, hirq, hseq⟩ := State.leaveUp_down reason hr hs
    have hclk : (s.leaveUp.linkDown reason).clk = s.clk := by simp
    have hpar : (s.leaveUp.linkDown reason).par = s.par := by simp
    have hfree : (s.leaveUp.linkDown reason).free = s.free := by simp
    generalize s.leaveUp.linkDown reason = x at *
    have hl := x.lanesOff_seen
    have hclk' : x.lanesOff.clk = s.clk := by simpa using hclk
    have ha := hwait (x.lanesOff.linkTo .rlAcquire) hclk' (by simpa using hpar)
      ((congrArg Lnk.rx hl :).trans (congrArg (fun c => c.2.2.2.2.2) hcond)) rfl
    have hlink : (x.lanesOff.linkTo .rlAcquire).startBringUp.lnk.seen = x.lnk.seen := ha.link.trans hl
    constructor
    case free => exact ha.free.trans (by simpa using hfree)
    case seen => exact ha.seen.trans (congrArg Clk.seen hclk')
    case fwd => exact fun hf => by simpa [hclk] using ha.fwd hf
    case conditions => exact (Lnk.conditions_of_seen hlink).trans hcond
    case state => rw [ha.state, if_neg (by simp [hs])]
    case up =>
      exact fun _ => ⟨(congrArg Lnk.downReason hlink :).trans hreason, (congrArg Lnk.leftUp hlink :).trans hleft, by simpa using hirq,
        by simpa using hseq⟩
    case other => exact fun hn => absurd hs hn
  · next h1 h2 h3 => exact hother h1 h2 h3

/-! ## Proofs: the lane synthesisers (09, 11) -/

/-- What follows HOP outside a closing run. -/
theorem State.afterHop_state {s : State} (hr : s.pwr.run = none) :
    s.afterHop.lnk.state = if s.lnk.mode = 2 then .align else .adapt := by
  unfold State.afterHop
  rw [if_neg (by simp [State.closing, hr])]
  split <;> rfl

theorem State.afterLock_clk (s : State) (x : Synth) : (s.afterLock x).clk.seen = s.clk.seen := by
  unfold State.afterLock
  split
  · exact congrArg Clk.seen (by simp)
  · exact s.afterAcquire_seen.2

/-- The state in which a lock's effects on the link come: the synthesiser is locked, and a record is stored after a search. -/
def State.lockStored (s : State) (x : Synth) (band fine : Nat) (t : Int) : State :=
  let searched := s.synthSearching x || !s.storedResult x t
  let count := searched && !s.synthSearching x
  let s1 := s.lockSynth x
  { s1 with clk := { s1.clk with
    pllSearches := if count then s1.clk.pllSearches + 1 else s1.clk.pllSearches
    pllRecords := if searched && !s.closing then recordPut (recordKey x s.lnk.hopRate (tempBand t)) ⟨band, fine, t⟩ s1.clk.pllRecords
      else s1.clk.pllRecords } }

theorem State.lockStored_spec (s : State) (x : Synth) (band fine : Nat) (t : Int) :
    (s.lockStored x band fine t).lnk = s.lnk ∧ (s.lockStored x band fine t).pwr = s.pwr ∧
    (s.lockStored x band fine t).synthLocked x = true ∧
    (s.lockStored x band fine t).clk.pllRecords = if (s.synthSearching x || !s.storedResult x t) && !s.closing then
      recordPut (recordKey x s.lnk.hopRate (tempBand t)) ⟨band, fine, t⟩ s.clk.pllRecords else s.clk.pllRecords := by
  cases x <;> exact ⟨rfl, rfl, rfl, rfl⟩

/-- `EV_LOL` source 2 cleared once both synthesisers are locked. -/
def State.clearLol2 (s : State) : State :=
  if s.lnk.lol2 && s.clk.fwdLocked && s.clk.retLocked then { s with lnk := { s.lnk with lol2 := false } }.raiseLol 2 false else s

theorem State.clearLol2_spec (s : State) : s.clearLol2.clk = s.clk ∧ s.clearLol2.pwr = s.pwr ∧ s.clearLol2.lnk.state = s.lnk.state ∧
    s.clearLol2.lnk.mode = s.lnk.mode := by
  unfold State.clearLol2
  split
  · exact ⟨by simp [State.raiseLol], by simp [State.raiseLol], (congrArg Lnk.state (State.raise_noControl _ _ _ _) :),
      (congrArg Lnk.mode (State.raise_noControl _ _ _ _) :)⟩
  · exact ⟨rfl, rfl, rfl, rfl⟩

theorem State.synthLock_eq (s : State) (x : Synth) (band fine : Nat) (t : Int) :
    s.synthLock x band fine t = (s.lockStored x band fine t).clearLol2.afterLock x := rfl

theorem exec_lanePllLocked {s : State} {x : Synth} {band : Nat} (fine : Nat) (t : Int) (hp : s.powered 48 = true)
    (hc : s.clk.refclk = true) (hl : s.synthLocked x = false) (hb : band < 64) :
    exec (.lanePllLocked x band fine t) s = .next (s.synthLock x band fine t) := by
  simp [exec, execLanePllLocked, hp, hc, hl, hb]

theorem lanePllLocks_holds : lanePllLocks := by
  intro s x band fine temp hp hc hl hb
  refine ⟨_, exec_lanePllLocked fine temp hp hc hl hb, ?_⟩
  obtain ⟨hlnk, hpwr, hlocked, hrecords⟩ := s.lockStored_spec x band fine temp
  obtain ⟨cclk, cpwr, cstate, cmode⟩ := (s.lockStored x band fine temp).clearLol2_spec
  have hrec : (s.synthLock x band fine temp).clk.pllRecords = (s.lockStored x band fine temp).clk.pllRecords := by
    rw [State.synthLock_eq, ← cclk]
    exact (congrArg Clk.pllRecords (State.afterLock_clk _ x) :)
  rw [hrec, hrecords]
  have hstate : (s.lockStored x band fine temp).clearLol2.lnk.state = s.lnk.state := by rw [cstate, hlnk]
  refine ⟨fun hr hs => ?_, fun h1 h2 => ?_, fun h1 h2 => ?_, fun h1 h2 hr => ?_, ?_⟩
  · rw [if_pos, recordAt_recordPut]
    rcases hs with hs | hs <;> simp [hs, State.closing, hr]
  · rw [if_neg (by simp [h1, h2])]
  · have e : s.synthLock x band fine temp = (s.lockStored x band fine temp).clearLol2 := by
      rw [State.synthLock_eq, State.afterLock, if_neg (by simp [hstate, h1]), State.afterAcquire_elsewhere (by rw [hstate]; exact h2)]
    rw [e, hstate, cpwr, hpwr]
    refine ⟨?_, rfl, rfl⟩
    cases x <;> simpa [State.synthLocked, cclk] using hlocked
  · have e : s.synthLock x band fine temp = (s.lockStored x band fine temp).clearLol2.afterHop := by
      rw [State.synthLock_eq, State.afterLock, if_pos (by rw [hstate, h1, h2]; rfl)]
    rw [e, State.afterHop_state (by rw [cpwr, hpwr]; exact hr), cmode, hlnk]
  · exact State.eq_of_parts (by simp)

theorem storedLockTimesOut_holds : storedLockTimesOut := by
  intro s x temp hp hc hl hs hr
  have e : exec (.storedLockTimeout ⟨x, temp⟩) s = .next (s.searchSynth x) := by
    simp [exec, execStoredLockTimeout, hp, hc, hl, hs, hr]
  cases x
  · exact ⟨_, e, rfl, rfl, rfl, rfl, rfl⟩
  · exact ⟨_, e, rfl, rfl, rfl, rfl, rfl⟩

/-- The synthesiser that falls out of lock is a locked one, and there is one where any is locked. -/
theorem State.unlocking_spec (s : State) : (s.synthLocked .forward = true ∨ s.synthLocked .return = true → ∃ x, s.unlocking = some x) ∧
    (∀ x, s.unlocking = some x → s.synthLocked x = true) := by
  unfold State.unlocking
  cases hf : s.synthLocked .forward <;> cases hr : s.synthLocked .return <;> cases hc : Config.returnLost s.free <;> simp [hf, hr]

/-- The state in which a lost lock takes the link back: the synthesiser is out of lock, and `EV_LOL` source 2 stands. -/
def State.lockGone (s : State) (x : Synth) : State :=
  let s1 := ({ s with free := s.free + 1 } : State).unlockSynth x
  if s1.lnk.lol2 then s1 else { s1 with lnk := { s1.lnk with lol2 := true } }.raiseLol 2 true

theorem State.lockGone_spec (s : State) (x : Synth) : (s.lockGone x).clk.seen = { s.clk.seen with
      retLocked := if x = .return then false else s.clk.retLocked } ∧
    (s.lockGone x).synthLocked x = false ∧ (s.lockGone x).lnk.lol2 = true ∧ (s.lockGone x).lnk.state = s.lnk.state ∧
    (s.lockGone x).ev.seq = s.ev.seq + (if s.lnk.lol2 then 0 else 1) ∧ (s.lockGone x).free = s.free + 1 ∧
    (s.lockGone x).pwr = s.pwr ∧ (s.lockGone x).par = s.par := by
  obtain ⟨y, hy⟩ : ∃ y, ({ s with free := s.free + 1 } : State).unlockSynth x = y := ⟨_, rfl⟩
  have hl : y.lnk = s.lnk := by rw [← hy]; cases x <;> rfl
  have hrest : y.clk.seen = { s.clk.seen with retLocked := if x = .return then false else s.clk.retLocked } ∧ y.synthLocked x = false ∧
      y.ev = s.ev ∧ y.free = s.free + 1 ∧ y.pwr = s.pwr ∧ y.par = s.par := by
    rw [← hy]
    cases x <;> exact ⟨rfl, rfl, rfl, rfl, rfl, rfl⟩
  obtain ⟨hseen, hlocked, hev, hfree, hpwr, hpar⟩ := hrest
  unfold State.lockGone
  rw [hy]
  dsimp only
  split
  · next h =>
    rw [hl] at h
    exact ⟨hseen, hlocked, by rw [hl]; exact h, by rw [hl], by rw [hev, if_pos h]; simp, hfree, hpwr, hpar⟩
  · next h =>
    rw [hl] at h
    obtain ⟨z, hz⟩ : ∃ z, { y with lnk := { y.lnk with lol2 := true } } = z := ⟨_, rfl⟩
    have hzl : z.lnk = { s.lnk with lol2 := true } := by rw [← hz, hl]
    have hn := z.raise_noControl 8 z.now (leBytes 1 2 ++ leBytes 1 (boolNat true))
    have hzr : z.clk = y.clk ∧ z.ev = s.ev ∧ z.free = s.free + 1 ∧ z.pwr = s.pwr ∧ z.par = s.par := by
      rw [← hz]
      exact ⟨rfl, hev, hfree, hpwr, hpar⟩
    obtain ⟨zclk, zev, zfree, zpwr, zpar⟩ := hzr
    rw [hz, State.raiseLol]
    refine ⟨by simpa [zclk] using hseen, ?_, ?_, ?_, ?_, by simpa using zfree, by simpa using zpwr, by simpa using zpar⟩
    · cases x <;> simpa [State.synthLocked, zclk] using hlocked
    · exact (congrArg Lnk.lol2 hn :).trans (by rw [hzl]; rfl)
    · exact (congrArg Lnk.state hn :).trans (by rw [hzl]; rfl)
    · rw [State.raise_ev_seq, zev, if_neg h]

theorem State.lockGone_frame (s : State) (x : Synth) : (s.lockGone x).pending = s.pending ∧ (s.lockGone x).rst = s.rst ∧ (s.lockGone x).wdg = s.wdg ∧ (s.lockGone x).ctl =
    s.ctl ∧ (s.lockGone x).par = s.par ∧ (s.lockGone x).fus = s.fus ∧ (s.lockGone x).role = s.role ∧ (s.lockGone x).fw =
    s.fw ∧ (s.lockGone x).nvs = s.nvs ∧ (s.lockGone x).led = s.led ∧ (s.lockGone x).sea = s.sea ∧ (s.lockGone x).view =
    s.view ∧ (s.lockGone x).pace = s.pace ∧ (s.lockGone x).ets = s.ets ∧ (s.lockGone x).pix = s.pix ∧ (s.lockGone x).pdp =
    s.pdp ∧ (s.lockGone x).tab = s.tab ∧ (s.lockGone x).pin = s.pin ∧ (s.lockGone x).hkc = s.hkc ∧ (s.lockGone x).tap =
    s.tap ∧ (s.lockGone x).pad = s.pad := by
  unfold State.lockGone
  dsimp only
  split <;> cases x <;> simp [State.unlockSynth, State.raiseLol]

theorem exec_lanePllUnlock {s : State} {x : Synth} (hp : s.powered 48 = true) (hx : s.unlocking = some x) :
    exec .lanePllUnlock s = .next ((s.lockGone x).backToAcquire 1) := by
  simp only [exec, execLanePllUnlock, hx, hp, if_true]
  rfl

theorem lanePllUnlocks_holds : lanePllUnlocks := by
  refine ⟨fun s => s.unlocking_spec.1, fun s => s.unlocking_spec.2, fun s x hp hx hr hm => ⟨_, exec_lanePllUnlock hp hx, ?_⟩⟩
  obtain ⟨hseen, hlocked, hlol, hstate, hseq, hfree, hpwr, hpar⟩ := s.lockGone_spec x
  have hframe : (s.lockGone x).backToAcquire 1 = { s with
      free := ((s.lockGone x).backToAcquire 1).free, clk := ((s.lockGone x).backToAcquire 1).clk
      pwr := ((s.lockGone x).backToAcquire 1).pwr, reg := ((s.lockGone x).backToAcquire 1).reg
      ev := ((s.lockGone x).backToAcquire 1).ev, lnk := ((s.lockGone x).backToAcquire 1).lnk } := by
    exact State.eq_of_parts (by simp [State.lockGone_frame])
  have hback : BackToAcquire (s.lockGone x) 1 ((s.lockGone x).backToAcquire 1) := by
    refine State.backToAcquire_spec 1 (by rw [hpwr]; exact hr) ?_
    cases x
    · exact .inl hlocked
    · exact .inr ⟨by rw [State.stored, hpar]; exact hm.resolve_left (by simp), by
        rw [show (s.lockGone .return).clk.retLocked = false from hlocked]; rfl⟩
  generalize (s.lockGone x).backToAcquire 1 = t at *
  generalize s.lockGone x = y at *
  obtain ⟨free, seen, fwd, conditions, state, up, other⟩ := hback
  have hclk : t.clk.seen = { s.clk.seen with retLocked := if x = .return then false else s.clk.retLocked } := seen.trans hseen
  refine ⟨(congrArg (fun c => c.2.2.2.1) conditions :).trans hlol, ?_, (congrArg Clk.time hclk :), (congrArg Clk.pllRecords hclk :),
    by rw [state, hstate], fun hs => ?_, fun hs => ?_, ?_⟩
  · cases x
    · exact Bool.eq_false_iff.2 fun h => by simp [State.synthLocked] at hlocked h; exact absurd (fwd h) (by simp [hlocked])
    · exact (congrArg Clk.retLocked hclk :)
  · obtain ⟨h1, h2, h3, h4⟩ := up (by rw [hstate, hs])
    refine ⟨h1, h2.trans (congrArg Clk.time hseen :), h3, ?_⟩
    rw [h4, hseq]
    cases s.lnk.lol2 <;> simp [BitVec.add_assoc]
  · rw [other (by rw [hstate]; exact hs), hseq]
  · rw [free, hfree] at hframe
    exact hframe

/-- Settles O34: what a lock stores and a loss takes back is settled before the bring-up goes on or waits. -/
theorem synthesisers : Obligations.Synthesisers := ⟨lanePllLocks_holds, storedLockTimesOut_holds, lanePllUnlocks_holds⟩

end Sys2Proof.Machine

namespace Sys2Proof.Machine

/-! ## Proofs: the return lane's receiver (09, 10) -/

/-- A condition of the link raised or cleared with its event. -/
theorem State.raise_link (s : State) (l : Lnk) (code : Nat) (args : Bytes) :
    (({ s with lnk := l } : State).raise code s.now args).lnk.noControl = l.noControl ∧
    (({ s with lnk := l } : State).raise code s.now args).ev.seq = s.ev.seq + 1 ∧
    ({ s with lnk := l } : State).raise code s.now args = { s with
      reg := (({ s with lnk := l } : State).raise code s.now args).reg, ev := (({ s with lnk := l } : State).raise code s.now args).ev
      lnk := (({ s with lnk := l } : State).raise code s.now args).lnk } :=
  ⟨State.raise_noControl _ _ _ _, State.raise_ev_seq _ _ _ _, State.eq_of_parts (by simp)⟩

/-- The state in which the CDR's lock lets a bring-up go on: `EV_LOL` source 1 is cleared. -/
def State.cdrCleared (s : State) : State :=
  let s1 := { s with lnk := { s.lnk with rx := { s.lnk.rx with locked := true } } }
  if s.lnk.lol1 then { s1 with lnk := { s1.lnk with lol1 := false } }.raiseLol 1 false else s1

theorem State.cdrCleared_spec (s : State) : s.cdrCleared.lnk.rx.locked = true ∧ s.cdrCleared.lnk.lol1 = false ∧
    s.cdrCleared.ev.seq = (if s.lnk.lol1 then s.ev.seq + 1 else s.ev.seq) ∧ s.cdrCleared.lnk.state = s.lnk.state ∧
    s.cdrCleared = { s with reg := s.cdrCleared.reg, ev := s.cdrCleared.ev, lnk := s.cdrCleared.lnk } := by
  unfold State.cdrCleared
  dsimp only
  split
  · obtain ⟨hl, hseq, hs⟩ := s.raise_link { s.lnk with rx := { s.lnk.rx with locked := true }, lol1 := false } 8
      (leBytes 1 1 ++ leBytes 1 (boolNat false))
    exact ⟨(congrArg (fun l => l.rx.locked) hl :), (congrArg Lnk.lol1 hl :), hseq, (congrArg Lnk.state hl :), hs⟩
  · next h => exact ⟨rfl, by simpa using h, rfl, rfl, rfl⟩

theorem exec_rlCdrLock {s : State} (hp : s.powered 47 = true) (h : s.lnk.rx.locked = false) (hl : s.lnk.los1 = false) :
    exec .rlCdrLock s = .next s.cdrCleared.afterAcquire := by
  simp only [exec, execRlCdrLock, hp, h, hl, Bool.not_false, Bool.and_self, if_true]
  rfl

/-- A bring-up that goes on changes the link, the clocks and the power alone, and no condition. -/
theorem State.afterAcquire_parts (s : State) : s.afterAcquire = { s with
    free := s.afterAcquire.free, clk := s.afterAcquire.clk, pwr := s.afterAcquire.pwr, lnk := s.afterAcquire.lnk } :=
  State.eq_of_parts (by simp)

theorem rlCdrLock_spec {s : State} (hp : s.powered 47 = true) (h : s.lnk.rx.locked = false) (hl : s.lnk.los1 = false) :
    ∃ t, exec .rlCdrLock s = .next t ∧ t.lnk.rx.locked = true ∧ t.lnk.lol1 = false ∧
      t.ev.seq = (if s.lnk.lol1 then s.ev.seq + 1 else s.ev.seq) ∧
      t = { s with free := t.free, clk := t.clk, pwr := t.pwr, reg := t.reg, ev := t.ev, lnk := t.lnk } ∧
      (s.lnk.state ≠ .rlAcquire → t.lnk.state = s.lnk.state ∧ t.pwr = s.pwr ∧ t.clk = s.clk) := by
  refine ⟨_, exec_rlCdrLock hp h hl, ?_⟩
  obtain ⟨hlock, hlol, hseq, hstate, hparts⟩ := s.cdrCleared_spec
  have hclk : s.cdrCleared.clk = s.clk := (congrArg State.clk hparts :)
  have hpwr : s.cdrCleared.pwr = s.pwr := (congrArg State.pwr hparts :)
  generalize s.cdrCleared = x at *
  have hseen := x.afterAcquire_seen.1
  refine ⟨(congrArg (fun l => l.rx.locked) hseen :).trans hlock, (congrArg Lnk.lol1 hseen :).trans hlol, by simpa using hseq, ?_, fun hs => ?_⟩
  · rw [x.afterAcquire_parts, hparts]
  · rw [State.afterAcquire_elsewhere (by rw [hstate]; exact hs)]
    exact ⟨hstate, hpwr, hclk⟩

theorem rlCdrUnlock_spec {s : State} (hp : s.powered 47 = true) (h : s.lnk.lol1 = false) : ∃ t, exec .rlCdrUnlock s = .next t ∧
    t.lnk.lol1 = true ∧ t.lnk.rx.locked = false ∧ t.lnk.rx.run = 0 ∧ t.lnk.rx.spaced = false ∧ t.lnk.rx.since = none ∧
    t.ev.seq = s.ev.seq + 1 ∧ t.lnk.state = s.lnk.state ∧ t = { s with reg := t.reg, ev := t.ev, lnk := t.lnk } := by
  have e : exec .rlCdrUnlock s = .next s.cdrLost := by simp [exec, execRlCdrUnlock, hp, h]
  obtain ⟨hl, hseq, hs⟩ := s.raise_link { s.lnk with lol1 := true, rx := s.lnk.rx.cdrLost } 8 (leBytes 1 1 ++ leBytes 1 (boolNat true))
  have hrx := (congrArg Lnk.rx hl :)
  exact ⟨_, e, (congrArg Lnk.lol1 hl :), (congrArg Receiver.locked hrx :), (congrArg Receiver.run hrx :),
    (congrArg Receiver.spaced hrx :), (congrArg Receiver.since hrx :), hseq, (congrArg Lnk.state hl :), hs⟩

/-- The state in which block lock lets a bring-up go on. -/
def State.blockLocked (s : State) : State :=
  { s with
    free := s.free + 1
    lnk := { s.lnk with rx :=
      { s.lnk.rx with blockLock := true, descrambler := Config.scramblerSeed s.free, stream := none } } }

theorem rlBlockLock_spec {s : State} (hp : s.powered 47 = true) (h : s.lnk.rx.locked = true) (hb : s.lnk.rx.blockLock = false)
    (hm : 4 ≤ s.lnk.rx.run ∨ s.lnk.rx.spaced = true) : ∃ t, exec .rlBlockLock s = .next t ∧ t.lnk.rx.blockLock = true ∧
    t.lnk.rx.stream = none ∧ t = { s with free := t.free, clk := t.clk, pwr := t.pwr, lnk := t.lnk } ∧
    (s.lnk.state ≠ .rlAcquire → t.pwr = s.pwr ∧ t.clk = s.clk ∧ t.lnk = { s.lnk with rx := t.lnk.rx }) := by
  have e : exec .rlBlockLock s = .next s.blockLocked.afterAcquire := by
    have hm' : s.lnk.rx.lockable = true := by rcases hm with hm | hm <;> simp [Receiver.lockable, hm]
    exact congrArg Host.Outcome.next (if_pos (by simp [hp, h, hb, hm']))
  have hrx := (congrArg Lnk.rx s.blockLocked.afterAcquire_seen.1 :)
  refine ⟨_, e, (congrArg Receiver.blockLock hrx :), (congrArg Receiver.stream hrx :), s.blockLocked.afterAcquire_parts, fun hs => ?_⟩
  rw [State.afterAcquire_elsewhere (s := s.blockLocked) hs]
  exact ⟨rfl, rfl, rfl⟩

/-- A loss of signal, or its return. -/
theorem rlSignal_spec {s : State} (on : Bool) (hp : s.powered 47 = true) (h : s.lnk.los1 = !on) :
    ∃ t, exec (if on then .rlSignalLoss else .rlSignalRestore) s = .next t ∧ t.lnk.los1 = on ∧ t.ev.seq = s.ev.seq + 1 ∧
      t.lnk.state = s.lnk.state ∧ t = { s with reg := t.reg, ev := t.ev, lnk := t.lnk } := by
  have e : exec (if on then .rlSignalLoss else .rlSignalRestore) s = .next ({ s with lnk := { s.lnk with los1 := on } }.raiseLos 1 on) := by
    cases on <;> simp [exec, execRlSignalLoss, execRlSignalRestore, hp, h]
  obtain ⟨hl, hseq, hs⟩ := s.raise_link { s.lnk with los1 := on } 7 (leBytes 1 1 ++ leBytes 1 (boolNat on))
  exact ⟨_, e, (congrArg Lnk.los1 hl :), hseq, (congrArg Lnk.state hl :), hs⟩

/-- Settles O35: each row writes the receiver or a condition with its event; what a lock lets go on keeps both. -/
theorem returnLane : Obligations.ReturnLane := by
  intro s hp
  refine ⟨fun h hl => rlCdrLock_spec hp h hl, fun h => rlCdrUnlock_spec hp h, fun h hb hm => rlBlockLock_spec hp h hb hm, fun hb hm => ?_,
    fun h => rlSignal_spec true hp h, fun h => rlSignal_spec false hp h, fun fom => by simp [exec, execRlFomUpdate, hp]⟩
  have hu : s.lnk.rx.unlockable s.clk.ticks = true := by rcases hm with hm | hm <;> simp [Receiver.unlockable, hm]
  simp only [exec, execRlBlockLockLoss, hp, hb, hu, Bool.and_self, if_true, State.blockLockLost]

end Sys2Proof.Machine

namespace Sys2Proof.Machine

/-! ## Proofs: the reference clock and the time PLL (09, 11) -/

theorem State.refclkUsed_of {s : State} (h : s.pwr.released = true ∨ s.rst.cause ≠ .por) : s.refclkUsed = true := by
  rcases h with h | h <;> simp [State.refclkUsed, h]

/-- `EV_LOL` source 3 where the time PLL had lock. -/
def State.pllGone (s : State) (locked : Bool) : State :=
  if locked then { s with lnk := { s.lnk with lol3 := true } }.raiseLol 3 true else s

theorem State.pllGone_spec (s : State) (b : Bool) : (s.pllGone b).lnk.los2 = s.lnk.los2 ∧ (b = true → (s.pllGone b).lnk.lol3 = true) ∧
    (s.pllGone b).lnk.state = s.lnk.state ∧
    s.pllGone b = { s with reg := (s.pllGone b).reg, ev := (s.pllGone b).ev, lnk := (s.pllGone b).lnk } := by
  unfold State.pllGone
  split
  · obtain ⟨hl, -, hs⟩ := s.raise_link { s.lnk with lol3 := true } 8 (leBytes 1 3 ++ leBytes 1 (boolNat true))
    exact ⟨(congrArg Lnk.los2 hl :), fun _ => (congrArg Lnk.lol3 hl :), (congrArg Lnk.state hl :), hs⟩
  · next h => exact ⟨rfl, fun h' => absurd h' h, rfl, rfl⟩

/-- `EV_LOL` source 2 where the lane synthesisers are powered and it does not stand. -/
def State.lanesGone (s : State) : State :=
  if s.powered 48 && !s.lnk.lol2 then { s with lnk := { s.lnk with lol2 := true } }.raiseLol 2 true else s

theorem State.lanesGone_spec (s : State) : s.lanesGone.lnk.los2 = s.lnk.los2 ∧ s.lanesGone.lnk.lol3 = s.lnk.lol3 ∧
    s.lanesGone.lnk.state = s.lnk.state ∧
    s.lanesGone = { s with reg := s.lanesGone.reg, ev := s.lanesGone.ev, lnk := s.lanesGone.lnk } := by
  unfold State.lanesGone
  split
  · obtain ⟨hl, -, hs⟩ := s.raise_link { s.lnk with lol2 := true } 8 (leBytes 1 2 ++ leBytes 1 (boolNat true))
    exact ⟨(congrArg Lnk.los2 hl :), (congrArg Lnk.lol3 hl :), (congrArg Lnk.state hl :), hs⟩
  · exact ⟨rfl, rfl, rfl, rfl⟩

/-- The state in which the loss of REFCLK takes the link back. -/
def State.clocksGone (s : State) : State :=
  let s1 := { s with clk := { s.clk with refclk := false, pllLocked := false }, lnk := { s.lnk with los2 := true } }.raiseLos 2 true
  let s2 := s1.pllGone s.clk.pllLocked
  { s2 with clk := { s2.clk with fwdLocked := false, retLocked := false } }.lanesGone

theorem State.refclkLost_eq (s : State) : s.refclkLost = s.clocksGone.backToAcquire 2 := rfl

theorem State.clocksGone_spec (s : State) : s.clocksGone.lnk.los2 = true ∧
    (s.clk.pllLocked = true → s.clocksGone.lnk.lol3 = true) ∧ s.clocksGone.lnk.state = s.lnk.state ∧
    s.clocksGone = { s with
      clk := { s.clk with refclk := false, pllLocked := false, fwdLocked := false, retLocked := false }
      reg := s.clocksGone.reg, ev := s.clocksGone.ev, lnk := s.clocksGone.lnk } := by
  obtain ⟨hl, -, hs⟩ := State.raise_link { s with clk := { s.clk with refclk := false, pllLocked := false } } { s.lnk with los2 := true } 7
    (leBytes 1 2 ++ leBytes 1 (boolNat true))
  obtain ⟨x, hx⟩ : ∃ x, { s with clk := { s.clk with refclk := false, pllLocked := false }
                                 lnk := { s.lnk with los2 := true } }.raiseLos 2 true = x := ⟨_, rfl⟩
  rw [show ({ s with clk := { s.clk with refclk := false, pllLocked := false }, lnk := { s.lnk with los2 := true } } : State).raise 7
    ({ s with clk := { s.clk with refclk := false, pllLocked := false } } : State).now (leBytes 1 2 ++ leBytes 1 (boolNat true)) = x from hx]
    at hl hs
  obtain ⟨p1, p2, p3, p4⟩ := x.pllGone_spec s.clk.pllLocked
  have hc : s.clocksGone = ({ x.pllGone s.clk.pllLocked with
      clk := { (x.pllGone s.clk.pllLocked).clk with fwdLocked := false, retLocked := false } } : State).lanesGone := by rw [← hx]; rfl
  generalize x.pllGone s.clk.pllLocked = y at *
  obtain ⟨z, hz⟩ : ∃ z, { y with clk := { y.clk with fwdLocked := false, retLocked := false } } = z := ⟨_, rfl⟩
  rw [hz] at hc
  obtain ⟨q1, q2, q3, q4⟩ := z.lanesGone_spec
  rw [hc]
  have hzl : z.lnk = y.lnk := by rw [← hz]
  refine ⟨?_, fun h => ?_, ?_, ?_⟩
  · rw [q1, hzl, p1]
    exact (congrArg Lnk.los2 hl :)
  · rw [q2, hzl, p2 h]
  · rw [q3, hzl, p3]
    exact (congrArg Lnk.state hl :)
  · rw [q4, ← hz, p4, hs]

theorem refclkLoss_spec {s : State} (hu : s.refclkUsed = true) (hc : s.clk.refclk = true) (hr : s.pwr.run = none) :
    ∃ t, exec .refclkLoss s = .next t ∧ t.clk.refclk = false ∧ t.clk.pllLocked = false ∧
      t.clk.time = s.clk.time ∧ t.lnk.los2 = true ∧ (s.clk.pllLocked = true → t.lnk.lol3 = true) ∧
      t.lnk.state = (if s.lnk.state = .off ∨ s.lnk.state = .downWait then s.lnk.state else .rlAcquire) ∧
      (s.lnk.state = .up → t.lnk.downReason = 2) ∧
      t = { s with clk := t.clk, pwr := t.pwr, reg := t.reg, ev := t.ev, lnk := t.lnk } := by
  have e : exec .refclkLoss s = .next (s.clocksGone.backToAcquire 2) := by
    rw [← State.refclkLost_eq]
    simp [exec, execRefclkLoss, hc, hu]
  obtain ⟨hlos, hlol, hstate, hparts⟩ := s.clocksGone_spec
  have hclk : s.clocksGone.clk = { s.clk with refclk := false, pllLocked := false, fwdLocked := false, retLocked := false } :=
    (congrArg State.clk hparts :)
  have hfree : s.clocksGone.free = s.free := (congrArg State.free hparts :)
  have hrun : s.clocksGone.pwr.run = none := (congrArg (fun x => x.pwr.run) hparts :).trans hr
  have hframe : s.clocksGone.backToAcquire 2 = { s.clocksGone with
      free := (s.clocksGone.backToAcquire 2).free, clk := (s.clocksGone.backToAcquire 2).clk, pwr := (s.clocksGone.backToAcquire 2).pwr
      reg := (s.clocksGone.backToAcquire 2).reg, ev := (s.clocksGone.backToAcquire 2).ev, lnk := (s.clocksGone.backToAcquire 2).lnk } :=
    State.eq_of_parts (by simp)
  have hback := State.backToAcquire_spec (s := s.clocksGone) 2 hrun (.inl (by rw [hclk]))
  refine ⟨_, e, ?_⟩
  generalize s.clocksGone.backToAcquire 2 = t at *
  generalize s.clocksGone = y at *
  obtain ⟨free, seen, -, conditions, state, up, -⟩ := hback
  rw [hclk] at seen
  refine ⟨(congrArg Clk.refclk seen :), (congrArg Clk.pllLocked seen :), (congrArg Clk.time seen :),
    (congrArg (fun c => c.2.1) conditions :).trans hlos, fun h => (congrArg (fun c => c.2.2.2.2.1) conditions :).trans (hlol h),
    by rw [state, hstate], fun h => (up (by rw [hstate, h])).1, ?_⟩
  rw [free, hfree, hparts] at hframe
  exact hframe

/-- The state in which REFCLK's return lets a bring-up start: `EV_LOS` source 2 is cleared. -/
def State.refclkCleared (s : State) : State :=
  let s1 := { s with clk := { s.clk with refclk := true } }
  if s.lnk.los2 then { s1 with lnk := { s1.lnk with los2 := false } }.raiseLos 2 false else s1

theorem State.refclkCleared_spec (s : State) : s.refclkCleared.lnk.los2 = false ∧ s.refclkCleared.clk = { s.clk with refclk := true } ∧
    s.refclkCleared.ev.seq = (if s.lnk.los2 then s.ev.seq + 1 else s.ev.seq) ∧
    s.refclkCleared = { s with clk := s.refclkCleared.clk, reg := s.refclkCleared.reg, ev := s.refclkCleared.ev, lnk := s.refclkCleared.lnk } := by
  obtain ⟨x, hx⟩ : ∃ x : State, { s with clk := { s.clk with refclk := true } } = x := ⟨_, rfl⟩
  have hparts : x.lnk = s.lnk ∧ x.clk = { s.clk with refclk := true } ∧ x.ev = s.ev := by
    rw [← hx]
    exact ⟨rfl, rfl, rfl⟩
  obtain ⟨hlnk, hclk, hev⟩ := hparts
  have hc : s.refclkCleared = if x.lnk.los2 then { x with lnk := { x.lnk with los2 := false } }.raiseLos 2 false else x := by
    rw [← hx]
    rfl
  rw [hc, ← hlnk]
  split
  · obtain ⟨hl, hseq, hs⟩ := x.raise_link { x.lnk with los2 := false } 7 (leBytes 1 2 ++ leBytes 1 (boolNat false))
    refine ⟨(congrArg Lnk.los2 hl :), (congrArg State.clk hs :).trans hclk, by rw [← hev]; exact hseq, ?_⟩
    exact State.eq_of_parts (by simp [State.raiseLos, ← hx])
  · next h =>
    rw [← hx] at h ⊢
    exact ⟨by simpa using h, rfl, rfl, rfl⟩

theorem refclkRestore_spec {s : State} (hu : s.refclkUsed = true) (hc : s.clk.refclk = false) :
    ∃ t, exec .refclkRestore s = .next t ∧ t.clk.refclk = true ∧ t.lnk.los2 = false ∧
      t.clk.time = s.clk.time ∧ t.ev.seq = (if s.lnk.los2 then s.ev.seq + 1 else s.ev.seq) ∧
      t = { s with free := t.free, clk := t.clk, pwr := t.pwr, reg := t.reg, ev := t.ev, lnk := t.lnk } := by
  have e : exec .refclkRestore s = .next (if s.refclkCleared.lnk.state = .rlAcquire then s.refclkCleared.startBringUp else s.refclkCleared) := by
    simp only [exec, execRefclkRestore, hc, hu, Bool.not_true, Bool.or_self, Bool.false_eq_true, if_false]
    rfl
  obtain ⟨hlos, hclk, hseq, hparts⟩ := s.refclkCleared_spec
  generalize s.refclkCleared = x at *
  refine ⟨_, e, ?_⟩
  split
  · obtain ⟨hl, hs⟩ := x.startBringUp_seen
    rw [hclk] at hs
    refine ⟨(congrArg Clk.refclk hs :), (congrArg Lnk.los2 hl :).trans hlos, (congrArg Clk.time hs :), by simpa using hseq, ?_⟩
    have hframe : x.startBringUp = { x with free := x.startBringUp.free, clk := x.startBringUp.clk, pwr := x.startBringUp.pwr
                                            lnk := x.startBringUp.lnk } := State.eq_of_parts (by simp)
    rw [hframe, hparts]
  · refine ⟨by rw [hclk], hlos, by rw [hclk], hseq, ?_⟩
    rw [hparts]

theorem timePllUnlock_spec {s : State} (hc : s.clk.refclk = true) (hl : s.clk.pllLocked = true) : ∃ t, exec .timePllUnlock s = .next t ∧
    t.clk = { s.clk with pllLocked := false } ∧ t.lnk.lol3 = true ∧ t.ev.seq = s.ev.seq + 1 ∧ t.lnk.state = s.lnk.state ∧
    t = { s with clk := t.clk, reg := t.reg, ev := t.ev, lnk := t.lnk } := by
  have e : exec .timePllUnlock s = .next s.timePllLost := by simp [exec, execTimePllUnlock, hc, hl]
  obtain ⟨h, hseq, hs⟩ := State.raise_link { s with clk := { s.clk with pllLocked := false } } { s.lnk with lol3 := true } 8
    (leBytes 1 3 ++ leBytes 1 (boolNat true))
  refine ⟨_, e, (congrArg State.clk hs :), (congrArg Lnk.lol3 h :), hseq, (congrArg Lnk.state h :), ?_⟩
  exact State.eq_of_parts (by simp [State.timePllLost, State.raiseLol])

theorem timePllRelock_spec {s : State} (hc : s.clk.refclk = true) (hl : s.clk.pllLocked = false) (hp : s.powered 49 = true) :
    ∃ t, exec .timePllRelock s = .next t ∧ t.clk = { s.clk with pllLocked := true } ∧ t.lnk.lol3 = false ∧
      t.ev.seq = (if s.lnk.lol3 then s.ev.seq + 1 else s.ev.seq) ∧ t.lnk.state = s.lnk.state ∧
      t = { s with clk := t.clk, reg := t.reg, ev := t.ev, lnk := t.lnk } := by
  have e : exec .timePllRelock s = .next s.timePllBack := by simp [exec, execTimePllRelock, hc, hl, hp]
  refine ⟨_, e, ?_⟩
  by_cases h3 : s.lnk.lol3 = true
  · have hb : s.timePllBack = ({ s with clk := { s.clk with pllLocked := true }, lnk := { s.lnk with lol3 := false } } : State).raiseLol 3 false :=
      if_pos h3
    obtain ⟨h, hseq, hs⟩ := State.raise_link { s with clk := { s.clk with pllLocked := true } } { s.lnk with lol3 := false } 8
      (leBytes 1 3 ++ leBytes 1 (boolNat false))
    rw [hb, if_pos h3]
    refine ⟨(congrArg State.clk hs :), (congrArg Lnk.lol3 h :), hseq, (congrArg Lnk.state h :), ?_⟩
    exact State.eq_of_parts (by simp [State.raiseLol])
  · have hb : s.timePllBack = { s with clk := { s.clk with pllLocked := true } } := if_neg h3
    rw [hb, if_neg h3]
    exact ⟨rfl, by simpa using h3, rfl, rfl, rfl⟩

/-- Settles O36: the loss clears every lock before the link goes back; each other row writes its lock and its event. -/
theorem referenceClock : Obligations.ReferenceClock := fun _ h =>
  ⟨fun hc hr => refclkLoss_spec (State.refclkUsed_of h) hc hr, fun hc => refclkRestore_spec (State.refclkUsed_of h) hc,
    fun hc hl => timePllUnlock_spec hc hl, fun hc hl hp => timePllRelock_spec hc hl hp⟩

end Sys2Proof.Machine

namespace Sys2Proof.Machine

/-! ## Proofs: lane identification (09, 10) -/

/-- A lane map with nibble `k` replaced. -/
def putLane (m k v : Nat) : Nat := m - bitsOf m (4 * k) 4 * 2 ^ (4 * k) + v * 2 ^ (4 * k)

theorem bitsOf_putLane (m : Nat) {j k v : Nat} (hj : j < 4) (hk : k < 4) (hv : v < 16) :
    bitsOf (putLane m k v) (4 * j) 4 = if j = k then v else bitsOf m (4 * j) 4 := by
  unfold putLane bitsOf
  rcases (by omega : j = 0 ∨ j = 1 ∨ j = 2 ∨ j = 3) with rfl | rfl | rfl | rfl <;>
    rcases (by omega : k = 0 ∨ k = 1 ∨ k = 2 ∨ k = 3) with rfl | rfl | rfl | rfl <;> simp <;> omega

/-- What one receiver's byte makes of the map. -/
def reportLane (m k : Nat) (b : Byte) : Nat :=
  match laneFound b with
  | some f => putLane m k (f.1 + 8 * boolNat f.2)
  | none => m

theorem laneFound_lt {b : Byte} {f : Nat × Bool} (h : laneFound b = some f) : f.1 < 8 := by
  unfold laneFound at h
  split at h
  · cases h
    exact Nat.mod_lt _ (by decide)
  · cases h

theorem laneNibble_lt {b : Byte} {f : Nat × Bool} (h : laneFound b = some f) : f.1 + 8 * boolNat f.2 < 16 := by
  have := laneFound_lt h
  cases f.2 <;> simp [boolNat] <;> omega

theorem bitsOf_reportLane_other (m : Nat) {j k : Nat} (b : Byte) (hj : j < 4) (hk : k < 4) (h : j ≠ k) :
    bitsOf (reportLane m k b) (4 * j) 4 = bitsOf m (4 * j) 4 := by
  unfold reportLane
  split
  · next f hf => rw [bitsOf_putLane m hj hk (laneNibble_lt hf), if_neg h]
  · rfl

theorem bitsOf_reportLane (m : Nat) {k : Nat} {b : Byte} {f : Nat × Bool} (hk : k < 4) (hf : laneFound b = some f) :
    bitsOf (reportLane m k b) (4 * k) 4 = f.1 + 8 * boolNat f.2 := by
  rw [reportLane, hf]
  dsimp only
  rw [bitsOf_putLane m hk hk (laneNibble_lt hf), if_pos rfl]

/-- The map of a report holds, for each receiver that found a lane, what it found. -/
theorem bitsOf_laneMapOf (m : Nat) {l : List Byte} {k : Nat} {f : Nat × Bool} (hl : l.length = 4) (hk : k < 4)
    (hf : laneFound (l.getD k 0) = some f) : bitsOf (laneMapOf m l) (4 * k) 4 = f.1 + 8 * boolNat f.2 := by
  obtain ⟨a, b, c, d, rfl⟩ : ∃ a b c d, l = [a, b, c, d] := by
    match l, hl with
    | [a, b, c, d], _ => exact ⟨a, b, c, d, rfl⟩
  have hm : laneMapOf m [a, b, c, d] = reportLane (reportLane (reportLane (reportLane m 0 a) 1 b) 2 c) 3 d := rfl
  rw [hm]
  rcases (by omega : k = 0 ∨ k = 1 ∨ k = 2 ∨ k = 3) with rfl | rfl | rfl | rfl
  · rw [bitsOf_reportLane_other _ d (by decide) (by decide) (by decide), bitsOf_reportLane_other _ c (by decide) (by decide) (by decide),
      bitsOf_reportLane_other _ b (by decide) (by decide) (by decide)]
    exact bitsOf_reportLane _ (by decide) hf
  · rw [bitsOf_reportLane_other _ d (by decide) (by decide) (by decide), bitsOf_reportLane_other _ c (by decide) (by decide) (by decide)]
    exact bitsOf_reportLane _ (by decide) hf
  · rw [bitsOf_reportLane_other _ d (by decide) (by decide) (by decide)]
    exact bitsOf_reportLane _ (by decide) hf
  · exact bitsOf_reportLane _ (by decide) hf

/-- HOP powers every lane mapped. -/
theorem State.enterHop_powered (s : State) (rate : Nat) {k p : Nat} (hk : k ∈ s.lnk.mapped) (hp : s.physical k = p) (hlt : p < 13) :
    (s.enterHop rate).powered (43 + p) = true := by
  have h := s.powered_domainsOn (s.mappedLanes.map (43 + ·)) (i := 43 + p) (by omega)
  refine Eq.trans (b := (s.domainsOn (s.mappedLanes.map (43 + ·))).powered (43 + p)) rfl (h.trans ?_)
  rw [Bool.or_eq_true, decide_eq_true_eq]
  exact .inr (List.mem_map.2 ⟨p, List.mem_map.2 ⟨k, hk, hp⟩, rfl⟩)

theorem exec_laneReport {s : State} {l : List Byte} (hs : s.lnk.state = .ident) (hr : s.returnLane = true) (hl : l.length = 4)
    (hok : laneReportOk s.lnk.mask l = true) : exec (.laneReport l) s = .next (s.applyLaneReport l) := by
  simp [exec, execLaneReport, State.onLaneReport, hs, hr, hl, hok]

/-- The state in which an accepted report enters HOP: its map is applied and stored. -/
def State.reported (s : State) (l : List Byte) : State :=
  let map := laneMapOf (s.stored 0x1C07) l
  let s1 := (s.storePar 0x1C07 map).domainsOff
    (((List.range 4).filter fun p => !((l.filterMap laneFound).map Prod.fst).contains p).map (43 + ·))
  { s1 with lnk := { s1.lnk with
      map := map, mapInForce := true, requested := lanesFound l, restarts := 0
      mapped := (List.range 4).filter fun k => (l[k]?.bind laneFound).isSome } }

theorem State.reported_spec (s : State) (l : List Byte) : (s.reported l).lnk.map = laneMapOf (s.stored 0x1C07) l ∧
    (s.reported l).lnk.mapInForce = true ∧
    (s.reported l).lnk.mapped = (List.range 4).filter (fun k => (l[k]?.bind laneFound).isSome) ∧
    s.applyLaneReport l = (s.reported l).enterHop s.lnk.target := by
  refine ⟨rfl, rfl, rfl, ?_⟩
  have h : ((s.storePar 0x1C07 (laneMapOf (s.stored 0x1C07) l)).domainsOff
      (((List.range 4).filter fun p => !((l.filterMap laneFound).map Prod.fst).contains p).map (43 + ·))).lnk = s.lnk := by simp
  exact congrArg (s.reported l).enterHop (congrArg Lnk.target h)

theorem laneReport_spec {s : State} {l : List Byte} (hs : s.lnk.state = .ident) (hr : s.returnLane = true) (hl : l.length = 4)
    (hok : laneReportOk s.lnk.mask l = true) :
    ∃ t, exec (.laneReport l) s = .next t ∧ t.lnk.state = .hop ∧ t.lnk.hopRate = s.lnk.target ∧ t.lnk.mapInForce = true ∧
      (∀ k p, k < 4 → laneFound (l.getD k 0) = some p → bitsOf t.lnk.map (4 * k) 4 = p.1 + 8 * boolNat p.2 ∧
        t.powered (43 + p.1) = true) ∧
      t = { s with free := t.free, clk := t.clk, pwr := t.pwr, par := t.par, lnk := t.lnk } := by
  obtain ⟨hmap, hforce, hmapped, happly⟩ := s.reported_spec l
  refine ⟨_, exec_laneReport hs hr hl hok, ?_⟩
  have hseen := ((s.reported l).enterHop_seen s.lnk.target).1
  have hm : ((s.reported l).enterHop s.lnk.target).lnk.map = (s.reported l).lnk.map := by
    have h : ((s.reported l).lanesOn (s.reported l).mappedLanes).lnk = (s.reported l).lnk := by simp
    exact (congrArg Lnk.map h :)
  refine ⟨by rw [happly]; rfl, by rw [happly]; rfl, ?_, fun k p hk hf => ?_, State.eq_of_parts (by simp)⟩
  · rw [happly]
    exact (congrArg Lnk.mapInForce hseen :).trans hforce
  · have hb := bitsOf_laneMapOf (s.stored 0x1C07) hl hk hf
    rw [happly]
    refine ⟨by rw [hm, hmap, hb], State.enterHop_powered _ _ (k := k) ?_ ?_ ?_⟩
    · rw [hmapped, List.mem_filter, List.mem_range]
      refine ⟨hk, ?_⟩
      have hg : l[k]? = some (l.getD k 0) := by
        rw [List.getD_eq_getElem?_getD, List.getElem?_eq_getElem (by omega)]
        rfl
      rw [hg, Option.bind_some, hf]
      rfl
    · have hlt := laneFound_lt hf
      rw [State.physical, hmap]
      have h8 : bitsOf (laneMapOf (s.stored 0x1C07) l) (4 * k) 3 = bitsOf (laneMapOf (s.stored 0x1C07) l) (4 * k) 4 % 8 := by
        unfold bitsOf
        omega
      rw [h8, hb]
      omega
    · have := laneFound_lt hf
      omega

/-- A failed bring-up outside a closing run: DOWN_WAIT with its reason, and the lanes off. -/
theorem State.failBringUp_spec {s : State} (hr : s.pwr.run = none) : s.failBringUp.lnk.state = .downWait ∧
    s.failBringUp.lnk.downReason = 3 ∧ s.failBringUp.ev.seq = s.ev.seq + 1 ∧
    (∀ i, i ∈ [43, 44, 45, 46] → s.failBringUp.powered i = false) ∧
    s.failBringUp = { s with pwr := s.failBringUp.pwr, reg := s.failBringUp.reg, ev := s.failBringUp.ev, lnk := s.failBringUp.lnk } := by
  obtain ⟨y, hy⟩ : ∃ y, { s with lnk := { s.lnk with downReason := 3 } } = y := ⟨_, rfl⟩
  have hd : s.linkDown 3 = y.raise 6 s.now (leBytes 1 3 ++ leBytes 1 s.lnk.rateUsed ++ leBytes 1 s.lnk.lanesUsed) := by
    rw [State.linkDown, if_neg (by simp [State.closing, hr]), hy]
  have hev : (s.linkDown 3).ev.seq = s.ev.seq + 1 := by
    rw [hd, State.raise_ev_seq, ← hy]
  have hreason : (s.linkDown 3).lnk.downReason = 3 := by
    rw [hd]
    refine (congrArg Lnk.downReason (y.raise_noControl 6 s.now _) :).trans ?_
    rw [← hy]
    rfl
  have hoff : (s.linkDown 3).lanesOff.lnk.seen = (s.linkDown 3).lnk.seen := State.lanesOff_seen _
  refine ⟨rfl, (congrArg Lnk.downReason hoff :).trans hreason, ?_, fun i hi => ?_, State.eq_of_parts (by simp)⟩
  · have h : s.failBringUp.ev = (s.linkDown 3).ev := by simp [State.failBringUp]
    rw [h, hev]
  · have hlt : i < 56 := by
      simp only [List.mem_cons, List.not_mem_nil, or_false] at hi
      omega
    refine Eq.trans (b := ((s.linkDown 3).domainsOff [43, 44, 45, 46]).powered i) rfl ((State.powered_domainsOff _ _ hlt).trans ?_)
    simp [hi]

/-- The lanes that IDENT powers, and what they send. -/
theorem State.enterIdent_spec (s : State) : s.enterIdent.lnk.state = .ident ∧ s.enterIdent.lnk.entered = s.clk.ticks ∧
    s.enterIdent.lnk.restarts = s.lnk.restarts ∧
    (∀ p, p < 4 → (s.stored 0x1C04).testBit p = true → s.enterIdent.powered (43 + p) = true ∧ (p, identWord p) ∈ s.enterIdent.lnk.ident) ∧
    (∀ p, p < 4 → (s.stored 0x1C04).testBit p = false → s.enterIdent.powered (43 + p) = false) := by
  have hlnk : ∀ a b : List Nat, ((s.domainsOff a).lanesOn b).lnk = s.lnk := by simp
  have hclk : ∀ a b : List Nat, ((s.domainsOff a).lanesOn b).clk = s.clk := by simp
  have hpow : ∀ p, p < 4 → s.enterIdent.powered (43 + p) =
      ((s.powered (43 + p) && (s.stored 0x1C04).testBit p) || (s.stored 0x1C04).testBit p) := by
    intro p hp
    have h1 := State.powered_domainsOn (s.domainsOff (((List.range 4).filter fun p =>
        !((List.range 4).filter fun p => (s.stored 0x1C04).testBit p).contains p).map (43 + ·)))
      (((List.range 4).filter fun p => (s.stored 0x1C04).testBit p).map (43 + ·)) (i := 43 + p) (by omega)
    have h2 := State.powered_domainsOff s (((List.range 4).filter fun p =>
        !((List.range 4).filter fun p => (s.stored 0x1C04).testBit p).contains p).map (43 + ·)) (i := 43 + p) (by omega)
    refine Eq.trans (b := State.powered _ (43 + p)) rfl (h1.trans ?_)
    rw [h2]
    congr 1
    · cases h : (s.stored 0x1C04).testBit p <;> simp [h, hp]
    · cases h : (s.stored 0x1C04).testBit p <;> simp [h, hp]
  refine ⟨rfl, (congrArg Clk.ticks (hclk _ _) :), (congrArg Lnk.restarts (hlnk _ _) :), fun p hp hb => ⟨?_, ?_⟩, fun p hp hb => ?_⟩
  · rw [hpow p hp, hb, Bool.or_true]
  · exact List.mem_map.2 ⟨p, List.mem_filter.2 ⟨List.mem_range.2 hp, hb⟩, rfl⟩
  · rw [hpow p hp, hb]
    simp

theorem identWord_eq {p : Nat} (h : p < 4) : identWord p = [0x47, 0x1D, 0xB6, 0xF0, BitVec.ofNat 8 (p + 16 * (15 - p)), 4, 0x55, 0x55] := by
  rcases (by omega : p = 0 ∨ p = 1 ∨ p = 2 ∨ p = 3) with rfl | rfl | rfl | rfl <;> rfl

theorem exec_identTimeout {s : State} (hs : s.lnk.state = .ident) (ht : s.lnk.entered + 125000 * s.lnk.identTimeout ≤ s.clk.ticks)
    (hr : s.pwr.run = none) : exec .identTimeout s = .next s.identAgain := by
  simp [exec, execIdentTimeout, hs, State.closing, hr, msTicks, ht]

theorem identification_holds : identification := by
  refine ⟨fun s l hs hr hl hok => laneReport_spec hs hr hl hok, fun s hs ht => ⟨fun hlt hr => ?_, fun hle hr => ?_⟩⟩
  · have e := exec_identTimeout hs ht hr
    rw [State.identAgain, if_pos hlt] at e
    obtain ⟨hstate, hentered, hrestarts, hon, hoff⟩ := ({ s with lnk := { s.lnk with restarts := s.lnk.restarts + 1 } } : State).enterIdent_spec
    refine ⟨_, e, hstate, hrestarts, hentered, fun p hp hb => ?_, hoff, State.eq_of_parts (by simp)⟩
    rw [← identWord_eq hp]
    exact hon p hp hb
  · have e := exec_identTimeout hs ht hr
    rw [State.identAgain, if_neg (by omega)] at e
    exact ⟨_, e, State.failBringUp_spec hr⟩

/-! ## Proofs: alignment and retraining (10) -/

theorem State.enterUp_spec (s : State) : s.enterUp.lnk.state = .up ∧ s.enterUp.lnk.lastGood = some (s.lnk.rateUsed, s.lnk.lanesUsed) ∧
    s.enterUp.lnk.train.map Packet.kind = [8] ∧ s.enterUp.reg.irqStatus.getLsbD 7 = true ∧ s.enterUp.lnk.data = s.lnk.data ∧
    s.enterUp.lnk.sealQ = s.lnk.sealQ ∧ s.enterUp.lnk.control = s.lnk.control ∧
    s.enterUp = { s with reg := s.enterUp.reg, lnk := s.enterUp.lnk } :=
  ⟨rfl, rfl, rfl, State.setIrq_bit _ (by decide), rfl, rfl, rfl, rfl⟩

/-- A retrain from UP outside a closing run. -/
theorem State.retrain_spec {s : State} (reason : Nat) (hr : s.pwr.run = none) (hs : s.lnk.state = .up) :
    (s.retrain reason).lnk.state = .hop ∧ (s.retrain reason).lnk.hopRate = s.stored 0x1C02 ∧
    (s.retrain reason).lnk.retrains = s.lnk.retrains + 1 ∧ (s.retrain reason).lnk.downReason = reason ∧
    (s.retrain reason).lnk.leftUp = s.clk.time ∧ (s.retrain reason).ev.seq = s.ev.seq + 1 ∧
    (s.retrain reason).lnk.data = s.lnk.data ∧ (s.retrain reason).lnk.sealQ = s.lnk.sealQ := by
  obtain ⟨-, hreason, hleft, -, hseq⟩ := State.leaveUp_down reason hr hs
  have hpar : (s.leaveUp.linkDown reason).stored 0x1C02 = s.stored 0x1C02 := by simp [State.stored]
  have hdown : (s.leaveUp.linkDown reason).lnk.retrains = s.lnk.retrains ∧ (s.leaveUp.linkDown reason).lnk.data = s.lnk.data ∧
      (s.leaveUp.linkDown reason).lnk.sealQ = s.lnk.sealQ := by
    have hup : s.leaveUp.lnk.retrains = s.lnk.retrains ∧ s.leaveUp.lnk.data = s.lnk.data ∧ s.leaveUp.lnk.sealQ = s.lnk.sealQ := by
      unfold State.leaveUp
      rw [if_neg (by simp [hs])]
      exact ⟨rfl, rfl, rfl⟩
    have hd : ∀ y : State, y.closing = false → (y.linkDown reason).lnk.retrains = y.lnk.retrains ∧
        (y.linkDown reason).lnk.data = y.lnk.data ∧ (y.linkDown reason).lnk.sealQ = y.lnk.sealQ := fun y hy => by
      obtain ⟨hl, -, -⟩ := y.raise_link { y.lnk with downReason := reason } 6
        (leBytes 1 reason ++ leBytes 1 y.lnk.rateUsed ++ leBytes 1 y.lnk.lanesUsed)
      rw [State.linkDown, if_neg (by simp [hy])]
      exact ⟨(congrArg Lnk.retrains hl :), (congrArg Lnk.data hl :), (congrArg Lnk.sealQ hl :)⟩
    obtain ⟨h1, h2, h3⟩ := hd s.leaveUp (by simp [State.closing, hr])
    exact ⟨h1.trans hup.1, h2.trans hup.2.1, h3.trans hup.2.2⟩
  obtain ⟨hretrains, hdata, hseal⟩ := hdown
  have hre : s.retrain reason = ({ s.leaveUp.linkDown reason with lnk := { (s.leaveUp.linkDown reason).lnk with
      retrains := (s.leaveUp.linkDown reason).lnk.retrains + 1, retraining := true, adapt := none
      target := (s.leaveUp.linkDown reason).stored 0x1C02, lanesMax := (s.leaveUp.linkDown reason).stored 0x1C05
      swing := (s.leaveUp.linkDown reason).stored 0x1C0F } } : State).enterHop ((s.leaveUp.linkDown reason).stored 0x1C02) := rfl
  rw [hre, hpar]
  generalize s.leaveUp.linkDown reason = x at *
  obtain ⟨y, hy⟩ : ∃ y, { x with lnk := { x.lnk with
      retrains := x.lnk.retrains + 1, retraining := true, adapt := none, target := s.stored 0x1C02, lanesMax := x.stored 0x1C05
      swing := x.stored 0x1C0F } } = y := ⟨_, rfl⟩
  rw [hy]
  have hl := (y.enterHop_seen (s.stored 0x1C02)).1
  have hret : (y.enterHop (s.stored 0x1C02)).lnk.retrains = y.lnk.retrains := by
    have h : (y.lanesOn y.mappedLanes).lnk = y.lnk := by simp
    exact (congrArg Lnk.retrains h :)
  have hev : (y.enterHop (s.stored 0x1C02)).ev = y.ev := by simp
  refine ⟨rfl, rfl, ?_, (congrArg Lnk.downReason hl :).trans ?_, (congrArg Lnk.leftUp hl :).trans ?_, ?_, (congrArg Lnk.data hl :).trans ?_,
    (congrArg Lnk.sealQ hl :).trans ?_⟩
  · rw [hret, ← hy, ← hretrains]
  · rw [← hy]
    exact hreason
  · rw [← hy]
    exact hleft
  · rw [hev, ← hy]
    exact hseq
  · rw [← hy]
    exact hdata
  · rw [← hy]
    exact hseal

/-- A bring-up that starts has powered the lane PLL, the return lane and LNK. -/
theorem State.startBringUp_eq {s : State} (he : s.stored 0x1C00 ≠ 0) (ha : s.pwr.state = .active) (hr : s.pwr.run = none)
    (hh : s.wdg.halted = false) : s.startBringUp = s.enterAcquire.afterAcquire := by
  rw [State.startBringUp, if_neg (by simp [he, ha, State.closing, hr, State.coreFree, hh])]

theorem State.enterAcquire_powered (s : State) {i : Nat} (hi : i ∈ [47, 48, 50]) : s.enterAcquire.powered i = true := by
  have hlt : i < 56 := by
    simp only [List.mem_cons, List.not_mem_nil, or_false] at hi
    omega
  have hp : s.enterAcquire.pwr = (s.domainsOn [48, 50, 47]).pwr := by simp [State.enterAcquire]
  rw [State.powered_of_pwr hp, State.powered_domainsOn _ _ hlt]
  simp only [List.mem_cons, List.not_mem_nil, or_false] at hi
  rcases hi with rfl | rfl | rfl <;> simp

/-- Where every lock holds already, a bring-up in FULL mode goes on to IDENT. -/
theorem State.afterAcquire_ident {s : State} (hr : s.pwr.run = none) (hh : s.wdg.halted = false) (hs : s.lnk.state = .rlAcquire)
    (hu : s.pwr.poweringUp = []) (hf : s.clk.fwdLocked = true) (hz : s.clk.fwdRate = 0) (ht : s.clk.retLocked = true)
    (hc : s.lnk.rx.locked = true) (hb : s.lnk.rx.blockLock = true) (hm : s.lnk.mode = 0) (hi : s.lnk.mapInForce = false)
    (hw : s.lnk.wakeUp = false) : s.afterAcquire = s.enterIdent := by
  simp [State.afterAcquire, State.closing, State.coreFree, hr, hh, hs, hu, hf, hz, ht, hc, hb, hm, hi, hw]

theorem State.enterAcquire_fwd (s : State) : s.enterAcquire.clk.fwdLocked = (s.clk.fwdLocked && s.clk.fwdRate = 0) := by
  have hc : (s.domainsOn [48, 50, 47]).takeLinkValues.clk = s.clk := by simp
  exact (congrArg (fun c : Clk => c.fwdLocked && decide (c.fwdRate = 0)) hc :)

theorem State.enterAcquire_wakeUp (s : State) : s.enterAcquire.lnk.wakeUp = s.lnk.wakeUp := by
  have ht : ∀ x : State, x.takeLinkValues.lnk.wakeUp = x.lnk.wakeUp := fun x => by
    unfold State.takeLinkValues
    dsimp only
    split <;> rfl
  have hl : (s.domainsOn [48, 50, 47]).lnk = s.lnk := by simp
  exact (ht (s.domainsOn [48, 50, 47])).trans (congrArg Lnk.wakeUp hl)

theorem downWaitExpiry_spec {s : State} (hr : s.pwr.run = none) (hs : s.lnk.state = .downWait)
    (ht : s.lnk.entered + 125000000 ≤ s.clk.ticks) (he : s.stored 0x1C00 ≠ 0) (ha : s.pwr.state = .active) (hh : s.wdg.halted = false) :
    ∃ t, exec .downWaitExpiry s = .next t ∧ (∀ i, i ∈ [47, 48, 50] → t.powered i = true) ∧
      (s.clk.fwdLocked = false → t.lnk.state = .rlAcquire) ∧
      (s.clk.fwdLocked = true → s.clk.fwdRate = 0 → s.clk.retLocked = true → s.lnk.rx.locked = true → s.lnk.rx.blockLock = true →
        s.pwr.poweringUp = [] → (∀ i, i ∈ [47, 48, 50] → s.powered i = true) → s.stored 0x1C08 = 0 → s.lnk.mapInForce = false →
        s.lnk.wakeUp = false → t.lnk.state = .ident) ∧
      t = { s with free := t.free, clk := t.clk, pwr := t.pwr, lnk := t.lnk } := by
  have e : exec .downWaitExpiry s = .next s.startBringUp := by
    simp [exec, execDownWaitExpiry, hs, State.coreFree, hh, msTicks, ht]
  obtain ⟨astate, amode, aret, afwd⟩ := s.enterAcquire_state
  obtain ⟨aseen, aclk⟩ := s.enterAcquire_seen
  refine ⟨_, e, fun i hi => ?_, fun hf => ?_, fun hf hz hret hc hb hu hp hm hi hw => ?_, State.eq_of_parts (by simp)⟩
  · rw [State.startBringUp_eq he ha hr hh]
    have hlt : 47 ≤ i := by
      simp only [List.mem_cons, List.not_mem_nil, or_false] at hi
      omega
    have hlt' : i < 56 := by
      simp only [List.mem_cons, List.not_mem_nil, or_false] at hi
      omega
    exact (s.enterAcquire.afterAcquire_grows i (.inr (by omega)) hlt' (s.enterAcquire_powered hi)).1
  · rw [State.startBringUp_eq he ha hr hh, State.afterAcquire_waits (.inl (Bool.eq_false_iff.2 fun h => by simp [afwd h] at hf)), astate]
  · rw [State.startBringUp_eq he ha hr hh]
    have hon : s.domainsOn [48, 50, 47] = s := by
      simp [State.domainsOn, State.domainOn, hp]
    have hpwr : s.enterAcquire.pwr = s.pwr := by simp [State.enterAcquire, hon]
    have hfwd : s.enterAcquire.clk.fwdLocked = true := by
      rw [s.enterAcquire_fwd, hf, hz]
      rfl
    have hwake : s.enterAcquire.lnk.wakeUp = false := s.enterAcquire_wakeUp.trans hw
    rw [State.afterAcquire_ident (by rw [hpwr]; exact hr) (by simpa using hh) astate (by rw [hpwr]; exact hu) hfwd
      ((congrArg Clk.fwdRate aclk :).trans hz) (aret.trans hret) ((congrArg (fun l => l.rx.locked) aseen :).trans hc)
      ((congrArg (fun l => l.rx.blockLock) aseen :).trans hb) (amode.trans hm) ((congrArg Lnk.mapInForce aseen :).trans hi) hwake]
    exact (State.enterIdent_spec _).1

theorem alignment_holds : alignment := by
  intro s hr
  have hc : s.closing = false := by simp [State.closing, hr]
  refine ⟨fun hs hm hl => ?_, fun hs hm ht => ?_, fun hs hm ht => ?_, fun hs hl hh => ?_, fun hs hl hh => ?_,
    fun hs ht he ha hh => downWaitExpiry_spec hr hs ht he ha hh⟩
  · have e : exec .aligned s = .next s.enterUp := by simp [exec, execAligned, State.onAligned, hs, hm, hl]
    exact ⟨_, e, s.enterUp_spec⟩
  · have e : exec .alignTimeout s = .next s.failBringUp := by simp [exec, execAlignTimeout, hs, hc, hm, msTicks, ht]
    obtain ⟨h1, h2, h3, -, h4⟩ := State.failBringUp_spec hr
    exact ⟨_, e, h1, h2, h3, h4⟩
  · have e : exec .fixedAlignExpiry s = .next s.enterUp := by simp [exec, execFixedAlignExpiry, hs, hc, hm, msTicks, ht]
    obtain ⟨h1, -, -, h2, -, -, -, h3⟩ := s.enterUp_spec
    exact ⟨_, e, h1, h2, h3⟩
  · simp [exec, execRetrain, State.onRetrain, hs, hl, hc, State.askRetrain, State.coreFree, hh]
  · have e : exec .retrain s = .next (s.retrain 5) := by
      simp [exec, execRetrain, State.onRetrain, hs, hl, hc, State.askRetrain, State.coreFree, hh]
    obtain ⟨h1, h2, h3, h4, h5, h6, h7, h8⟩ := State.retrain_spec 5 hr hs
    exact ⟨_, e, h1, h2, h3, h4, h5, h6, h7, h8, State.eq_of_parts (by simp)⟩

/-- Settles O37: the map of a report nibble by nibble, the lanes each step powers, and what each step takes with it. -/
theorem bringUp : Obligations.BringUp := ⟨identification_holds, alignment_holds⟩

end Sys2Proof.Machine

namespace Sys2Proof.Machine

/-! ## Figures of merit: the rounds, what an answer changes, and how step 5 ends (R219, R220, R224, R242, R243) -/

theorem testBit_foldl_lor (l : List Nat) (i k : Nat) :
    (l.foldl (· ||| ·) i).testBit k = true ↔ i.testBit k = true ∨ ∃ m, m ∈ l ∧ m.testBit k = true := by
  induction l generalizing i with
  | nil => simp
  | cons m l ih => simp [ih, Nat.testBit_or, or_assoc]

theorem testBit_joinMasks (l : List Nat) (k : Nat) : (joinMasks l).testBit k = true ↔ ∃ m, m ∈ l ∧ m.testBit k = true := by
  simp [joinMasks, testBit_foldl_lor]

theorem Adapt.testBit_openMask (a : Adapt) (k : Nat) :
    a.openMask.testBit k = true ↔ ∃ x, x ∈ a.lanes ∧ x.1 = k ∧ x.2.phase ≠ .done := by
  simp only [Adapt.openMask, testBit_joinMasks, List.mem_map, List.mem_filter, LaneAdapt.open_, bne_iff_ne]
  constructor
  · rintro ⟨-, ⟨x, ⟨hx, ho⟩, rfl⟩, hk⟩
    exact ⟨x, hx, of_decide_eq_true (Nat.testBit_two_pow.symm.trans hk), ho⟩
  · rintro ⟨x, hx, rfl, ho⟩
    exact ⟨_, ⟨x, ⟨hx, ho⟩, rfl⟩, Nat.testBit_two_pow_self⟩

/-- What leaving UP and entering HOP again leaves of a report's values. -/
theorem State.retrain_fom {s : State} (reason : Nat) (hr : s.pwr.run = none) (hs : s.lnk.state = .up) :
    (s.retrain reason).lnk.outstanding = none ∧ (s.retrain reason).lnk.fomLast = s.lnk.fomLast := by
  have hup : s.leaveUp.lnk.outstanding = none ∧ s.leaveUp.lnk.fomLast = s.lnk.fomLast := by
    unfold State.leaveUp
    rw [if_neg (by simp [hs])]
    exact ⟨rfl, rfl⟩
  have hrun : s.leaveUp.closing = false := by simp [State.closing, hr]
  have hd : (s.leaveUp.linkDown reason).lnk.outstanding = s.leaveUp.lnk.outstanding ∧
      (s.leaveUp.linkDown reason).lnk.fomLast = s.leaveUp.lnk.fomLast := by
    rw [State.linkDown, if_neg (by simp [hrun])]
    generalize s.leaveUp = y
    have h := ({ y with lnk := { y.lnk with downReason := reason } } : State).raise_noControl 6 y.now
      (leBytes 1 reason ++ leBytes 1 y.lnk.rateUsed ++ leBytes 1 y.lnk.lanesUsed)
    exact ⟨(congrArg Lnk.outstanding h :), (congrArg Lnk.fomLast h :)⟩
  unfold State.retrain
  generalize s.leaveUp.linkDown reason = x at *
  obtain ⟨y, hy⟩ : ∃ y, ({ x with lnk := { x.lnk with
      retrains := x.lnk.retrains + 1, retraining := true, adapt := none, target := x.stored 0x1C02
      lanesMax := x.stored 0x1C05, swing := x.stored 0x1C0F } } : State) = y := ⟨_, rfl⟩
  have hl : (y.lanesOn y.mappedLanes).lnk = y.lnk := by simp
  dsimp only
  rw [hy]
  refine ⟨(congrArg Lnk.outstanding hl :).trans ?_, (congrArg Lnk.fomLast hl :).trans ?_⟩
  · rw [← hy]
    exact hd.1.trans hup.1
  · rw [← hy]
    exact hd.2.trans hup.2

theorem exec_fomReport_up {s : State} {q : FomAsk} {foms : List Byte} (lock : BitVec 4) (ho : s.lnk.outstanding = some q)
    (hl : foms.length = 4) (ha : s.fomAnswered q.round q = true) (hs : s.lnk.state = .up) :
    exec (.fomReport q.round foms lock) s = .next (s.monitorAnswer (countedFoms foms lock)) := by
  simp [exec, execFomReport, State.onFomReport, ho, hl, ha, hs]

theorem exec_fomReport_adapt {s : State} {q : FomAsk} {a : Adapt} {foms : List Byte} (lock : BitVec 4) (ho : s.lnk.outstanding = some q)
    (hl : foms.length = 4) (hq : s.fomAnswered q.round q = true) (hs : s.lnk.state = .adapt) (ha : s.lnk.adapt = some a) :
    exec (.fomReport q.round foms lock) s = .next (s.adaptAnswer a (countedFoms foms lock)) := by
  simp [exec, execFomReport, State.onFomReport, ho, hl, hq, hs, ha]

theorem exec_fomReportTimeout {s : State} {q : FomAsk} (ho : s.lnk.outstanding = some q) (ht : q.tick + 125000 ≤ s.clk.ticks) :
    exec .fomReportTimeout s = .next (s.fomMissing q) := by
  simp [exec, execFomReportTimeout, ho, msTicks, ht]

/-- The state after a monitoring report, before what a low run asks for. -/
def State.monitored (s : State) (foms : List Nat) : State :=
  { s with lnk := { s.lnk with
    outstanding := none, fomLast := fomWord foms
    lowRun := if (foms.take s.lnk.lanesUsed).any (fun f => f < s.stored 0x1C11) then s.lnk.lowRun + 1 else 0 } }

theorem State.monitorAnswer_eq (s : State) (foms : List Nat) : s.monitorAnswer foms =
    if 3 ≤ (s.monitored foms).lnk.lowRun && s.stored 0x1C16 = 1 && !s.closing then (s.monitored foms).askRetrain 4 else s.monitored foms := rfl

theorem State.askRetrain_fom {s : State} (reason : Nat) (hr : s.pwr.run = none) (hs : s.lnk.state = .up)
    (ho : s.lnk.outstanding = none) :
    (s.askRetrain reason).lnk.outstanding = none ∧ (s.askRetrain reason).lnk.fomLast = s.lnk.fomLast := by
  unfold State.askRetrain
  split
  · exact s.retrain_fom reason hr hs
  · exact ⟨ho, rfl⟩

theorem State.monitorAnswer_fom {s : State} (foms : List Nat) (hs : s.lnk.state = .up) :
    (s.monitorAnswer foms).lnk.outstanding = none ∧ (s.monitorAnswer foms).lnk.fomLast = fomWord foms := by
  rw [State.monitorAnswer_eq]
  split
  · next h =>
    simp only [Bool.and_eq_true, Bool.not_eq_true'] at h
    have hr : s.pwr.run = none := by simpa [State.closing] using h.2
    exact State.askRetrain_fom 4 hr hs rfl
  · exact ⟨rfl, rfl⟩

theorem fomRounds_holds : fomRounds := by
  refine ⟨fun s a ha hs ho hr ht => ?_, Adapt.testBit_openMask, fun s hs ht => ?_, fun s q foms lock ho hl hq hs => ?_,
    fun s q a foms lock ho hl hq hs ha hopen => ?_, fun s q ho ht => ⟨fun hm => ?_, fun a hm ha hmiss hr => ?_, fun a hm ha hmiss hr => ?_⟩⟩
  · simp [exec, execFomRequest, ha, hs, ho, State.closing, hr, Adapt.settled, usTicks, ht, State.askFom, fomRequestPacket, leBytes]
  · simp [exec, execFomMonitorRequest, hs, msTicks, ht, State.askMonitor, fomRequestPacket, leBytes]
  · obtain ⟨h1, h2⟩ := State.monitorAnswer_fom (countedFoms foms lock) hs
    refine ⟨_, exec_fomReport_up lock ho hl hq hs, h1, h2, fun hne => ?_, fun he hr hh hlow hany => ?_⟩ <;> rw [State.monitorAnswer_eq]
    · rw [if_neg (by simp [hne])]
      exact ⟨rfl, hs, rfl⟩
    · have hrun : (s.monitored (countedFoms foms lock)).lnk.lowRun = s.lnk.lowRun + 1 := if_pos hany
      rw [if_pos (by simp [hrun, he, State.closing, hr, hlow])]
      obtain ⟨h1, -, h3, h4, -⟩ := State.retrain_spec (s := s.monitored (countedFoms foms lock)) 4 hr hs
      have hask : (s.monitored (countedFoms foms lock)).askRetrain 4 = (s.monitored (countedFoms foms lock)).retrain 4 :=
        if_pos (by simp [State.coreFree, State.monitored, hh])
      rw [hask]
      exact ⟨h1, h4, h3⟩
  · rw [exec_fomReport_adapt lock ho hl hq hs ha]
    exact ⟨_, congrArg Host.Outcome.next (if_pos (by rw [← hopen, List.any_map, List.any_map]; rfl))⟩
  · rw [exec_fomReportTimeout ho ht]
    exact congrArg Host.Outcome.next (if_pos (by simp [hm]))
  · rw [exec_fomReportTimeout ho ht]
    simp [State.fomMissing, hm, ha, State.closing, hr, show ¬ 3 ≤ a.missing + 1 by omega]
  · obtain ⟨y, hy⟩ : ∃ y : State, { s with lnk := { s.lnk with outstanding := none } } = y := ⟨_, rfl⟩
    have e : s.fomMissing q = y.failBringUp := by
      simp [State.fomMissing, hm, ha, State.closing, hr, hmiss, ← hy]
    obtain ⟨h1, h2, h3, -⟩ := State.failBringUp_spec (s := y) (by rw [← hy]; exact hr)
    refine ⟨_, (exec_fomReportTimeout ho ht).trans (congrArg Host.Outcome.next e), h1, h2, rfl, ?_⟩
    rw [h3, ← hy]

/-- One step of storing what step 5 found: the coefficients of a lane under its physical lane (R219). -/
def State.storeTaps (s : State) (x : Nat × LaneAdapt) : State :=
  { s.storePar (0x1C0B + s.physical x.1) x.2.current.word with
    lnk := { s.lnk with coef := spPut (s.physical x.1) x.2.current.word s.lnk.coef } }

theorem State.foldl_storeTaps (l : List (Nat × LaneAdapt)) (s : State) :
    l.foldl State.storeTaps s = { s with
      par := (l.foldl State.storeTaps s).par, lnk := { s.lnk with coef := (l.foldl State.storeTaps s).lnk.coef } } := by
  induction l generalizing s with
  | nil => rfl
  | cons x l ih =>
    rw [List.foldl_cons]
    exact ih _

theorem State.foldl_storeTaps_other {l : List (Nat × LaneAdapt)} {s : State} {p : Nat} (h : p ∉ l.map fun x => s.physical x.1) :
    (l.foldl State.storeTaps s).stored (0x1C0B + p) = s.stored (0x1C0B + p) ∧ (l.foldl State.storeTaps s).coefOf p = s.coefOf p := by
  induction l generalizing s with
  | nil => exact ⟨rfl, rfl⟩
  | cons x l ih =>
    simp only [List.map_cons, List.mem_cons, not_or] at h
    obtain ⟨hx, hl⟩ := h
    obtain ⟨h1, h2⟩ := ih (s := s.storeTaps x) hl
    rw [List.foldl_cons, h1, h2]
    refine ⟨State.stored_storePar_other s _ (by omega), ?_⟩
    exact congrArg (Option.getD · _) (spFind_spPut_other hx _ _)

theorem State.foldl_storeTaps_mem {l : List (Nat × LaneAdapt)} {s : State} (h : (l.map fun x => s.physical x.1).Nodup)
    {x : Nat × LaneAdapt} (hx : x ∈ l) : (l.foldl State.storeTaps s).stored (0x1C0B + s.physical x.1) = x.2.current.word ∧
      (l.foldl State.storeTaps s).coefOf (s.physical x.1) = x.2.current.word := by
  induction l generalizing s with
  | nil => simp at hx
  | cons y l ih =>
    rw [List.map_cons, List.nodup_cons] at h
    obtain ⟨hy, hl⟩ := h
    rw [List.foldl_cons]
    rcases List.mem_cons.1 hx with rfl | hx
    · obtain ⟨h1, h2⟩ := State.foldl_storeTaps_other (s := s.storeTaps x) (p := s.physical x.1) hy
      rw [h1, h2]
      exact ⟨State.stored_storePar_same s _ _, congrArg (Option.getD · _) (spFind_spPut_same _ _ _)⟩
    · exact ih (s := s.storeTaps y) hl hx

/-- The state with the outcome of step 5 stored, before what follows from it. -/
def State.adapted (s : State) (a : Adapt) : State :=
  { a.lanes.foldl State.storeTaps s with lnk := { (a.lanes.foldl State.storeTaps s).lnk with
    rateUsed := a.rate, lanesUsed := a.passCount (s.stored 0x1C11) s.lanesRequested } }

theorem State.endAdapt_eq (s : State) (a : Adapt) : s.endAdapt a =
    let n := a.passCount (s.stored 0x1C11) s.lanesRequested
    let tried := (a.rate, n) :: a.tried
    let s2 := s.adapted a
    if n = s.lanesRequested && n != 0 then s2.enterAlign a.rate n
    else if a.final then (if n = 0 then s2.failBringUp else s2.enterAlign a.rate n)
    else if a.fallback && 0 < a.rate then
      { s2 with lnk := { s2.lnk with adapt := some { a with tried := tried } } }.enterHop (a.rate - 1)
    else if (bestRate tried).2 = 0 then s2.failBringUp
    else if (bestRate tried).1 = a.rate then s2.enterAlign a.rate n
    else { s2 with lnk := { s2.lnk with adapt := some { a with tried := tried, final := true } } }.enterHop (bestRate tried).1 := rfl

/-- What every end of step 5 leaves: the stored outcome, no request outstanding, and in ALIGN lanes that count towards the same marker. -/
structure State.StepFiveEnds (x t : State) : Prop where
  outstanding : t.lnk.outstanding = none
  rate : t.lnk.rateUsed = x.lnk.rateUsed
  lanes : t.lnk.lanesUsed = x.lnk.lanesUsed
  par : t.par = x.par
  coef : t.lnk.coef = x.lnk.coef
  count : t.lnk.state = .align → ∀ l, l ∈ t.lnk.framer.lanes → l.count = maxList (x.lnk.framer.lanes.map LaneFramer.count)

/-- Lanes framed together count from the same marker count. -/
theorem State.frameLanes_count (s : State) (lanes : List Nat) (own : Bool) (rate : Nat) {l : LaneFramer}
    (hl : l ∈ (s.frameLanes lanes own rate).lnk.framer.lanes) : l.count = maxList (s.lnk.framer.lanes.map LaneFramer.count) := by
  obtain ⟨x, -, rfl⟩ := List.mem_map.1 hl
  dsimp only
  split <;> rfl

theorem State.enterAlign_ends (x : State) : State.StepFiveEnds x (x.enterAlign x.lnk.rateUsed x.lnk.lanesUsed) := by
  have hl : ∀ l, (x.domainsOff l).lnk = x.lnk := fun l => by simp
  refine ⟨rfl, rfl, rfl, by simp, (congrArg Lnk.coef (hl _) :), fun _ l hm => ?_⟩
  refine (State.frameLanes_count _ _ _ _ hm).trans ?_
  rw [hl]

theorem State.failBringUp_ends {x : State} (hr : x.pwr.run = none) : State.StepFiveEnds x x.failBringUp := by
  have hx : (x.linkDown 3).lnk.noControl = { x.lnk with downReason := 3 }.noControl := by
    rw [State.linkDown, if_neg (by simp [State.closing, hr])]
    exact State.raise_noControl _ _ _ _
  have ho : ((x.linkDown 3).domainsOff [43, 44, 45, 46]).lnk = (x.linkDown 3).lnk := by simp
  refine ⟨rfl, ?_, ?_, by simp, ?_, fun h => absurd h (by rw [(State.failBringUp_spec hr).1]; decide)⟩
  · exact (congrArg Lnk.rateUsed ho :).trans (congrArg Lnk.rateUsed hx :)
  · exact (congrArg Lnk.lanesUsed ho :).trans (congrArg Lnk.lanesUsed hx :)
  · exact (congrArg Lnk.coef ho :).trans (congrArg Lnk.coef hx :)

theorem State.enterHop_adapt (x : State) (rate : Nat) : (x.enterHop rate).lnk.adapt = x.lnk.adapt := by
  have hl : (x.lanesOn x.mappedLanes).lnk = x.lnk := by simp
  exact (congrArg Lnk.adapt hl :)

theorem State.enterHop_ends {x : State} (a : Option Adapt) (rate : Nat) (ho : x.lnk.outstanding = none) :
    State.StepFiveEnds x (({ x with lnk := { x.lnk with adapt := a } } : State).enterHop rate) := by
  obtain ⟨y, hy⟩ : ∃ y : State, { x with lnk := { x.lnk with adapt := a } } = y := ⟨_, rfl⟩
  have hl : (y.lanesOn y.mappedLanes).lnk = y.lnk := by simp
  have hp : (y.enterHop rate).par = y.par := by simp
  have hs : (y.enterHop rate).lnk.state = .hop := rfl
  rw [hy]
  refine ⟨(congrArg Lnk.outstanding hl :).trans ?_, (congrArg Lnk.rateUsed hl :).trans ?_, (congrArg Lnk.lanesUsed hl :).trans ?_, hp.trans ?_,
    (congrArg Lnk.coef hl :).trans ?_, fun h => ?_⟩
  · rw [← hy]
    exact ho
  · rw [← hy]
  · rw [← hy]
  · rw [← hy]
  · rw [← hy]
  · rw [hs] at h
    exact absurd h (by decide)

/-! ### The rate of the largest n × capacity -/

/-- The order of the rates tried: by n × capacity, and by the rate on a tie. -/
def rateLe (y x : Nat × Nat) : Prop :=
  y.2 * rateCapacity y.1 < x.2 * rateCapacity x.1 ∨ y.2 * rateCapacity y.1 = x.2 * rateCapacity x.1 ∧ y.1 ≤ x.1

theorem rateLe.trans {z y x : Nat × Nat} (h1 : rateLe z y) (h2 : rateLe y x) : rateLe z x := by
  unfold rateLe at *
  omega

/-- The better of two rates tried. -/
def betterRate (b x : Nat × Nat) : Nat × Nat :=
  let p := x.2 * rateCapacity x.1
  let q := b.2 * rateCapacity b.1
  if q < p || (p = q && b.1 < x.1) then x else b

theorem betterRate_spec (b x : Nat × Nat) : (betterRate b x = b ∨ betterRate b x = x) ∧ rateLe b (betterRate b x) ∧ rateLe x (betterRate b x) := by
  unfold betterRate
  dsimp only
  split
  · next h =>
    simp only [Bool.or_eq_true, Bool.and_eq_true, decide_eq_true_eq] at h
    exact ⟨.inr rfl, by unfold rateLe; omega, by unfold rateLe; omega⟩
  · next h =>
    simp only [Bool.or_eq_true, Bool.and_eq_true, decide_eq_true_eq] at h
    exact ⟨.inl rfl, by unfold rateLe; omega, by unfold rateLe; omega⟩

theorem foldl_betterRate (l : List (Nat × Nat)) (b : Nat × Nat) : (l.foldl betterRate b = b ∨ l.foldl betterRate b ∈ l) ∧
    rateLe b (l.foldl betterRate b) ∧ ∀ x, x ∈ l → rateLe x (l.foldl betterRate b) := by
  induction l generalizing b with
  | nil => exact ⟨.inl rfl, .inr ⟨rfl, Nat.le_refl _⟩, by simp⟩
  | cons x l ih =>
    obtain ⟨hor, hb, hx⟩ := betterRate_spec b x
    obtain ⟨hm, hge, hall⟩ := ih (betterRate b x)
    rw [List.foldl_cons]
    refine ⟨?_, hb.trans hge, fun y hy => ?_⟩
    · rcases hm with h | h
      · rcases hor with e | e
        · exact .inl (h.trans e)
        · exact .inr (List.mem_cons.2 (.inl (h.trans e)))
      · exact .inr (List.mem_cons_of_mem _ h)
    · rcases List.mem_cons.1 hy with rfl | hy
      · exact hx.trans hge
      · exact hall y hy

theorem bestRate_eq_foldl (l : List (Nat × Nat)) : bestRate l = l.foldl betterRate (0, 0) := rfl

theorem bestRate_none {l : List (Nat × Nat)} (h : ∀ x, x ∈ l → x.2 = 0) : (bestRate l).2 = 0 := by
  rcases (foldl_betterRate l (0, 0)).1 with e | e
  · rw [bestRate_eq_foldl, e]
  · exact h _ e

theorem rateCapacity_pos (r : Nat) : 0 < rateCapacity r := by
  unfold rateCapacity
  repeat' split
  all_goals decide

theorem bestRate_max {l : List (Nat × Nat)} {x : Nat × Nat} (hx : x ∈ l) (hpos : 0 < x.2) (hmax : ∀ y, y ∈ l → rateLe y x) :
    (bestRate l).1 = x.1 ∧ (bestRate l).2 ≠ 0 := by
  obtain ⟨hm, -, hall⟩ := foldl_betterRate l (0, 0)
  rw [← bestRate_eq_foldl] at hm hall
  have hle := hall x hx
  have hp : 0 < x.2 * rateCapacity x.1 := Nat.mul_pos hpos (rateCapacity_pos _)
  have hne : (bestRate l).2 ≠ 0 := fun h0 => by
    rw [rateLe, h0, Nat.zero_mul] at hle
    omega
  refine ⟨?_, hne⟩
  rcases hm with e | e
  · exact absurd (congrArg Prod.snd e) hne
  · have hge := hmax _ e
    unfold rateLe at hle hge
    omega

/-- The five ends of step 5, each with the state it leads to. -/
theorem State.endAdapt_ends {s : State} {a : Adapt} (hr : s.pwr.run = none) (ho : s.lnk.outstanding = none) :
    State.StepFiveEnds (s.adapted a) (s.endAdapt a) := by
  have hfold := State.foldl_storeTaps a.lanes s
  have hrun : (s.adapted a).pwr.run = none := by
    rw [State.adapted, hfold]
    exact hr
  have hout : (s.adapted a).lnk.outstanding = none := by
    rw [State.adapted, hfold]
    exact ho
  rw [State.endAdapt_eq]
  dsimp only
  split
  · exact State.enterAlign_ends _
  split
  · split
    · exact State.failBringUp_ends hrun
    · exact State.enterAlign_ends _
  split
  · exact State.enterHop_ends _ _ hout
  split
  · exact State.failBringUp_ends hrun
  split
  · exact State.enterAlign_ends _
  · exact State.enterHop_ends _ _ hout

/-- The state in which an answer that leaves no lane open ends step 5. -/
def State.answered (s : State) (a b : Adapt) (foms : List Nat) : State :=
  { s with lnk := { s.lnk with
    outstanding := none, fomLast := fomWord foms, adapt := some b
    ffePreset := if sweepEnded (spFind 0 a.lanes) (spFind 0 b.lanes) then ((spFind 0 b.lanes).map LaneAdapt.preset).getD 0
      else s.lnk.ffePreset } }

theorem adaptEnds_holds : adaptEnds := by
  intro s q a b foms lock n ho hl hq hs ha hr hb hopen _ hn
  have hans : s.adaptAnswer a (countedFoms foms lock) = (s.answered a b (countedFoms foms lock)).endAdapt b := by
    rw [hb] at hopen ⊢
    exact if_neg (by rw [hopen]; decide)
  have e := (exec_fomReport_adapt lock ho hl hq hs ha).trans (congrArg Host.Outcome.next hans)
  have hrate : b.rate = a.rate := by rw [hb]
  have hfinal : b.final = a.final := by rw [hb]
  have hfall : b.fallback = a.fallback := by rw [hb]
  have htried : b.tried = a.tried := by rw [hb]
  refine ⟨_, e, ?_⟩
  generalize hx : s.answered a b (countedFoms foms lock) = x
  have hxr : x.pwr.run = none := by
    rw [← hx]
    exact hr
  have hxn : b.passCount (x.stored 0x1C11) x.lanesRequested = n := by
    rw [← hx, hn]
    rfl
  have hreq : x.lanesRequested = s.lanesRequested := by
    rw [← hx]
    rfl
  have hphys : ∀ k, x.physical k = s.physical k := fun k => by
    rw [← hx]
    rfl
  obtain ⟨hout, hused, hlanes, hpar, hcoef, hcount⟩ := State.endAdapt_ends (a := b) hxr (by rw [← hx]; rfl)
  have hrun : (x.adapted b).pwr.run = none := by
    rw [State.adapted, State.foldl_storeTaps]
    exact hxr
  have hframer : (x.adapted b).lnk.framer = s.lnk.framer := by
    rw [State.adapted, State.foldl_storeTaps, ← hx]
    rfl
  have hsame : (x.endAdapt b).fus = s.fus ∧ (x.endAdapt b).role = s.role ∧ (x.endAdapt b).led = s.led ∧ (x.endAdapt b).fw = s.fw := by
    refine ⟨?_, ?_, ?_, ?_⟩ <;> rw [← hx] <;> simp [State.answered]
  have heq := State.endAdapt_eq x b
  dsimp only at heq
  rw [hxn, hreq, hfinal, hfall, hrate, htried] at heq
  obtain ⟨hfail, hreason, -⟩ := State.failBringUp_spec hrun
  refine ⟨hout, hused.trans hrate, hlanes.trans hxn, fun h1 h2 => ?_, fun h1 h2 h3 => ?_, fun _ h2 h3 => ?_, fun h1 h2 h3 h4 => ?_,
    fun h => ?_, fun hd y hy => ?_, fun h1 h2 h3 => ?_, hsame⟩
  · rw [heq, if_pos (by simp [h1.symm, h2])]
    rfl
  · rw [heq, if_neg (by simp [h1]), if_pos h2, if_neg h3]
    rfl
  · rw [heq, if_neg (by simp [h3]), if_pos h2, if_pos h3]
    exact ⟨hfail, hreason⟩
  · rw [heq, if_neg (by simpa using fun e => h1.resolve_left (not_not_intro e)), if_neg (by simp [h2]), if_pos (by simp [h3, h4])]
    exact ⟨rfl, rfl⟩
  · rw [← hframer]
    exact hcount h
  · have hd' : (b.lanes.map fun y => x.physical y.1).Nodup := by simpa only [hphys] using hd
    obtain ⟨h1, h2⟩ := State.foldl_storeTaps_mem hd' hy
    rw [← hphys]
    refine ⟨?_, ?_⟩
    · rw [State.stored, hpar]
      exact h1
    · rw [State.coefOf, hcoef]
      exact h2
  · have hlast : (a.fallback && decide (0 < a.rate)) = false := by
      rcases h3 with h | h <;> simp [h]
    rw [if_neg (by simpa using fun e => h1.resolve_left (not_not_intro e)), if_neg (by simp [h2]), if_neg (by simp [hlast])] at heq
    refine ⟨fun hz => ?_, fun r hm hpos hmax => ?_⟩
    · rw [heq, if_pos (bestRate_none hz)]
      exact ⟨hfail, hreason⟩
    · obtain ⟨hbest, hne⟩ := bestRate_max hm hpos hmax
      rw [if_neg hne, hbest] at heq
      refine ⟨fun he => ?_, fun he => ?_⟩
      · rw [heq, if_pos he]
        rfl
      · rw [heq, if_neg he]
        exact ⟨rfl, rfl, congrArg (Option.map Adapt.final) (State.enterHop_adapt _ _)⟩

/-- Settles O38: a round of the figure of merit by what it answers, and the ends of step 5, where the best rate is the largest by its order. -/
theorem figureOfMerit : Obligations.FigureOfMerit := ⟨fomRounds_holds, adaptEnds_holds⟩

end Sys2Proof.Machine

namespace Sys2Proof.Machine

/-! ## Packets: their order at a packet boundary, markers, and what the return lane brings (R229 to R233, R238, R244 to R247, R289) -/

/-- The link but for what LNK takes lines into: the data queue and the packet sequence. -/
def Lnk.noData (l : Lnk) : Lnk := { l with data := [], seq := 0 }

theorem Lnk.fields_of_noData {a b : Lnk} (h : a.noData = b.noData) : a.train = b.train ∧ a.resend = b.resend ∧ a.control = b.control ∧
    a.sealQ = b.sealQ ∧ a.sent = b.sent ∧ a.state = b.state ∧ a.retrainDue = b.retrainDue :=
  ⟨(congrArg Lnk.train h :), (congrArg Lnk.resend h :), (congrArg Lnk.control h :), (congrArg Lnk.sealQ h :), (congrArg Lnk.sent h :),
    (congrArg Lnk.state h :), (congrArg Lnk.retrainDue h :)⟩

theorem State.pushData_noData (s : State) (p : Packet) : (s.pushData p).lnk.noData = s.lnk.noData := by
  unfold State.pushData
  split <;> rfl

theorem State.pushIfRoom_noData (s : State) (p : Packet) : (s.pushIfRoom p).lnk.noData = s.lnk.noData := by
  unfold State.pushIfRoom
  split
  · exact s.pushData_noData p
  · rfl

theorem foldl_noData {f : State → Packet → State} (hf : ∀ s p, (f s p).lnk.noData = s.lnk.noData) (l : List Packet) (s : State) :
    (l.foldl f s).lnk.noData = s.lnk.noData := by
  induction l generalizing s with
  | nil => rfl
  | cons p l ih => exact (ih (f s p)).trans (hf s p)

theorem State.lineTaken_noData (s : State) (v : Nat) (f : Frame) : (s.lineTaken v f).lnk.noData = s.lnk.noData := by
  have h : (s.lineTaken v f).lnk = s.lnk := by simp [State.lineTaken]
  rw [h]

theorem State.takeLine_noData {s t : State} (h : s.takeLine = some t) : t.lnk.noData = s.lnk.noData := by
  unfold State.takeLine at h
  split at h
  · cases h
  split at h
  · cases h
  dsimp only at h
  split at h
  · split at h
    · cases h
      exact (foldl_noData State.pushIfRoom_noData _ _).trans (s.lineTaken_noData _ _)
    · cases h
      exact s.lineTaken_noData _ _
  · split at h
    · cases h
      exact (foldl_noData State.pushData_noData _ _).trans (s.lineTaken_noData _ _)
    · cases h

theorem State.takeUpTo_noData (n : Nat) (s : State) : (State.takeUpTo n s).lnk.noData = s.lnk.noData := by
  induction n generalizing s with
  | zero => rfl
  | succ n ih =>
    rw [State.takeUpTo]
    split
    · next t h => exact (ih t).trans (State.takeLine_noData h)
    · rfl

/-- Lines taken go into the data queue; of the link nothing else changes but the sequence. -/
theorem State.takeLines_noData (s : State) : s.takeLines.lnk.noData = s.lnk.noData := State.takeUpTo_noData _ s

theorem State.followRetrain_of {s : State} (h : s.lnk.retrainDue = none ∨ s.lnk.state ≠ .up) : s.followRetrain = s := by
  unfold State.followRetrain
  split
  · rfl
  · next r hr =>
    rcases h with h | h
    · rw [h] at hr
      cases hr
    · rw [if_neg (by simp [h])]

theorem State.sendPacket_lnk (s : State) (l : Lnk) (p : Packet) : (({ s with lnk := l } : State).sendPacket p).lnk =
    { l with framer := (l.framer.push p).retire, sent := p :: l.sent } := rfl

/-- A packet that leaves at a boundary: it is the newest one sent, the link it came from stands, and lines may be taken. -/
theorem exec_packetSend_packet {s : State} {p : Packet} {l : Lnk} (hc : s.carriesPackets = true) (hm : s.markerDue = false)
    (hs : s.toSend = some (p, l)) (hst : l.state = s.lnk.state) (hd : l.retrainDue = s.lnk.retrainDue) (hsent : l.sent = s.lnk.sent)
    (hw : s.lnk.retrainDue = none ∨ s.lnk.state ≠ .up) :
    ∃ t, exec .packetSend s = .next t ∧ t.lnk.sent = p :: s.lnk.sent ∧ t.lnk.train = l.train ∧ t.lnk.resend = l.resend ∧
      t.lnk.control = l.control ∧ t.lnk.sealQ = l.sealQ ∧ t = { s with sea := t.sea, view := t.view, lnk := t.lnk, wdg := t.wdg } := by
  obtain ⟨y, hy⟩ : ∃ y : State, ({ s.progress [49] with lnk := l } : State).sendPacket p = y := ⟨_, rfl⟩
  have hlnk : y.takeLines.lnk.noData = { l with framer := (l.framer.push p).retire, sent := p :: l.sent }.noData := by
    rw [y.takeLines_noData, ← hy, State.sendPacket_lnk]
  obtain ⟨h1, h2, h3, h4, h5, h6, h7⟩ := Lnk.fields_of_noData hlnk
  have hstay : y.takeLines.followRetrain = y.takeLines := by
    refine State.followRetrain_of ?_
    rw [h6, h7, hst, hd]
    exact hw
  have e : exec .packetSend s = .next y.takeLines := by
    have hto : (s.progress [49]).toSend = some (p, l) := hs
    simp only [exec, execPacketSend, hc, hm, Bool.not_false, Bool.and_self, if_true, State.packetBoundary, hto]
    rw [hy, hstay]
  refine ⟨_, e, ?_, h1, h2, h3, h4, State.eq_of_parts ?_⟩
  · rw [h5, hsent]
  · simp [← hy, State.sendPacket]

theorem exec_packetSend_idle {s : State} (hc : s.carriesPackets = true) (hm : s.markerDue = false) (hs : s.toSend = none)
    (hw : s.lnk.retrainDue = none ∨ s.lnk.state ≠ .up) : exec .packetSend s = .next { s with
      free := s.free + 1
      lnk := { s.lnk with framer := (s.lnk.framer.push s.idlePacket).retire, sent := s.idlePacket :: s.lnk.sent }
      wdg := { s.wdg with counts := spErase 49 s.wdg.counts } } := by
  have hto : (s.progress [49]).toSend = none := hs
  simp only [exec, execPacketSend, hc, hm, Bool.not_false, Bool.and_self, if_true, State.packetBoundary, hto]
  rw [State.followRetrain_of]
  · rfl
  · exact hw

/-- The IDLE packet leaves the state but for the link, the free values and monitor 49. -/
theorem exec_packetSend_waits {s : State} (hc : s.carriesPackets = true) (hm : s.markerDue = false) (hs : s.toSend = none)
    (hw : s.lnk.retrainDue = none ∨ s.lnk.state ≠ .up) : ∃ t p, exec .packetSend s = .next t ∧ p.kind = 0 ∧
      t.lnk.sent = p :: s.lnk.sent ∧ t.lnk.train = s.lnk.train ∧ t.lnk.control = s.lnk.control ∧ t.lnk.sealQ = s.lnk.sealQ ∧
      t.lnk.data = s.lnk.data ∧ t.view = s.view ∧ t.sea = s.sea :=
  ⟨_, s.idlePacket, exec_packetSend_idle hc hm hs hw, rfl, rfl, rfl, rfl, rfl, rfl, rfl, rfl⟩

theorem transmitOrder_holds : transmitOrder := by
  intro s
  refine ⟨fun hm => by simp [exec, execPacketSend, hm], fun hc hs hm hd => ?_⟩
  have hto : s.toSend = s.lnk.nextPacket := by simp [State.toSend, hs]
  refine ⟨fun p q h1 => ?_, fun p q h1 h2 => ?_, fun p q h1 h2 h3 => ?_, fun p q h1 h2 h3 h4 hl => ?_, fun p q h1 h2 h3 h4 h5 => ?_,
    fun h1 h2 h3 h4 h5 => ?_⟩
  · obtain ⟨t, e, hsent, htrain, -, -, -, ht⟩ := exec_packetSend_packet (l := { s.lnk with train := q }) (p := p) hc hm
      (by simp [hto, Lnk.nextPacket, h1]) rfl rfl rfl (.inl hd)
    exact ⟨t, e, hsent, htrain, ht⟩
  · obtain ⟨t, e, hsent, -, hresend, hcontrol, hseal, -⟩ := exec_packetSend_packet (l := { s.lnk with resend := q }) (p := p) hc hm
      (by simp [hto, Lnk.nextPacket, h1, h2]) rfl rfl rfl (.inl hd)
    exact ⟨t, e, hsent, hresend, hcontrol, hseal⟩
  · obtain ⟨t, e, hsent, -, -, hcontrol, hseal, -⟩ := exec_packetSend_packet (l := { s.lnk with control := q }) (p := p) hc hm
      (by simp [hto, Lnk.nextPacket, h1, h2, h3]) rfl rfl rfl (.inl hd)
    exact ⟨t, e, hsent, hcontrol, hseal⟩
  · obtain ⟨t, e, hsent, -, -, -, hseal, -⟩ := exec_packetSend_packet (l := { s.lnk with sealQ := q }) (p := p) hc hm
      (by simp [hto, Lnk.nextPacket, h1, h2, h3, h4, hl]) rfl rfl rfl (.inl hd)
    exact ⟨t, e, hsent, hseal⟩
  · have hnext : s.lnk.nextPacket = some (p, { s.lnk with data := q }) := by
      cases hq : s.lnk.sealQ with
      | nil => simp [Lnk.nextPacket, h1, h2, h3, h5, hq]
      | cons x y => simp [Lnk.nextPacket, h1, h2, h3, h5, hq, h4 x y hq]
    obtain ⟨t, e, hsent, -, -, -, hseal, -⟩ := exec_packetSend_packet (l := { s.lnk with data := q }) (p := p) hc hm
      (hto.trans hnext) rfl rfl rfl (.inl hd)
    exact ⟨t, e, hsent, hseal⟩
  · obtain ⟨t, p, e, hk, hsent, -, -, -, -, hv, hsea⟩ := exec_packetSend_waits hc hm
      (by simp [hto, Lnk.nextPacket, h1, h2, h3, h4, h5]) (.inl hd)
    exact ⟨t, p, e, hk, hsent, hv, hsea⟩

theorem trainingOrder_holds : trainingOrder := by
  intro s hc hm
  refine ⟨fun p q hs h1 => ?_, fun hs => ?_⟩
  · obtain ⟨t, e, hsent, htrain, -, hcontrol, hseal, -⟩ := exec_packetSend_packet (l := { s.lnk with train := q }) (p := p) hc hm
      (by simp [State.toSend, hs, h1]) rfl rfl rfl (.inr (by simp [hs]))
    exact ⟨t, e, hsent, htrain, hcontrol, hseal⟩
  · have hup : s.lnk.state ≠ .up := by
      rcases hs with hs | ⟨hs, -⟩ <;> simp [hs]
    have hto : s.toSend = none := by
      rcases hs with hs | ⟨hs, h1⟩
      · simp [State.toSend, hs]
      · simp [State.toSend, hs, h1]
    obtain ⟨t, p, e, hk, hsent, htrain, hcontrol, hseal, hdata, -⟩ := exec_packetSend_waits hc hm hto (.inr hup)
    exact ⟨t, p, e, hk, hsent, htrain, hcontrol, hseal, hdata⟩

/-! ### Markers -/

/-- Codewords are formed while twenty blocks wait and fewer than 255 have been sent. -/
theorem LaneFramer.form_count (rate n : Nat) (l : LaneFramer) (hn : l.blocks.length ≤ n + 19) (hc : l.count ≤ 255) :
    (LaneFramer.form rate n l).count = min (l.count + l.blocks.length / 20) 255 := by
  induction n generalizing l with
  | zero =>
    rw [LaneFramer.form]
    omega
  | succ n ih =>
    rw [LaneFramer.form]
    split
    · next h =>
      simp only [Bool.or_eq_true, decide_eq_true_eq] at h
      omega
    · next h =>
      simp only [Bool.or_eq_true, decide_eq_true_eq, not_or, Nat.not_lt, Nat.not_le] at h
      dsimp only
      refine (ih _ ?_ ?_).trans ?_ <;> simp only [LaneFramer.launch, List.length_drop] <;> omega

theorem LaneFramer.form_few (rate n : Nat) {l : LaneFramer} (h : l.blocks.length < 20) : LaneFramer.form rate n l = l := by
  cases n with
  | zero => rfl
  | succ n => exact if_pos (by simp [h])

theorem LaneFramer.mark_codeword (rate : Nat) (block : BitVec 257) {l : LaneFramer} (h : l.blocks.length < 20) :
    (l.mark rate block).codeword = codewordOf (List.replicate 20 block) := by
  rw [LaneFramer.mark, LaneFramer.form_few]
  · rfl
  · exact h

theorem markersSent_holds : markersSent := by
  intro s h
  have hdue : s.markerDue = true := by
    rcases h with h | ⟨hc, hl⟩
    · simp [State.markerDue, h]
    · rw [State.markerDue, hc, Bool.true_and, Bool.or_eq_true]
      exact .inr (List.all_eq_true.2 fun l hm => decide_eq_true (hl l hm))
  have e : exec .markerCodeword s = .next ((s.progress [49]).sendMarkers) := by simp [exec, execMarkerCodeword, hdue]
  refine ⟨_, e, ?_, fun k l hk hfew => ?_, fun x hx => (List.mem_filter.1 hx).1, rfl⟩
  · refine (List.map_map ..).trans (List.map_congr_left fun l _ => ?_)
    refine (LaneFramer.form_count _ _ _ ?_ ?_).trans ?_ <;> simp [LaneFramer.launch]
  · refine (congrArg (Option.map LaneFramer.codeword) ((List.getElem?_map ..).trans (congrArg _ hk))).trans ?_
    exact congrArg some (LaneFramer.mark_codeword _ _ hfew)

/-! ### Receiving -/

theorem exec_rlMsgPacket {s : State} {p : Bytes} (hr : s.returnLane = true) (hk : leAt 0 1 p = 7) (ho : packetOk p = true) :
    exec (.rlMsgPacket p) s = .next (if s.lnk.rx.lastSeq = some (BitVec.ofNat 32 (leAt 4 4 p)) then s
      else { s with lnk := { s.lnk with rx := { s.lnk.rx with lastSeq := some (BitVec.ofNat 32 (leAt 4 4 p)) } } }.onMessage
        (slice 16 (p.length - 20) p)) := by
  simp [exec, execRlMsgPacket, hr, hk, State.onPacket, ho]

theorem exec_rlCodewordReceive {s : State} {l : List (BitVec 10)} (hp : s.powered 47 = true) (hl : s.lnk.rx.locked = true)
    (hn : l.length = 544) : exec (.rlCodewordReceive l) s = .next ((s.progress [51]).receiveCodeword l) := by
  simp [exec, execRlCodewordReceive, hp, hl, hn]

/-- What a codeword leaves of the receiver's count of markers, whether or not it is a marker. -/
theorem State.receiveCodeword_of_down {s : State} (l : List (BitVec 10)) (h : s.returnLane = false) :
    s.receiveCodeword l = { s with lnk := { s.lnk with rx := s.lnk.rx.noted (markerWord l) s.clk.ticks } } := by
  simp [State.receiveCodeword, h]

theorem State.receiveCodeword_of_up {s : State} (l : List (BitVec 10)) (h : s.returnLane = true) :
    s.receiveCodeword l = ({ s with lnk := { s.lnk with rx := s.lnk.rx.noted (markerWord l) s.clk.ticks } } : State).takeCodeword l := by
  simp [State.receiveCodeword, h]

theorem State.takeCodeword_bad (s : State) {l : List (BitVec 10)} (h : correctedOf l = none) :
    (s.takeCodeword l).lnk.rx.run = s.lnk.rx.run ∧ (s.takeCodeword l).lnk.rlFecUncorr = s.lnk.rlFecUncorr + 1 ∧
    (s.takeCodeword l).lnk.rx.stream = none ∧ (s.takeCodeword l).ctl = s.ctl := by
  rw [State.takeCodeword, h]
  exact ⟨rfl, rfl, rfl, rfl⟩

theorem State.takeCodeword_marker (s : State) {l : List (BitVec 10)} {w : List Nat} {n : Nat} (h : correctedOf l = some (w, n))
    (hm : isMarker (blocksOf w) = true) :
    s.takeCodeword l = { s with lnk := { s.lnk with rlFecCorr := s.lnk.rlFecCorr + BitVec.ofNat 32 n } } := by
  rw [State.takeCodeword, h]
  exact if_pos hm

theorem returnLaneReceives_holds : returnLaneReceives := by
  refine ⟨fun s p hr hk ho => ⟨fun hseq => ?_, fun hseq hready hroom => ?_⟩, fun s l hp hl hn => ?_⟩
  · rw [exec_rlMsgPacket hr hk ho, if_pos hseq]
  · rw [exec_rlMsgPacket hr hk ho, if_neg hseq]
    simp [State.onMessage, hready, hroom, State.arrive]
  · refine ⟨_, exec_rlCodewordReceive hp hl hn, State.eq_of_parts (by simp [State.progress]), ?_⟩
    obtain ⟨y, hy⟩ : ∃ y : State, s.progress [51] = y := ⟨_, rfl⟩
    have hlane : y.returnLane = s.returnLane := by
      rw [← hy]
      rfl
    have hlnk : y.lnk = s.lnk := by
      rw [← hy]
      rfl
    have hctl : y.ctl = s.ctl := by
      rw [← hy]
      rfl
    have htick : y.clk.ticks = s.clk.ticks := by
      rw [← hy]
      rfl
    rw [hy, ← hlane, ← hlnk, ← hctl, ← htick]
    refine ⟨fun hd => ?_, fun hbad => ?_, fun w n hgood hm => ?_⟩
    · rw [y.receiveCodeword_of_down l hd]
      exact ⟨rfl, rfl⟩
    · have hmark : markerWord l = false := by
        rw [markerWord, show correctedOf l = none from hbad]
        rfl
      cases hd : y.returnLane with
      | false =>
        rw [y.receiveCodeword_of_down l hd, hmark]
        exact ⟨rfl, by simp⟩
      | true =>
        rw [y.receiveCodeword_of_up l hd, hmark]
        obtain ⟨h1, h2, h3, h4⟩ := State.takeCodeword_bad
          { y with lnk := { y.lnk with rx := y.lnk.rx.noted false y.clk.ticks } } (l := l) hbad
        exact ⟨h1, fun _ => ⟨h2, h3, h4⟩⟩
    · have hmark : markerWord l = true := by
        rw [markerWord, show correctedOf l = some (w, n) from hgood]
        exact hm
      cases hd : y.returnLane with
      | false =>
        rw [y.receiveCodeword_of_down l hd, hmark]
        exact ⟨rfl, rfl, rfl, rfl, rfl, by simp⟩
      | true =>
        rw [y.receiveCodeword_of_up l hd, hmark, State.takeCodeword_marker _ hgood hm]
        exact ⟨rfl, rfl, rfl, rfl, rfl, fun _ => rfl⟩

/-- Settles O39: the five queues in their order at a packet boundary, the marker on every lane, and what the return lane brings. -/
theorem packets : Obligations.Packets := ⟨transmitOrder_holds, trainingOrder_holds, markersSent_holds, returnLaneReceives_holds⟩

end Sys2Proof.Machine

namespace Sys2Proof.Machine

/-! ## Device time: PPS edges, steps of the time base, and the phase rotation (R262 to R267) -/

/-- A step of the time base moves the time and the last accepted edge; nothing else of the clock. -/
theorem State.stepTime_clk (s : State) (source : Nat) (step : Int) : (s.stepTime source step).clk =
    { s.clk with time := s.clk.time + BitVec.ofInt 64 step, lastEdge := s.clk.lastEdge.map (· + BitVec.ofInt 64 step) } := by
  simp [State.stepTime]

theorem State.stepTime_seq (s : State) (source : Nat) (step : Int) : (s.stepTime source step).ev.seq = s.ev.seq + 1 := by
  simp [State.stepTime]

theorem State.noteEdge_clk (s : State) (m : Word64) : (s.noteEdge m).clk = { s.clk with
    lastEdge := some m, lastEdgeTick := s.clk.ticks, ppsLast := m, ppsOk := true, ppsLost := false } := by
  unfold State.noteEdge
  dsimp only
  split
  · simp
  · rfl

theorem State.raiseLos_seq (s : State) (source : Nat) (on : Bool) : (s.raiseLos source on).ev.seq = s.ev.seq + 1 := by
  simp [State.raiseLos]

/-- An accepted edge that ends no loss raises no event. -/
theorem State.noteEdge_kept {s : State} (m : Word64) (h : s.clk.ppsLost = false) : s.noteEdge m = { s with
    clk := { s.clk with lastEdge := some m, lastEdgeTick := s.clk.ticks, ppsLast := m, ppsOk := true, ppsLost := false }
    pin := { s.pin with ppsPulse := some s.clk.ticks } } := by
  rw [State.noteEdge, h]
  rfl

theorem State.noteEdge_seq {s : State} (m : Word64) (h : s.clk.ppsLost = true) : (s.noteEdge m).ev.seq = s.ev.seq + 1 := by
  rw [State.noteEdge, h]
  exact State.raiseLos_seq _ _ _

/-- An edge of the row: in its tick, of its polarity and long enough. -/
theorem State.edgeMeasured_of {s : State} {m : Word64} {falling : Bool} {active : Nat} (h1 : falling = decide (s.stored 0x0C05 = 1))
    (h2 : 100 ≤ active) (h3 : -2 ≤ (m - s.clk.time).toInt) (h4 : (m - s.clk.time).toInt ≤ 9) : s.edgeMeasured m falling active = true := by
  simp [-BitVec.toInt_sub, State.edgeMeasured, State.now, h1, h2, h3, h4]

theorem exec_ppsEdge {s : State} {m : Word64} {falling : Bool} {active : Nat} (h0 : s.stored 0x0C04 ≠ 0) (hp : s.powered 49 = true)
    (hm : s.edgeMeasured m falling active = true) : exec (.ppsEdge ⟨m, falling, active⟩) s = .next
      (if s.edgeAccepted m then s.ppsAccepted m else { s with clk := { s.clk with ppsRejects := s.clk.ppsRejects + 1 } }) := by
  simp [exec, execPpsEdge, h0, hp, hm]

/-- What an accepted edge does without a waiting set, by the mode, the threshold and whether steps are allowed (R265, R267). -/
theorem State.ppsAccepted_unset {s : State} {m : Word64} (h : s.clk.pendingSet = none) (hm : s.clk.mode = .unset) :
    s.ppsAccepted m = s.noteEdge m := by
  simp [State.ppsAccepted, h, hm]

/-- The state with the phase error of an edge shown and DISCIPLINED mode. -/
def State.edgeShown (s : State) (m : Word64) : State :=
  { s.noteEdge m with clk := { (s.noteEdge m).clk with phaseErr := saturate32 (s.phaseError m), mode := .disciplined } }

theorem State.edgeShown_clk (s : State) (m : Word64) : (s.edgeShown m).clk = { s.clk with
    lastEdge := some m, lastEdgeTick := s.clk.ticks, ppsLast := m, ppsOk := true, ppsLost := false
    phaseErr := saturate32 (s.phaseError m), mode := .disciplined } := by
  unfold State.edgeShown
  rw [State.noteEdge_clk]

theorem State.ppsAccepted_shown {s : State} {m : Word64} (h : s.clk.pendingSet = none) (hm : s.clk.mode ≠ .unset) : s.ppsAccepted m =
    if (s.stored 0x0C07 : Int) < (s.phaseError m).natAbs then
      if s.stepsAllowed then ((s.edgeShown m).stepTime 2 (-(round8 (s.phaseError m)))).disciplined (s.phaseError m - round8 (s.phaseError m))
      else s.edgeShown m
    else (s.edgeShown m).disciplined (s.phaseError m) := by
  simp [State.ppsAccepted, h, hm, State.edgeShown]

theorem State.disciplined_clk (s : State) (e : Int) : ∃ f r, (s.disciplined e).clk = { s.clk with freq := f, rate := r, rotationDebt := 0 } :=
  ⟨_, _, rfl⟩

/-- Every accepted edge without a waiting set ends a loss and restarts the timeout (R264). -/
theorem State.ppsAccepted_recovers {s : State} {m : Word64} (h : s.clk.pendingSet = none) : (s.ppsAccepted m).clk.ppsLost = false ∧
    (s.ppsAccepted m).clk.ppsOk = true ∧ (s.ppsAccepted m).clk.lastEdge.isSome = true ∧
    (s.ppsAccepted m).clk.lastEdgeTick = s.clk.ticks ∧
    ((s.ppsAccepted m).ev.seq = (s.noteEdge m).ev.seq ∨ (s.ppsAccepted m).ev.seq = (s.noteEdge m).ev.seq + 1) := by
  by_cases hm : s.clk.mode = .unset
  · rw [State.ppsAccepted_unset h hm, State.noteEdge_clk]
    exact ⟨rfl, rfl, rfl, rfl, .inl rfl⟩
  rw [State.ppsAccepted_shown h hm]
  split
  · split
    · obtain ⟨f, r, e⟩ := ((s.edgeShown m).stepTime 2 (-(round8 (s.phaseError m)))).disciplined_clk (s.phaseError m - round8 (s.phaseError m))
      rw [e, State.stepTime_clk, State.edgeShown_clk]
      refine ⟨rfl, rfl, rfl, rfl, .inr ?_⟩
      simp only [State.disciplined_frame]
      exact State.stepTime_seq _ _ _
    · rw [State.edgeShown_clk]
      exact ⟨rfl, rfl, rfl, rfl, .inl rfl⟩
  · obtain ⟨f, r, e⟩ := (s.edgeShown m).disciplined_clk (s.phaseError m)
    rw [e, State.edgeShown_clk]
    exact ⟨rfl, rfl, rfl, rfl, .inl rfl⟩

theorem State.ppsAccepted_waits {s : State} {m : Word64} {p : PendingSet} (h : s.clk.pendingSet = some p) (ha : s.stepsAllowed = false) :
    s.ppsAccepted m = { s.noteEdge m with clk := { (s.noteEdge m).clk with
      phaseErr := saturate32 (s.phaseError m), pendingSet := some { p with edge := true }
      mode := if s.clk.mode = .unset then .unset else .disciplined } } := by
  simp [State.ppsAccepted, h, ha]

/-- The state with the phase error of an edge shown and the waiting set taken. -/
def State.setTaken (s : State) (m : Word64) : State :=
  { s.noteEdge m with clk := { (s.noteEdge m).clk with phaseErr := saturate32 (s.phaseError m), pendingSet := none, mode := .set } }

theorem State.ppsAccepted_sets {s : State} {m : Word64} {p : PendingSet} (h : s.clk.pendingSet = some p) (ha : s.stepsAllowed = true) :
    s.ppsAccepted m = ((s.setTaken m).stepTime 1 (round8 (p.value - m).toInt)).disciplined
      (round8 (p.value - m).toInt - (p.value - m).toInt) := by
  simp [State.ppsAccepted, h, ha, State.setTaken]

theorem ppsEdges_holds : ppsEdges := by
  intro s m falling active
  refine ⟨fun h => ?_, fun h0 hp h1 h2 h3 h4 => ?_⟩
  · have hm : s.edgeMeasured m falling active = false := by
      rw [Bool.eq_false_iff]
      intro hm
      simp only [State.edgeMeasured, State.now, Bool.and_eq_true, decide_eq_true_eq] at hm
      obtain ⟨⟨hf, hlong⟩, hnear⟩ := hm
      have hnear := of_decide_eq_true hnear
      rcases h with h | h | h | h
      · exact h (by rw [Bool.eq_iff_iff, decide_eq_true_eq, hf])
      · omega
      · omega
      · omega
    simp [exec, execPpsEdge, hm]
  · have e := exec_ppsEdge h0 hp (State.edgeMeasured_of h1 h2 h3 h4)
    refine ⟨fun ha => ?_, fun ha hs hm hl => ?_, fun ha hs hm hl he => ?_, fun p ha hs hn => ?_, fun p ha hs hn => ?_⟩
    · rw [e, if_neg (by simp [ha])]
    all_goals rw [if_pos ha] at e
    · rw [State.ppsAccepted_unset hs hm, State.noteEdge_kept m hl] at e
      refine ⟨_, e, ?_, rfl⟩
      rw [← hl]
    · rw [State.ppsAccepted_shown hs hm, if_neg (by omega), State.edgeShown, State.noteEdge_kept m hl] at e
      exact ⟨_, e, rfl, rfl, rfl, rfl, rfl, rfl⟩
    · refine ⟨_, e, ?_⟩
      rw [State.ppsAccepted_waits hs hn, State.noteEdge_clk]
      refine ⟨rfl, rfl, rfl, ?_, ?_⟩ <;> simp
    · refine ⟨_, e, ?_⟩
      rw [State.ppsAccepted_sets hs hn]
      obtain ⟨f, r, hd⟩ := ((s.setTaken m).stepTime 1 (round8 (p.value - m).toInt)).disciplined_clk
        (round8 (p.value - m).toInt - (p.value - m).toInt)
      have htime : (s.setTaken m).clk.time = s.clk.time := by
        rw [State.setTaken, State.noteEdge_clk]
      rw [hd, State.stepTime_clk, htime]
      refine ⟨rfl, rfl, rfl, ?_, ?_, ?_, ?_, ?_⟩ <;> simp [State.setTaken]

theorem ppsRecovers_holds : ppsRecovers := by
  intro s m falling active h0 hp h1 h2 h3 h4 ha hs
  have e := exec_ppsEdge h0 hp (State.edgeMeasured_of h1 h2 h3 h4)
  rw [if_pos ha] at e
  refine ⟨fun hl => ?_, fun hm hl he hn => ?_, fun hm hl he hn => ?_⟩
  · obtain ⟨hlost, hok, hedge, htick, hseq⟩ := State.ppsAccepted_recovers (m := m) hs
    refine ⟨_, e, hlost, hok, hedge, htick, ?_⟩
    rw [State.noteEdge_seq m hl] at hseq
    rcases hseq with h | h <;> rw [h] <;> bv_omega
  · rw [State.ppsAccepted_shown hs hm, if_pos (by omega), if_neg (by simp [hn])] at e
    refine ⟨_, e, ?_⟩
    rw [State.edgeShown_clk]
    refine ⟨rfl, rfl, rfl, rfl, rfl, ?_⟩
    rw [State.edgeShown, State.noteEdge_kept m hl]
  · rw [State.ppsAccepted_shown hs hm, if_pos (by omega), if_pos hn] at e
    refine ⟨_, e, ?_⟩
    obtain ⟨f, r, hd⟩ := ((s.edgeShown m).stepTime 2 (-(round8 (s.phaseError m)))).disciplined_clk (s.phaseError m - round8 (s.phaseError m))
    rw [hd, State.stepTime_clk, State.edgeShown_clk]
    refine ⟨rfl, rfl, rfl, ?_, ?_, ?_, ?_⟩ <;> simp [State.edgeShown]

theorem timeRuns_holds : timeRuns := by
  refine ⟨fun s hq hd => ?_, fun s => ⟨fun h0 hp hl ht => ?_, fun p hs he => ?_, fun p hs he ht => ?_, fun hr hd => ?_⟩⟩
  · obtain ⟨t, e, -, hdebt, -⟩ := emptyQueueTicks s hq
    exact ⟨t, e, (hdebt hd).2⟩
  · obtain ⟨y, hy⟩ : ∃ y : State, { s with clk := { s.clk with
      ppsLost := true, ppsOk := false, rate := s.clk.freq, mode := TimeMode.holdover } } = y := ⟨_, rfl⟩
    have ht' : s.clk.lastEdgeTick + s.ppsTimeout ≤ s.clk.ticks := by
      rw [State.ppsTimeout]
      omega
    have e : exec .ppsTimeout s = .next (y.raiseLos 3 true) := by
      rw [← hy]
      simp [exec, execPpsTimeout, h0, hp, hl, ht', State.ppsHoldover]
    refine ⟨_, e, ?_, ?_, State.eq_of_parts ?_⟩
    · simp [← hy]
    · rw [State.raiseLos_seq, ← hy]
    · simp [← hy]
  · simp [exec, execPendingSetTimeout, State.pendingSetExpired, hs, he]
  · have ht' : p.acceptedTick + s.ppsTimeout ≤ s.clk.ticks := by
      rw [State.ppsTimeout]
      omega
    have e : exec .pendingSetTimeout s = .next (({ s with clk := { s.clk with pendingSet := none } } : State).request
        { s.configEntry p.auth 0xFF 0 7 with first := p.acceptedTime, last := p.acceptedTime }) := by
      simp [exec, execPendingSetTimeout, State.pendingSetExpired, State.dropPendingSet, hs, he, ht']
    have hc : ({ s with clk := { s.clk with pendingSet := none } } : State).commits = s.commits := rfl
    refine ⟨_, e, ?_⟩
    unfold State.request
    rw [hc]
    cases s.commits with
    | true => exact ⟨rfl, rfl, rfl⟩
    | false => exact ⟨rfl, (List.append_nil _).symm, rfl⟩
  · have hdue : s.clk.rotationDue = true := by simp [Clk.rotationDue, hr, hd]
    simp [exec, execPhaseRotationStep, Clk.rotated, hdue]

/-- Settles O40: what an accepted edge does by the waiting set, the mode and the threshold, and how the time goes on without one. -/
theorem deviceTime : Obligations.DeviceTime := ⟨ppsEdges_holds, ppsRecovers_holds, timeRuns_holds⟩

end Sys2Proof.Machine

namespace Sys2Proof.Machine

/-! ## The pins' inputs: engines and sequencers read back, conditioned levels, activity and the arming unit (R384, R385, R389, R392) -/

theorem State.tintAt_setTint_same (s : State) {e : Nat} (t : Tint) (h : e < 8) : (s.setTint e t).tintAt e = t := by
  simp [State.setTint, State.tintAt, h, List.getD_eq_getElem?_getD]

theorem State.tintAt_setTint_other (s : State) {e i : Nat} (t : Tint) (h : i ≠ e) : (s.setTint e t).tintAt i = s.tintAt i := by
  unfold State.setTint
  split
  · simp [State.tintAt, List.getD_eq_getElem?_getD, Ne.symm h]
  · rfl

theorem State.shadeAt_setShade_same (s : State) {q : Nat} (x : Shade) (h : q < 4) : (s.setShade q x).shadeAt q = x := by
  simp [State.setShade, State.shadeAt, h, List.getD_eq_getElem?_getD]

theorem State.shadeAt_setShade_other (s : State) {q i : Nat} (x : Shade) (h : i ≠ q) : (s.setShade q x).shadeAt i = s.shadeAt i := by
  unfold State.setShade
  split
  · simp [State.shadeAt, List.getD_eq_getElem?_getD, Ne.symm h]
  · rfl

theorem State.setTint_pin (s : State) (e : Nat) (t : Tint) : (s.setTint e t).pin = { s.pin with tint := (s.setTint e t).pin.tint } := by
  unfold State.setTint
  split <;> rfl

theorem State.setShade_pin (s : State) (q : Nat) (x : Shade) :
    (s.setShade q x).pin = { s.pin with shade := (s.setShade q x).pin.shade } := by
  unfold State.setShade
  split <;> rfl

/-! ### The arming unit and the activity detectors -/

theorem State.syncArm_of {s : State} (h : s.pin.active = s.sourceActive) : s.syncArm = s := by
  simp [State.syncArm, h]

theorem armingUnit_holds : armingUnit := by
  refine fun s ha => ⟨fun h1 h2 h3 h4 => ?_, fun h1 h2 h3 h4 h5 h6 => ?_⟩
  · have hsync := State.syncArm_of (h2.trans h3.symm)
    simp [exec, execTriggerArm, hsync, State.armDue, ha, h1, h2, h4]
  · have hsync := State.syncArm_of (h1.trans h2.symm)
    have e : exec .pinHoldLimit s = .next s.pinStuck := by
      simp [exec, execPinHoldLimit, hsync, State.holdDue, ha, h1, h3, h4, h5, h6]
    obtain ⟨y, hy⟩ : ∃ y : State, { s with pin := { s.pin with holdPassed := true } } = y := ⟨_, rfl⟩
    refine ⟨_, e, ?_⟩
    rw [State.pinStuck, hy]
    refine ⟨?_, ?_, State.eq_of_parts ?_⟩ <;> simp [← hy]

/-- A detection: the detector's new values, and whether its event is raised. -/
theorem State.activityDetected_quiet {s : State} {n k : Nat} (h : (spGet {} n s.pin.activity).eventTick = some k)
    (hk : s.clk.ticks < k + 125000) : s.activityDetected n = { s with pin := { s.pin with
      activity := spSet {} n { spGet {} n s.pin.activity with count := (spGet {} n s.pin.activity).count + 1 } s.pin.activity } } := by
  simp [State.activityDetected, h, hk]

theorem State.activityDetected_loud {s : State} {n : Nat}
    (h : ∀ k, (spGet {} n s.pin.activity).eventTick = some k → k + 125000 ≤ s.clk.ticks) : s.activityDetected n =
      ({ s with pin := { s.pin with activity := spSet {} n ⟨some s.clk.ticks, 0⟩ s.pin.activity } } : State).raise 4 s.now
        (leBytes 1 n ++ zeros 3 ++ leBytes 4 ((spGet {} n s.pin.activity).count + 1)) := by
  unfold State.activityDetected
  cases ht : (spGet {} n s.pin.activity).eventTick with
  | none => simp [ht]
  | some k => simp [ht, Nat.not_lt.2 (h k ht)]

theorem activityDetectors_holds : activityDetectors := by
  intro s n hn hp hf
  have e : exec (.pinActivityDetect n) s = .next (s.activityDetected n) := by simp [exec, execPinActivityDetect, hn, hp, hf]
  refine ⟨fun a k ha hk ht => ?_, fun h => ⟨_, e, ?_⟩⟩
  · rw [e, ← ha, State.activityDetected_quiet (by rw [ha]; exact hk) ht]
  · rw [State.activityDetected_loud h]
    obtain ⟨y, hy⟩ : ∃ y : State, { s with pin := { s.pin with activity := spSet {} n ⟨some s.clk.ticks, 0⟩ s.pin.activity } } = y := ⟨_, rfl⟩
    rw [hy]
    refine ⟨?_, ?_, State.eq_of_parts ?_⟩ <;> simp [← hy]

/-! ### Conditioned levels -/

/-- The pins without what a conditioned level's change brings: the levels, the sequencers and the arming unit. -/
def Pin.unseen (p : Pin) : Pin :=
  { p with levels := 0, shade := Vector.replicate 4 {}, active := false, since := 0, holdPassed := false, delivered := false, ignored := 0 }

theorem State.syncArm_unseen (s : State) : s.syncArm.pin.unseen = s.pin.unseen ∧ s.syncArm.pin.levels = s.pin.levels := by
  unfold State.syncArm
  split <;> exact ⟨rfl, rfl⟩

theorem State.noteWait_pin (s : State) (q n : Nat) (level : Bool) :
    (s.noteWait q n level).pin = { s.pin with shade := (s.noteWait q n level).pin.shade } := by
  unfold State.noteWait
  dsimp only
  split
  · split
    · exact State.setShade_pin _ _ _
    · rfl
  · rfl

theorem State.noteWait_other (s : State) {q i : Nat} (n : Nat) (level : Bool) (h : i ≠ q) :
    (s.noteWait q n level).shadeAt i = s.shadeAt i := by
  unfold State.noteWait
  dsimp only
  split
  · split
    · exact State.shadeAt_setShade_other _ _ h
    · rfl
  · rfl

theorem State.foldl_noteWait_pin (l : List Nat) (s : State) (n : Nat) (level : Bool) :
    (l.foldl (fun s q => s.noteWait q n level) s).pin =
      { s.pin with shade := (l.foldl (fun s q => s.noteWait q n level) s).pin.shade } ∧
    (l.foldl (fun s q => s.noteWait q n level) s).clk = s.clk := by
  induction l generalizing s with
  | nil => exact ⟨rfl, rfl⟩
  | cons q l ih =>
    obtain ⟨h1, h2⟩ := ih (s.noteWait q n level)
    rw [List.foldl_cons]
    refine ⟨?_, h2.trans (by simp)⟩
    rw [h1, s.noteWait_pin q n level]

theorem State.foldl_noteWait_other (l : List Nat) (s : State) (n : Nat) (level : Bool) {i : Nat} (h : i ∉ l) :
    (l.foldl (fun s q => s.noteWait q n level) s).shadeAt i = s.shadeAt i := by
  induction l generalizing s with
  | nil => rfl
  | cons q l ih =>
    simp only [List.mem_cons, not_or] at h
    rw [List.foldl_cons, ih _ h.2, State.noteWait_other _ _ _ h.1]

theorem State.shadeWord_noteWait_other (s : State) {q i : Nat} (n : Nat) (level : Bool) (h : i ≠ q) :
    (s.noteWait q n level).shadeWord i = s.shadeWord i := by
  unfold State.shadeWord
  rw [State.noteWait_other s n level h, s.noteWait_pin q n level]

/-- A WAIT_PIN for the pin and the level has seen it (R395). -/
theorem State.noteWait_seen {s : State} {q n began : Nat} {level : Bool} (hq : q < 4) (hr : (s.shadeAt q).state = .running)
    (hw : (s.shadeAt q).waiting = some (.pin began none)) (hn : bitsOf (s.shadeWord q) 16 4 = n) (hb : (s.shadeWord q).testBit 15 = level) :
    ((s.noteWait q n level).shadeAt q).waiting = some (.pin began (some s.clk.ticks)) := by
  have e : s.noteWait q n level = s.setShade q { s.shadeAt q with waiting := some (.pin began (some s.clk.ticks)) } := by
    simp [State.noteWait, hw, hr, hn, hb]
  rw [e, State.shadeAt_setShade_same _ _ hq]

theorem State.foldl_noteWait_seen {l : List Nat} (hl : l.Nodup) {q n began : Nat} {level : Bool} (hm : q ∈ l) (hq : q < 4) (s : State)
    (hr : (s.shadeAt q).state = .running) (hw : (s.shadeAt q).waiting = some (.pin began none))
    (hn : bitsOf (s.shadeWord q) 16 4 = n) (hb : (s.shadeWord q).testBit 15 = level) :
    ((l.foldl (fun s q => s.noteWait q n level) s).shadeAt q).waiting = some (.pin began (some s.clk.ticks)) := by
  induction l generalizing s with
  | nil => simp at hm
  | cons i l ih =>
    obtain ⟨hi, hl⟩ := List.nodup_cons.1 hl
    rw [List.foldl_cons]
    rcases List.mem_cons.1 hm with rfl | hm
    · rw [State.foldl_noteWait_other l _ n level hi]
      exact State.noteWait_seen hq hr hw hn hb
    · have hne : q ≠ i := fun e => hi (e ▸ hm)
      have hsame := State.noteWait_other s n level hne
      have hword := State.shadeWord_noteWait_other s n level hne
      refine (ih hl hm (s.noteWait i n level) ?_ ?_ ?_ ?_).trans (by simp)
      · rw [hsame, hr]
      · rw [hsame, hw]
      · rw [hword, hn]
      · rw [hword, hb]

/-- The state with a conditioned level put in force, before the sequencers and the arming unit see it. -/
def State.levelPut (s : State) (n : Nat) (level : Bool) : State := { s with pin := { s.pin with levels := putBit s.pin.levels n level } }

theorem State.setLevel_eq (s : State) (n : Nat) (level : Bool) : s.setLevel n level =
    (((List.range 4).foldl (fun s q => s.noteWait q n level) (s.levelPut n level)).syncArm).watchPulse := rfl

theorem State.syncArm_shade (s : State) (q : Nat) : s.syncArm.shadeAt q = s.shadeAt q := by
  unfold State.syncArm
  split <;> rfl

/-- What a conditioned level's change does to the pins. -/
theorem State.setLevel_spec (s : State) (n : Nat) (level : Bool) : (s.setLevel n level).pin.unseen = s.pin.unseen ∧
    (s.setLevel n level).pin.levels = putBit s.pin.levels n level ∧
    (∀ q began, q < 4 → (s.shadeAt q).state = .running → (s.shadeAt q).waiting = some (.pin began none) →
      bitsOf (s.shadeWord q) 16 4 = n → (s.shadeWord q).testBit 15 = level →
      ((s.setLevel n level).shadeAt q).waiting = some (.pin began (some s.clk.ticks))) := by
  rw [State.setLevel_eq]
  obtain ⟨hfold, -⟩ := State.foldl_noteWait_pin (List.range 4) (s.levelPut n level) n level
  have hwatch : ∀ x : State, x.watchPulse.pin = x.pin := fun x => by simp
  refine ⟨?_, ?_, fun q began hq hr hw hn hb => ?_⟩
  · rw [hwatch, (State.syncArm_unseen _).1, hfold]
    rfl
  · rw [hwatch, (State.syncArm_unseen _).2, hfold]
    rfl
  · have h := State.foldl_noteWait_seen (List.nodup_range) (List.mem_range.2 hq) hq (s.levelPut n level) hr hw hn hb
    generalize (List.range 4).foldl (fun s q => s.noteWait q n level) (s.levelPut n level) = x at h
    rw [State.shadeAt, hwatch, ← State.shadeAt, State.syncArm_shade]
    exact h

theorem getLsbD_putBit (w : BitVec 16) {n i : Nat} (b : Bool) (hi : i < 16) :
    (putBit w n b).getLsbD i = if i = n then b else w.getLsbD i := by
  have hm : (BitVec.ofNat 16 (2 ^ n)).getLsbD i = decide (n = i) := by
    rw [BitVec.getLsbD_ofNat, Nat.testBit_two_pow, decide_eq_true hi, Bool.true_and]
  unfold putBit
  dsimp only
  generalize BitVec.ofNat 16 (2 ^ n) = m at hm
  by_cases h : i = n
  · subst h
    cases b <;> simp [hm, hi]
  · rw [decide_eq_false (Ne.symm h)] at hm
    rw [if_neg h]
    cases b with
    | true => rw [if_pos rfl, BitVec.getLsbD_or, hm, Bool.or_false]
    | false => rw [if_neg Bool.false_ne_true, BitVec.getLsbD_and, BitVec.getLsbD_not, hm, decide_eq_true hi, Bool.not_false, Bool.and_self, Bool.and_true]

/-- The fields that a conditioned level's change leaves. -/
theorem Pin.fields_of_unseen {p q : Pin} (h : p.unseen = q.unseen) : p.samples = q.samples ∧ p.before = q.before ∧ p.fixed = q.fixed ∧
    p.fixedBefore = q.fixedBefore ∧ p.cfg = q.cfg ∧ p.tint = q.tint ∧ p.latch = q.latch :=
  ⟨(congrArg Pin.samples h :), (congrArg Pin.before h :), (congrArg Pin.fixed h :), (congrArg Pin.fixedBefore h :), (congrArg Pin.cfg h :),
    (congrArg Pin.tint h :), (congrArg Pin.latch h :)⟩

/-- What a conditioned level leaves of the pins. -/
theorem State.condition_spec (s : State) (n : Nat) (b : Bool) : (s.condition n b).pin.samples = putBit s.pin.samples n b ∧
    (s.condition n b).pin.before = putBit s.pin.before n b ∧ (s.condition n b).pin.fixed = putBit s.pin.fixed n true ∧
    (s.condition n b).pin.levels = putBit s.pin.levels n b ∧ (s.condition n b).pin.cfg = s.pin.cfg ∧
    (s.condition n b).pin.tint = s.pin.tint ∧ (s.condition n b).pin.latch = s.pin.latch := by
  obtain ⟨y, hy⟩ : ∃ y : State, { s with pin := s.pin.sampledAs n b b true true } = y := ⟨_, rfl⟩
  have e : s.condition n b = y.setLevel n b := by rw [State.condition, hy]
  obtain ⟨hu, hl, -⟩ := y.setLevel_spec n b
  obtain ⟨h1, h2, h3, -, h5, h6, h7⟩ := Pin.fields_of_unseen hu
  rw [e, h1, h2, h3, h5, h6, h7, hl, ← hy]
  exact ⟨rfl, rfl, rfl, rfl, rfl, rfl, rfl⟩

theorem State.samplePin_of {s : State} {n : Nat} (h : s.sampled n = true) : s.samplePin n =
    if s.pin.samples.getLsbD n = s.sampleOf n ((s.gpLand n).level.getD (s.pin.pads.getLsbD n)) &&
        s.pin.levels.getLsbD n != s.sampleOf n ((s.gpLand n).level.getD (s.pin.pads.getLsbD n)) then
      s.condition n (s.sampleOf n ((s.gpLand n).level.getD (s.pin.pads.getLsbD n)))
    else { s with
      pin := s.pin.sampledAs n (s.sampleOf n ((s.gpLand n).level.getD (s.pin.pads.getLsbD n))) (s.pin.samples.getLsbD n)
        (s.gpLand n).level.isSome (s.pin.fixed.getLsbD n) } := by
  simp [State.samplePin, h]

theorem State.samplePin_spec {s : State} {n : Nat} {b : Bool} (h : s.sampled n = true)
    (hb : b = ((s.gpLand n).level.getD (s.pin.pads.getLsbD n) != (s.pinField n 4 1 = 1))) :
    (s.samplePin n).pin.samples.getLsbD n = b ∧
    (s.pin.samples.getLsbD n = b → (s.samplePin n).pin.levels.getLsbD n = b) ∧
    (s.pin.samples.getLsbD n ≠ b → (s.samplePin n).pin.levels = s.pin.levels ∧ (s.samplePin n).pin.before.getLsbD n ≠ b ∧
      (s.samplePin n).pin.fixed.getLsbD n = (s.gpLand n).level.isSome) := by
  have hn : n < 16 := by
    simp only [State.sampled, Bool.and_eq_true, decide_eq_true_eq] at h
    exact h.1.1
  have hs : s.sampleOf n ((s.gpLand n).level.getD (s.pin.pads.getLsbD n)) = b := hb.symm
  rw [State.samplePin_of h, hs]
  split
  · next hc =>
    simp only [Bool.and_eq_true, decide_eq_true_eq] at hc
    obtain ⟨hsam, -, -, hlev, -⟩ := s.condition_spec n b
    rw [hsam, hlev, getLsbD_putBit _ _ hn, getLsbD_putBit _ _ hn, if_pos rfl]
    exact ⟨rfl, fun _ => if_pos rfl, fun hne => absurd hc.1 hne⟩
  · next hc =>
    simp only [Bool.and_eq_true, decide_eq_true_eq, not_and, bne_iff_ne, ne_eq, Classical.not_not] at hc
    refine ⟨?_, hc, fun hne => ⟨rfl, ?_, ?_⟩⟩
    · exact (getLsbD_putBit _ _ hn).trans (if_pos rfl)
    · exact fun he => hne (((getLsbD_putBit _ _ hn).trans (if_pos rfl)).symm.trans he)
    · exact (getLsbD_putBit _ _ hn).trans (if_pos rfl)

/-- The state of a pin's outside shown, before the level is conditioned; the sequencers stand. -/
theorem State.outsideAt_pin (s : State) (n : Nat) (pad : Bool) : ∃ w, s.outsideAt n pad = { s with pin := { s.pin with pads := w } } := by
  unfold State.outsideAt
  split
  · exact ⟨s.pin.pads, rfl⟩
  · exact ⟨_, rfl⟩

theorem State.watchPulse_hkc (s : State) : s.watchPulse.hkc = { s.hkc with
    pwActive := s.watchPulse.hkc.pwActive, pwSince := s.watchPulse.hkc.pwSince, pwEnded := s.watchPulse.hkc.pwEnded } := by
  unfold State.watchPulse
  split <;> rfl

theorem foldl_noteWait_hkc (l : List Nat) (s : State) (n : Nat) (level : Bool) :
    (l.foldl (fun s q => s.noteWait q n level) s).hkc = s.hkc := by
  induction l generalizing s with
  | nil => rfl
  | cons q l ih =>
    rw [List.foldl_cons, ih]
    simp

theorem State.setLevel_hkc (s : State) (n : Nat) (level : Bool) : (s.setLevel n level).hkc = { s.hkc with
    pwActive := (s.setLevel n level).hkc.pwActive, pwSince := (s.setLevel n level).hkc.pwSince
    pwEnded := (s.setLevel n level).hkc.pwEnded } := by
  rw [State.setLevel_eq]
  have h : ((List.range 4).foldl (fun s q => s.noteWait q n level) (s.levelPut n level)).syncArm.hkc = s.hkc := by
    rw [← show (s.levelPut n level).hkc = s.hkc from rfl, ← foldl_noteWait_hkc (List.range 4) (s.levelPut n level) n level]
    generalize (List.range 4).foldl (fun s q => s.noteWait q n level) (s.levelPut n level) = x
    simp
  rw [← h]
  exact State.watchPulse_hkc _

/-- What the change of a conditioned level does: the pin's level and samples, the waits that see it, and the pulse-width unit. -/
theorem State.levelChanged_spec {s : State} {n : Nat} {level b : Bool} (hn : n < 16) (hb : b = (level != (s.pinField n 4 1 = 1))) :
    (∀ i, i < 16 → ((s.outsideAt n level).condition n b).pin.levels.getLsbD i = if i = n then b else s.pin.levels.getLsbD i) ∧
    ((s.outsideAt n level).condition n b).pin.tint = s.pin.tint ∧ ((s.outsideAt n level).condition n b).pin.latch = s.pin.latch ∧
    exec (.conditionedLevelChange n (!level)) ((s.outsideAt n level).condition n b) = .next ((s.outsideAt n level).condition n b) ∧
    (∀ q began, q < 4 → (s.shadeAt q).state = .running → (s.shadeAt q).waiting = some (.pin began none) →
      bitsOf (s.shadeWord q) 16 4 = n → (s.shadeWord q).testBit 15 = b →
      (((s.outsideAt n level).condition n b).shadeAt q).waiting = some (.pin began (some s.clk.ticks))) := by
  obtain ⟨w, hw⟩ := s.outsideAt_pin n level
  rw [hw]
  obtain ⟨h1, h2, h3, h4, h5, h6, h7⟩ := ({ s with pin := { s.pin with pads := w } } : State).condition_spec n b
  refine ⟨fun i hi => ?_, h6, h7, ?_, fun q began hq hr hq' hbit hlev => ?_⟩
  · rw [h4, getLsbD_putBit _ _ hi]
  · generalize ({ s with pin := { s.pin with pads := w } } : State).condition n b = t at *
    have hfield : t.pinField n 4 1 = s.pinField n 4 1 := by
      rw [State.pinField, State.pinCfg, h5]
      rfl
    have hcan : t.pin.canRead n (t.sampleOf n (!level)) = false := by
      have hf : t.pin.fixed.getLsbD n = true := by rw [h3, getLsbD_putBit _ _ hn, if_pos rfl]
      have hs : t.pin.samples.getLsbD n = b := by rw [h1, getLsbD_putBit _ _ hn, if_pos rfl]
      have hne : b ≠ t.sampleOf n (!level) := by
        rw [State.sampleOf, hfield, hb]
        cases level <;> simp
      simp [Pin.canRead, hf, hs, hne]
    simp [exec, execConditionedLevelChange, hcan]
  · exact (State.setLevel_spec _ n b).2.2 q began hq hr hq' hbit hlev

theorem levelChanges_holds : levelChanges := by
  refine ⟨fun s n level b hb h => ?_, fun s n b h hb => State.samplePin_spec h hb, fun s n level b h hf hbf hb hne => ?_⟩
  · have hcan : s.pin.canRead n b = false := by
      rcases h with ⟨h1, h2⟩ | ⟨h1, h2⟩ <;> simp [Pin.canRead, h1, h2]
    have hs : s.sampleOf n level = b := hb.symm
    simp [exec, execConditionedLevelChange, hs, hcan]
  · have hn : n < 16 := by
      simp only [State.sampled, Bool.and_eq_true, decide_eq_true_eq] at h
      exact h.1.1
    have hs : s.sampleOf n level = b := hb.symm
    have hcan : s.pin.canRead n b = true := by
      simp only [Pin.canRead, Bool.and_eq_true, Bool.or_eq_true, Bool.not_eq_true', decide_eq_true_eq]
      refine ⟨?_, ?_⟩
      · cases hc : s.pin.fixed.getLsbD n with
        | false => exact .inl rfl
        | true => exact .inr (hf hc)
      · cases hc : s.pin.fixedBefore.getLsbD n with
        | false => exact .inl rfl
        | true => exact .inr (hbf hc)
    have e : exec (.conditionedLevelChange n level) s = .next ((s.outsideAt n level).condition n b) := by
      simp [exec, execConditionedLevelChange, hs, h, hcan, hne]
    obtain ⟨h1, h2, h3, h4, h5⟩ := State.levelChanged_spec hn hb
    have hhkc : (s.outsideAt n level).hkc = s.hkc := by
      obtain ⟨w, hw⟩ := s.outsideAt_pin n level
      rw [hw]
    refine ⟨_, e, h1, State.eq_of_parts ?_, h2, h3, h4, ?_, h5⟩
    · obtain ⟨w, hw⟩ := s.outsideAt_pin n level
      rw [hw]
      simp
    · rw [← hhkc]
      exact State.setLevel_hkc _ n b

/-! ### The tint engines -/

theorem tintEngines_holds : tintEngines := by
  intro s e v hd hv
  have hdue := hd
  simp only [State.tintDue, Bool.and_eq_true, decide_eq_true_eq, Option.isNone_iff_eq_none] at hdue
  obtain ⟨⟨⟨⟨he, -⟩, -⟩, -⟩, hnone⟩ := hdue
  have hnext : s.tintNext e = { s.tintAt e with next := some (v % 16, bitsOf v 4 2) } := by rw [State.tintNext, ← hv]
  have ex : exec (.tintEvaluate e) s = .next ((s.progress [57]).setTint e (s.tintNext e)) := by simp [exec, execTintEvaluate, hd]
  have hpin := (s.progress [57]).setTint_pin e (s.tintNext e)
  have hsame : ((s.progress [57]).setTint e (s.tintNext e)).tintAt e = s.tintNext e := State.tintAt_setTint_same _ _ he
  refine ⟨_, ex, hsame.trans hnext, ?_, fun i _ hi => State.tintAt_setTint_other _ _ hi, State.eq_of_parts (by simp), ?_, ?_, ?_⟩
  · rw [hsame, hnext, Tint.tick]
    dsimp only
    rw [← hnone]
  · rw [hpin]
    rfl
  · rw [hpin]
    rfl
  · rw [hpin]
    rfl

/-- Settles O41: each input by what it leaves of the pins, and one evaluation of a tint engine. -/
theorem pinInputs : Obligations.PinInputs := ⟨armingUnit_holds, activityDetectors_holds, levelChanges_holds, tintEngines_holds⟩

end Sys2Proof.Machine

namespace Sys2Proof.Machine

/-! ## The shade sequencers' instructions (R394 to R396) -/

/-- Sequencer 0 is at a SET that releases GP0, a pin of its own; the pads' latches list GP0 twice. -/
def latchedTwice : State :=
  { pwr := { released := true, state := .active, domains := 0x10000000000000 }
    pin := {
      cfg := [(0, 4)], latch := [(0, .level true), (0, .level true)], store := [(0, 0x308000)]
      shade := #v[{ state := .running, length := 1 }, {}, {}, {}] } }

/-- Refutes O42: releasing a pad takes its first entry off the list of latches, so that in a state whose list holds the pin twice the
second entry still drives the pad after the SET. O58 says that no step makes such a list out of one in canonical form; O42 is stated of
every state. -/
theorem not_shadeInstructions : ¬ Obligations.ShadeInstructions := by
  rintro ⟨honeCycle, -, -⟩
  obtain ⟨t, ht, -, -, hlatch⟩ := (honeCycle latchedTwice 0 _ _ rfl rfl).1 (by decide)
  have hdrives : ∀ t, exec (.set 0) latchedTwice = .next t → t.padLatch 0 = .level true := by
    intro t ht
    obtain rfl := Host.Outcome.next.inj ht
    rfl
  have hreleased := hlatch 0 (by decide)
  rw [hdrives t ht] at hreleased
  exact absurd hreleased (by decide)

end Sys2Proof.Machine

namespace Sys2Proof.Machine

/-! ## PULL and PUSH (R397) -/

/-- A one-cycle instruction leaves the other sequencers and all inputs of the pins. -/
theorem State.cycleTo_spec (s : State) {q : Nat} (y : Shade) (b pc : Nat) (hq : q < 4) : shadeCycle s (s.cycleTo q y b pc) q y b pc := by
  have hpin := (s.progress [58]).setShade_pin q { y with next := b + y.cycle, waiting := none, target := some pc }
  refine ⟨State.eq_of_parts (by simp [State.cycleTo]), fun r _ hr => ?_, ?_, ?_, ?_, ?_⟩
  · exact State.shadeAt_setShade_other _ _ hr
  · rw [State.cycleTo, hpin]
    rfl
  · rw [State.cycleTo, hpin]
    rfl
  · rw [State.cycleTo, hpin]
    rfl
  · exact State.shadeAt_setShade_same _ _ hq

theorem State.shadeDue_lt {s : State} {q op : Nat} (h : s.shadeDue q op = true) : q < 4 := by
  simp only [State.shadeDue, Bool.and_eq_true, decide_eq_true_eq] at h
  omega

theorem State.shadeRuns_lt {s : State} {q : Nat} (h : s.shadeRuns q = true) : q < 4 := by
  simp only [State.shadeRuns, Bool.and_eq_true, decide_eq_true_eq] at h
  omega

theorem Shade.pulled_spec (x : Shade) (w : Nat) (v : Word) : (x.pulled w v).lastPulled = v ∧ (x.pulled w v).inFifo = x.inFifo ∧
    (x.pulled w v).stale = x.stale ∧
    (if w.testBit 18 then (x.pulled w v).k = v.setWidth 16 ∧ (x.pulled w v).d = x.d else (x.pulled w v).d = v ∧ (x.pulled w v).k = x.k) := by
  unfold Shade.pulled
  split <;> exact ⟨rfl, rfl, rfl, rfl, rfl⟩

theorem Shade.pullHead_spec {x : Shade} {v : Word} {l : List Word} (w : Nat) (h : x.inFifo = v :: l) :
    (x.pullHead w).inFifo = l ∧ (x.pullHead w).lastPulled = v ∧
    (if w.testBit 18 then (x.pullHead w).k = v.setWidth 16 ∧ (x.pullHead w).d = x.d else (x.pullHead w).d = v ∧ (x.pullHead w).k = x.k) := by
  obtain ⟨hlast, hfifo, -, hval⟩ := Shade.pulled_spec { x with inFifo := l } w v
  have e : x.pullHead w = ({ x with inFifo := l } : Shade).pulled w v := by simp [Shade.pullHead, h]
  rw [e]
  exact ⟨hfifo, hlast, hval⟩

theorem Shade.pushed_eq (x : Shade) (w : Nat) :
    x.pushed w = { x with outFifo := x.outFifo ++ [if w.testBit 18 then x.k.setWidth 32 else x.d] } := rfl

/-- Settles O43: what each of the instructions leaves of its sequencer, by whether its FIFO lets it complete and whether it blocks. -/
theorem shadeFifoInstructions : Obligations.ShadeFifoInstructions := by
  rintro s q x w rfl rfl
  refine ⟨fun v l hd hf => ?_, fun hd hf hb => ?_, fun hd hf hb => ?_, fun v l r hr hw hf ht => ?_, fun hd hf => ?_, fun hd hf hb => ?_,
    fun hd hf hb => ?_, fun r hr hw hf ht => ?_⟩
  · have e : exec (.pull q) s = .next (s.oneCycle q ((s.shadeAt q).pullHead (s.shadeWord q))) := by simp [exec, execPull, hd, hf]
    obtain ⟨h1, h2, h3⟩ := Shade.pullHead_spec (s.shadeWord q) hf
    have hnext : ((s.shadeAt q).pullHead (s.shadeWord q)).next = (s.shadeAt q).next ∧
        ((s.shadeAt q).pullHead (s.shadeWord q)).pc = (s.shadeAt q).pc := by
      unfold Shade.pullHead Shade.pulled
      split <;> exact ⟨rfl, rfl⟩
    rw [State.oneCycle, hnext.1, hnext.2] at e
    exact ⟨_, _, e, s.cycleTo_spec _ _ _ (State.shadeDue_lt hd), h1, h2, h3⟩
  · simp [exec, execPull, hd, hf, hb, State.beginWait]
  · have e : exec (.pull q) s = .next (s.oneCycle q ((s.shadeAt q).pullStale (s.shadeWord q))) := by simp [exec, execPull, hd, hf, hb]
    obtain ⟨-, h2, h3, h4⟩ := Shade.pulled_spec { s.shadeAt q with stale := bump 65535 (s.shadeAt q).stale } (s.shadeWord q)
      (s.shadeAt q).lastPulled
    have hnext : ((s.shadeAt q).pullStale (s.shadeWord q)).next = (s.shadeAt q).next ∧
        ((s.shadeAt q).pullStale (s.shadeWord q)).pc = (s.shadeAt q).pc := by
      unfold Shade.pullStale Shade.pulled
      split <;> exact ⟨rfl, rfl⟩
    rw [State.oneCycle, hnext.1, hnext.2] at e
    exact ⟨_, _, e, s.cycleTo_spec _ _ _ (State.shadeDue_lt hd), h2.trans hf, h3, h4⟩
  · have e : exec (.pullUnblock q) s =
        .next (s.cycleTo q ((s.shadeAt q).pullHead (s.shadeWord q)) ((s.shadeAt q).boundary r) ((s.shadeAt q).pc + 1)) := by
      simp [exec, execPullUnblock, hw, hr, ht, hf]
    obtain ⟨h1, h2, h3⟩ := Shade.pullHead_spec (s.shadeWord q) hf
    exact ⟨_, _, e, s.cycleTo_spec _ _ _ (State.shadeRuns_lt hr), h1, h2, h3⟩
  · have e : exec (.push q) s = .next (s.oneCycle q ((s.shadeAt q).pushed (s.shadeWord q))) := by simp [exec, execPush, hd, hf]
    exact ⟨_, e, s.cycleTo_spec _ _ _ (State.shadeDue_lt hd)⟩
  · simp [exec, execPush, hd, Nat.not_lt.2 hf, hb, State.beginWait]
  · have e : exec (.push q) s = .next (s.oneCycle q { s.shadeAt q with drops := bump 65535 (s.shadeAt q).drops }) := by
      simp [exec, execPush, hd, Nat.not_lt.2 hf, hb]
    exact ⟨_, e, s.cycleTo_spec _ _ _ (State.shadeDue_lt hd)⟩
  · have e : exec (.pushUnblock q) s =
        .next (s.cycleTo q ((s.shadeAt q).pushed (s.shadeWord q)) ((s.shadeAt q).boundary r) ((s.shadeAt q).pc + 1)) := by
      simp [exec, execPushUnblock, hw, hr, ht, hf]
    exact ⟨_, e, s.cycleTo_spec _ _ _ (State.shadeRuns_lt hr)⟩

end Sys2Proof.Machine

namespace Sys2Proof.Machine

/-! ## The test access port (R446) -/

/-- EXTEST is in force with RST_N low: the boundary register drives GP0 high, which its own function releases. -/
def extestDrives : State :=
  { tap := { ir := 0, boundary := { gpEn := 1, gpOut := 1 } }, pad := { rstN := false } }

/-- A scan in which the outside gives every released land the level 0. -/
def scanOfLows : BoundaryScan := { test := false, cells := {}, seen := {} }

/-- Refutes O44: SAMPLE_PRELOAD after EXTEST captures GP0 as 0, though the land is driven high before the row. The row puts its own
instruction in force before it captures, so that EXTEST's boundary cells drive the lands no longer, while the statement reads the lands of
the state before it. -/
theorem not_testAccessPort : ¬ Obligations.TestAccessPort := by
  rintro ⟨-, hrows, -⟩
  obtain ⟨-, hscan, -⟩ := hrows extestDrives
  obtain ⟨y, ⟨hcells, -⟩, hexec⟩ := hscan scanOfLows rfl
  have hland : extestDrives.gpLand 0 = .high := by decide
  have hcaptured : ((extestDrives.tapTo 1).scanBoundary scanOfLows).tap.captured.gpIn.getLsbD 0 = false := by decide
  have hy : ((extestDrives.tapTo 1).scanBoundary scanOfLows).tap.captured = y :=
    congrArg (fun t : State => t.tap.captured) (Host.Outcome.next.inj hexec)
  have hbit := (hcells 0 (by decide)).1
  rw [hland, ← hy, hcaptured] at hbit
  exact absurd hbit (by decide)

end Sys2Proof.Machine

namespace Sys2Proof.Machine

/-! ## The housekeeping converter (R406 to R416) -/

/-- What the converter shows: results, accumulators, values, coefficients and counts, without the work it has or waits for. -/
def Hkc.shown (h : Hkc) : Hkc :=
  { results := h.results, acc := h.acc, values := h.values, coefs := h.coefs, ovrCount := h.ovrCount, zeros := h.zeros }

theorem hkcStarted_of {s t : State} (h : t = { s with hkc := t.hkc }) (hs : t.hkc.shown = s.hkc.shown) : hkcStarted s t :=
  ⟨h, (congrArg Hkc.results hs :), (congrArg Hkc.acc hs :), (congrArg Hkc.values hs :), (congrArg Hkc.coefs hs :)⟩

/-- The next work taken up changes the conversion, and the calibration it is of; nothing else of the converter. -/
theorem State.kickHkc_hkc (s : State) : ∃ conv cal state,
    s.kickHkc.hkc = { s.hkc with conv := conv, cal := cal, calState := state } ∧
    (s.hkc.cal = none ∨ s.hkc.prio.isSome = true → cal = s.hkc.cal ∧ state = s.hkc.calState) := by
  unfold State.kickHkc
  dsimp only
  split
  · exact ⟨_, _, _, rfl, fun _ => ⟨rfl, rfl⟩⟩
  split
  · exact ⟨_, _, _, rfl, fun _ => ⟨rfl, rfl⟩⟩
  next hp =>
    split
    · rename_i c hc
      split
      · exact ⟨_, _, _, rfl, fun h => by simp [hc, hp] at h⟩
      · exact ⟨_, _, _, rfl, fun _ => ⟨rfl, rfl⟩⟩
    · split <;> exact ⟨_, _, _, rfl, fun _ => ⟨rfl, rfl⟩⟩
    · exact ⟨_, _, _, rfl, fun _ => ⟨rfl, rfl⟩⟩

theorem State.kickHkc_shown (s : State) : s.kickHkc.hkc.shown = s.hkc.shown := by
  obtain ⟨_, _, _, h, -⟩ := s.kickHkc_hkc
  rw [h]
  rfl

theorem State.kickHkc_prio {s : State} {p : HkcPass} (hc : s.hkc.conv = none) (hp : s.powered 51 = true) (h : s.hkc.prio = some p) :
    s.kickHkc = s.convert .priority p.channel p.timing := by
  simp [State.kickHkc, hc, hp, h]

theorem State.planPass_eq {s : State} (h : s.stored 0x2805 ≠ 0) :
    s.planPass = { s with hkc := { s.hkc with passDue := some (s.clk.ticks + 125 * s.stored 0x2808) } } := by
  simp [State.planPass, h]

/-- A start that finds a pass running or waiting, or the sequence suspended, is missed; else the pass is planned. -/
theorem State.startScan_busy {s : State} (h : s.hkc.pass.isSome ∨ s.hkc.passDue.isSome ∨ s.hkc.suspended = true) :
    s.startScan = { s with hkc := { s.hkc with missedScan := bump 65535 s.hkc.missedScan } } := by
  have hb : (s.hkc.pass.isSome || s.hkc.passDue.isSome || s.hkc.suspended) = true := by
    simpa only [Bool.or_eq_true, or_assoc] using h
  rw [State.startScan, if_pos hb]

theorem State.startScan_free {s : State} (h1 : s.hkc.pass = none) (h2 : s.hkc.passDue = none) (h3 : s.hkc.suspended = false) :
    s.startScan = s.planPass := by
  simp [State.startScan, h1, h2, h3]

/-- A start plans a pass or counts as missed; nothing else of the converter changes. -/
theorem State.startScan_hkc (s : State) : ∃ due missed, s.startScan.hkc = { s.hkc with passDue := due, missedScan := missed } := by
  unfold State.startScan State.planPass
  repeat' split
  all_goals exact ⟨_, _, rfl⟩

theorem State.prioTrigger_hkc (s : State) (b : Nat) : ∃ due next missed,
    (s.prioTrigger b).hkc = { s.hkc with prioDue := due, prioNext := next, missedPrio := missed } := by
  unfold State.prioTrigger
  repeat' split
  all_goals exact ⟨_, _, _, rfl⟩

theorem State.prioTrigger_due {s : State} {b : Nat} (hp : s.powered 51 = true) (hb : (s.stored 0x280B).testBit b = true)
    (h1 : s.hkc.prio = none) (h2 : s.hkc.prioDue = none) (h3 : s.stored 0x280A ≠ 0) :
    (s.prioTrigger b).hkc.prioDue = some (s.clk.ticks + 125 * s.stored 0x280C) := by
  simp [State.prioTrigger, hp, hb, h1, h2, h3]

/-- The state with a pulse's end taken, and the scan sequence started where it follows pulses. -/
def State.pulseTaken (s : State) : State :=
  if s.stored 0x2806 = 2 then { s with hkc := { s.hkc with pwEnded := none } }.startScan
  else { s with hkc := { s.hkc with pwEnded := none } }

theorem State.pulseEvent_eq (s : State) : s.pulseEvent = s.pulseTaken.prioTrigger 3 := rfl

theorem State.pulseTaken_hkc (s : State) : ∃ due missed,
    s.pulseTaken.hkc = { s.hkc with pwEnded := none, passDue := due, missedScan := missed } := by
  unfold State.pulseTaken
  split
  · obtain ⟨due, missed, h⟩ := ({ s with hkc := { s.hkc with pwEnded := none } } : State).startScan_hkc
    exact ⟨due, missed, h⟩
  · exact ⟨_, _, rfl⟩

theorem State.pulseTaken_missed {s : State} (h : s.stored 0x2806 = 2) (hp : s.hkc.pass.isSome = true) :
    s.pulseTaken.hkc.missedScan = min 65535 (s.hkc.missedScan + 1) := by
  obtain ⟨y, hy⟩ : ∃ y : State, { s with hkc := { s.hkc with pwEnded := none } } = y := ⟨_, rfl⟩
  rw [State.pulseTaken, if_pos h, hy, State.startScan_busy (.inl (by rw [← hy]; exact hp)), ← hy]
  rfl

theorem State.pulseTaken_kept (s : State) : s.pulseTaken = { s with hkc := s.pulseTaken.hkc } := by
  unfold State.pulseTaken
  split
  · exact State.eq_of_parts (by simp)
  · rfl

theorem pulseEvent_spec {s : State} (w : Nat) (hp : s.powered 51 = true) (h52 : s.powered 52 = true) (he : s.hkc.pwEnded = some (s.clk.ticks, w))
    (hlo : 125 * bitsOf (s.stored 0x280E) 0 16 ≤ w) (hhi : w ≤ 125 * bitsOf (s.stored 0x280E) 16 16) :
    ∃ t, exec (.pulseWidthEvent w) s = .next t ∧ hkcStarted s t ∧ t.hkc.pwEnded = none ∧
      (s.stored 0x2806 = 2 → s.hkc.pass.isSome → t.hkc.missedScan = min 65535 (s.hkc.missedScan + 1)) ∧
      ((s.stored 0x280B).testBit 3 = true → s.hkc.prio = none → s.hkc.prioDue = none → s.stored 0x280A ≠ 0 →
        t.hkc.prioDue = some (s.clk.ticks + 125 * s.stored 0x280C)) := by
  have e : exec (.pulseWidthEvent w) s = .next s.pulseEvent := by
    simp [exec, execPulseWidthEvent, State.pwRuns, hp, h52, he, State.pulseAccepted, hlo, hhi]
  obtain ⟨due, missed, ht⟩ := s.pulseTaken_hkc
  obtain ⟨pdue, pnext, pmissed, hpr⟩ := s.pulseTaken.prioTrigger_hkc 3
  have hkept := s.pulseTaken_kept
  refine ⟨_, e, hkcStarted_of (State.eq_of_parts (by simp)) ?_, ?_, fun h2 hpass => ?_, fun h1 h2 h3 h4 => ?_⟩ <;> rw [State.pulseEvent_eq]
  · rw [hpr, ht]
    rfl
  · rw [hpr, ht]
  · rw [hpr]
    exact State.pulseTaken_missed h2 hpass
  · rw [State.prioTrigger_due]
    · rw [hkept]
      rfl
    · rw [hkept]
      exact hp
    · rw [hkept]
      exact h1
    · rw [ht]
      exact h2
    · rw [ht]
      exact h3
    · rw [hkept]
      exact h4

theorem State.watchPulse_rise {s : State} (h51 : s.powered 51 = true) (h52 : s.powered 52 = true) (ha : s.hkc.pwActive = false)
    (hl : s.pwLevel = true) : s.watchPulse = { s with hkc := { s.hkc with pwActive := true, pwSince := some s.clk.ticks } } := by
  simp [State.watchPulse, State.pwRuns, h51, h52, ha, hl]

theorem State.watchPulse_fall {s : State} {b : Nat} (h51 : s.powered 51 = true) (h52 : s.powered 52 = true) (ha : s.hkc.pwActive = true)
    (hl : s.pwLevel = false) (hb : s.hkc.pwSince = some b) : s.watchPulse = { s with hkc := { s.hkc with
      pwActive := false, pwSince := none, pwEnded := some (s.clk.ticks, s.clk.ticks - b) } } := by
  simp [State.watchPulse, State.pwRuns, h51, h52, ha, hl, hb]

theorem scanSequence_holds : scanSequence := by
  intro s hp
  refine ⟨fun h1 h2 => ?_, fun h52 on hon => ⟨fun ha ht => ?_, fun b ha ht hb => ?_⟩, fun w h52 he hlo hhi => pulseEvent_spec w hp h52 he hlo hhi,
    fun d hd ht hn => ?_⟩
  · obtain ⟨y, hy⟩ : ∃ y : State, { s with hkc := { s.hkc with gridUsed := s.gridIndex } } = y := ⟨_, rfl⟩
    have e : exec .scanTimer s = .next y.startScan := by
      rw [← hy]
      simp [exec, execScanTimer, hp, h1, h2]
    obtain ⟨due, missed, hh⟩ := y.startScan_hkc
    refine ⟨_, e, hkcStarted_of (State.eq_of_parts (by simp [← hy])) ?_, ?_, fun hb => ?_, fun h3 h4 h5 h6 => ?_⟩
    · rw [hh, ← hy]
      rfl
    · rw [hh, ← hy]
    · rw [State.startScan_busy (by rw [← hy]; exact hb), ← hy]
      exact ⟨rfl, rfl⟩
    · rw [State.startScan_free (by rw [← hy]; exact h3) (by rw [← hy]; exact h4) (by rw [← hy]; exact h5),
        State.planPass_eq (by rw [← hy]; exact h6), ← hy]
      exact ⟨rfl, rfl⟩
  · exact State.watchPulse_rise hp h52 ha (hon.symm.trans ht)
  · exact State.watchPulse_fall hp h52 ha (hon.symm.trans ht) hb
  · obtain ⟨y, hy⟩ : ∃ y : State, { s with hkc := { s.hkc with
        passDue := none, pass := some ⟨nibbles (s.stored 0x2804) (s.stored 0x2805), s.stored 0x2802, 0⟩ } } = y := ⟨_, rfl⟩
    have hne : (nibbles (s.stored 0x2804) (s.stored 0x2805)).isEmpty = false := by
      simp [nibbles, hn]
    have e : exec .scanPassStart s = .next y.kickHkc := by
      rw [← hy]
      simp [exec, execScanPassStart, hd, hp, ht, State.beginPass, hne]
    obtain ⟨_, _, _, hh, -⟩ := y.kickHkc_hkc
    refine ⟨_, e, hkcStarted_of (State.eq_of_parts (by simp [← hy])) ?_, ?_, ?_⟩
    · rw [State.kickHkc_shown, ← hy]
      rfl
    · rw [hh, ← hy]
    · rw [hh, ← hy]

/-! ### The priority sequence -/

/-- The conversion under way abandoned: what is none of a calibration, by whether a closing run drops the pass. -/
theorem State.preempt_other {s : State} (h : s.hkc.conv.map HkcConv.work ≠ some .calibration) :
    ∃ pass, s.preempt = { s with hkc := { s.hkc with conv := none, pass := pass } } := by
  unfold State.preempt
  dsimp only
  split
  · next hw _ => exact absurd hw h
  · split <;> exact ⟨_, rfl⟩
  · exact ⟨_, rfl⟩

theorem State.preempt_cal {s : State} {c : HkcCal} (h : s.hkc.conv.map HkcConv.work = some .calibration) (hc : s.hkc.cal = some c) :
    s.preempt = ({ s with hkc := { s.hkc with conv := none } } : State).abandonCal c := by
  simp [State.preempt, h, hc]

/-- The state in which the priority sequence has taken the converter, before its first conversion. -/
def State.priorityTaken (s : State) : State :=
  { s.preempt with hkc := { s.preempt.hkc with prioDue := none, prioNext := [], prio := some ⟨s.hkc.prioNext, s.stored 0x2803, 0⟩ } }

theorem exec_prioritySequenceStart {s : State} {d : Nat} (hp : s.powered 51 = true) (hd : s.hkc.prioDue = some d) (ht : d ≤ s.clk.ticks)
    (hc : s.preempt.hkc.conv = none) : exec .prioritySequenceStart s =
      .next (s.priorityTaken.convert .priority (s.hkc.prioNext.getD 0 0) (s.stored 0x2803)) := by
  have hpow : s.priorityTaken.powered 51 = true := (State.powered_of_pwr (s := s) (t := s.priorityTaken) (by simp [State.priorityTaken]) 51).trans hp
  have hk := State.kickHkc_prio (s := s.priorityTaken) (p := ⟨s.hkc.prioNext, s.stored 0x2803, 0⟩) hc hpow rfl
  have e : exec .prioritySequenceStart s = .next s.priorityTaken.kickHkc := by
    simp [exec, execPrioritySequenceStart, hd, hp, ht, State.beginPriority, State.priorityTaken]
  rw [e, hk]
  rfl

/-- The converter with the priority sequence at its first conversion, from the state after the one it took the converter from. -/
theorem State.priorityConvert_hkc (s : State) : (s.priorityTaken.convert .priority (s.hkc.prioNext.getD 0 0) (s.stored 0x2803)).hkc =
    { s.preempt.hkc with
      prioDue := none, prioNext := [], prio := some ⟨s.hkc.prioNext, s.stored 0x2803, 0⟩
      conv := some ⟨.priority, s.hkc.prioNext.getD 0 0, s.stored 0x2803, s.preempt.stored 0x2801, 0, false, s.preempt.hkc.settled,
        s.preempt.clk.ticks⟩ } := rfl

theorem prioritySequence_holds : prioritySequence := by
  intro s d hp hd ht
  refine ⟨fun hw => ?_, fun c hw hc hn => ?_, fun c hw hc hn => ?_⟩
  · obtain ⟨pass, he⟩ := State.preempt_other hw
    have e := exec_prioritySequenceStart hp hd ht (by rw [he])
    have hh := s.priorityConvert_hkc
    rw [he] at hh
    refine ⟨_, e, hkcStarted_of (State.eq_of_parts (by simp [State.priorityTaken, he])) ?_, ?_, ?_, ?_, ?_⟩ <;> rw [hh] <;> rfl
  · have he : s.preempt = { s with hkc := { s.hkc with
        conv := none, cal := some { c with restarts := c.restarts + 1, again := true }, calState := 1, calRestarts := c.restarts + 1 } } := by
      rw [State.preempt_cal hw hc, State.abandonCal, if_pos hn]
    have e := exec_prioritySequenceStart hp hd ht (by rw [he])
    have hh := s.priorityConvert_hkc
    rw [he] at hh
    refine ⟨_, e, hkcStarted_of (State.eq_of_parts (by simp [State.priorityTaken, he])) ?_, ?_, ?_, ?_⟩
    · rw [hh]
      rfl
    all_goals rw [hh]
  · obtain ⟨y, hy⟩ : ∃ y : State, { s with hkc := { s.hkc with conv := none, cal := none, calState := 4, suspended := false } } = y := ⟨_, rfl⟩
    have he : s.preempt = y.raise 0x10 c.restartTime (leBytes 1 c.channel ++ leBytes 1 3) := by
      rw [State.preempt_cal hw hc, State.abandonCal, if_neg (Nat.not_lt.2 hn), ← hy]
    have hhkc : s.preempt.hkc = y.hkc := by rw [he]; simp
    have e := exec_prioritySequenceStart hp hd ht (by rw [hhkc, ← hy])
    have hh := s.priorityConvert_hkc
    rw [hhkc] at hh
    have hev : (s.priorityTaken.convert .priority (s.hkc.prioNext.getD 0 0) (s.stored 0x2803)).ev = s.preempt.ev := rfl
    refine ⟨_, e, ?_, ?_, ?_, State.eq_of_parts (by simp [State.priorityTaken])⟩
    · rw [hh, ← hy]
    · rw [hh, ← hy]
    · rw [hev, he, State.raise_ev_seq, ← hy]

/-! ### The raw result -/

theorem hkcDivider_pos (ch : Nat) : 0 < hkcDivider ch := by
  unfold hkcDivider
  by_cases h : ch < 16
  · exact (by decide : ∀ i, i < 16 → 0 < [1, 2, 4, 2, 1, 1, 1, 1, 1, 1, 1, 1, 1, 2, 1, 1].getD i 1) ch h
  · rw [getD_of_length_le 1 (Nat.not_lt.1 h)]
    decide

theorem vref_pos (ref tick : Nat) : 0 < vref ref tick := by
  unfold vref
  split
  · decide
  · split <;> omega

theorem hkcRawResult_holds : hkcRawResult := by
  rintro ch ref tick input d rfl
  have hpos : 0 < hkcDivider ch * vref ref tick := Nat.mul_pos (hkcDivider_pos ch) (vref_pos ref tick)
  obtain ⟨hlo, hhi⟩ := roundDiv_bounds (16777216 * input) hpos
  rw [← Int.mul_assoc] at hlo hhi
  exact ⟨by omega, fun h => by rw [vref, if_pos h], hlo, hhi, rfl, rfl, rfl⟩

/-! ### Results -/

theorem State.continueScan_shown (s : State) : s.continueScan.hkc.shown = s.hkc.shown := by
  unfold State.continueScan State.planPass
  repeat' split
  all_goals rfl

/-- A slot's end leaves what the converter shows. -/
theorem State.slotEnded_shown (s : State) (work : HkcWork) : (s.slotEnded work).hkc.shown = s.hkc.shown := by
  cases work with
  | priority => exact State.kickHkc_shown _
  | scan => exact (State.kickHkc_shown _).trans (State.continueScan_shown _)
  | calibration => rfl

theorem State.slotEnded_fields (s : State) (work : HkcWork) : (s.slotEnded work).hkc.results = s.hkc.results ∧
    (s.slotEnded work).hkc.acc = s.hkc.acc ∧ (s.slotEnded work).hkc.values = s.hkc.values ∧
    (s.slotEnded work).hkc.ovrCount = s.hkc.ovrCount := by
  have h := s.slotEnded_shown work
  exact ⟨(congrArg Hkc.results h :), (congrArg Hkc.acc h :), (congrArg Hkc.values h :), (congrArg Hkc.ovrCount h :)⟩

theorem spGet_spSet_put {α : Type} [DecidableEq α] {d : α} (k : Nat) {v : α} (m : Sparse α) (hv : v ≠ d) : spGet d k (spSet d k v m) = v := by
  induction m with
  | nil => simp [spSet, spGet, hv]
  | cons x m ih =>
    obtain ⟨j, w⟩ := x
    rw [spSet]
    split
    · simp [spGet]
    · split
      · next h2 => simp [spGet, h2]
      · next h2 => rw [spGet, if_neg h2, ih]

theorem State.onRun_none {s : State} (f : Run → Run) (hr : s.pwr.run = none) : s.onRun f = s := by
  have hp : { s.pwr with run := s.pwr.run.map f } = s.pwr := by
    rw [hr, Option.map_none, ← hr]
  rw [State.onRun, hp]

/-- A good result outside a closing run: its accumulator, and the value it converts to. -/
theorem State.goodResult_spec {s : State} (ch ref code : Nat) (hr : s.pwr.run = none) : ∃ h, s.goodResult ch ref code = { s with hkc := h } ∧
    h.results = s.hkc.results ∧ h.ovrCount = s.hkc.ovrCount ∧
    ((spGet {} ch s.hkc.acc).count < 65535 → spGet {} ch h.acc =
      ⟨(spGet {} ch s.hkc.acc).sum + code, (spGet {} ch s.hkc.acc).count + 1⟩) := by
  obtain ⟨acc, hacc⟩ : ∃ acc, (if (spGet {} ch s.hkc.acc).count < 65535 then
      spSet {} ch ⟨(spGet {} ch s.hkc.acc).sum + code, (spGet {} ch s.hkc.acc).count + 1⟩ s.hkc.acc else s.hkc.acc) = acc := ⟨_, rfl⟩
  have hget : (spGet {} ch s.hkc.acc).count < 65535 → spGet {} ch acc =
      ⟨(spGet {} ch s.hkc.acc).sum + code, (spGet {} ch s.hkc.acc).count + 1⟩ := fun h => by
    rw [← hacc, if_pos h]
    exact spGet_spSet_put _ _ (fun e => by cases congrArg HkcAcc.count e)
  unfold State.goodResult
  dsimp only
  rw [hacc]
  split
  · rw [State.onRun_none]
    · exact ⟨_, rfl, rfl, rfl, hget⟩
    · exact hr
  · exact ⟨_, rfl, rfl, rfl, hget⟩

/-- A result inside the code's range. -/
theorem State.hkcResult_good {s : State} {c : HkcConv} {raw : Int} {code : Nat} (slot : Nat) (hr : s.pwr.run = none)
    (hs : c.saturated = false) (hc : hkcCode (s.hkcCoef c.channel) raw = (code : Int)) (hle : code ≤ 16777215) :
    ∃ h, s.hkcResult c slot raw = { s with hkc := h } ∧
      spFind c.channel h.results = some (resultWord (c.work = .priority) (!c.settled) false code) ∧ h.ovrCount = s.hkc.ovrCount ∧
      (c.settled = false → h.acc = s.hkc.acc ∧ h.values = s.hkc.values) ∧
      (c.settled = true → (spGet {} c.channel s.hkc.acc).count < 65535 → spGet {} c.channel h.acc =
        ⟨(spGet {} c.channel s.hkc.acc).sum + code, (spGet {} c.channel s.hkc.acc).count + 1⟩) := by
  have hcode : (clampInt 0 16777215 (code : Int)).toNat = code := by
    unfold clampInt
    omega
  have hovr : (c.saturated || decide ((code : Int) < 0) || decide ((16777215 : Int) < code)) = false := by
    simp [hs]
    omega
  obtain ⟨y, hy⟩ : ∃ y : State, { s with hkc := { s.hkc with
    results := spPut c.channel (resultWord (c.work = HkcWork.priority) (!c.settled) false code) s.hkc.results } } = y := ⟨_, rfl⟩
  have e : s.hkcResult c slot raw = if c.settled then y.goodResult c.channel c.ref code else y := by
    unfold State.hkcResult
    dsimp only
    rw [hc, hovr, hcode, hy]
    rfl
  rw [e]
  cases hset : c.settled with
  | false =>
    rw [if_neg Bool.false_ne_true, ← hy, hset]
    exact ⟨_, rfl, spFind_spPut_same _ _ _, rfl, fun _ => ⟨rfl, rfl⟩, fun h => absurd h (by decide)⟩
  | true =>
    obtain ⟨h, he, h1, h2, h3⟩ := y.goodResult_spec c.channel c.ref code (by rw [← hy]; exact hr)
    rw [if_pos rfl, he]
    have hres : y.hkc.results = spPut c.channel (resultWord (c.work = HkcWork.priority) (!c.settled) false code) s.hkc.results := by rw [← hy]
    have hacc : y.hkc.acc = s.hkc.acc := by rw [← hy]
    have hcount : y.hkc.ovrCount = s.hkc.ovrCount := by rw [← hy]
    rw [hacc] at h3
    refine ⟨h, ?_, ?_, h2.trans hcount, fun h => absurd h (by decide), fun _ => h3⟩
    · rw [← hy]
    · rw [h1, hres, hset]
      exact spFind_spPut_same _ _ _

/-- A result outside the code's range or saturated: it is counted and raises its event. -/
theorem State.hkcResult_ovr {s : State} {c : HkcConv} {raw : Int} (slot : Nat)
    (h : c.saturated = true ∨ hkcCode (s.hkcCoef c.channel) raw < 0 ∨ 16777215 < hkcCode (s.hkcCoef c.channel) raw) :
    s.hkcResult c slot raw = ({ s with hkc := { s.hkc with
      results := spPut c.channel (resultWord (c.work = HkcWork.priority) (!c.settled) true
        (clampInt 0 16777215 (hkcCode (s.hkcCoef c.channel) raw)).toNat) s.hkc.results
      ovrCount := s.hkc.ovrCount + 1 } } : State).raise 0x0E s.now
        (leBytes 1 c.channel ++ leBytes 1 (boolNat (c.work = HkcWork.priority)) ++ leBytes 1 slot) := by
  have hovr : (c.saturated || decide (hkcCode (s.hkcCoef c.channel) raw < 0) ||
      decide ((16777215 : Int) < hkcCode (s.hkcCoef c.channel) raw)) = true := by
    simpa only [Bool.or_eq_true, decide_eq_true_eq, or_assoc] using h
  unfold State.hkcResult
  dsimp only
  rw [hovr]
  rfl

/-- The conversion with one more period over. -/
def HkcConv.counted (c : HkcConv) (sat : Bool) : HkcConv := { c with periods := c.periods + 1, saturated := c.saturated || sat }

theorem exec_hkcPeriodEnd {s : State} {c : HkcConv} (input : Int) (sat : Bool) (hp : s.powered 51 = true) (hc : s.hkc.conv = some c)
    (ho : c.periodOver s.clk.ticks = true) : exec (.hkcPeriodEnd input sat) s = .next (s.periodEnd c input sat) := by
  simp [exec, execHkcPeriodEnd, hc, hp, ho]

theorem State.periodEnd_last {s : State} {c : HkcConv} (input : Int) (sat : Bool) (hw : c.work ≠ .calibration)
    (hn : timingOrder c.timing ≤ c.periods + 1) : s.periodEnd c input sat =
      ((s.progress [59]).hkcResult (c.counted sat) (s.hkcSlot c.work) (hkcRaw c.channel c.ref s.clk.ticks input)).slotEnded c.work := by
  unfold State.periodEnd
  dsimp only
  rw [if_neg (by simp [hw, Nat.not_lt.2 hn])]
  rfl

theorem hkcResults_holds : hkcResults := by
  intro s input raw sat c hp hc ho hraw
  have e := exec_hkcPeriodEnd input sat hp hc ho
  refine ⟨fun h => ?_, fun code hw hn hs hsat hr hcode hle => ?_, fun code hw hn hr hcode hovr => ?_⟩
  · rw [e]
    have hb : (decide (c.work = .calibration) || decide (c.periods + 1 < timingOrder c.timing)) = true := by
      simpa only [Bool.or_eq_true, decide_eq_true_eq] using h
    exact congrArg Host.Outcome.next (if_pos hb)
  · rw [State.periodEnd_last input sat hw hn, ← hraw] at e
    obtain ⟨h, he, h1, h2, h3, h4⟩ := State.hkcResult_good (s := s.progress [59]) (c := c.counted sat) (s.hkcSlot c.work) hr
      (by simp [HkcConv.counted, hs, hsat]) hcode hle
    obtain ⟨f1, f2, f3, f4⟩ := ((s.progress [59]).hkcResult (c.counted sat) (s.hkcSlot c.work) raw).slotEnded_fields c.work
    rw [he] at f1 f2 f3 f4 e
    refine ⟨_, e, ?_, ?_, by simp, State.eq_of_parts (by simp), fun hset => ?_, fun hset hcount => ?_⟩
    · rw [f1]
      exact h1
    · rw [f4]
      exact h2
    · rw [f2, f3]
      exact h3 hset
    · rw [f2]
      exact h4 hset hcount
  · rw [State.periodEnd_last input sat hw hn, ← hraw] at e
    have hcode' : hkcCode ((s.progress [59]).hkcCoef (c.counted sat).channel) raw = code := hcode
    have hres := State.hkcResult_ovr (s := s.progress [59]) (c := c.counted sat) (raw := raw) (s.hkcSlot c.work) (by
      rw [hcode']
      simpa only [HkcConv.counted, Bool.or_eq_true, or_assoc] using hovr)
    rw [hcode'] at hres
    obtain ⟨y, hy⟩ : ∃ y : State, ({ s.progress [59] with hkc := { (s.progress [59]).hkc with
      results := spPut (c.counted sat).channel (resultWord ((c.counted sat).work = HkcWork.priority) (!(c.counted sat).settled) true
        (clampInt 0 16777215 code).toNat) (s.progress [59]).hkc.results
      ovrCount := (s.progress [59]).hkc.ovrCount + 1 } } : State) = y := ⟨_, rfl⟩
    rw [hy] at hres
    obtain ⟨f1, f2, f3, f4⟩ := ((s.progress [59]).hkcResult (c.counted sat) (s.hkcSlot c.work) raw).slotEnded_fields c.work
    have hhkc : ((s.progress [59]).hkcResult (c.counted sat) (s.hkcSlot c.work) raw).hkc = y.hkc := by
      rw [hres]
      simp
    have hev : (((s.progress [59]).hkcResult (c.counted sat) (s.hkcSlot c.work) raw).slotEnded c.work).ev.seq = y.ev.seq + 1 := by
      have hkept : (((s.progress [59]).hkcResult (c.counted sat) (s.hkcSlot c.work) raw).slotEnded c.work).ev =
          ((s.progress [59]).hkcResult (c.counted sat) (s.hkcSlot c.work) raw).ev := by simp
      rw [hkept, hres, State.raise_ev_seq]
    rw [hhkc] at f1 f2 f3 f4
    refine ⟨_, e, ?_, ?_, ?_, ?_, ?_, State.eq_of_parts (by simp [hres, ← hy])⟩
    · rw [f4, ← hy]
      rfl
    · rw [hev, ← hy]
      rfl
    · rw [f1, ← hy]
      exact spFind_spPut_same _ _ _
    · rw [f2, ← hy]
      rfl
    · rw [f3, ← hy]
      rfl

/-! ### The reference and the calibration -/

/-- A calibration's end leaves what the converter shows, without the calibration. -/
theorem State.calEnded_spec (s : State) (n : Nat) : (s.calEnded n).hkc.shown = s.hkc.shown ∧ (s.calEnded n).hkc.cal = none ∧
    (s.calEnded n).hkc.calState = n ∧ (s.calEnded n).hkc.coefs = s.hkc.coefs := by
  obtain ⟨conv, cal, st, hk, hsame⟩ := (({ s with hkc := { s.hkc with
    conv := none, cal := none, calState := n, suspended := false } } : State).progress [59]).kickHkc_hkc
  obtain ⟨h1, h2⟩ := hsame (.inl rfl)
  have e : (s.calEnded n).hkc = _ := hk
  rw [e, h1, h2]
  exact ⟨rfl, rfl, rfl, rfl⟩

theorem refSettled_spec {s : State} (hp : s.powered 51 = true) (hs : s.hkc.settled = false)
    (ht : s.hkc.refTick + refTicks (s.stored 0x2801) ≤ s.clk.ticks) : ∃ t, exec .refSettled s = .next t ∧
      hkcStarted s t ∧ t.hkc.settled = true := by
  obtain ⟨y, hy⟩ : ∃ y : State, { s with hkc := { s.hkc with settled := true } } = y := ⟨_, rfl⟩
  have e : exec .refSettled s = .next y.kickHkc := by
    rw [← hy]
    simp [exec, execRefSettled, hp, hs, ht]
  obtain ⟨_, _, _, hh, -⟩ := y.kickHkc_hkc
  refine ⟨_, e, hkcStarted_of (State.eq_of_parts (by simp [← hy])) ?_, ?_⟩
  · rw [State.kickHkc_shown, ← hy]
    rfl
  · rw [hh, ← hy]

theorem exec_calConversionDone {s : State} {v : HkcConv} {c : HkcCal} (input : Int) (hp : s.powered 51 = true) (hv : s.hkc.conv = some v)
    (hw : v.work = .calibration) (hc : s.hkc.cal = some c) (ho : v.over s.clk.ticks = true) :
    exec (.calConversionDone input) s = .next (if c.phase = 1 then s.zeroDone c (hkcRaw v.channel v.ref s.clk.ticks input)
      else s.fullDone c (hkcRaw v.channel v.ref s.clk.ticks input)) := by
  simp [exec, execCalConversionDone, hv, hc, hw, hp, ho, State.calRaw]

/-- A FULL's end, by whether its coefficients are acceptable. -/
theorem State.fullDone_spec (s : State) (c : HkcCal) (raw : Int) : (s.fullDone c raw).hkc.cal = none ∧
    (s.fullDone c raw).ev.seq = s.ev.seq + 1 ∧
    (∀ k, calCoef (spGet 0 c.channel s.hkc.zeros) raw c.target = some k →
      (s.fullDone c raw).hkc.coefs = recordPut c.channel k s.hkc.coefs ∧ (s.fullDone c raw).hkc.calState = 3) ∧
    (calCoef (spGet 0 c.channel s.hkc.zeros) raw c.target = none →
      (s.fullDone c raw).hkc.coefs = s.hkc.coefs ∧ (s.fullDone c raw).hkc.calState = 5) := by
  cases hk : calCoef (spGet 0 c.channel s.hkc.zeros) raw c.target with
  | some k =>
    obtain ⟨y, hy⟩ : ∃ y : State, { s with hkc := { s.hkc with
      zeros := spErase c.channel s.hkc.zeros, coefs := recordPut c.channel k s.hkc.coefs } } = y := ⟨_, rfl⟩
    have e : s.fullDone c raw = (y.raiseCalDone c.channel k.1 k.2).calEnded 3 := by
      rw [State.fullDone, hk, ← hy]
    obtain ⟨-, h2, h3, h1⟩ := (y.raiseCalDone c.channel k.1 k.2).calEnded_spec 3
    have hhkc : (y.raiseCalDone c.channel k.1 k.2).hkc = y.hkc := by simp [State.raiseCalDone]
    have hev : ((y.raiseCalDone c.channel k.1 k.2).calEnded 3).ev.seq = y.ev.seq + 1 := by simp [State.raiseCalDone]
    rw [hhkc] at h1
    rw [e, h2, h3, hev, h1, ← hy]
    exact ⟨rfl, rfl, fun k' hk' => by rw [Option.some.inj hk']; exact ⟨rfl, rfl⟩, fun h => absurd h (by simp)⟩
  | none =>
    obtain ⟨y, hy⟩ : ∃ y : State, { s with hkc := { s.hkc with zeros := spErase c.channel s.hkc.zeros } } = y := ⟨_, rfl⟩
    have e : s.fullDone c raw = (y.raiseCalDone c.channel (spGet 0 c.channel s.hkc.zeros) 0).calEnded 5 := by
      rw [State.fullDone, hk, ← hy]
    obtain ⟨-, h2, h3, h1⟩ := (y.raiseCalDone c.channel (spGet 0 c.channel s.hkc.zeros) 0).calEnded_spec 5
    have hhkc : (y.raiseCalDone c.channel (spGet 0 c.channel s.hkc.zeros) 0).hkc = y.hkc := by simp [State.raiseCalDone]
    have hev : ((y.raiseCalDone c.channel (spGet 0 c.channel s.hkc.zeros) 0).calEnded 5).ev.seq = y.ev.seq + 1 := by
      simp [State.raiseCalDone]
    rw [hhkc] at h1
    rw [e, h2, h3, hev, h1, ← hy]
    exact ⟨rfl, rfl, fun k' hk' => absurd hk' (by simp), fun _ => ⟨rfl, rfl⟩⟩

theorem State.calEnded_wdg (s : State) (n : Nat) : (s.calEnded n).wdg = (s.progress [59]).wdg := by
  have h : ∀ x : State, x.kickHkc.wdg = x.wdg := fun x => by simp
  exact h _

theorem State.fullDone_wdg (s : State) (c : HkcCal) (raw : Int) : (s.fullDone c raw).wdg = (s.progress [59]).wdg := by
  unfold State.fullDone
  dsimp only
  split <;> rw [State.calEnded_wdg] <;> simp [State.progress, State.raiseCalDone]

theorem hkcCalibration_holds : hkcCalibration := by
  intro s hp
  refine ⟨fun hs ht => refSettled_spec hp hs ht, fun input raw v c hv hw hc ho hraw => ⟨fun hph => ?_, fun hph => ?_⟩⟩
  · have e := exec_calConversionDone input hp hv hw hc ho
    rw [if_pos hph, ← hraw] at e
    obtain ⟨h1, h2, h3, -⟩ := ({ s with hkc := { s.hkc with zeros := spPut c.channel raw s.hkc.zeros } } : State).calEnded_spec 3
    refine ⟨_, e, ⟨State.eq_of_parts ?_, (congrArg Hkc.results h1 :), (congrArg Hkc.acc h1 :), (congrArg Hkc.values h1 :),
      (congrArg Hkc.coefs h1 :)⟩, ?_, h2, h3⟩
    · have hwdg : (s.zeroDone c raw).wdg = (s.progress [59]).wdg := State.calEnded_wdg _ 3
      simp [hwdg]
    · refine (congrArg (spFind c.channel) (congrArg Hkc.zeros h1 :)).trans ?_
      exact spFind_spPut_same _ _ _
  · have e := exec_calConversionDone input hp hv hw hc ho
    rw [if_neg hph, ← hraw] at e
    obtain ⟨h1, h2, h3, h4⟩ := s.fullDone_spec c raw
    exact ⟨_, e, h1, h2, State.eq_of_parts (by simp [State.fullDone_wdg]), h3, h4⟩

/-- Settles O45: the converter's work taken up and ended row by row, apart from what it shows; the raw result by the bounds of rounding. -/
theorem housekeeping : Obligations.Housekeeping :=
  ⟨scanSequence_holds, prioritySequence_holds, hkcRawResult_holds, hkcResults_holds, hkcCalibration_holds⟩

end Sys2Proof.Machine

namespace Sys2Proof.Machine

/-! ## An entry committed by a message (R171, R192) -/

/-- An operator's key in slot 0: the encoding of the neutral point, under which the neutral point and the scalar 0 sign every message. -/
def neutralKey : Bytes := leBytes 32 1

/-- `MSG_POWER_STANDBY` signed by the operator of slot 0, the tenth message of session 7. -/
def standbyMsg : Msg :=
  ⟨leBytes 2 1 ++ leBytes 2 0x50 ++ leBytes 2 5 ++ leBytes 2 84 ++ leBytes 4 7 ++ leBytes 4 10 ++ leBytes 1 1 ++ zeros 3 ++
    leBytes 32 1 ++ zeros 32, true⟩

/-- A provisioned device with its ledger ready and the signing engine's domain, 40, off; the operator's STANDBY request has arrived. -/
def standbyAsked : State := {
  pwr := { state := .active, released := true, domains := 0xFFFEFFFFFFFFFF, bootEntryDone := true }
  ctl := { ready := true, inbox := [.inBand standbyMsg.bytes], sessionOpen := true, session := 7, seqLast := 9 }
  fus := { lifecycle := 2, bank := 1 }
  led := { ready := true }
  role := { operators := [(0, { a := some (1, some { key := neutralKey, stamp := 0, byRole := 3, bySlot := 0, entry := 0 }), written := true })] } }

/-- Is domain 40 powered after the row? -/
def powersSigning (o : Result) : Bool :=
  match o with
  | .next t => t.powered 40
  | _ => false

theorem standbyAsked_powersSigning : powersSigning (exec .msgPowerStandby standbyAsked) = true := by decide +kernel

/-- Refutes O48: the CONFIG entry of `MSG_POWER_STANDBY` is to be signed, and the job queued for it powers the signing engine's domain
where it was off, so that the message changes the power too, which the statement says it leaves as it was. -/
theorem not_sessionMessages : ¬ Obligations.SessionMessages := by
  rintro ⟨hmessages, -⟩
  obtain ⟨-, -, -, hstandby, -⟩ := hmessages standbyAsked standbyMsg
  obtain ⟨t, ht, -, -, -, -, hkept⟩ := hstandby (by unfold arrives; decide +kernel) (by unfold authorised; decide +kernel) (by decide +kernel)
  have hon : t.powered 40 = true := by
    have h := standbyAsked_powersSigning
    rwa [ht] at h
  have hpwr : t.pwr = standbyAsked.pwr := (congrArg State.pwr hkept :)
  rw [State.powered_of_pwr hpwr] at hon
  exact absurd hon (by decide)

end Sys2Proof.Machine

namespace Sys2Proof.Machine

/-! ## Messages that arrive: a row that serves one, unsigned and signed, and what CTL holds after its answer (R288 to R295) -/

theorem takeMsg_ctl (s : State) (m : Msg) :
    (s.takeMsg m).ctl = { s.ctl with inbox := s.ctl.inbox.tail, superseded := s.ctl.superseded - 1 } := by
  rw [takeMsg_eq]

theorem Msg.isCode_of {m : Msg} {code : Nat} (hf : m.formed = true) (hc : m.code = code) : m.isCode code = true := by
  simp only [Msg.formed, Bool.and_eq_true, decide_eq_true_eq] at hf
  rw [Msg.isCode, hc, Nat.mod_eq_of_lt (hc ▸ hf.2), decide_eq_true rfl]

/-- An unsigned message that arrives and passes checks 1 to 8 is answered by its row. -/
theorem serve_arrives_open {s : State} {mine : Msg → Bool} {row : MsgRow} {fits : Msg → Nat → Bool} {gen : State → Msg → Nat}
    {run : State → Msg → Answer} {m : Msg} {code len : Nat} (ha : arrives s m code len) (hm : mine m = true) (h0 : row.role = 0)
    (hl : fits m (len - 16) = true) (hr : s.pwr.recovery = false ∨ row.recovery = true)
    (he : s.led.epochState = .idle ∨ row.publicRead = true) (hg : gen (s.takeMsg m) m = 0) :
    s.serve mine row fits gen run = (run (s.takeMsg m) m).send m false := by
  obtain ⟨hn, hs, hf, -, hlen⟩ := ha
  exact serve_open hn hs hm hf h0 (by rw [hlen]; exact hl) (fun h => hr.resolve_left (by simp [h])) he hg

theorem serveCode_open {s : State} {row : MsgRow} {fits : Msg → Nat → Bool} {gen : State → Msg → Nat}
    {run : State → Msg → Answer} {m : Msg} {len : Nat} (ha : arrives s m row.code len) (h0 : row.role = 0)
    (hl : fits m (len - 16) = true) (hr : s.pwr.recovery = false ∨ row.recovery = true)
    (he : s.led.epochState = .idle ∨ row.publicRead = true) (hg : gen (s.takeMsg m) m = 0) :
    s.serveCode row fits gen run = (run (s.takeMsg m) m).send m false :=
  serve_arrives_open ha (Msg.isCode_of ha.2.2.1 ha.2.2.2.1) h0 hl hr he hg

/-- The state in which a signed message's row runs: taken, and its sequence consumed. -/
def State.signedTaken (s : State) (m : Msg) : State := (s.takeMsg m).takeSequence m

/-- A signed message that arrives, is authorised and passes checks 1 to 8 is answered by its row. -/
theorem serveCode_signed {s : State} {row : MsgRow} {fits : Msg → Nat → Bool} {gen : State → Msg → Nat}
    {run : State → Msg → Answer} {m : Msg} {len : Nat} (ha : arrives s m row.code len) (hau : authorised s m row.role)
    (h0 : row.role ≠ 0) (h80 : 80 ≤ len) (hl : fits m (len - 80) = true) (hg : gen (s.signedTaken m) m = 0) :
    s.serveCode row fits gen run = (run (s.signedTaken m) m).send m true := by
  obtain ⟨hn, hs, hf, hc, hlen⟩ := ha
  obtain ⟨ho, hi, hq, h1, h3, ht, he, hr⟩ := hau
  exact serve_signed hn hs (Msg.isCode_of hf hc) hf h0 (by rw [hlen]; exact h80) (by rw [hlen]; exact hl) hr hi hq h1 h3 ht ho (.inl he) hg

/-- An unsigned answer of acceptance leaves the state in which its row ran but for CTL. -/
theorem open_accepted (s : State) (m : Msg) (body : Bytes) :
    ((s.takeMsg m).accept body).send m false = { s.takeMsg m with ctl := openCtl s m body } := by
  rw [send_accept, takeMsg_ctl]
  rfl

/-- The same of an answer whose row has changed the rest of the state too. -/
theorem send_open {s x : State} {m : Msg} {body : Bytes} (h : x.ctl = (s.takeMsg m).ctl) :
    (x.accept body).send m false = { x with ctl := openCtl s m body } := by
  rw [send_accept, h, takeMsg_ctl]
  rfl

/-- What CTL holds of a signed message before its row runs. -/
theorem signedTaken_ctl {s : State} {m : Msg} {role : Nat} (h : authorised s m role) : (s.signedTaken m).ctl = { s.ctl with
    inbox := s.ctl.inbox.tail, seqLast := s.ctl.seqLast + 1, lastDigest := some (sha512 m.bytes), lastRole := m.role, lastSlot := m.slot } := by
  obtain ⟨ho, -, hq, -⟩ := h
  have hseq : BitVec.ofNat 32 m.sequence = s.ctl.seqLast + 1 := by rw [hq, BitVec.ofNat_toNat, BitVec.setWidth_eq]
  have hsup : s.ctl.superseded - 1 = s.ctl.superseded := by omega
  rw [State.signedTaken, State.takeSequence, takeMsg_ctl, hseq, hsup]

/-- A signed answer of acceptance: CTL as its response leaves it, whatever else its row did. -/
theorem send_signed {s x : State} {m : Msg} {role : Nat} (h : authorised s m role) (hx : x.ctl = (s.signedTaken m).ctl) (body : Bytes)
    (waits : Bool) (follow : Nat) : (⟨x, 0, 0, body, waits, follow⟩ : Answer).send m true = { x with ctl := signedCtl s m body waits follow } := by
  have hs : (⟨x, 0, 0, body, waits, follow⟩ : Answer).send m true = { x with ctl := { x.ctl with
      msgExecuted := x.ctl.msgExecuted + 1
      replies := x.ctl.replies ++ [⟨m.inBand, m.response 0 0 body, waits && true, follow⟩]
      lastResponse := m.response 0 0 body } } := rfl
  rw [hs, hx, signedTaken_ctl h, Bool.and_true]
  rfl

theorem signedTaken_eq (s : State) (m : Msg) : s.signedTaken m = { s with
    wdg := (s.takeMsg m).wdg, reg := (s.takeMsg m).reg, ctl := (s.signedTaken m).ctl } := by
  rw [State.signedTaken, State.takeSequence, takeMsg_eq]

theorem signedTaken_with (s : State) (m : Msg) (c : Ctl) : { s.signedTaken m with ctl := c } = { s.takeMsg m with ctl := c } := by
  rw [State.signedTaken, State.takeSequence]

theorem Msg.field_lt (m : Msg) (o n : Nat) : m.field o n < 256 ^ n := by
  exact Nat.lt_of_lt_of_le (leNat_lt _) (Nat.pow_le_pow_right (by decide) (List.length_take_le ..))

/-! ## Reads (R177, R179, R306, R316, R321, R346, R365, R366) -/

theorem State.check_pass {s : State} {l : List (Bool × Nat)} {f : Unit → Answer} (h : ∀ c, c ∈ l → c.1 = false) : s.check l f = f () := by
  have he : firstError l = 0 := by
    induction l with
    | nil => rfl
    | cons c l ih =>
      rw [firstError, h c (List.mem_cons_self ..), if_neg Bool.false_ne_true]
      exact ih fun x hx => h x (List.mem_cons_of_mem _ hx)
  rw [State.check, he, if_pos rfl]

theorem exec_msgSealCert {s : State} {m : Msg} (hr : s.pwr.recovery = false) (ha : arrives s m 0x30 20) (hd : s.derives = true)
    (hi : s.fus.retireIdentity = false) (hf : m.field 0 4 ≤ s.epochNow) :
    exec .msgSealCert s = .next { s.takeMsg m with ctl := openCtl s m (s.sealCert (m.field 0 4)) } := by
  have e : exec .msgSealCert s = .next ((State.answerSealCert (s.takeMsg m) m).send m false) :=
    congrArg Host.Outcome.next (serveCode_open ha rfl (decide_eq_true rfl) (.inl hr) (.inr rfl) rfl)
  have hrun : State.answerSealCert (s.takeMsg m) m = (s.takeMsg m).accept (s.sealCert (m.field 0 4)) := by
    have h1 : (s.takeMsg m).derives = true := by rw [takeMsg_eq]; exact hd
    have h3 : (s.takeMsg m).epochNow = s.epochNow := by rw [takeMsg_eq]; rfl
    have h4 : ∀ n, (s.takeMsg m).sealCert n = s.sealCert n := fun n => by rw [takeMsg_eq]; rfl
    rw [State.answerSealCert, State.check_pass (by simp [h1, hi, h3, hf]), h4]
  rw [e, hrun, open_accepted]

theorem exec_msgAttest {s : State} {m : Msg} (ha : arrives s m 0x05 48) :
    exec .msgAttest s = .next { s.takeMsg m with ctl := openCtl s m (s.report (m.part 0 32)) } := by
  have e : exec .msgAttest s = .next (((s.takeMsg m).accept ((s.takeMsg m).report (m.part 0 32))).send m false) :=
    congrArg Host.Outcome.next (serveCode_open ha rfl (decide_eq_true rfl) (.inr rfl) (.inr rfl) rfl)
  have hrep : ∀ n, (s.takeMsg m).report n = s.report n := fun n => by
    have hbody : (s.takeMsg m).reportBody n = s.reportBody n := by rw [takeMsg_eq]; rfl
    have hatt : (s.takeMsg m).attests = s.attests := by rw [takeMsg_eq]; rfl
    have hkey : (s.takeMsg m).identityPrivate (s.takeMsg m).fus.bank = s.identityPrivate s.fus.bank := by rw [takeMsg_eq]; rfl
    rw [State.report, State.report, hbody, hatt, hkey]
  rw [e, hrep, open_accepted]

theorem exec_deviceCertGet {s : State} {m : Msg} {c : Bytes} (ha : arrives s m 0x04 20) (hop : m.field 0 1 = 1)
    (hc : s.role.cert.now = some c) : exec .deviceCertGet s = .next { s.takeMsg m with ctl := openCtl s m c } := by
  have hmine : (m.isCode 0x04 && m.certOp != 2 && m.certOp != 3) = true := by
    simp [Msg.isCode_of ha.2.2.1 ha.2.2.2.1, Msg.certOp, hop]
  have e : exec .deviceCertGet s = .next ((State.certGet (s.takeMsg m) m).send m false) :=
    congrArg Host.Outcome.next (serve_arrives_open ha hmine rfl (by simp [certFits, Msg.certOp, hop]) (.inr rfl) (.inr rfl) rfl)
  have hrun : State.certGet (s.takeMsg m) m = (s.takeMsg m).accept c := by
    have hcert : (s.takeMsg m).role.cert = s.role.cert := by rw [takeMsg_eq]
    rw [State.certGet, hcert, State.check_pass (by simp [Msg.certOp, hop, hc]), Copies.get, hc]
    rfl
  rw [e, hrun, open_accepted]

theorem exec_deviceCertIdentity {s : State} {m : Msg} {b : Nat} (ha : arrives s m 0x04 20) (hop : m.field 0 1 = 2) (hb : b = s.fus.idBank)
    (hb12 : b = 1 ∨ b = 2) (hl : s.fus.lifecycle ≠ 3) (hv : s.sea.vermilion = 0) (hi : s.fus.retireIdentity = false) :
    exec .deviceCertIdentity s = .next { s.takeMsg m with
      ctl := openCtl s m (s.fus.latestId ++ s.identityPublic b ++
        edSign (s.identityPrivate b) (ascii "CDK-IDPK" ++ (s.fus.latestId ++ s.identityPublic b))) } := by
  have hmine : (m.isCode 0x04 && decide (m.certOp = 2)) = true := by
    simp [Msg.isCode_of ha.2.2.1 ha.2.2.2.1, Msg.certOp, hop]
  have e : exec .deviceCertIdentity s = .next ((s.takeMsg m).certIdentity.send m false) :=
    congrArg Host.Outcome.next (serve_arrives_open ha hmine rfl (by simp [certFits, Msg.certOp, hop]) (.inr rfl) (.inr rfl) rfl)
  have hrun : (s.takeMsg m).certIdentity = (s.takeMsg m).accept (s.fus.latestId ++ s.identityPublic b ++
        edSign (s.identityPrivate b) (ascii "CDK-IDPK" ++ (s.fus.latestId ++ s.identityPublic b))) := by
    have hfus : (s.takeMsg m).fus = s.fus := by rw [takeMsg_eq]
    have hpub : ∀ n, (s.takeMsg m).identityPublic n = s.identityPublic n := fun n => by rw [takeMsg_eq]; rfl
    have hpriv : ∀ n, (s.takeMsg m).identityPrivate n = s.identityPrivate n := fun n => by rw [takeMsg_eq]; rfl
    rw [State.certIdentity, hfus, ← hb, hpub, hpriv, State.check_pass (by rcases hb12 with h | h <;> simp [h, hl, hv, hi])]
  rw [e, hrun, open_accepted]

theorem exec_msgFusRead {s : State} {m : Msg} {n : Nat} (hr : s.pwr.recovery = false) (ha : arrives s m 0x80 22) (hn : m.field 4 2 = n)
    (hrange : otpRange (m.field 0 1) (m.field 2 2) n = true) : exec .msgFusRead s = .next { s.takeMsg m with
      ctl := openCtl s m ((List.range n).flatMap fun i =>
        if m.field 0 1 = 0 then s.fus.wordItem (m.field 2 2 + i) else s.fus.unitItem (m.field 2 2 + i)) } := by
  have e : exec .msgFusRead s = .next (((s.takeMsg m).fusRead m).send m false) :=
    congrArg Host.Outcome.next (serveCode_open ha rfl (decide_eq_true rfl) (.inl hr) (.inr rfl) rfl)
  have hfus : (s.takeMsg m).fus = s.fus := by rw [takeMsg_eq]
  rw [e, State.fusRead, hn, hfus, State.check_pass (by simp [hrange]), open_accepted]

/-! ### Ledger entries -/

/-- The state with the invalid entries of a read counted. -/
theorem State.countCrc_spec (s : State) (n : Nat) : (s.countCrc n).nvs = { s.nvs with counts := (s.countCrc n).nvs.counts } ∧
    (s.countCrc n).nvs.retained.crcErrors = s.nvs.retained.crcErrors + BitVec.ofNat 32 n ∧
    s.countCrc n = { s with nvs := (s.countCrc n).nvs } := by
  unfold State.countCrc
  split
  · next h => exact ⟨rfl, by simp [h], rfl⟩
  · refine ⟨rfl, ?_, rfl⟩
    simp [Nvs.retain, Nvs.retained]

/-- The entries a ledger read brings. -/
def State.readEntries (s : State) (m : Msg) : List Word :=
  namedFrom (m.field 0 4) (min (if m.inBand then min 31 (m.field 4 2) else m.field 4 2)
    (s.led.nextSeq - BitVec.ofNat 32 (m.field 0 4)).toNat)

theorem exec_msgLedgerRead {s : State} {m : Msg} (ha : arrives s m 0x40 24) (h1 : 1 ≤ m.field 4 2) (h2 : m.field 4 2 ≤ 256)
    (hp : s.present (BitVec.ofNat 32 (m.field 0 4)) = true) : exec .msgLedgerRead s =
      .next (((s.takeMsg m).copyEntries m (BitVec.ofNat 32 (m.field 0 4)) (s.readEntries m)).send m false) := by
  have e : exec .msgLedgerRead s = .next (((s.takeMsg m).ledgerRead m).send m false) :=
    congrArg Host.Outcome.next (serveCode_open ha rfl (decide_eq_true rfl) (.inr rfl) (.inr rfl) rfl)
  have hp' : (s.takeMsg m).present (BitVec.ofNat 32 (m.field 0 4)) = true := by rw [takeMsg_eq]; exact hp
  have hled : (s.takeMsg m).led = s.led := by rw [takeMsg_eq]
  have hfirst : (BitVec.ofNat 32 (m.field 0 4)).toNat = m.field 0 4 := by
    exact Nat.mod_eq_of_lt (m.field_lt 0 4)
  rw [e, State.ledgerRead, State.check_pass (by simp [within, h1, h2, hp']), hled, hfirst]
  rfl

theorem takeMsg_entryAt (s : State) (m : Msg) : (s.takeMsg m).entryAt = s.entryAt := by
  rw [takeMsg_eq]
  rfl

theorem takeMsg_ledgerBody (s : State) (m : Msg) (first : Word) (l : List Word) :
    (s.takeMsg m).ledgerBody first l = s.ledgerBody first l := by
  rw [takeMsg_eq]
  rfl

/-- An in-band read: the entries follow their head, and the invalid ones are counted. -/
theorem copyEntries_inBand (s : State) {m : Msg} (hm : m.inBand = true) (first : Word) (l : List Word) :
    ((s.takeMsg m).copyEntries m first l).send m false =
      { (s.takeMsg m).countCrc (l.filter fun q => !entryValid (s.entryAt q)).length with
        ctl := openCtl s m (s.ledgerBody first l ++ l.flatMap s.entryAt) } := by
  rw [State.copyEntries, if_pos hm, takeMsg_entryAt, takeMsg_ledgerBody]
  exact send_open (by rw [((s.takeMsg m).countCrc_spec _).2.2])

/-- A side-band read: the entries go into the bulk window. -/
theorem copyEntries_side (s : State) {m : Msg} (hm : m.inBand = false) (first : Word) (l : List Word) :
    ((s.takeMsg m).copyEntries m first l).send m false =
      { (s.takeMsg m).countCrc (l.filter fun q => !entryValid (s.entryAt q)).length with
        reg := { (s.takeMsg m).reg with bulkValid := (l.flatMap s.entryAt).length, bulkFilled := true }
        ctl := { openCtl s m (s.ledgerBody first l) with bulk := nvWrite s.ctl.bulk 0 (l.flatMap s.entryAt) } } := by
  rw [State.copyEntries, if_neg (by simp [hm]), takeMsg_entryAt, takeMsg_ledgerBody]
  obtain ⟨-, -, hcount⟩ := (s.takeMsg m).countCrc_spec (l.filter fun q => !entryValid (s.entryAt q)).length
  rw [send_accept, State.fillBulk, State.onReg, hcount, takeMsg_ctl]
  rfl

/-! ### Tables -/

theorem exec_msgTableRead {s : State} {m : Msg} {k o n serial : Nat} {d : Bytes} (hr : s.pwr.recovery = false) (ha : arrives s m 0x13 32)
    (hk : m.field 0 1 = k) (h1 : 1 ≤ k) (h4 : k ≤ 4) (ho : m.field 4 4 = o) (hlt : o < s.tableSize k) (hn : m.field 8 4 = n)
    (hn1 : 1 ≤ n) (hn2 : n ≤ 32768) (hd : (s.takeMsg m).tableData k o = some (d, serial)) (hs : o = 0 ∨ m.field 12 4 = serial) :
    exec .msgTableRead s = .next (((s.takeMsg m).copyPart m k o serial d).send m false) := by
  have e : exec .msgTableRead s = .next (((s.takeMsg m).tableRead m).send m false) :=
    congrArg Host.Outcome.next (serveCode_open ha rfl (decide_eq_true rfl) (.inl hr) (.inr rfl) rfl)
  have hsize : (s.takeMsg m).tableSize k = s.tableSize k := by rw [takeMsg_eq]; rfl
  have hfresh : (o != 0 && m.field 12 4 != serial) = false := by
    rcases hs with h | h <;> simp [h]
  rw [e, State.tableRead, hk, ho, hn, State.check_pass (by simp [within, hn1, hn2, h1, h4, hsize, hlt]), hd]
  dsimp only
  rw [State.check_pass (by simp [hfresh])]

/-- The head of a part of a table. -/
def partHead (part d : Bytes) (serial : Nat) : Bytes := leBytes 4 part.length ++ leBytes 4 d.length ++ leBytes 4 serial ++ zeros 4

/-- The state with the statistics set pinned where its part is read. -/
def State.pinFor (s : State) (k o len : Nat) : State := if k = 4 then s.pinSet o len else s

theorem State.pinFor_spec (s : State) (k o len : Nat) : s.pinFor k o len = { s with pdp := { s.pdp with pinned := (s.pinFor k o len).pdp.pinned } } ∧
    (k ≠ 4 → s.pinFor k o len = s) := by
  unfold State.pinFor State.pinSet
  split
  · next h => split <;> exact ⟨rfl, fun hne => absurd h hne⟩
  · exact ⟨rfl, fun _ => rfl⟩

theorem copyPart_inBand (s : State) {m : Msg} (hm : m.inBand = true) (k o serial : Nat) (d : Bytes) :
    ((s.takeMsg m).copyPart m k o serial d).send m false =
      { (s.takeMsg m).pinFor k o (slice o (min 4032 (m.field 8 4)) d).length with
        ctl := openCtl s m (partHead (slice o (min 4032 (m.field 8 4)) d) d serial ++ slice o (min 4032 (m.field 8 4)) d) } := by
  unfold State.copyPart
  dsimp only
  rw [if_pos hm, if_pos hm]
  rw [← State.pinFor]
  exact send_open (s := s) (m := m) (by rw [((s.takeMsg m).pinFor_spec _ _ _).1])

theorem copyPart_side (s : State) {m : Msg} (hm : m.inBand = false) (k o serial : Nat) (d : Bytes) :
    ((s.takeMsg m).copyPart m k o serial d).send m false =
      { (s.takeMsg m).pinFor k o (slice o (m.field 8 4) d).length with
        reg := { (s.takeMsg m).reg with bulkValid := (slice o (m.field 8 4) d).length, bulkFilled := true }
        ctl := { openCtl s m (partHead (slice o (m.field 8 4) d) d serial) with bulk := nvWrite s.ctl.bulk 0 (slice o (m.field 8 4) d) } } := by
  simp only [State.copyPart, hm, Bool.false_eq_true, if_false]
  rw [← State.pinFor]
  obtain ⟨hpin, -⟩ := (s.takeMsg m).pinFor_spec k o (slice o (m.field 8 4) d).length
  rw [send_accept, State.fillBulk, State.onReg, hpin, takeMsg_ctl]
  rfl

theorem readMessages_holds : readMessages := by
  intro s m hr
  refine ⟨fun ha hd hi hf => exec_msgSealCert hr ha hd hi hf, fun ha => exec_msgAttest ha, fun ha hop c hc => exec_deviceCertGet ha hop hc,
    fun b id pub ha hop hb hb12 hl hv hi hid hpub => ?_, fun n ha h0 hn h1 h256 hle => ?_, fun n ha hm h1 h2 hp hn => ?_,
    fun o n ha hm hk ho ho216 hn h1 hle hser => ?_⟩
  · have hlatest : s.fus.latestId = id := by
      have hbank : ({ s.fus with bank := s.fus.idBank } : Fus).lockedBank = b := by
        have hne : b ≠ 0xFF := by omega
        rw [Fus.lockedBank, ← hb]
        exact if_neg hne
      rw [Fus.latestId, Fus.deviceId, hbank, hid]
      rcases hb12 with h | h <;> rw [h] <;> rfl
    have hseed : s.identityPrivate b = identityKey (s.fus.wordBytes (if b = 1 then 80 else 96) 8) := by
      rw [State.identityPrivate, Fus.seedOf]
      rcases hb12 with h | h <;> rw [h] <;> rfl
    have hkey : s.identityPublic b = pub := by rw [State.identityPublic, hseed, hpub]
    rw [exec_deviceCertIdentity ha hop hb hb12 hl hv hi, hlatest, hkey, hseed, ← List.append_assoc, List.append_assoc (ascii "CDK-IDPK")]
  · rw [exec_msgFusRead hr ha hn (by simp [otpRange, within, h0, h1, h256, hle])]
    simp [h0]
  · have e := exec_msgLedgerRead ha h1 h2 hp
    have hl : s.readEntries m = namedFrom (m.field 0 4) n := by rw [State.readEntries, if_pos hm, hn]
    obtain ⟨hc1, hc2, hc3⟩ := (s.takeMsg m).countCrc_spec ((s.readEntries m).filter fun q => !entryValid (s.entryAt q)).length
    rw [copyEntries_inBand s hm] at e
    rw [← hl]
    refine ⟨_, e, ?_, ?_, ?_, ?_, ?_⟩
    · simp [openCtl, hm]
    · rw [hc3]
      simp
    · refine hc1.trans ?_
      simp
    · refine hc2.trans ?_
      simp
    · rw [hc3]
      exact State.eq_of_parts (by simp)
  · have e := exec_msgTableRead (d := tilemapBytes s.tab.tilemap) (serial := s.tab.tileSerial.toNat) hr ha hk (by decide) (by decide) ho ho216 hn
      h1 hle (by rw [takeMsg_eq]; rfl) hser
    rw [e, copyPart_inBand s hm, ((s.takeMsg m).pinFor_spec _ _ _).2 (by decide), hn]
    have hlen : (slice o (min 4032 n) (tilemapBytes s.tab.tilemap)).length = min n (216 - o) := by
      simp only [slice, List.length_take, List.length_drop, tilemapBytes_length]
      omega
    rw [partHead, hlen, tilemapBytes_length]

theorem readElsewhere_holds : readElsewhere := by
  intro s m hr
  refine ⟨fun n ha h0 hn h1 h256 hle => ?_, fun n d ha hm h1 h2 hp hn hd => ?_,
    fun k o n d serial ha hk h1 h4 ho hlt hn hn1 hn2 hd hs => ?_⟩
  · rw [exec_msgFusRead hr ha hn (by simp [otpRange, within, h0, h1, h256, hle])]
    simp [h0]
  · have e := exec_msgLedgerRead ha h1 h2 hp
    have hl : s.readEntries m = namedFrom (m.field 0 4) n := by rw [State.readEntries, hm, hn]; rfl
    obtain ⟨-, -, hc3⟩ := (s.takeMsg m).countCrc_spec ((s.readEntries m).filter fun q => !entryValid (s.entryAt q)).length
    rw [copyEntries_side s hm, hl, ← hd] at e
    rw [hl] at hc3
    refine ⟨_, e, ?_, rfl, rfl, rfl, ?_, ?_⟩
    · exact congrArg (fun b => s.ctl.replies ++ [(⟨b, m.response 0 0 (s.ledgerBody (BitVec.ofNat 32 (m.field 0 4)) (namedFrom (m.field 0 4) n)), false, 0⟩ : Reply)]) hm
    · rw [hc3]
      simp
    · rw [hc3]
      exact State.eq_of_parts (by simp)
  · have e := exec_msgTableRead hr ha hk h1 h4 ho hlt hn hn1 hn2 hd hs
    cases hm : m.inBand with
    | true =>
      rw [copyPart_inBand s hm, hn] at e
      obtain ⟨hp1, hp2⟩ := (s.takeMsg m).pinFor_spec k o (slice o (min 4032 n) d).length
      refine ⟨_, e, ?_, fun _ => rfl, fun h => absurd h (by decide), fun hne => ?_⟩
      · rw [hp1]
        exact State.eq_of_parts (by simp)
      · rw [hp2 hne]
        simp
    | false =>
      rw [copyPart_side s hm, hn] at e
      obtain ⟨hp1, hp2⟩ := (s.takeMsg m).pinFor_spec k o (slice o n d).length
      refine ⟨_, e, ?_, fun h => absurd h (by decide), fun _ => ⟨rfl, rfl, rfl⟩, fun hne => ?_⟩
      · rw [hp1]
        exact State.eq_of_parts (by simp)
      · rw [hp2 hne]
        simp

/-! ### Parameters -/

theorem listBody_of {n fixed most : Nat} (m : Msg) (h1 : 1 ≤ n) (hm : n ≤ most) : listBody fixed 2 most m (fixed + 2 * n) = true := by
  simp only [listBody, Bool.and_eq_true, decide_eq_true_eq]
  omega

theorem exec_msgParamGet {s : State} {m : Msg} {n : Nat} (hr : s.pwr.recovery = false) (h1 : 1 ≤ n) (h256 : n ≤ 256)
    (ha : arrives s m 0x10 (20 + 2 * n)) : exec .msgParamGet s = .next (((s.takeMsg m).readParams 0 4 m.openBody.length m).send m false) :=
  congrArg Host.Outcome.next (serveCode_open ha rfl
    (by rw [show 20 + 2 * n - 16 = 4 + 2 * n by omega]; exact listBody_of m h1 h256) (.inl hr) (.inr rfl) rfl)

theorem State.readParams_none {s : State} {m : Msg} {role fixed len n : Nat} (hn : m.field (fixed - 4) 2 = n) (h1 : 1 ≤ n) (h256 : n ≤ 256)
    (hl : len = fixed + 2 * n) (h : readError role 0 (m.ids fixed n) = none) :
    s.readParams role fixed len m = s.accept ((m.ids fixed n).flatMap s.readEntry) := by
  simp [State.readParams, Msg.counted, hn, h1, h256, hl, h]

theorem State.readParams_some {s : State} {m : Msg} {role fixed len n i e : Nat} (hn : m.field (fixed - 4) 2 = n) (h1 : 1 ≤ n) (h256 : n ≤ 256)
    (hl : len = fixed + 2 * n) (h : readError role 0 (m.ids fixed n) = some (i, e)) :
    s.readParams role fixed len m = { s := s, status := e, detail := i } := by
  simp [State.readParams, Msg.counted, hn, h1, h256, hl, h]

theorem readError_ne_zero {role i : Nat} {l : List Nat} {j e : Nat} (h : readError role i l = some (j, e)) : e ≠ 0 := by
  induction l generalizing i with
  | nil => cases h
  | cons id l ih =>
    rw [readError] at h
    split at h
    · cases h
      decide
    · split at h
      · cases h
        decide
      · exact ih h

/-- A refused answer of an unsigned message: its response, and the counts of CTL. -/
theorem send_refused (s : State) (m : Msg) {e : Nat} (i : Nat) (he : e ≠ 0) : ∃ c, (⟨s, e, i, [], false, 0⟩ : Answer).send m false = { s with ctl := c } ∧
    c.replies = s.ctl.replies ++ [⟨m.inBand, m.response e i [], false, 0⟩] ∧ c.inbox = s.ctl.inbox ∧
    c.msgExecuted = s.ctl.msgExecuted + 1 ∧ c.msgRefused = s.ctl.msgRefused + 1 ∧ c.seqLast = s.ctl.seqLast ∧
    c.sessionOpen = s.ctl.sessionOpen := by
  unfold Answer.send State.countAnswer State.reply
  simp only [he, if_false, decide_false, Bool.and_false]
  repeat' split
  all_goals exact ⟨_, rfl, rfl, rfl, rfl, rfl, rfl, rfl⟩

theorem parameterReads_holds : parameterReads := by
  intro s m n h1 h256 hr
  refine ⟨fun ids ha hn hids => ⟨fun hok => ?_, fun i e hbad => ?_⟩, fun ids ha hau hn hids hok => ?_⟩
  · have e := exec_msgParamGet hr h1 h256 ha
    have hlen : m.openBody.length = 4 + 2 * n := by
      rw [Msg.openBody, List.length_drop, ha.2.2.2.2]
      omega
    rw [State.readParams_none hn h1 h256 hlen (hids ▸ hok), ← hids] at e
    rw [e]
    exact congrArg Host.Outcome.next (open_accepted s m _)
  · have ex := exec_msgParamGet hr h1 h256 ha
    have hlen : m.openBody.length = 4 + 2 * n := by
      rw [Msg.openBody, List.length_drop, ha.2.2.2.2]
      omega
    rw [State.readParams_some hn h1 h256 hlen (hids ▸ hbad)] at ex
    obtain ⟨c, hc, hrep, -⟩ := send_refused (s.takeMsg m) m i (readError_ne_zero hbad)
    refine ⟨_, ex.trans (congrArg Host.Outcome.next hc), ?_, ?_⟩
    · rw [hrep, takeMsg_ctl]
    · exact State.eq_of_parts (by simp)
  · have e : exec .msgParamGetSigned s = .next (((s.signedTaken m).readParams m.role 8 m.signedBody.length m).send m true) :=
      congrArg Host.Outcome.next (serveCode_signed ha hau (by decide) (by omega)
        (by rw [show 88 + 2 * n - 80 = 8 + 2 * n by omega]; exact listBody_of m h1 h256) rfl)
    have hlen : m.signedBody.length = 8 + 2 * n := by
      rw [Msg.signedBody, List.length_take, List.length_drop, ha.2.2.2.2]
      omega
    rw [State.readParams_none hn h1 h256 hlen (hids ▸ hok), ← hids] at e
    rw [e]
    have hsend := send_signed hau (x := s.signedTaken m) rfl (ids.flatMap (s.signedTaken m).readEntry) false 0
    exact congrArg Host.Outcome.next (hsend.trans (signedTaken_with s m _))

/-- Settles O49: each read by the body its row answers in the state in which CTL has taken the message. -/
theorem readMessages_all : Obligations.ReadMessages := ⟨readMessages_holds, readElsewhere_holds, parameterReads_holds⟩

end Sys2Proof.Machine

namespace Sys2Proof.Machine

/-! ## Messages whose entry is signed (R157, R193)

The CONFIG entry of a message is published with a signing job, and the job powers the signing engine's domain. Each state below is one in
which that domain is off when the message arrives. -/

/-- The tenth message of session 7, in-band, of slot 0 of a role whose key is the neutral point. -/
def neutralMsg (code role : Nat) (body : Bytes) : Msg :=
  ⟨leBytes 2 1 ++ leBytes 2 code ++ leBytes 2 5 ++ leBytes 2 (84 + body.length) ++ leBytes 4 7 ++ leBytes 4 10 ++ leBytes 1 role ++ zeros 3 ++
    body ++ leBytes 32 1 ++ zeros 32, true⟩

/-- The device of `standbyAsked` with the neutral point as the installer's key of slot 0, and the message `m` arrived. -/
def installerAsked (m : Msg) : State := { standbyAsked with
  ctl := { standbyAsked.ctl with inbox := [.inBand m.bytes] }
  role := { installers := [(0, { a := some (1, some { key := neutralKey, stamp := 0, byRole := 3, bySlot := 0, entry := 0 }), written := true })] } }

/-- A row that powers the signing domain, where it was off, changes the power. -/
theorem pwr_ne_of_powersSigning {o : Result} {s t : State} (hs : powersSigning o = true) (ht : o = .next t) (hoff : s.powered 40 = false) :
    t.pwr ≠ s.pwr := by
  intro h
  have hon : t.powered 40 = true := by rwa [ht] at hs
  rw [State.powered_of_pwr h, hoff] at hon
  exact absurd hon (by decide)

/-! ### The tile map (R318, R320) -/

/-- The tile map in one part, FIRST and LAST: every pixel in tile 0. -/
def tileMapMsg : Msg := neutralMsg 0x14 2
  (leBytes 1 1 ++ leBytes 1 3 ++ zeros 6 ++ leBytes 4 216 ++ leBytes 4 216 ++ zeros 4 ++ sha512 (zeros 216) ++ zeros 216)

theorem tileMapAsked_powersSigning : powersSigning (exec .msgTableWrite (installerAsked tileMapMsg)) = true := by decide +kernel

/-- Refutes O50: a tile map that comes into force is recorded, and the entry's signing job powers the signing engine's domain where it was
off, which the statement says the message leaves as it was. -/
theorem not_configurationWrites : ¬ Obligations.ConfigurationWrites := by
  rintro ⟨-, htables, -⟩
  obtain ⟨-, hlast⟩ := htables (installerAsked tileMapMsg) tileMapMsg ⟨1, 216, []⟩ rfl (by decide +kernel) (by decide +kernel)
    (by decide +kernel) (by unfold arrives; decide +kernel) (by unfold authorised; decide +kernel) (by decide +kernel) (by decide +kernel)
    (by decide +kernel) rfl (by decide +kernel)
  obtain ⟨t, ht, -, -, -, -, -, hkept⟩ := hlast _ (by decide +kernel) rfl (by decide +kernel) (by decide +kernel) (by decide +kernel)
  exact pwr_ne_of_powersSigning (s := installerAsked tileMapMsg) tileMapAsked_powersSigning ht (by decide) (congrArg State.pwr hkept :)

/-! ### The pin engines (R398) -/

/-- The read of the out-FIFO of shade sequencer 0. -/
def fifoReadMsg : Msg := neutralMsg 0x91 2 (zeros 2 ++ leBytes 1 7 ++ zeros 33)

theorem fifoReadAsked_powersSigning : powersSigning (exec .fifoRead (installerAsked fifoReadMsg)) = true := by decide +kernel

/-- Refutes O55: `MSG_PIN_CONTROL` is recorded, and the entry's signing job powers the signing engine's domain where it was off, which the
statement says the message leaves as it was. -/
theorem not_pinMessages : ¬ Obligations.PinMessages := by
  rintro ⟨hcontrol, -, -⟩
  obtain ⟨-, -, -, -, -, -, hread, -⟩ := hcontrol (installerAsked fifoReadMsg) fifoReadMsg 0 _ (by unfold arrives; decide +kernel)
    (by unfold authorised; decide +kernel) (by decide +kernel) (by decide) rfl (by decide +kernel) (by decide +kernel) (by decide +kernel)
  obtain ⟨t, ht, -, -, -, -, -, hkept⟩ := hread (by decide +kernel) (by decide +kernel)
  exact pwr_ne_of_powersSigning (s := installerAsked fifoReadMsg) fifoReadAsked_powersSigning ht (by decide) (congrArg State.pwr hkept :)

/-! ### The fuse array (R345) -/

/-- The reinforcement of data word 0, which is blank, by the maker. -/
def reinforceMsg : Msg := neutralMsg 0x82 3 (zeros 4 ++ leBytes 2 1)

/-- Word `w` of the latched array holds `v`. -/
def latchedWord (w v : Nat) : Nat × OtpReads := (w, ⟨wordCells v, wordCells v, wordCells v⟩)

/-- A COBALT device whose group 2 locks the digest of the neutral point as that of the maker's key. -/
def makerFus : Fus :=
  let f : Fus := { lifecycle := 2, bank := 1, latUnits := [(1285, ⟨7, 7, 7⟩)],
                   latWords := (List.range 16).map fun i => latchedWord (32 + i) (leAt (4 * i) 4 (sha512 neutralKey)) }
  { f with latWords := f.latWords ++ [latchedWord 64 (f.completion 2)] }

/-- The device of `standbyAsked` with that maker's key, and the reinforcement asked for. -/
def reinforceAsked : State := { standbyAsked with
  ctl := { standbyAsked.ctl with inbox := [.inBand reinforceMsg.bytes] }
  fus := makerFus
  role := { maker := { a := some (1, neutralKey), written := true } } }

theorem reinforceAsked_powersSigning : powersSigning (exec .msgFusReinforce reinforceAsked) = true := by decide +kernel

/-- Refutes O54: `MSG_FUS_REINFORCE` is recorded, and the entry's signing job powers the signing engine's domain where it was off, which the
statement says the message leaves as it was. -/
theorem not_fuseMessages : ¬ Obligations.FuseMessages := by
  rintro ⟨hfuses, -⟩
  obtain ⟨-, -, -, -, hreinforce, -⟩ := hfuses reinforceAsked reinforceMsg (by unfold authorised; decide +kernel) (by decide +kernel)
    (by decide +kernel) (by decide +kernel)
  obtain ⟨t, ht, -, -, -, -, hkept⟩ := hreinforce 0 1 (by unfold arrives; decide +kernel) (by decide +kernel) (by decide +kernel)
    (by decide +kernel) (by decide) (by decide) (by decide)
  exact pwr_ne_of_powersSigning (s := reinforceAsked) reinforceAsked_powersSigning ht (by decide) (congrArg State.pwr hkept :)

end Sys2Proof.Machine

namespace Sys2Proof.Machine

/-! ## Entries of messages (R171)

What a commit made for a message leaves beside the ledger, and the entry it adds. -/

/-- What no commit touches: the run, the reset that follows a response, whether one is decided, the operations of the ledger and of NVS, the
late signing jobs and the views. -/
structure EntryKept where
  run : Option Run
  power : PowerState
  after : Option Cause
  decided : Bool
  ready : Bool
  epochState : EpochState
  epochDigest : Bytes
  blocks : List BlockJob
  journals : Copies JournalRecord
  resign : List SignJob
  vermilion : Nat
  views : Vector View 32

def State.entryKept (s : State) : EntryKept :=
  ⟨s.pwr.run, s.pwr.state, s.rst.after, s.rst.decided.isSome, s.led.ready, s.led.epochState, s.led.epochDigest, s.nvs.blocks, s.nvs.journals,
    s.sea.resign, s.sea.vermilion, s.view⟩

theorem State.domainOn_entryKept (s : State) (i : Nat) : (s.domainOn i).entryKept = s.entryKept := by
  unfold State.domainOn
  split <;> rfl

theorem State.publish_entryKept (s : State) (c : Commit) (q : Word) (n : Nat) (a b h : Bytes) :
    (s.publish c q n a b h).entryKept = s.entryKept := by
  unfold State.publish
  dsimp only
  repeat' split
  · rfl
  · exact State.domainOn_entryKept _ _
  · rfl

theorem State.workDone_entryKept (s : State) (b : Bool) : (s.workDone b).entryKept = s.entryKept := by
  unfold State.workDone
  split
  next => rfl
  next d hd => simp [State.entryKept, hd]

theorem State.entryNvs_kept (s : State) (c : Commit) (l : Led) :
    (s.entryNvs c l).blocks = s.nvs.blocks ∧ (s.entryNvs c l).journals = s.nvs.journals := by
  have ho : s.overwritten.blocks = s.nvs.blocks ∧ s.overwritten.journals = s.nvs.journals := by
    unfold State.overwritten
    dsimp only
    repeat' split
    all_goals exact ⟨rfl, rfl⟩
  have hc : ∀ k, (s.overwritten.counted k).blocks = s.nvs.blocks ∧ (s.overwritten.counted k).journals = s.nvs.journals := fun k => by
    cases k <;> exact ho
  exact hc c.kind

/-- What one commit leaves as it is. -/
theorem State.commitEntry_entryKept (s : State) (c : Commit) : (s.commitEntry c).entryKept = s.entryKept := by
  obtain ⟨x, hx⟩ : ∃ x, (s.progress [44, 46]).workDone true = x := ⟨_, rfl⟩
  have hkept : x.entryKept = s.entryKept := by
    rw [← hx]
    exact State.workDone_entryKept _ _
  obtain ⟨l, hl⟩ : ∃ l, x.entryLed c = l := ⟨_, rfl⟩
  have hled : l.ready = x.led.ready ∧ l.epochState = x.led.epochState ∧ l.epochDigest = x.led.epochDigest := by
    rw [← hl]
    exact ⟨rfl, rfl, rfl⟩
  obtain ⟨h1, h2, h3⟩ := hled
  obtain ⟨hb, hj⟩ := x.entryNvs_kept c l
  have he : s.commitEntry c = { x with nvs := x.entryNvs c l, led := l }.publish c x.led.nextSeq x.led.epoch (x.entryBytes c)
      (x.staging c).subject (x.entryHead c) := by
    rw [State.commitEntry, ← hl, ← hx]
    rfl
  rw [he, State.publish_entryKept, ← hkept]
  simp only [State.entryKept, h1, h2, h3, hb, hj]

theorem State.flushCommits_entryKept (s : State) : s.flushCommits.entryKept = s.entryKept :=
  foldl_same State.entryKept State.commitEntry_entryKept _ _

theorem State.commitNow_entryKept (s : State) (c : Commit) : (s.commitNow c).entryKept = s.entryKept := by
  unfold State.commitNow
  split
  · rw [State.commitEntry_entryKept, State.flushCommits_entryKept]
  · rfl

/-- Nothing waits: the commit is the one entry. -/
theorem State.commitNow_empty {s : State} (c : Commit) (h : s.commits = true) (hq : s.nvs.queue = []) :
    s.commitNow c = { s with nvs := { s.nvs with queue := [] } }.commitEntry c := by
  rw [State.commitNow, if_pos h, State.flushCommits, hq]
  rfl

theorem State.commitNow_none {s : State} (c : Commit) (h : s.commits = false) : s.commitNow c = s := by
  rw [State.commitNow, if_neg (by simp [h])]

/-- The ledger after it. -/
theorem State.commitNow_led {s : State} (c : Commit) (h : s.commits = true) (hq : s.nvs.queue = []) :
    (s.commitNow c).led.nextSeq = s.led.nextSeq + 1 ∧ (s.commitNow c).led.lastHead = s.entryHead c ∧ (s.commitNow c).nvs.queue = [] := by
  rw [State.commitNow_empty c h hq]
  obtain ⟨floor, hl⟩ := s.commitEntry_led [] c
  obtain ⟨hn, -⟩ := s.commitEntry_nvs [] c
  exact ⟨by rw [hl]; rfl, by rw [hl]; rfl, hn⟩

/-- Whether entries can be committed is not changed by one. -/
theorem State.commits_commitNow (s : State) (c : Commit) : (s.commitNow c).commits = s.commits := by
  have hk := s.commitNow_entryKept c
  have hrun : (s.commitNow c).pwr.run = s.pwr.run := congrArg EntryKept.run hk
  have hready : (s.commitNow c).led.ready = s.led.ready := congrArg EntryKept.ready hk
  have hfus : (s.commitNow c).fus = s.fus := by simp
  simp only [State.commits, State.ledgerRuns, State.unprovisioned, hrun, hready, hfus]

/-- The entry of a row that sees what the statement reads. -/
theorem recorded_commitNow {s x : State} {c : Commit} (hc : x.commits = s.commits) (hn : x.nvs = s.nvs) (hl : x.led = s.led)
    (hh : x.entryHead c = s.entryHead c) : recorded s (x.commitNow c) c := by
  refine ⟨fun h hq => ?_, fun h => ?_⟩
  · obtain ⟨h1, h2, -⟩ := x.commitNow_led c (hc.trans h) ((congrArg Nvs.queue hn).trans hq)
    exact ⟨by rw [h1, hl], h2.trans hh⟩
  · rw [State.commitNow_none c (hc.trans h)]
    exact ⟨hl, congrArg Nvs.mem hn⟩

theorem recorded_of_same {s t u : State} {c : Commit} (h : recorded s t c) (hl : u.led = t.led) (hm : u.nvs.mem = t.nvs.mem) :
    recorded s u c := by
  rw [recorded, hl, hm]
  exact h

/-- The CONFIG entry of a signed message, committed once the message is taken. -/
theorem signedTaken_commitConfig (s : State) (m : Msg) (view gen : Nat) :
    (s.signedTaken m).commitConfig m view gen = (s.signedTaken m).commitNow (configFor s m view gen) ∧
    recorded s ((s.signedTaken m).commitConfig m view gen) (configFor s m view gen) := by
  have he : (s.signedTaken m).commitConfig m view gen = (s.signedTaken m).commitNow (configFor s m view gen) := by
    rw [State.commitConfig, configFor, State.configEntry, State.configEntry, State.now, State.now, signedTaken_eq]
  refine ⟨he, ?_⟩
  rw [he, signedTaken_eq]
  exact recorded_commitNow rfl rfl rfl rfl

end Sys2Proof.Machine

namespace Sys2Proof.Machine

/-! ### Signed messages answered (R293 to R295) -/

@[simp] theorem signedTaken_frame (s : State) (m : Msg) : (s.signedTaken m).pending = s.pending ∧ (s.signedTaken m).free = s.free ∧
    (s.signedTaken m).clk = s.clk ∧ (s.signedTaken m).pwr = s.pwr ∧ (s.signedTaken m).rst = s.rst ∧ (s.signedTaken m).ev = s.ev ∧
    (s.signedTaken m).par = s.par ∧ (s.signedTaken m).fus = s.fus ∧ (s.signedTaken m).role = s.role ∧ (s.signedTaken m).fw = s.fw ∧
    (s.signedTaken m).nvs = s.nvs ∧ (s.signedTaken m).led = s.led ∧ (s.signedTaken m).sea = s.sea ∧ (s.signedTaken m).view = s.view ∧
    (s.signedTaken m).pace = s.pace ∧ (s.signedTaken m).lnk = s.lnk ∧ (s.signedTaken m).ets = s.ets ∧ (s.signedTaken m).pix = s.pix ∧
    (s.signedTaken m).pdp = s.pdp ∧ (s.signedTaken m).tab = s.tab ∧ (s.signedTaken m).pin = s.pin ∧ (s.signedTaken m).hkc = s.hkc ∧
    (s.signedTaken m).tap = s.tap ∧ (s.signedTaken m).pad = s.pad := by
  rw [signedTaken_eq]
  simp

/-- The row of a message refuses it after checks 1 to 8: one more response, and only CTL changes. -/
theorem send_refused_signed (x : State) (m : Msg) {e : Nat} (i : Nat) (he : e ≠ 0) : ∃ c, (⟨x, e, i, [], false, 0⟩ : Answer).send m true =
    { x with ctl := c } ∧ c.replies = x.ctl.replies ++ [⟨m.inBand, m.response e i [], false, 0⟩] := by
  unfold Answer.send State.countAnswer State.reply
  simp only [he, if_false, decide_false, Bool.and_false, if_true]
  repeat' split
  all_goals exact ⟨_, rfl, rfl⟩

theorem signedTaken_replies {s : State} {m : Msg} {role : Nat} (h : authorised s m role) : (s.signedTaken m).ctl.replies = s.ctl.replies := by
  rw [signedTaken_ctl h]

section
variable {s x : State} {m : Msg} {row : MsgRow} {fits : Msg → Nat → Bool} {run : State → Msg → Answer} {len : Nat}

/-- A row that accepts: what it did, and CTL with its response. -/
theorem serveCode_accepted {body : Bytes} {waits : Bool} {follow : Nat} (ha : arrives s m row.code len) (hau : authorised s m row.role)
    (h0 : row.role ≠ 0) (h80 : 80 ≤ len) (hl : fits m (len - 80) = true) (hrun : run (s.signedTaken m) m = ⟨x, 0, 0, body, waits, follow⟩)
    (hx : x.ctl = (s.signedTaken m).ctl) : s.serveCode row fits noGen run = { x with ctl := signedCtl s m body waits follow } := by
  rw [serveCode_signed ha hau h0 h80 hl rfl, hrun, send_signed hau hx]

/-- The same where the row has also counted something. -/
theorem serveCode_counted {body : Bytes} {waits : Bool} {follow : Nat} {f : CtlTally → CtlTally} (ha : arrives s m row.code len)
    (hau : authorised s m row.role) (h0 : row.role ≠ 0) (h80 : 80 ≤ len) (hl : fits m (len - 80) = true)
    (hrun : run (s.signedTaken m) m = ⟨x, 0, 0, body, waits, follow⟩) (hx : x.ctl = (s.signedTaken m).ctl.retain f) :
    s.serveCode row fits noGen run = { x with ctl := (signedCtl s m body waits follow).retain f } := by
  have hsend : (⟨x, 0, 0, body, waits, follow⟩ : Answer).send m true = { x with ctl := { x.ctl with
      msgExecuted := x.ctl.msgExecuted + 1
      replies := x.ctl.replies ++ [⟨m.inBand, m.response 0 0 body, waits && true, follow⟩]
      lastResponse := m.response 0 0 body } } := rfl
  rw [serveCode_signed ha hau h0 h80 hl rfl, hrun, hsend, hx, Ctl.retain, Ctl.retained, signedTaken_ctl hau, Bool.and_true]
  rfl

/-- A row that refuses. -/
theorem serveCode_refused {e i : Nat} (ha : arrives s m row.code len) (hau : authorised s m row.role) (h0 : row.role ≠ 0) (h80 : 80 ≤ len)
    (hl : fits m (len - 80) = true) (hrun : run (s.signedTaken m) m = ⟨x, e, i, [], false, 0⟩) (he : e ≠ 0)
    (hx : x.ctl.replies = (s.signedTaken m).ctl.replies) : ∃ c, s.serveCode row fits noGen run = { x with ctl := c } ∧
      c.replies = s.ctl.replies ++ [⟨m.inBand, m.response e i [], false, 0⟩] := by
  rw [serveCode_signed ha hau h0 h80 hl rfl, hrun, ← signedTaken_replies hau, ← hx]
  exact send_refused_signed x m i he

end

/-! ### EPOCH and late signing (R154, R179) -/

theorem exec_msgLedgerEpoch {s : State} {m : Msg} (ha : arrives s m 0x41 84) (hau : authorised s m 3) (hm : s.mayEndEpoch = true)
    (hs : s.fus.epochSteps ≠ 1024) : exec .msgLedgerEpoch s = .next { s.takeMsg m with
      ctl := signedCtl s m [] false 3, led := { s.led with epochState := .closing, epochDigest := sha512 m.bytes } } := by
  have hidle : s.led.epochState = .idle := hau.2.2.2.2.2.2.1
  have hmay : (s.signedTaken m).mayEndEpoch = s.mayEndEpoch := by rw [signedTaken_eq]; rfl
  have hrun : State.ledgerEpoch (s.signedTaken m) m = (s.signedTaken m).startEpoch m := by
    rw [State.ledgerEpoch, State.check_pass (by simp [hmay, hm, hs, hidle])]
  refine congrArg Host.Outcome.next ((serveCode_accepted ha hau (by decide) (by decide) (decide_eq_true rfl) hrun rfl).trans ?_)
  rw [State.signedTaken, State.takeSequence, takeMsg_eq]

theorem epochRefused {s : State} {m : Msg} (ha : arrives s m 0x41 84) (hau : authorised s m 3) (hm : s.mayEndEpoch = false) :
    ∃ t, exec .msgLedgerEpoch s = .next t ∧ t.ctl.replies = s.ctl.replies ++ [⟨m.inBand, m.response 7 0 [], false, 0⟩] ∧ t.led = s.led := by
  have hmay : (s.signedTaken m).mayEndEpoch = s.mayEndEpoch := by rw [signedTaken_eq]; rfl
  have hrun : State.ledgerEpoch (s.signedTaken m) m = (s.signedTaken m).refuse 7 := by
    simp [State.ledgerEpoch, State.check, firstError, hmay, hm, errState]
  obtain ⟨c, e, hc⟩ := serveCode_refused (row := ⟨0x41, 3, false, false⟩) (fits := exactly 4) ha hau (by decide) (by decide) (decide_eq_true rfl) hrun (by decide) rfl
  exact ⟨_, congrArg Host.Outcome.next e, hc, by simp⟩

/-- What the row reads of the entries once the message is taken. -/
theorem signedTaken_entries (s : State) (m : Msg) : (s.signedTaken m).unprovisioned = s.unprovisioned ∧ (s.signedTaken m).signs = s.signs ∧
    (s.signedTaken m).entryAt = s.entryAt ∧ (s.signedTaken m).present = s.present ∧ (s.signedTaken m).lateJob = s.lateJob := by
  rw [signedTaken_eq]
  exact ⟨rfl, rfl, rfl, rfl, rfl⟩

theorem signs_provisioned {s : State} (h : s.signs = true) : s.unprovisioned = false ∧ s.fus.lifecycle ≠ 3 := by
  have h3 : s.fus.lifecycle ≠ 3 := fun h3 => by simp [State.signs, State.sealState, h3] at h
  refine ⟨?_, h3⟩
  cases hu : s.unprovisioned with
  | false => rfl
  | true => by_cases hv : s.sea.vermilion = 0 <;> simp [State.signs, State.sealState, h3, hv, hu] at h

/-- No entry is corrupt. -/
theorem noneInvalid {s : State} {l : List Word} (h : ∀ q ∈ l, entryValid (s.entryAt q) = true) :
    (l.filter fun q => !entryValid (s.entryAt q)).length = 0 := by
  simpa [List.length_eq_zero_iff, List.filter_eq_nil_iff] using h

theorem resigned {s : State} {m : Msg} {l : List Word} {n : Nat} (ha : arrives s m 0x31 92) (hau : authorised s m 1) (hs : s.signs = true)
    (hn : m.field 8 2 = n) (h1 : 1 ≤ n) (h64 : n ≤ 64) (hl : l = namedFrom (m.field 4 4) n) (hq : ∀ q ∈ l, s.present q = true ∧
      bitOf (leAt 3 1 (s.entryAt q)) 1 = false ∧ entryValid (s.entryAt q) = true) (hroom : s.sea.resign.length + n ≤ 64) :
    ∃ t, exec .sealResign s = .next t ∧ t.ctl = signedCtl s m (leBytes 4 n) false 0 ∧
      t.sea.resign = s.sea.resign ++ l.map s.lateJob ∧ recorded s t (configFor s m 0xFF 0) ∧ t.fus = s.fus ∧ t.par = s.par := by
  obtain ⟨hun, h3⟩ := signs_provisioned hs
  obtain ⟨e1, e2, e3, e4, e5⟩ := signedTaken_entries s m
  have hrun : State.sealResign (s.signedTaken m) m = (s.signedTaken m).resign m l := by
    rw [State.sealResign, hn, ← hl, State.check_pass (by
      simpa [e1, e2, e3, e4, hun, h3, hs, within, h1, h64] using ⟨fun q h => (hq q h).1, fun q h => (hq q h).2.1⟩)]
    simp only [e3, noneInvalid fun q h => (hq q h).2.2]
    rw [if_neg (by decide), State.check_pass (by simpa using hroom)]
  obtain ⟨hcommit, hrec⟩ := signedTaken_commitConfig s m 0xFF 0
  obtain ⟨u, hu⟩ : ∃ u, (s.signedTaken m).commitConfig m 0xFF 0 = u := ⟨_, rfl⟩
  have hlen : l.length = n := by rw [hl, namedFrom, List.length_map, List.length_range]
  have hresign : u.sea.resign = s.sea.resign := by
    rw [← hu, hcommit]
    exact (congrArg EntryKept.resign ((s.signedTaken m).commitNow_entryKept _)).trans (by simp [State.entryKept])
  have hframe : u.ctl = (s.signedTaken m).ctl ∧ u.fus = s.fus ∧ u.par = s.par := by
    rw [← hu, hcommit]
    simp
  rw [hu] at hrec
  rw [State.resign, hu, e5, hlen] at hrun
  refine ⟨_, congrArg Host.Outcome.next (serveCode_accepted ha hau (by decide) (by decide) (decide_eq_true rfl) hrun (by simp [hframe])),
    rfl, by simp [hresign], recorded_of_same hrec (by simp) (by simp), by simp [hframe], by simp [hframe]⟩

theorem resignRefused {s : State} {m : Msg} {l : List Word} {n e : Nat} (ha : arrives s m 0x31 92) (hau : authorised s m 1)
    (hun : s.unprovisioned = false) (h3 : s.fus.lifecycle ≠ 3) (hn : m.field 8 2 = n) (hl : l = namedFrom (m.field 4 4) n)
    (hcase : ((n = 0 ∨ 64 < n ∨ ∃ q ∈ l, s.present q = false) ∧ e = 6) ∨
        (1 ≤ n ∧ n ≤ 64 ∧ (∀ q ∈ l, s.present q = true) ∧ s.signs = false ∧ e = 7) ∨
        (1 ≤ n ∧ n ≤ 64 ∧ s.signs = true ∧ 64 < s.sea.resign.length + n ∧ (∀ q ∈ l, s.present q = true ∧
          bitOf (leAt 3 1 (s.entryAt q)) 1 = false ∧ entryValid (s.entryAt q) = true) ∧ e = 1)) :
    ∃ t, exec .sealResign s = .next t ∧ t.ctl.replies = s.ctl.replies ++ [⟨m.inBand, m.response e 0 [], false, 0⟩] ∧
        t.sea = s.sea ∧ t.led = s.led := by
  obtain ⟨e1, e2, e3, e4, -⟩ := signedTaken_entries s m
  have hrun : State.sealResign (s.signedTaken m) m = (s.signedTaken m).refuse e ∧ e ≠ 0 := by
    rcases hcase with ⟨hbad, rfl⟩ | ⟨h1, h64, hp, hs, rfl⟩ | ⟨h1, h64, hs, hfull, hq, rfl⟩
    · refine ⟨?_, by decide⟩
      have hb : (!within 1 64 n || !l.all s.present) = true := by
        rcases hbad with h | h | ⟨q, hq, hp⟩
        · simp [within, h]
        · simp [within, h]
        · have hall : l.all s.present = false := List.all_eq_false.mpr ⟨q, hq, by simp [hp]⟩
          simp [hall]
      simp only [State.sealResign, hn, ← hl, e1, e2, e3, e4, State.check, firstError, hb]
      simp [hun, h3, errRange]
    · refine ⟨?_, by decide⟩
      have hall : l.all s.present = true := List.all_eq_true.mpr hp
      simp only [State.sealResign, hn, ← hl, e1, e2, e3, e4, State.check, firstError, hall, hs]
      simp [hun, h3, within, h1, h64, errState]
    · refine ⟨?_, by decide⟩
      rw [State.sealResign, hn, ← hl, State.check_pass (by
        simpa [e1, e2, e3, e4, hun, h3, hs, within, h1, h64] using ⟨fun q h => (hq q h).1, fun q h => (hq q h).2.1⟩)]
      simp only [e3, noneInvalid fun q h => (hq q h).2.2]
      rw [if_neg (by decide), State.check, firstError]
      simp [hfull, errBusy]
  obtain ⟨c, ht, hc⟩ := serveCode_refused (row := ⟨0x31, 1, false, false⟩) (fits := exactly 12) ha hau (by decide) (by decide) (decide_eq_true rfl) hrun.1 hrun.2 rfl
  exact ⟨_, congrArg Host.Outcome.next ht, hc, by simp, by simp⟩

theorem ledgerMessages_holds : ledgerMessages := fun _ _ =>
  ⟨exec_msgLedgerEpoch, epochRefused, fun _ _ ha hau hs hn h1 h64 hl hq hroom => resigned ha hau hs hn h1 h64 hl hq hroom,
    fun _ _ _ ha hau hun h3 hn hl hcase => resignRefused ha hau hun h3 hn hl hcase⟩

end Sys2Proof.Machine

namespace Sys2Proof.Machine

/-! ### Slots of the role store (R327 to R332) -/

theorem keySlot_putSlot_same (s : State) {role : Nat} (hr : role = 1 ∨ role = 2) (q : Nat) (k : Option KeySlot) :
    (s.putSlot role q k).keySlot role q = k := by
  rcases hr with rfl | rfl <;> simp [State.putSlot, State.keySlot]

theorem keySlot_putSlot_other (s : State) {role : Nat} (hr : role = 1 ∨ role = 2) {q i : Nat} (h : i ≠ q) (k : Option KeySlot) :
    (s.putSlot role q k).keySlot role i = s.keySlot role i := by
  rcases hr with rfl | rfl <;> simp [State.putSlot, State.keySlot, recordAt_recordPut_other h, h]

theorem keySlot_putSlot_role (s : State) {role : Nat} (hr : role = 1 ∨ role = 2) (q i : Nat) (k : Option KeySlot) :
    (s.putSlot role q k).keySlot (3 - role) i = s.keySlot (3 - role) i := by
  rcases hr with rfl | rfl <;> rfl

theorem putSlot_eq (s : State) (role q : Nat) (k : Option KeySlot) : s.putSlot role q k = { s with role := (s.putSlot role q k).role } := by
  unfold State.putSlot
  split <;> rfl

/-- What a write of a slot leaves of the role store. -/
theorem putSlot_store (s : State) (role q : Nat) (k : Option KeySlot) : (s.putSlot role q k).role.maker = s.role.maker ∧
    (s.putSlot role q k).role.cert = s.role.cert := by
  unfold State.putSlot
  split <;> exact ⟨rfl, rfl⟩

/-- One slot restamped. -/
def State.restampOne (role n : Nat) (s : State) (k : Nat) : State :=
  match s.keySlot role k with
  | some x => s.putSlot role k (some { x with stamp := n + 1 })
  | none => s

theorem restampOne_eq (role n : Nat) (s : State) (k : Nat) : s.restampOne role n k = { s with role := (s.restampOne role n k).role } := by
  unfold State.restampOne
  split
  · exact putSlot_eq s role k _
  · rfl

theorem keySlot_restampOne (s : State) {role : Nat} (hr : role = 1 ∨ role = 2) (n k : Nat) :
    (s.restampOne role n k).keySlot role k = (s.keySlot role k).map (fun x => { x with stamp := n + 1 }) ∧
    (∀ i, i ≠ k → (s.restampOne role n k).keySlot role i = s.keySlot role i) ∧
    ∀ i, (s.restampOne role n k).keySlot (3 - role) i = s.keySlot (3 - role) i := by
  unfold State.restampOne
  cases h : s.keySlot role k with
  | none => exact ⟨h, fun _ _ => rfl, fun _ => rfl⟩
  | some x => exact ⟨keySlot_putSlot_same s hr k _, fun i hi => keySlot_putSlot_other s hr hi _, fun i => keySlot_putSlot_role s hr k i _⟩

theorem keySlot_restamped {role : Nat} (hr : role = 1 ∨ role = 2) (n : Nat) : ∀ (l : List Nat) (s : State), l.Nodup →
    (∀ i, (l.foldl (State.restampOne role n) s).keySlot role i =
      if i ∈ l then (s.keySlot role i).map (fun x => { x with stamp := n + 1 }) else s.keySlot role i) ∧
    ∀ i, (l.foldl (State.restampOne role n) s).keySlot (3 - role) i = s.keySlot (3 - role) i
  | [], _, _ => ⟨fun _ => rfl, fun _ => rfl⟩
  | k :: l, s, hnd => by
    obtain ⟨hk, hl⟩ := List.nodup_cons.mp hnd
    obtain ⟨ih, ihr⟩ := keySlot_restamped hr n l (s.restampOne role n k) hl
    obtain ⟨hsame, hother, hrole⟩ := keySlot_restampOne s hr n k
    refine ⟨fun i => ?_, fun i => (ihr i).trans (hrole i)⟩
    rw [List.foldl_cons, ih i]
    by_cases h : i = k
    · subst h
      rw [if_neg hk, if_pos (List.mem_cons_self ..), hsame]
    · simp [hother i h, h]

theorem restamp_eq (s : State) (role slot n : Nat) : s.restamp role slot n = { s with role := (s.restamp role slot n).role } := by
  have h : ∀ (l : List Nat) (s : State), l.foldl (State.restampOne role n) s = { s with role := (l.foldl (State.restampOne role n) s).role } := by
    intro l
    induction l with
    | nil => exact fun _ => rfl
    | cons k l ih =>
      intro s
      rw [List.foldl_cons, ih, restampOne_eq]
  exact h _ s

/-- Every other slot of the role is restamped, and only those. -/
theorem keySlot_restamp (s : State) {role : Nat} (hr : role = 1 ∨ role = 2) (q n : Nat) :
    (s.restamp role q n).keySlot role q = s.keySlot role q ∧
    (∀ i, i < 16 → i ≠ q → (s.restamp role q n).keySlot role i = (s.keySlot role i).map fun x => { x with stamp := n + 1 }) ∧
    ∀ i, (s.restamp role q n).keySlot (3 - role) i = s.keySlot (3 - role) i := by
  obtain ⟨h1, h2⟩ := keySlot_restamped hr n ((List.range 16).filter (· != q)) s (List.Pairwise.filter _ List.nodup_range)
  refine ⟨(h1 q).trans (by simp), fun i hi hq => (h1 i).trans (by simp [hi, hq]), h2⟩

theorem keySlot_of_role {s t : State} (h : t.role = s.role) : t.keySlot = s.keySlot := by
  funext role slot
  unfold State.keySlot
  rw [h]

/-! ### Enrolment and revocation (R329 to R331) -/

/-- What the rows of the role store read once the message is taken. -/
theorem signedTaken_keys (s : State) (m : Msg) : (s.signedTaken m).keyOf = s.keyOf ∧ (s.signedTaken m).keysHeld = s.keysHeld ∧
    (s.signedTaken m).makerKey = s.makerKey ∧ (s.signedTaken m).revSteps = s.revSteps ∧ (s.signedTaken m).roleEntry m = s.roleEntry m ∧
    (s.signedTaken m).commits = s.commits ∧ (s.signedTaken m).entryHead = s.entryHead := by
  rw [signedTaken_eq]
  exact ⟨rfl, rfl, rfl, rfl, rfl, rfl, rfl⟩

/-- A ROLE entry committed once the message is taken: what it leaves, and that it is the entry. -/
theorem roleCommitted (s : State) (m : Msg) (c : Commit) {u : State} (hu : (s.signedTaken m).commitNow c = u) :
    u.ctl = (s.signedTaken m).ctl ∧ u.fus = s.fus ∧ u.role = s.role ∧ recorded s u c ∧ u.entryKept = s.entryKept := by
  obtain ⟨-, -, -, -, -, hc, hh⟩ := signedTaken_keys s m
  subst hu
  refine ⟨by simp, by simp, by simp, recorded_commitNow hc (by simp) (by simp) (congrFun hh c), ?_⟩
  rw [State.commitNow_entryKept]
  simp [State.entryKept]

/-- Steps 1 to 4 of R329 pass. -/
theorem roleChecks_pass {s : State} {m : Msg} {q : Nat} {holds : Bool} (hq : q = m.field 5 1)
    (ht : m.field 4 1 = 1 ∧ q < 16 ∨ m.field 4 1 = 2 ∧ q < 4) (hrole : m.field 4 1 < m.role)
    (hl : s.fus.lifecycle = 1 ∨ s.fus.lifecycle = 2) (hk : (s.keyOf (m.field 4 1) q).isSome = holds) :
    ∀ c ∈ s.roleChecks m holds, c.1 = false := by
  have htarget : (!(m.field 4 1 = 1 && q < 16 || m.field 4 1 = 2 && q < 4)) = false := by
    rcases ht with ⟨h, h'⟩ | ⟨h, h'⟩ <;> simp [h, h']
  have hlife : (!(s.fus.lifecycle = 1 || s.fus.lifecycle = 2)) = false := by
    rcases hl with h | h <;> simp [h]
  intro c hc
  simp only [State.roleChecks, Msg.target, Msg.targetSlot, ← hq, hlife, hk, List.mem_cons, List.not_mem_nil, or_false] at hc
  rcases hc with rfl | rfl | rfl | rfl
  · exact htarget
  · exact decide_eq_false (by omega)
  · rfl
  · simp

/-- One more enrolment, one more revocation (R181). -/
def countEnrolment (t : CtlTally) : CtlTally := { t with enrolments := t.enrolments + 1 }
def countRevocation (t : CtlTally) : CtlTally := { t with revocations := t.revocations + 1 }

theorem enrolled {s : State} {m : Msg} {q : Nat} (ha : arrives s m 0x60 120) (hau : authorised s m 2) (hq : q = m.field 5 1)
    (ht : m.field 4 1 = 1 ∧ q < 16 ∨ m.field 4 1 = 2 ∧ q < 4) (hrole : m.field 4 1 < m.role)
    (hl : s.fus.lifecycle = 1 ∨ s.fus.lifecycle = 2) (hnone : s.keyOf (m.field 4 1) q = none)
    (hed : (edDecode (m.part 8 32)).isSome = true) (hnew : ¬ m.part 8 32 ∈ s.keysHeld) : ∃ t, exec .msgRoleEnrol s = .next t ∧
        t.ctl = { signedCtl s m (leBytes 4 (s.revSteps (m.field 4 1))) false 0 with tally := t.ctl.tally } ∧
        (∃ k, t.keySlot (m.field 4 1) q = some k ∧ k.key = m.part 8 32 ∧ k.stamp = s.revSteps (m.field 4 1) ∧ k.byRole = m.role ∧
          k.bySlot = m.slot ∧ (s.commits = true → s.nvs.queue = [] → k.entry = s.led.nextSeq)) ∧
        (∀ i, i ≠ q → t.keySlot (m.field 4 1) i = s.keySlot (m.field 4 1) i) ∧
        (∀ i, t.keySlot (3 - m.field 4 1) i = s.keySlot (3 - m.field 4 1) i) ∧
        t.ctl.retained = { s.ctl.retained with enrolments := s.ctl.retained.enrolments + 1 } ∧
        t.role.maker = s.role.maker ∧ t.role.cert = s.role.cert ∧
        recorded s t (s.roleEntry m 1 (s.revSteps (m.field 4 1)) 0 (m.part 8 32)) ∧ t.fus = s.fus := by
  obtain ⟨e1, e2, -, e4, e5, e6, -⟩ := signedTaken_keys s m
  have hr : m.field 4 1 = 1 ∨ m.field 4 1 = 2 := ht.imp And.left And.left
  obtain ⟨u, hu⟩ : ∃ u, (s.signedTaken m).commitNow (s.roleEntry m 1 (s.revSteps (m.field 4 1)) 0 (m.part 8 32)) = u := ⟨_, rfl⟩
  obtain ⟨hctl, hfus, hrl, hrec, -⟩ := roleCommitted s m _ hu
  obtain ⟨k, hk⟩ : ∃ k : KeySlot, ⟨m.part 8 32, s.revSteps (m.field 4 1), m.role, m.slot,
    BitVec.ofNat 32 ((s.signedTaken m).entrySeq u)⟩ = k := ⟨_, rfl⟩
  obtain ⟨y, hy⟩ : ∃ y, u.putSlot (m.field 4 1) q (some k) = y := ⟨_, rfl⟩
  have hyrole : y = { u with role := y.role } := by rw [← hy, ← putSlot_eq]
  have hyctl : y.ctl = (s.signedTaken m).ctl := by rw [hyrole]; exact hctl
  have hrun : State.roleEnrol (s.signedTaken m) m = ({ y with free := y.free + 1, ctl := y.ctl.retain countEnrolment } : State).accept (leBytes 4 (s.revSteps (m.field 4 1))) := by
    rw [State.roleEnrol, State.check_pass]
    rotate_left
    · intro c hc
      rcases List.mem_append.mp hc with h | h
      · exact roleChecks_pass hq ht hrole (by simpa using hl) (by rw [e1, hnone]; rfl) c h
      · obtain rfl := List.mem_singleton.mp h
        obtain ⟨x, hx⟩ := Option.isSome_iff_exists.mp hed
        simpa [e2, hx] using hnew
    simp only [State.enrol, Msg.target, Msg.targetSlot, ← hq, e4, e5, hu, hk, hy]
    rfl
  obtain ⟨ht1, ht2⟩ := putSlot_store u (m.field 4 1) q (some k)
  have hslots : y.keySlot (m.field 4 1) q = some k ∧ (∀ i, i ≠ q → y.keySlot (m.field 4 1) i = s.keySlot (m.field 4 1) i) ∧
      ∀ i, y.keySlot (3 - m.field 4 1) i = s.keySlot (3 - m.field 4 1) i := by
    rw [← hy, ← keySlot_of_role hrl]
    exact ⟨keySlot_putSlot_same u hr q _, fun i hi => keySlot_putSlot_other u hr hi _, fun i => keySlot_putSlot_role u hr q i _⟩
  obtain ⟨hs1, hs2, hs3⟩ := hslots
  refine ⟨_, congrArg Host.Outcome.next (serveCode_counted (f := countEnrolment) ha hau (by decide) (by decide) (decide_eq_true rfl) hrun
      (congrArg (Ctl.retain · countEnrolment) hyctl)), rfl, ⟨k, ?_, ?_⟩, fun i hi => ?_, fun i => ?_, ?_, ?_, ?_, ?_, ?_⟩
  · exact hs1
  · rw [← hk]
    refine ⟨rfl, rfl, rfl, rfl, fun hc hqe => ?_⟩
    rw [State.entrySeq, e6, if_pos hc, (hrec.1 hc hqe).1, BitVec.add_sub_cancel, BitVec.ofNat_toNat, BitVec.setWidth_eq]
  · exact hs2 i hi
  · exact hs3 i
  · exact Copies.get_put _ _ _
  · rw [← hrl, ← ht1, hy]
  · rw [← hrl, ← ht2, hy]
  · exact recorded_of_same hrec (by rw [hyrole]) (by rw [hyrole])
  · rw [hyrole]
    exact hfus

theorem arrives_running {s : State} {m : Msg} {code len : Nat} (ha : arrives s m code len) : s.closing = false := by
  obtain ⟨-, hs, -⟩ := ha
  simp only [State.serves, State.coreRuns, Bool.and_eq_true, Bool.not_eq_true'] at hs
  obtain ⟨⟨⟨⟨-, ⟨-, h⟩, -⟩, -⟩, -⟩, -⟩ := hs
  exact h

/-- The step of the role's counter a revocation asks for. -/
def revokeStep (role n : Nat) : List OtpTask :=
  if n < 64 then [⟨.unit ((if role = 1 then 1155 else 1219) + n), 7, .revoke role⟩] else []

/-- A revocation up to the programming of its step. -/
theorem revoking {s : State} {m : Msg} {q n : Nat} (hq : q = m.field 5 1)
    (ht : m.field 4 1 = 1 ∧ q < 16 ∨ m.field 4 1 = 2 ∧ q < 4) (hrole : m.field 4 1 < m.role)
    (hl : s.fus.lifecycle = 1 ∨ s.fus.lifecycle = 2) (hsome : (s.keyOf (m.field 4 1) q).isSome = true) (hn : n = s.revSteps (m.field 4 1)) :
    ∃ y : State, y.ctl = (s.signedTaken m).ctl.retain countRevocation ∧ y.fus = s.fus ∧ y.entryKept = s.entryKept ∧
      recorded s y (s.roleEntry m 2 (min 64 (n + 1)) 0 []) ∧
      (s.commits = true → s.nvs.queue = [] → y.nvs.queue = []) ∧
      y.keySlot (m.field 4 1) q = none ∧
      (∀ i, i < 16 → i ≠ q → y.keySlot (m.field 4 1) i = (s.keySlot (m.field 4 1) i).map fun k => { k with stamp := n + 1 }) ∧
      (∀ i, y.keySlot (3 - m.field 4 1) i = s.keySlot (3 - m.field 4 1) i) ∧
      State.roleRevoke (s.signedTaken m) m = if y.programs (revokeStep (m.field 4 1) n) then
          { s := y.program (revokeStep (m.field 4 1) n), body := leBytes 4 (min 64 (n + 1)), waits := n < 64 }
        else (y.program (revokeStep (m.field 4 1) n)).applyFails fun e => y.roleEntry m 2 (y.revSteps (m.field 4 1)) e [] := by
  obtain ⟨e1, -, -, e4, e5, e6, -⟩ := signedTaken_keys s m
  have hr : m.field 4 1 = 1 ∨ m.field 4 1 = 2 := ht.imp And.left And.left
  obtain ⟨u, hu⟩ : ∃ u, (s.signedTaken m).commitNow (s.roleEntry m 2 (min 64 (n + 1)) 0 []) = u := ⟨_, rfl⟩
  obtain ⟨hctl, hfus, hrl, hrec, hkept⟩ := roleCommitted s m _ hu
  obtain ⟨v, hv⟩ : ∃ v, u.putSlot (m.field 4 1) q none = v := ⟨_, rfl⟩
  have hveq : v = { u with role := v.role } := by rw [← hv, ← putSlot_eq]
  obtain ⟨w, hw⟩ : ∃ w, v.restamp (m.field 4 1) q n = w := ⟨_, rfl⟩
  have hweq : w = { v with role := w.role } := by rw [← hw, ← restamp_eq]
  obtain ⟨h1, h2, h3⟩ := keySlot_restamp v hr q n
  rw [hw] at h1 h2 h3
  have hwu : w = { u with role := w.role } := by rw [hweq, hveq]
  refine ⟨{ w with ctl := w.ctl.retain countRevocation }, ?_, ?_, ?_, ?_, ?_, ?_, fun i hi hne => ?_, fun i => ?_, ?_⟩
  · rw [hwu, ← hctl]
  · rw [hwu]
    exact hfus
  · rw [← hkept, hwu]
    rfl
  · exact recorded_of_same hrec (by rw [hwu]) (by rw [hwu])
  · intro hc hqe
    rw [hwu]
    have hcu : (s.signedTaken m).nvs.queue = [] := by simpa using hqe
    exact hu ▸ ((s.signedTaken m).commitNow_led _ (e6.trans hc) hcu).2.2
  · exact h1.trans (hv ▸ keySlot_putSlot_same u hr q none)
  · refine (h2 i hi hne).trans (congrArg _ ?_)
    rw [← hv, keySlot_putSlot_other u hr hne, keySlot_of_role hrl]
  · refine (h3 i).trans ?_
    rw [← hv, keySlot_putSlot_role u hr q i, keySlot_of_role hrl]
  · rw [State.roleRevoke, State.check_pass (roleChecks_pass hq ht hrole (by simpa using hl) (by rw [e1]; exact hsome))]
    simp only [State.revoke, Msg.target, Msg.targetSlot, ← hq, e4, e5, ← hn, hu, hv, hw]
    rfl

theorem programs_of {y : State} {l : List OtpTask} (h : l = [] ∨ y.rst.decided = none ∧ y.closing = false) :
    y.programs l = true ∧ (y.program l).fus.tasks = y.fus.tasks ++ l ∧ y.program l = { y with fus := (y.program l).fus } := by
  unfold State.programs State.program
  rcases h with rfl | ⟨h1, h2⟩
  · exact ⟨rfl, (List.append_nil _).symm, rfl⟩
  · cases l <;> simp [h1, h2]

theorem closing_of_kept {s t : State} (h : t.entryKept = s.entryKept) : t.closing = s.closing :=
  congrArg (fun k : EntryKept => k.run.isSome) h

theorem revoked {s : State} {m : Msg} {q n : Nat} (ha : arrives s m 0x61 88) (hau : authorised s m 2) (hq : q = m.field 5 1)
    (ht : m.field 4 1 = 1 ∧ q < 16 ∨ m.field 4 1 = 2 ∧ q < 4) (hrole : m.field 4 1 < m.role)
    (hl : s.fus.lifecycle = 1 ∨ s.fus.lifecycle = 2) (hsome : (s.keyOf (m.field 4 1) q).isSome = true) (hn : n = s.revSteps (m.field 4 1))
    (hd : s.rst.decided = none ∨ 64 ≤ n) : ∃ t, exec .msgRoleRevoke s = .next t ∧
        t.ctl = { signedCtl s m (leBytes 4 (min 64 (n + 1))) (decide (n < 64)) 0 with tally := t.ctl.tally } ∧
        t.ctl.retained = { s.ctl.retained with revocations := s.ctl.retained.revocations + 1 } ∧
        t.fus.tasks = s.fus.tasks ++ (if n < 64 then
          [⟨.unit ((if m.field 4 1 = 1 then 1155 else 1219) + n), 7, .revoke (m.field 4 1)⟩] else []) ∧
        t.keySlot (m.field 4 1) q = none ∧
        (∀ i, i < 16 → i ≠ q → t.keySlot (m.field 4 1) i = (s.keySlot (m.field 4 1) i).map fun k => { k with stamp := n + 1 }) ∧
        (∀ i, t.keySlot (3 - m.field 4 1) i = s.keySlot (3 - m.field 4 1) i) ∧
        recorded s t (s.roleEntry m 2 (min 64 (n + 1)) 0 []) := by
  obtain ⟨y, hctl, hfus, hkept, hrec, -, h1, h2, h3, hrun⟩ := revoking hq ht hrole hl hsome hn
  have hstep : revokeStep (m.field 4 1) n = [] ∨ y.rst.decided = none ∧ y.closing = false := by
    rcases Nat.lt_or_ge n 64 with hlt | hge
    · refine .inr ⟨?_, (closing_of_kept hkept).trans (arrives_running ha)⟩
      have hdec : y.rst.decided.isSome = s.rst.decided.isSome := congrArg EntryKept.decided hkept
      rw [hd.resolve_right (by omega)] at hdec
      simpa using hdec
    · exact .inl (if_neg (by omega))
  obtain ⟨hp, htasks, hpy⟩ := programs_of hstep
  rw [if_pos hp] at hrun
  obtain ⟨z, hz⟩ : ∃ z, y.program (revokeStep (m.field 4 1) n) = z := ⟨_, rfl⟩
  rw [hz] at hrun hpy htasks
  have hzslot : z.keySlot = y.keySlot := keySlot_of_role (by rw [hpy])
  refine ⟨_, congrArg Host.Outcome.next (serveCode_counted (f := countRevocation) ha hau (by decide) (by decide) (decide_eq_true rfl) hrun
    (by rw [hpy]; exact hctl)), rfl, Copies.get_put _ _ _, ?_, ?_, fun i hi hne => ?_, fun i => ?_,
    recorded_of_same hrec (by rw [hpy]) (by rw [hpy])⟩
  · exact htasks.trans (by rw [hfus]; rfl)
  · exact (congrFun (congrFun hzslot _) _).trans h1
  · exact (congrFun (congrFun hzslot _) _).trans (h2 i hi hne)
  · exact (congrFun (congrFun hzslot _) _).trans (h3 i)

/-- Under a decided reset the step is not programmed: a second entry, and an error. -/
theorem revokeFails {s : State} {m : Msg} {q n : Nat} (ha : arrives s m 0x61 88) (hau : authorised s m 2) (hq : q = m.field 5 1)
    (ht : m.field 4 1 = 1 ∧ q < 16 ∨ m.field 4 1 = 2 ∧ q < 4) (hrole : m.field 4 1 < m.role)
    (hl : s.fus.lifecycle = 1 ∨ s.fus.lifecycle = 2) (hsome : (s.keyOf (m.field 4 1) q).isSome = true) (hn : n = s.revSteps (m.field 4 1))
    (hlt : n < 64) (hd : s.rst.decided.isSome = true) : ∃ t e, exec .msgRoleRevoke s = .next t ∧
        1 ≤ e ∧ e ≤ 13 ∧ t.ctl.replies = s.ctl.replies ++ [⟨m.inBand, m.response e 0 [], false, 0⟩] ∧
        t.fus.tasks = s.fus.tasks ∧ t.keySlot (m.field 4 1) q = none ∧
        (s.commits = true → s.nvs.queue = [] → t.led.nextSeq = s.led.nextSeq + 2) := by
  obtain ⟨y, hctl, hfus, hkept, hrec, hqe, h1, -, -, hrun⟩ := revoking hq ht hrole hl hsome hn
  have hdec : y.rst.decided.isSome = true := (congrArg EntryKept.decided hkept).trans hd
  have hp : y.programs (revokeStep (m.field 4 1) n) = false := by
    simp [State.programs, revokeStep, hlt, hdec]
  have hz : y.program (revokeStep (m.field 4 1) n) = { y with fus := { y.fus with cut := true } } := by
    simp [State.program, revokeStep, hlt, hdec]
  obtain ⟨e, he⟩ : ∃ e, 1 + (Config.applyError y.free).val = e := ⟨_, rfl⟩
  obtain ⟨c, hc⟩ : ∃ c, y.roleEntry m 2 (y.revSteps (m.field 4 1)) e [] = c := ⟨_, rfl⟩
  obtain ⟨z, hze⟩ : ∃ z : State, { y with free := y.free + 1, fus := { y.fus with cut := true } } = z := ⟨_, rfl⟩
  rw [hp, hz] at hrun
  have hrun' : State.roleRevoke (s.signedTaken m) m = ⟨z.commitNow c, e, 0, [], false, 0⟩ := by
    rw [hrun, ← hc, ← he, ← hze]
    rfl
  have hzc : z.commits = s.commits := by
    have hrunk : y.pwr.run = s.pwr.run := congrArg EntryKept.run hkept
    have hready : y.led.ready = s.led.ready := congrArg EntryKept.ready hkept
    rw [← hze]
    simp only [State.commits, State.ledgerRuns, State.unprovisioned, Fus.lockedBank, Fus.locked, hrunk, hready, hfus]
    rfl
  obtain ⟨d, ht', hdr⟩ := serveCode_refused (row := ⟨0x61, 2, false, false⟩) (fits := exactly 8) ha hau (by decide) (by decide)
    (decide_eq_true rfl) hrun' (by omega) (by simp [← hze, hctl, Ctl.retain])
  refine ⟨_, e, congrArg Host.Outcome.next ht', by omega, by have := (Config.applyError y.free).isLt; omega, hdr, ?_, ?_, fun hcm hq0 => ?_⟩
  · simp [← hze, hfus]
  · exact (congrFun (congrFun (keySlot_of_role (by simp [← hze])) _) _).trans h1
  · have hzq : z.nvs.queue = [] := hze ▸ hqe hcm hq0
    refine (z.commitNow_led c (hzc.trans hcm) hzq).1.trans ?_
    rw [← hze]
    exact (congrArg (· + 1) (hrec.1 hcm hq0).1).trans (by rw [BitVec.add_assoc]; rfl)

/-! ### The device certificate and the maker's key (R327, R343, R364) -/

theorem exec_deviceCertStore {s : State} {m : Msg} {key c : Bytes} (ha : arrives s m 0x04 212) (hi : s.led.epochState = .idle)
    (hop : m.field 0 1 = 3) (hc : c = m.part 4 192) (hk : s.makerKey = some key) (hl : s.fus.lifecycle = 1) (hid : s.identityInForce = true)
    (hr : s.fus.retireIdentity = false) (hm : s.certMine c = true) (hv : edVerify key (c.take 128) (c.drop 128) = true) :
    exec .deviceCertStore s = .next { s.takeMsg m with ctl := openCtl s m [], role := { s.role with cert := s.role.cert.put c } } := by
  obtain ⟨e1, e2, e3⟩ : (s.takeMsg m).makerKey = s.makerKey ∧ (s.takeMsg m).identityInForce = s.identityInForce ∧
      (s.takeMsg m).certMine = s.certMine := by
    rw [takeMsg_eq]
    exact ⟨rfl, rfl, rfl⟩
  have hrun : State.certStore (s.takeMsg m) m = ({ s.takeMsg m with role := { s.role with cert := s.role.cert.put c } } : State).accept [] := by
    simp only [State.certStore, e1, hk, ← hc]
    rw [State.check_pass (by simp [hl, hid, hr, hm, hv, e2, e3])]
    simp
  have hmine : (m.isCode 0x04 && m.certOp = 3) = true := by
    rw [Msg.isCode_of ha.2.2.1 ha.2.2.2.1, Msg.certOp, hop]
    rfl
  have hfits : certFits m (212 - 16) = true := by simp [certFits, Msg.certOp, hop]
  refine congrArg Host.Outcome.next ((serve_arrives_open (row := certStoreRow) ha hmine rfl hfits (.inr rfl) (.inl hi) rfl).trans ?_)
  rw [hrun]
  exact send_open (s := s) (m := m) rfl

theorem makerInstalled {s : State} {m : Msg} (ha : arrives s m 0x81 124) (hau : authorised s m 3) (hop : m.field 4 1 = 5)
    (hb : s.fus.tasks = []) (hl : s.fus.lifecycle ≠ 3) (hg : s.fus.locked 2 = true) (hk : sha512 (m.part 12 32) = s.fus.wordBytes 32 16) :
    ∃ t, exec .installMakerKey s = .next t ∧ t.ctl = signedCtl s m [] false 0 ∧
      t.role = { s.role with maker := s.role.maker.put (m.part 12 32) } ∧ recorded s t (configFor s m 0xFF 0) ∧ t.fus = s.fus := by
  obtain ⟨hcommit, hrec⟩ := signedTaken_commitConfig s m 0xFF 0
  obtain ⟨u, hu⟩ : ∃ u, (s.signedTaken m).commitConfig m 0xFF 0 = u := ⟨_, rfl⟩
  have hframe : u.ctl = (s.signedTaken m).ctl ∧ u.role = s.role ∧ u.fus = s.fus := by
    rw [← hu, hcommit]
    simp
  obtain ⟨hctl, hrole, hfus⟩ := hframe
  obtain ⟨y, hy⟩ : ∃ y : State, { u with role := { u.role with maker := u.role.maker.put (m.part 12 32) } } = y := ⟨_, rfl⟩
  have hrun : State.installMaker (s.signedTaken m) m = y.accept [] := by
    rw [State.installMaker, State.check_pass (by simp [State.fusBusy, hb, hl, hg, hk]), hu, ← hy]
  have hmine : isFusOp 5 m = true := by
    rw [isFusOp, Msg.isCode_of ha.2.2.1 ha.2.2.2.1, Msg.fusOp, hop]
    rfl
  obtain ⟨hn, hs, hf, -, hlen⟩ := ha
  have hsend := serve_signed (gen := noGen) (run := State.installMaker) (row := fusRow) (fits := exactly 44) hn hs hmine hf (by decide)
    (by rw [hlen]; decide) (by rw [hlen]; rfl) hau.2.2.2.2.2.2.2 hau.2.1 hau.2.2.1 hau.2.2.2.1 hau.2.2.2.2.1 hau.2.2.2.2.2.1 hau.1
    (.inl hau.2.2.2.2.2.2.1) rfl
  rw [← State.signedTaken, hrun] at hsend
  exact ⟨_, congrArg Host.Outcome.next (hsend.trans (send_signed hau (hy ▸ hctl) [] false 0)), rfl, by rw [← hrole, ← hy],
    recorded_of_same (hu ▸ hrec) (by rw [← hy]) (by rw [← hy]), by rw [← hfus, ← hy]⟩

theorem keyMessages_holds : keyMessages := fun _ _ =>
  ⟨fun _ ha hau hq ht hrole hl hnone hed hnew => enrolled ha hau hq ht hrole hl hnone hed hnew,
    fun _ _ ha hau hq ht hrole hl hsome hn hd => revoked ha hau hq ht hrole hl hsome hn hd,
    fun _ _ ha hau hq ht hrole hl hsome hn hlt hd => revokeFails ha hau hq ht hrole hl hsome hn hlt hd,
    fun _ _ ha hi hop hc hk hl hid hr hm hv => exec_deviceCertStore ha hi hop hc hk hl hid hr hm hv, makerInstalled⟩

/-- Settles O52: each row by the checks it passes, the entry it commits and the store it writes. -/
theorem ledgerAndKeyMessages : Obligations.LedgerAndKeyMessages := ⟨ledgerMessages_holds, keyMessages_holds⟩

end Sys2Proof.Machine

namespace Sys2Proof.Machine

/-! ## Firmware messages (R358, R360) -/

theorem startBlock_eq (s : State) : s.startBlock = { s with nvs := s.startBlock.nvs } ∧ s.startBlock.nvs.mem = s.nvs.mem ∧
    s.startBlock.nvs.blocks = s.nvs.blocks := by
  unfold State.startBlock
  split <;> exact ⟨rfl, rfl, rfl⟩

/-- Block operations asked for change NVS only, and none of its bytes. -/
theorem addBlocks_eq (s : State) (l : List BlockJob) : s.addBlocks l = { s with nvs := (s.addBlocks l).nvs } ∧
    (s.addBlocks l).nvs.mem = s.nvs.mem := by
  obtain ⟨x, hx⟩ : ∃ x : State, { s with nvs := { s.nvs with blocks := s.nvs.blocks ++ l } } = x := ⟨_, rfl⟩
  obtain ⟨h1, h2, -⟩ := startBlock_eq x
  simp only [State.addBlocks, hx]
  split
  · exact ⟨rfl, rfl⟩
  · split
    · refine ⟨?_, by rw [h2, ← hx]⟩
      rw [h1, ← hx]
    · rw [← hx]
      exact ⟨rfl, rfl⟩

theorem addBlocks_blocks {s : State} (l : List BlockJob) (h : s.mayStart = true) : (s.addBlocks l).nvs.blocks = s.nvs.blocks ++ l := by
  simp only [State.addBlocks, h, Bool.not_true, Bool.false_eq_true, if_false]
  split
  · exact (startBlock_eq _).2.2
  · rfl

/-- The first block operation asked for starts with its journal record. -/
theorem addBlocks_first {s : State} {j : BlockJob} {l : List BlockJob} (h : s.mayStart = true) (hb : s.nvs.blocks = []) :
    (s.addBlocks (j :: l)).nvs = { s.nvs with blocks := j :: l, journals := s.nvs.journals.put (j.journal .shadow) } := by
  simp only [State.addBlocks, State.startBlock, h, hb]
  rfl

theorem imageBlocks_cons {slot o : Nat} {part : Bytes} {last : Bool} (h : part ≠ []) : ∃ j l, imageBlocks slot o part last = j :: l ∧
    j.journal .shadow = ⟨false, fwAddr slot + o, 0, .shadow⟩ := by
  have hlen : 0 < part.length := List.length_pos_iff.mpr h
  obtain ⟨k, hk⟩ : ∃ k, (part.length + 4095) / 4096 = k + 1 := ⟨(part.length + 4095) / 4096 - 1, by omega⟩
  rw [imageBlocks, hk, List.range_succ_eq_map, List.map_cons]
  exact ⟨_, _, rfl, rfl⟩

theorem nvBytes_ne_nil {l : List Host.Cell} {n : Nat} (h : 1 ≤ n) : nvBytes l 0 n ≠ [] :=
  List.ne_nil_of_length_pos (by rw [nvBytes_length]; omega)

/-- What the firmware rows read once the message is taken. -/
theorem signedTaken_fw {s : State} {m : Msg} (hau : authorised s m 2) : (s.signedTaken m).imageCheck = s.imageCheck ∧
    (s.signedTaken m).ctl.bulk = s.ctl.bulk ∧ (s.signedTaken m).inactiveSlot = 1 - s.fw.record.active ∧
    (s.signedTaken m).viewsIdle = s.viewsIdle ∧ (s.signedTaken m).commits = s.commits := by
  refine ⟨?_, by rw [signedTaken_ctl hau], by simp [State.inactiveSlot], ?_, ?_⟩ <;> rw [signedTaken_eq] <;> rfl

theorem mayStart_of_kept {s t : State} (h : t.entryKept = s.entryKept) (hd : s.rst.decided = none) (hc : s.closing = false) :
    t.mayStart = true := by
  have hdec : t.rst.decided.isSome = s.rst.decided.isSome := congrArg EntryKept.decided h
  rw [State.mayStart, hdec, closing_of_kept h, hd, hc]
  rfl

/-- A part in its place passes the checks of R358. -/
theorem fwLoad_part {s : State} {m : Msg} {staged : Bytes} {total n : Nat} (hin : m.inBand = false) (hn : m.field 12 4 = n) (hmax : n ≤ 32768)
    (hstaged : (s.signedTaken m).fwStaged m = (staged, total)) (hfirst : m.fwFirst = true → 324 ≤ total ∧ total ≤ 4194304)
    (hload : m.fwFirst = false → s.fw.update = .loading) (ho : m.field 8 4 = staged.length) (hfit : staged.length + n ≤ total)
    (hpart : m.fwLast = false → n % 4096 = 0) (hlast : m.fwLast = true → staged.length + n = total) :
    State.fwLoad (s.signedTaken m) m = (s.signedTaken m).loadPart m := by
  rw [State.fwLoad]
  refine State.check_pass fun c hc => ?_
  simp only [hstaged, Msg.fwLength, Msg.fwOffset, hn, ho, List.mem_cons, List.not_mem_nil, or_false] at hc
  rcases hc with rfl | rfl | rfl | rfl | rfl
  · exact hin
  · exact decide_eq_false (by omega)
  · cases hf : m.fwFirst with
    | true => simp [within, hfirst hf]
    | false => rfl
  · cases hf : m.fwFirst with
    | true => rfl
    | false => simp [hload hf]
  · cases hl : m.fwLast with
    | true => simp [hlast hl]
    | false => simpa [hpart hl] using hfit

/-- The staging after a part that is not the last. -/
theorem stageImage_eq (u : State) (m : Msg) (b : Bytes) : u.stageImage m b =
    { u with fw := { u.fw with staged := b, total := (u.fwStaged m).2, status := u.fw.status.put ⟨.loading, none⟩ } } := rfl

theorem partStaged {s : State} {m : Msg} {o n total : Nat} {staged part : Bytes} (hin : m.inBand = false) (ha : arrives s m 0x70 104)
    (hau : authorised s m 2) (ho : m.field 8 4 = o) (hn : m.field 12 4 = n) (hpart : part = nvBytes s.ctl.bulk 0 n) (h1 : 1 ≤ n)
    (hmax : n ≤ 32768) (h4k : n % 4096 = 0) (hl : m.fwLast = false) (hstaged : s.fwStaged m = (staged, total))
    (hfirst : m.fwFirst = true → 324 ≤ total ∧ total ≤ 4194304) (hload : m.fwFirst = false → s.fw.update = .loading)
    (hos : o = staged.length) (hfit : staged.length + n ≤ total) (hd : s.rst.decided = none) :
    ∃ y : State, exec .msgFwLoad s = .next { s.takeMsg m with
      ctl := signedCtl s m (leBytes 4 (o + n) ++ zeros 8) true 0
      fw := { s.fw with staged := staged ++ part, total := total, status := s.fw.status.put ⟨.loading, none⟩ }
      nvs := (y.addBlocks (imageBlocks (1 - s.fw.record.active) o part false)).nvs } ∧ y.nvs = s.nvs ∧ y.mayStart = true := by
  obtain ⟨-, hbulk, hslot, -, -⟩ := signedTaken_fw hau
  have hst : (s.signedTaken m).fwStaged m = (staged, total) := by
    rw [← hstaged]
    simp [State.fwStaged]
  obtain ⟨y, hy⟩ : ∃ y, (s.signedTaken m).stageImage m (staged ++ part) = y := ⟨_, rfl⟩
  obtain ⟨hz, -⟩ := addBlocks_eq y (imageBlocks (1 - s.fw.record.active) o part false)
  have hne : imageBlocks (1 - s.fw.record.active) o part false ≠ [] := by
    obtain ⟨j, l, h, -⟩ := imageBlocks_cons (slot := 1 - s.fw.record.active) (o := o) (last := false) (hpart ▸ nvBytes_ne_nil h1)
    rw [h]
    exact List.cons_ne_nil _ _
  have hlen : (staged ++ part).length = o + n := by rw [List.length_append, hpart, nvBytes_length, hos]
  have hrun : State.fwLoad (s.signedTaken m) m = ⟨y.addBlocks (imageBlocks (1 - s.fw.record.active) o part false), 0, 0,
      leBytes 4 (o + n) ++ zeros 8, true, 0⟩ := by
    rw [fwLoad_part hin hn hmax hst hfirst hload (ho.trans hos) hfit (fun _ => h4k) (by simp [hl])]
    have hf : (!(imageBlocks (1 - s.fw.record.active) o part false).isEmpty) = true := by simpa using hne
    simp only [State.loadPart, hst, Msg.fwLength, Msg.fwOffset, hn, ho, hl, hbulk, ← hpart, hslot, hy, hlen, Bool.not_false, if_true,
      Bool.false_and, hf]
  refine ⟨y, ?_, by rw [← hy, stageImage_eq]; simp, ?_⟩
  · refine congrArg Host.Outcome.next ((serveCode_accepted ha hau (by decide) (by decide) (decide_eq_true rfl) hrun ?_).trans ?_)
    · rw [hz, ← hy, stageImage_eq]
    · obtain ⟨v, hv⟩ : ∃ v, (y.addBlocks (imageBlocks (1 - s.fw.record.active) o part false)).nvs = v := ⟨_, rfl⟩
      rw [hz, hv, ← hy, stageImage_eq, hst, State.signedTaken, State.takeSequence, takeMsg_eq]
  · refine mayStart_of_kept (s := s) ?_ hd (arrives_running ha)
    rw [← hy, stageImage_eq]
    simp [State.entryKept]

theorem leAt_lt_pow (o n : Nat) (b : Bytes) : leAt o n b < 256 ^ n := by
  exact Nat.lt_of_lt_of_le (leNat_lt _) (Nat.pow_le_pow_right (by decide) (List.length_take_le ..))

theorem fwStaged_next {s : State} {m : Msg} (h : m.fwFirst = false) : s.fwStaged m = (s.fw.staged, s.fw.total) := if_neg (by simp [h])

/-- A further part, with no block operation asked for before it. -/
theorem exec_msgFwLoad_part {s : State} {m : Msg} {o n : Nat} {part : Bytes} (hin : m.inBand = false) (ha : arrives s m 0x70 104)
    (hau : authorised s m 2) (ho : m.field 8 4 = o) (hn : m.field 12 4 = n) (hpart : part = nvBytes s.ctl.bulk 0 n) (h1 : 1 ≤ n)
    (hmax : n ≤ 32768) (h4k : n % 4096 = 0) (hl : m.fwLast = false) (hf : m.fwFirst = false) (hload : s.fw.update = .loading)
    (hos : o = s.fw.staged.length) (hfit : o + n ≤ s.fw.total) (hd : s.rst.decided = none) (hb : s.nvs.blocks = []) :
    exec .msgFwLoad s = .next { s.takeMsg m with
        ctl := signedCtl s m (leBytes 4 (o + n) ++ zeros 8) true 0
        fw := { s.fw with staged := s.fw.staged ++ part, status := s.fw.status.put ⟨.loading, none⟩ }
        nvs := { s.nvs with
          blocks := imageBlocks (1 - s.fw.record.active) o part false
          journals := s.nvs.journals.put ⟨false, fwAddr (1 - s.fw.record.active) + o, 0, .shadow⟩ } } := by
  obtain ⟨y, e, hy, hmay⟩ := partStaged hin ha hau ho hn hpart h1 hmax h4k hl (fwStaged_next hf) (by simp [hf]) (fun _ => hload) hos
    (hos ▸ hfit) hd
  obtain ⟨j, l, hj, hjournal⟩ := imageBlocks_cons (slot := 1 - s.fw.record.active) (o := o) (last := false) (hpart ▸ nvBytes_ne_nil h1)
  rw [e, hj, addBlocks_first hmay (by rw [hy, hb]), hy, ← hjournal]

theorem firmwareParts_holds : firmwareParts := by
  intro s m n part hin ha hau ho hn hpart h1 hmax h4k hl hf hlo hhi hfit hd hrun
  obtain ⟨y, e, hy, hmay⟩ := partStaged (staged := []) (total := m.field 16 4) hin ha hau ho hn hpart h1 hmax h4k hl (if_pos hf)
    (fun _ => ⟨hlo, hhi⟩) (by simp [hf]) rfl (by simpa using hfit) hd
  refine ⟨_, e, by simp, by simp, ?_, ?_⟩
  · rw [← hy]
    exact addBlocks_blocks _ hmay
  · exact State.eq_of_parts (by simp)

/-- The last part of an image that passes (R358): its entry, then the blocks. -/
theorem imageFinished {s : State} {m : Msg} {o n : Nat} {b part : Bytes} (hin : m.inBand = false) (ha : arrives s m 0x70 104)
    (hau : authorised s m 2) (ho : m.field 8 4 = o) (hn : m.field 12 4 = n) (hpart : part = nvBytes s.ctl.bulk 0 n) (h1 : 1 ≤ n)
    (hmax : n ≤ 32768) (hl : m.fwLast = true) (hf : m.fwFirst = false) (hload : s.fw.update = .loading) (hos : o = s.fw.staged.length)
    (hfit : o + n = s.fw.total) (hd : s.rst.decided = none) (hb : b = s.fw.staged ++ part) (hok : s.imageCheck b = 0) :
    ∃ t, exec .msgFwLoad s = .next t ∧
        t.ctl = signedCtl s m (leBytes 4 b.length ++ leBytes 4 (leAt 12 4 b) ++ leBytes 4 (leAt 16 2 b)) true 0 ∧
        t.fw.staged = b ∧ t.fw.update = .loading ∧ t.fw.record = s.fw.record ∧
        t.nvs.blocks = s.nvs.blocks ++ imageBlocks (1 - s.fw.record.active) o part true ∧ recorded s t (configFor s m 0xFF 0) := by
  obtain ⟨hcheck, hbulk, hslot, -, hcommits⟩ := signedTaken_fw hau
  have hst : (s.signedTaken m).fwStaged m = (s.fw.staged, s.fw.total) := by rw [fwStaged_next hf]; simp
  obtain ⟨y, hy⟩ : ∃ y, (s.signedTaken m).stageImage m b = y := ⟨_, rfl⟩
  have hyeq : y = { s.signedTaken m with fw := y.fw } := by rw [← hy, stageImage_eq]
  have hychk : y.imageCheck b = 0 := by
    rw [hyeq, ← hok, ← hcheck]
    rfl
  obtain ⟨u, hu⟩ : ∃ u, y.commitConfig m 0xFF 0 = u := ⟨_, rfl⟩
  have hcfg : y.configEntry m.auth 0xFF 0 0 = configFor s m 0xFF 0 := by
    rw [hyeq, configFor, signedTaken_eq]
    rfl
  have huc : u = y.commitNow (configFor s m 0xFF 0) := by rw [← hu, State.commitConfig, hcfg]
  have hukept : u.entryKept = s.entryKept := by
    rw [huc, State.commitNow_entryKept, hyeq]
    simp [State.entryKept]
  have hufw : u.ctl = (s.signedTaken m).ctl ∧ u.fw = y.fw := by
    rw [huc]
    refine ⟨?_, by simp⟩
    rw [hyeq]
    simp
  have hrec : recorded s u (configFor s m 0xFF 0) := by
    rw [huc]
    refine recorded_commitNow ?_ ?_ ?_ ?_
    · rw [← hcommits, hyeq]
      rfl
    · rw [hyeq]
      simp
    · rw [hyeq]
      simp
    · rw [hyeq, signedTaken_eq]
      rfl
  obtain ⟨l, hlb⟩ : ∃ l, imageBlocks (1 - s.fw.record.active) o part true = l := ⟨_, rfl⟩
  have hne : l.isEmpty = false := by
    obtain ⟨j, l', h, -⟩ := imageBlocks_cons (slot := 1 - s.fw.record.active) (o := o) (last := true) (hpart ▸ nvBytes_ne_nil h1)
    rw [← hlb, h]
    rfl
  have hmay := mayStart_of_kept hukept hd (arrives_running ha)
  obtain ⟨hz, hmem⟩ := addBlocks_eq u l
  have hrun : State.fwLoad (s.signedTaken m) m = ⟨u.addBlocks l, 0, 0,
      leBytes 4 b.length ++ leBytes 4 (leAt 12 4 b) ++ leBytes 4 (leAt 16 2 b), true, 0⟩ := by
    rw [fwLoad_part hin hn hmax hst (by simp [hf]) (fun _ => hload) (ho.trans hos) (by omega) (by simp [hl]) (by intro; omega)]
    have h12 : (imageVersion b).toNat = leAt 12 4 b := by
      rw [imageVersion, BitVec.toNat_ofNat]
      exact Nat.mod_eq_of_lt (leAt_lt_pow 12 4 b)
    simp only [State.loadPart, hst, Msg.fwLength, Msg.fwOffset, hn, ho, hl, hbulk, ← hpart, ← hb, hslot, hy, hychk, Bool.not_true,
      Bool.false_eq_true, if_false, decide_true, Bool.and_true, hlb, if_true, State.finishImage, hu, hne, hmay, Bool.or_true, h12,
      Bool.not_false]
    rfl
  have hstatus : u.fw = { s.fw with staged := b, total := s.fw.total, status := s.fw.status.put ⟨.loading, none⟩ } := by
    rw [hufw.2, ← hy, stageImage_eq, hst]
    simp
  refine ⟨_, congrArg Host.Outcome.next (serveCode_accepted ha hau (by decide) (by decide) (decide_eq_true rfl) hrun (by rw [hz]; exact hufw.1)),
    rfl, ?_, ?_, ?_, ?_, recorded_of_same hrec (by rw [hz]) hmem⟩
  · rw [hz]
    simp only [hstatus]
  · rw [hz]
    simp only [hstatus, Fw.update, Fw.retained, Copies.get_put]
  · rw [hz]
    simp only [hstatus]
    rfl
  · rw [hlb]
    exact (addBlocks_blocks l hmay).trans (congrArg (· ++ l) (congrArg EntryKept.blocks hukept))

/-- The last part of an image that fails (R353): the staging is discarded. -/
theorem imageDiscarded {s : State} {m : Msg} {n e : Nat} {b : Bytes} (hin : m.inBand = false) (ha : arrives s m 0x70 104)
    (hau : authorised s m 2) (ho : m.field 8 4 = s.fw.staged.length) (hn : m.field 12 4 = n) (hmax : n ≤ 32768) (hl : m.fwLast = true)
    (hf : m.fwFirst = false) (hload : s.fw.update = .loading) (hfit : s.fw.staged.length + n = s.fw.total)
    (hb : b = s.fw.staged ++ nvBytes s.ctl.bulk 0 n) (he : e = s.imageCheck b) (hne : e ≠ 0) : ∃ t, exec .msgFwLoad s = .next t ∧
        t.ctl.replies = s.ctl.replies ++ [⟨false, m.response ([0, 6, 6, 7, 3, 3, 3, 7].getD e 0) e [], false, 0⟩] ∧
        t.fw = { s.fw with staged := [], total := 0, status := t.fw.status } ∧ t.fw.update = .none ∧ t.fw.loaded = none ∧
        t.led = s.led := by
  obtain ⟨hcheck, hbulk, hslot, -, -⟩ := signedTaken_fw hau
  have hst : (s.signedTaken m).fwStaged m = (s.fw.staged, s.fw.total) := by rw [fwStaged_next hf]; simp
  obtain ⟨y, hy⟩ : ∃ y, (s.signedTaken m).stageImage m b = y := ⟨_, rfl⟩
  have hyeq : y = { s.signedTaken m with fw := y.fw } := by rw [← hy, stageImage_eq]
  have hychk : y.imageCheck b = e := by
    rw [hyeq, he, ← hcheck]
    rfl
  obtain ⟨z, hz⟩ : ∃ z : State, { y with fw := { y.fw with staged := [], total := 0 }.putStatus {} } = z := ⟨_, rfl⟩
  obtain ⟨l, hlb⟩ : ∃ l, imageBlocks (1 - s.fw.record.active) (m.field 8 4) (nvBytes s.ctl.bulk 0 n) false = l := ⟨_, rfl⟩
  obtain ⟨hzl, -⟩ := addBlocks_eq z l
  have he7 : e ≤ 7 := by
    rw [he]
    unfold State.imageCheck
    dsimp only
    repeat' split
    all_goals decide
  have hcode : [0, 6, 6, 7, 3, 3, 3, 7].getD e 0 ≠ 0 := by
    have codes : ∀ k, k < 8 → k ≠ 0 → [0, 6, 6, 7, 3, 3, 3, 7].getD k 0 ≠ 0 := by decide
    exact codes e (by omega) (by omega)
  have hrun : State.fwLoad (s.signedTaken m) m = ⟨z.addBlocks l, [0, 6, 6, 7, 3, 3, 3, 7].getD e 0, e, [], false, 0⟩ := by
    rw [fwLoad_part hin hn hmax hst (by simp [hf]) (fun _ => hload) ho (by omega) (by simp [hl]) (fun _ => hfit)]
    simp only [State.loadPart, hst, Msg.fwLength, Msg.fwOffset, hn, hl, hbulk, ← hb, hslot, hy, hychk, Bool.not_true, Bool.false_eq_true,
      if_false, hne, decide_false, Bool.and_false, hz, hlb]
    rfl
  have hzfw : z.fw = { s.fw with staged := [], total := 0, status := z.fw.status } ∧ z.fw.retained = {} := by
    rw [← hz]
    refine ⟨?_, Copies.get_put _ _ _⟩
    rw [← hy, stageImage_eq, Fw.putStatus]
    simp
  have hzc : z = { s.signedTaken m with fw := z.fw } := by rw [← hz, hyeq]
  obtain ⟨c, ht, hc⟩ := serveCode_refused (row := ⟨0x70, 2, false, true⟩) (fits := exactly 24) ha hau (by decide) (by decide)
    (decide_eq_true rfl) hrun hcode (by rw [hzl, hzc])
  refine ⟨_, congrArg Host.Outcome.next ht, by rw [hc, hin], ?_, ?_, ?_, ?_⟩
  · rw [hzl]
    exact hzfw.1
  · rw [hzl]
    exact congrArg FwStatus.update hzfw.2
  · rw [hzl]
    exact congrArg FwStatus.loaded hzfw.2
  · rw [hzl, hzc]
    simp

/-- An activation (R360): its two entries, and the reset that follows. -/
theorem imageActivated {s : State} {m : Msg} {x : LoadedImage} {slot : Nat} (ha : arrives s m 0x71 92) (hau : authorised s m 2)
    (hx : s.fw.loaded = some x) (hload : s.fw.update = .loaded) (hidle : s.viewsIdle = true) (hslot : slot = 1 - s.fw.record.active)
    (h4 : m.field 4 1 = slot) (h8 : m.field 8 4 = x.version.toNat) : ∃ t, exec .msgFwActivate s = .next t ∧
        t.ctl = signedCtl s m [] false 2 ∧ t.fw = { s.fw with activating := some slot } ∧ t.rst.after = some .fwUpdate ∧ t.fus = s.fus ∧
        (s.commits = true → s.nvs.queue = [] → t.led.nextSeq = s.led.nextSeq + 2) := by
  obtain ⟨-, -, hslot', hviews, hcommits⟩ := signedTaken_fw hau
  obtain ⟨hcommit, hrec⟩ := signedTaken_commitConfig s m 0xFF 0
  obtain ⟨u, hu⟩ : ∃ u, (s.signedTaken m).commitConfig m 0xFF 0 = u := ⟨_, rfl⟩
  obtain ⟨v, hv⟩ : ∃ v, u.commitNow (fwEntry 1 slot x.fwar x.version x.digest) = v := ⟨_, rfl⟩
  obtain ⟨hvctl, hvfw, hvfus⟩ : v.ctl = (s.signedTaken m).ctl ∧ v.fw = s.fw ∧ v.fus = s.fus := by
    rw [← hv, ← hu, hcommit]
    simp
  have hrun : State.fwActivate (s.signedTaken m) m = ⟨{ v with
      fw := { v.fw with activating := some slot }, rst := { v.rst with after := some .fwUpdate } }, 0, 0, [], false, 2⟩ := by
    have hl : (s.signedTaken m).fw.loaded = some x := by simpa using hx
    simp only [State.fwActivate, hl]
    rw [State.check_pass (by simp [hload, hviews, hidle, hslot', ← hslot, h4, h8]), State.activateImage, hslot', ← hslot, hu, hv]
  refine ⟨_, congrArg Host.Outcome.next (serveCode_accepted ha hau (by decide) (by decide) (decide_eq_true rfl) hrun hvctl), rfl,
    by rw [hvfw], rfl, hvfus, fun hc hq => ?_⟩
  have huc : u.commits = s.commits := by rw [← hu, hcommit, State.commits_commitNow, hcommits]
  have hq' : (s.signedTaken m).nvs.queue = [] := by simpa using hq
  have huq : u.nvs.queue = [] := by
    rw [← hu, hcommit]
    exact ((s.signedTaken m).commitNow_led _ (hcommits.trans hc) hq').2.2
  have h1 : u.led.nextSeq = s.led.nextSeq + 1 := hu ▸ (hrec.1 hc hq).1
  have h2 := (u.commitNow_led (fwEntry 1 slot x.fwar x.version x.digest) (huc.trans hc) huq).1
  rw [hv, h1, BitVec.add_assoc] at h2
  exact h2

/-- Settles O53: each part by the staging it finds, and the activation by its two entries. -/
theorem firmwareMessages_all : Obligations.FirmwareMessages :=
  ⟨fun _ _ hin => ⟨fun _ _ _ ha hau ho hn hpart h1 hmax h4k hl hf hload hos hfit hd hb =>
      exec_msgFwLoad_part hin ha hau ho hn hpart h1 hmax h4k hl hf hload hos hfit hd hb,
    fun _ _ _ _ ha hau ho hn hpart h1 hmax hl hf hload hos hfit hd hb hok =>
      imageFinished hin ha hau ho hn hpart h1 hmax hl hf hload hos hfit hd hb hok,
    fun _ _ _ ha hau ho hn hmax hl hf hload hfit hb he hne => imageDiscarded hin ha hau ho hn hmax hl hf hload hfit hb he hne,
    fun _ _ ha hau hx hload hidle hslot h4 h8 => imageActivated ha hau hx hload hidle hslot h4 h8⟩, firmwareParts_holds⟩

end Sys2Proof.Machine

namespace Sys2Proof.Machine

/-! ## `MSG_HKC_CALIBRATE` (R413, R414) -/

section
variable {s x : State} {m : Msg} {mine : Msg → Bool} {row : MsgRow} {fits : Msg → Nat → Bool} {run : State → Msg → Answer} {code len : Nat}

/-- A row that serves some of the messages of its code. -/
theorem serve_arrives_signed (ha : arrives s m code len) (hau : authorised s m row.role) (hm : mine m = true) (h0 : row.role ≠ 0)
    (h80 : 80 ≤ len) (hl : fits m (len - 80) = true) : s.serve mine row fits noGen run = (run (s.signedTaken m) m).send m true := by
  obtain ⟨hn, hs, hf, -, hlen⟩ := ha
  obtain ⟨ho, hi, hq, h1, h3, ht, he, hr⟩ := hau
  exact serve_signed hn hs hm hf h0 (by rw [hlen]; exact h80) (by rw [hlen]; exact hl) hr hi hq h1 h3 ht ho (.inl he) rfl

theorem serve_accepted {body : Bytes} {waits : Bool} {follow : Nat} (ha : arrives s m code len) (hau : authorised s m row.role)
    (hm : mine m = true) (h0 : row.role ≠ 0) (h80 : 80 ≤ len) (hl : fits m (len - 80) = true)
    (hrun : run (s.signedTaken m) m = ⟨x, 0, 0, body, waits, follow⟩) (hx : x.ctl = (s.signedTaken m).ctl) :
    s.serve mine row fits noGen run = { x with ctl := signedCtl s m body waits follow } := by
  rw [serve_arrives_signed ha hau hm h0 h80 hl, hrun, send_signed hau hx]

theorem serve_refused {e i : Nat} (ha : arrives s m code len) (hau : authorised s m row.role) (hm : mine m = true) (h0 : row.role ≠ 0)
    (h80 : 80 ≤ len) (hl : fits m (len - 80) = true) (hrun : run (s.signedTaken m) m = ⟨x, e, i, [], false, 0⟩) (he : e ≠ 0)
    (hx : x.ctl.replies = (s.signedTaken m).ctl.replies) : ∃ c, s.serve mine row fits noGen run = { x with ctl := c } ∧
      c.replies = s.ctl.replies ++ [⟨m.inBand, m.response e i [], false, 0⟩] := by
  rw [serve_arrives_signed ha hau hm h0 h80 hl, hrun, ← signedTaken_replies hau, ← hx]
  exact send_refused_signed x m i he

end

/-- What a queued phase leaves the converter at when its next work is taken up: it waits, or another conversion does, or it starts. -/
theorem kickHkc_queued {s : State} {k : HkcCal} (h : s.hkc.cal = some k) :
    s.kickHkc = s ∨ (∃ w c n, s.kickHkc = s.convert w c n) ∨ s.kickHkc = s.convertCal k := by
  unfold State.kickHkc
  dsimp only
  split
  · exact .inl rfl
  cases s.hkc.prio with
  | some p => exact .inr (.inl ⟨_, _, _, rfl⟩)
  | none =>
    simp only [h]
    split
    · exact .inr (.inr rfl)
    · exact .inl rfl

/-- A queued phase stays queued when the next work is taken up; it may be under way then. -/
theorem kickHkc_cal {s : State} {k : HkcCal} (h : s.hkc.cal = some k) : ∃ k', s.kickHkc.hkc.cal = some k' ∧ k'.phase = k.phase ∧
    k'.channel = k.channel ∧ k'.target = k.target ∧ (s.kickHkc.hkc.calState = s.hkc.calState ∨ s.kickHkc.hkc.calState = 2) := by
  rcases kickHkc_queued h with e | ⟨w, c, n, e⟩ | e <;> rw [e]
  · exact ⟨k, h, rfl, rfl, rfl, .inl rfl⟩
  · exact ⟨k, h, rfl, rfl, rfl, .inl rfl⟩
  · exact ⟨_, rfl, rfl, rfl, rfl, .inr rfl⟩

theorem calRange_pass {m : Msg} {c p : Nat} (h4 : m.field 4 1 = c) (hc : c = 4 ∨ c = 11 ∨ c = 12) (h5 : m.field 5 1 = p) (hp : 1 ≤ p ∧ p ≤ 3)
    (hfull : p = 2 → 4194304 ≤ m.calTarget ∧ m.calTarget ≤ 16777215) : m.calRange = false := by
  have hch : (!(c = 4 || c = 11 || c = 12)) = false := by rcases hc with rfl | rfl | rfl <;> rfl
  simp only [Msg.calRange, Msg.calChannel, Msg.calPhase, h4, h5, hch, within]
  by_cases h2 : p = 2
  · simp [h2, hfull h2]
  · simp [h2, hp]

/-- Steps 1 to 3 of R413 pass. -/
theorem calChecks_pass {s : State} {m : Msg} {c p : Nat} (h4 : m.field 4 1 = c) (hc : c = 4 ∨ c = 11 ∨ c = 12) (h5 : m.field 5 1 = p)
    (hp : 1 ≤ p ∧ p ≤ 3) (hnone : s.hkc.cal = none) (hfull : p = 2 → (spFind c s.hkc.zeros).isSome = true ∧ s.stored 0x2801 = 0 ∧
      4194304 ≤ m.calTarget ∧ m.calTarget ≤ 16777215) : ∀ x ∈ s.calChecks m, x.1 = false := by
  have hrange := calRange_pass h4 hc h5 hp fun h => (hfull h).2.2
  intro x hx
  simp only [State.calChecks, Msg.calChannel, Msg.calPhase, h4, h5, hrange, hnone, List.mem_cons, List.not_mem_nil, or_false] at hx
  rcases hx with rfl | rfl | rfl
  · rfl
  · rfl
  · by_cases h2 : p = 2
    · obtain ⟨hz, hs, -⟩ := hfull h2
      obtain ⟨z, hz⟩ := Option.isSome_iff_exists.mp hz
      simp [hz, hs]
    · simp [h2]

theorem signedTaken_stored (s : State) (m : Msg) (i : Nat) : (s.signedTaken m).stored i = s.stored i := by rw [signedTaken_eq]; rfl

/-- The entry of a calibration message, and the converter it leaves as it is. -/
theorem calCommitted (s : State) (m : Msg) : ∃ u, (s.signedTaken m).commitConfig m 0xFF 0 = u ∧ u.ctl = (s.signedTaken m).ctl ∧
    u.hkc = s.hkc ∧ recorded s u (configFor s m 0xFF 0) := by
  obtain ⟨hcommit, hrec⟩ := signedTaken_commitConfig s m 0xFF 0
  refine ⟨_, rfl, ?_, ?_, hrec⟩ <;> rw [hcommit] <;> simp

/-- ZERO or FULL accepted (R414). -/
theorem phaseQueued {s : State} {m : Msg} {mine : Msg → Bool} {c p : Nat} (ha : arrives s m 0xA0 92) (hau : authorised s m 2)
    (h4 : m.field 4 1 = c) (h5 : m.field 5 1 = p) (hm : mine m = true) (hpass : ∀ x ∈ (s.signedTaken m).calChecks m, x.1 = false) :
    ∃ t k, s.serve mine calRow (exactly 12) noGen State.calibrate = t ∧ t.hkc.suspended = true ∧ (t.hkc.calState = 1 ∨ t.hkc.calState = 2) ∧
      t.hkc.calChannel = c ∧ t.hkc.cal = some k ∧ k.phase = p ∧ k.channel = c ∧ k.target = m.calTarget ∧ t.hkc.coefs = s.hkc.coefs ∧
      t.ctl = signedCtl s m (leBytes 4 (boolNat (s.hkc.prio.isSome || s.hkc.prioDue.isSome))) false 0 ∧
      recorded s t (configFor s m 0xFF 0) := by
  obtain ⟨u, hu, hctl, hhkc, hrec⟩ := calCommitted s m
  obtain ⟨y, hy⟩ : ∃ y, u.queueCal m = y := ⟨_, rfl⟩
  have hq : y.hkc.cal = some { channel := c, phase := p, target := m.calTarget } ∧ y.hkc.calChannel = c ∧ y.hkc.calState = 1 ∧
      y.hkc.suspended = true ∧ y.hkc.coefs = s.hkc.coefs ∧ y.ctl = (s.signedTaken m).ctl ∧ y.led = u.led ∧ y.nvs = u.nvs := by
    rw [← hy, ← hhkc, ← h4, ← h5]
    exact ⟨rfl, rfl, rfl, rfl, rfl, hctl, rfl, rfl⟩
  obtain ⟨hcal, hchan, hst, hsus, hcoefs, hyctl, hled, hnvs⟩ := hq
  obtain ⟨k, hk, hk1, hk2, hk3, hstate⟩ := kickHkc_cal hcal
  obtain ⟨_, _, _, hkick, -⟩ := y.kickHkc_hkc
  have hrun : State.calibrate (s.signedTaken m) m =
      y.kickHkc.accept (leBytes 4 (boolNat (s.hkc.prio.isSome || s.hkc.prioDue.isSome))) := by
    rw [State.calibrate, State.check_pass hpass, State.acceptCal, hu, hy]
    simp
  refine ⟨_, k, serve_accepted ha hau hm (by decide) (by decide) (decide_eq_true rfl) hrun (by simpa using hyctl), ?_, ?_, ?_, hk, hk1, hk2, hk3,
    ?_, rfl, recorded_of_same hrec (by simpa using hled) (by simp [hnvs])⟩
  · simp only [hkick, hsus]
  · rw [hst] at hstate
    exact hstate
  · simp only [hkick, hchan]
  · simp only [hkick, hcoefs]

theorem isPhase_of {m : Msg} {p : Nat} (hf : m.formed = true) (hc : m.code = 0xA0) (h5 : m.field 5 1 = p) : isPhase p m = true := by
  rw [isPhase, Msg.isCode_of hf hc, Msg.calPhase, h5]
  exact decide_eq_true rfl

/-- CLEAR accepted (R414). -/
theorem coefficientsCleared {s : State} {m : Msg} {c : Nat} (ha : arrives s m 0xA0 92) (hau : authorised s m 2) (h4 : m.field 4 1 = c)
    (h5 : m.field 5 1 = 3) (hpass : ∀ x ∈ (s.signedTaken m).calChecks m, x.1 = false) :
    ∃ t, exec .hkcCalClear s = .next t ∧ t.hkc = { s.hkc with coefs := recordPut c (0, 4194304) s.hkc.coefs } ∧
        t.ctl = signedCtl s m (zeros 4) false 0 ∧ recorded s t (configFor s m 0xFF 0) := by
  obtain ⟨u, hu, hctl, hhkc, hrec⟩ := calCommitted s m
  obtain ⟨y, hy⟩ : ∃ y : State, { u with hkc := { u.hkc with coefs := recordPut c (0, 4194304) u.hkc.coefs } } = y := ⟨_, rfl⟩
  have hrun : State.calClear (s.signedTaken m) m = y.accept (zeros 4) := by
    rw [State.calClear, State.check_pass hpass, hu, Msg.calChannel, h4, ← hy]
  exact ⟨_, congrArg Host.Outcome.next (serve_accepted (row := calRow) ha hau (isPhase_of ha.2.2.1 ha.2.2.2.1 h5) (by decide) (by decide)
      (decide_eq_true rfl) hrun (hy ▸ hctl)),
    by rw [← hhkc, ← hy], rfl, recorded_of_same hrec (by rw [← hy]) (by rw [← hy])⟩

/-- A row of the calibration messages that refuses leaves the converter and NVS. -/
theorem phaseRefused {s : State} {m : Msg} {mine : Msg → Bool} {run : State → Msg → Answer} {e : Nat} (ha : arrives s m 0xA0 92)
    (hau : authorised s m 2) (hm : mine m = true) (hrun : run (s.signedTaken m) m = (s.signedTaken m).refuse e) (he : e ≠ 0) :
    ∃ t, s.serve mine calRow (exactly 12) noGen run = t ∧ t.hkc = s.hkc ∧ t.nvs = s.nvs ∧
      t.ctl.replies = s.ctl.replies ++ [⟨m.inBand, m.response e 0 [], false, 0⟩] := by
  obtain ⟨c, ht, hc⟩ := serve_refused (row := calRow) (fits := exactly 12) ha hau hm (by decide) (by decide) (decide_eq_true rfl) hrun he rfl
  exact ⟨_, ht, by simp, by simp, hc⟩

/-- The first of the checks of R413 that fails. -/
theorem calChecks_busy {s : State} {m : Msg} {k : HkcCal} {f : Unit → Answer} (hr : m.calRange = false) (hk : s.hkc.cal = some k) :
    s.check (s.calChecks m) f = s.refuse 1 := by
  simp [State.check, State.calChecks, firstError, hr, hk, errBusy]

theorem calChecks_state {s : State} {m : Msg} {c : Nat} {f : Unit → Answer} (hr : m.calRange = false) (hk : s.hkc.cal = none)
    (h4 : m.field 4 1 = c) (h5 : m.field 5 1 = 2) (hz : spFind c s.hkc.zeros = none ∨ s.stored 0x2801 ≠ 0) :
    s.check (s.calChecks m) f = s.refuse 7 := by
  have hbad : ((spFind c s.hkc.zeros).isNone || s.stored 0x2801 != 0) = true := by
    rcases hz with h | h <;> simp [h]
  simp [State.check, State.calChecks, firstError, hr, hk, Msg.calPhase, Msg.calChannel, h4, h5, hbad, errState]

/-- Settles O56: each phase by the checks of R413 it passes, or the first that it fails. -/
theorem calibrateMessages_all : Obligations.CalibrateMessages := by
  intro s m c p ha hau h4 hc h5
  have hf := ha.2.2.1
  have hcode := ha.2.2.2.1
  have hzero : p = 1 → (m.isCode 0xA0 && !within 2 3 m.calPhase) = true := fun hp => by
    rw [Msg.isCode_of hf hcode, Msg.calPhase, h5, hp]
    rfl
  refine ⟨fun hnone => ⟨fun hp => ?_, fun z hp hz hs hlo hhi => ?_, fun hp => ?_⟩, fun hnone hp hlo hhi hbad => ?_, fun k i hk hi => ?_⟩
  · obtain ⟨t, k, ht, h1, h2, h3, hk, hk1, hk2, -, h6, h7, h8⟩ := phaseQueued (mine := fun m => m.isCode 0xA0 && !within 2 3 m.calPhase) ha hau h4 h5 (hzero hp)
      (calChecks_pass h4 hc h5 (by omega) (by simpa using hnone) (by omega))
    exact ⟨t, congrArg Host.Outcome.next ht, h1, h2, h3, by rw [hk, Option.map_some, hk1, hp], by rw [hk, Option.map_some, hk2], h6, h7, h8⟩
  · obtain ⟨t, k, ht, h1, h2, h3, hk, -, -, hk3, h6, -, h8⟩ := phaseQueued ha hau h4 h5 (isPhase_of hf hcode (h5.trans hp))
      (calChecks_pass h4 hc h5 (by omega) (by simpa using hnone) (fun _ => ⟨by simp [hz], by rw [signedTaken_stored, hs], hlo, hhi⟩))
    exact ⟨t, congrArg Host.Outcome.next ht, h1, h2, h3, by rw [hk, Option.map_some, hk3], h6, h8⟩
  · exact coefficientsCleared ha hau h4 (h5.trans hp) (calChecks_pass h4 hc h5 (by omega) (by simpa using hnone) (by omega))
  · obtain ⟨t, ht, h1, -, h3⟩ := phaseRefused ha hau (isPhase_of hf hcode (h5.trans hp)) (run := State.calibrate)
      (calChecks_state (calRange_pass h4 hc h5 (by omega) fun _ => ⟨hlo, hhi⟩) (by simpa using hnone) h4 (h5.trans hp)
        (by simpa [signedTaken_stored] using hbad)) (by decide)
    exact ⟨t, congrArg Host.Outcome.next ht, h1, h3⟩
  · have hbusy : ∀ f, m.calRange = false → (s.signedTaken m).check ((s.signedTaken m).calChecks m) f = (s.signedTaken m).refuse 1 :=
      fun f hr => calChecks_busy hr (k := k) (by simpa using hk)
    rcases hi with ⟨hp, rfl⟩ | ⟨hp, rfl⟩ | ⟨hp, rfl, hlo, hhi⟩
    · obtain ⟨t, ht, h⟩ := phaseRefused (mine := fun m => m.isCode 0xA0 && !within 2 3 m.calPhase) ha hau (hzero hp) (run := State.calibrate)
        (hbusy _ (calRange_pass h4 hc h5 (by omega) (by omega))) (by decide)
      exact ⟨t, congrArg Host.Outcome.next ht, h⟩
    · obtain ⟨t, ht, h⟩ := phaseRefused ha hau (isPhase_of hf hcode (h5.trans hp)) (run := State.calClear)
        (hbusy _ (calRange_pass h4 hc h5 (by omega) (by omega))) (by decide)
      exact ⟨t, congrArg Host.Outcome.next ht, h⟩
    · obtain ⟨t, ht, h⟩ := phaseRefused ha hau (isPhase_of hf hcode (h5.trans hp)) (run := State.calibrate)
        (hbusy _ (calRange_pass h4 hc h5 (by omega) fun _ => ⟨hlo, hhi⟩)) (by decide)
      exact ⟨t, congrArg Host.Outcome.next ht, h⟩

end Sys2Proof.Machine

namespace Sys2Proof.Machine

/-! ## View messages (R122 to R127) -/

/-- Generation, window and counts of a view. -/
structure ViewFace where
  genNo : Nat
  gen : ViewGen
  frames : Word
  gaps : Word

def View.face (x : View) : ViewFace := ⟨x.genNo, x.gen, x.frames, x.gaps⟩

/-- Every view keeps its generation and counts, and its state but that a start may complete. -/
def KeepsFaces (s t : State) : Prop := ∀ w, (t.viewAt w).face = (s.viewAt w).face ∧
  ((t.viewAt w).state = (s.viewAt w).state ∨ (s.viewAt w).state = .starting ∧ (t.viewAt w).state = .running)

theorem KeepsFaces.of_view {s t : State} (h : t.view = s.view) : KeepsFaces s t := fun w => by
  rw [State.viewAt_of_view h]
  exact ⟨rfl, .inl rfl⟩

theorem KeepsFaces.trans {s t u : State} (h : KeepsFaces s t) (h' : KeepsFaces t u) : KeepsFaces s u := fun w => by
  obtain ⟨hf, hs⟩ := h w
  obtain ⟨hf', hs'⟩ := h' w
  refine ⟨hf'.trans hf, ?_⟩
  rcases hs with hs | ⟨h1, h2⟩
  · rw [← hs]
    exact hs'
  · rcases hs' with hs' | ⟨h3, -⟩
    · exact .inr ⟨h1, hs'.trans h2⟩
    · rw [h2] at h3
      cases h3

/-- One view changed. -/
theorem KeepsFaces.onView {s : State} {v : Nat} {f : View → View} (hf : (f (s.viewAt v)).face = (s.viewAt v).face)
    (hs : (f (s.viewAt v)).state = (s.viewAt v).state ∨ (s.viewAt v).state = .starting ∧ (f (s.viewAt v)).state = .running) :
    KeepsFaces s (s.onView v f) := fun w => by
  by_cases hw : w = v
  · subst hw
    by_cases hlt : w < 32
    · rw [State.viewAt_onView_same _ _ hlt]
      exact ⟨hf, hs⟩
    · simp [State.onView, State.setView, hlt]
  · rw [State.viewAt_onView_other _ _ hw]
    exact ⟨rfl, .inl rfl⟩

theorem rated_face (s : State) (n : Nat) (x : View) : (s.rated n x).face = x.face ∧ (s.rated n x).state = x.state := by
  unfold State.rated
  split <;> exact ⟨rfl, rfl⟩

theorem useInterval_keepsFaces (s : State) (n : Nat) : KeepsFaces s (s.useInterval n) := by
  unfold State.useInterval
  split
  · exact .of_view rfl
  · intro w
    obtain ⟨hf, hs⟩ := rated_face s n (s.viewAt w)
    rw [show ∀ e : Ets, ({ s with ets := e, view := s.view.map (s.rated n) } : State).viewAt w = s.rated n (s.viewAt w) from
      fun _ => s.viewAt_map (s.rated n) (s.rated_empty n) w]
    exact ⟨hf, .inl hs⟩

theorem settle_keepsFaces (s : State) (v : Nat) : KeepsFaces s (s.settle v) := fun w => by
  have h := s.settle_plain v w
  exact ⟨(congrArg View.face h :), .inl (congrArg View.state h :)⟩

theorem completeView_keepsFaces {s : State} {v : Nat} (h : (s.viewAt v).state = .starting) : KeepsFaces s (s.completeView v) := by
  unfold State.completeView
  generalize hx : (if (s.viewAt v).reactivating then s else s.adoptTables) = x
  have hv : x.view = s.view := by
    rw [← hx]
    split <;> simp
  dsimp only
  generalize hy : x.onView v _ = y
  have hk : KeepsFaces s y := by
    rw [← hy]
    refine (KeepsFaces.of_view hv).trans (.onView rfl (.inr ⟨?_, rfl⟩))
    rw [State.viewAt_of_view hv]
    exact h
  refine hk.trans ((useInterval_keepsFaces y (y.interval y.pix.quadReady.toNat)).trans (.of_view ?_))
  simp

theorem completeStarts_keepsFaces (s : State) : KeepsFaces s s.completeStarts := by
  unfold State.completeStarts
  generalize List.range 32 = l
  induction l generalizing s with
  | nil => exact .of_view rfl
  | cons v l ih =>
    refine KeepsFaces.trans ?_ (ih _)
    dsimp only
    split
    · next h => exact completeView_keepsFaces (by simp at h; exact h.1.1)
    · exact .of_view rfl

theorem supply_keepsFaces (s : State) : KeepsFaces s s.supply := .of_view (by simp)

theorem rate_keepsFaces (s : State) (v : Nat) : KeepsFaces s (s.onView v fun x => s.rated s.ets.intervalUsed x) :=
  .onView (rated_face _ _ _).1 (.inl (rated_face _ _ _).2)

/-- A view with the RECONFIG gaps of a generation flushed, and its captures left: the others are as they were. -/
theorem flushReconfig_plain (s : State) {v : Nat} (hv : v < 32) : (∀ w, w ≠ v → (s.flushReconfig v).viewAt w = s.viewAt w) ∧
    ((s.flushReconfig v).viewAt v).genNo = (s.viewAt v).genNo ∧ ((s.flushReconfig v).viewAt v).gen = (s.viewAt v).gen := by
  unfold State.flushReconfig
  dsimp only
  have hother : ∀ w, w ≠ v → ∀ (l : List SegValue) (f : State → SegValue → SegValue) (y : State),
      (l.foldl (fun s r => s.joinValue v (f s r)) y).viewAt w = y.viewAt w := fun w hw l f y =>
    foldl_same (fun x : State => x.viewAt w) (fun _ _ => State.joinValue_other _ _ hw) l y
  have hplain : ∀ (l : List SegValue) (f : State → SegValue → SegValue) (y : State),
      ((l.foldl (fun s r => s.joinValue v (f s r)) y).viewAt v).plain = (y.viewAt v).plain := fun l f y =>
    foldl_same (fun x : State => (x.viewAt v).plain) (fun _ _ => State.joinValue_plain _ _ _ _) l y
  refine ⟨fun w hw => (hother w hw _ _ _).trans (State.viewAt_onView_other _ _ hw), ?_, ?_⟩
  · refine (congrArg View.genNo (hplain _ _ _) :).trans ?_
    rw [State.viewAt_onView_same _ _ hv]
    rfl
  · refine (congrArg View.gen (hplain _ _ _) :).trans ?_
    rw [State.viewAt_onView_same _ _ hv]
    rfl

/-- A view message that passes checks 1 to 8 is answered by its row. -/
theorem viewServed {s : State} {m : Msg} {row : MsgRow} {run : State → Msg → Answer} {v : Nat} (ha : arrives s m row.code 88)
    (hau : authorised s m row.role) (h0 : row.role ≠ 0) (h4 : m.field 4 1 = v) (hv : v < 32) (h5 : m.field 5 1 = (s.viewAt v).genNo) :
    s.serveCode row (exactly 8) viewGenError run = (run (s.signedTaken m) m).send m true := by
  refine serveCode_signed ha hau h0 (by decide) (decide_eq_true rfl) ?_
  have hview : (s.signedTaken m).viewAt v = s.viewAt v := State.viewAt_of_view (by simp) v
  rw [viewGenError, Msg.view, h4, hview, h5, if_neg (by omega)]
  simp [errOk]

/-- The entry of a view message, committed once the message is taken. -/
theorem viewCommitted {s : State} {m : Msg} {v g : Nat} (h4 : m.field 4 1 = v) (h5 : m.field 5 1 = g) :
    ∃ u, (s.signedTaken m).commitView m = u ∧ u.ctl = (s.signedTaken m).ctl ∧ u.view = s.view ∧ u.ets = s.ets ∧ u.par = s.par ∧
      u.fus = s.fus ∧ recorded s u (configFor s m v g) := by
  obtain ⟨hcommit, hrec⟩ := signedTaken_commitConfig s m v g
  refine ⟨_, by rw [State.commitView, Msg.view, h4, h5], ?_, ?_, ?_, ?_, ?_, hrec⟩
  · rw [hcommit]
    simp
  · rw [hcommit]
    have h := (s.signedTaken m).commitNow_entryKept (configFor s m v g)
    exact (congrArg EntryKept.views h).trans (by simp [State.entryKept])
  all_goals
    rw [hcommit]
    simp

theorem checkNumbered_pass {s : State} {n : Nat} {l : List (Bool × Nat)} {f : Unit → Answer} (h : ∀ c ∈ l, c.1 = false) :
    s.checkNumbered n l f = f () := by
  have hnone : l.findIdx? Prod.fst = none := List.findIdx?_eq_none_iff.mpr h
  rw [State.checkNumbered, hnone]

/-- The interval noted keeps the views, and of ETS changes the interval only. -/
theorem noteInterval_keeps (s : State) (v : Nat) (g : ViewGen) : KeepsFaces s (s.noteInterval v g) ∧
    (s.noteInterval v g).ets = { s.ets with intervalUsed := (s.noteInterval v g).ets.intervalUsed } := by
  refine ⟨useInterval_keepsFaces _ _, ?_⟩
  unfold State.noteInterval State.useInterval
  split <;> rfl

/-- The running view whose generation ends. -/
theorem renewView_faces (s : State) {v : Nat} (hv : v < 32) : (∀ w, w ≠ v → (s.renewView v).viewAt w = s.viewAt w) ∧
    ((s.renewView v).viewAt v).genNo = (s.viewAt v).genNo := by
  obtain ⟨h1, h2, -⟩ := flushReconfig_plain s hv
  unfold State.renewView
  refine ⟨fun w hw => (State.viewAt_onView_other _ _ hw).trans (h1 w hw), ?_⟩
  rw [State.viewAt_onView_same _ _ hv]
  exact h2

/-- A running view in its new generation. -/
theorem reactivate_faces (s : State) {v : Nat} (hv : v < 32) (g : ViewGen) :
    ((s.reactivate v g).viewAt v).face = ⟨nextGen (s.viewAt v).genNo, g, 0, 0⟩ ∧
    (((s.reactivate v g).viewAt v).state = .starting ∨ ((s.reactivate v g).viewAt v).state = .running) ∧
    ∀ w, w ≠ v → ((s.reactivate v g).viewAt w).face = (s.viewAt w).face := by
  obtain ⟨hother, hgen⟩ := renewView_faces s hv
  unfold State.reactivate
  dsimp only
  obtain ⟨y, hy⟩ : ∃ y, (s.renewView v).onView v (fun x => { x.install g with
    state := .starting, waiting := true, reactivating := true, renewed := true, reconfig := s.lookBack v g, held := none
    digest := leBytes 64 (Config.unformedDigest s.free).toNat }) = y := ⟨_, rfl⟩
  rw [hy]
  have hface : (y.viewAt v).face = ⟨nextGen (s.viewAt v).genNo, g, 0, 0⟩ ∧ (y.viewAt v).state = .starting := by
    rw [← hy, State.viewAt_onView_same _ _ hv, ← hgen]
    exact ⟨rfl, rfl⟩
  have hk : KeepsFaces y (({ y with free := y.free + 1 }.settle v).supply.completeStarts) :=
    (KeepsFaces.of_view (t := { y with free := y.free + 1 }) rfl).trans
      ((settle_keepsFaces _ _).trans ((supply_keepsFaces _).trans (completeStarts_keepsFaces _)))
  refine ⟨(hk v).1.trans hface.1, ?_, fun w hw => (hk w).1.trans ?_⟩
  · rcases (hk v).2 with h | ⟨-, h⟩
    · exact .inl (h.trans hface.2)
    · exact .inr h
  · rw [← hy, State.viewAt_onView_other _ _ hw, hother w hw]

/-- An activation (R125 to R127). -/
theorem activated {s : State} {m : Msg} {v : Nat} {x : View} {g : ViewGen} (h4 : m.field 4 1 = v) (hv : v < 32) (hx : s.viewAt v = x)
    (h5 : m.field 5 1 = x.genNo) (ha : arrives s m 0x20 88) (hau : authorised s m 2) (hg : g = s.stagedView v) (hbetween : x.between = false)
    (hw : g.windowOk = true) (hpass : ∀ c ∈ (s.signedTaken m).viewChecks v g, c.1 = false) : ∃ t, exec .msgViewActivate s = .next t ∧
        t.ctl = signedCtl s m (leBytes 4 (nextGen x.genNo)) false 0 ∧ recorded s t (configFor s m v x.genNo) ∧
        (t.viewAt v).genNo = nextGen x.genNo ∧ (t.viewAt v).gen = g ∧ (t.viewAt v).frames = 0 ∧ (t.viewAt v).gaps = 0 ∧
        (x.state = .idle → (t.viewAt v).state = .idle ∧ t.ets = { s.ets with intervalUsed := t.ets.intervalUsed }) ∧
        (x.state = .running → (t.viewAt v).state = .starting ∨ (t.viewAt v).state = .running) ∧ t.par = s.par ∧ t.fus = s.fus ∧
        (∀ w, w ≠ v → (t.viewAt w).genNo = (s.viewAt w).genNo ∧ (t.viewAt w).gen = (s.viewAt w).gen) := by
  obtain ⟨u, hu, hctl, hview, hets, hpar, hfus, hrec⟩ := viewCommitted (s := s) h4 h5
  have hview' : (s.signedTaken m).viewAt v = x := (State.viewAt_of_view (by simp) v).trans hx
  have hstaged : (s.signedTaken m).stagedView v = g := by
    rw [hg, signedTaken_eq]
    rfl
  obtain ⟨n, hn⟩ : ∃ n, u.noteInterval v g = n := ⟨_, rfl⟩
  obtain ⟨hnk, hnets⟩ := noteInterval_keeps u v g
  rw [hn] at hnk hnets
  have hun : KeepsFaces s n := (KeepsFaces.of_view hview).trans hnk
  obtain ⟨y, hy⟩ : ∃ y, (if x.state = .idle then n.onView v fun x => x.install g else n.reactivate v g) = y := ⟨_, rfl⟩
  have hframe : y.ctl = (s.signedTaken m).ctl ∧ y.par = s.par ∧ y.fus = s.fus ∧ y.led = u.led ∧ y.nvs.mem = u.nvs.mem := by
    rw [← hy, ← hn]
    split <;> simp [hctl, hpar, hfus]
  obtain ⟨hyctl, hypar, hyfus, hyled, hymem⟩ := hframe
  have hyface : (y.viewAt v).face = ⟨nextGen x.genNo, g, 0, 0⟩ ∧ (∀ w, w ≠ v → (y.viewAt w).face = (s.viewAt w).face) ∧
      (x.state = .idle → (y.viewAt v).state = .idle ∧ y.ets = { s.ets with intervalUsed := y.ets.intervalUsed }) ∧
      (x.state ≠ .idle → (y.viewAt v).state = .starting ∨ (y.viewAt v).state = .running) := by
    have hgen : (n.viewAt v).genNo = x.genNo := (congrArg ViewFace.genNo (hun v).1).trans (congrArg View.genNo hx)
    rw [← hy]
    split
    next hi =>
      have hst : (n.viewAt v).state = .idle := by
        rcases (hun v).2 with h | ⟨h, -⟩
        · rw [h, hx, hi]
        · rw [hx, hi] at h
          cases h
      refine ⟨?_, fun w hw => ?_, fun _ => ⟨?_, ?_⟩, fun h => absurd hi h⟩
      · rw [State.viewAt_onView_same _ _ hv, ← hgen]
        rfl
      · rw [State.viewAt_onView_other _ _ hw]
        exact (hun w).1
      · rw [State.viewAt_onView_same _ _ hv]
        exact hst
      · have he : ∀ f, (n.onView v f).ets = n.ets := fun f => by simp
        rw [he, hnets, hets]
    next hi =>
      obtain ⟨h1, h2, h3⟩ := reactivate_faces n hv g
      exact ⟨by rw [h1, hgen], fun w hw => (h3 w hw).trans (hun w).1, fun h => absurd h hi, fun _ => h2⟩
  obtain ⟨hf, hfo, hidle, hrun⟩ := hyface
  have hrate := rate_keepsFaces y v
  have hstate : ((y.onView v fun x => y.rated y.ets.intervalUsed x).viewAt v).state = (y.viewAt v).state := by
    rw [State.viewAt_onView_same _ _ hv]
    exact (rated_face _ _ _).2
  have e : State.viewActivate (s.signedTaken m) m =
      (y.onView v fun x => y.rated y.ets.intervalUsed x).accept (leBytes 4 (nextGen x.genNo)) := by
    rw [State.viewActivate, Msg.view, h4, hview', hstaged, State.check_pass (by simp [hbetween]),
      checkNumbered_pass (by simpa [hw] using hpass)]
    simp only [State.activate, Msg.view, h4, hu, hn, hview', hy]
  have hface : ((y.onView v fun x => y.rated y.ets.intervalUsed x).viewAt v).face = ⟨nextGen x.genNo, g, 0, 0⟩ := (hrate v).1.trans hf
  refine ⟨_, congrArg Host.Outcome.next ((viewServed ha hau (by decide) h4 hv (hx ▸ h5)).trans
    ((congrArg (fun a : Answer => a.send m true) e).trans (send_signed hau (by simpa using hyctl) _ false 0))), rfl,
    recorded_of_same hrec (by simpa using hyled) (by simp [hymem]), (congrArg ViewFace.genNo hface :), (congrArg ViewFace.gen hface :),
    (congrArg ViewFace.frames hface :), (congrArg ViewFace.gaps hface :), fun hi => ⟨hstate.trans (hidle hi).1, ?_⟩, fun hr => ?_, by simpa using hypar,
    by simpa using hyfus, fun w hw => ⟨(congrArg ViewFace.genNo ((hrate w).1.trans (hfo w hw)) :), (congrArg ViewFace.gen ((hrate w).1.trans (hfo w hw)) :)⟩⟩
  · simpa using (hidle hi).2
  · exact (hrun (by rw [hr]; decide)).imp hstate.trans hstate.trans

/-- A start (R125). -/
theorem started {s : State} {m : Msg} {v : Nat} {x : View} (h4 : m.field 4 1 = v) (hv : v < 32) (hx : s.viewAt v = x)
    (h5 : m.field 5 1 = x.genNo) (ha : arrives s m 0x21 88) (hau : authorised s m 1) (hidle : x.state = .idle) (hgen : x.genNo ≠ 0)
    (hpass : ∀ c ∈ (s.signedTaken m).viewChecks v x.gen, c.1 = false) :
      ∃ t, exec .msgViewStart s = .next t ∧ t.ctl = signedCtl s m [] false 0 ∧ recorded s t (configFor s m v x.genNo) ∧
        ((t.viewAt v).state = .starting ∨ (t.viewAt v).state = .running) ∧ (t.viewAt v).gen = x.gen ∧
        (t.viewAt v).genNo = x.genNo ∧ (t.viewAt v).frames = 0 ∧ (t.viewAt v).gaps = 0 ∧ t.par = s.par ∧ t.fus = s.fus ∧
        (∀ w, w ≠ v → (t.viewAt w).genNo = (s.viewAt w).genNo ∧ (t.viewAt w).gen = (s.viewAt w).gen) := by
  obtain ⟨u, hu, hctl, hview, -, hpar, hfus, hrec⟩ := viewCommitted (s := s) h4 h5
  have hview' : (s.signedTaken m).viewAt v = x := (State.viewAt_of_view (by simp) v).trans hx
  obtain ⟨n, hn⟩ : ∃ n, u.noteInterval v x.gen = n := ⟨_, rfl⟩
  have hun : KeepsFaces s n := (KeepsFaces.of_view hview).trans (hn ▸ (noteInterval_keeps u v x.gen).1)
  obtain ⟨y, hy⟩ : ∃ y, (n.onView v fun x => { x with
    state := .starting, waiting := true, reactivating := false, renewed := false, held := none, reconfig := [], frames := 0, gaps := 0 }) = y :=
    ⟨_, rfl⟩
  have hyface : (y.viewAt v).face = ⟨x.genNo, x.gen, 0, 0⟩ ∧ (y.viewAt v).state = .starting := by
    have h1 : (n.viewAt v).genNo = x.genNo := (congrArg ViewFace.genNo (hun v).1).trans (congrArg View.genNo hx)
    have h2 : (n.viewAt v).gen = x.gen := (congrArg ViewFace.gen (hun v).1).trans (congrArg View.gen hx)
    rw [← hy, State.viewAt_onView_same _ _ hv, ← h1, ← h2]
    exact ⟨rfl, rfl⟩
  have hother : ∀ w, w ≠ v → (y.viewAt w).face = (s.viewAt w).face := fun w hw => by
    rw [← hy, State.viewAt_onView_other _ _ hw]
    exact (hun w).1
  obtain ⟨z, hz⟩ : ∃ z, y.supply.completeStarts = z := ⟨_, rfl⟩
  have hk : KeepsFaces y z := hz ▸ (supply_keepsFaces y).trans (completeStarts_keepsFaces _)
  have hframe : z.ctl = (s.signedTaken m).ctl ∧ z.par = s.par ∧ z.fus = s.fus ∧ z.led = u.led ∧ z.nvs.mem = u.nvs.mem := by
    rw [← hz, ← hy, ← hn]
    simp [hctl, hpar, hfus]
  obtain ⟨hzctl, hzpar, hzfus, hzled, hzmem⟩ := hframe
  have e : State.viewStart (s.signedTaken m) m = z.accept [] := by
    rw [State.viewStart, Msg.view, h4, hview', State.check_pass (by simp [View.between, hidle, hgen]), checkNumbered_pass hpass]
    simp only [State.startView, Msg.view, h4, hu, hview', hn, hy, hz]
  have hface : (z.viewAt v).face = ⟨x.genNo, x.gen, 0, 0⟩ := (hk v).1.trans hyface.1
  refine ⟨_, congrArg Host.Outcome.next ((viewServed ha hau (by decide) h4 hv (hx ▸ h5)).trans
    ((congrArg (fun a : Answer => a.send m true) e).trans (send_signed hau hzctl _ false 0))), rfl,
    recorded_of_same hrec hzled hzmem, ?_, (congrArg ViewFace.gen hface :), (congrArg ViewFace.genNo hface :),
    (congrArg ViewFace.frames hface :), (congrArg ViewFace.gaps hface :), hzpar, hzfus,
    fun w hw => ⟨(congrArg ViewFace.genNo ((hk w).1.trans (hother w hw)) :), (congrArg ViewFace.gen ((hk w).1.trans (hother w hw)) :)⟩⟩
  rcases (hk v).2 with h | ⟨-, h⟩
  · exact .inl (h.trans hyface.2)
  · exact .inr h

/-- The captures whose readout has not begun leave a view that is cut. -/
theorem cutView_captures (s : State) (v : Nat) : (∀ c ∈ (s.cutView v).ets.captures, c.released = 0 → ¬ v ∈ c.views) ∧
    (s.cutView v).ets.captures.length = s.ets.captures.length := by
  have he : ∀ (y : State) (f : View → View), (y.onView v f).ets = y.ets := fun y f => by simp
  rw [State.cutView, he]
  refine ⟨fun c hc h0 hmem => ?_, by simp [State.leaveCaptures]⟩
  obtain ⟨d, -, rfl⟩ := List.mem_map.mp hc
  by_cases hd : d.released = 0
  · rw [if_pos hd] at hmem
    exact absurd rfl (bne_iff_ne.1 (List.mem_filter.1 hmem).2)
  · rw [if_neg hd] at h0
    exact hd h0

theorem cutView_faces (s : State) {v : Nat} (hv : v < 32) : (∀ w, w ≠ v → (s.cutView v).viewAt w = s.viewAt w) ∧
    ((s.cutView v).viewAt v).genNo = (s.viewAt v).genNo ∧ ((s.cutView v).viewAt v).gen = (s.viewAt v).gen := by
  obtain ⟨h1, h2, h3⟩ := flushReconfig_plain s hv
  unfold State.cutView
  refine ⟨fun w hw => (State.viewAt_onView_other _ _ hw).trans (h1 w hw), ?_, ?_⟩
  · rw [State.viewAt_onView_same _ _ hv]
    exact h2
  · rw [State.viewAt_onView_same _ _ hv]
    exact h3

/-- A STOPPING view stays so, or becomes IDLE; generations stay. -/
theorem endStop_faces (s : State) {v : Nat} (hv : v < 32) (h : (s.viewAt v).state = .stopping) :
    (((s.endStop v).viewAt v).state = .stopping ∨ ((s.endStop v).viewAt v).state = .idle) ∧
    ∀ w, ((s.endStop v).viewAt w).face = (s.viewAt w).face := by
  unfold State.endStop
  split
  · obtain ⟨y, hy⟩ : ∃ y, (s.onView v fun x => { x with state := .idle, reconfig := [] }) = y := ⟨_, rfl⟩
    have hview : y.supply.view = y.view := by simp
    rw [hy]
    refine ⟨.inr ?_, fun w => ?_⟩
    · rw [State.viewAt_of_view hview, ← hy, State.viewAt_onView_same _ _ hv]
    · rw [State.viewAt_of_view hview, ← hy]
      by_cases hw : w = v
      · rw [hw, State.viewAt_onView_same _ _ hv]
        rfl
      · rw [State.viewAt_onView_other _ _ hw]
  · exact ⟨.inl h, fun _ => rfl⟩

/-- A stop (R126, R127). -/
theorem viewStopped {s : State} {m : Msg} {v : Nat} {x : View} (h4 : m.field 4 1 = v) (hv : v < 32) (hx : s.viewAt v = x)
    (h5 : m.field 5 1 = x.genNo) (ha : arrives s m 0x22 88) (hau : authorised s m 1) (hst : x.state = .running ∨ x.state = .starting) :
    ∃ t, exec .msgViewStop s = .next t ∧
      t.ctl = signedCtl s m [] false 0 ∧ recorded s t (configFor s m v x.genNo) ∧ ((t.viewAt v).state = .stopping ∨ (t.viewAt v).state = .idle) ∧
      (∀ c ∈ t.ets.captures, c.released = 0 → ¬ v ∈ c.views) ∧ t.ets.captures.length = s.ets.captures.length ∧
      (t.viewAt v).gen = x.gen ∧ (t.viewAt v).genNo = x.genNo ∧ t.par = s.par ∧ t.fus = s.fus ∧
      (∀ w, w ≠ v → (t.viewAt w).genNo = (s.viewAt w).genNo ∧ (t.viewAt w).gen = (s.viewAt w).gen) := by
  obtain ⟨u, hu, hctl, hview, hets, hpar, hfus, hrec⟩ := viewCommitted (s := s) h4 h5
  have hview' : (s.signedTaken m).viewAt v = x := (State.viewAt_of_view (by simp) v).trans hx
  obtain ⟨y, hy⟩ : ∃ y, ((u.cutView v).onView v fun x => { x with state := .stopping, waiting := false, reactivating := false }) = y := ⟨_, rfl⟩
  obtain ⟨hc1, hc2, hc3⟩ := cutView_faces u hv
  obtain ⟨hcap, hlen⟩ := cutView_captures u v
  have hyface : (y.viewAt v).state = .stopping ∧ (y.viewAt v).genNo = x.genNo ∧ (y.viewAt v).gen = x.gen ∧
      ∀ w, w ≠ v → y.viewAt w = s.viewAt w := by
    have hux : u.viewAt v = x := (State.viewAt_of_view hview v).trans hx
    rw [← hy, State.viewAt_onView_same _ _ hv, ← hux]
    exact ⟨rfl, hc2, hc3, fun w hw => (State.viewAt_onView_other _ _ hw).trans ((hc1 w hw).trans (State.viewAt_of_view hview w))⟩
  obtain ⟨hys, hyn, hyg, hyo⟩ := hyface
  obtain ⟨z, hz⟩ : ∃ z, ((y.settle v).endStop v).supply = z := ⟨_, rfl⟩
  have hsettled : ((y.settle v).viewAt v).state = .stopping := by
    rcases (settle_keepsFaces y v v).2 with h | ⟨h, -⟩
    · exact h.trans hys
    · rw [hys] at h
      cases h
  obtain ⟨he1, he2⟩ := endStop_faces (y.settle v) hv hsettled
  have hzview : z.view = ((y.settle v).endStop v).view := by rw [← hz]; simp
  have hzface : ∀ w, (z.viewAt w).face = (y.viewAt w).face := fun w => by
    rw [State.viewAt_of_view hzview, he2 w]
    exact (settle_keepsFaces y v w).1
  have hframe : z.ctl = (s.signedTaken m).ctl ∧ z.par = s.par ∧ z.fus = s.fus ∧ z.led = u.led ∧ z.nvs.mem = u.nvs.mem ∧
      z.ets = (u.cutView v).ets := by
    rw [← hz, ← hy]
    simp [hctl, hpar, hfus]
  obtain ⟨hzctl, hzpar, hzfus, hzled, hzmem, hzets⟩ := hframe
  have e : State.viewStop (s.signedTaken m) m = z.accept [] := by
    rw [State.viewStop, Msg.view, h4, hview', State.check_pass (by rcases hst with h | h <;> simp [h])]
    simp only [State.stopView, Msg.view, h4, hu, hy, hz]
  refine ⟨_, congrArg Host.Outcome.next ((viewServed ha hau (by decide) h4 hv (hx ▸ h5)).trans
    ((congrArg (fun a : Answer => a.send m true) e).trans (send_signed hau hzctl _ false 0))), rfl,
    recorded_of_same hrec hzled hzmem, ?_, ?_, ?_, (congrArg ViewFace.gen (hzface v) :).trans hyg,
    (congrArg ViewFace.genNo (hzface v) :).trans hyn, hzpar, hzfus, fun w hw => ?_⟩
  · exact (congrArg (fun y : View => y.state = .stopping ∨ y.state = .idle) (State.viewAt_of_view hzview v)).mpr he1
  · rw [hzets]
    exact hcap
  · rw [hzets, hlen, hets]
  · have hw' := (hzface w).trans (congrArg View.face (hyo w hw))
    exact ⟨(congrArg ViewFace.genNo hw' :), (congrArg ViewFace.gen hw' :)⟩

/-- Settles O51: each row by its entry, the interval it notes and what it does to its view, which keeps the other views' generations. -/
theorem viewMessages_all : Obligations.ViewMessages := by
  rintro s u m v x - h4 hv hx h5 rfl
  exact ⟨fun g ha hau hg hb hw hpass => activated h4 hv hx h5 ha hau hg hb hw hpass,
    fun ha hau hi hg hpass => started h4 hv hx h5 ha hau hi hg hpass, fun ha hau hst => viewStopped h4 hv hx h5 ha hau hst⟩

end Sys2Proof.Machine

namespace Sys2Proof.Machine

/-! ## Packed lines (R42, R97 to R107, R118, R134) -/

/-! ### The merge (R99, R100) -/

theorem kneeLow_of {v k0 k1 : Nat} (h : v = k0 + 65536 * k1) (h0 : k0 < 65536) : kneeLow v = k0 := by
  unfold kneeLow
  omega

theorem kneeExp_of {v k0 k1 q : Nat} (h : v = k0 + 65536 * k1) (h0 : k0 < 65536) (h1 : k1 = k0 + 2 ^ q) : kneeExp v = q := by
  have hd : v / 65536 - v % 65536 = 2 ^ q := by
    have hp := Nat.two_pow_pos q
    omega
  rw [kneeExp, hd, Nat.log2_two_pow]

theorem two_pow_pos_int (q : Nat) : (0 : Int) < 2 ^ q := Int.pow_pos (by decide)

theorem natCast_two_pow_add_four (q : Nat) : ((2 ^ (q + 4) : Nat) : Int) = 16 * 2 ^ q := by
  rw [Nat.pow_add, Nat.mul_comm, Int.natCast_mul, Int.natCast_pow]
  rfl

/-- A division by a power of 2 of a full-weight product is exact. -/
theorem roundDiv_full (x : Int) (q : Nat) : roundDiv (x * (16 * 2 ^ q)) (2 ^ (q + 4)) = x := by
  have hc : ((2 ^ (q + 4) : Nat) : Int) = 16 * 2 ^ q := natCast_two_pow_add_four q
  have hp : (0 : Int) < 2 ^ q := two_pow_pos_int q
  rw [roundDiv, hc]
  obtain ⟨n, hn⟩ : ∃ n : Int, n = 2 ^ q := ⟨_, rfl⟩
  rw [← hn] at hp ⊢
  rw [Int.add_comm, Int.mul_left_comm, Int.add_mul_ediv_right _ _ (by omega),
    Int.ediv_eq_zero_of_lt (by omega) (by omega), Int.zero_add]

theorem roundDiv_none (x : Int) (q : Nat) : roundDiv (x * 0) (2 ^ (q + 4)) = 0 := by
  have hp : (0 : Int) < ((2 ^ (q + 4) : Nat) : Int) := by exact_mod_cast Nat.two_pow_pos _
  rw [roundDiv, Int.mul_zero]
  exact Int.ediv_eq_zero_of_lt (by omega) (by omega)

theorem roundDiv_part (x w : Int) (q : Nat) : roundDiv (x * w) (2 ^ (q + 4)) = (2 * x * w + 16 * 2 ^ q) / (32 * 2 ^ q) := by
  have hc : ((2 ^ (q + 4) : Nat) : Int) = 16 * 2 ^ q := natCast_two_pow_add_four q
  rw [roundDiv, hc, show 2 * (16 * (2 : Int) ^ q) = 32 * 2 ^ q by omega, Int.mul_assoc]

/-- The blend weight below a knee, above it, and between (R100). -/
theorem kneeWeight_of {v k0 k1 q : Nat} (h : v = k0 + 65536 * k1) (h0 : k0 < 65536) (h1 : k1 = k0 + 2 ^ q) (s : Sample) :
    (s.sat = false → s.v ≤ 16 * k0 → kneeWeight v s = 0) ∧
    (s.sat = true ∨ 16 * k1 ≤ s.v → kneeWeight v s = 16 * 2 ^ q) ∧
    (s.sat = false → 16 * k0 ≤ s.v → s.v ≤ 16 * k1 → kneeWeight v s = s.v - 16 * k0) := by
  have hk : (k1 : Int) = k0 + 2 ^ q := by exact_mod_cast h1
  have hp : (0 : Int) < 2 ^ q := two_pow_pos_int q
  rw [kneeWeight, kneeLow_of h h0, kneeExp_of h h0 h1, clampInt]
  obtain ⟨n, hn⟩ : ∃ n : Int, n = 2 ^ q := ⟨_, rfl⟩
  rw [← hn] at hk hp ⊢
  refine ⟨fun hs hv => ?_, fun hv => ?_, fun hs hl hu => ?_⟩
  · rw [if_neg (by simp [hs])]
    omega
  · split
    · rfl
    · next hs =>
      have := hv.resolve_left hs
      omega
  · rw [if_neg (by simp [hs])]
    omega

theorem mergeLong_of (l : PdpLatch) (h lo : Sample) {k0 k1 q : Nat} {ah : Int} (hk : l.kneeH = k0 + 65536 * k1) (h0 : k0 < 65536)
    (h1 : k1 = k0 + 2 ^ q) (ha : ah = (8192 * h.v + l.dcg) / (2 * l.dcg)) :
    (h.sat = false → h.v ≤ 16 * k0 → mergeLong l h lo = ah) ∧ (h.sat = true ∨ 16 * k1 ≤ h.v → mergeLong l h lo = lo.v) ∧
    (h.sat = false → 16 * k0 ≤ h.v → h.v ≤ 16 * k1 →
      mergeLong l h lo = ah + (2 * (lo.v - ah) * (h.v - 16 * k0) + 16 * 2 ^ q) / (32 * 2 ^ q)) := by
  obtain ⟨w0, w1, w2⟩ := kneeWeight_of hk h0 h1 h
  have hah : roundDiv (h.v * 4096) l.dcg = ah := by
    rw [ha, roundDiv]
    congr 1
    omega
  rw [mergeLong, hah, kneeExp_of hk h0 h1]
  refine ⟨fun hs hv => ?_, fun hv => ?_, fun hs hl hu => ?_⟩
  · rw [w0 hs hv, roundDiv_none, Int.add_zero]
  · rw [w1 hv, roundDiv_full]
    omega
  · rw [w2 hs hl hu, roundDiv_part]

theorem mergeAll_of (l : PdpLatch) (h lo s : Sample) (ratio : Nat) {k0 k1 q : Nat} {bs : Int} (hk : l.kneeL = k0 + 65536 * k1)
    (h0 : k0 < 65536) (h1 : k1 = k0 + 2 ^ q) (hb : bs = (if s.sat then 268435440 else (2 * s.v * ratio + 65536) / 131072)) :
    (lo.sat = false → lo.v ≤ 16 * k0 → mergeAll l ratio h lo s = ⟨mergeLong l h lo, false⟩) ∧
    (lo.sat = true ∨ 16 * k1 ≤ lo.v → mergeAll l ratio h lo s = ⟨bs, s.sat⟩) ∧
    (lo.sat = false → 16 * k0 ≤ lo.v → lo.v < 16 * k1 → mergeAll l ratio h lo s =
      ⟨mergeLong l h lo + (2 * (bs - mergeLong l h lo) * (lo.v - 16 * k0) + 16 * 2 ^ q) / (32 * 2 ^ q), false⟩) := by
  obtain ⟨w0, w1, w2⟩ := kneeWeight_of hk h0 h1 lo
  have hbs : (if s.sat then 16 * 16777215 else roundDiv (s.v * ratio) 65536) = bs := by
    rw [hb, roundDiv, Int.mul_assoc]
    rfl
  have hp : (0 : Int) < 2 ^ q := two_pow_pos_int q
  have hkz : (k1 : Int) = k0 + 2 ^ q := by exact_mod_cast h1
  simp only [mergeAll, hbs, kneeExp_of hk h0 h1]
  refine ⟨fun hs hv => ?_, fun hv => ?_, fun hs hl hu => ?_⟩
  · rw [w0 hs hv, roundDiv_none, Int.add_zero, decide_eq_false (by omega), Bool.and_false]
  · rw [w1 hv, roundDiv_full, decide_eq_true rfl, Bool.and_true]
    congr 1
    omega
  · rw [w2 hs hl (by omega), roundDiv_part, decide_eq_false (by omega), Bool.and_false]

theorem merge_holds : merge := by
  refine ⟨fun l h lo k0 k1 q ah hk h0 h1 _ ha => mergeLong_of l h lo hk h0 h1 ha,
    fun l h lo s ratio k0 k1 q bs hk h0 h1 hb => mergeAll_of l h lo s ratio hk h0 h1 hb, fun c p u hu => ?_, fun p i x r hr => ?_⟩
  · rw [Capture.ratio, hu]
    refine ⟨fun h => if_pos h, fun h => ?_⟩
    refine (if_neg h).trans ?_
    rw [roundDiv]
    congr 2
    have hcast : ((2 * (65536 * (u.delivered c.kind .a : Int)) + (u.delivered c.kind .b : Nat)) / (2 * (u.delivered c.kind .b : Nat)) : Int) =
        (((131072 * u.delivered c.kind .a + u.delivered c.kind .b) / (2 * u.delivered c.kind .b) : Nat) : Int) := by
      rw [Int.natCast_ediv]
      congr 1
      omega
    rw [hcast, Int.toNat_natCast]
  · rw [PdpJob.value, hr]
    refine ⟨fun h => if_neg h, fun k h hk => ?_⟩
    rw [hk]
    exact if_pos h

/-! ### Binning (R42, R101, R118) -/

theorem unskipped_zero (n : Nat) : unskipped 0 n = n := by
  unfold unskipped
  omega

theorem unskipped_eq (k n : Nat) : unskipped k n = n / 2 * 2 ^ (k + 1) + n % 2 := by
  rw [unskipped, Nat.pow_succ, Nat.mul_comm 2, Nat.mul_assoc]

theorem binning_holds : binning := by
  refine ⟨fun g mono i r a b hb hr ha hb' => ⟨fun hk => ?_, fun hk => ⟨?_, ?_⟩⟩, fun g mono bin n hb => ⟨?_, ?_⟩, fun p i k x y => ⟨rfl, ?_, ?_, ?_⟩⟩
  · have h1 : (4 * i + r) / 4 = i := by omega
    have h2 : (4 * i + r) % 4 = r := by omega
    rw [ViewGen.lineCols, hk, unskipped_zero, if_neg (by omega), h1, h2, keptOffset, partnerOffset, ha, hb']
    cases mono <;> rfl
  · have h1 : (4 * i + r) / 4 = i := by omega
    have h2 : (4 * i + r) % 4 = r := by omega
    rw [ViewGen.lineRows, hk, unskipped_zero, if_neg (by omega), h1, h2, keptOffset, ha, Nat.add_comm g.y0 32]
    cases mono <;> rfl
  · have h1 : (4 * i + r) / 4 = i := by omega
    have h2 : (4 * i + r) % 4 = r := by omega
    rw [ViewGen.lineRows, hk, unskipped_zero, if_neg (by omega), h1, h2, keptOffset, partnerOffset, ha, hb', Nat.add_comm g.y0 32]
    cases mono <;> rfl
  · rw [ViewGen.lineCols, if_pos hb, unskipped_eq, Nat.add_assoc]
  · rw [ViewGen.lineRows, if_pos hb, unskipped_eq, Nat.add_comm g.y0 32, Nat.add_assoc, Nat.add_assoc, Nat.add_assoc]
  · rfl
  · rfl
  · simp [PdpJob.pixel, combine, or_assoc]

/-! ### Formats (R102, R104, R105) -/

/-- A value between two breakpoints: the segments up to the lower one are those that begin at or below it. -/
theorem compand_segment {k x u lp : Nat} (hx : ∀ e ∈ compandSegments.take k, e.1 ≤ x) (hu : ∀ e ∈ compandSegments.drop k, u ≤ e.1)
    (hl : x ≤ lp) (hlt : lp < u) : compand lp = ((compandSegments.take k).getLastD (0, 0, 0)).2.2 +
      (lp - ((compandSegments.take k).getLastD (0, 0, 0)).1) / 2 ^ ((compandSegments.take k).getLastD (0, 0, 0)).2.1 := by
  have hf : (compandSegments.filter fun e => decide (e.1 ≤ lp)) = compandSegments.take k := by
    conv => lhs; rw [← List.take_append_drop k compandSegments]
    rw [List.filter_append, List.filter_eq_self.mpr fun e he => decide_eq_true (Nat.le_trans (hx e he) hl),
      List.filter_eq_nil_iff.mpr fun e he => by have := hu e he; simp; omega, List.append_nil]
  rw [compand, hf]

/-- Each breakpoint with the segments up to it. -/
theorem breakpoints_segments : ∀ i < 12, ∀ b ∈ breakpoints[i]?,
    (compandSegments.take (i + 1)).getLastD (0, 0, 0) = (b.1, b.2.2.1, b.2.2.2) ∧ (∀ e ∈ compandSegments.take (i + 1), e.1 ≤ b.1) ∧
      ∀ e ∈ compandSegments.drop (i + 1), b.2.1 ≤ e.1 := by decide

theorem compand_of {x u e y lp : Nat} (h : (x, u, e, y) ∈ breakpoints) (hl : x ≤ lp) (hu : lp < u) : compand lp = y + (lp - x) / 2 ^ e := by
  obtain ⟨i, hi⟩ := List.mem_iff_getElem?.mp h
  have hlt : i < 12 := (List.getElem?_eq_some_iff.mp hi).1
  obtain ⟨h1, h2, h3⟩ := breakpoints_segments i hlt (x, u, e, y) hi
  rw [compand_segment h2 h3 hl hu, h1]

/-- Breakpoints follow one another, inputs and outputs. -/
theorem breakpoints_ordered : ∀ p ∈ breakpoints, ∀ q ∈ breakpoints,
    p = q ∨ q.2.1 ≤ p.1 ∨ p.2.1 ≤ q.1 ∧ p.2.2.2 + (p.2.1 - 1 - p.1) / 2 ^ p.2.2.1 ≤ q.2.2.2 := by decide

theorem breakpoints_bound : ∀ p ∈ breakpoints, p.2.2.2 + (p.2.1 - 1 - p.1) / 2 ^ p.2.2.1 ≤ 65535 := by decide

theorem breakpoint_of {lp : Nat} (h : lp ≤ 16777215) : ∃ x u e y, (x, u, e, y) ∈ breakpoints ∧ x ≤ lp ∧ lp < u := by
  refine Classical.byContradiction fun hn => ?_
  simp only [breakpoints, List.mem_cons, Prod.mk.injEq, List.not_mem_nil, or_false, not_exists, not_and] at hn
  have h1 := hn 0 16384 0 0
  have h2 := hn 16384 32768 1 16384
  have h3 := hn 32768 65536 2 24576
  have h4 := hn 65536 131072 3 32768
  have h5 := hn 131072 262144 4 40960
  have h6 := hn 262144 393216 5 49152
  have h7 := hn 393216 524288 6 53248
  have h8 := hn 524288 1048576 8 55296
  have h9 := hn 1048576 2097152 9 57344
  have h10 := hn 2097152 4194304 10 59392
  have h11 := hn 4194304 8388608 11 61440
  have h12 := hn 8388608 16777216 12 63488
  simp at h1 h2 h3 h4 h5 h6 h7 h8 h9 h10 h11 h12
  omega

/-- The companding rises throughout. -/
theorem compand_mono {a b : Nat} (hab : a ≤ b) (hb : b ≤ 16777215) : compand a ≤ compand b ∧ compand b ≤ 65535 := by
  obtain ⟨x, u, e, y, hp, hx, hu⟩ := breakpoint_of (Nat.le_trans hab hb)
  obtain ⟨x', u', e', y', hq, hx', hu'⟩ := breakpoint_of hb
  have hmax : ∀ {x u e y c : Nat}, c < u → y + (c - x) / 2 ^ e ≤ y + (u - 1 - x) / 2 ^ e := fun h =>
    Nat.add_le_add_left (Nat.div_le_div_right (by omega)) _
  rw [compand_of hp hx hu, compand_of hq hx' hu']
  refine ⟨?_, Nat.le_trans (hmax hu') (breakpoints_bound _ hq)⟩
  rcases breakpoints_ordered _ hp _ hq with h | h | ⟨-, h⟩
  · cases h
    exact Nat.add_le_add_left (Nat.div_le_div_right (by omega)) _
  · simp only at h
    omega
  · exact Nat.le_trans (Nat.le_trans (hmax hu) h) (Nat.le_add_right _ _)

theorem linearOf_eq (l : PdpLatch) (v : Int) (lp : Nat) (h : (lp : Int) = max 0 (min 16777215 ((v + 8) / 16 + l.linPedestal))) :
    linearOf l v = lp := by
  have hr : roundDiv v 16 = (v + 8) / 16 := by
    rw [roundDiv]
    omega
  rw [linearOf, clampInt, hr, ← h, Int.toNat_natCast]

theorem linearOf_le (l : PdpLatch) (v : Int) : linearOf l v ≤ 16777215 := by
  rw [linearOf, clampInt]
  omega

theorem codeOf_lt (l : PdpLatch) (f : Nat) (s : Sample) (hf : f < 4) : codeOf l f s < 2 ^ formatBits f := by
  have hraw : (clampInt 0 16383 (roundDiv s.v 16 + l.rawPedestal)).toNat ≤ 16383 := by
    rw [clampInt]
    omega
  have hlp : (if s.sat then 16777215 else linearOf l s.v) ≤ 16777215 := by
    split
    · exact Nat.le_refl _
    · exact linearOf_le l s.v
  have hc := (compand_mono (Nat.le_refl _) hlp).2
  rcases (by omega : f = 0 ∨ f = 1 ∨ f = 2 ∨ f = 3) with rfl | rfl | rfl | rfl
  · have h : codeOf l 0 s ≤ 4095 := by
      rw [codeOf, if_pos rfl]
      split <;> omega
    exact Nat.lt_succ_of_le h
  · have h : codeOf l 1 s ≤ 16383 := by
      rw [codeOf, if_neg (by decide), if_pos rfl]
      split <;> omega
    exact Nat.lt_succ_of_le h
  · exact Nat.lt_succ_of_le hc
  · have h : codeOf l 3 s ≤ 1048575 := Nat.min_le_left _ _
    exact Nat.lt_succ_of_le h

/-- The code packed at place `m`. -/
theorem packBits_get (w : Nat) : ∀ (l : List Nat) (m : Nat), (∀ c, c ∈ l → c < 2 ^ w) → m < l.length →
    packBits w l / 2 ^ (w * m) % 2 ^ w = l.getD m 0
  | c :: l, 0, h, _ => by
    have hc := h c (List.mem_cons_self ..)
    have hcons : packBits w (c :: l) = c + packBits w l * 2 ^ w := rfl
    simp [hcons, Nat.mod_eq_of_lt hc]
  | c :: l, m + 1, h, hm => by
    have hc := h c (List.mem_cons_self ..)
    have hcons : packBits w (c :: l) = c + packBits w l * 2 ^ w := rfl
    have hdiv : (c + packBits w l * 2 ^ w) / 2 ^ w = packBits w l := by
      rw [Nat.add_mul_div_right _ _ (Nat.two_pow_pos w), Nat.div_eq_of_lt hc, Nat.zero_add]
    rw [hcons, Nat.mul_succ, Nat.add_comm (w * m) w, Nat.pow_add, ← Nat.div_div_eq_div_mul, hdiv,
      packBits_get w l m (fun c hc => h c (List.mem_cons_of_mem _ hc)) (by simpa using hm)]
    rfl

theorem packBits_lt (w : Nat) : ∀ l : List Nat, (∀ c, c ∈ l → c < 2 ^ w) → packBits w l < 2 ^ (w * l.length)
  | [], _ => by simp [packBits]
  | c :: l, h => by
    have hc := h c (List.mem_cons_self ..)
    have ih := packBits_lt w l fun c hc => h c (List.mem_cons_of_mem _ hc)
    have hcons : packBits w (c :: l) = c + packBits w l * 2 ^ w := rfl
    rw [hcons, List.length_cons, Nat.mul_succ, Nat.pow_add]
    calc c + packBits w l * 2 ^ w < 2 ^ w + packBits w l * 2 ^ w := by omega
      _ = (packBits w l + 1) * 2 ^ w := by rw [Nat.succ_mul, Nat.add_comm]
      _ ≤ 2 ^ (w * l.length) * 2 ^ w := Nat.mul_le_mul_right _ ih

/-- A packed line holds its codes. -/
theorem line_codes (p : PdpJob) (g : ViewGen) (n m w : Nat) (hf : g.format < 4) (hw : w = formatBits g.format) (h8 : g.ow * w % 8 = 0)
    (hm : m < g.ow) : (p.line g n).length = g.lineBytes ∧ leNat (p.line g n) / 2 ^ (w * m) % 2 ^ w =
      codeOf p.latch g.format (p.pixel ((g.lineRows p.mono p.capture.chargeBin n).filterMap p.rowIndex) (g.lineCols p.mono m)) := by
  obtain ⟨codes, hcodes⟩ : ∃ codes, (List.range g.ow).map (fun m => codeOf p.latch g.format
    (p.pixel ((g.lineRows p.mono p.capture.chargeBin n).filterMap p.rowIndex) (g.lineCols p.mono m))) = codes := ⟨_, rfl⟩
  have hline : p.line g n = leBytes g.lineBytes (packBits w codes) := by
    rw [PdpJob.line, hcodes, hw]
  have hlen : codes.length = g.ow := by rw [← hcodes, List.length_map, List.length_range]
  have hlt : ∀ c, c ∈ codes → c < 2 ^ w := fun c hc => by
    rw [← hcodes] at hc
    obtain ⟨k, -, rfl⟩ := List.mem_map.mp hc
    exact hw ▸ codeOf_lt _ _ _ hf
  have hpow : 256 ^ g.lineBytes = 2 ^ (w * codes.length) := by
    rw [ViewGen.lineBytes, ← hw, show (256 : Nat) = 2 ^ 8 by rfl, ← Nat.pow_mul, hlen]
    congr 1
    rw [Nat.mul_comm w]
    omega
  refine ⟨by rw [hline, leBytes_length], ?_⟩
  rw [hline, leNat_leBytes, hpow, Nat.mod_eq_of_lt (packBits_lt w codes hlt), packBits_get w codes m hlt (by omega), ← hcodes]
  simp [hm]

theorem formats_holds : formats := by
  refine ⟨fun l s hs h4 => ⟨?_, ?_, ?_, ?_⟩, fun l s lp hs hlp => ⟨?_, ?_, ?_, ?_⟩, fun x u e y lp h hl hu => compand_of h hl hu,
    fun a b hab hb => compand_mono hab hb, codeOf_lt, fun w m l => packBits_get w l m, line_codes⟩
  · simp [codeOf, hs]
  · simp [codeOf, hs]
  · have h : codeOf l 2 s = compand 16777215 := by simp [codeOf, hs]
    rw [h]
    decide
  · have h : codeOf l 3 s = min 1048575 (16777215 / 2 ^ l.shift20) := by simp [codeOf, hs]
    have hge : 2 ^ l.shift20 ≤ 16 := Nat.pow_le_pow_right (by decide) h4
    have hq : 1048575 ≤ 16777215 / 2 ^ l.shift20 := (Nat.le_div_iff_mul_le (Nat.two_pow_pos _)).mpr (by omega)
    rw [h, Nat.min_eq_left hq]
  · have h : codeOf l 1 s = (clampInt 0 16383 (roundDiv s.v 16 + l.rawPedestal)).toNat := by simp [codeOf, hs]
    have hr : roundDiv s.v 16 = (s.v + 8) / 16 := by
      rw [roundDiv]
      omega
    rw [h, clampInt, hr]
    omega
  · simp [codeOf, hs]
  · simp [codeOf, hs, linearOf_eq l s.v lp hlp]
  · simp [codeOf, hs, linearOf_eq l s.v lp hlp]

/-! ### Tile statistics (R106, R107) -/

theorem modifyAt_length {α : Type} (f : α → α) : ∀ (i : Nat) (l : List α), (modifyAt f i l).length = l.length
  | _, [] => by cases ‹Nat› <;> rfl
  | 0, _ :: _ => rfl
  | i + 1, a :: l => congrArg (· + 1) (modifyAt_length f i l)

theorem modifyAt_getD {α : Type} (f : α → α) (d : α) : ∀ (i : Nat) (l : List α) (k : Nat), k < l.length →
    (modifyAt f i l).getD k d = if i = k then f (l.getD k d) else l.getD k d
  | 0, _ :: _, 0, _ => rfl
  | 0, _ :: _, _ + 1, _ => by simp [modifyAt]
  | _ + 1, _ :: _, 0, _ => by simp [modifyAt]
  | i + 1, a :: l, k + 1, h => by
    have ih := modifyAt_getD f d i l k (by simpa using h)
    simpa [modifyAt] using ih

theorem modifyAt_sum : ∀ (i : Nat) (l : List Nat), i < l.length → (modifyAt (· + 1) i l).sum = l.sum + 1
  | 0, a :: l, _ => by
    simp only [modifyAt, List.sum_cons]
    omega
  | i + 1, a :: l, h => by
    have ih := modifyAt_sum i l (by simpa using h)
    simp only [modifyAt, List.sum_cons, ih]
    omega

/-- A record of 64 bins that sum to its count; saturated values lie in the last one. -/
structure StatOk (t : TileStat) : Prop where
  bins : t.bins.length = 64
  count : t.bins.sum = t.count
  sat : t.sat ≤ t.bins.getD 63 0
  sum : t.sum ≤ 65535 * t.count

/-- One value added to a record. -/
theorem stat_add (t : TileStat) (v : Nat) (hb : t.bins.length = 64) : (t.add v).sum = t.sum + v ∧
    (t.add v).count = t.count + 1 ∧ (t.add v).sat = t.sat + (if v = 65535 then 1 else 0) ∧ (t.add v).profile = t.profile ∧
    ∀ k, k < 64 → (t.add v).bins.getD k 0 = t.bins.getD k 0 + (if v / 1024 = k then 1 else 0) := by
  refine ⟨rfl, rfl, ?_, rfl, fun k hk => ?_⟩
  · simp [TileStat.add, boolNat]
  · rw [TileStat.add, modifyAt_getD _ _ _ _ _ (by omega)]
    split <;> rfl

theorem StatOk.add {t : TileStat} (h : StatOk t) {v : Nat} (hv : v < 65536) : StatOk (t.add v) := by
  obtain ⟨hsum, hcount, hsat, -, hbins⟩ := stat_add t v h.bins
  have hlt : v / 1024 < t.bins.length := by
    rw [h.bins]
    omega
  refine ⟨(modifyAt_length _ _ _).trans h.bins, ?_, ?_, ?_⟩
  · have hs := modifyAt_sum (v / 1024) t.bins hlt
    rw [hcount, ← h.count]
    exact hs
  · have h63 := hbins 63 (by decide)
    have hmax := h.sat
    rw [hsat, h63]
    by_cases he : v = 65535
    · rw [if_pos he, he, if_pos (by decide)]
      omega
    · rw [if_neg he]
      omega
  · rw [hsum, hcount]
    have := h.sum
    omega

theorem statValue_of (p : PdpJob) (i x : Nat) {c : Sample} (hc : c = p.corrected i x (if p.capture.kind = 1 then 1 else 0)) :
    (c.sat = true → p.statValue i x = 65535) ∧ (c.sat = false → (p.statValue i x : Int) = 4 * max 0 (min 16383
      (((if p.capture.kind = 1 then mergeLong p.latch (p.corrected i x 0) c else c.v) + 8) / 16))) := by
  have hl : ∀ v : Int, (((clampInt 0 16383 (roundDiv v 16)).toNat * 4 : Nat) : Int) = 4 * max 0 (min 16383 ((v + 8) / 16)) := fun v => by
    rw [clampInt, roundDiv]
    omega
  simp only [PdpJob.statValue, ← hc]
  refine ⟨fun h => if_pos h, fun h => ?_⟩
  rw [if_neg (by simp [h])]
  split
  · exact hl _
  · exact hl _

theorem statValue_lt (p : PdpJob) (i x : Nat) : p.statValue i x < 65536 := by
  obtain ⟨h1, h2⟩ := statValue_of p i x rfl
  cases h : (p.corrected i x (if p.capture.kind = 1 then 1 else 0)).sat with
  | true =>
    rw [h1 h]
    decide
  | false =>
    have := h2 h
    omega

theorem statsFold (l : List Nat) (t : TileStat) (h : StatOk t) (hl : ∀ v ∈ l, v < 65536) :
    StatOk (l.foldl TileStat.add t) ∧ (l.foldl TileStat.add t).profile = t.profile := by
  induction l generalizing t with
  | nil => exact ⟨h, rfl⟩
  | cons v l ih => exact ih (t.add v) (h.add (hl v (List.mem_cons_self ..))) fun w hw => hl w (List.mem_cons_of_mem _ hw)

theorem tileStat_ok (p : PdpJob) (t : Nat) : StatOk (p.tileStat t) ∧ (p.tileStat t).profile = spGet 0 t p.capture.tilemap := by
  rw [PdpJob.tileStat]
  refine statsFold _ _ ⟨List.length_replicate, by simp, Nat.zero_le _, Nat.zero_le _⟩ fun v hv => ?_
  obtain ⟨i, -, hv⟩ := List.mem_flatMap.mp hv
  obtain ⟨x, -, hv⟩ := List.mem_filterMap.mp hv
  split at hv
  · obtain rfl := Option.some.inj hv
    exact statValue_lt p i x
  · cases hv

theorem statistics_holds : statistics := by
  refine ⟨fun p i x c hc => statValue_of p i x hc, fun p i x r hr => ?_, fun t v _ hb => stat_add t v hb, fun p t => ?_, fun p t x => ?_⟩
  · have hs : (∃ s, p.sample i x 0 = some s) ↔ (p.sample i x 0).isSome = true := Option.isSome_iff_exists.symm
    simp only [PdpJob.counted, hr, Option.map_some, Option.getD_some, Bool.and_eq_true, Bool.or_eq_true, Bool.not_eq_true',
      decide_eq_true_eq, Option.isNone_iff_eq_none, bne_iff_ne, hs, or_assoc, and_assoc, Decidable.imp_iff_not_or, ne_eq]
  · obtain ⟨h, hp⟩ := tileStat_ok p t
    exact ⟨h.bins, by rw [← h.count, List.sum_eq_foldl], h.sat, h.sum, hp⟩
  · simp only [PdpJob.stats, List.mem_map, List.mem_filter, Prod.mk.injEq]
    constructor
    · rintro ⟨a, ⟨h1, h2⟩, rfl, rfl⟩
      exact ⟨h1, h2, rfl⟩
    · rintro ⟨h1, h2, rfl⟩
      exact ⟨t, ⟨h1, h2⟩, rfl, rfl⟩

/-! ### Lines packed, and the pinned set (R105, R134, R321) -/

theorem onFrame_eq (s : State) (v : Nat) (c : Word64) (g : Frame → Frame) : s.onFrame v c g = { s with view := (s.onFrame v c g).view } := by
  unfold State.onFrame State.onView State.setView
  split <;> rfl

theorem exec_viewLinePacked {s : State} {v : Nat} {f : Frame} {p : PdpJob} (hv : v < 32) (hp : s.powered 35 = true)
    (hf : s.packing v = some (f, p)) (hr : p.lineReady f.gen f.packed = true) (hroom : s.lineRoom f = true) :
    exec (.viewLinePacked v) s = .next (s.packNext v f p) := by
  refine congrArg Host.Outcome.next ?_
  simp [hv, hp, hf, hr, hroom]

/-- A line packed: it joins its strip, and the buffer holds its bytes. -/
theorem packLine_inside (s : State) (v : Nat) {f : Frame} (p : PdpJob) (h : f.packed ≠ 0) : s.packLine v f p = { s.onFrame v f.capture (fun x =>
      { x with packed := x.packed + 1, strips := modifyAt (fun (y : Strip) =>
        { y with lines := y.lines ++ [p.line f.gen f.packed] }) (x.packed / 16) x.strips }) with
        sea := { s.sea with buffer := s.sea.buffer + f.gen.lineBytes }
        wdg := { s.wdg with counts := spErase 5 s.wdg.counts } } := by
  rw [State.packLine, if_neg h, onFrame_eq]
  rfl

/-- A line packed, its FRAME_START included. -/
theorem packLine_parts (s : State) (v : Nat) (f : Frame) (p : PdpJob) :
    (s.packLine v f p).sea.buffer = s.sea.buffer + f.gen.lineBytes ∧
    s.packLine v f p = { s with
      view := (s.packLine v f p).view, sea := (s.packLine v f p).sea, lnk := (s.packLine v f p).lnk, wdg := (s.packLine v f p).wdg } ∧ (f.packed ≠ 0 → (s.packLine v f p).lnk = s.lnk) := by
  obtain ⟨y, hy⟩ : ∃ y : State, { s.onFrame v f.capture (fun x =>
      { x with packed := x.packed + 1, strips := modifyAt (fun (y : Strip) =>
        { y with lines := y.lines ++ [p.line f.gen f.packed] }) (x.packed / 16) x.strips }) with
        sea := { s.sea with buffer := s.sea.buffer + f.gen.lineBytes }
        wdg := { s.wdg with counts := spErase 5 s.wdg.counts } } = y := ⟨_, rfl⟩
  have hyp : y.sea.buffer = s.sea.buffer + f.gen.lineBytes ∧ y = { s with view := y.view, sea := y.sea, wdg := y.wdg } := by
    rw [← hy, onFrame_eq]
    exact ⟨rfl, rfl⟩
  obtain ⟨hb, hyeq⟩ := hyp
  by_cases h : f.packed = 0
  · have e : s.packLine v f p = y.pushStart v f (p.capture.t0.getD 0) := by
      rw [State.packLine, if_pos h, ← hy, onFrame_eq]
      rfl
    have hpush : ∀ q, y.pushData q = { y with lnk := (y.pushData q).lnk } := fun q => by
      unfold State.pushData
      split <;> rfl
    rw [e, State.pushStart, hpush]
    refine ⟨hb, ?_, fun hne => absurd h hne⟩
    generalize (y.pushData _).lnk = k
    exact congrArg (fun z : State => { z with lnk := k }) hyeq
  · rw [packLine_inside s v p h, hy]
    have hl : y.lnk = s.lnk := (congrArg State.lnk hyeq :)
    refine ⟨hb, ?_, fun _ => hl⟩
    rw [hl]
    exact hyeq

/-- A strip dealt changes the frame and what SEA has dealt, and not the buffer. -/
theorem dealStrip_parts (s : State) (v : Nat) (f : Frame) (e : Nat) : (s.dealStrip v f e).sea.buffer = s.sea.buffer ∧
    s.dealStrip v f e = { s with view := (s.dealStrip v f e).view, sea := (s.dealStrip v f e).sea } := by
  unfold State.dealStrip
  rw [onFrame_eq]
  exact ⟨rfl, rfl⟩

theorem linePacked_holds : linePacked := by
  intro s v f p hv hp hf hr hroom
  rw [exec_viewLinePacked hv hp hf hr hroom]
  refine ⟨fun hin => ?_, fun hout hdeal => ⟨_, rfl, ?_⟩⟩
  · rw [State.packNext, if_neg hin, packLine_inside s v p (by omega)]
  · obtain ⟨e, he⟩ := Option.ne_none_iff_exists'.mp hdeal
    have hnext : s.packNext v f p = (s.dealStrip v f e).packLine v f p := by
      rw [State.packNext, if_pos hout, he]
    obtain ⟨hd1, hd2⟩ := dealStrip_parts s v f e
    obtain ⟨h1, h2, h3⟩ := packLine_parts (s.dealStrip v f e) v f p
    rw [hnext, h1, hd1]
    generalize (s.dealStrip v f e).packLine v f p = t at h2 h3
    generalize s.dealStrip v f e = d at hd2 h2 h3
    refine ⟨rfl, ?_, fun hne => (h3 hne).trans (by rw [hd2])⟩
    exact h2.trans (congrArg (fun z : State => { z with view := t.view, sea := t.sea, lnk := t.lnk, wdg := t.wdg }) hd2)

theorem pinExpiry_holds : pinExpiry := by
  intro s x k h
  refine congrArg Host.Outcome.next ?_
  rw [h]

/-- Settles O23: the chain of R85 to R107 stage by stage, each by the weights, pairs and segments it works with. -/
theorem packedLines : Obligations.PackedLines :=
  ⟨merge_holds, binning_holds, formats_holds, statistics_holds, linePacked_holds, pinExpiry_holds⟩

end Sys2Proof.Machine

namespace Sys2Proof.Machine

/-! ## The boot of a device whose identity is VOID (R159, R165, R186) -/

/-- An IVORY device whose identity bank A is locked without being complete, so that it is VOID, at stage 0x00 of its boot. -/
def voidIdentity : State := {
  pwr := { released := true }
  fus := { units := [(0, ⟨7, 7, 7⟩), (1286, ⟨7, 7, 7⟩)] } }

/-- A boot run to its end in which every test passes and nothing is lost. -/
def voidBoot : BootEnv := { engines := 0xFFFFFFFF, tree := true, derivation := true, signing := true }

/-- Is the boot over in IVORY with an identity bank, nothing adopted, and no BOOT entry counted? -/
def bootsUncounted (o : Result) : Bool :=
  match o with
  | .next t => t.fus.lifecycle = 1 && t.fus.bank != 0 && t.pwr.adopted.isNone && t.nvs.retained.bootCount = 0
  | _ => false

theorem voidIdentity_bootsUncounted : bootsUncounted (exec (.boot voidBoot) voidIdentity) = true := by decide +kernel

/-- Refutes O17: in IVORY with no identity bank LOCKED the device is UNPROVISIONED and no ledger runs, so that no BOOT entry is committed
and `bootCount` stays; the statement asks only for a bank other than 0, which a VOID one is, and has the count go up. -/
theorem not_bootUp : ¬ Obligations.BootUp := by
  rintro ⟨-, hfull⟩
  obtain ⟨t, ht, -, -, -, -, -, -, -, -, -, -, -, -, -, -, hcount, -⟩ := hfull voidIdentity voidBoot rfl rfl rfl (.inl rfl) rfl rfl rfl rfl
    (by decide +kernel)
  have h := voidIdentity_bootsUncounted
  rw [ht] at h
  simp only [bootsUncounted, Bool.and_eq_true, decide_eq_true_eq, bne_iff_ne, ne_eq, Option.isNone_iff_eq_none] at h
  obtain ⟨⟨⟨hlife, hbank⟩, hadopted⟩, hnone⟩ := h
  have hone := hcount rfl hadopted
  rw [if_pos ⟨.inl hlife, hbank⟩, hnone] at hone
  exact absurd hone (by decide)

end Sys2Proof.Machine

namespace Sys2Proof.Machine

/-! ## Proofs: comparator edges (03), up to the free value of log 13 -/

/-- A change of the capture of counter `k`, which stands once among the captures. -/
theorem State.onCapture_at {s : State} {l r : List Capture} {y : Capture} {k : Word64} (f : Capture → Capture)
    (hc : s.ets.captures = l ++ y :: r) (hy : y.counter = k) (hl : ∀ d, d ∈ l → d.counter ≠ k) (hr : ∀ d, d ∈ r → d.counter ≠ k) :
    (s.onCapture k f).ets = { s.ets with captures := l ++ f y :: r } := by
  have same : ∀ m : List Capture, (∀ d, d ∈ m → d.counter ≠ k) → m.map (fun x => if x.counter = k then f x else x) = m := fun m h =>
    (List.map_congr_left fun d hd => if_neg (h d hd)).trans m.map_id'
  rw [State.onCapture_ets, hc, List.map_append, List.map_cons, same l hl, same r hr, if_pos hy]

/-- The captures before the one of counter `k`. -/
theorem takeWhile_before {l r : List Capture} {y : Capture} {k : Word64} (hy : y.counter = k) (hl : ∀ d, d ∈ l → d.counter ≠ k) :
    (l ++ y :: r).takeWhile (fun d => d.counter != k) = l := by
  rw [List.takeWhile_append_of_pos fun d hd => bne_iff_ne.2 (hl d hd), List.takeWhile_cons_of_neg (by simp [hy]), List.append_nil]

/-- The first capture for which an edge is due. -/
theorem State.find_edgeDue {s : State} {e : Edge} {c : Capture} {l r : List Capture} (hc : s.ets.captures = l ++ c :: r)
    (hl : ∀ d, d ∈ l → s.edgeDue d e = false) (htick : c.edgeTick e = some s.clk.ticks) (hnew : ∀ d, d ∈ c.launched → edgeSame d e = false)
    (ht0 : ∀ m, e = .t0 m → ((m.toNat : Int) - s.clk.time.toNat).natAbs ≤ 3) :
    s.ets.captures.find? (fun c => s.edgeDue c e) = some c := by
  have hdue : s.edgeDue c e = true := by
    have hany : (c.launched.any fun x => edgeSame x e) = false := List.any_eq_false.2 fun d hd => by simp [hnew d hd]
    cases e with
    | t0 m => simp [State.edgeDue, htick, hany, State.now, ht0 m rfl]
    | _ => simp [State.edgeDue, htick, hany]
  rw [hc, List.find?_append, List.find?_eq_none.2 fun d hd => by simp [hl d hd], Option.none_or, List.find?_cons_of_pos (p := fun c => s.edgeDue c e) hdue]

/-- The state with the edge recorded on its capture. -/
def State.edgeNoted (s : State) (c : Capture) (e : Edge) : State :=
  s.onCapture c.counter fun x => { x with launched := x.launched ++ [e] }

theorem State.launchEdge_eq (s : State) (c : Capture) (e : Edge) : s.launchEdge c e = (s.edgeNoted c e).edgeEffect c e := rfl

theorem State.timeValues_ets (s : State) (k m : Word64) :
    ((List.range 32).foldl (fun s v => s.timeValue v k m) s).ets = s.ets :=
  foldl_same (fun x => x.ets) (fun y v => by simp) _ s

/-- What T0 leaves of the time island: its capture dated, with the triggers coalesced before it, and counted as started (R57, R71). -/
theorem State.launchT0_ets (s : State) (c : Capture) (m : Word64) : (s.launchT0 c m).ets = { s.ets with
    captures := s.ets.captures.map fun x => if x.counter = c.counter then
      { x with t0 := some m, coCount := s.ets.coCount, coFirst := s.ets.coFirst, coLast := s.ets.coLast } else x
    started := some c.counter, coCount := 0, coFirst := 0, coLast := 0, coEvents := 0
    capturesTotal := s.ets.capturesTotal + 1, lastT0 := m, t0Pulse := some s.clk.ticks
    history := s.ets.history.map fun h => if h.1 = c.counter then (h.1, some m) else h } := by
  have hraise : ∀ (x : State) (d k w : Word64), (x.raiseTrig d k w).ets = x.ets := fun x d k w => by simp
  unfold State.launchT0
  dsimp only
  split
  · rw [hraise, State.timeValues_ets]
    rfl
  · rw [State.timeValues_ets]
    rfl

section Effect
variable {s : State} {c y : Capture} {l r : List Capture}

/-- A suppressed slice changes its capture's profiles only, and is counted (R73). -/
theorem State.suppress_ets (p k : Nat) (n : Node) (hc : s.ets.captures = l ++ y :: r) (hy : y.counter = c.counter)
    (hl : ∀ d, d ∈ l → d.counter ≠ c.counter) (hr : ∀ d, d ∈ r → d.counter ≠ c.counter) :
    (s.suppress c p k n).ets = { s.ets with captures := l ++ y.drop p k n :: r, sliceDrops := s.ets.sliceDrops + 1 } := by
  unfold State.suppress
  dsimp only
  rw [State.onCapture_at (fun x => x.drop p k n) hc hy hl hr]

/-- The capture as an edge's effect leaves it: dated by T0, closed by its close, with a slice suppressed where its node is occupied. -/
theorem State.edgeEffect_capture (e : Edge) (hc : s.ets.captures = l ++ y :: r) (hy : y.counter = c.counter)
    (hl : ∀ d, d ∈ l → d.counter ≠ c.counter) (hr : ∀ d, d ∈ r → d.counter ≠ c.counter) :
    ∃ x, (s.edgeEffect c e).ets.captures = l ++ x :: r ∧ x.launched = y.launched ∧ x.counter = y.counter ∧ x.released = y.released ∧
      x.quads = y.quads ∧ x.views = y.views ∧ (∀ m, e = .t0 m → x.t0 = some m) ∧ (e = .close → x = { y with closed := true }) := by
  cases e with
  | t0 m =>
    refine ⟨{ y with t0 := some m, coCount := s.ets.coCount, coFirst := s.ets.coFirst, coLast := s.ets.coLast }, ?_, rfl, rfl, rfl, rfl,
      rfl, fun _ h => by cases h; rfl, nofun⟩
    exact (congrArg Ets.captures (s.launchT0_ets c m)).trans (congrArg Ets.captures (State.onCapture_at _ hc hy hl hr))
  | close =>
    exact ⟨_, congrArg Ets.captures (State.onCapture_at _ hc hy hl hr), rfl, rfl, rfl, rfl, rfl, nofun, fun _ => rfl⟩
  | transferRise p k n =>
    unfold State.edgeEffect
    dsimp only
    split
    · exact ⟨_, congrArg Ets.captures (State.suppress_ets p k n hc hy hl hr), rfl, rfl, rfl, rfl, rfl, nofun, nofun⟩
    · exact ⟨y, hc, rfl, rfl, rfl, rfl, rfl, nofun, nofun⟩
  | dgFall _ _ _ | transferFall _ _ _ | mergeRise _ | mergeFall _ => exact ⟨y, hc, rfl, rfl, rfl, rfl, rfl, nofun, nofun⟩

end Effect

/-- The occupation of a node depends on the captures before its own, on what the converters wait for, and on the free value of log 13. -/
theorem State.nodeOccupied_congr {s t : State} {c : Capture} {l r r' : List Capture} {y y' : Capture} (p : Nat) (n : Node)
    (hs : s.ets.captures = l ++ y :: r) (ht : t.ets.captures = l ++ y' :: r') (hy : y.counter = c.counter) (hy' : y'.counter = c.counter)
    (hl : ∀ d, d ∈ l → d.counter ≠ c.counter) (hw : t.pdp = s.pdp) (hfree : Config.nodeSampled t.free = Config.nodeSampled s.free) :
    t.nodeOccupied c p n = s.nodeOccupied c p n := by
  have hread : ∀ d i m, t.nodeRead d i m = s.nodeRead d i m := fun d i m => by rw [State.nodeRead, State.nodeRead, hw, hfree]
  simp only [State.nodeOccupied, hs, ht, takeWhile_before hy hl, takeWhile_before hy' hl, hread]

theorem State.edgeNoted_captures {s : State} {c : Capture} {l r : List Capture} (e : Edge) (hc : s.ets.captures = l ++ c :: r)
    (hl : ∀ d, d ∈ l → d.counter ≠ c.counter) (hr : ∀ d, d ∈ r → d.counter ≠ c.counter) :
    (s.edgeNoted c e).ets = { s.ets with captures := l ++ { c with launched := c.launched ++ [e] } :: r } :=
  State.onCapture_at (fun x => { x with launched := x.launched ++ [e] }) hc rfl hl hr

/-- A transfer is counted as suppressed where its node is occupied, with the free value as it stood before it. -/
theorem State.launchEdge_sliceDrops {s : State} {c : Capture} {l r : List Capture} (p k : Nat) (n : Node)
    (hc : s.ets.captures = l ++ c :: r) (hl : ∀ d, d ∈ l → d.counter ≠ c.counter) (hr : ∀ d, d ∈ r → d.counter ≠ c.counter) :
    (s.launchEdge c (.transferRise p k n)).ets.sliceDrops =
      if s.nodeOccupied c p n then s.ets.sliceDrops + 1 else s.ets.sliceDrops := by
  have hnoted := State.edgeNoted_captures (.transferRise p k n) hc hl hr
  have hocc : (s.edgeNoted c (.transferRise p k n)).nodeOccupied c p n = s.nodeOccupied c p n :=
    State.nodeOccupied_congr p n hc (congrArg Ets.captures hnoted) rfl rfl hl rfl rfl
  rw [State.launchEdge_eq, State.edgeEffect, hocc]
  split <;> rfl

theorem State.launchEdge_t0 {s : State} {c : Capture} {l r : List Capture} (m : Word64) (hc : s.ets.captures = l ++ c :: r)
    (hl : ∀ d, d ∈ l → d.counter ≠ c.counter) (hr : ∀ d, d ∈ r → d.counter ≠ c.counter) :
    (s.launchEdge c (.t0 m)).ets.lastT0 = m ∧ (s.launchEdge c (.t0 m)).ets.started = some c.counter ∧
    (s.launchEdge c (.t0 m)).ets.capturesTotal = s.ets.capturesTotal + 1 ∧ (s.launchEdge c (.t0 m)).ets.coCount = 0 := by
  rw [State.launchEdge_eq, State.edgeEffect, State.launchT0_ets, State.edgeNoted_captures _ hc hl hr]
  exact ⟨rfl, rfl, rfl, rfl⟩

/-- A due edge is launched on the first capture for which it is due. -/
theorem exec_comparatorEdge {s : State} {e : Edge} {c : Capture} {l r : List Capture} (hp : s.powered 55 = true) (hrun : s.pwr.run = none)
    (hc : s.ets.captures = l ++ c :: r) (hl : ∀ d, d ∈ l → s.edgeDue d e = false) (htick : c.edgeTick e = some s.clk.ticks)
    (hnew : ∀ d, d ∈ c.launched → edgeSame d e = false) (ht0 : ∀ m, e = .t0 m → ((m.toNat : Int) - s.clk.time.toNat).natAbs ≤ 3) :
    exec (.comparatorEdge e) s = .next (s.launchEdge c e) := by
  simp only [exec, execComparatorEdge, hp, State.closing, hrun, State.find_edgeDue hc hl htick hnew ht0]
  rfl

/-- The one clause of O20 that reads a free value asks for it after the transfer's own count, where the model takes the one before. -/
theorem comparatorEdges_of_constant (hfree : ∀ n, Config.nodeSampled (n + 1) = Config.nodeSampled n) : Obligations.ComparatorEdges := by
  intro s e c l r hp hrun hc hl hr htick hnew ht0
  have hl' : ∀ d, d ∈ l → d.counter ≠ c.counter := fun d hd => (hl d hd).2
  have hexec := exec_comparatorEdge hp hrun hc (fun d hd => (hl d hd).1) htick hnew ht0
  have hnoted := State.edgeNoted_captures e hc hl' hr
  obtain ⟨x, hx, hlaunched, hcounter, hreleased, hquads, hviews, hdate, hclose⟩ :=
    State.edgeEffect_capture (c := c) e (congrArg Ets.captures hnoted) rfl hl' hr
  refine ⟨s.launchEdge c e, x, hexec, hx, hlaunched, hcounter, hreleased, hquads, hviews, ?t0, ?close, ?drops, by simp, by simp, by simp,
    by simp, by simp, by simp, by simp, by simp, by simp, by simp⟩
  case t0 =>
    rintro m rfl
    exact ⟨hdate m rfl, State.launchEdge_t0 m hc hl' hr⟩
  case close =>
    rintro rfl
    exact ⟨hclose rfl, rfl⟩
  case drops =>
    rintro p k n rfl
    have hocc : ({ s with free := s.free + 1 } : State).nodeOccupied c p n = s.nodeOccupied c p n :=
      State.nodeOccupied_congr p n hc hc rfl rfl hl' rfl (hfree s.free)
    rw [State.launchEdge_sliceDrops p k n hc hl' hr, hocc]

/-! ### A state that tells the two free values apart -/

/-- The use of profile 1, whose only tile is tile 0. -/
def probeUse : ProfileUse :=
  { profile := 1, slices := 1, ea := 125000, eb := 0, period := 125003, spacing := 0, gain := 0, span := 125000, offset := 0 }

/-- A capture of quadrant 0 whose transfer rises at tick 125,000 after `t0Tick` less 5. -/
def probeCapture (counter : Word64) (t0Tick : Nat) : Capture :=
  { counter := counter, index := 0, kind := 0, align := 0, triggered := false, chargeBin := false, t0Tick := t0Tick, smax := 125000
    interval := 448, quads := 1, segs := 1, profiles := [probeUse], tilemap := [(0, 1)] }

/-- The capture that fills node A of tile 0, which its last conversion has not left. -/
def probeOlder : Capture := { probeCapture 4 0 with launched := [.transferRise 1 0 .a] }

/-- Its last row-quad converts while the next capture's transfer rises, with `n` free values taken. -/
def probe (n : Nat) : State :=
  { State.reset with
    free := n
    clk := { State.reset.clk with ticks := 1124995 }
    pwr := { State.reset.pwr with domains := 0x80000000000000 }
    ets := { captures := [probeOlder, probeCapture 5 1000000] }
    pdp := { waiting := [{ capture := 4, position := lastQuad 1 false 0, tick := 0 }] } }

theorem probe_read (n : Nat) : (probe n).nodeRead probeOlder (lastQuad 1 false 0) .a = Config.nodeSampled n := by
  simp [State.nodeRead, probe, probeOlder, probeCapture, Capture.before]

/-- Only tile 0 has profile 1. -/
theorem probe_tile {t : Nat} (h : spGet 0 t [(0, 1)] = 1) : t = 0 := by
  simp only [spGet] at h
  split at h
  · assumption
  · cases h

/-- The node is occupied exactly where the free value says that its signal level was not sampled. -/
theorem probe_occupied (n : Nat) : (probe n).nodeOccupied (probeCapture 5 1000000) 1 .a = !Config.nodeSampled n := by
  have hbefore : (probe n).ets.captures.takeWhile (fun d => d.counter != (probeCapture 5 1000000).counter) = [probeOlder] := rfl
  have hread : (probe n).nodeRead probeOlder (lastQuad probeOlder.quads probeOlder.chargeBin (0 / 24)) .a = Config.nodeSampled n :=
    probe_read n
  rw [State.nodeOccupied, hbefore, Bool.eq_iff_iff]
  simp only [List.any_eq_true, Bool.and_eq_true, decide_eq_true_eq, Bool.not_eq_true', List.mem_singleton, exists_eq_left]
  constructor
  · rintro ⟨t, -, ht, -, hnot⟩
    cases probe_tile ht
    exact hread.symm.trans hnot
  · exact fun hnot => ⟨0, by decide, rfl, by decide, hread.trans hnot⟩

/-- The hypotheses of O20 hold of the probe, so O20 says that two free values that follow one another are the same. -/
theorem constant_of_comparatorEdges (h : Obligations.ComparatorEdges) (n : Nat) : Config.nodeSampled (n + 1) = Config.nodeSampled n := by
  have hl : ∀ d, d ∈ [probeOlder] → (probe n).edgeDue d (.transferRise 1 0 .a) = false ∧ d.counter ≠ (probeCapture 5 1000000).counter :=
    fun d hd => by
      cases List.mem_singleton.1 hd
      exact ⟨rfl, by decide⟩
  have hp : (probe n).powered 55 = true := (by decide : BitVec.getLsbD (0x80000000000000 : BitVec 56) 55 = true)
  obtain ⟨t, -, hexec, -, -, -, -, -, -, -, -, hdrops, -⟩ :=
    h (probe n) (.transferRise 1 0 .a) (probeCapture 5 1000000) [probeOlder] [] hp rfl rfl hl nofun rfl nofun nofun
  have hmodel := exec_comparatorEdge (s := probe n) (c := probeCapture 5 1000000) (r := []) hp rfl rfl (fun d hd => (hl d hd).1) rfl nofun
    nofun
  have ht : (probe n).launchEdge (probeCapture 5 1000000) (.transferRise 1 0 .a) = t := Host.Outcome.next.inj (hmodel.symm.trans hexec)
  have hcount := State.launchEdge_sliceDrops (s := probe n) (c := probeCapture 5 1000000) (r := []) 1 0 .a rfl (fun d hd => (hl d hd).2) nofun
  have hsame := (hcount.symm.trans (congrArg (fun s : State => s.ets.sliceDrops) ht)).trans (hdrops 1 0 .a rfl)
  have hnext : ({ probe n with free := (probe n).free + 1 } : State) = probe (n + 1) := rfl
  have hnone : (probe n).ets.sliceDrops = 0 := rfl
  rw [hnext, probe_occupied, probe_occupied, hnone] at hsame
  generalize Config.nodeSampled n = b, Config.nodeSampled (n + 1) = b' at hsame
  revert hsame b b'
  decide

/-- O20 holds exactly where the free value of log 13 never changes from one count to the next. `Config.nodeSampled` is opaque, so neither O20
nor its negation follows: its clause on suppressed transfers asks for the value after the transfer's own count, and the model takes the one
before; its other clauses hold. -/
theorem comparatorEdges_iff : Obligations.ComparatorEdges ↔ ∀ n, Config.nodeSampled (n + 1) = Config.nodeSampled n :=
  ⟨constant_of_comparatorEdges, comparatorEdges_of_constant⟩

end Sys2Proof.Machine
